-- ==== Sys2Proof/Word.lean ====
section
/-! DEFINITION. The word and byte types of the node: the native word is 40 bits, a byte is 8 (R4). -/

namespace Sys2Proof

/-- The native word of the node: 40 bits (R4, R10). -/
abbrev Word := BitVec 40

/-- One byte of a word or of a byte stream (R4, R6). -/
abbrev Byte := BitVec 8

end Sys2Proof
end

