-- ==== Sys2Proof/Syntax.lean ====
section
/-! DEFINITION. The commands of the block: one constructor per row of the spec's table of operations and events, with
the operands that come from outside the node (levels, samples, frames, register words, measured results). -/

namespace Sys2Proof

/-- The path by which a host access reaches a register (R369, R285, R325). -/
inductive Path where
  | service
  | link
  | mover (n : Fin 8)
deriving DecidableEq, Repr

/-- One frame of the group converters: a channel's current in mA and the drive supply in mV (R150).
(log 173: DESIGN CHOICE, safe.) -/
structure Sample where
  cur : Int
  vdrv : Nat
deriving DecidableEq, Repr

/-- A coefficient write that completes while a control sample runs: the number of coefficient fetches of the sample that have
begun by its core clock, the place in the matrices, and the word (R226). (log 190: DESIGN CHOICE, safe.) -/
structure CoefWrite where
  begun : Nat
  k : Fin 3
  r : Fin 10
  c : Fin 14
  v : Word
deriving DecidableEq, Repr

/-- What a control sample takes in beside the PW supplies: the codes of AI0 to AI7, and the coefficient writes that complete
while it runs, in order (R218, R226). -/
structure StrobeIn where
  codes : List (BitVec 16)
  mid : List CoefWrite
deriving DecidableEq, Repr

/-- A frame received, with the core clocks from the previous command to its end, the RATE and NBYTE of its FC (Table 12-3),
and the SNR in units of 0.25 dB (Table 12-4). FC and CRC have passed their checks in every row but FRAME_CHECK_FAILURE; CLASS
is that of the row. (log 173: DESIGN CHOICE, safe.) -/
structure Frame where
  gap : Nat
  rate : Fin 8
  nbyte : Fin 512
  sysid : BitVec 32
  src : Fin 64
  dst : Fin 64
  bc : Bool
  cls : Fin 16
  seq : BitVec 16
  keyid : Fin 4
  payload : List Byte
  tag : BitVec 64
  snr : Nat
deriving DecidableEq, Repr

/-- What a tracking channel measures at an epoch: elevation in degrees, C/N0 in dB-Hz, whether it decodes navigation data,
whether the test correlators at ±0.5 chip outweigh the prompt one (−1, 0 or 1; R91), the satellite's position at the time of
transmission (earth-centred and earth-fixed, in mm), the corrected pseudorange in mm, the change of its carrier range since
the last epoch with a fix in µm and its carrier-Doppler range rate in µm/s, both less the satellite's own part (R93, R99,
R100). (log 88: DESIGN CHOICE, safe; log 173: DESIGN CHOICE, safe.) -/
structure ChMeas where
  n : Fin 48
  el : Nat
  cn0 : Nat
  nav : Bool
  side : Int
  sx : Int
  sy : Int
  sz : Int
  rho : Int
  dph : Int
  dop : Int
deriving DecidableEq, Repr

/-- An SBAS message: the channel that received it, its type, and what it says of one satellite: its SV code, a correction to
its pseudorange in mm, and whether it marks it "do not use" (R83). (log 176: DESIGN CHOICE, safe.) -/
structure SbasMsg where
  n : Fin 48
  type : Nat
  sv : Nat
  corr : Int
  dnu : Bool
deriving DecidableEq, Repr

/-- The measurements of a fix epoch: the channels, the SBAS messages since the last epoch, and from the navigation data the
whole seconds of GPS time at the epoch and GPS − UTC (R31). (log 88: DESIGN CHOICE, safe; log 173: DESIGN CHOICE, safe.) -/
structure FixMeas where
  chans : List ChMeas
  sbas : List SbasMsg
  gps : Nat
  leap : Nat
deriving DecidableEq, Repr

/-- The highest peak of an acquisition search: its ratio to the mean in units of 0.25 dB, its Doppler as a number of bins
from the centre of the search, and its code phase in units of 0.25 chip (R90). (log 173: DESIGN CHOICE, safe.) -/
structure Peak where
  ratio : Nat
  bin : Int
  chip : Int
deriving DecidableEq, Repr

/-- A bin of the spectrum above the median: its number, its power above the median in units of 0.125 dB, and the frequency
found in it, from L1 in units of 100 Hz (R87). -/
structure SpecBin where
  bin : Fin 256
  pwr : Nat
  freq : Int
deriving DecidableEq, Repr

/-- An integer candidate of a snapshot's search (R111): the residual of its baseline, and the position of the tower antenna
east and north of the head antenna in mm. -/
structure IntCand where
  resid : Nat
  east : Int
  north : Int
deriving DecidableEq, Repr

/-- What the correlation of a snapshot gives (R111): the head's tracking channels whose satellites were correlated, with the
strength of each peak in dB-Hz, and the integer candidates of the double differences.
(log 88: DESIGN CHOICE, safe; log 173: DESIGN CHOICE, safe.) -/
structure SnapFix where
  peaks : List (Fin 48 × Nat)
  cands : List IntCand
deriving DecidableEq, Repr


/-- The commands of the block, one constructor per row of the spec's table of operations and events, in its order.
(log 173: DESIGN CHOICE, safe.) -/
inductive Instr where
  /-- POWER_ON_RESET (R372) -/
  | powerOnReset
  /-- BROWNOUT_RESET (R372) -/
  | brownoutReset
  /-- EXTERNAL_RESET (R372) -/
  | externalReset
  /-- WATCHDOG_RESET (R372) -/
  | watchdogReset
  /-- HOST_COMMAND_RESET (R372) -/
  | hostCommandReset (p : Path) (v : Word)
  /-- CLOCK_FAILURE_RESET (R372) -/
  | clockFailureReset
  /-- MARCH_TEST_COMPLETE (R353) -/
  | marchTestComplete (rows : List Nat) (bytes : List Nat)
  /-- FLASH_IDENTIFICATION (R376) -/
  | flashIdentification (id : BitVec 24)
  /-- HELD_BOOT_BAND_SWITCH (R378) -/
  | heldBootBandSwitch
  /-- IMAGE_PASS_1 (R377) -/
  | imagePass1
  /-- OWNER_SIGNATURE_CHECK (R427) -/
  | ownerSignatureCheck
  /-- IMAGE_PASS_2 (R377) -/
  | imagePass2
  /-- OWNER_RECORD (R418) -/
  | ownerRecord
  /-- ENROLL_RECORD (R420) -/
  | enrollRecord
  /-- XFER_RECORD (R421) -/
  | xferRecord
  /-- RELEASE_RECORD (R295) -/
  | releaseRecord
  /-- SCOPE_RECORD (R419) -/
  | scopeRecord
  /-- REGS_RECORD (R422) -/
  | regsRecord
  /-- WINDOW_RECORD (R423) -/
  | windowRecord
  /-- LIMITS_RECORD (R424) -/
  | limitsRecord
  /-- MAP_RECORD (R425) -/
  | mapRecord
  /-- PAD_RECORD (R418) -/
  | padRecord
  /-- LEDGER_SCAN (R265) -/
  | ledgerScan
  /-- END_OF_BOOT (R379) -/
  | endOfBoot (aiMode : BitVec 8)
  /-- SCHEDULER_TICK (R130) -/
  | schedulerTick
  /-- PROFILE_PUBLICATION (R134) -/
  | profilePublication
  /-- GRACE_CLOSE (R141) -/
  | graceClose
  /-- UNIFORM_PERIOD_START (R143) -/
  | uniformPeriodStart
  /-- PUSH_START (R125) -/
  | pushStart (p : Path) (v : Word)
  /-- PUSH_CONTINUE (R125) -/
  | pushContinue (p : Path) (v : Word)
  /-- RING_POP (R137) -/
  | ringPop (p : Path)
  /-- QUEUE_FLUSH (R135) -/
  | queueFlush (q : Fin 64) (v : Word)
  /-- QUEUE_DISABLE (R138) -/
  | queueDisable (q : Fin 64) (v : Word)
  /-- QUEUE_ENABLE (R138) -/
  | queueEnable (q : Fin 64) (v : Word)
  /-- FLUSH_COMPLETE (R135) -/
  | flushComplete (q : Fin 64)
  /-- MAP_SWAP_ARM (R140) -/
  | mapSwapArm (v : Word)
  /-- ENCODER_EDGE (R53) -/
  | encoderEdge (n : Fin 4) (a : Bool) (b : Bool) (gap : Nat)
  /-- INDEX_EDGE (R56) -/
  | indexEdge (n : Fin 4) (a : Bool) (b : Bool) (gap : Nat)
  /-- INDEX_ARM (R57) -/
  | indexArm (n : Fin 4) (v : Word)
  /-- LINE_BREAK (R51) -/
  | lineBreak (n : Fin 4)
  /-- SOURCE_INVALID (R65) -/
  | sourceInvalid
  /-- BEACON_LOSS (R21) -/
  | beaconLoss
  /-- STANDSTILL_ASSERT (R75) -/
  | standstillAssert
  /-- SSI_READ_START (R59) -/
  | ssiReadStart (n : Fin 2)
  /-- SSI_READ_COMPLETE (R61) -/
  | ssiReadComplete (n : Fin 2) (low : Bool) (data : Nat) (par : Bool)
  /-- PRIMARY_SOURCE_WRITE (R67) -/
  | primarySourceWrite (v : Word)
  /-- TRV_OFFSET_WRITE (R45) -/
  | trvOffsetWrite (v : Word)
  /-- TRV_BIAS_WRITE (R68) -/
  | trvBiasWrite (v : Word)
  /-- MS_SAMPLE (R77) -/
  | msSample (raw : BitVec 8)
  /-- DUAL_CHANNEL_CONFIG_WRITE (R453) -/
  | dualChannelConfigWrite (m : Fin 4) (v : Word)
  /-- HOLDOVER_ENTRY (R42) -/
  | holdoverEntry
  /-- HOLDOVER_EXPIRED (R42) -/
  | holdoverExpired
  /-- BEACON (R41) -/
  | beacon (f : Frame)
  /-- BEACON_TRANSMIT (R276) -/
  | beaconTransmit (wait : Nat)
  /-- FIX_EPOCH (R93) -/
  | fixEpoch (m : FixMeas)
  /-- ANCHOR_WRITE (R99) -/
  | anchorWrite (v : Word)
  /-- ANTENNA_FAULT (R85) -/
  | antennaFault (ua : Nat)
  /-- ANTENNA_BIAS_RETRY (R85) -/
  | antennaBiasRetry (ua : Nat)
  /-- SPECTRAL_MONITOR (R87) -/
  | spectralMonitor (bins : List SpecBin)
  /-- JAM_UPDATE (R88) -/
  | jamUpdate (gcal : Int) (g : Int)
  /-- ACQUISITION_DETECTION (R90) -/
  | acquisitionDetection (sv : Nat) (el : Nat) (cn0 : Nat) (ratio : Peak) (confirm : Peak)
  /-- CYCLE_SLIP (R92) -/
  | cycleSlip (n : Fin 48) (ind : Nat)
  /-- LOSS_OF_LOCK (R92) -/
  | lossOfLock (n : Fin 48) (cn0 : Nat)
  /-- SNAPSHOT_REQUEST (R103) -/
  | snapshotRequest (f : Frame)
  /-- FRONT_END_POWER_UP (R104) -/
  | frontEndPowerUp
  /-- CAPTURE_START (R104) -/
  | captureStart
  /-- CAPTURE_COMPLETE (R107) -/
  | captureComplete (samples : List (BitVec 8 × BitVec 8))
  /-- SNAPSHOT_SPACE_RELEASE (R105) -/
  | snapshotSpaceRelease
  /-- LOCAL_SNAPSHOT_REQUEST (R117) -/
  | localSnapshotRequest (v : Word)
  /-- SNAPSHOT_SERVICE_TURN (R109) -/
  | snapshotServiceTurn
  /-- SNAPSHOT_SEGMENT (R110) -/
  | snapshotSegment (f : Frame)
  /-- REASSEMBLY_TIMEOUT (R110) -/
  | reassemblyTimeout (k : Fin 64)
  /-- SNAPSHOT_PROCESSING (R111) -/
  | snapshotProcessing (x : SnapFix)
  /-- ZEROCAL (R114) -/
  | zerocal (v : Word)
  /-- GEOMETRY_STALE (R115) -/
  | geometryStale (k : Fin 64)
  /-- SPAN_OFFSET_SEND (R20) -/
  | spanOffsetSend (k : Fin 64) (gap : Nat)
  /-- OFFSET (R45) -/
  | offset (f : Frame)
  /-- CAPTURE_EDGE (R152) -/
  | captureEdge (n : Fin 48) (ss : List Sample)
  /-- OFF_STATE_OPEN_TEST (R162) -/
  | offStateOpenTest (n : Fin 48) (high : Bool)
  /-- ARMATURE_RESULT (R158) -/
  | armatureResult (n : Fin 48) (ss : List Sample)
  /-- CLOSE_DETECTION_RESULT (R159) -/
  | closeDetectionResult (n : Fin 48) (ss : List Sample)
  /-- LATENCY_ESTIMATE_WRITE (R201) -/
  | latencyEstimateWrite (n : Fin 48) (v : Word)
  /-- LATENCY_BAND_WRITE (R199) -/
  | latencyBandWrite (n : Fin 48) (v : Word)
  /-- RESISTANCE_MEASUREMENT (R191) -/
  | resistanceMeasurement (n : Fin 48) (ss : List Sample)
  /-- OVERCURRENT_TRIP (R161) -/
  | overcurrentTrip (n : Fin 48)
  /-- GROUP_CONDITION_ASSERT (R163) -/
  | groupConditionAssert (g : Fin 6) (c : Fin 3) (x : List Nat)
  /-- GROUP_CONDITION_END (R163) -/
  | groupConditionEnd (g : Fin 6) (c : Fin 3) (x : List Nat)
  /-- OFF_TIME_END (R157) -/
  | offTimeEnd (n : Fin 48)
  /-- SAFECLR (R164) -/
  | safeclr (n : Fin 48) (v : Word)
  /-- PAIR_WRITE (R146) -/
  | pairWrite (n : Fin 48) (v : Word)
  /-- END_INSTRUCTION (R181) -/
  | endInstruction (n : Fin 48)
  /-- DRIVE_INSTRUCTION (R175) -/
  | driveInstruction (n : Fin 48)
  /-- HOLD_INSTRUCTION (R176) -/
  | holdInstruction (n : Fin 48)
  /-- WAIT_INSTRUCTION (R177) -/
  | waitInstruction (n : Fin 48)
  /-- WAIT_END (R177) -/
  | waitEnd (n : Fin 48) (ss : List Sample)
  /-- DECAY_INSTRUCTION (R178) -/
  | decayInstruction (n : Fin 48)
  /-- REVERSE_INSTRUCTION (R179) -/
  | reverseInstruction (n : Fin 48)
  /-- REVERSE_COMPLETE (R179) -/
  | reverseComplete (n : Fin 48) (ss : List Sample)
  /-- REVERSE_TIMEOUT (R179) -/
  | reverseTimeout (n : Fin 48) (ss : List Sample)
  /-- BRANCH_INSTRUCTION (R180) -/
  | branchInstruction (n : Fin 48)
  /-- CLOSE_PROGRAM_TIMEOUT (R182) -/
  | closeProgramTimeout (n : Fin 48)
  /-- SHAPE_STORE_WRITE (R186) -/
  | shapeStoreWrite (p : Path) (g : Fin 6) (w : Fin 1024) (v : Word)
  /-- MODEL_UPDATE (R188) -/
  | modelUpdate
  /-- AMBIENT_SENSOR_WRITE (R188) -/
  | ambientSensorWrite (t : Int)
  /-- CONTROL_SAMPLE (R218) -/
  | controlSample (ai : StrobeIn) (vpw0 : Nat) (vpw1 : Nat)
  /-- FREEZE (R221) -/
  | freeze (k : Fin 3) (v : Word)
  /-- STAGE_ENABLE (R223) -/
  | stageEnable (k : Fin 3) (v : Word)
  /-- COEFFICIENT_WRITE (R226) -/
  | coefficientWrite (p : Path) (k : Fin 3) (r : Fin 10) (c : Fin 14) (v : Word)
  /-- STRUCTURE_FIELD_WRITE (R225) -/
  | structureFieldWrite (p : Path) (a : BitVec 24) (v : Word)
  /-- FOLLOWING_ERROR (R229) -/
  | followingError (ai : StrobeIn) (vpw0 : Nat) (vpw1 : Nat)
  /-- TRACE_DONE (R235) -/
  | traceDone (ai : StrobeIn) (vpw0 : Nat) (vpw1 : Nat)
  /-- TRACE_ARM (R235) -/
  | traceArm (b : Fin 2) (v : Word)
  /-- TRACE_FORCE (R235) -/
  | traceForce (b : Fin 2) (v : Word)
  /-- TRACE_STOP (R235) -/
  | traceStop (b : Fin 2) (v : Word)
  /-- INJECTION_GO (R239) -/
  | injectionGo (v : Word)
  /-- INJECTION_STOP (R242) -/
  | injectionStop (v : Word)
  /-- INJECTION_END (R240) -/
  | injectionEnd (ai : StrobeIn) (vpw0 : Nat) (vpw1 : Nat)
  /-- PW_PERIOD_EDGE (R443) -/
  | pwPeriodEdge
  /-- PW_OVERCURRENT (R443) -/
  | pwOvercurrent (k : Fin 2)
  /-- FLOWMETER_PULSE (R440) -/
  | flowmeterPulse (k : Fin 2) (gap : Nat)
  /-- METERING_UPDATE (R249) -/
  | meteringUpdate
  /-- DAY_BOUNDARY (R251) -/
  | dayBoundary
  /-- RECONCILIATION (R252) -/
  | reconciliation
  /-- LIMIT_WRITE (R257) -/
  | limitWrite (p : Path) (a : BitVec 24) (v : Word)
  /-- COMMIT_REQUEST (R260) -/
  | commitRequest (p : Path) (v : Word)
  /-- COMMIT_PERIOD_EXPIRY (R260) -/
  | commitPeriodExpiry
  /-- COMMIT_START (R261) -/
  | commitStart
  /-- SECTOR_ERASE_COMPLETE (R261) -/
  | sectorEraseComplete
  /-- LEDGER_CAPTURE (R261) -/
  | ledgerCapture
  /-- RECORD_SIGNED (R259) -/
  | recordSigned
  /-- RECORD_PROGRAMMED (R261) -/
  | recordProgrammed
  /-- MARKER_PROGRAMMED (R261) -/
  | markerProgrammed
  /-- READBACK_COMPARE (R261) -/
  | readbackCompare (same : Bool)
  /-- COMMIT_STEP_TIMEOUT (R263) -/
  | commitStepTimeout
  /-- LEDGER_READ (R414) -/
  | ledgerRead (p : Path)
  /-- PRESSURE_BROADCAST (R277) -/
  | pressureBroadcast
  /-- FRAME_TRANSMIT (R279) -/
  | frameTransmit (ring : Fin 2) (busy : Nat)
  /-- ACK_WAIT_TIMEOUT (R280) -/
  | ackWaitTimeout (dst : Fin 64)
  /-- ACK (R280) -/
  | ack (f : Frame)
  /-- RETRY_WAIT_EXPIRY (R280) -/
  | retryWaitExpiry (dst : Fin 64)
  /-- ENERGY_SENSE_IGNORE (R278) -/
  | energySenseIgnore (noise : Nat)
  /-- ENERGY_SENSE_RESTORE (R278) -/
  | energySenseRestore (noise : Nat)
  /-- WRITE (R285) -/
  | write (f : Frame)
  /-- LINK_WRITE_EXECUTION (R285) -/
  | linkWriteExecution
  /-- READ (R287) -/
  | read (f : Frame)
  /-- LINK_READ_EXECUTION (R287) -/
  | linkReadExecution
  /-- RDATA (R287) -/
  | rdata (f : Frame)
  /-- PUSH (R288) -/
  | push (f : Frame)
  /-- ERR (R286) -/
  | err (f : Frame)
  /-- PROFILE (R210) -/
  | profile (f : Frame)
  /-- PRESSURE (R277) -/
  | pressure (f : Frame)
  /-- RAWREP (R251) -/
  | rawrep (f : Frame)
  /-- CF (R253) -/
  | cf (f : Frame)
  /-- HOLDCMD (R277) -/
  | holdcmd (f : Frame)
  /-- HOST_SEND (R289) -/
  | hostSend (v : Word)
  /-- CERTREQ (R298) -/
  | certreq (f : Frame)
  /-- CERTSEG (R298) -/
  | certseg (f : Frame)
  /-- PROOF (R298) -/
  | proof (f : Frame)
  /-- CERTREQ_COMMAND (R298) -/
  | certreqCommand (v : Word)
  /-- REKEY_COMMAND (R301) -/
  | rekeyCommand (v : Word)
  /-- GREKEY_COMMAND (R303) -/
  | grekeyCommand (v : Word)
  /-- KEY_EXCHANGE_INITIATE (R301) -/
  | keyExchangeInitiate (q : Fin 64)
  /-- REKEY_PERIOD_EXPIRY (R301) -/
  | rekeyPeriodExpiry (q : Fin 64)
  /-- KX1 (R301) -/
  | kx1 (f : Frame)
  /-- KX2 (R300) -/
  | kx2 (f : Frame)
  /-- KX3 (R302) -/
  | kx3 (f : Frame)
  /-- KX4 (R302) -/
  | kx4 (f : Frame)
  /-- KEYX_ANSWER_TIMEOUT (R301) -/
  | keyxAnswerTimeout (q : Fin 64)
  /-- OLD_GENERATION_DISCARD (R302) -/
  | oldGenerationDiscard (q : Fin 64)
  /-- GKEY (R303) -/
  | gkey (f : Frame)
  /-- GROUP_KEY_SWITCH (R303) -/
  | groupKeySwitch
  /-- GROUP_KEY_DISCARD (R303) -/
  | groupKeyDiscard
  /-- ARBITRATION_WAIT_EXPIRY (R312) -/
  | arbitrationWaitExpiry
  /-- REPLICATION_CAPTURE (R313) -/
  | replicationCapture
  /-- EPOCH_DATA (R315) -/
  | epochData (f : Frame)
  /-- MANIFEST (R315) -/
  | manifest (f : Frame)
  /-- FENCE (R320) -/
  | fence (f : Frame)
  /-- HANDOVER (R322) -/
  | handover (f : Frame)
  /-- HANDOVER_COMMAND (R322) -/
  | handoverCommand (v : Word)
  /-- PULSE_LATCH (R316) -/
  | pulseLatch
  /-- FAILOVER_TIMEOUT (R317) -/
  | failoverTimeout
  /-- DESCRIPTOR_START (R332) -/
  | descriptorStart (n : Fin 8) (v : Word)
  /-- DESCRIPTOR_BOUNDARY (R333) -/
  | descriptorBoundary (n : Fin 8)
  /-- CHAIN_STOP (R336) -/
  | chainStop (n : Fin 8) (v : Word)
  /-- PATROL_READ (R354) -/
  | patrolRead
  /-- PATROL_ENABLE (R355) -/
  | patrolEnable (v : Word)
  /-- DIAGNOSTIC_WRITE (R350) -/
  | diagnosticWrite (v : Word)
  /-- DIAGNOSTIC_READ (R350) -/
  | diagnosticRead (v : Word)
  /-- RAW_TRANSFER_GO (R363) -/
  | rawTransferGo (v : Word)
  /-- PERIPHERAL_TRANSACTION_END (R358) -/
  | peripheralTransactionEnd (rx : List (BitVec 32))
  /-- PROGRAM_POLL (R361) -/
  | programPoll (busy : Bool)
  /-- FLASH_PROGRAM_TIMEOUT (R361) -/
  | flashProgramTimeout
  /-- SERVICE_NOP (R366) -/
  | serviceNop (gap : Nat) (mode3 : Bool) (a : BitVec 24) (d : Word)
  /-- SERVICE_READ (R369) -/
  | serviceRead (gap : Nat) (mode3 : Bool) (a : BitVec 24) (d : Word)
  /-- SERVICE_WRITE (R369) -/
  | serviceWrite (gap : Nat) (mode3 : Bool) (a : BitVec 24) (d : Word)
  /-- REFUSED_COMMAND (R366) -/
  | refusedCommand (gap : Nat) (mode3 : Bool) (cmd : Byte) (a : BitVec 24)
  /-- ABORTED_FRAME (R367) -/
  | abortedFrame (gap : Nat) (mode3 : Bool)
  /-- BUSY_FRAME (R367) -/
  | busyFrame (gap : Nat) (mode3 : Bool) (len : Nat)
  /-- HOLD_COMMAND (R380) -/
  | holdCommand (p : Path)
  /-- COMMISSION_COMMAND (R380) -/
  | commissionCommand (p : Path)
  /-- PRESCRIBE_COMMAND (R380) -/
  | prescribeCommand (p : Path)
  /-- UNIFORM_COMMAND (R380) -/
  | uniformCommand (p : Path)
  /-- FERTIGATE_COMMAND (R381) -/
  | fertigateCommand (p : Path)
  /-- DORMANT_COMMAND (R380) -/
  | dormantCommand (p : Path)
  /-- DORMANT_CLOCK_GATING (R387) -/
  | dormantClockGating
  /-- WAKE_TIME (R389) -/
  | wakeTime
  /-- IDLE_TIMEOUT (R391) -/
  | idleTimeout
  /-- SCHEDULED_DORMANCY (R391) -/
  | scheduledDormancy
  /-- FAULT_CLEAR (R402) -/
  | faultClear (v : Word)
  /-- FAULT_CONFIG_WRITE (R400) -/
  | faultConfigWrite (src : Fin 64) (v : Word)
  /-- CERTIFICATE_READ (R414) -/
  | certificateRead (p : Path)
  /-- REGISTER_WRITE (R10) -/
  | registerWrite (p : Path) (a : BitVec 24) (v : Word)
  /-- CLOCK_RECOVERY (R372) -/
  | clockRecovery
  /-- BOOT_COMMAND (R380) -/
  | bootCommand (p : Path)
  /-- LIMP_COMMAND (R380) -/
  | limpCommand (p : Path)
  /-- FRAME_CHECK_FAILURE (R283) -/
  | frameCheckFailure (fc : BitVec 8) (crc : BitVec 32) (f : Frame)
  /-- LINE_BREAK_END (R51) -/
  | lineBreakEnd (n : Fin 4)
  /-- ANTENNA_FAULT_END (R85) -/
  | antennaFaultEnd (ua : Nat)
  /-- GROUP_REKEY_PERIOD_EXPIRY (R303) -/
  | groupRekeyPeriodExpiry
  /-- RESERVED_OPCODE (R174) -/
  | reservedOpcode (n : Fin 48)
deriving DecidableEq, Repr

end Sys2Proof
end

