-- ==== Sys2Proof/Decode.lean ====
section
/-! DEFINITION. The table gives no row any bits: the node has no instruction words, and commands reach it as register accesses,
frames and events. Every word is therefore rejected. -/

namespace Sys2Proof

/-- The command that a word spells by the table's bits: the table gives none of its rows bits, so no word spells one. -/
def decodeTableWord (_nbits _w : Nat) : Option Instr := none

end Sys2Proof
end

