-- ==== Sys2Proof/Config.lean ====
section
/-! DEFINITION. What the spec leaves open and what is fixed for the individual node: constants without a body, so no
proof can see their values. Each is named in the assumption log. -/

namespace Sys2Proof.Config

/-- The k-th free value drawn (k is the counter `free` of the state): a value the spec says is chosen, random or
unspecified, such as a backoff draw, a nonce, a key, or the rate term that the discipline law picks (R452). -/
opaque freeNat : Nat → Nat

/-- The direction in which an inexact quotient num / den is rounded at a place where the spec names no rounding:
true upward. `site` numbers the place. (log 5: DESIGN CHOICE, safe.) -/
opaque roundUp (site : Nat) (num : Int) (den : Nat) : Bool

/-- The device certificate, fixed at manufacture (R294). (log 4: DESIGN CHOICE, safe.) -/
opaque certDer : List Byte
/-- The number from which manufacture drew the node's private key (R293). (log 4: DESIGN CHOICE, safe.) -/
opaque nodeKey : Nat

/-- The azimuth of a null vector, in units of 2^-100 turn: no direction is defined there (R100, R113).
(log 160: DESIGN CHOICE, safe.) -/
opaque nullAzimuth : Nat

/-- The holdover allowance of R96 in ns past the last point that Table 2-2 lists, by core clocks in HOLDOVER.
(log 91: DEDUCED, unsafe.) -/
opaque holdoverNs : Nat → Nat

/-- Whether the antenna stands to the right of the span line, seen outward, for a positive CROSS (R113).
(log 109: DEDUCED, unsafe.) -/
opaque crossRight : Bool

end Sys2Proof.Config
end

