-- ==== Sys2Proof/Machine/Arith.lean ====
section
/-! DEFINITION. The exact arithmetic the rules use: signed readings of bit fields, the wrap comparison of R33, the
roundings the rules name, saturating counters, and byte strings (R6). -/

namespace Sys2Proof.Machine

/-- The modulus of a 40-bit count (R8). -/
def mod40 : Nat := 2 ^ 40

/-- An integer taken modulo 2^w, as the unsigned value of a w-bit field. -/
def wrapW (w : Nat) (x : Int) : Nat := (x % (2 ^ w : Nat)).toNat

/-- An integer taken modulo 2^40. -/
def wrap40 (x : Int) : Nat := wrapW 40 x

/-- The signed reading of the w-bit two's-complement value `x` (R7). -/
def sx (w x : Nat) : Int := if x % 2 ^ w < 2 ^ (w - 1) then (x % 2 ^ w : Nat) else (x % 2 ^ w : Nat) - (2 ^ w : Nat)

/-- R33: d(a, b) = (a − b) mod 2^40 read as a signed 40-bit value. -/
def dist (a b : Nat) : Int := sx 40 (wrap40 ((a : Int) - b))

/-- The sum of a 40-bit count and a signed amount, modulo 2^40. -/
def add40 (a : Nat) (x : Int) : Nat := wrap40 ((a : Int) + x)

/-- Round `num / den` (den > 0) to the nearest integer, ties away from zero (R39, R44, R54, R122). -/
def roundAway (num : Int) (den : Nat) : Int :=
  if num ≥ 0 then (2 * num + den) / (2 * den) else - ((2 * (-num) + den) / (2 * den))

/-- Division truncating toward zero, the division of the manual's pseudocode. -/
def truncDiv (num : Int) (den : Nat) : Int := Int.tdiv num den

/-- The value in [lo, hi] nearest to `x`. -/
def clampI (lo hi x : Int) : Int := if x < lo then lo else if x > hi then hi else x

/-- The value in [lo, hi] nearest to `x`. -/
def clampN (lo hi x : Nat) : Nat := if x < lo then lo else if x > hi then hi else x

/-- `x` saturated to a signed value of `w` bits (R7). -/
def satS (w : Nat) (x : Int) : Int := clampI (-(2 ^ (w - 1) : Nat)) ((2 ^ (w - 1) : Nat) - 1) x

/-- Saturating sum in a field of `w` bits. -/
def satAdd (w x k : Nat) : Nat := if x + k < 2 ^ w then x + k else 2 ^ w - 1

/-- Bit `i` of `x`. -/
def bitOf (x i : Nat) : Bool := x / 2 ^ i % 2 == 1

/-- 1 for true, 0 for false. -/
def b2n (b : Bool) : Nat := if b then 1 else 0

/-- Bits [hi:lo] of `x` (R4). -/
def bitsOf (x hi lo : Nat) : Nat := x / 2 ^ lo % 2 ^ (hi + 1 - lo)

/-- `x` with bits [hi:lo] replaced by `v` truncated to the field width (corner case of chapter 0). -/
def setBits (x hi lo v : Nat) : Nat :=
  x / 2 ^ (hi + 1) * 2 ^ (hi + 1) + (v % 2 ^ (hi + 1 - lo)) * 2 ^ lo + x % 2 ^ lo

/-- Whether `x` has an odd number of set bits among its low `n`. -/
def parityOf : Nat → Nat → Bool
  | 0, _ => false
  | n + 1, x => xor (x % 2 == 1) (parityOf n (x / 2))

/-- The number of set bits among the low `n` of `x`. -/
def popCount : Nat → Nat → Nat
  | 0, _ => 0
  | n + 1, x => x % 2 + popCount n (x / 2)

/-- The greatest r with r² ≤ n, by bits from `2^k` downward. -/
def isqrtFrom : Nat → Nat → Nat → Nat
  | 0, _, r => r
  | k + 1, n, r => if (r + 2 ^ k) * (r + 2 ^ k) ≤ n then isqrtFrom k n (r + 2 ^ k) else isqrtFrom k n r

/-- Integer square root, for n below 2^128. (log 89: DEDUCED, unsafe.) -/
def isqrt (n : Nat) : Nat := isqrtFrom 64 n 0

/-- `x` as `n` bytes, most significant first (R6). -/
def toBytes : Nat → Nat → List Byte
  | 0, _ => []
  | n + 1, x => BitVec.ofNat 8 (x / 256 ^ n) :: toBytes n x

/-- The number that bytes spell, most significant first (R6). -/
def ofBytes (bs : List Byte) : Nat := bs.foldl (fun a b => a * 256 + b.toNat) 0

/-- Bytes `off` to `off + n − 1` of a byte string, as a number; bytes past the end read 0. -/
def bytesAt (bs : List Byte) (off n : Nat) : Nat :=
  let x := (bs.drop off).take n
  ofBytes x * 256 ^ (n - x.length)

/-- A byte string of exactly `n` bytes: cut, or filled with 0. -/
def padTo (n : Nat) (bs : List Byte) : List Byte := bs.take n ++ List.replicate (n - bs.length) 0

/-- Split a list into pieces of `k`, with fuel for the length. -/
def chunksOf {α : Type} (k : Nat) : Nat → List α → List (List α)
  | 0, _ => []
  | f + 1, l => if l.isEmpty then [] else l.take k :: chunksOf k f (l.drop k)

/-- Five bytes as one word, the first byte in bits [39:32] (R139). -/
def wordOfBytes (bs : List Byte) : Word := BitVec.ofNat 40 (ofBytes (padTo 5 bs))

/-- The words that carry a byte string, five bytes to a word, bytes past the end 0 (R139). -/
def wordsOfBytes (bs : List Byte) : List Word := (chunksOf 5 bs.length bs).map wordOfBytes

/-- The bytes of words, bits [39:32] of each word first. -/
def bytesOfWords (ws : List Word) : List Byte := ws.flatMap (fun w => toBytes 5 w.toNat)

/-- One bit of a CRC register of width `w`, most significant bit first. -/
def crcBit (w poly : Nat) (r : Nat) (b : Bool) : Nat :=
  if xor (bitOf r (w - 1)) b then (r * 2 % 2 ^ w) ^^^ poly else r * 2 % 2 ^ w

/-- One byte into a CRC register, most significant bit first. (log 49: PRESUMED, unsafe.) -/
def crcByte (w poly : Nat) (r : Nat) (b : Byte) : Nat :=
  ((List.range 8).reverse.map (fun i => bitOf b.toNat i)).foldl (crcBit w poly) r

end Sys2Proof.Machine
end

