-- ==== Sys2Proof/Machine/Crypto.lean ====
section
/-! DEFINITION. The cryptographic functions that the spec defines by naming their standards, and what manufacture gives the
node (R259, R274, R293, R294, R300, R303), and the CRCs, which the spec gives whole (R118, R273, R274). -/

namespace Sys2Proof.Machine

open Sys2Proof

/-- CRC-32 with polynomial 04C1_1DB7h as in IEEE 802.3: reflected, initial value and final XOR of all ones. -/
def reflect : Nat → Nat → Nat
  | 0, _ => 0
  | n + 1, x => x % 2 * 2 ^ n + reflect n (x / 2)

/-- The CRC-32 of a byte string. (log 49: PRESUMED, unsafe.) -/
def crc32 (bs : List Byte) : Nat :=
  reflect 32 ((bs.foldl (fun r b => crcByte 32 0x04C11DB7 r (BitVec.ofNat 8 (reflect 8 b.toNat))) 0xFFFFFFFF) ^^^ 0xFFFFFFFF)

/-- Entry `i` of a table of `w`-bit values packed into 256-bit numbers, the first entry highest. -/
def packed (w : Nat) (t : List Nat) (i : Nat) : Nat :=
  let k := 256 / w
  t.getD (i / k) 0 / 2 ^ (w * (k - 1 - i % k)) % 2 ^ w

/-! ### SHA-256, HMAC and HKDF (FIPS 180-4, RFC 2104, RFC 5869; log 51: PRESUMED, unsafe) -/

/-- The round constants of SHA-256. -/
def shaK : List Nat :=
  [0x428a2f9871374491b5c0fbcfe9b5dba53956c25b59f111f1923f82a4ab1c5ed5,
   0xd807aa9812835b01243185be550c7dc372be5d7480deb1fe9bdc06a7c19bf174,
   0xe49b69c1efbe47860fc19dc6240ca1cc2de92c6f4a7484aa5cb0a9dc76f988da,
   0x983e5152a831c66db00327c8bf597fc7c6e00bf3d5a7914706ca635114292967,
   0x27b70a852e1b21384d2c6dfc53380d13650a7354766a0abb81c2c92e92722c85,
   0xa2bfe8a1a81a664bc24b8b70c76c51a3d192e819d6990624f40e3585106aa070,
   0x19a4c1161e376c082748774c34b0bcb5391c0cb34ed8aa4a5b9cca4f682e6ff3,
   0x748f82ee78a5636f84c878148cc7020890befffaa4506cebbef9a3f7c67178f2]

/-- A 32-bit rotation to the right. -/
def rotr (n x : Nat) : Nat := (x / 2 ^ n + x * 2 ^ (32 - n)) % 2 ^ 32

/-- One round of SHA-256 on the eight working words and the next 16 words of the schedule. -/
def shaRound (x : List Nat × List Nat) (t : Nat) : List Nat × List Nat :=
  match x.1 with
  | [a, b, c, d, e, f, g, h] =>
    let w := x.2.headD 0
    let w1 := x.2.getD 1 0
    let w14 := x.2.getD 14 0
    let next := ((rotr 17 w14 ^^^ rotr 19 w14 ^^^ w14 / 2 ^ 10) + x.2.getD 9 0 +
      (rotr 7 w1 ^^^ rotr 18 w1 ^^^ w1 / 2 ^ 3) + w) % 2 ^ 32
    let t1 := h + (rotr 6 e ^^^ rotr 11 e ^^^ rotr 25 e) + ((e &&& f) ^^^ ((2 ^ 32 - 1 - e) &&& g)) + packed 32 shaK t + w
    let t2 := (rotr 2 a ^^^ rotr 13 a ^^^ rotr 22 a) + ((a &&& b) ^^^ (a &&& c) ^^^ (b &&& c))
    ([(t1 + t2) % 2 ^ 32, a, b, c, (d + t1) % 2 ^ 32, e, f, g], x.2.drop 1 ++ [next])
  | _ => x

/-- One block of 64 bytes into the hash value. -/
def shaBlock (h : List Nat) (b : List Byte) : List Nat :=
  let w := (chunksOf 4 16 b).map ofBytes
  (h.zip ((List.range 64).foldl shaRound (h, w)).1).map (fun p => (p.1 + p.2) % 2 ^ 32)

/-- SHA-256 as a number. -/
def sha256 (bs : List Byte) : Nat :=
  let n := bs.length
  let m := bs ++ [0x80#8] ++ List.replicate ((119 - n % 64) % 64) 0#8 ++ toBytes 8 (8 * n)
  ((chunksOf 64 m.length m).foldl shaBlock [0x6a09e667, 0xbb67ae85, 0x3c6ef372, 0xa54ff53a, 0x510e527f, 0x9b05688c,
    0x1f83d9ab, 0x5be0cd19]).foldl (fun a x => a * 2 ^ 32 + x) 0

/-- SHA-256 as 32 bytes. -/
def shaBytes (bs : List Byte) : List Byte := toBytes 32 (sha256 bs)

/-- HMAC-SHA-256 under a key. -/
def hmac (key bs : List Byte) : List Byte :=
  let k := padTo 64 (if key.length > 64 then shaBytes key else key)
  shaBytes (k.map (· ^^^ 0x5C#8) ++ shaBytes (k.map (· ^^^ 0x36#8) ++ bs))

/-- HKDF-SHA-256 with salt, input key material and info: 32 bytes, which are one block. -/
def hkdf (salt ikm info : List Byte) : Nat := ofBytes (hmac (hmac salt ikm) (info ++ [1#8]))

/-! ### AES-128, CMAC and key wrap (FIPS 197, SP 800-38B, RFC 3394; log 51: PRESUMED, unsafe) -/

/-- The S-box of AES. -/
def aesS : List Nat :=
  [0x637c777bf26b6fc53001672bfed7ab76ca82c97dfa5947f0add4a2af9ca472c0,
   0xb7fd9326363ff7cc34a5e5f171d8311504c723c31896059a071280e2eb27b275,
   0x09832c1a1b6e5aa0523bd6b329e32f8453d100ed20fcb15b6acbbe394a4c58cf,
   0xd0efaafb434d338545f9027f503c9fa851a3408f929d38f5bcb6da2110fff3d2,
   0xcd0c13ec5f974417c4a77e3d645d197360814fdc222a908846eeb814de5e0bdb,
   0xe0323a0a4906245cc2d3ac629195e479e7c8376d8dd54ea96c56f4ea657aae08,
   0xba78252e1ca6b4c6e8dd741f4bbd8b8a703eb5664803f60e613557b986c11d9e,
   0xe1f8981169d98e949b1e87e9ce5528df8ca1890dbfe6426841992d0fb054bb16]

/-- Its inverse. -/
def aesInvS : List Nat :=
  [0x52096ad53036a538bf40a39e81f3d7fb7ce339829b2fff87348e4344c4dee9cb,
   0x547b9432a6c2233dee4c950b42fac34e082ea16628d924b2765ba2496d8bd125,
   0x72f8f66486689816d4a45ccc5d65b6926c704850fdedb9da5e154657a78d9d84,
   0x90d8ab008cbcd30af7e45805b8b34506d02c1e8fca3f0f02c1afbd0301138a6b,
   0x3a9111414f67dcea97f2cfcef0b4e67396ac7422e7ad3585e2f937e81c75df6e,
   0x47f11a711d29c5896fb7620eaa18be1bfc563e4bc6d279209adbc0fe78cd5af4,
   0x1fdda8338807c731b11210592780ec5f60517fa919b54a0d2de57a9f93c99cef,
   0xa0e03b4dae2af5b0c8ebbb3c83539961172b047eba77d626e169146355210c7d]

/-- A byte of the field times x. -/
def xtime (b : Nat) : Nat := if b < 128 then 2 * b else (2 * b - 256) ^^^ 0x1B

/-- The product of two bytes of the field; `a` has at most 4 bits. -/
def gfMul (a b : Nat) : Nat :=
  let b2 := xtime b
  let b4 := xtime b2
  a % 2 * b ^^^ a / 2 % 2 * b2 ^^^ a / 4 % 2 * b4 ^^^ a / 8 % 2 * xtime b4

/-- The next round key, with its round constant. -/
def aesNextKey (k : List Nat) (rcon : Nat) : List Nat :=
  let sub := fun (i : Nat) => packed 8 aesS (k.getD i 0)
  let w0 := [k.getD 0 0 ^^^ sub 13 ^^^ rcon, k.getD 1 0 ^^^ sub 14, k.getD 2 0 ^^^ sub 15, k.getD 3 0 ^^^ sub 12]
  let add := fun (w : List Nat) (i : Nat) => (w.zip (k.drop (4 * i))).map (fun p => p.1 ^^^ p.2)
  let w1 := add w0 1
  let w2 := add w1 2
  w0 ++ w1 ++ w2 ++ add w2 3

/-- The eleven round keys. -/
def aesKeys (k : List Nat) : List (List Nat) :=
  (([1, 2, 4, 8, 16, 32, 64, 128, 0x1B, 0x36] : List Nat).foldl
    (fun (x : List Nat × List (List Nat)) r => let n := aesNextKey x.1 r; (n, x.2 ++ [n])) (k, [k])).2

/-- The sum of a state and a round key. -/
def aesAdd (x k : List Nat) : List Nat := (x.zip k).map (fun p => p.1 ^^^ p.2)

/-- Every column times the circulant matrix with first row `m`. -/
def aesMix (m x : List Nat) : List Nat :=
  (List.range 16).map fun i => (List.range 4).foldl
    (fun a j => a ^^^ gfMul (m.getD ((j + 4 - i % 4) % 4) 0) (x.getD (i / 4 * 4 + j) 0)) 0

/-- Row r moved by r columns, to the left (`d` = 1) or to the right (`d` = 3), and each byte through a table. -/
def aesShift (d : Nat) (t x : List Nat) : List Nat :=
  (List.range 16).map fun i => packed 8 t (x.getD ((i + 4 * d * (i % 4)) % 16) 0)

/-- AES-128 on one block of 16 bytes. -/
def aesEnc (k b : List Nat) : List Nat :=
  match aesKeys k with
  | k0 :: ks =>
    let x := (ks.take 9).foldl (fun x rk => aesAdd (aesMix [2, 3, 1, 1] (aesShift 1 aesS x)) rk) (aesAdd b k0)
    aesAdd (aesShift 1 aesS x) (ks.getD 9 [])
  | [] => b

/-- Its inverse. -/
def aesDec (k b : List Nat) : List Nat :=
  match (aesKeys k).reverse with
  | k0 :: ks =>
    let x := (ks.take 9).foldl (fun x rk => aesMix [14, 11, 13, 9] (aesAdd (aesShift 3 aesInvS x) rk)) (aesAdd b k0)
    aesAdd (aesShift 3 aesInvS x) (ks.getD 9 [])
  | [] => b

/-- `x` as `n` byte values, and the number that byte values spell. -/
def bytesN (n x : Nat) : List Nat := (toBytes n x).map (·.toNat)
def ofN (bs : List Nat) : Nat := bs.foldl (fun a b => a * 256 + b) 0

/-- A CMAC subkey from the last value: doubled in the field of 2^128. -/
def cmacDouble (x : Nat) : Nat := if x < 2 ^ 127 then 2 * x else (2 * x - 2 ^ 128) ^^^ 0x87

/-- The AES-128-CMAC under a key. -/
def cmac (k : Nat) (bs : List Byte) : Nat :=
  let enc := fun (x : Nat) => ofN (aesEnc (bytesN 16 k) (bytesN 16 x))
  let k1 := cmacDouble (enc 0)
  let blocks := chunksOf 16 bs.length bs
  let last := blocks.getLastD []
  let tail := if last.length = 16 then ofBytes last ^^^ k1
    else ofBytes (padTo 16 (last ++ [0x80#8])) ^^^ cmacDouble k1
  enc ((blocks.dropLast.foldl (fun c b => enc (c ^^^ ofBytes b)) 0) ^^^ tail)

/-- The most significant 8 bytes of the AES-128-CMAC under a key (R274). -/
def cmac64 (k : Nat) (bs : List Byte) : Nat := cmac k bs / 2 ^ 64 % 2 ^ 64

/-- The initial value of the key wrap. -/
def wrapIv : Nat := 0xA6A6A6A6A6A6A6A6

/-- AES key wrap of a 128-bit key: 192 bits. -/
def keyWrap (k x : Nat) : Nat :=
  let step := fun (r : Nat × Nat × Nat) (t : Nat) =>
    let b := ofN (aesEnc (bytesN 16 k) (bytesN 16 (r.1 * 2 ^ 64 + r.2.1)))
    ((b / 2 ^ 64) ^^^ (t + 1), r.2.2, b % 2 ^ 64)
  let r := (List.range 12).foldl step (wrapIv, x / 2 ^ 64, x % 2 ^ 64)
  r.1 * 2 ^ 128 + r.2.1 * 2 ^ 64 + r.2.2

/-- Its inverse; none when the integrity check fails. -/
def keyUnwrap (k x : Nat) : Option Nat :=
  let step := fun (r : Nat × Nat × Nat) (t : Nat) =>
    let b := ofN (aesDec (bytesN 16 k) (bytesN 16 ((r.1 ^^^ (12 - t)) * 2 ^ 64 + r.2.2)))
    (b / 2 ^ 64, b % 2 ^ 64, r.2.1)
  let r := (List.range 12).foldl step (x / 2 ^ 128, x / 2 ^ 64 % 2 ^ 64, x % 2 ^ 64)
  if r.1 = wrapIv then some (r.2.1 * 2 ^ 64 + r.2.2) else none

/-! ### P-256: ECDSA, ECDH (FIPS 186-4, SP 800-56A, RFC 6979; log 51: PRESUMED, unsafe) -/

/-- The field prime, the group order and the base point. -/
def ecP : Nat := 2 ^ 256 - 2 ^ 224 + 2 ^ 192 + 2 ^ 96 - 1
def ecN : Nat := 0xffffffff00000000ffffffffffffffffbce6faada7179e84f3b9cac2fc632551
def ecB : Nat := 0x5ac635d8aa3a93e7b3ebbd55769886bc651d06b0cc53b0f63bce3c3e27d2604b
def ecG : Nat × Nat := (0x6b17d1f2e12c4247f8bce6e563a440f277037d812deb33a0f4a13945d898c296,
  0x4fe342e2fe1a7f9b8ee7eb4a7c0f9e162bce33576b315ececbb6406837bf51f5)

/-- `b` to the power of the low `k` bits of `e`, modulo `m`. -/
def powMod (m b : Nat) : Nat → Nat → Nat
  | 0, _ => 1 % m
  | k + 1, e =>
    let r := powMod m b k (e / 2)
    if e % 2 = 1 then r * r % m * b % m else r * r % m

/-- The inverse modulo a prime of 256 bits. -/
def invMod (m x : Nat) : Nat := powMod m (x % m) 256 (m - 2)

/-- The sum of two points in projective coordinates X : Y : Z with x = X / Z², y = Y / Z³; Z = 0 at infinity. -/
def ecDouble (p : Nat × Nat × Nat) : Nat × Nat × Nat :=
  let m := ecP
  let (x, y, z) := p
  let s := 4 * x * (y * y) % m
  let z2 := z * z % m
  let t := 3 * (x + z2) * (x + m - z2) % m
  let x' := (t * t + 2 * (m - s)) % m
  (x', (t * (s + m - x') + 8 * (m - y * y % m * (y * y % m) % m)) % m, 2 * y * z % m)

/-- The sum of two points. -/
def ecAdd (p q : Nat × Nat × Nat) : Nat × Nat × Nat :=
  let m := ecP
  if p.2.2 = 0 then q
  else if q.2.2 = 0 then p
  else
    let (x1, y1, z1) := p
    let (x2, y2, z2) := q
    let u1 := x1 * (z2 * z2) % m
    let u2 := x2 * (z1 * z1) % m
    let s1 := y1 * (z2 * z2 * z2) % m
    let s2 := y2 * (z1 * z1 * z1) % m
    if u1 = u2 then (if s1 = s2 then ecDouble p else (1, 1, 0))
    else
      let h := (u2 + m - u1) % m
      let r := (s2 + m - s1) % m
      let h2 := h * h % m
      let v := u1 * h2 % m
      let x := (r * r + (m - h * h2 % m) + 2 * (m - v)) % m
      (x, (r * (v + m - x) + s1 * (m - h * h2 % m)) % m, h * z1 * z2 % m)

/-- The low `k` bits of `e` times a point. -/
def ecTimes (p : Nat × Nat × Nat) : Nat → Nat → Nat × Nat × Nat
  | 0, _ => (1, 1, 0)
  | k + 1, e =>
    let r := ecDouble (ecTimes p k (e / 2))
    if e % 2 = 1 then ecAdd r p else r

/-- A point as x and y; (0, 0) at infinity. -/
def ecAffine (p : Nat × Nat × Nat) : Nat × Nat :=
  let i := invMod ecP p.2.2
  (p.1 * (i * i) % ecP, p.2.1 * (i * i * i) % ecP)

/-- `e` times the point (x, y). -/
def ecMul (e : Nat) (p : Nat × Nat) : Nat × Nat := ecAffine (ecTimes (p.1, p.2, 1) 256 e)

/-- Whether (x, y) is a point of the curve. -/
def ecOn (p : Nat × Nat) : Bool :=
  p.1 < ecP && p.2 < ecP && p.2 * p.2 % ecP == (p.1 * p.1 * p.1 + (ecP - 3) * p.1 + ecB) % ecP

/-- A number of 256 bits drawn from the random source as a private key. -/
def privOf (d : Nat) : Nat := d % (ecN - 1) + 1

/-- The public key of a private key, x then y. -/
def ephPub (d : Nat) : Nat := let p := ecMul (privOf d) ecG; p.1 * 2 ^ 256 + p.2

/-- A public key as a point. -/
def pointOf (pub : Nat) : Nat × Nat := (pub / 2 ^ 256, pub % 2 ^ 256)

/-- The x-coordinate of ECDH with a peer's public key. -/
def ecdh (d pub : Nat) : Nat := (ecMul (privOf d) (pointOf pub)).1

/-- Whether an ECDSA signature (r then s) over bytes verifies under a public key (x then y). -/
def verifySig (pub : Nat) (bs : List Byte) (sig : Nat) : Bool :=
  let q := pointOf pub
  let r := sig / 2 ^ 256
  let s := sig % 2 ^ 256
  if ecOn q && 0 < r && r < ecN && 0 < s && s < ecN then
    let w := invMod ecN s
    let p := ecAdd (ecTimes (ecG.1, ecG.2, 1) 256 (sha256 bs * w % ecN)) (ecTimes (q.1, q.2, 1) 256 (r * w % ecN))
    p.2.2 != 0 && (ecAffine p).1 % ecN == r
  else false

/-- The nonces of RFC 6979 from K and V, the first that lies in range, with fuel for 16 candidates. -/
def nonceFrom : Nat → List Byte → List Byte → Nat
  | 0, _, v => privOf (ofBytes v)
  | n + 1, k, v =>
    let v := hmac k v
    let x := ofBytes v
    if 0 < x && x < ecN then x
    else
      let k := hmac k (v ++ [0#8])
      nonceFrom n k (hmac k v)

/-- The ECDSA signature over bytes of a private key, r then s, with the nonce of RFC 6979. -/
def signWith (d : Nat) (bs : List Byte) : Nat :=
  let z := sha256 bs % ecN
  let seed := toBytes 32 d ++ toBytes 32 z
  let v := List.replicate 32 1#8
  let k := hmac (List.replicate 32 0#8) (v ++ [0#8] ++ seed)
  let v := hmac k v
  let k := hmac k (v ++ [1#8] ++ seed)
  let x := nonceFrom 16 k (hmac k v)
  let r := (ecMul x ecG).1 % ecN
  r * 2 ^ 256 + invMod ecN x * ((z + r * d) % ecN) % ecN

/-! ### What manufacture gives the node (R293, R294) -/

/-- The node's private key (R293). (log 4: DESIGN CHOICE, safe.) -/
def nodeKey : Nat := privOf Config.nodeKey

/-- The ECDSA signature of the node key over a byte string, r then s. -/
def nodeSign (bs : List Byte) : List Byte := toBytes 64 (signWith nodeKey bs)

/-- The DER device certificate, at most 1,024 bytes. -/
def certDer : List Byte := Config.certDer.take 1024

/-- CERTID: the first 8 bytes of the SHA-256 of the certificate (R294). (log 4: DESIGN CHOICE, safe.) -/
def certId : Nat := sha256 certDer / 2 ^ 192

/-- The node's public key, x then y, as a number. -/
def nodePub : Nat := let p := ecMul nodeKey ecG; p.1 * 2 ^ 256 + p.2

end Sys2Proof.Machine
end

