-- ==== Sys2Proof/Machine/RegMap.lean ====
section
/-! DEFINITION. The register map: the fields of every register as its chapter's register table gives them, and one row
per register or register array of the index (Tables 20-2 to 20-12): base, stride, count, reset word (R412) and the
masks of its access codes (Table 0-4, R411). Written from the spec's tables. -/

namespace Sys2Proof.Machine

/-- A register field: the word address of its register and its bit range [hi:lo] (R4, R10). -/
structure Fld where
  addr : Nat
  hi : Nat
  lo : Nat
deriving DecidableEq, Repr

/-- The registers of the index; `none` stands for no register. Array registers appear once. -/
inductive Reg where
  | SYS_IDENT | SYS_ROLE | SYS_SYSID | SYS_HEAD_CFG | SYS_HEAD_STAT | SYS_HEAD_EPOCH
  | SYS_HEAD_REP | SYS_HEAD_CTL | MOD_STAT | MOD_CMD | MOD_CFG | MOD_WAKE
  | MOD_DORMAT | MOD_WAKEAT | MOD_LIMPA | MOD_LIMPB | MOD_FERT | MOD_RST
  | MOD_RSTCMD | MOD_BOOT | FSV_STAT | FSV_CLR | FSV_QSEL | FSV_QLAT0
  | FSV_QLAT1 | FSV_LATA | FSV_LATB | FSV_SRCs_CFG | FSV_SRCs_CFG_reserved | FSV_SRCs_LIM
  | FSV_SRCs_LIM_reserved | FSV_SRCs_STAT | TBS_TIME | TBS_STAT | TBS_CTRL | TBS_RATE
  | TBS_OFFSET | TBS_WRAP | TBS_LEAP | TBS_RXCOMP | TBS_BCNAGE | TRV_CFG
  | TRV_COUNT | TRV_OFFSET | TRV_TURNS | TRV_JUMPTHR | TRV_SRC | TRV_SPEED
  | TRV_ACCEL | TRV_SPDCFG | TRV_STAT | TRV_BLEND | TRV_BIAS | TRV_BLSTAT
  | TRV_ENn_CFG | TRV_ENn_CNT | TRV_ENn_K | TRV_ENn_PRESET | TRV_ENn_IDX | TRV_SSn_CFG
  | TRV_SSn_VAL | TRV_SSn_K | TRV_SSn_ZERO | TRV_SSn_JUMPMAX | TRV_DCm | TRV_MS_CFG
  | TRV_MS_STAT | PLN_CFG | PLN_HMIN | PLN_STAT | PLN_MAP | PLN_FENCE
  | PLN_FENCEACT | PLN_UCFG | PLN_FFb | PLN_CHn_CFG | PLN_CHn_HYD | PLN_CHn_DUTY
  | PLN_CHn_LEAD | EVS_CFG | EVS_PUSHS | EVS_PUSHC | EVS_PUSHRES | EVS_STORE
  | EVS_ORPHAN | EVS_POPSEL | EVS_POP | EVS_Qn_CFG | EVS_Qn_STAT | EVS_Qn_CTL
  | EVS_Qn_ERR | VDA_CFG | VDA_Gg_STAT | VDA_Gg_CFG | VDA_Gg_SEQ | VDA_TAMB
  | VDA_CHn_CFG | VDA_CHn_HOLD | VDA_CHn_DET | VDA_CHn_LAT | VDA_CHn_CUR | VDA_CHn_STAT
  | VDA_CHn_RES | VDA_CHn_PROG | VDA_CHn_SEQ | VDA_CHn_SERR | VDA_CHn_TH | VDA_CHn_TPAR
  | VDA_CHn_TLIM | VDA_CHn_RW | VDA_CHn_LRN | VDA_CHn_LBAND | VDA_CHn_LSTAT | VDA_CHn_LOUT
  | CTL_x_CFG | CTL_x_STAT | CTL_x_TGT | CTL_x_WSP | CTL_x_RATE | CTL_x_FF
  | CTL_x_FVAL | CTL_x_MOj | CTL_x_MGj | CTL_x_Yj | CTL_x_UDk | CTL_x_UMINk
  | CTL_x_UMAXk | CTL_x_UGAINk | CTL_x_Uk | CTL_x_Xi | CTL_x_XINITi | CTL_x_ILIMi
  | CTL_x_Mr_c | CTL_ENG | CTL_VNOM | CTL_VPW | CTL_EDDY | CTL_FE_LIM
  | CTL_FE_CFG | CTL_FE_STAT | CTL_OSC_CFG | CTL_OSC_HYST | CTL_OSC_AMP | CTL_HAM_RATE
  | CTL_OSC_STAT | CTL_INJ_CFG | CTL_INJ_AMP | CTL_INJ_DUR | CTL_INJ_F0 | CTL_INJ_F1
  | CTL_INJ_CTL | CTL_INJ_STAT | CTL_INJ_AMAX | CTL_INJ_V | CTL_TRCb_CFG | CTL_TRCb_SELA
  | CTL_TRCb_SELB | CTL_TRCb_LEVEL | CTL_TRCb_CTL | CTL_TRCb_STAT | CTL_TRCb_GAP | CTL_TRCb_GAPT
  | CTL_TRCb_GAPX | CTL_TRCb_RSMT | GNB_CFG | GNB_STAT | GNB_ACQ | GNB_TRK
  | GNB_RAIM | GNB_CLK | GNB_CLKRES | GNB_JAM | GNB_NOTCHk | GNB_NCFG
  | GNB_REFLAT | GNB_REFLON | GNB_REFHGT | GNB_AXIS | GNB_GTRAV | GNB_GFIXT
  | GNB_GSPEED | GNB_ANCH | GNB_SNAPCFG | GNB_SNAPSTAT | GNB_SNAPREQ | GNB_GEOCFG
  | GNB_GEOSTAT | GNB_CHk | GNB_TWRk_CFG | GNB_TWRk_E | GNB_TWRk_N | GNB_TWRk_OFF
  | SLK_CFG | SLK_PHY | SLK_STAT | SLK_CNTA | SLK_CNTB | SLK_CNTC
  | SLK_CNTD | SLK_CNTE | SLK_CNTF | SLK_CNTG | SLK_ERR | SLK_BCN
  | SLK_HCMD | SLK_HSTAT | SLK_HBUFi | SLK_PEERp_LNK | SLK_PEERp_WIN | BMV_STAT
  | BMV_Dn_CTL | BMV_Dn_W0 | BMV_Dn_W1 | BMV_Dn_W2 | BMV_Dn_W3 | BMV_Dn_DONE
  | BMV_Dn_CNT | MIN_CFG | MIN_STAT | MIN_MTADDR | MIN_ERRCNT | MIN_POISCNT
  | MIN_LASTERR | MIN_FLAGS | MIN_DADDR | MIN_DDATA | MIN_DCHK | MIN_DCTL
  | MIN_PATPOS | SER_PPn_CFG | SER_PP0_PROF | SER_PPn_PROF | SER_PP_RAW | SER_PP_TXk
  | SER_PP_RXk | SER_PP_STAT | SER_PP_JEDEC | SER_SP_CNTA | SER_SP_CNTB | SER_SP_STAT
  | LDG_CFG | LDG_STAT | LDG_SEQ | LDG_CTL | LDG_SLOTA | LDG_SLOTB
  | LDG_RDCTL | LDG_RDDATA | LDG_PCFG | LDG_PSCALE | LDG_PLINE | LDG_WARN
  | LDG_CF | LDG_CFDAY | LDG_RAW | LDG_DAYOFF | LDG_REC | LDG_MLPP
  | LDG_MUSE | LDG_MLIMIT | LDG_MSTAT | LDG_PYSCALE | LDG_ZACTk | LDG_EXHk
  | LDG_WRNk | LDG_DROPk | LDG_VOLz | LDG_LIMz | LDG_ESTz | KEY_STAT
  | KEY_CFG | KEY_CNT | KEY_OWNIDH | KEY_OWNIDL | KEY_CERTIDH | KEY_CERTIDL
  | KEY_CERTLEN | KEY_CERTRD | KEY_CERTDAT | KEY_CMD | KEY_KXSTAT
deriving DecidableEq, Repr

/-- One row of the index: the register, its element addresses (R410), the reset word, and the bits that a host
write sets (RW and RWH), clears (W1C) or triggers (WO). `sub` tells stage pages (and coefficient rows) apart, and P0, whose LSBF is read-only, from the other
peripheral ports. -/
structure RegRow where
  reg : Reg
  base : Nat
  stride : Nat
  count : Nat
  sub : Nat
  reset : Nat
  rw : Nat
  w1c : Nat
  wo : Nat
deriving DecidableEq, Repr

namespace F

/-- SYS_IDENT: Table 1-5. -/
def SYS_IDENT_w : Fld := ⟨0x0, 39, 0⟩
def SYS_IDENT_PART : Fld := ⟨0x0, 39, 24⟩
def SYS_IDENT_STEP : Fld := ⟨0x0, 23, 16⟩
/-- SYS_ROLE: Table 1-6. -/
def SYS_ROLE_w : Fld := ⟨0x1, 39, 0⟩
def SYS_ROLE_HEADCAP : Fld := ⟨0x1, 8, 8⟩
def SYS_ROLE_ROLE : Fld := ⟨0x1, 7, 6⟩
def SYS_ROLE_ADDR : Fld := ⟨0x1, 5, 0⟩
/-- SYS_SYSID: Table 1-7. -/
def SYS_SYSID_w : Fld := ⟨0x2, 39, 0⟩
def SYS_SYSID_SYSID : Fld := ⟨0x2, 31, 0⟩
/-- SYS_HEAD_CFG: Table 14-4. -/
def SYS_HEAD_CFG_w : Fld := ⟨0x8, 39, 0⟩
def SYS_HEAD_CFG_LAFOLLOW : Fld := ⟨0x8, 12, 12⟩
def SYS_HEAD_CFG_FOTIME : Fld := ⟨0x8, 11, 0⟩
/-- SYS_HEAD_STAT: Table 14-4. -/
def SYS_HEAD_STAT_w : Fld := ⟨0x9, 39, 0⟩
def SYS_HEAD_STAT_REP : Fld := ⟨0x9, 39, 24⟩
def SYS_HEAD_STAT_TAKEOVERS : Fld := ⟨0x9, 23, 16⟩
def SYS_HEAD_STAT_YIELDS : Fld := ⟨0x9, 15, 8⟩
def SYS_HEAD_STAT_NOSTATE : Fld := ⟨0x9, 3, 3⟩
def SYS_HEAD_STAT_HOERR : Fld := ⟨0x9, 2, 2⟩
def SYS_HEAD_STAT_UNFIT : Fld := ⟨0x9, 1, 1⟩
def SYS_HEAD_STAT_SYNC : Fld := ⟨0x9, 0, 0⟩
/-- SYS_HEAD_EPOCH: Table 14-4. -/
def SYS_HEAD_EPOCH_w : Fld := ⟨0xa, 39, 0⟩
def SYS_HEAD_EPOCH_EPOCH : Fld := ⟨0xa, 31, 0⟩
/-- SYS_HEAD_REP: Table 14-4. -/
def SYS_HEAD_REP_w : Fld := ⟨0xb, 39, 0⟩
def SYS_HEAD_REP_INCOMP : Fld := ⟨0xb, 39, 24⟩
def SYS_HEAD_REP_SKIP : Fld := ⟨0xb, 23, 8⟩
def SYS_HEAD_REP_AGE : Fld := ⟨0xb, 7, 0⟩
/-- SYS_HEAD_CTL: Table 14-4. -/
def SYS_HEAD_CTL_w : Fld := ⟨0xc, 39, 0⟩
def SYS_HEAD_CTL_HANDOVER : Fld := ⟨0xc, 0, 0⟩
/-- MOD_STAT: Table 18-8. -/
def MOD_STAT_w : Fld := ⟨0x100, 39, 0⟩
def MOD_STAT_CAUSE : Fld := ⟨0x100, 23, 20⟩
def MOD_STAT_WHY : Fld := ⟨0x100, 18, 16⟩
def MOD_STAT_CMDERR : Fld := ⟨0x100, 15, 15⟩
def MOD_STAT_DEFPEND : Fld := ⟨0x100, 14, 14⟩
def MOD_STAT_LIMPPEND : Fld := ⟨0x100, 13, 13⟩
def MOD_STAT_HOLDPEND : Fld := ⟨0x100, 12, 12⟩
def MOD_STAT_HELD : Fld := ⟨0x100, 11, 11⟩
def MOD_STAT_TRANS : Fld := ⟨0x100, 10, 10⟩
def MOD_STAT_PREV : Fld := ⟨0x100, 6, 4⟩
def MOD_STAT_MODE : Fld := ⟨0x100, 2, 0⟩
/-- MOD_CMD: Table 18-8. -/
def MOD_CMD_w : Fld := ⟨0x101, 39, 0⟩
def MOD_CMD_TARGET : Fld := ⟨0x101, 2, 0⟩
/-- MOD_CFG: Table 18-8. -/
def MOD_CFG_w : Fld := ⟨0x102, 39, 0⟩
def MOD_CFG_IDLETO : Fld := ⟨0x102, 23, 16⟩
def MOD_CFG_UFB : Fld := ⟨0x102, 4, 4⟩
def MOD_CFG_DEFMODE : Fld := ⟨0x102, 2, 0⟩
/-- MOD_WAKE: Table 18-8. -/
def MOD_WAKE_w : Fld := ⟨0x103, 39, 0⟩
def MOD_WAKE_WEN : Fld := ⟨0x103, 9, 9⟩
def MOD_WAKE_DEN : Fld := ⟨0x103, 8, 8⟩
def MOD_WAKE_MSMASK : Fld := ⟨0x103, 7, 0⟩
/-- MOD_DORMAT: Table 18-8. -/
def MOD_DORMAT_w : Fld := ⟨0x104, 39, 0⟩
def MOD_DORMAT_TIME : Fld := ⟨0x104, 39, 0⟩
/-- MOD_WAKEAT: Table 18-8. -/
def MOD_WAKEAT_w : Fld := ⟨0x105, 39, 0⟩
def MOD_WAKEAT_TIME : Fld := ⟨0x105, 39, 0⟩
/-- MOD_LIMPA: Table 18-8. -/
def MOD_LIMPA_w : Fld := ⟨0x106, 39, 0⟩
def MOD_LIMPA_TRIG : Fld := ⟨0x106, 24, 24⟩
def MOD_LIMPA_MASK : Fld := ⟨0x106, 23, 0⟩
/-- MOD_LIMPB: Table 18-8. -/
def MOD_LIMPB_w : Fld := ⟨0x107, 39, 0⟩
def MOD_LIMPB_MASK : Fld := ⟨0x107, 23, 0⟩
/-- MOD_FERT: Table 18-8. -/
def MOD_FERT_w : Fld := ⟨0x108, 39, 0⟩
def MOD_FERT_EN : Fld := ⟨0x108, 8, 8⟩
def MOD_FERT_DC : Fld := ⟨0x108, 7, 6⟩
def MOD_FERT_INJCH : Fld := ⟨0x108, 5, 0⟩
/-- MOD_RST: Table 18-8. -/
def MOD_RST_w : Fld := ⟨0x110, 39, 0⟩
def MOD_RST_RSTCNT : Fld := ⟨0x110, 39, 24⟩
def MOD_RST_RSTSRC : Fld := ⟨0x110, 3, 0⟩
/-- MOD_RSTCMD: Table 18-8. -/
def MOD_RSTCMD_w : Fld := ⟨0x111, 39, 0⟩
def MOD_RSTCMD_KEY : Fld := ⟨0x111, 15, 0⟩
/-- MOD_BOOT: Table 18-8. -/
def MOD_BOOT_w : Fld := ⟨0x112, 39, 0⟩
def MOD_BOOT_BOOTT : Fld := ⟨0x112, 31, 16⟩
def MOD_BOOT_STEP : Fld := ⟨0x112, 10, 8⟩
def MOD_BOOT_HOLDWHY : Fld := ⟨0x112, 3, 0⟩
/-- FSV_STAT: Table 19-4. -/
def FSV_STAT_w : Fld := ⟨0x120, 39, 0⟩
def FSV_STAT_ADDRF : Fld := ⟨0x120, 39, 24⟩
def FSV_STAT_NLAT : Fld := ⟨0x120, 23, 8⟩
def FSV_STAT_CFGERR : Fld := ⟨0x120, 1, 1⟩
def FSV_STAT_CLRERR : Fld := ⟨0x120, 0, 0⟩
/-- FSV_CLR: Table 19-4. -/
def FSV_CLR_w : Fld := ⟨0x121, 39, 0⟩
def FSV_CLR_ALL : Fld := ⟨0x121, 12, 12⟩
def FSV_CLR_SRC : Fld := ⟨0x121, 11, 6⟩
def FSV_CLR_INST : Fld := ⟨0x121, 5, 0⟩
/-- FSV_QSEL: Table 19-4. -/
def FSV_QSEL_w : Fld := ⟨0x122, 39, 0⟩
def FSV_QSEL_SRC : Fld := ⟨0x122, 5, 0⟩
/-- FSV_QLAT0: Table 19-4. -/
def FSV_QLAT0_w : Fld := ⟨0x123, 39, 0⟩
def FSV_QLAT0_LAT : Fld := ⟨0x123, 31, 0⟩
/-- FSV_QLAT1: Table 19-4. -/
def FSV_QLAT1_w : Fld := ⟨0x124, 39, 0⟩
def FSV_QLAT1_LAT : Fld := ⟨0x124, 31, 0⟩
/-- FSV_LATA: Table 19-4. -/
def FSV_LATA_w : Fld := ⟨0x126, 39, 0⟩
def FSV_LATA_SRC : Fld := ⟨0x126, 31, 0⟩
/-- FSV_LATB: Table 19-4. -/
def FSV_LATB_w : Fld := ⟨0x127, 39, 0⟩
def FSV_LATB_SRC : Fld := ⟨0x127, 31, 0⟩
/-- FSV_SRCs_CFG: Table 19-4. -/
def FSV_SRCs_CFG_w (s : Nat) : Fld := ⟨0x140 + s, 39, 0⟩
def FSV_SRCs_CFG_W (s : Nat) : Fld := ⟨0x140 + s, 39, 20⟩
def FSV_SRCs_CFG_N (s : Nat) : Fld := ⟨0x140 + s, 19, 16⟩
def FSV_SRCs_CFG_ACT (s : Nat) : Fld := ⟨0x140 + s, 15, 13⟩
/-- FSV_SRCs_LIM: Table 19-4. -/
def FSV_SRCs_LIM_w (s : Nat) : Fld := ⟨0x180 + s, 39, 0⟩
def FSV_SRCs_LIM_WMIN (s : Nat) : Fld := ⟨0x180 + s, 39, 20⟩
def FSV_SRCs_LIM_NLIM (s : Nat) : Fld := ⟨0x180 + s, 19, 16⟩
def FSV_SRCs_LIM_ACTLOCK (s : Nat) : Fld := ⟨0x180 + s, 15, 15⟩
/-- FSV_SRCs_STAT: Table 19-4. -/
def FSV_SRCs_STAT_w (s : Nat) : Fld := ⟨0x1c0 + s, 39, 0⟩
def FSV_SRCs_STAT_EVENTS (s : Nat) : Fld := ⟨0x1c0 + s, 39, 24⟩
def FSV_SRCs_STAT_TRANS (s : Nat) : Fld := ⟨0x1c0 + s, 23, 9⟩
def FSV_SRCs_STAT_NLAT (s : Nat) : Fld := ⟨0x1c0 + s, 8, 2⟩
def FSV_SRCs_STAT_EFF (s : Nat) : Fld := ⟨0x1c0 + s, 1, 1⟩
/-- TBS_TIME: Table 2-3. -/
def TBS_TIME_w : Fld := ⟨0x200, 39, 0⟩
def TBS_TIME_TIME : Fld := ⟨0x200, 39, 0⟩
/-- TBS_STAT: Table 2-4. -/
def TBS_STAT_w : Fld := ⟨0x201, 39, 0⟩
def TBS_STAT_STEPS : Fld := ⟨0x201, 12, 5⟩
def TBS_STAT_HOLDEXP : Fld := ⟨0x201, 4, 4⟩
def TBS_STAT_SRC : Fld := ⟨0x201, 3, 3⟩
def TBS_STAT_STATE : Fld := ⟨0x201, 1, 0⟩
/-- TBS_CTRL: Table 2-5. -/
def TBS_CTRL_w : Fld := ⟨0x202, 39, 0⟩
def TBS_CTRL_HOLDMAX : Fld := ⟨0x202, 31, 20⟩
def TBS_CTRL_SLEWMAX : Fld := ⟨0x202, 19, 12⟩
def TBS_CTRL_STEPTHR : Fld := ⟨0x202, 11, 0⟩
/-- TBS_RATE: Table 2-6. -/
def TBS_RATE_w : Fld := ⟨0x203, 39, 0⟩
def TBS_RATE_RATE : Fld := ⟨0x203, 23, 0⟩
/-- TBS_OFFSET: Table 2-7. -/
def TBS_OFFSET_w : Fld := ⟨0x204, 39, 0⟩
def TBS_OFFSET_OFFSET : Fld := ⟨0x204, 23, 0⟩
/-- TBS_WRAP: Table 2-8. -/
def TBS_WRAP_w : Fld := ⟨0x205, 39, 0⟩
def TBS_WRAP_WRAP : Fld := ⟨0x205, 23, 0⟩
/-- TBS_LEAP: Table 2-8. -/
def TBS_LEAP_w : Fld := ⟨0x206, 39, 0⟩
def TBS_LEAP_LEAP : Fld := ⟨0x206, 7, 0⟩
/-- TBS_RXCOMP: Table 2-8. -/
def TBS_RXCOMP_w : Fld := ⟨0x207, 39, 0⟩
def TBS_RXCOMP_RXCOMP : Fld := ⟨0x207, 15, 0⟩
/-- TBS_BCNAGE: Table 2-8. -/
def TBS_BCNAGE_w : Fld := ⟨0x208, 39, 0⟩
def TBS_BCNAGE_AGE : Fld := ⟨0x208, 15, 0⟩
/-- TRV_CFG: Table 2-9. -/
def TRV_CFG_w : Fld := ⟨0x210, 39, 0⟩
def TRV_CFG_JUMPS : Fld := ⟨0x210, 17, 2⟩
def TRV_CFG_DIR : Fld := ⟨0x210, 1, 1⟩
def TRV_CFG_KIND : Fld := ⟨0x210, 0, 0⟩
/-- TRV_COUNT: Table 2-10. -/
def TRV_COUNT_w : Fld := ⟨0x211, 39, 0⟩
def TRV_COUNT_COUNT : Fld := ⟨0x211, 39, 0⟩
/-- TRV_OFFSET: Table 2-10. -/
def TRV_OFFSET_w : Fld := ⟨0x212, 39, 0⟩
def TRV_OFFSET_OFFSET : Fld := ⟨0x212, 39, 0⟩
/-- TRV_TURNS: Table 2-10. -/
def TRV_TURNS_w : Fld := ⟨0x213, 39, 0⟩
def TRV_TURNS_TURNS : Fld := ⟨0x213, 23, 0⟩
/-- TRV_JUMPTHR: Table 2-10. -/
def TRV_JUMPTHR_w : Fld := ⟨0x214, 39, 0⟩
def TRV_JUMPTHR_THR : Fld := ⟨0x214, 31, 0⟩
/-- TRV_SRC: Table 3-3. -/
def TRV_SRC_w : Fld := ⟨0x220, 39, 0⟩
def TRV_SRC_USING : Fld := ⟨0x220, 12, 9⟩
def TRV_SRC_BLEND : Fld := ⟨0x220, 8, 8⟩
def TRV_SRC_ALT : Fld := ⟨0x220, 7, 4⟩
def TRV_SRC_PRI : Fld := ⟨0x220, 3, 0⟩
/-- TRV_SPEED: Table 3-4. -/
def TRV_SPEED_w : Fld := ⟨0x221, 39, 0⟩
def TRV_SPEED_SPEED : Fld := ⟨0x221, 39, 0⟩
/-- TRV_ACCEL: Table 3-4. -/
def TRV_ACCEL_w : Fld := ⟨0x222, 39, 0⟩
def TRV_ACCEL_ACCEL : Fld := ⟨0x222, 39, 0⟩
/-- TRV_SPDCFG: Table 3-5. -/
def TRV_SPDCFG_w : Fld := ⟨0x223, 39, 0⟩
def TRV_SPDCFG_BANDEXP : Fld := ⟨0x223, 31, 27⟩
def TRV_SPDCFG_ACCWIN : Fld := ⟨0x223, 26, 24⟩
def TRV_SPDCFG_EDGES : Fld := ⟨0x223, 23, 16⟩
def TRV_SPDCFG_STILLTO : Fld := ⟨0x223, 15, 0⟩
/-- TRV_STAT: Table 3-6. -/
def TRV_STAT_w : Fld := ⟨0x224, 39, 0⟩
def TRV_STAT_SWITCHES : Fld := ⟨0x224, 11, 4⟩
def TRV_STAT_LOST : Fld := ⟨0x224, 3, 3⟩
def TRV_STAT_ALTACT : Fld := ⟨0x224, 2, 2⟩
def TRV_STAT_DIR : Fld := ⟨0x224, 1, 1⟩
def TRV_STAT_STILL : Fld := ⟨0x224, 0, 0⟩
/-- TRV_BLEND: Table 3-7. -/
def TRV_BLEND_w : Fld := ⟨0x225, 39, 0⟩
def TRV_BLEND_GATEEXP : Fld := ⟨0x225, 16, 12⟩
def TRV_BLEND_REJMAX : Fld := ⟨0x225, 11, 4⟩
def TRV_BLEND_SHIFT : Fld := ⟨0x225, 3, 0⟩
/-- TRV_BIAS: Table 3-4. -/
def TRV_BIAS_w : Fld := ⟨0x226, 39, 0⟩
def TRV_BIAS_BIAS : Fld := ⟨0x226, 39, 0⟩
/-- TRV_BLSTAT: Table 3-7. -/
def TRV_BLSTAT_w : Fld := ⟨0x227, 39, 0⟩
def TRV_BLSTAT_CONSEC : Fld := ⟨0x227, 31, 24⟩
def TRV_BLSTAT_RESEED : Fld := ⟨0x227, 23, 16⟩
def TRV_BLSTAT_REJ : Fld := ⟨0x227, 15, 0⟩
/-- TRV_ENn_CFG: Table 3-8. -/
def TRV_ENn_CFG_w (n : Nat) : Fld := ⟨0x230 + 8 * n, 39, 0⟩
def TRV_ENn_CFG_PHERR (n : Nat) : Fld := ⟨0x230 + 8 * n, 29, 14⟩
def TRV_ENn_CFG_BREAK (n : Nat) : Fld := ⟨0x230 + 8 * n, 13, 13⟩
def TRV_ENn_CFG_IDXTAKEN (n : Nat) : Fld := ⟨0x230 + 8 * n, 12, 12⟩
def TRV_ENn_CFG_ARM (n : Nat) : Fld := ⟨0x230 + 8 * n, 11, 11⟩
def TRV_ENn_CFG_ZQUAL (n : Nat) : Fld := ⟨0x230 + 8 * n, 10, 9⟩
def TRV_ENn_CFG_INV (n : Nat) : Fld := ⟨0x230 + 8 * n, 8, 8⟩
def TRV_ENn_CFG_FILT (n : Nat) : Fld := ⟨0x230 + 8 * n, 7, 4⟩
def TRV_ENn_CFG_TERM (n : Nat) : Fld := ⟨0x230 + 8 * n, 3, 3⟩
def TRV_ENn_CFG_ELEC (n : Nat) : Fld := ⟨0x230 + 8 * n, 2, 2⟩
def TRV_ENn_CFG_MODE (n : Nat) : Fld := ⟨0x230 + 8 * n, 1, 0⟩
/-- TRV_ENn_CNT: Table 3-8. -/
def TRV_ENn_CNT_w (n : Nat) : Fld := ⟨0x231 + 8 * n, 39, 0⟩
def TRV_ENn_CNT_CNT (n : Nat) : Fld := ⟨0x231 + 8 * n, 39, 0⟩
/-- TRV_ENn_K: Table 3-8. -/
def TRV_ENn_K_w (n : Nat) : Fld := ⟨0x232 + 8 * n, 39, 0⟩
def TRV_ENn_K_EXP (n : Nat) : Fld := ⟨0x232 + 8 * n, 36, 32⟩
def TRV_ENn_K_MANT (n : Nat) : Fld := ⟨0x232 + 8 * n, 31, 0⟩
/-- TRV_ENn_PRESET: Table 3-8. -/
def TRV_ENn_PRESET_w (n : Nat) : Fld := ⟨0x233 + 8 * n, 39, 0⟩
def TRV_ENn_PRESET_PRESET (n : Nat) : Fld := ⟨0x233 + 8 * n, 39, 0⟩
/-- TRV_ENn_IDX: Table 3-8. -/
def TRV_ENn_IDX_w (n : Nat) : Fld := ⟨0x234 + 8 * n, 39, 0⟩
def TRV_ENn_IDX_IDX (n : Nat) : Fld := ⟨0x234 + 8 * n, 39, 0⟩
/-- TRV_SSn_CFG: Table 3-9. -/
def TRV_SSn_CFG_w (n : Nat) : Fld := ⟨0x250 + 8 * n, 39, 0⟩
def TRV_SSn_CFG_ERRCNT (n : Nat) : Fld := ⟨0x250 + 8 * n, 36, 21⟩
def TRV_SSn_CFG_VALID (n : Nat) : Fld := ⟨0x250 + 8 * n, 20, 20⟩
def TRV_SSn_CFG_INV (n : Nat) : Fld := ⟨0x250 + 8 * n, 19, 19⟩
def TRV_SSn_CFG_PAR (n : Nat) : Fld := ⟨0x250 + 8 * n, 18, 17⟩
def TRV_SSn_CFG_PER (n : Nat) : Fld := ⟨0x250 + 8 * n, 16, 11⟩
def TRV_SSn_CFG_CLK (n : Nat) : Fld := ⟨0x250 + 8 * n, 10, 7⟩
def TRV_SSn_CFG_CODE (n : Nat) : Fld := ⟨0x250 + 8 * n, 6, 6⟩
def TRV_SSn_CFG_BITS (n : Nat) : Fld := ⟨0x250 + 8 * n, 5, 0⟩
/-- TRV_SSn_VAL: Table 3-9. -/
def TRV_SSn_VAL_w (n : Nat) : Fld := ⟨0x251 + 8 * n, 39, 0⟩
def TRV_SSn_VAL_VAL (n : Nat) : Fld := ⟨0x251 + 8 * n, 39, 0⟩
/-- TRV_SSn_K: Table 3-9. -/
def TRV_SSn_K_w (n : Nat) : Fld := ⟨0x252 + 8 * n, 39, 0⟩
def TRV_SSn_K_EXP (n : Nat) : Fld := ⟨0x252 + 8 * n, 36, 32⟩
def TRV_SSn_K_MANT (n : Nat) : Fld := ⟨0x252 + 8 * n, 31, 0⟩
/-- TRV_SSn_ZERO: Table 3-9. -/
def TRV_SSn_ZERO_w (n : Nat) : Fld := ⟨0x253 + 8 * n, 39, 0⟩
def TRV_SSn_ZERO_ZERO (n : Nat) : Fld := ⟨0x253 + 8 * n, 39, 0⟩
/-- TRV_SSn_JUMPMAX: Table 3-9. -/
def TRV_SSn_JUMPMAX_w (n : Nat) : Fld := ⟨0x254 + 8 * n, 39, 0⟩
def TRV_SSn_JUMPMAX_JUMPMAX (n : Nat) : Fld := ⟨0x254 + 8 * n, 31, 0⟩
/-- TRV_DCm: Table 3-10. -/
def TRV_DCm_w (m : Nat) : Fld := ⟨0x260 + m, 39, 0⟩
def TRV_DCm_TRANS (m : Nat) : Fld := ⟨0x260 + m, 39, 32⟩
def TRV_DCm_VAL (m : Nat) : Fld := ⟨0x260 + m, 31, 31⟩
def TRV_DCm_LAST (m : Nat) : Fld := ⟨0x260 + m, 30, 30⟩
def TRV_DCm_D (m : Nat) : Fld := ⟨0x260 + m, 29, 16⟩
def TRV_DCm_T (m : Nat) : Fld := ⟨0x260 + m, 15, 2⟩
def TRV_DCm_ANTI (m : Nat) : Fld := ⟨0x260 + m, 1, 1⟩
def TRV_DCm_EN (m : Nat) : Fld := ⟨0x260 + m, 0, 0⟩
/-- TRV_MS_CFG: Table 3-11. -/
def TRV_MS_CFG_w : Fld := ⟨0x268, 39, 0⟩
def TRV_MS_CFG_INV : Fld := ⟨0x268, 7, 0⟩
/-- TRV_MS_STAT: Table 3-11. -/
def TRV_MS_STAT_w : Fld := ⟨0x269, 39, 0⟩
def TRV_MS_STAT_RAW : Fld := ⟨0x269, 15, 8⟩
def TRV_MS_STAT_DEB : Fld := ⟨0x269, 7, 0⟩
/-- PLN_CFG: Table 5-7. -/
def PLN_CFG_w : Fld := ⟨0x400, 39, 0⟩
def PLN_CFG_FFEN : Fld := ⟨0x400, 33, 33⟩
def PLN_CFG_GRACE : Fld := ⟨0x400, 31, 16⟩
def PLN_CFG_HORIZ : Fld := ⟨0x400, 15, 0⟩
/-- PLN_HMIN: Table 5-7. -/
def PLN_HMIN_w : Fld := ⟨0x401, 39, 0⟩
def PLN_HMIN_HMIN : Fld := ⟨0x401, 39, 0⟩
/-- PLN_STAT: Table 5-7. -/
def PLN_STAT_w : Fld := ⟨0x402, 39, 0⟩
def PLN_STAT_STALLS : Fld := ⟨0x402, 39, 24⟩
def PLN_STAT_OUTMAP : Fld := ⟨0x402, 23, 8⟩
def PLN_STAT_MAPERRS : Fld := ⟨0x402, 7, 0⟩
/-- PLN_MAP: Table 5-7. -/
def PLN_MAP_w : Fld := ⟨0x403, 39, 0⟩
def PLN_MAP_MAPID : Fld := ⟨0x403, 39, 24⟩
def PLN_MAP_SWAPPED : Fld := ⟨0x403, 3, 3⟩
def PLN_MAP_MAPERR : Fld := ⟨0x403, 2, 2⟩
def PLN_MAP_ARM : Fld := ⟨0x403, 1, 1⟩
def PLN_MAP_BANK : Fld := ⟨0x403, 0, 0⟩
/-- PLN_FENCE: Table 5-7. -/
def PLN_FENCE_w : Fld := ⟨0x404, 39, 0⟩
def PLN_FENCE_FENCE : Fld := ⟨0x404, 39, 0⟩
/-- PLN_FENCEACT: Table 5-7. -/
def PLN_FENCEACT_w : Fld := ⟨0x405, 39, 0⟩
def PLN_FENCEACT_FENCE : Fld := ⟨0x405, 39, 0⟩
/-- PLN_UCFG: Table 5-7. -/
def PLN_UCFG_w : Fld := ⟨0x406, 39, 0⟩
def PLN_UCFG_PERIOD : Fld := ⟨0x406, 15, 0⟩
/-- PLN_FFb: Table 5-7. -/
def PLN_FFb_w (b : Nat) : Fld := ⟨0x410 + b, 39, 0⟩
def PLN_FFb_FLOW (b : Nat) : Fld := ⟨0x410 + b, 23, 0⟩
/-- PLN_CHn_CFG: Table 5-8. -/
def PLN_CHn_CFG_w (n : Nat) : Fld := ⟨0x480 + 4 * n, 39, 0⟩
def PLN_CHn_CFG_DFULL (n : Nat) : Fld := ⟨0x480 + 4 * n, 39, 24⟩
def PLN_CHn_CFG_EN (n : Nat) : Fld := ⟨0x480 + 4 * n, 23, 23⟩
def PLN_CHn_CFG_ZONE (n : Nat) : Fld := ⟨0x480 + 4 * n, 21, 16⟩
def PLN_CHn_CFG_FLOW (n : Nat) : Fld := ⟨0x480 + 4 * n, 15, 0⟩
/-- PLN_CHn_HYD: Table 5-8. -/
def PLN_CHn_HYD_w (n : Nat) : Fld := ⟨0x481 + 4 * n, 39, 0⟩
def PLN_CHn_HYD_HYDC (n : Nat) : Fld := ⟨0x481 + 4 * n, 31, 16⟩
def PLN_CHn_HYD_HYDO (n : Nat) : Fld := ⟨0x481 + 4 * n, 15, 0⟩
/-- PLN_CHn_DUTY: Table 5-8. -/
def PLN_CHn_DUTY_w (n : Nat) : Fld := ⟨0x482 + 4 * n, 39, 0⟩
def PLN_CHn_DUTY_DUTY (n : Nat) : Fld := ⟨0x482 + 4 * n, 10, 0⟩
/-- PLN_CHn_LEAD: Table 5-8. -/
def PLN_CHn_LEAD_w (n : Nat) : Fld := ⟨0x483 + 4 * n, 39, 0⟩
def PLN_CHn_LEAD_LEAD (n : Nat) : Fld := ⟨0x483 + 4 * n, 31, 0⟩
/-- EVS_CFG: Table 5-9. -/
def EVS_CFG_w : Fld := ⟨0x600, 39, 0⟩
def EVS_CFG_XREC : Fld := ⟨0x600, 0, 0⟩
/-- EVS_PUSHS: Table 5-9. -/
def EVS_PUSHS_w : Fld := ⟨0x601, 39, 0⟩
def EVS_PUSHS_WORD : Fld := ⟨0x601, 39, 0⟩
/-- EVS_PUSHC: Table 5-9. -/
def EVS_PUSHC_w : Fld := ⟨0x602, 39, 0⟩
def EVS_PUSHC_WORD : Fld := ⟨0x602, 39, 0⟩
/-- EVS_PUSHRES: Table 5-9. -/
def EVS_PUSHRES_w : Fld := ⟨0x603, 39, 0⟩
def EVS_PUSHRES_RETRY : Fld := ⟨0x603, 39, 24⟩
def EVS_PUSHRES_RESULT : Fld := ⟨0x603, 18, 16⟩
def EVS_PUSHRES_SEQ : Fld := ⟨0x603, 15, 0⟩
/-- EVS_STORE: Table 5-9. -/
def EVS_STORE_w : Fld := ⟨0x604, 39, 0⟩
def EVS_STORE_POOL : Fld := ⟨0x604, 29, 15⟩
def EVS_STORE_FREE : Fld := ⟨0x604, 14, 0⟩
/-- EVS_ORPHAN: Table 5-9. -/
def EVS_ORPHAN_w : Fld := ⟨0x605, 39, 0⟩
def EVS_ORPHAN_COUNT : Fld := ⟨0x605, 15, 0⟩
/-- EVS_POPSEL: Table 5-9. -/
def EVS_POPSEL_w : Fld := ⟨0x606, 39, 0⟩
def EVS_POPSEL_Q : Fld := ⟨0x606, 5, 0⟩
/-- EVS_POP: Table 5-9. -/
def EVS_POP_w : Fld := ⟨0x607, 39, 0⟩
def EVS_POP_WORD : Fld := ⟨0x607, 39, 0⟩
/-- EVS_Qn_CFG: Table 5-10. -/
def EVS_Qn_CFG_w (n : Nat) : Fld := ⟨0x640 + 4 * n, 39, 0⟩
def EVS_Qn_CFG_LIMIT (n : Nat) : Fld := ⟨0x640 + 4 * n, 31, 17⟩
def EVS_Qn_CFG_RES (n : Nat) : Fld := ⟨0x640 + 4 * n, 16, 2⟩
/-- EVS_Qn_STAT: Table 5-10. -/
def EVS_Qn_STAT_w (n : Nat) : Fld := ⟨0x641 + 4 * n, 39, 0⟩
def EVS_Qn_STAT_STATE (n : Nat) : Fld := ⟨0x641 + 4 * n, 39, 37⟩
def EVS_Qn_STAT_COUNT (n : Nat) : Fld := ⟨0x641 + 4 * n, 36, 22⟩
def EVS_Qn_STAT_LATE (n : Nat) : Fld := ⟨0x641 + 4 * n, 21, 14⟩
def EVS_Qn_STAT_LOSE (n : Nat) : Fld := ⟨0x641 + 4 * n, 13, 6⟩
/-- EVS_Qn_CTL: Table 5-10. -/
def EVS_Qn_CTL_w (n : Nat) : Fld := ⟨0x642 + 4 * n, 39, 0⟩
def EVS_Qn_CTL_DROPW (n : Nat) : Fld := ⟨0x642 + 4 * n, 31, 16⟩
def EVS_Qn_CTL_EN (n : Nat) : Fld := ⟨0x642 + 4 * n, 2, 2⟩
def EVS_Qn_CTL_FLDONE (n : Nat) : Fld := ⟨0x642 + 4 * n, 1, 1⟩
def EVS_Qn_CTL_FLUSH (n : Nat) : Fld := ⟨0x642 + 4 * n, 0, 0⟩
/-- EVS_Qn_ERR: Table 5-10. -/
def EVS_Qn_ERR_w (n : Nat) : Fld := ⟨0x643 + 4 * n, 39, 0⟩
def EVS_Qn_ERR_REFUSED (n : Nat) : Fld := ⟨0x643 + 4 * n, 39, 24⟩
def EVS_Qn_ERR_OVF (n : Nat) : Fld := ⟨0x643 + 4 * n, 23, 8⟩
def EVS_Qn_ERR_LASTWHY (n : Nat) : Fld := ⟨0x643 + 4 * n, 2, 0⟩
/-- VDA_CFG: Table 6-6. -/
def VDA_CFG_w : Fld := ⟨0x800, 39, 0⟩
def VDA_CFG_KISH : Fld := ⟨0x800, 7, 4⟩
def VDA_CFG_PWMPER : Fld := ⟨0x800, 1, 0⟩
/-- VDA_Gg_STAT: Table 6-7. -/
def VDA_Gg_STAT_w (g : Nat) : Fld := ⟨0x808 + g, 39, 0⟩
def VDA_Gg_STAT_VDRV (g : Nat) : Fld := ⟨0x808 + g, 31, 16⟩
def VDA_Gg_STAT_TEMP (g : Nat) : Fld := ⟨0x808 + g, 15, 8⟩
def VDA_Gg_STAT_OT (g : Nat) : Fld := ⟨0x808 + g, 2, 2⟩
def VDA_Gg_STAT_OV (g : Nat) : Fld := ⟨0x808 + g, 1, 1⟩
def VDA_Gg_STAT_UV (g : Nat) : Fld := ⟨0x808 + g, 0, 0⟩
/-- VDA_Gg_CFG: Table 6-7. -/
def VDA_Gg_CFG_w (g : Nat) : Fld := ⟨0x810 + g, 39, 0⟩
def VDA_Gg_CFG_UVTHR (g : Nat) : Fld := ⟨0x810 + g, 7, 0⟩
/-- VDA_Gg_SEQ: Table 7-10. -/
def VDA_Gg_SEQ_w (g : Nat) : Fld := ⟨0x818 + g, 39, 0⟩
def VDA_Gg_SEQ_WRREJ (g : Nat) : Fld := ⟨0x818 + g, 39, 24⟩
def VDA_Gg_SEQ_WRERR (g : Nat) : Fld := ⟨0x818 + g, 8, 8⟩
def VDA_Gg_SEQ_RUN (g : Nat) : Fld := ⟨0x818 + g, 7, 0⟩
/-- VDA_TAMB: Table 8-3. -/
def VDA_TAMB_w : Fld := ⟨0x820, 39, 0⟩
def VDA_TAMB_SRC : Fld := ⟨0x820, 16, 16⟩
def VDA_TAMB_TAMB : Fld := ⟨0x820, 15, 0⟩
/-- VDA_CHn_CFG: Table 6-8. -/
def VDA_CHn_CFG_w (n : Nat) : Fld := ⟨0x880 + 8 * n, 39, 0⟩
def VDA_CHn_CFG_OFFMIN (n : Nat) : Fld := ⟨0x880 + 8 * n, 29, 16⟩
def VDA_CHn_CFG_PAIRERR (n : Nat) : Fld := ⟨0x880 + 8 * n, 6, 6⟩
def VDA_CHn_CFG_PAIR (n : Nat) : Fld := ⟨0x880 + 8 * n, 5, 4⟩
def VDA_CHn_CFG_OFFDIAG (n : Nat) : Fld := ⟨0x880 + 8 * n, 3, 3⟩
def VDA_CHn_CFG_DEFDEC (n : Nat) : Fld := ⟨0x880 + 8 * n, 2, 2⟩
/-- VDA_CHn_HOLD: Table 6-8. -/
def VDA_CHn_HOLD_w (n : Nat) : Fld := ⟨0x881 + 8 * n, 39, 0⟩
def VDA_CHn_HOLD_HOLDACT (n : Nat) : Fld := ⟨0x881 + 8 * n, 28, 16⟩
def VDA_CHn_HOLD_HOLD (n : Nat) : Fld := ⟨0x881 + 8 * n, 12, 0⟩
/-- VDA_CHn_DET: Table 6-8. -/
def VDA_CHn_DET_w (n : Nat) : Fld := ⟨0x882 + 8 * n, 39, 0⟩
def VDA_CHn_DET_WEND (n : Nat) : Fld := ⟨0x882 + 8 * n, 39, 28⟩
def VDA_CHn_DET_WSTART (n : Nat) : Fld := ⟨0x882 + 8 * n, 27, 16⟩
def VDA_CHn_DET_DIPTHR (n : Nat) : Fld := ⟨0x882 + 8 * n, 15, 4⟩
def VDA_CHn_DET_CLDET (n : Nat) : Fld := ⟨0x882 + 8 * n, 3, 3⟩
def VDA_CHn_DET_OPDET (n : Nat) : Fld := ⟨0x882 + 8 * n, 2, 2⟩
/-- VDA_CHn_LAT: Table 6-8. -/
def VDA_CHn_LAT_w (n : Nat) : Fld := ⟨0x883 + 8 * n, 39, 0⟩
def VDA_CHn_LAT_ORES (n : Nat) : Fld := ⟨0x883 + 8 * n, 39, 38⟩
def VDA_CHn_LAT_OLAT (n : Nat) : Fld := ⟨0x883 + 8 * n, 37, 20⟩
def VDA_CHn_LAT_CRES (n : Nat) : Fld := ⟨0x883 + 8 * n, 19, 18⟩
def VDA_CHn_LAT_CLAT (n : Nat) : Fld := ⟨0x883 + 8 * n, 17, 0⟩
/-- VDA_CHn_CUR: Table 6-8. -/
def VDA_CHn_CUR_w (n : Nat) : Fld := ⟨0x884 + 8 * n, 39, 0⟩
def VDA_CHn_CUR_DUTY (n : Nat) : Fld := ⟨0x884 + 8 * n, 26, 16⟩
def VDA_CHn_CUR_CUR (n : Nat) : Fld := ⟨0x884 + 8 * n, 14, 0⟩
/-- VDA_CHn_STAT: Table 6-8. -/
def VDA_CHn_STAT_w (n : Nat) : Fld := ⟨0x885 + 8 * n, 39, 0⟩
def VDA_CHn_STAT_NOMOVE (n : Nat) : Fld := ⟨0x885 + 8 * n, 39, 32⟩
def VDA_CHn_STAT_OCCNT (n : Nat) : Fld := ⟨0x885 + 8 * n, 31, 24⟩
def VDA_CHn_STAT_PEAKCUT (n : Nat) : Fld := ⟨0x885 + 8 * n, 23, 16⟩
def VDA_CHn_STAT_SAFECLR (n : Nat) : Fld := ⟨0x885 + 8 * n, 8, 8⟩
def VDA_CHn_STAT_SHORT (n : Nat) : Fld := ⟨0x885 + 8 * n, 7, 7⟩
def VDA_CHn_STAT_OPENOFF (n : Nat) : Fld := ⟨0x885 + 8 * n, 6, 6⟩
def VDA_CHn_STAT_OPENON (n : Nat) : Fld := ⟨0x885 + 8 * n, 5, 5⟩
def VDA_CHn_STAT_OC (n : Nat) : Fld := ⟨0x885 + 8 * n, 4, 4⟩
def VDA_CHn_STAT_STATE (n : Nat) : Fld := ⟨0x885 + 8 * n, 2, 0⟩
/-- VDA_CHn_RES: Table 6-8. -/
def VDA_CHn_RES_w (n : Nat) : Fld := ⟨0x886 + 8 * n, 39, 0⟩
def VDA_CHn_RES_RMEAS (n : Nat) : Fld := ⟨0x886 + 8 * n, 31, 16⟩
def VDA_CHn_RES_RMIN (n : Nat) : Fld := ⟨0x886 + 8 * n, 15, 0⟩
/-- VDA_CHn_PROG: Table 6-8. -/
def VDA_CHn_PROG_w (n : Nat) : Fld := ⟨0x887 + 8 * n, 39, 0⟩
def VDA_CHn_PROG_SAFEPROG (n : Nat) : Fld := ⟨0x887 + 8 * n, 23, 16⟩
def VDA_CHn_PROG_CLOSEPROG (n : Nat) : Fld := ⟨0x887 + 8 * n, 15, 8⟩
def VDA_CHn_PROG_OPENPROG (n : Nat) : Fld := ⟨0x887 + 8 * n, 7, 0⟩
/-- VDA_CHn_SEQ: Table 7-11. -/
def VDA_CHn_SEQ_w (n : Nat) : Fld := ⟨0xb00 + n, 39, 0⟩
def VDA_CHn_SEQ_PC (n : Nat) : Fld := ⟨0xb00 + n, 39, 30⟩
def VDA_CHn_SEQ_OP (n : Nat) : Fld := ⟨0xb00 + n, 29, 26⟩
def VDA_CHn_SEQ_SLOT (n : Nat) : Fld := ⟨0xb00 + n, 25, 20⟩
def VDA_CHn_SEQ_POL (n : Nat) : Fld := ⟨0xb00 + n, 19, 19⟩
def VDA_CHn_SEQ_DEC (n : Nat) : Fld := ⟨0xb00 + n, 18, 18⟩
def VDA_CHn_SEQ_WMET (n : Nat) : Fld := ⟨0xb00 + n, 17, 17⟩
def VDA_CHn_SEQ_RUNNING (n : Nat) : Fld := ⟨0xb00 + n, 16, 16⟩
def VDA_CHn_SEQ_KIND (n : Nat) : Fld := ⟨0xb00 + n, 15, 14⟩
def VDA_CHn_SEQ_TGT (n : Nat) : Fld := ⟨0xb00 + n, 13, 0⟩
/-- VDA_CHn_SERR: Table 7-12. -/
def VDA_CHn_SERR_w (n : Nat) : Fld := ⟨0xb40 + n, 39, 0⟩
def VDA_CHn_SERR_PERRCNT (n : Nat) : Fld := ⟨0xb40 + n, 39, 32⟩
def VDA_CHn_SERR_EPC (n : Nat) : Fld := ⟨0xb40 + n, 31, 22⟩
def VDA_CHn_SERR_ECODE (n : Nat) : Fld := ⟨0xb40 + n, 21, 18⟩
def VDA_CHn_SERR_PERR (n : Nat) : Fld := ⟨0xb40 + n, 0, 0⟩
/-- VDA_CHn_TH: Table 8-4. -/
def VDA_CHn_TH_w (n : Nat) : Fld := ⟨0xc00 + 4 * n, 39, 0⟩
def VDA_CHn_TH_TW (n : Nat) : Fld := ⟨0xc00 + 4 * n, 39, 24⟩
def VDA_CHn_TH_TB (n : Nat) : Fld := ⟨0xc00 + 4 * n, 23, 8⟩
def VDA_CHn_TH_EN (n : Nat) : Fld := ⟨0xc00 + 4 * n, 7, 7⟩
def VDA_CHn_TH_CORR (n : Nat) : Fld := ⟨0xc00 + 4 * n, 6, 5⟩
def VDA_CHn_TH_STAGE (n : Nat) : Fld := ⟨0xc00 + 4 * n, 4, 3⟩
def VDA_CHn_TH_OTF (n : Nat) : Fld := ⟨0xc00 + 4 * n, 2, 2⟩
/-- VDA_CHn_TPAR: Table 8-4. -/
def VDA_CHn_TPAR_w (n : Nat) : Fld := ⟨0xc01 + 4 * n, 39, 0⟩
def VDA_CHn_TPAR_CW (n : Nat) : Fld := ⟨0xc01 + 4 * n, 39, 28⟩
def VDA_CHn_TPAR_CB (n : Nat) : Fld := ⟨0xc01 + 4 * n, 27, 16⟩
def VDA_CHn_TPAR_RWB (n : Nat) : Fld := ⟨0xc01 + 4 * n, 15, 8⟩
def VDA_CHn_TPAR_RBA (n : Nat) : Fld := ⟨0xc01 + 4 * n, 7, 0⟩
/-- VDA_CHn_TLIM: Table 8-4. -/
def VDA_CHn_TLIM_w (n : Nat) : Fld := ⟨0xc02 + 4 * n, 39, 0⟩
def VDA_CHn_TLIM_R20 (n : Nat) : Fld := ⟨0xc02 + 4 * n, 39, 24⟩
def VDA_CHn_TLIM_RCAB (n : Nat) : Fld := ⟨0xc02 + 4 * n, 23, 16⟩
def VDA_CHn_TLIM_TLIM (n : Nat) : Fld := ⟨0xc02 + 4 * n, 15, 8⟩
def VDA_CHn_TLIM_TLIMX (n : Nat) : Fld := ⟨0xc02 + 4 * n, 7, 0⟩
/-- VDA_CHn_RW: Table 8-4. -/
def VDA_CHn_RW_w (n : Nat) : Fld := ⟨0xc03 + 4 * n, 39, 0⟩
def VDA_CHn_RW_RSKIP (n : Nat) : Fld := ⟨0xc03 + 4 * n, 15, 8⟩
def VDA_CHn_RW_RWIN (n : Nat) : Fld := ⟨0xc03 + 4 * n, 7, 0⟩
/-- VDA_CHn_LRN: Table 8-5. -/
def VDA_CHn_LRN_w (n : Nat) : Fld := ⟨0xd00 + 4 * n, 39, 0⟩
def VDA_CHn_LRN_LOPEN (n : Nat) : Fld := ⟨0xd00 + 4 * n, 39, 22⟩
def VDA_CHn_LRN_LCLOSE (n : Nat) : Fld := ⟨0xd00 + 4 * n, 21, 4⟩
def VDA_CHn_LRN_FRZ (n : Nat) : Fld := ⟨0xd00 + 4 * n, 3, 3⟩
def VDA_CHn_LRN_GAIN (n : Nat) : Fld := ⟨0xd00 + 4 * n, 2, 0⟩
/-- VDA_CHn_LBAND: Table 8-5. -/
def VDA_CHn_LBAND_w (n : Nat) : Fld := ⟨0xd01 + 4 * n, 39, 0⟩
def VDA_CHn_LBAND_OMIN (n : Nat) : Fld := ⟨0xd01 + 4 * n, 39, 30⟩
def VDA_CHn_LBAND_OMAX (n : Nat) : Fld := ⟨0xd01 + 4 * n, 29, 20⟩
def VDA_CHn_LBAND_CMIN (n : Nat) : Fld := ⟨0xd01 + 4 * n, 19, 10⟩
def VDA_CHn_LBAND_CMAX (n : Nat) : Fld := ⟨0xd01 + 4 * n, 9, 0⟩
/-- VDA_CHn_LSTAT: Table 8-5. -/
def VDA_CHn_LSTAT_w (n : Nat) : Fld := ⟨0xd02 + 4 * n, 39, 0⟩
def VDA_CHn_LSTAT_NO (n : Nat) : Fld := ⟨0xd02 + 4 * n, 39, 32⟩
def VDA_CHn_LSTAT_NC (n : Nat) : Fld := ⟨0xd02 + 4 * n, 31, 24⟩
def VDA_CHn_LSTAT_REJ (n : Nat) : Fld := ⟨0xd02 + 4 * n, 23, 16⟩
def VDA_CHn_LSTAT_COOB (n : Nat) : Fld := ⟨0xd02 + 4 * n, 2, 2⟩
def VDA_CHn_LSTAT_OOOB (n : Nat) : Fld := ⟨0xd02 + 4 * n, 1, 1⟩
/-- VDA_CHn_LOUT: Table 8-5. -/
def VDA_CHn_LOUT_w (n : Nat) : Fld := ⟨0xd03 + 4 * n, 39, 0⟩
def VDA_CHn_LOUT_OUTL (n : Nat) : Fld := ⟨0xd03 + 4 * n, 17, 0⟩
/-- CTL_x_CFG: Table 9-7. -/
def CTL_x_CFG_w (s : Nat) : Fld := ⟨0x1000 + 0x100 * s, 39, 0⟩
def CTL_x_CFG_LIMPRUN (s : Nat) : Fld := ⟨0x1000 + 0x100 * s, 37, 37⟩
def CTL_x_CFG_PRIM (s : Nat) : Fld := ⟨0x1000 + 0x100 * s, 36, 35⟩
def CTL_x_CFG_N (s : Nat) : Fld := ⟨0x1000 + 0x100 * s, 34, 27⟩
def CTL_x_CFG_INTLNK (s : Nat) : Fld := ⟨0x1000 + 0x100 * s, 26, 19⟩
def CTL_x_CFG_INTMASK (s : Nat) : Fld := ⟨0x1000 + 0x100 * s, 18, 11⟩
def CTL_x_CFG_FREEZE (s : Nat) : Fld := ⟨0x1000 + 0x100 * s, 10, 10⟩
def CTL_x_CFG_EN (s : Nat) : Fld := ⟨0x1000 + 0x100 * s, 9, 9⟩
def CTL_x_CFG_NO (s : Nat) : Fld := ⟨0x1000 + 0x100 * s, 8, 7⟩
def CTL_x_CFG_NM (s : Nat) : Fld := ⟨0x1000 + 0x100 * s, 6, 4⟩
def CTL_x_CFG_NS (s : Nat) : Fld := ⟨0x1000 + 0x100 * s, 3, 0⟩
/-- CTL_x_STAT: Table 9-7. -/
def CTL_x_STAT_w (s : Nat) : Fld := ⟨0x1001 + 0x100 * s, 39, 0⟩
def CTL_x_STAT_LIMCNT (s : Nat) : Fld := ⟨0x1001 + 0x100 * s, 39, 24⟩
def CTL_x_STAT_ASATCNT (s : Nat) : Fld := ⟨0x1001 + 0x100 * s, 23, 8⟩
def CTL_x_STAT_CFGERR (s : Nat) : Fld := ⟨0x1001 + 0x100 * s, 7, 7⟩
def CTL_x_STAT_INFLT (s : Nat) : Fld := ⟨0x1001 + 0x100 * s, 6, 6⟩
def CTL_x_STAT_POIS (s : Nat) : Fld := ⟨0x1001 + 0x100 * s, 5, 5⟩
def CTL_x_STAT_ASAT (s : Nat) : Fld := ⟨0x1001 + 0x100 * s, 4, 4⟩
def CTL_x_STAT_LIM (s : Nat) : Fld := ⟨0x1001 + 0x100 * s, 3, 3⟩
def CTL_x_STAT_STATE (s : Nat) : Fld := ⟨0x1001 + 0x100 * s, 2, 0⟩
/-- CTL_x_TGT: Table 9-7. -/
def CTL_x_TGT_w (s : Nat) : Fld := ⟨0x1002 + 0x100 * s, 39, 0⟩
def CTL_x_TGT_TGT (s : Nat) : Fld := ⟨0x1002 + 0x100 * s, 39, 0⟩
/-- CTL_x_WSP: Table 9-7. -/
def CTL_x_WSP_w (s : Nat) : Fld := ⟨0x1003 + 0x100 * s, 39, 0⟩
def CTL_x_WSP_WSP (s : Nat) : Fld := ⟨0x1003 + 0x100 * s, 39, 0⟩
/-- CTL_x_RATE: Table 9-7. -/
def CTL_x_RATE_w (s : Nat) : Fld := ⟨0x1004 + 0x100 * s, 39, 0⟩
def CTL_x_RATE_RATE (s : Nat) : Fld := ⟨0x1004 + 0x100 * s, 39, 0⟩
/-- CTL_x_FF: Table 9-7. -/
def CTL_x_FF_w (s : Nat) : Fld := ⟨0x1005 + 0x100 * s, 39, 0⟩
def CTL_x_FF_FFEN (s : Nat) : Fld := ⟨0x1005 + 0x100 * s, 16, 16⟩
def CTL_x_FF_TPRE (s : Nat) : Fld := ⟨0x1005 + 0x100 * s, 15, 0⟩
/-- CTL_x_FVAL: Table 9-7. -/
def CTL_x_FVAL_w (s : Nat) : Fld := ⟨0x1006 + 0x100 * s, 39, 0⟩
def CTL_x_FVAL_F (s : Nat) : Fld := ⟨0x1006 + 0x100 * s, 39, 0⟩
/-- CTL_x_MOj: Table 9-7. -/
def CTL_x_MOj_w (s j : Nat) : Fld := ⟨0x1008 + 0x100 * s + 2 * j, 39, 0⟩
def CTL_x_MOj_SRC (s j : Nat) : Fld := ⟨0x1008 + 0x100 * s + 2 * j, 35, 32⟩
def CTL_x_MOj_OFF (s j : Nat) : Fld := ⟨0x1008 + 0x100 * s + 2 * j, 31, 0⟩
/-- CTL_x_MGj: Table 9-7. -/
def CTL_x_MGj_w (s j : Nat) : Fld := ⟨0x1009 + 0x100 * s + 2 * j, 39, 0⟩
def CTL_x_MGj_GAIN (s j : Nat) : Fld := ⟨0x1009 + 0x100 * s + 2 * j, 39, 0⟩
/-- CTL_x_Yj: Table 9-7. -/
def CTL_x_Yj_w (s j : Nat) : Fld := ⟨0x1010 + 0x100 * s + j, 39, 0⟩
def CTL_x_Yj_Y (s j : Nat) : Fld := ⟨0x1010 + 0x100 * s + j, 39, 0⟩
/-- CTL_x_UDk: Table 9-7. -/
def CTL_x_UDk_w (s k : Nat) : Fld := ⟨0x1014 + 0x100 * s + 4 * k, 39, 0⟩
def CTL_x_UDk_SAFE (s k : Nat) : Fld := ⟨0x1014 + 0x100 * s + 4 * k, 39, 24⟩
def CTL_x_UDk_UOFF (s k : Nat) : Fld := ⟨0x1014 + 0x100 * s + 4 * k, 23, 8⟩
def CTL_x_UDk_VFF (s k : Nat) : Fld := ⟨0x1014 + 0x100 * s + 4 * k, 5, 5⟩
def CTL_x_UDk_DEST (s k : Nat) : Fld := ⟨0x1014 + 0x100 * s + 4 * k, 3, 0⟩
/-- CTL_x_UMINk: Table 9-7. -/
def CTL_x_UMINk_w (s k : Nat) : Fld := ⟨0x1015 + 0x100 * s + 4 * k, 39, 0⟩
def CTL_x_UMINk_UMIN (s k : Nat) : Fld := ⟨0x1015 + 0x100 * s + 4 * k, 39, 0⟩
/-- CTL_x_UMAXk: Table 9-7. -/
def CTL_x_UMAXk_w (s k : Nat) : Fld := ⟨0x1016 + 0x100 * s + 4 * k, 39, 0⟩
def CTL_x_UMAXk_UMAX (s k : Nat) : Fld := ⟨0x1016 + 0x100 * s + 4 * k, 39, 0⟩
/-- CTL_x_UGAINk: Table 9-7. -/
def CTL_x_UGAINk_w (s k : Nat) : Fld := ⟨0x1017 + 0x100 * s + 4 * k, 39, 0⟩
def CTL_x_UGAINk_UGAIN (s k : Nat) : Fld := ⟨0x1017 + 0x100 * s + 4 * k, 39, 0⟩
/-- CTL_x_Uk: Table 9-7. -/
def CTL_x_Uk_w (s k : Nat) : Fld := ⟨0x101c + 0x100 * s + k, 39, 0⟩
def CTL_x_Uk_U (s k : Nat) : Fld := ⟨0x101c + 0x100 * s + k, 39, 0⟩
/-- CTL_x_Xi: Table 9-7. -/
def CTL_x_Xi_w (s i : Nat) : Fld := ⟨0x1020 + 0x100 * s + i, 39, 0⟩
def CTL_x_Xi_X (s i : Nat) : Fld := ⟨0x1020 + 0x100 * s + i, 39, 0⟩
/-- CTL_x_XINITi: Table 9-7. -/
def CTL_x_XINITi_w (s i : Nat) : Fld := ⟨0x1028 + 0x100 * s + i, 39, 0⟩
def CTL_x_XINITi_XINIT (s i : Nat) : Fld := ⟨0x1028 + 0x100 * s + i, 39, 0⟩
/-- CTL_x_ILIMi: Table 9-7. -/
def CTL_x_ILIMi_w (s i : Nat) : Fld := ⟨0x1030 + 0x100 * s + i, 39, 0⟩
def CTL_x_ILIMi_ILIM (s i : Nat) : Fld := ⟨0x1030 + 0x100 * s + i, 39, 0⟩
/-- CTL_x_Mr_c: Table 9-7. -/
def CTL_x_Mr_c_w (s r c : Nat) : Fld := ⟨0x1040 + 0x100 * s + 0x10 * r + c, 39, 0⟩
def CTL_x_Mr_c_COEF (s r c : Nat) : Fld := ⟨0x1040 + 0x100 * s + 0x10 * r + c, 39, 0⟩
/-- CTL_ENG: Table 9-8. -/
def CTL_ENG_w : Fld := ⟨0x1300, 39, 0⟩
def CTL_ENG_LATMAX : Fld := ⟨0x1300, 15, 0⟩
/-- CTL_VNOM: Table 9-8. -/
def CTL_VNOM_w : Fld := ⟨0x1301, 39, 0⟩
def CTL_VNOM_VNOM : Fld := ⟨0x1301, 15, 0⟩
/-- CTL_VPW: Table 9-8. -/
def CTL_VPW_w : Fld := ⟨0x1302, 39, 0⟩
def CTL_VPW_VPW1 : Fld := ⟨0x1302, 31, 16⟩
def CTL_VPW_VPW0 : Fld := ⟨0x1302, 15, 0⟩
/-- CTL_EDDY: Table 9-8. -/
def CTL_EDDY_w : Fld := ⟨0x1303, 39, 0⟩
def CTL_EDDY_PROF : Fld := ⟨0x1303, 37, 22⟩
def CTL_EDDY_LATE : Fld := ⟨0x1303, 21, 6⟩
def CTL_EDDY_LANODE : Fld := ⟨0x1303, 5, 0⟩
/-- CTL_FE_LIM: Table 10-4. -/
def CTL_FE_LIM_w : Fld := ⟨0x1310, 39, 0⟩
def CTL_FE_LIM_FELIM : Fld := ⟨0x1310, 39, 0⟩
/-- CTL_FE_CFG: Table 10-4. -/
def CTL_FE_CFG_w : Fld := ⟨0x1311, 39, 0⟩
def CTL_FE_CFG_FEACT : Fld := ⟨0x1311, 17, 16⟩
def CTL_FE_CFG_FETIME : Fld := ⟨0x1311, 15, 0⟩
/-- CTL_FE_STAT: Table 10-4. -/
def CTL_FE_STAT_w : Fld := ⟨0x1312, 39, 0⟩
def CTL_FE_STAT_FECNT : Fld := ⟨0x1312, 39, 32⟩
def CTL_FE_STAT_CNT : Fld := ⟨0x1312, 31, 12⟩
def CTL_FE_STAT_FEFLT : Fld := ⟨0x1312, 0, 0⟩
/-- CTL_OSC_CFG: Table 10-4. -/
def CTL_OSC_CFG_w : Fld := ⟨0x1318, 39, 0⟩
def CTL_OSC_CFG_HAMACT : Fld := ⟨0x1318, 39, 38⟩
def CTL_OSC_CFG_HUNTACT : Fld := ⟨0x1318, 37, 36⟩
def CTL_OSC_CFG_HWIN : Fld := ⟨0x1318, 35, 28⟩
def CTL_OSC_CFG_NCROSS : Fld := ⟨0x1318, 20, 16⟩
def CTL_OSC_CFG_OWIN : Fld := ⟨0x1318, 15, 0⟩
/-- CTL_OSC_HYST: Table 10-4. -/
def CTL_OSC_HYST_w : Fld := ⟨0x1319, 39, 0⟩
def CTL_OSC_HYST_HYST : Fld := ⟨0x1319, 39, 0⟩
/-- CTL_OSC_AMP: Table 10-4. -/
def CTL_OSC_AMP_w : Fld := ⟨0x131a, 39, 0⟩
def CTL_OSC_AMP_AMP : Fld := ⟨0x131a, 39, 0⟩
/-- CTL_HAM_RATE: Table 10-4. -/
def CTL_HAM_RATE_w : Fld := ⟨0x131b, 39, 0⟩
def CTL_HAM_RATE_HRATE : Fld := ⟨0x131b, 39, 0⟩
/-- CTL_OSC_STAT: Table 10-4. -/
def CTL_OSC_STAT_w : Fld := ⟨0x131c, 39, 0⟩
def CTL_OSC_STAT_HUNTCNT : Fld := ⟨0x131c, 39, 32⟩
def CTL_OSC_STAT_HAMCNT : Fld := ⟨0x131c, 31, 24⟩
def CTL_OSC_STAT_CROSS : Fld := ⟨0x131c, 12, 8⟩
def CTL_OSC_STAT_HAM : Fld := ⟨0x131c, 1, 1⟩
def CTL_OSC_STAT_HUNT : Fld := ⟨0x131c, 0, 0⟩
/-- CTL_INJ_CFG: Table 10-5. -/
def CTL_INJ_CFG_w : Fld := ⟨0x1320, 39, 0⟩
def CTL_INJ_CFG_BITLEN : Fld := ⟨0x1320, 19, 12⟩
def CTL_INJ_CFG_STAGE : Fld := ⟨0x1320, 11, 10⟩
def CTL_INJ_CFG_POINT : Fld := ⟨0x1320, 9, 6⟩
def CTL_INJ_CFG_TYPE : Fld := ⟨0x1320, 5, 4⟩
def CTL_INJ_CFG_ORDER : Fld := ⟨0x1320, 3, 2⟩
/-- CTL_INJ_AMP: Table 10-5. -/
def CTL_INJ_AMP_w : Fld := ⟨0x1321, 39, 0⟩
def CTL_INJ_AMP_AMP : Fld := ⟨0x1321, 39, 0⟩
/-- CTL_INJ_DUR: Table 10-5. -/
def CTL_INJ_DUR_w : Fld := ⟨0x1322, 39, 0⟩
def CTL_INJ_DUR_DUR : Fld := ⟨0x1322, 23, 0⟩
/-- CTL_INJ_F0: Table 10-5. -/
def CTL_INJ_F0_w : Fld := ⟨0x1323, 39, 0⟩
def CTL_INJ_F0_F0 : Fld := ⟨0x1323, 23, 0⟩
/-- CTL_INJ_F1: Table 10-5. -/
def CTL_INJ_F1_w : Fld := ⟨0x1324, 39, 0⟩
def CTL_INJ_F1_F1 : Fld := ⟨0x1324, 23, 0⟩
/-- CTL_INJ_CTL: Table 10-5. -/
def CTL_INJ_CTL_w : Fld := ⟨0x1325, 39, 0⟩
def CTL_INJ_CTL_STOP : Fld := ⟨0x1325, 1, 1⟩
def CTL_INJ_CTL_GO : Fld := ⟨0x1325, 0, 0⟩
/-- CTL_INJ_STAT: Table 10-5. -/
def CTL_INJ_STAT_w : Fld := ⟨0x1326, 39, 0⟩
def CTL_INJ_STAT_M : Fld := ⟨0x1326, 39, 16⟩
def CTL_INJ_STAT_INJERR : Fld := ⟨0x1326, 4, 4⟩
def CTL_INJ_STAT_ABORT : Fld := ⟨0x1326, 3, 3⟩
def CTL_INJ_STAT_DONE : Fld := ⟨0x1326, 2, 2⟩
def CTL_INJ_STAT_RUN : Fld := ⟨0x1326, 0, 0⟩
/-- CTL_INJ_AMAX: Table 10-5. -/
def CTL_INJ_AMAX_w : Fld := ⟨0x1327, 39, 0⟩
def CTL_INJ_AMAX_AMAX : Fld := ⟨0x1327, 39, 0⟩
/-- CTL_INJ_V: Table 10-5. -/
def CTL_INJ_V_w : Fld := ⟨0x1328, 39, 0⟩
def CTL_INJ_V_V : Fld := ⟨0x1328, 39, 0⟩
/-- CTL_TRCb_CFG: Table 10-6. -/
def CTL_TRCb_CFG_w (b : Nat) : Fld := ⟨0x1340 + 32 * b, 39, 0⟩
def CTL_TRCb_CFG_DEC (b : Nat) : Fld := ⟨0x1340 + 32 * b, 39, 32⟩
def CTL_TRCb_CFG_PRE (b : Nat) : Fld := ⟨0x1340 + 32 * b, 31, 20⟩
def CTL_TRCb_CFG_TMODE (b : Nat) : Fld := ⟨0x1340 + 32 * b, 19, 16⟩
def CTL_TRCb_CFG_TSIG (b : Nat) : Fld := ⟨0x1340 + 32 * b, 15, 13⟩
def CTL_TRCb_CFG_EDGE (b : Nat) : Fld := ⟨0x1340 + 32 * b, 12, 11⟩
/-- CTL_TRCb_SELA: Table 10-6. -/
def CTL_TRCb_SELA_w (b : Nat) : Fld := ⟨0x1341 + 32 * b, 39, 0⟩
def CTL_TRCb_SELA_SIG (b : Nat) : Fld := ⟨0x1341 + 32 * b, 31, 0⟩
/-- CTL_TRCb_SELB: Table 10-6. -/
def CTL_TRCb_SELB_w (b : Nat) : Fld := ⟨0x1342 + 32 * b, 39, 0⟩
def CTL_TRCb_SELB_SIG (b : Nat) : Fld := ⟨0x1342 + 32 * b, 31, 0⟩
/-- CTL_TRCb_LEVEL: Table 10-6. -/
def CTL_TRCb_LEVEL_w (b : Nat) : Fld := ⟨0x1343 + 32 * b, 39, 0⟩
def CTL_TRCb_LEVEL_LEVEL (b : Nat) : Fld := ⟨0x1343 + 32 * b, 39, 0⟩
/-- CTL_TRCb_CTL: Table 10-6. -/
def CTL_TRCb_CTL_w (b : Nat) : Fld := ⟨0x1344 + 32 * b, 39, 0⟩
def CTL_TRCb_CTL_STOP (b : Nat) : Fld := ⟨0x1344 + 32 * b, 2, 2⟩
def CTL_TRCb_CTL_FORCE (b : Nat) : Fld := ⟨0x1344 + 32 * b, 1, 1⟩
def CTL_TRCb_CTL_ARM (b : Nat) : Fld := ⟨0x1344 + 32 * b, 0, 0⟩
/-- CTL_TRCb_STAT: Table 10-6. -/
def CTL_TRCb_STAT_w (b : Nat) : Fld := ⟨0x1345 + 32 * b, 39, 0⟩
def CTL_TRCb_STAT_STATE (b : Nat) : Fld := ⟨0x1345 + 32 * b, 39, 37⟩
def CTL_TRCb_STAT_TRIGROW (b : Nat) : Fld := ⟨0x1345 + 32 * b, 36, 25⟩
def CTL_TRCb_STAT_VALID (b : Nat) : Fld := ⟨0x1345 + 32 * b, 24, 12⟩
def CTL_TRCb_STAT_WPTR (b : Nat) : Fld := ⟨0x1345 + 32 * b, 11, 0⟩
/-- CTL_TRCb_GAP: Table 10-6. -/
def CTL_TRCb_GAP_w (b : Nat) : Fld := ⟨0x1346 + 32 * b, 39, 0⟩
def CTL_TRCb_GAP_GAPROW (b : Nat) : Fld := ⟨0x1346 + 32 * b, 27, 16⟩
def CTL_TRCb_GAP_GAPS (b : Nat) : Fld := ⟨0x1346 + 32 * b, 15, 0⟩
/-- CTL_TRCb_GAPT: Table 10-6. -/
def CTL_TRCb_GAPT_w (b : Nat) : Fld := ⟨0x1347 + 32 * b, 39, 0⟩
def CTL_TRCb_GAPT_TIME (b : Nat) : Fld := ⟨0x1347 + 32 * b, 39, 0⟩
/-- CTL_TRCb_GAPX: Table 10-6. -/
def CTL_TRCb_GAPX_w (b : Nat) : Fld := ⟨0x1348 + 32 * b, 39, 0⟩
def CTL_TRCb_GAPX_TRAV (b : Nat) : Fld := ⟨0x1348 + 32 * b, 39, 0⟩
/-- CTL_TRCb_RSMT: Table 10-6. -/
def CTL_TRCb_RSMT_w (b : Nat) : Fld := ⟨0x1349 + 32 * b, 39, 0⟩
def CTL_TRCb_RSMT_TIME (b : Nat) : Fld := ⟨0x1349 + 32 * b, 39, 0⟩
/-- GNB_CFG: Table 4-9. -/
def GNB_CFG_w : Fld := ⟨0x1400, 39, 0⟩
def GNB_CFG_TRAVEN : Fld := ⟨0x1400, 15, 15⟩
def GNB_CFG_ELMASK : Fld := ⟨0x1400, 14, 7⟩
def GNB_CFG_BIAS : Fld := ⟨0x1400, 6, 5⟩
def GNB_CFG_SBAS : Fld := ⟨0x1400, 4, 4⟩
def GNB_CFG_GAL : Fld := ⟨0x1400, 3, 3⟩
def GNB_CFG_GPS : Fld := ⟨0x1400, 2, 2⟩
def GNB_CFG_MODE : Fld := ⟨0x1400, 1, 0⟩
/-- GNB_STAT: Table 4-10. -/
def GNB_STAT_w : Fld := ⟨0x1401, 39, 0⟩
def GNB_STAT_HDOP : Fld := ⟨0x1401, 25, 18⟩
def GNB_STAT_EXCL : Fld := ⟨0x1401, 17, 17⟩
def GNB_STAT_ANTSHORT : Fld := ⟨0x1401, 16, 16⟩
def GNB_STAT_ANTOPEN : Fld := ⟨0x1401, 15, 15⟩
def GNB_STAT_NTRK : Fld := ⟨0x1401, 14, 9⟩
def GNB_STAT_NSV : Fld := ⟨0x1401, 8, 3⟩
def GNB_STAT_STATE : Fld := ⟨0x1401, 2, 0⟩
/-- GNB_ACQ: Table 4-11. -/
def GNB_ACQ_w : Fld := ⟨0x1402, 39, 0⟩
def GNB_ACQ_ACQTHR : Fld := ⟨0x1402, 23, 16⟩
def GNB_ACQ_DOPMAX : Fld := ⟨0x1402, 15, 11⟩
def GNB_ACQ_NC : Fld := ⟨0x1402, 10, 5⟩
def GNB_ACQ_COH : Fld := ⟨0x1402, 4, 0⟩
/-- GNB_TRK: Table 4-11. -/
def GNB_TRK_w : Fld := ⟨0x1403, 39, 0⟩
def GNB_TRK_LOSSCN : Fld := ⟨0x1403, 18, 13⟩
def GNB_TRK_DLLBW : Fld := ⟨0x1403, 12, 9⟩
def GNB_TRK_FLLBW : Fld := ⟨0x1403, 8, 5⟩
def GNB_TRK_PLLBW : Fld := ⟨0x1403, 4, 0⟩
/-- GNB_RAIM: Table 4-12. -/
def GNB_RAIM_w : Fld := ⟨0x1404, 39, 0⟩
def GNB_RAIM_FAILCNT : Fld := ⟨0x1404, 39, 24⟩
def GNB_RAIM_EXCLCNT : Fld := ⟨0x1404, 23, 8⟩
def GNB_RAIM_EXCLHOLD : Fld := ⟨0x1404, 7, 0⟩
/-- GNB_CLK: Table 4-12. -/
def GNB_CLK_w : Fld := ⟨0x1405, 39, 0⟩
def GNB_CLK_CLKFAIL : Fld := ⟨0x1405, 33, 18⟩
def GNB_CLK_CLKN : Fld := ⟨0x1405, 17, 12⟩
def GNB_CLK_CLKTHR : Fld := ⟨0x1405, 11, 0⟩
/-- GNB_CLKRES: Table 4-12. -/
def GNB_CLKRES_w : Fld := ⟨0x1406, 39, 0⟩
def GNB_CLKRES_BIAS : Fld := ⟨0x1406, 23, 0⟩
/-- GNB_JAM: Table 4-13. -/
def GNB_JAM_w : Fld := ⟨0x1407, 39, 0⟩
def GNB_JAM_AGC : Fld := ⟨0x1407, 39, 32⟩
def GNB_JAM_JAMSTOP : Fld := ⟨0x1407, 31, 24⟩
def GNB_JAM_JAMWARN : Fld := ⟨0x1407, 23, 16⟩
def GNB_JAM_JAM : Fld := ⟨0x1407, 7, 0⟩
/-- GNB_NOTCHk: Table 4-14. -/
def GNB_NOTCHk_w (k : Nat) : Fld := ⟨0x1408 + k, 39, 0⟩
def GNB_NOTCHk_ACT (k : Nat) : Fld := ⟨0x1408 + k, 24, 24⟩
def GNB_NOTCHk_PWR (k : Nat) : Fld := ⟨0x1408 + k, 23, 16⟩
def GNB_NOTCHk_FREQ (k : Nat) : Fld := ⟨0x1408 + k, 15, 0⟩
/-- GNB_NCFG: Table 4-14. -/
def GNB_NCFG_w : Fld := ⟨0x140c, 39, 0⟩
def GNB_NCFG_OVF : Fld := ⟨0x140c, 23, 8⟩
def GNB_NCFG_WIDTH : Fld := ⟨0x140c, 7, 6⟩
def GNB_NCFG_THR : Fld := ⟨0x140c, 5, 1⟩
def GNB_NCFG_EN : Fld := ⟨0x140c, 0, 0⟩
/-- GNB_REFLAT: Table 4-15. -/
def GNB_REFLAT_w : Fld := ⟨0x140d, 39, 0⟩
def GNB_REFLAT_LAT : Fld := ⟨0x140d, 39, 0⟩
/-- GNB_REFLON: Table 4-15. -/
def GNB_REFLON_w : Fld := ⟨0x140e, 39, 0⟩
def GNB_REFLON_LON : Fld := ⟨0x140e, 39, 0⟩
/-- GNB_REFHGT: Table 4-15. -/
def GNB_REFHGT_w : Fld := ⟨0x140f, 39, 0⟩
def GNB_REFHGT_HGT : Fld := ⟨0x140f, 39, 0⟩
/-- GNB_AXIS: Table 4-15. -/
def GNB_AXIS_w : Fld := ⟨0x1410, 39, 0⟩
def GNB_AXIS_AXIS : Fld := ⟨0x1410, 39, 0⟩
/-- GNB_GTRAV: Table 4-15. -/
def GNB_GTRAV_w : Fld := ⟨0x1412, 39, 0⟩
def GNB_GTRAV_TRAV : Fld := ⟨0x1412, 39, 0⟩
/-- GNB_GFIXT: Table 4-15. -/
def GNB_GFIXT_w : Fld := ⟨0x1413, 39, 0⟩
def GNB_GFIXT_TIME : Fld := ⟨0x1413, 39, 0⟩
/-- GNB_GSPEED: Table 4-15. -/
def GNB_GSPEED_w : Fld := ⟨0x1414, 39, 0⟩
def GNB_GSPEED_SPEED : Fld := ⟨0x1414, 39, 0⟩
/-- GNB_ANCH: Table 4-15. -/
def GNB_ANCH_w : Fld := ⟨0x1415, 39, 0⟩
def GNB_ANCH_ANCHOR : Fld := ⟨0x1415, 16, 16⟩
def GNB_ANCH_ANCHORS : Fld := ⟨0x1415, 15, 0⟩
/-- GNB_SNAPCFG: Table 4-16. -/
def GNB_SNAPCFG_w : Fld := ⟨0x1418, 39, 0⟩
def GNB_SNAPCFG_PERIOD : Fld := ⟨0x1418, 32, 21⟩
def GNB_SNAPCFG_MAXAGE : Fld := ⟨0x1418, 14, 8⟩
def GNB_SNAPCFG_DUR : Fld := ⟨0x1418, 4, 0⟩
/-- GNB_SNAPSTAT: Table 4-16. -/
def GNB_SNAPSTAT_w : Fld := ⟨0x1419, 39, 0⟩
def GNB_SNAPSTAT_REFUSED : Fld := ⟨0x1419, 39, 25⟩
def GNB_SNAPSTAT_CAPTURES : Fld := ⟨0x1419, 24, 9⟩
def GNB_SNAPSTAT_FREEKB : Fld := ⟨0x1419, 8, 0⟩
/-- GNB_SNAPREQ: Table 4-16. -/
def GNB_SNAPREQ_w : Fld := ⟨0x141a, 39, 0⟩
def GNB_SNAPREQ_TCAP : Fld := ⟨0x141a, 39, 0⟩
/-- GNB_GEOCFG: Table 4-16. -/
def GNB_GEOCFG_w : Fld := ⟨0x141b, 39, 0⟩
def GNB_GEOCFG_ZEROCAL : Fld := ⟨0x141b, 28, 28⟩
def GNB_GEOCFG_GEOMAX : Fld := ⟨0x141b, 27, 16⟩
def GNB_GEOCFG_RATIO : Fld := ⟨0x141b, 15, 10⟩
def GNB_GEOCFG_SPANTOL : Fld := ⟨0x141b, 9, 0⟩
/-- GNB_GEOSTAT: Table 4-16. -/
def GNB_GEOSTAT_w : Fld := ⟨0x141c, 39, 0⟩
def GNB_GEOSTAT_FIXED : Fld := ⟨0x141c, 37, 22⟩
def GNB_GEOSTAT_STALE : Fld := ⟨0x141c, 21, 6⟩
def GNB_GEOSTAT_QLEN : Fld := ⟨0x141c, 5, 0⟩
/-- GNB_CHk: Table 4-17. -/
def GNB_CHk_w (k : Nat) : Fld := ⟨0x1440 + k, 39, 0⟩
def GNB_CHk_SLIP (k : Nat) : Fld := ⟨0x1440 + k, 26, 26⟩
def GNB_CHk_EXCL (k : Nat) : Fld := ⟨0x1440 + k, 25, 25⟩
def GNB_CHk_USED (k : Nat) : Fld := ⟨0x1440 + k, 24, 24⟩
def GNB_CHk_EL (k : Nat) : Fld := ⟨0x1440 + k, 23, 17⟩
def GNB_CHk_CN0 (k : Nat) : Fld := ⟨0x1440 + k, 16, 11⟩
def GNB_CHk_STATE (k : Nat) : Fld := ⟨0x1440 + k, 10, 8⟩
def GNB_CHk_SV (k : Nat) : Fld := ⟨0x1440 + k, 7, 0⟩
/-- GNB_TWRk_CFG: Table 4-18. -/
def GNB_TWRk_CFG_w (k : Nat) : Fld := ⟨0x1480 + 4 * k, 39, 0⟩
def GNB_TWRk_CFG_CROSS (k : Nat) : Fld := ⟨0x1480 + 4 * k, 39, 31⟩
def GNB_TWRk_CFG_LEN (k : Nat) : Fld := ⟨0x1480 + 4 * k, 30, 7⟩
def GNB_TWRk_CFG_PREV (k : Nat) : Fld := ⟨0x1480 + 4 * k, 6, 1⟩
def GNB_TWRk_CFG_EN (k : Nat) : Fld := ⟨0x1480 + 4 * k, 0, 0⟩
/-- GNB_TWRk_E: Table 4-18. -/
def GNB_TWRk_E_w (k : Nat) : Fld := ⟨0x1481 + 4 * k, 39, 0⟩
def GNB_TWRk_E_EAST (k : Nat) : Fld := ⟨0x1481 + 4 * k, 39, 16⟩
def GNB_TWRk_E_AGE (k : Nat) : Fld := ⟨0x1481 + 4 * k, 15, 0⟩
/-- GNB_TWRk_N: Table 4-18. -/
def GNB_TWRk_N_w (k : Nat) : Fld := ⟨0x1482 + 4 * k, 39, 0⟩
def GNB_TWRk_N_NORTH (k : Nat) : Fld := ⟨0x1482 + 4 * k, 39, 16⟩
def GNB_TWRk_N_NSV (k : Nat) : Fld := ⟨0x1482 + 4 * k, 15, 10⟩
def GNB_TWRk_N_RATIO (k : Nat) : Fld := ⟨0x1482 + 4 * k, 9, 4⟩
def GNB_TWRk_N_STATUS (k : Nat) : Fld := ⟨0x1482 + 4 * k, 3, 0⟩
/-- GNB_TWRk_OFF: Table 4-18. -/
def GNB_TWRk_OFF_w (k : Nat) : Fld := ⟨0x1483 + 4 * k, 39, 0⟩
def GNB_TWRk_OFF_OFF (k : Nat) : Fld := ⟨0x1483 + 4 * k, 39, 0⟩
/-- SLK_CFG: Table 12-13. -/
def SLK_CFG_w : Fld := ⟨0x1600, 39, 0⟩
def SLK_CFG_RXRETRY : Fld := ⟨0x1600, 39, 32⟩
def SLK_CFG_CWMAXE : Fld := ⟨0x1600, 31, 28⟩
def SLK_CFG_CWMINC : Fld := ⟨0x1600, 27, 24⟩
def SLK_CFG_CWMINB : Fld := ⟨0x1600, 23, 20⟩
def SLK_CFG_RETRY : Fld := ⟨0x1600, 19, 16⟩
def SLK_CFG_PSEND : Fld := ⟨0x1600, 5, 5⟩
def SLK_CFG_BAND : Fld := ⟨0x1600, 3, 2⟩
def SLK_CFG_EN : Fld := ⟨0x1600, 0, 0⟩
/-- SLK_PHY: Table 12-13. -/
def SLK_PHY_w : Fld := ⟨0x1601, 39, 0⟩
def SLK_PHY_TXLVL : Fld := ⟨0x1601, 31, 24⟩
def SLK_PHY_CSTHR : Fld := ⟨0x1601, 23, 16⟩
def SLK_PHY_MARGIN : Fld := ⟨0x1601, 15, 8⟩
def SLK_PHY_MAXRATE : Fld := ⟨0x1601, 6, 4⟩
def SLK_PHY_BCRATE : Fld := ⟨0x1601, 2, 0⟩
/-- SLK_STAT: Table 12-13. -/
def SLK_STAT_w : Fld := ⟨0x1602, 39, 0⟩
def SLK_STAT_NOISE : Fld := ⟨0x1602, 39, 32⟩
def SLK_STAT_JAMCS : Fld := ⟨0x1602, 31, 24⟩
def SLK_STAT_SEQ : Fld := ⟨0x1602, 23, 8⟩
def SLK_STAT_CSIGN : Fld := ⟨0x1602, 3, 3⟩
def SLK_STAT_TXBUSY : Fld := ⟨0x1602, 2, 2⟩
/-- SLK_CNTA: Table 12-13. -/
def SLK_CNTA_w : Fld := ⟨0x1603, 39, 0⟩
def SLK_CNTA_STRANGER : Fld := ⟨0x1603, 31, 16⟩
def SLK_CNTA_FORGER : Fld := ⟨0x1603, 15, 0⟩
/-- SLK_CNTB: Table 12-13. -/
def SLK_CNTB_w : Fld := ⟨0x1604, 39, 0⟩
def SLK_CNTB_CRCERR : Fld := ⟨0x1604, 31, 16⟩
def SLK_CNTB_FCERR : Fld := ⟨0x1604, 15, 0⟩
/-- SLK_CNTC: Table 12-13. -/
def SLK_CNTC_w : Fld := ⟨0x1605, 39, 0⟩
def SLK_CNTC_DUP : Fld := ⟨0x1605, 31, 16⟩
def SLK_CNTC_STALE : Fld := ⟨0x1605, 15, 0⟩
/-- SLK_CNTD: Table 12-13. -/
def SLK_CNTD_w : Fld := ⟨0x1606, 39, 0⟩
def SLK_CNTD_NOKEY : Fld := ⟨0x1606, 31, 16⟩
def SLK_CNTD_FORMERR : Fld := ⟨0x1606, 15, 0⟩
/-- SLK_CNTE: Table 12-13. -/
def SLK_CNTE_w : Fld := ⟨0x1607, 39, 0⟩
def SLK_CNTE_RXFULL : Fld := ⟨0x1607, 31, 16⟩
def SLK_CNTE_NOACK : Fld := ⟨0x1607, 15, 0⟩
/-- SLK_CNTF: Table 12-13. -/
def SLK_CNTF_w : Fld := ⟨0x1608, 39, 0⟩
def SLK_CNTF_TXOK : Fld := ⟨0x1608, 31, 16⟩
def SLK_CNTF_TXFAIL : Fld := ⟨0x1608, 15, 0⟩
/-- SLK_CNTG: Table 12-13. -/
def SLK_CNTG_w : Fld := ⟨0x1609, 39, 0⟩
def SLK_CNTG_TXABORT : Fld := ⟨0x1609, 31, 16⟩
def SLK_CNTG_LATEACK : Fld := ⟨0x1609, 15, 0⟩
/-- SLK_ERR: Table 12-13. -/
def SLK_ERR_w : Fld := ⟨0x160a, 39, 0⟩
def SLK_ERR_RWCNT : Fld := ⟨0x160a, 39, 24⟩
def SLK_ERR_ERRLOST : Fld := ⟨0x160a, 23, 8⟩
def SLK_ERR_DELFAIL : Fld := ⟨0x160a, 1, 1⟩
def SLK_ERR_RWFAIL : Fld := ⟨0x160a, 0, 0⟩
/-- SLK_BCN: Table 12-13. -/
def SLK_BCN_w : Fld := ⟨0x160b, 39, 0⟩
def SLK_BCN_EPOCH : Fld := ⟨0x160b, 39, 8⟩
def SLK_BCN_BCNLOW : Fld := ⟨0x160b, 7, 0⟩
/-- SLK_HCMD: Table 12-13. -/
def SLK_HCMD_w : Fld := ⟨0x1610, 39, 0⟩
def SLK_HCMD_DST : Fld := ⟨0x1610, 39, 34⟩
def SLK_HCMD_CLASS : Fld := ⟨0x1610, 33, 30⟩
def SLK_HCMD_LEN : Fld := ⟨0x1610, 29, 22⟩
def SLK_HCMD_SEND : Fld := ⟨0x1610, 0, 0⟩
/-- SLK_HSTAT: Table 12-13. -/
def SLK_HSTAT_w : Fld := ⟨0x1611, 39, 0⟩
def SLK_HSTAT_BUSY : Fld := ⟨0x1611, 39, 39⟩
def SLK_HSTAT_RES : Fld := ⟨0x1611, 38, 35⟩
def SLK_HSTAT_ADM : Fld := ⟨0x1611, 34, 32⟩
def SLK_HSTAT_RETRY : Fld := ⟨0x1611, 31, 16⟩
def SLK_HSTAT_SEQ : Fld := ⟨0x1611, 15, 0⟩
/-- SLK_HBUFi: Table 12-13. -/
def SLK_HBUFi_w (i : Nat) : Fld := ⟨0x1620 + i, 39, 0⟩
def SLK_HBUFi_DATA (i : Nat) : Fld := ⟨0x1620 + i, 39, 0⟩
/-- SLK_PEERp_LNK: Table 12-13. -/
def SLK_PEERp_LNK_w (p : Nat) : Fld := ⟨0x1680 + 2 * p, 39, 0⟩
def SLK_PEERp_LNK_RATE (p : Nat) : Fld := ⟨0x1680 + 2 * p, 39, 37⟩
def SLK_PEERp_LNK_SNR (p : Nat) : Fld := ⟨0x1680 + 2 * p, 36, 29⟩
def SLK_PEERp_LNK_HSEQ (p : Nat) : Fld := ⟨0x1680 + 2 * p, 28, 13⟩
def SLK_PEERp_LNK_KEYID (p : Nat) : Fld := ⟨0x1680 + 2 * p, 12, 11⟩
def SLK_PEERp_LNK_SESS (p : Nat) : Fld := ⟨0x1680 + 2 * p, 10, 10⟩
/-- SLK_PEERp_WIN: Table 12-13. -/
def SLK_PEERp_WIN_w (p : Nat) : Fld := ⟨0x1681 + 2 * p, 39, 0⟩
def SLK_PEERp_WIN_MAP (p : Nat) : Fld := ⟨0x1681 + 2 * p, 31, 0⟩
/-- BMV_STAT: Table 15-6. -/
def BMV_STAT_w : Fld := ⟨0x1700, 39, 0⟩
def BMV_STAT_POISON : Fld := ⟨0x1700, 39, 24⟩
def BMV_STAT_BUSY : Fld := ⟨0x1700, 7, 0⟩
/-- BMV_Dn_CTL: Table 15-7. -/
def BMV_Dn_CTL_w (n : Nat) : Fld := ⟨0x1710 + 8 * n, 39, 0⟩
def BMV_Dn_CTL_STERR (n : Nat) : Fld := ⟨0x1710 + 8 * n, 6, 6⟩
def BMV_Dn_CTL_HALT (n : Nat) : Fld := ⟨0x1710 + 8 * n, 5, 5⟩
def BMV_Dn_CTL_CDONE (n : Nat) : Fld := ⟨0x1710 + 8 * n, 4, 4⟩
def BMV_Dn_CTL_STATE (n : Nat) : Fld := ⟨0x1710 + 8 * n, 3, 2⟩
def BMV_Dn_CTL_STOP (n : Nat) : Fld := ⟨0x1710 + 8 * n, 1, 1⟩
def BMV_Dn_CTL_START (n : Nat) : Fld := ⟨0x1710 + 8 * n, 0, 0⟩
/-- BMV_Dn_W0: Table 15-7. -/
def BMV_Dn_W0_w (n : Nat) : Fld := ⟨0x1711 + 8 * n, 39, 0⟩
def BMV_Dn_W0_DESC (n : Nat) : Fld := ⟨0x1711 + 8 * n, 39, 0⟩
/-- BMV_Dn_W1: Table 15-7. -/
def BMV_Dn_W1_w (n : Nat) : Fld := ⟨0x1712 + 8 * n, 39, 0⟩
def BMV_Dn_W1_DESC (n : Nat) : Fld := ⟨0x1712 + 8 * n, 39, 0⟩
/-- BMV_Dn_W2: Table 15-7. -/
def BMV_Dn_W2_w (n : Nat) : Fld := ⟨0x1713 + 8 * n, 39, 0⟩
def BMV_Dn_W2_DESC (n : Nat) : Fld := ⟨0x1713 + 8 * n, 39, 0⟩
/-- BMV_Dn_W3: Table 15-7. -/
def BMV_Dn_W3_w (n : Nat) : Fld := ⟨0x1714 + 8 * n, 39, 0⟩
def BMV_Dn_W3_DESC (n : Nat) : Fld := ⟨0x1714 + 8 * n, 39, 0⟩
/-- BMV_Dn_DONE: Table 15-7. -/
def BMV_Dn_DONE_w (n : Nat) : Fld := ⟨0x1715 + 8 * n, 39, 0⟩
def BMV_Dn_DONE_RETRY (n : Nat) : Fld := ⟨0x1715 + 8 * n, 39, 24⟩
def BMV_Dn_DONE_BYTES (n : Nat) : Fld := ⟨0x1715 + 8 * n, 18, 0⟩
/-- BMV_Dn_CNT: Table 15-7. -/
def BMV_Dn_CNT_w (n : Nat) : Fld := ⟨0x1716 + 8 * n, 39, 0⟩
def BMV_Dn_CNT_DESCS (n : Nat) : Fld := ⟨0x1716 + 8 * n, 39, 24⟩
def BMV_Dn_CNT_POISON (n : Nat) : Fld := ⟨0x1716 + 8 * n, 15, 0⟩
/-- MIN_CFG: Table 16-4. -/
def MIN_CFG_w : Fld := ⟨0x1780, 39, 0⟩
def MIN_CFG_MARCHALL : Fld := ⟨0x1780, 8, 8⟩
def MIN_CFG_PATEN : Fld := ⟨0x1780, 4, 4⟩
def MIN_CFG_RATE : Fld := ⟨0x1780, 3, 0⟩
/-- MIN_STAT: Table 16-4. -/
def MIN_STAT_w : Fld := ⟨0x1781, 39, 0⟩
def MIN_STAT_MTWORDS : Fld := ⟨0x1781, 39, 16⟩
def MIN_STAT_MTRAN : Fld := ⟨0x1781, 2, 2⟩
def MIN_STAT_MTFAIL : Fld := ⟨0x1781, 1, 1⟩
/-- MIN_MTADDR: Table 16-4. -/
def MIN_MTADDR_w : Fld := ⟨0x1782, 39, 0⟩
def MIN_MTADDR_SNAP : Fld := ⟨0x1782, 18, 18⟩
def MIN_MTADDR_ROW : Fld := ⟨0x1782, 17, 0⟩
/-- MIN_ERRCNT: Table 16-4. -/
def MIN_ERRCNT_w : Fld := ⟨0x1783, 39, 0⟩
def MIN_ERRCNT_PARERR : Fld := ⟨0x1783, 39, 24⟩
def MIN_ERRCNT_PATERR : Fld := ⟨0x1783, 23, 8⟩
/-- MIN_POISCNT: Table 16-4. -/
def MIN_POISCNT_w : Fld := ⟨0x1784, 39, 0⟩
def MIN_POISCNT_POISRD : Fld := ⟨0x1784, 39, 24⟩
/-- MIN_LASTERR: Table 16-4. -/
def MIN_LASTERR_w : Fld := ⟨0x1785, 39, 0⟩
def MIN_LASTERR_SNAP : Fld := ⟨0x1785, 39, 39⟩
def MIN_LASTERR_REQ : Fld := ⟨0x1785, 35, 32⟩
def MIN_LASTERR_BYTES : Fld := ⟨0x1785, 28, 24⟩
def MIN_LASTERR_ADDR : Fld := ⟨0x1785, 23, 0⟩
/-- MIN_FLAGS: Table 16-4. -/
def MIN_FLAGS_w : Fld := ⟨0x1786, 39, 0⟩
def MIN_FLAGS_SPPOIS : Fld := ⟨0x1786, 1, 1⟩
def MIN_FLAGS_PERR : Fld := ⟨0x1786, 0, 0⟩
/-- MIN_DADDR: Table 16-4. -/
def MIN_DADDR_w : Fld := ⟨0x1788, 39, 0⟩
def MIN_DADDR_ADDR : Fld := ⟨0x1788, 23, 0⟩
/-- MIN_DDATA: Table 16-4. -/
def MIN_DDATA_w : Fld := ⟨0x1789, 39, 0⟩
def MIN_DDATA_DATA : Fld := ⟨0x1789, 39, 0⟩
/-- MIN_DCHK: Table 16-4. -/
def MIN_DCHK_w : Fld := ⟨0x178a, 39, 0⟩
def MIN_DCHK_POIS : Fld := ⟨0x178a, 5, 5⟩
def MIN_DCHK_PAR : Fld := ⟨0x178a, 4, 0⟩
/-- MIN_DCTL: Table 16-4. -/
def MIN_DCTL_w : Fld := ⟨0x178b, 39, 0⟩
def MIN_DCTL_DERR : Fld := ⟨0x178b, 2, 2⟩
def MIN_DCTL_READ : Fld := ⟨0x178b, 1, 1⟩
def MIN_DCTL_WRITE : Fld := ⟨0x178b, 0, 0⟩
/-- MIN_PATPOS: Table 16-4. -/
def MIN_PATPOS_w : Fld := ⟨0x178c, 39, 0⟩
def MIN_PATPOS_SWEEPS : Fld := ⟨0x178c, 39, 24⟩
def MIN_PATPOS_ROW : Fld := ⟨0x178c, 17, 0⟩
/-- SER_PPn_CFG: Table 17-6. -/
def SER_PPn_CFG_w (n : Nat) : Fld := ⟨0x17c0 + n, 39, 0⟩
def SER_PPn_CFG_GAP (n : Nat) : Fld := ⟨0x17c0 + n, 39, 32⟩
def SER_PPn_CFG_CSLAG (n : Nat) : Fld := ⟨0x17c0 + n, 31, 24⟩
def SER_PPn_CFG_CSLEAD (n : Nat) : Fld := ⟨0x17c0 + n, 23, 16⟩
def SER_PPn_CFG_DIV (n : Nat) : Fld := ⟨0x17c0 + n, 15, 8⟩
def SER_PPn_CFG_LSBF (n : Nat) : Fld := ⟨0x17c0 + n, 4, 4⟩
def SER_PPn_CFG_MODE (n : Nat) : Fld := ⟨0x17c0 + n, 1, 0⟩
/-- SER_PPn_PROF: Table 17-6. -/
def SER_PPn_PROF_w (n : Nat) : Fld := ⟨0x17c4 + n, 39, 0⟩
def SER_PPn_PROF_OPEN (n : Nat) : Fld := ⟨0x17c4 + n, 39, 39⟩
def SER_PPn_PROF_ADDRB (n : Nat) : Fld := ⟨0x17c4 + n, 38, 36⟩
def SER_PPn_PROF_DUMMY (n : Nat) : Fld := ⟨0x17c4 + n, 35, 32⟩
def SER_PPn_PROF_WROP (n : Nat) : Fld := ⟨0x17c4 + n, 31, 24⟩
def SER_PPn_PROF_RDOP (n : Nat) : Fld := ⟨0x17c4 + n, 23, 16⟩
/-- SER_PP_RAW: Table 17-6. -/
def SER_PP_RAW_w : Fld := ⟨0x17c8, 39, 0⟩
def SER_PP_RAW_SEL : Fld := ⟨0x17c8, 23, 22⟩
def SER_PP_RAW_UNITM1 : Fld := ⟨0x17c8, 21, 17⟩
def SER_PP_RAW_NM1 : Fld := ⟨0x17c8, 16, 15⟩
def SER_PP_RAW_BUSY : Fld := ⟨0x17c8, 1, 1⟩
def SER_PP_RAW_GO : Fld := ⟨0x17c8, 0, 0⟩
/-- SER_PP_TXk: Table 17-6. -/
def SER_PP_TXk_w (k : Nat) : Fld := ⟨0x17cc + k, 39, 0⟩
def SER_PP_TXk_TX (k : Nat) : Fld := ⟨0x17cc + k, 31, 0⟩
/-- SER_PP_RXk: Table 17-6. -/
def SER_PP_RXk_w (k : Nat) : Fld := ⟨0x17d0 + k, 39, 0⟩
def SER_PP_RXk_RX (k : Nat) : Fld := ⟨0x17d0 + k, 31, 0⟩
/-- SER_PP_STAT: Table 17-6. -/
def SER_PP_STAT_w : Fld := ⟨0x17d4, 39, 0⟩
def SER_PP_STAT_TRANS : Fld := ⟨0x17d4, 39, 24⟩
def SER_PP_STAT_PTMOCNT : Fld := ⟨0x17d4, 23, 16⟩
def SER_PP_STAT_OWNER : Fld := ⟨0x17d4, 13, 11⟩
def SER_PP_STAT_OWNCH : Fld := ⟨0x17d4, 10, 8⟩
def SER_PP_STAT_RAWWHY : Fld := ⟨0x17d4, 4, 3⟩
def SER_PP_STAT_RAWERR : Fld := ⟨0x17d4, 2, 2⟩
def SER_PP_STAT_PTMO : Fld := ⟨0x17d4, 1, 1⟩
/-- SER_PP_JEDEC: Table 17-6. -/
def SER_PP_JEDEC_w : Fld := ⟨0x17d5, 39, 0⟩
def SER_PP_JEDEC_ID : Fld := ⟨0x17d5, 23, 0⟩
/-- SER_SP_CNTA: Table 17-6. -/
def SER_SP_CNTA_w : Fld := ⟨0x17e0, 39, 0⟩
def SER_SP_CNTA_FRAMES : Fld := ⟨0x17e0, 31, 16⟩
def SER_SP_CNTA_ABORTS : Fld := ⟨0x17e0, 15, 0⟩
/-- SER_SP_CNTB: Table 17-6. -/
def SER_SP_CNTB_w : Fld := ⟨0x17e1, 39, 0⟩
def SER_SP_CNTB_BUSYS : Fld := ⟨0x17e1, 31, 16⟩
def SER_SP_CNTB_REFUSED : Fld := ⟨0x17e1, 15, 0⟩
/-- SER_SP_STAT: Table 17-6. -/
def SER_SP_STAT_w : Fld := ⟨0x17e2, 39, 0⟩
def SER_SP_STAT_MODE3 : Fld := ⟨0x17e2, 0, 0⟩
/-- LDG_CFG: Table 11-6. -/
def LDG_CFG_w : Fld := ⟨0x1800, 39, 0⟩
def LDG_CFG_DCH : Fld := ⟨0x1800, 12, 10⟩
def LDG_CFG_PERIOD : Fld := ⟨0x1800, 9, 0⟩
/-- LDG_STAT: Table 11-6. -/
def LDG_STAT_w : Fld := ⟨0x1801, 39, 0⟩
def LDG_STAT_COMMITS : Fld := ⟨0x1801, 39, 24⟩
def LDG_STAT_FAILS : Fld := ⟨0x1801, 23, 16⟩
def LDG_STAT_BOOTRES : Fld := ⟨0x1801, 9, 8⟩
def LDG_STAT_LAST : Fld := ⟨0x1801, 6, 6⟩
def LDG_STAT_PEND : Fld := ⟨0x1801, 5, 5⟩
def LDG_STAT_CFAIL : Fld := ⟨0x1801, 4, 4⟩
def LDG_STAT_STEP : Fld := ⟨0x1801, 2, 0⟩
/-- LDG_SEQ: Table 11-6. -/
def LDG_SEQ_w : Fld := ⟨0x1802, 39, 0⟩
def LDG_SEQ_SEQ : Fld := ⟨0x1802, 31, 0⟩
/-- LDG_CTL: Table 11-6. -/
def LDG_CTL_w : Fld := ⟨0x1803, 39, 0⟩
def LDG_CTL_COMMIT : Fld := ⟨0x1803, 0, 0⟩
/-- LDG_SLOTA: Table 11-6. -/
def LDG_SLOTA_w : Fld := ⟨0x1804, 39, 0⟩
def LDG_SLOTA_ADDR : Fld := ⟨0x1804, 31, 0⟩
/-- LDG_SLOTB: Table 11-6. -/
def LDG_SLOTB_w : Fld := ⟨0x1805, 39, 0⟩
def LDG_SLOTB_ADDR : Fld := ⟨0x1805, 31, 0⟩
/-- LDG_RDCTL: Table 11-6. -/
def LDG_RDCTL_w : Fld := ⟨0x1806, 39, 0⟩
def LDG_RDCTL_SEL : Fld := ⟨0x1806, 11, 11⟩
def LDG_RDCTL_PTR : Fld := ⟨0x1806, 10, 0⟩
/-- LDG_RDDATA: Table 11-6. -/
def LDG_RDDATA_w : Fld := ⟨0x1807, 39, 0⟩
def LDG_RDDATA_DATA : Fld := ⟨0x1807, 31, 0⟩
/-- LDG_PCFG: Table 11-6. -/
def LDG_PCFG_w : Fld := ⟨0x1808, 39, 0⟩
def LDG_PCFG_PNOM : Fld := ⟨0x1808, 31, 16⟩
def LDG_PCFG_PNODE : Fld := ⟨0x1808, 13, 8⟩
def LDG_PCFG_SRC : Fld := ⟨0x1808, 3, 0⟩
/-- LDG_PSCALE: Table 11-6. -/
def LDG_PSCALE_w : Fld := ⟨0x1809, 39, 0⟩
def LDG_PSCALE_PGAIN : Fld := ⟨0x1809, 39, 16⟩
def LDG_PSCALE_POFF : Fld := ⟨0x1809, 15, 0⟩
/-- LDG_PLINE: Table 11-6. -/
def LDG_PLINE_w : Fld := ⟨0x180a, 39, 0⟩
def LDG_PLINE_STALE : Fld := ⟨0x180a, 16, 16⟩
def LDG_PLINE_P : Fld := ⟨0x180a, 15, 0⟩
/-- LDG_WARN: Table 11-6. -/
def LDG_WARN_w : Fld := ⟨0x180b, 39, 0⟩
def LDG_WARN_WARN : Fld := ⟨0x180b, 39, 0⟩
/-- LDG_CF: Table 11-6. -/
def LDG_CF_w : Fld := ⟨0x180c, 39, 0⟩
def LDG_CF_CF : Fld := ⟨0x180c, 31, 0⟩
/-- LDG_CFDAY: Table 11-6. -/
def LDG_CFDAY_w : Fld := ⟨0x180d, 39, 0⟩
def LDG_CFDAY_AGE : Fld := ⟨0x180d, 31, 16⟩
def LDG_CFDAY_DAY : Fld := ⟨0x180d, 15, 0⟩
/-- LDG_RAW: Table 11-6. -/
def LDG_RAW_w : Fld := ⟨0x180e, 39, 0⟩
def LDG_RAW_RAW : Fld := ⟨0x180e, 39, 0⟩
/-- LDG_DAYOFF: Table 11-6. -/
def LDG_DAYOFF_w : Fld := ⟨0x180f, 39, 0⟩
def LDG_DAYOFF_DAYOFF : Fld := ⟨0x180f, 16, 0⟩
/-- LDG_REC: Table 11-6. -/
def LDG_REC_w : Fld := ⟨0x1810, 39, 0⟩
def LDG_REC_CFMAX : Fld := ⟨0x1810, 35, 24⟩
def LDG_REC_CFMIN : Fld := ⟨0x1810, 23, 12⟩
def LDG_REC_DMIN : Fld := ⟨0x1810, 11, 4⟩
def LDG_REC_MACT : Fld := ⟨0x1810, 3, 2⟩
def LDG_REC_FPSEL : Fld := ⟨0x1810, 1, 1⟩
def LDG_REC_REN : Fld := ⟨0x1810, 0, 0⟩
/-- LDG_MLPP: Table 11-6. -/
def LDG_MLPP_w : Fld := ⟨0x1811, 39, 0⟩
def LDG_MLPP_MLPP : Fld := ⟨0x1811, 31, 0⟩
/-- LDG_MUSE: Table 11-6. -/
def LDG_MUSE_w : Fld := ⟨0x1812, 39, 0⟩
def LDG_MUSE_MUSE : Fld := ⟨0x1812, 39, 0⟩
/-- LDG_MLIMIT: Table 11-6. -/
def LDG_MLIMIT_w : Fld := ⟨0x1813, 39, 0⟩
def LDG_MLIMIT_MLIMIT : Fld := ⟨0x1813, 39, 0⟩
/-- LDG_MSTAT: Table 11-6. -/
def LDG_MSTAT_w : Fld := ⟨0x1814, 39, 0⟩
def LDG_MSTAT_DPULSE : Fld := ⟨0x1814, 39, 8⟩
def LDG_MSTAT_MEXH : Fld := ⟨0x1814, 0, 0⟩
/-- LDG_PYSCALE: Table 11-6. -/
def LDG_PYSCALE_w : Fld := ⟨0x1815, 39, 0⟩
def LDG_PYSCALE_YGAIN : Fld := ⟨0x1815, 31, 0⟩
/-- LDG_ZACTk: Table 11-6. -/
def LDG_ZACTk_w (k : Nat) : Fld := ⟨0x1820 + k, 39, 0⟩
def LDG_ZACTk_ACT (k : Nat) : Fld := ⟨0x1820 + k, 31, 0⟩
/-- LDG_EXHk: Table 11-6. -/
def LDG_EXHk_w (k : Nat) : Fld := ⟨0x1824 + k, 39, 0⟩
def LDG_EXHk_EXH (k : Nat) : Fld := ⟨0x1824 + k, 31, 0⟩
/-- LDG_WRNk: Table 11-6. -/
def LDG_WRNk_w (k : Nat) : Fld := ⟨0x1826 + k, 39, 0⟩
def LDG_WRNk_WRN (k : Nat) : Fld := ⟨0x1826 + k, 31, 0⟩
/-- LDG_DROPk: Table 11-6. -/
def LDG_DROPk_w (k : Nat) : Fld := ⟨0x1828 + k, 39, 0⟩
def LDG_DROPk_DROP1 (k : Nat) : Fld := ⟨0x1828 + k, 31, 16⟩
def LDG_DROPk_DROP0 (k : Nat) : Fld := ⟨0x1828 + k, 15, 0⟩
/-- LDG_VOLz: Table 11-6. -/
def LDG_VOLz_w (z : Nat) : Fld := ⟨0x1840 + z, 39, 0⟩
def LDG_VOLz_VOL (z : Nat) : Fld := ⟨0x1840 + z, 39, 0⟩
/-- LDG_LIMz: Table 11-6. -/
def LDG_LIMz_w (z : Nat) : Fld := ⟨0x1880 + z, 39, 0⟩
def LDG_LIMz_LIMIT (z : Nat) : Fld := ⟨0x1880 + z, 39, 0⟩
/-- LDG_ESTz: Table 11-6. -/
def LDG_ESTz_w (z : Nat) : Fld := ⟨0x18c0 + z, 39, 0⟩
def LDG_ESTz_EST (z : Nat) : Fld := ⟨0x18c0 + z, 39, 0⟩
/-- KEY_STAT: Table 13-6. -/
def KEY_STAT_w : Fld := ⟨0x1900, 39, 0⟩
def KEY_STAT_GGEN : Fld := ⟨0x1900, 5, 4⟩
def KEY_STAT_GKEY : Fld := ⟨0x1900, 3, 3⟩
def KEY_STAT_KXBUSY : Fld := ⟨0x1900, 2, 2⟩
def KEY_STAT_ENROLLED : Fld := ⟨0x1900, 1, 1⟩
def KEY_STAT_BOUND : Fld := ⟨0x1900, 0, 0⟩
/-- KEY_CFG: Table 13-6. -/
def KEY_CFG_w : Fld := ⟨0x1901, 39, 0⟩
def KEY_CFG_ENRRX : Fld := ⟨0x1901, 8, 8⟩
def KEY_CFG_REKEY : Fld := ⟨0x1901, 7, 0⟩
/-- KEY_CNT: Table 13-6. -/
def KEY_CNT_w : Fld := ⟨0x1902, 39, 0⟩
def KEY_CNT_KXOK : Fld := ⟨0x1902, 31, 16⟩
def KEY_CNT_KXFAIL : Fld := ⟨0x1902, 15, 0⟩
/-- KEY_OWNIDH: Table 13-6. -/
def KEY_OWNIDH_w : Fld := ⟨0x1904, 39, 0⟩
def KEY_OWNIDH_OWNID : Fld := ⟨0x1904, 31, 0⟩
/-- KEY_OWNIDL: Table 13-6. -/
def KEY_OWNIDL_w : Fld := ⟨0x1905, 39, 0⟩
def KEY_OWNIDL_OWNID : Fld := ⟨0x1905, 31, 0⟩
/-- KEY_CERTIDH: Table 13-6. -/
def KEY_CERTIDH_w : Fld := ⟨0x1906, 39, 0⟩
def KEY_CERTIDH_CERTID : Fld := ⟨0x1906, 31, 0⟩
/-- KEY_CERTIDL: Table 13-6. -/
def KEY_CERTIDL_w : Fld := ⟨0x1907, 39, 0⟩
def KEY_CERTIDL_CERTID : Fld := ⟨0x1907, 31, 0⟩
/-- KEY_CERTLEN: Table 13-6. -/
def KEY_CERTLEN_w : Fld := ⟨0x1908, 39, 0⟩
def KEY_CERTLEN_LEN : Fld := ⟨0x1908, 10, 0⟩
/-- KEY_CERTRD: Table 13-6. -/
def KEY_CERTRD_w : Fld := ⟨0x1909, 39, 0⟩
def KEY_CERTRD_PTR : Fld := ⟨0x1909, 9, 0⟩
/-- KEY_CERTDAT: Table 13-6. -/
def KEY_CERTDAT_w : Fld := ⟨0x190a, 39, 0⟩
def KEY_CERTDAT_DATA : Fld := ⟨0x190a, 31, 0⟩
/-- KEY_CMD: Table 13-6. -/
def KEY_CMD_w : Fld := ⟨0x190c, 39, 0⟩
def KEY_CMD_PEER : Fld := ⟨0x190c, 13, 8⟩
def KEY_CMD_CERTREQ : Fld := ⟨0x190c, 2, 2⟩
def KEY_CMD_GREKEY : Fld := ⟨0x190c, 1, 1⟩
def KEY_CMD_REKEY : Fld := ⟨0x190c, 0, 0⟩
/-- KEY_KXSTAT: Table 13-6. -/
def KEY_KXSTAT_w : Fld := ⟨0x190d, 39, 0⟩
def KEY_KXSTAT_PEER : Fld := ⟨0x190d, 13, 8⟩
def KEY_KXSTAT_WHY : Fld := ⟨0x190d, 2, 0⟩

end F

/-- Index rows on page 0h. -/
def regPage_0_0 : List RegRow := [
  ⟨.SYS_IDENT, 0x0, 1, 1, 0, 0x4864010000, 0x0, 0x0, 0x0⟩,
  ⟨.SYS_ROLE, 0x1, 1, 1, 0, 0xc0, 0x0, 0x0, 0x0⟩,
  ⟨.SYS_SYSID, 0x2, 1, 1, 0, 0x0, 0x0, 0x0, 0x0⟩,
  ⟨.SYS_HEAD_CFG, 0x8, 1, 1, 0, 0x2bc, 0x1fff, 0x0, 0x0⟩,
  ⟨.SYS_HEAD_STAT, 0x9, 1, 1, 0, 0x0, 0x0, 0xc, 0x0⟩,
  ⟨.SYS_HEAD_EPOCH, 0xa, 1, 1, 0, 0x0, 0x0, 0x0, 0x0⟩,
  ⟨.SYS_HEAD_REP, 0xb, 1, 1, 0, 0xff, 0x0, 0x0, 0x0⟩,
  ⟨.SYS_HEAD_CTL, 0xc, 1, 1, 0, 0x0, 0x0, 0x0, 0x1⟩]

/-- Index rows on page 100h (part 1). -/
def regPage_1_0 : List RegRow := [
  ⟨.MOD_STAT, 0x100, 1, 1, 0, 0x0, 0x0, 0x8000, 0x0⟩,
  ⟨.MOD_CMD, 0x101, 1, 1, 0, 0x0, 0x0, 0x0, 0x7⟩,
  ⟨.MOD_CFG, 0x102, 1, 1, 0, 0x6, 0xff0017, 0x0, 0x0⟩,
  ⟨.MOD_WAKE, 0x103, 1, 1, 0, 0x0, 0x3ff, 0x0, 0x0⟩,
  ⟨.MOD_DORMAT, 0x104, 1, 1, 0, 0x0, 0xffffffffff, 0x0, 0x0⟩,
  ⟨.MOD_WAKEAT, 0x105, 1, 1, 0, 0x0, 0xffffffffff, 0x0, 0x0⟩,
  ⟨.MOD_LIMPA, 0x106, 1, 1, 0, 0x0, 0x1ffffff, 0x0, 0x0⟩,
  ⟨.MOD_LIMPB, 0x107, 1, 1, 0, 0x0, 0xffffff, 0x0, 0x0⟩,
  ⟨.MOD_FERT, 0x108, 1, 1, 0, 0x0, 0x1ff, 0x0, 0x0⟩,
  ⟨.MOD_RST, 0x110, 1, 1, 0, 0x1, 0x0, 0x0, 0x0⟩,
  ⟨.MOD_RSTCMD, 0x111, 1, 1, 0, 0x0, 0x0, 0x0, 0xffff⟩,
  ⟨.MOD_BOOT, 0x112, 1, 1, 0, 0x0, 0x0, 0x0, 0x0⟩,
  ⟨.FSV_STAT, 0x120, 1, 1, 0, 0x0, 0x0, 0x3, 0x0⟩,
  ⟨.FSV_CLR, 0x121, 1, 1, 0, 0x0, 0x0, 0x0, 0x1fff⟩,
  ⟨.FSV_QSEL, 0x122, 1, 1, 0, 0x0, 0x3f, 0x0, 0x0⟩,
  ⟨.FSV_QLAT0, 0x123, 1, 1, 0, 0x0, 0x0, 0x0, 0x0⟩,
  ⟨.FSV_QLAT1, 0x124, 1, 1, 0, 0x0, 0x0, 0x0, 0x0⟩,
  ⟨.FSV_LATA, 0x126, 1, 1, 0, 0x0, 0x0, 0x0, 0x0⟩,
  ⟨.FSV_LATB, 0x127, 1, 1, 0, 0x0, 0x0, 0x0, 0x0⟩,
  ⟨.FSV_SRCs_CFG, 0x140, 1, 1, 0, 0x1f0000, 0xffffffe000, 0x0, 0x0⟩,
  ⟨.FSV_SRCs_CFG, 0x141, 1, 1, 1, 0x180000, 0xffffffe000, 0x0, 0x0⟩,
  ⟨.FSV_SRCs_CFG, 0x142, 1, 1, 2, 0x110000, 0xffffffe000, 0x0, 0x0⟩,
  ⟨.FSV_SRCs_CFG, 0x143, 1, 1, 3, 0x3c50000, 0xffffffe000, 0x0, 0x0⟩,
  ⟨.FSV_SRCs_CFG, 0x144, 1, 1, 4, 0x110000, 0xffffffe000, 0x0, 0x0⟩,
  ⟨.FSV_SRCs_CFG, 0x145, 1, 1, 5, 0xa30000, 0xffffffe000, 0x0, 0x0⟩,
  ⟨.FSV_SRCs_CFG, 0x146, 1, 1, 6, 0x3c30000, 0xffffffe000, 0x0, 0x0⟩,
  ⟨.FSV_SRCs_CFG, 0x147, 1, 1, 7, 0x110000, 0xffffffe000, 0x0, 0x0⟩,
  ⟨.FSV_SRCs_CFG, 0x148, 1, 1, 8, 0x110000, 0xffffffe000, 0x0, 0x0⟩,
  ⟨.FSV_SRCs_CFG, 0x149, 1, 1, 9, 0x110000, 0xffffffe000, 0x0, 0x0⟩,
  ⟨.FSV_SRCs_CFG, 0x14a, 1, 1, 10, 0x110000, 0xffffffe000, 0x0, 0x0⟩,
  ⟨.FSV_SRCs_CFG, 0x14b, 1, 1, 11, 0x110000, 0xffffffe000, 0x0, 0x0⟩,
  ⟨.FSV_SRCs_CFG, 0x14c, 1, 1, 12, 0x3c32000, 0xffffffe000, 0x0, 0x0⟩,
  ⟨.FSV_SRCs_CFG, 0x14d, 1, 1, 13, 0x112000, 0xffffffe000, 0x0, 0x0⟩,
  ⟨.FSV_SRCs_CFG, 0x14e, 1, 1, 14, 0x25830000, 0xffffffe000, 0x0, 0x0⟩,
  ⟨.FSV_SRCs_CFG, 0x14f, 1, 1, 15, 0x3c54000, 0xffffffe000, 0x0, 0x0⟩,
  ⟨.FSV_SRCs_CFG, 0x150, 1, 1, 16, 0x114000, 0xffffffe000, 0x0, 0x0⟩,
  ⟨.FSV_SRCs_CFG, 0x151, 1, 1, 17, 0x25824000, 0xffffffe000, 0x0, 0x0⟩,
  ⟨.FSV_SRCs_CFG, 0x152, 1, 1, 18, 0x25830000, 0xffffffe000, 0x0, 0x0⟩,
  ⟨.FSV_SRCs_CFG, 0x153, 1, 1, 19, 0x112000, 0xffffffe000, 0x0, 0x0⟩,
  ⟨.FSV_SRCs_CFG, 0x154, 1, 1, 20, 0x110000, 0xffffffe000, 0x0, 0x0⟩]

/-- Index rows on page 100h (part 2). -/
def regPage_1_1 : List RegRow := [
  ⟨.FSV_SRCs_CFG, 0x155, 1, 1, 21, 0x110000, 0xffffffe000, 0x0, 0x0⟩,
  ⟨.FSV_SRCs_CFG, 0x156, 1, 1, 22, 0x110000, 0xffffffe000, 0x0, 0x0⟩,
  ⟨.FSV_SRCs_CFG, 0x157, 1, 1, 23, 0x116000, 0xffffffe000, 0x0, 0x0⟩,
  ⟨.FSV_SRCs_CFG, 0x158, 1, 1, 24, 0x3c10000, 0xffffffe000, 0x0, 0x0⟩,
  ⟨.FSV_SRCs_CFG, 0x159, 1, 1, 25, 0x25820000, 0xffffffe000, 0x0, 0x0⟩,
  ⟨.FSV_SRCs_CFG, 0x15a, 1, 1, 26, 0x3c30000, 0xffffffe000, 0x0, 0x0⟩,
  ⟨.FSV_SRCs_CFG, 0x15b, 1, 1, 27, 0x3f48020000, 0xffffffe000, 0x0, 0x0⟩,
  ⟨.FSV_SRCs_CFG, 0x15c, 1, 1, 28, 0x3f48020000, 0xffffffe000, 0x0, 0x0⟩,
  ⟨.FSV_SRCs_CFG, 0x15d, 1, 1, 29, 0x110000, 0xffffffe000, 0x0, 0x0⟩,
  ⟨.FSV_SRCs_CFG, 0x15e, 1, 1, 30, 0x110000, 0xffffffe000, 0x0, 0x0⟩,
  ⟨.FSV_SRCs_CFG, 0x15f, 1, 1, 31, 0x110000, 0xffffffe000, 0x0, 0x0⟩,
  ⟨.FSV_SRCs_CFG, 0x160, 1, 1, 32, 0xe1020000, 0xffffffe000, 0x0, 0x0⟩,
  ⟨.FSV_SRCs_CFG, 0x161, 1, 1, 33, 0x110000, 0xffffffe000, 0x0, 0x0⟩,
  ⟨.FSV_SRCs_CFG, 0x162, 1, 1, 34, 0x110000, 0xffffffe000, 0x0, 0x0⟩,
  ⟨.FSV_SRCs_CFG, 0x163, 1, 1, 35, 0x3c50000, 0xffffffe000, 0x0, 0x0⟩,
  ⟨.FSV_SRCs_CFG, 0x164, 1, 1, 36, 0x3c30000, 0xffffffe000, 0x0, 0x0⟩,
  ⟨.FSV_SRCs_CFG, 0x165, 1, 1, 37, 0xe1040000, 0xffffffe000, 0x0, 0x0⟩,
  ⟨.FSV_SRCs_CFG, 0x166, 1, 1, 38, 0x110000, 0xffffffe000, 0x0, 0x0⟩,
  ⟨.FSV_SRCs_CFG, 0x167, 1, 1, 39, 0x110000, 0xffffffe000, 0x0, 0x0⟩,
  ⟨.FSV_SRCs_CFG, 0x168, 1, 1, 40, 0xe1020000, 0xffffffe000, 0x0, 0x0⟩,
  ⟨.FSV_SRCs_CFG, 0x169, 1, 1, 41, 0x110000, 0xffffffe000, 0x0, 0x0⟩,
  ⟨.FSV_SRCs_CFG, 0x16a, 1, 1, 42, 0x110000, 0xffffffe000, 0x0, 0x0⟩,
  ⟨.FSV_SRCs_CFG_reserved, 0x16b, 1, 21, 43, 0x0, 0x0, 0x0, 0x0⟩,
  ⟨.FSV_SRCs_LIM, 0x180, 1, 43, 0, 0x1f0000, 0x0, 0x0, 0x0⟩,
  ⟨.FSV_SRCs_LIM_reserved, 0x1ab, 1, 21, 43, 0x0, 0x0, 0x0, 0x0⟩,
  ⟨.FSV_SRCs_STAT, 0x1c0, 1, 64, 0, 0x0, 0x0, 0x0, 0x0⟩]

/-- Index rows on page 200h. -/
def regPage_2_0 : List RegRow := [
  ⟨.TBS_TIME, 0x200, 1, 1, 0, 0x0, 0x0, 0x0, 0x0⟩,
  ⟨.TBS_STAT, 0x201, 1, 1, 0, 0x0, 0x0, 0x10, 0x0⟩,
  ⟨.TBS_CTRL, 0x202, 1, 1, 0, 0x258647d0, 0xffffffff, 0x0, 0x0⟩,
  ⟨.TBS_RATE, 0x203, 1, 1, 0, 0x0, 0x0, 0x0, 0x0⟩,
  ⟨.TBS_OFFSET, 0x204, 1, 1, 0, 0x0, 0x0, 0x0, 0x0⟩,
  ⟨.TBS_WRAP, 0x205, 1, 1, 0, 0x0, 0x0, 0x0, 0x0⟩,
  ⟨.TBS_LEAP, 0x206, 1, 1, 0, 0x0, 0x0, 0x0, 0x0⟩,
  ⟨.TBS_RXCOMP, 0x207, 1, 1, 0, 0x0, 0xffff, 0x0, 0x0⟩,
  ⟨.TBS_BCNAGE, 0x208, 1, 1, 0, 0xffff, 0x0, 0x0, 0x0⟩,
  ⟨.TRV_CFG, 0x210, 1, 1, 0, 0x0, 0x3, 0x0, 0x0⟩,
  ⟨.TRV_COUNT, 0x211, 1, 1, 0, 0x0, 0x0, 0x0, 0x0⟩,
  ⟨.TRV_OFFSET, 0x212, 1, 1, 0, 0x0, 0xffffffffff, 0x0, 0x0⟩,
  ⟨.TRV_TURNS, 0x213, 1, 1, 0, 0x0, 0x0, 0x0, 0x0⟩,
  ⟨.TRV_JUMPTHR, 0x214, 1, 1, 0, 0x4000, 0xffffffff, 0x0, 0x0⟩,
  ⟨.TRV_SRC, 0x220, 1, 1, 0, 0xef7, 0x1ff, 0x0, 0x0⟩,
  ⟨.TRV_SPEED, 0x221, 1, 1, 0, 0x0, 0x0, 0x0, 0x0⟩,
  ⟨.TRV_ACCEL, 0x222, 1, 1, 0, 0x0, 0x0, 0x0, 0x0⟩,
  ⟨.TRV_SPDCFG, 0x223, 1, 1, 0, 0x37001f4, 0xffffffff, 0x0, 0x0⟩,
  ⟨.TRV_STAT, 0x224, 1, 1, 0, 0x1, 0x0, 0x0, 0x0⟩,
  ⟨.TRV_BLEND, 0x225, 1, 1, 0, 0x12144, 0x1ffff, 0x0, 0x0⟩,
  ⟨.TRV_BIAS, 0x226, 1, 1, 0, 0x0, 0xffffffffff, 0x0, 0x0⟩,
  ⟨.TRV_BLSTAT, 0x227, 1, 1, 0, 0x0, 0x0, 0x0, 0x0⟩,
  ⟨.TRV_ENn_CFG, 0x230, 8, 4, 0, 0x30, 0xfff, 0x1000, 0x0⟩,
  ⟨.TRV_ENn_CNT, 0x231, 8, 4, 0, 0x0, 0x0, 0x0, 0x0⟩,
  ⟨.TRV_ENn_K, 0x232, 8, 4, 0, 0x180000000, 0x1fffffffff, 0x0, 0x0⟩,
  ⟨.TRV_ENn_PRESET, 0x233, 8, 4, 0, 0x0, 0xffffffffff, 0x0, 0x0⟩,
  ⟨.TRV_ENn_IDX, 0x234, 8, 4, 0, 0x0, 0x0, 0x0, 0x0⟩,
  ⟨.TRV_SSn_CFG, 0x250, 8, 2, 0, 0x208d, 0xfffff, 0x0, 0x0⟩,
  ⟨.TRV_SSn_VAL, 0x251, 8, 2, 0, 0x0, 0x0, 0x0, 0x0⟩,
  ⟨.TRV_SSn_K, 0x252, 8, 2, 0, 0x180000000, 0x1fffffffff, 0x0, 0x0⟩,
  ⟨.TRV_SSn_ZERO, 0x253, 8, 2, 0, 0x0, 0xffffffffff, 0x0, 0x0⟩,
  ⟨.TRV_SSn_JUMPMAX, 0x254, 8, 2, 0, 0x0, 0xffffffff, 0x0, 0x0⟩,
  ⟨.TRV_DCm, 0x260, 1, 4, 0, 0x190, 0xffff, 0x0, 0x0⟩,
  ⟨.TRV_MS_CFG, 0x268, 1, 1, 0, 0x0, 0xff, 0x0, 0x0⟩,
  ⟨.TRV_MS_STAT, 0x269, 1, 1, 0, 0x0, 0x0, 0x0, 0x0⟩]

/-- Index rows on page 400h. -/
def regPage_4_0 : List RegRow := [
  ⟨.PLN_CFG, 0x400, 1, 1, 0, 0x7d00bb8, 0x2ffffffff, 0x0, 0x0⟩,
  ⟨.PLN_HMIN, 0x401, 1, 1, 0, 0x4000, 0xffffffffff, 0x0, 0x0⟩,
  ⟨.PLN_STAT, 0x402, 1, 1, 0, 0x0, 0x0, 0x0, 0x0⟩,
  ⟨.PLN_MAP, 0x403, 1, 1, 0, 0x0, 0x2, 0xc, 0x0⟩,
  ⟨.PLN_FENCE, 0x404, 1, 1, 0, 0x0, 0xffffffffff, 0x0, 0x0⟩,
  ⟨.PLN_FENCEACT, 0x405, 1, 1, 0, 0x0, 0x0, 0x0, 0x0⟩,
  ⟨.PLN_UCFG, 0x406, 1, 1, 0, 0xf00, 0xffff, 0x0, 0x0⟩,
  ⟨.PLN_FFb, 0x410, 1, 24, 0, 0x0, 0x0, 0x0, 0x0⟩,
  ⟨.PLN_CHn_CFG, 0x480, 4, 48, 0, 0x0, 0xffffbfffff, 0x0, 0x0⟩,
  ⟨.PLN_CHn_HYD, 0x481, 4, 48, 0, 0x0, 0xffffffff, 0x0, 0x0⟩,
  ⟨.PLN_CHn_DUTY, 0x482, 4, 48, 0, 0x0, 0x7ff, 0x0, 0x0⟩,
  ⟨.PLN_CHn_LEAD, 0x483, 4, 48, 0, 0x0, 0x0, 0x0, 0x0⟩]

/-- Index rows on page 500h. -/
def regPage_5_0 : List RegRow := [
  ⟨.PLN_CHn_CFG, 0x480, 4, 48, 0, 0x0, 0xffffbfffff, 0x0, 0x0⟩,
  ⟨.PLN_CHn_HYD, 0x481, 4, 48, 0, 0x0, 0xffffffff, 0x0, 0x0⟩,
  ⟨.PLN_CHn_DUTY, 0x482, 4, 48, 0, 0x0, 0x7ff, 0x0, 0x0⟩,
  ⟨.PLN_CHn_LEAD, 0x483, 4, 48, 0, 0x0, 0x0, 0x0, 0x0⟩]

/-- Index rows on page 600h. -/
def regPage_6_0 : List RegRow := [
  ⟨.EVS_CFG, 0x600, 1, 1, 0, 0x0, 0x1, 0x0, 0x0⟩,
  ⟨.EVS_PUSHS, 0x601, 1, 1, 0, 0x0, 0x0, 0x0, 0xffffffffff⟩,
  ⟨.EVS_PUSHC, 0x602, 1, 1, 0, 0x0, 0x0, 0x0, 0xffffffffff⟩,
  ⟨.EVS_PUSHRES, 0x603, 1, 1, 0, 0x0, 0x0, 0x0, 0x0⟩,
  ⟨.EVS_STORE, 0x604, 1, 1, 0, 0xf004000, 0x0, 0x0, 0x0⟩,
  ⟨.EVS_ORPHAN, 0x605, 1, 1, 0, 0x0, 0x0, 0x0, 0x0⟩,
  ⟨.EVS_POPSEL, 0x606, 1, 1, 0, 0x3b, 0x3f, 0x0, 0x0⟩,
  ⟨.EVS_POP, 0x607, 1, 1, 0, 0x0, 0x0, 0x0, 0x0⟩,
  ⟨.EVS_Qn_CFG, 0x640, 4, 48, 0, 0x20000200, 0xfffffffc, 0x0, 0x0⟩,
  ⟨.EVS_Qn_STAT, 0x641, 4, 64, 0, 0x0, 0x0, 0x0, 0x0⟩,
  ⟨.EVS_Qn_CTL, 0x642, 4, 64, 0, 0x0, 0x5, 0x2, 0x0⟩,
  ⟨.EVS_Qn_ERR, 0x643, 4, 64, 0, 0x0, 0x0, 0x0, 0x0⟩]

/-- Index rows on page 700h. -/
def regPage_7_0 : List RegRow := [
  ⟨.EVS_Qn_CFG, 0x700, 4, 8, 48, 0x20000100, 0xfffffffc, 0x0, 0x0⟩,
  ⟨.EVS_Qn_CFG, 0x720, 4, 8, 56, 0x20000400, 0xfffffffc, 0x0, 0x0⟩,
  ⟨.EVS_Qn_STAT, 0x641, 4, 64, 0, 0x0, 0x0, 0x0, 0x0⟩,
  ⟨.EVS_Qn_CTL, 0x642, 4, 64, 0, 0x0, 0x5, 0x2, 0x0⟩,
  ⟨.EVS_Qn_ERR, 0x643, 4, 64, 0, 0x0, 0x0, 0x0, 0x0⟩]

/-- Index rows on page 800h. -/
def regPage_8_0 : List RegRow := [
  ⟨.VDA_CFG, 0x800, 1, 1, 0, 0x41, 0xf3, 0x0, 0x0⟩,
  ⟨.VDA_Gg_STAT, 0x808, 1, 6, 0, 0x0, 0x0, 0x7, 0x0⟩,
  ⟨.VDA_Gg_CFG, 0x810, 1, 6, 0, 0x12, 0xff, 0x0, 0x0⟩,
  ⟨.VDA_Gg_SEQ, 0x818, 1, 6, 0, 0x0, 0x0, 0x100, 0x0⟩,
  ⟨.VDA_TAMB, 0x820, 1, 1, 0, 0x0, 0x1ffff, 0x0, 0x0⟩,
  ⟨.VDA_CHn_CFG, 0x880, 8, 48, 0, 0x960000, 0x3fff003c, 0x40, 0x0⟩,
  ⟨.VDA_CHn_HOLD, 0x881, 8, 48, 0, 0x0, 0x1fff, 0x0, 0x0⟩,
  ⟨.VDA_CHn_DET, 0x882, 8, 48, 0, 0x78032028c, 0xfffffffffc, 0x0, 0x0⟩,
  ⟨.VDA_CHn_LAT, 0x883, 8, 48, 0, 0x0, 0x0, 0x0, 0x0⟩,
  ⟨.VDA_CHn_CUR, 0x884, 8, 48, 0, 0x0, 0x0, 0x0, 0x0⟩,
  ⟨.VDA_CHn_STAT, 0x885, 8, 48, 0, 0x0, 0x0, 0xf0, 0x100⟩,
  ⟨.VDA_CHn_RES, 0x886, 8, 48, 0, 0xc8, 0xffff, 0x0, 0x0⟩,
  ⟨.VDA_CHn_PROG, 0x887, 8, 48, 0, 0x30201, 0xffffff, 0x0, 0x0⟩]

/-- Index rows on page 900h. -/
def regPage_9_0 : List RegRow := [
  ⟨.VDA_CHn_CFG, 0x880, 8, 48, 0, 0x960000, 0x3fff003c, 0x40, 0x0⟩,
  ⟨.VDA_CHn_HOLD, 0x881, 8, 48, 0, 0x0, 0x1fff, 0x0, 0x0⟩,
  ⟨.VDA_CHn_DET, 0x882, 8, 48, 0, 0x78032028c, 0xfffffffffc, 0x0, 0x0⟩,
  ⟨.VDA_CHn_LAT, 0x883, 8, 48, 0, 0x0, 0x0, 0x0, 0x0⟩,
  ⟨.VDA_CHn_CUR, 0x884, 8, 48, 0, 0x0, 0x0, 0x0, 0x0⟩,
  ⟨.VDA_CHn_STAT, 0x885, 8, 48, 0, 0x0, 0x0, 0xf0, 0x100⟩,
  ⟨.VDA_CHn_RES, 0x886, 8, 48, 0, 0xc8, 0xffff, 0x0, 0x0⟩,
  ⟨.VDA_CHn_PROG, 0x887, 8, 48, 0, 0x30201, 0xffffff, 0x0, 0x0⟩]

/-- Index rows on page B00h. -/
def regPage_b_0 : List RegRow := [
  ⟨.VDA_CHn_SEQ, 0xb00, 1, 48, 0, 0x0, 0x0, 0x0, 0x0⟩,
  ⟨.VDA_CHn_SERR, 0xb40, 1, 48, 0, 0x0, 0x0, 0x1, 0x0⟩]

/-- Index rows on page C00h. -/
def regPage_c_0 : List RegRow := [
  ⟨.VDA_CHn_TH, 0xc00, 4, 48, 0, 0xa0, 0xe0, 0x4, 0x0⟩,
  ⟨.VDA_CHn_TPAR, 0xc01, 4, 48, 0, 0xc80c81e28, 0xffffffffff, 0x0, 0x0⟩,
  ⟨.VDA_CHn_TLIM, 0xc02, 4, 48, 0, 0x4b000829b, 0xffffffff00, 0x0, 0x0⟩,
  ⟨.VDA_CHn_RW, 0xc03, 4, 48, 0, 0xc8, 0xff, 0x0, 0x0⟩]

/-- Index rows on page D00h. -/
def regPage_d_0 : List RegRow := [
  ⟨.VDA_CHn_LRN, 0xd00, 4, 48, 0, 0x3, 0xffffffffff, 0x0, 0x0⟩,
  ⟨.VDA_CHn_LBAND, 0xd01, 4, 48, 0, 0x3ff003ff, 0xffffffffff, 0x0, 0x0⟩,
  ⟨.VDA_CHn_LSTAT, 0xd02, 4, 48, 0, 0x0, 0x0, 0x6, 0x0⟩,
  ⟨.VDA_CHn_LOUT, 0xd03, 4, 48, 0, 0x2710, 0x3ffff, 0x0, 0x0⟩]

/-- Index rows on page 1000h. -/
def regPage_10_0 : List RegRow := [
  ⟨.CTL_x_CFG, 0x1000, 1, 1, 0, 0x8000091, 0x3fffffffff, 0x0, 0x0⟩,
  ⟨.CTL_x_STAT, 0x1001, 1, 1, 0, 0x0, 0x0, 0xf0, 0x0⟩,
  ⟨.CTL_x_TGT, 0x1002, 1, 1, 0, 0x0, 0xffffffffff, 0x0, 0x0⟩,
  ⟨.CTL_x_WSP, 0x1003, 1, 1, 0, 0x0, 0x0, 0x0, 0x0⟩,
  ⟨.CTL_x_RATE, 0x1004, 1, 1, 0, 0x0, 0xffffffffff, 0x0, 0x0⟩,
  ⟨.CTL_x_FF, 0x1005, 1, 1, 0, 0x0, 0x1ffff, 0x0, 0x0⟩,
  ⟨.CTL_x_FVAL, 0x1006, 1, 1, 0, 0x0, 0x0, 0x0, 0x0⟩,
  ⟨.CTL_x_MOj, 0x1008, 2, 4, 0, 0x0, 0xfffffffff, 0x0, 0x0⟩,
  ⟨.CTL_x_MGj, 0x1009, 2, 4, 0, 0x0, 0xffffffffff, 0x0, 0x0⟩,
  ⟨.CTL_x_Yj, 0x1010, 1, 4, 0, 0x0, 0x0, 0x0, 0x0⟩,
  ⟨.CTL_x_UDk, 0x1014, 4, 2, 0, 0x0, 0xffffffff2f, 0x0, 0x0⟩,
  ⟨.CTL_x_UMINk, 0x1015, 4, 2, 0, 0x8000000000, 0xffffffffff, 0x0, 0x0⟩,
  ⟨.CTL_x_UMAXk, 0x1016, 4, 2, 0, 0x7fffffffff, 0xffffffffff, 0x0, 0x0⟩,
  ⟨.CTL_x_UGAINk, 0x1017, 4, 2, 0, 0x0, 0xffffffffff, 0x0, 0x0⟩,
  ⟨.CTL_x_Uk, 0x101c, 1, 2, 0, 0x0, 0x0, 0x0, 0x0⟩,
  ⟨.CTL_x_Xi, 0x1020, 1, 8, 0, 0x0, 0x0, 0x0, 0x0⟩,
  ⟨.CTL_x_XINITi, 0x1028, 1, 8, 0, 0x0, 0xffffffffff, 0x0, 0x0⟩,
  ⟨.CTL_x_ILIMi, 0x1030, 1, 8, 0, 0x7fffffffff, 0xffffffffff, 0x0, 0x0⟩,
  ⟨.CTL_x_Mr_c, 0x1040, 1, 14, 0, 0x0, 0xffffffffff, 0x0, 0x0⟩,
  ⟨.CTL_x_Mr_c, 0x1050, 1, 14, 1, 0x0, 0xffffffffff, 0x0, 0x0⟩,
  ⟨.CTL_x_Mr_c, 0x1060, 1, 14, 2, 0x0, 0xffffffffff, 0x0, 0x0⟩,
  ⟨.CTL_x_Mr_c, 0x1070, 1, 14, 3, 0x0, 0xffffffffff, 0x0, 0x0⟩,
  ⟨.CTL_x_Mr_c, 0x1080, 1, 14, 4, 0x0, 0xffffffffff, 0x0, 0x0⟩,
  ⟨.CTL_x_Mr_c, 0x1090, 1, 14, 5, 0x0, 0xffffffffff, 0x0, 0x0⟩,
  ⟨.CTL_x_Mr_c, 0x10a0, 1, 14, 6, 0x0, 0xffffffffff, 0x0, 0x0⟩,
  ⟨.CTL_x_Mr_c, 0x10b0, 1, 14, 7, 0x0, 0xffffffffff, 0x0, 0x0⟩,
  ⟨.CTL_x_Mr_c, 0x10c0, 1, 14, 8, 0x0, 0xffffffffff, 0x0, 0x0⟩,
  ⟨.CTL_x_Mr_c, 0x10d0, 1, 14, 9, 0x0, 0xffffffffff, 0x0, 0x0⟩]

/-- Index rows on page 1100h. -/
def regPage_11_0 : List RegRow := [
  ⟨.CTL_x_CFG, 0x1100, 1, 1, 1, 0x91, 0x3fffffffff, 0x0, 0x0⟩,
  ⟨.CTL_x_STAT, 0x1101, 1, 1, 1, 0x0, 0x0, 0xf0, 0x0⟩,
  ⟨.CTL_x_TGT, 0x1102, 1, 1, 1, 0x0, 0xffffffffff, 0x0, 0x0⟩,
  ⟨.CTL_x_WSP, 0x1103, 1, 1, 1, 0x0, 0x0, 0x0, 0x0⟩,
  ⟨.CTL_x_RATE, 0x1104, 1, 1, 1, 0x0, 0xffffffffff, 0x0, 0x0⟩,
  ⟨.CTL_x_FF, 0x1105, 1, 1, 1, 0x3e8, 0x1ffff, 0x0, 0x0⟩,
  ⟨.CTL_x_FVAL, 0x1106, 1, 1, 1, 0x0, 0x0, 0x0, 0x0⟩,
  ⟨.CTL_x_MOj, 0x1108, 2, 4, 1, 0x0, 0xfffffffff, 0x0, 0x0⟩,
  ⟨.CTL_x_MGj, 0x1109, 2, 4, 1, 0x0, 0xffffffffff, 0x0, 0x0⟩,
  ⟨.CTL_x_Yj, 0x1110, 1, 4, 1, 0x0, 0x0, 0x0, 0x0⟩,
  ⟨.CTL_x_UDk, 0x1114, 4, 2, 1, 0x0, 0xffffffff2f, 0x0, 0x0⟩,
  ⟨.CTL_x_UMINk, 0x1115, 4, 2, 1, 0x8000000000, 0xffffffffff, 0x0, 0x0⟩,
  ⟨.CTL_x_UMAXk, 0x1116, 4, 2, 1, 0x7fffffffff, 0xffffffffff, 0x0, 0x0⟩,
  ⟨.CTL_x_UGAINk, 0x1117, 4, 2, 1, 0x0, 0xffffffffff, 0x0, 0x0⟩,
  ⟨.CTL_x_Uk, 0x111c, 1, 2, 1, 0x0, 0x0, 0x0, 0x0⟩,
  ⟨.CTL_x_Xi, 0x1120, 1, 8, 1, 0x0, 0x0, 0x0, 0x0⟩,
  ⟨.CTL_x_XINITi, 0x1128, 1, 8, 1, 0x0, 0xffffffffff, 0x0, 0x0⟩,
  ⟨.CTL_x_ILIMi, 0x1130, 1, 8, 1, 0x7fffffffff, 0xffffffffff, 0x0, 0x0⟩,
  ⟨.CTL_x_Mr_c, 0x1140, 1, 14, 16, 0x0, 0xffffffffff, 0x0, 0x0⟩,
  ⟨.CTL_x_Mr_c, 0x1150, 1, 14, 17, 0x0, 0xffffffffff, 0x0, 0x0⟩,
  ⟨.CTL_x_Mr_c, 0x1160, 1, 14, 18, 0x0, 0xffffffffff, 0x0, 0x0⟩,
  ⟨.CTL_x_Mr_c, 0x1170, 1, 14, 19, 0x0, 0xffffffffff, 0x0, 0x0⟩,
  ⟨.CTL_x_Mr_c, 0x1180, 1, 14, 20, 0x0, 0xffffffffff, 0x0, 0x0⟩,
  ⟨.CTL_x_Mr_c, 0x1190, 1, 14, 21, 0x0, 0xffffffffff, 0x0, 0x0⟩,
  ⟨.CTL_x_Mr_c, 0x11a0, 1, 14, 22, 0x0, 0xffffffffff, 0x0, 0x0⟩,
  ⟨.CTL_x_Mr_c, 0x11b0, 1, 14, 23, 0x0, 0xffffffffff, 0x0, 0x0⟩,
  ⟨.CTL_x_Mr_c, 0x11c0, 1, 14, 24, 0x0, 0xffffffffff, 0x0, 0x0⟩,
  ⟨.CTL_x_Mr_c, 0x11d0, 1, 14, 25, 0x0, 0xffffffffff, 0x0, 0x0⟩]

/-- Index rows on page 1200h. -/
def regPage_12_0 : List RegRow := [
  ⟨.CTL_x_CFG, 0x1200, 1, 1, 2, 0x91, 0x3fffffffff, 0x0, 0x0⟩,
  ⟨.CTL_x_STAT, 0x1201, 1, 1, 2, 0x0, 0x0, 0xf0, 0x0⟩,
  ⟨.CTL_x_TGT, 0x1202, 1, 1, 2, 0x0, 0xffffffffff, 0x0, 0x0⟩,
  ⟨.CTL_x_WSP, 0x1203, 1, 1, 2, 0x0, 0x0, 0x0, 0x0⟩,
  ⟨.CTL_x_RATE, 0x1204, 1, 1, 2, 0x0, 0xffffffffff, 0x0, 0x0⟩,
  ⟨.CTL_x_FF, 0x1205, 1, 1, 2, 0x0, 0x1ffff, 0x0, 0x0⟩,
  ⟨.CTL_x_FVAL, 0x1206, 1, 1, 2, 0x0, 0x0, 0x0, 0x0⟩,
  ⟨.CTL_x_MOj, 0x1208, 2, 4, 2, 0x0, 0xfffffffff, 0x0, 0x0⟩,
  ⟨.CTL_x_MGj, 0x1209, 2, 4, 2, 0x0, 0xffffffffff, 0x0, 0x0⟩,
  ⟨.CTL_x_Yj, 0x1210, 1, 4, 2, 0x0, 0x0, 0x0, 0x0⟩,
  ⟨.CTL_x_UDk, 0x1214, 4, 2, 2, 0x0, 0xffffffff2f, 0x0, 0x0⟩,
  ⟨.CTL_x_UMINk, 0x1215, 4, 2, 2, 0x8000000000, 0xffffffffff, 0x0, 0x0⟩,
  ⟨.CTL_x_UMAXk, 0x1216, 4, 2, 2, 0x7fffffffff, 0xffffffffff, 0x0, 0x0⟩,
  ⟨.CTL_x_UGAINk, 0x1217, 4, 2, 2, 0x0, 0xffffffffff, 0x0, 0x0⟩,
  ⟨.CTL_x_Uk, 0x121c, 1, 2, 2, 0x0, 0x0, 0x0, 0x0⟩,
  ⟨.CTL_x_Xi, 0x1220, 1, 8, 2, 0x0, 0x0, 0x0, 0x0⟩,
  ⟨.CTL_x_XINITi, 0x1228, 1, 8, 2, 0x0, 0xffffffffff, 0x0, 0x0⟩,
  ⟨.CTL_x_ILIMi, 0x1230, 1, 8, 2, 0x7fffffffff, 0xffffffffff, 0x0, 0x0⟩,
  ⟨.CTL_x_Mr_c, 0x1240, 1, 14, 32, 0x0, 0xffffffffff, 0x0, 0x0⟩,
  ⟨.CTL_x_Mr_c, 0x1250, 1, 14, 33, 0x0, 0xffffffffff, 0x0, 0x0⟩,
  ⟨.CTL_x_Mr_c, 0x1260, 1, 14, 34, 0x0, 0xffffffffff, 0x0, 0x0⟩,
  ⟨.CTL_x_Mr_c, 0x1270, 1, 14, 35, 0x0, 0xffffffffff, 0x0, 0x0⟩,
  ⟨.CTL_x_Mr_c, 0x1280, 1, 14, 36, 0x0, 0xffffffffff, 0x0, 0x0⟩,
  ⟨.CTL_x_Mr_c, 0x1290, 1, 14, 37, 0x0, 0xffffffffff, 0x0, 0x0⟩,
  ⟨.CTL_x_Mr_c, 0x12a0, 1, 14, 38, 0x0, 0xffffffffff, 0x0, 0x0⟩,
  ⟨.CTL_x_Mr_c, 0x12b0, 1, 14, 39, 0x0, 0xffffffffff, 0x0, 0x0⟩,
  ⟨.CTL_x_Mr_c, 0x12c0, 1, 14, 40, 0x0, 0xffffffffff, 0x0, 0x0⟩,
  ⟨.CTL_x_Mr_c, 0x12d0, 1, 14, 41, 0x0, 0xffffffffff, 0x0, 0x0⟩]

/-- Index rows on page 1300h. -/
def regPage_13_0 : List RegRow := [
  ⟨.CTL_ENG, 0x1300, 1, 1, 0, 0x0, 0xffff, 0x0, 0x0⟩,
  ⟨.CTL_VNOM, 0x1301, 1, 1, 0, 0x5dc0, 0xffff, 0x0, 0x0⟩,
  ⟨.CTL_VPW, 0x1302, 1, 1, 0, 0x0, 0x0, 0x0, 0x0⟩,
  ⟨.CTL_EDDY, 0x1303, 1, 1, 0, 0x0, 0x3f, 0x0, 0x0⟩,
  ⟨.CTL_FE_LIM, 0x1310, 1, 1, 0, 0x7fffffffff, 0xffffffffff, 0x0, 0x0⟩,
  ⟨.CTL_FE_CFG, 0x1311, 1, 1, 0, 0x0, 0x3ffff, 0x0, 0x0⟩,
  ⟨.CTL_FE_STAT, 0x1312, 1, 1, 0, 0x0, 0x0, 0x1, 0x0⟩,
  ⟨.CTL_OSC_CFG, 0x1318, 1, 1, 0, 0x0, 0xfff01fffff, 0x0, 0x0⟩,
  ⟨.CTL_OSC_HYST, 0x1319, 1, 1, 0, 0x0, 0xffffffffff, 0x0, 0x0⟩,
  ⟨.CTL_OSC_AMP, 0x131a, 1, 1, 0, 0x0, 0xffffffffff, 0x0, 0x0⟩,
  ⟨.CTL_HAM_RATE, 0x131b, 1, 1, 0, 0x7fffffffff, 0xffffffffff, 0x0, 0x0⟩,
  ⟨.CTL_OSC_STAT, 0x131c, 1, 1, 0, 0x0, 0x0, 0x3, 0x0⟩,
  ⟨.CTL_INJ_CFG, 0x1320, 1, 1, 0, 0x1000, 0xffffc, 0x0, 0x0⟩,
  ⟨.CTL_INJ_AMP, 0x1321, 1, 1, 0, 0x0, 0xffffffffff, 0x0, 0x0⟩,
  ⟨.CTL_INJ_DUR, 0x1322, 1, 1, 0, 0x0, 0xffffff, 0x0, 0x0⟩,
  ⟨.CTL_INJ_F0, 0x1323, 1, 1, 0, 0x0, 0xffffff, 0x0, 0x0⟩,
  ⟨.CTL_INJ_F1, 0x1324, 1, 1, 0, 0x0, 0xffffff, 0x0, 0x0⟩,
  ⟨.CTL_INJ_CTL, 0x1325, 1, 1, 0, 0x0, 0x0, 0x0, 0x3⟩,
  ⟨.CTL_INJ_STAT, 0x1326, 1, 1, 0, 0x0, 0x0, 0x1c, 0x0⟩,
  ⟨.CTL_INJ_AMAX, 0x1327, 1, 1, 0, 0x0, 0x0, 0x0, 0x0⟩,
  ⟨.CTL_INJ_V, 0x1328, 1, 1, 0, 0x0, 0x0, 0x0, 0x0⟩,
  ⟨.CTL_TRCb_CFG, 0x1340, 32, 2, 0, 0x100000000, 0xfffffff800, 0x0, 0x0⟩,
  ⟨.CTL_TRCb_SELA, 0x1341, 32, 2, 0, 0x0, 0xffffffff, 0x0, 0x0⟩,
  ⟨.CTL_TRCb_SELB, 0x1342, 32, 2, 0, 0x0, 0xffffffff, 0x0, 0x0⟩,
  ⟨.CTL_TRCb_LEVEL, 0x1343, 32, 2, 0, 0x0, 0xffffffffff, 0x0, 0x0⟩,
  ⟨.CTL_TRCb_CTL, 0x1344, 32, 2, 0, 0x0, 0x0, 0x0, 0x7⟩,
  ⟨.CTL_TRCb_STAT, 0x1345, 32, 2, 0, 0x0, 0x0, 0x0, 0x0⟩,
  ⟨.CTL_TRCb_GAP, 0x1346, 32, 2, 0, 0x0, 0x0, 0x0, 0x0⟩,
  ⟨.CTL_TRCb_GAPT, 0x1347, 32, 2, 0, 0x0, 0x0, 0x0, 0x0⟩,
  ⟨.CTL_TRCb_GAPX, 0x1348, 32, 2, 0, 0x0, 0x0, 0x0, 0x0⟩,
  ⟨.CTL_TRCb_RSMT, 0x1349, 32, 2, 0, 0x0, 0x0, 0x0, 0x0⟩]

/-- Index rows on page 1400h. -/
def regPage_14_0 : List RegRow := [
  ⟨.GNB_CFG, 0x1400, 1, 1, 0, 0x51c, 0xffff, 0x0, 0x0⟩,
  ⟨.GNB_STAT, 0x1401, 1, 1, 0, 0x0, 0x0, 0x0, 0x0⟩,
  ⟨.GNB_ACQ, 0x1402, 1, 1, 0, 0x285101, 0xffffff, 0x0, 0x0⟩,
  ⟨.GNB_TRK, 0x1403, 1, 1, 0, 0x308af, 0x7ffff, 0x0, 0x0⟩,
  ⟨.GNB_RAIM, 0x1404, 1, 1, 0, 0x3c, 0xff, 0x0, 0x0⟩,
  ⟨.GNB_CLK, 0x1405, 1, 1, 0, 0xa1f4, 0x3ffff, 0x0, 0x0⟩,
  ⟨.GNB_CLKRES, 0x1406, 1, 1, 0, 0x0, 0x0, 0x0, 0x0⟩,
  ⟨.GNB_JAM, 0x1407, 1, 1, 0, 0xa0300000, 0xffff0000, 0x0, 0x0⟩,
  ⟨.GNB_NOTCHk, 0x1408, 1, 4, 0, 0x8000, 0x0, 0x0, 0x0⟩,
  ⟨.GNB_NCFG, 0x140c, 1, 1, 0, 0x59, 0xff, 0x0, 0x0⟩,
  ⟨.GNB_REFLAT, 0x140d, 1, 1, 0, 0x0, 0xffffffffff, 0x0, 0x0⟩,
  ⟨.GNB_REFLON, 0x140e, 1, 1, 0, 0x0, 0xffffffffff, 0x0, 0x0⟩,
  ⟨.GNB_REFHGT, 0x140f, 1, 1, 0, 0x0, 0xffffffffff, 0x0, 0x0⟩,
  ⟨.GNB_AXIS, 0x1410, 1, 1, 0, 0x0, 0xffffffffff, 0x0, 0x0⟩,
  ⟨.GNB_GTRAV, 0x1412, 1, 1, 0, 0x0, 0x0, 0x0, 0x0⟩,
  ⟨.GNB_GFIXT, 0x1413, 1, 1, 0, 0x0, 0x0, 0x0, 0x0⟩,
  ⟨.GNB_GSPEED, 0x1414, 1, 1, 0, 0x0, 0x0, 0x0, 0x0⟩,
  ⟨.GNB_ANCH, 0x1415, 1, 1, 0, 0x0, 0x0, 0x0, 0x10000⟩,
  ⟨.GNB_SNAPCFG, 0x1418, 1, 1, 0, 0x3c07810, 0x1ffe07f1f, 0x0, 0x0⟩,
  ⟨.GNB_SNAPSTAT, 0x1419, 1, 1, 0, 0x100, 0x0, 0x0, 0x0⟩,
  ⟨.GNB_SNAPREQ, 0x141a, 1, 1, 0, 0x0, 0x0, 0x0, 0xffffffffff⟩,
  ⟨.GNB_GEOCFG, 0x141b, 1, 1, 0, 0x12c7864, 0x1fffffff, 0x0, 0x0⟩,
  ⟨.GNB_GEOSTAT, 0x141c, 1, 1, 0, 0x0, 0x0, 0x0, 0x0⟩,
  ⟨.GNB_CHk, 0x1440, 1, 48, 0, 0x0, 0x0, 0x0, 0x0⟩,
  ⟨.GNB_TWRk_CFG, 0x1480, 4, 64, 0, 0x0, 0xffffffffff, 0x0, 0x0⟩,
  ⟨.GNB_TWRk_E, 0x1481, 4, 64, 0, 0xffff, 0x0, 0x0, 0x0⟩,
  ⟨.GNB_TWRk_N, 0x1482, 4, 64, 0, 0x0, 0x0, 0x0, 0x0⟩,
  ⟨.GNB_TWRk_OFF, 0x1483, 4, 64, 0, 0x0, 0x0, 0x0, 0x0⟩]

/-- Index rows on page 1500h. -/
def regPage_15_0 : List RegRow := [
  ⟨.GNB_TWRk_CFG, 0x1480, 4, 64, 0, 0x0, 0xffffffffff, 0x0, 0x0⟩,
  ⟨.GNB_TWRk_E, 0x1481, 4, 64, 0, 0xffff, 0x0, 0x0, 0x0⟩,
  ⟨.GNB_TWRk_N, 0x1482, 4, 64, 0, 0x0, 0x0, 0x0, 0x0⟩,
  ⟨.GNB_TWRk_OFF, 0x1483, 4, 64, 0, 0x0, 0x0, 0x0, 0x0⟩]

/-- Index rows on page 1600h. -/
def regPage_16_0 : List RegRow := [
  ⟨.SLK_CFG, 0x1600, 1, 1, 0, 0x14a4370004, 0xffffff002d, 0x0, 0x0⟩,
  ⟨.SLK_PHY, 0x1601, 1, 1, 0, 0x74500c42, 0xffffff77, 0x0, 0x0⟩,
  ⟨.SLK_STAT, 0x1602, 1, 1, 0, 0x0, 0x0, 0x0, 0x0⟩,
  ⟨.SLK_CNTA, 0x1603, 1, 1, 0, 0x0, 0x0, 0x0, 0x0⟩,
  ⟨.SLK_CNTB, 0x1604, 1, 1, 0, 0x0, 0x0, 0x0, 0x0⟩,
  ⟨.SLK_CNTC, 0x1605, 1, 1, 0, 0x0, 0x0, 0x0, 0x0⟩,
  ⟨.SLK_CNTD, 0x1606, 1, 1, 0, 0x0, 0x0, 0x0, 0x0⟩,
  ⟨.SLK_CNTE, 0x1607, 1, 1, 0, 0x0, 0x0, 0x0, 0x0⟩,
  ⟨.SLK_CNTF, 0x1608, 1, 1, 0, 0x0, 0x0, 0x0, 0x0⟩,
  ⟨.SLK_CNTG, 0x1609, 1, 1, 0, 0x0, 0x0, 0x0, 0x0⟩,
  ⟨.SLK_ERR, 0x160a, 1, 1, 0, 0x0, 0x0, 0x3, 0x0⟩,
  ⟨.SLK_BCN, 0x160b, 1, 1, 0, 0x0, 0x0, 0x0, 0x0⟩,
  ⟨.SLK_HCMD, 0x1610, 1, 1, 0, 0x0, 0xffffc00000, 0x0, 0x1⟩,
  ⟨.SLK_HSTAT, 0x1611, 1, 1, 0, 0x0, 0x0, 0x0, 0x0⟩,
  ⟨.SLK_HBUFi, 0x1620, 1, 48, 0, 0x0, 0xffffffffff, 0x0, 0x0⟩,
  ⟨.SLK_PEERp_LNK, 0x1680, 2, 64, 0, 0x0, 0x0, 0x0, 0x0⟩,
  ⟨.SLK_PEERp_WIN, 0x1681, 2, 64, 0, 0x0, 0x0, 0x0, 0x0⟩]

/-- Index rows on page 1700h. -/
def regPage_17_0 : List RegRow := [
  ⟨.BMV_STAT, 0x1700, 1, 1, 0, 0x0, 0x0, 0x0, 0x0⟩,
  ⟨.BMV_Dn_CTL, 0x1710, 8, 8, 0, 0x0, 0x0, 0x70, 0x3⟩,
  ⟨.BMV_Dn_W0, 0x1711, 8, 8, 0, 0x0, 0xffffffffff, 0x0, 0x0⟩,
  ⟨.BMV_Dn_W1, 0x1712, 8, 8, 0, 0x0, 0xffffffffff, 0x0, 0x0⟩,
  ⟨.BMV_Dn_W2, 0x1713, 8, 8, 0, 0x0, 0xffffffffff, 0x0, 0x0⟩,
  ⟨.BMV_Dn_W3, 0x1714, 8, 8, 0, 0x0, 0xffffffffff, 0x0, 0x0⟩,
  ⟨.BMV_Dn_DONE, 0x1715, 8, 8, 0, 0x0, 0x0, 0x0, 0x0⟩,
  ⟨.BMV_Dn_CNT, 0x1716, 8, 8, 0, 0x0, 0x0, 0x0, 0x0⟩,
  ⟨.MIN_CFG, 0x1780, 1, 1, 0, 0x108, 0x11f, 0x0, 0x0⟩,
  ⟨.MIN_STAT, 0x1781, 1, 1, 0, 0x0, 0x0, 0x0, 0x0⟩,
  ⟨.MIN_MTADDR, 0x1782, 1, 1, 0, 0x0, 0x0, 0x0, 0x0⟩,
  ⟨.MIN_ERRCNT, 0x1783, 1, 1, 0, 0x0, 0x0, 0x0, 0x0⟩,
  ⟨.MIN_POISCNT, 0x1784, 1, 1, 0, 0x0, 0x0, 0x0, 0x0⟩,
  ⟨.MIN_LASTERR, 0x1785, 1, 1, 0, 0x0, 0x0, 0x0, 0x0⟩,
  ⟨.MIN_FLAGS, 0x1786, 1, 1, 0, 0x0, 0x0, 0x3, 0x0⟩,
  ⟨.MIN_DADDR, 0x1788, 1, 1, 0, 0x0, 0xffffff, 0x0, 0x0⟩,
  ⟨.MIN_DDATA, 0x1789, 1, 1, 0, 0x0, 0xffffffffff, 0x0, 0x0⟩,
  ⟨.MIN_DCHK, 0x178a, 1, 1, 0, 0x0, 0x3f, 0x0, 0x0⟩,
  ⟨.MIN_DCTL, 0x178b, 1, 1, 0, 0x0, 0x0, 0x4, 0x3⟩,
  ⟨.MIN_PATPOS, 0x178c, 1, 1, 0, 0x0, 0x0, 0x0, 0x0⟩,
  ⟨.SER_PPn_CFG, 0x17c0, 1, 1, 0, 0x2020700, 0xffffffff03, 0x0, 0x0⟩,
  ⟨.SER_PPn_CFG, 0x17c1, 1, 3, 1, 0x2020700, 0xffffffff13, 0x0, 0x0⟩,
  ⟨.SER_PP0_PROF, 0x17c4, 1, 1, 0, 0xb002030000, 0x1, 0x0, 0x0⟩,
  ⟨.SER_PPn_PROF, 0x17c5, 1, 3, 1, 0x0, 0xffffff0000, 0x0, 0x0⟩,
  ⟨.SER_PP_RAW, 0x17c8, 1, 1, 0, 0xe0000, 0xff8000, 0x0, 0x1⟩,
  ⟨.SER_PP_TXk, 0x17cc, 1, 4, 0, 0x0, 0xffffffff, 0x0, 0x0⟩,
  ⟨.SER_PP_RXk, 0x17d0, 1, 4, 0, 0x0, 0x0, 0x0, 0x0⟩,
  ⟨.SER_PP_STAT, 0x17d4, 1, 1, 0, 0x0, 0x0, 0x6, 0x0⟩,
  ⟨.SER_PP_JEDEC, 0x17d5, 1, 1, 0, 0x0, 0x0, 0x0, 0x0⟩,
  ⟨.SER_SP_CNTA, 0x17e0, 1, 1, 0, 0x0, 0x0, 0x0, 0x0⟩,
  ⟨.SER_SP_CNTB, 0x17e1, 1, 1, 0, 0x0, 0x0, 0x0, 0x0⟩,
  ⟨.SER_SP_STAT, 0x17e2, 1, 1, 0, 0x0, 0x0, 0x0, 0x0⟩]

/-- Index rows on page 1800h. -/
def regPage_18_0 : List RegRow := [
  ⟨.LDG_CFG, 0x1800, 1, 1, 0, 0x1e58, 0x1fff, 0x0, 0x0⟩,
  ⟨.LDG_STAT, 0x1801, 1, 1, 0, 0x0, 0x0, 0x10, 0x0⟩,
  ⟨.LDG_SEQ, 0x1802, 1, 1, 0, 0x0, 0x0, 0x0, 0x0⟩,
  ⟨.LDG_CTL, 0x1803, 1, 1, 0, 0x0, 0x0, 0x0, 0x1⟩,
  ⟨.LDG_SLOTA, 0x1804, 1, 1, 0, 0x0, 0x0, 0x0, 0x0⟩,
  ⟨.LDG_SLOTB, 0x1805, 1, 1, 0, 0x0, 0x0, 0x0, 0x0⟩,
  ⟨.LDG_RDCTL, 0x1806, 1, 1, 0, 0x0, 0xfff, 0x0, 0x0⟩,
  ⟨.LDG_RDDATA, 0x1807, 1, 1, 0, 0x0, 0x0, 0x0, 0x0⟩,
  ⟨.LDG_PCFG, 0x1808, 1, 1, 0, 0xfa00000, 0xffff3f0f, 0x0, 0x0⟩,
  ⟨.LDG_PSCALE, 0x1809, 1, 1, 0, 0x0, 0xffffffffff, 0x0, 0x0⟩,
  ⟨.LDG_PLINE, 0x180a, 1, 1, 0, 0x10000, 0x0, 0x0, 0x0⟩,
  ⟨.LDG_WARN, 0x180b, 1, 1, 0, 0x0, 0xffffffffff, 0x0, 0x0⟩,
  ⟨.LDG_CF, 0x180c, 1, 1, 0, 0x1000000, 0x0, 0x0, 0x0⟩,
  ⟨.LDG_CFDAY, 0x180d, 1, 1, 0, 0xffff0000, 0x0, 0x0, 0x0⟩,
  ⟨.LDG_RAW, 0x180e, 1, 1, 0, 0x0, 0x0, 0x0, 0x0⟩,
  ⟨.LDG_DAYOFF, 0x180f, 1, 1, 0, 0x0, 0x1ffff, 0x0, 0x0⟩,
  ⟨.LDG_REC, 0x1810, 1, 1, 0, 0x4e23200a0, 0xfffffffff, 0x0, 0x0⟩,
  ⟨.LDG_MLPP, 0x1811, 1, 1, 0, 0x0, 0xffffffff, 0x0, 0x0⟩,
  ⟨.LDG_MUSE, 0x1812, 1, 1, 0, 0x0, 0x0, 0x0, 0x0⟩,
  ⟨.LDG_MLIMIT, 0x1813, 1, 1, 0, 0xffffffffff, 0xffffffffff, 0x0, 0x0⟩,
  ⟨.LDG_MSTAT, 0x1814, 1, 1, 0, 0x0, 0x0, 0x0, 0x0⟩,
  ⟨.LDG_PYSCALE, 0x1815, 1, 1, 0, 0x0, 0xffffffff, 0x0, 0x0⟩,
  ⟨.LDG_ZACTk, 0x1820, 1, 4, 0, 0x0, 0xffffffff, 0x0, 0x0⟩,
  ⟨.LDG_EXHk, 0x1824, 1, 2, 0, 0x0, 0x0, 0x0, 0x0⟩,
  ⟨.LDG_WRNk, 0x1826, 1, 2, 0, 0x0, 0x0, 0x0, 0x0⟩,
  ⟨.LDG_DROPk, 0x1828, 1, 24, 0, 0x0, 0xffffffff, 0x0, 0x0⟩,
  ⟨.LDG_VOLz, 0x1840, 1, 64, 0, 0x0, 0x0, 0x0, 0x0⟩,
  ⟨.LDG_LIMz, 0x1880, 1, 64, 0, 0xffffffffff, 0xffffffffff, 0x0, 0x0⟩,
  ⟨.LDG_ESTz, 0x18c0, 1, 64, 0, 0x0, 0x0, 0x0, 0x0⟩]

/-- Index rows on page 1900h. -/
def regPage_19_0 : List RegRow := [
  ⟨.KEY_STAT, 0x1900, 1, 1, 0, 0x0, 0x0, 0x0, 0x0⟩,
  ⟨.KEY_CFG, 0x1901, 1, 1, 0, 0x18, 0x1ff, 0x0, 0x0⟩,
  ⟨.KEY_CNT, 0x1902, 1, 1, 0, 0x0, 0x0, 0x0, 0x0⟩,
  ⟨.KEY_OWNIDH, 0x1904, 1, 1, 0, 0x0, 0x0, 0x0, 0x0⟩,
  ⟨.KEY_OWNIDL, 0x1905, 1, 1, 0, 0x0, 0x0, 0x0, 0x0⟩,
  ⟨.KEY_CERTIDH, 0x1906, 1, 1, 0, 0x0, 0x0, 0x0, 0x0⟩,
  ⟨.KEY_CERTIDL, 0x1907, 1, 1, 0, 0x0, 0x0, 0x0, 0x0⟩,
  ⟨.KEY_CERTLEN, 0x1908, 1, 1, 0, 0x0, 0x0, 0x0, 0x0⟩,
  ⟨.KEY_CERTRD, 0x1909, 1, 1, 0, 0x0, 0x3ff, 0x0, 0x0⟩,
  ⟨.KEY_CERTDAT, 0x190a, 1, 1, 0, 0x0, 0x0, 0x0, 0x0⟩,
  ⟨.KEY_CMD, 0x190c, 1, 1, 0, 0x0, 0x3f00, 0x0, 0x7⟩,
  ⟨.KEY_KXSTAT, 0x190d, 1, 1, 0, 0x0, 0x0, 0x0, 0x0⟩]

/-- The index rows of a page of 256 word addresses. -/
def regPage : Nat → List RegRow
  | 0 => regPage_0_0
  | 1 => regPage_1_0 ++ regPage_1_1
  | 2 => regPage_2_0
  | 4 => regPage_4_0
  | 5 => regPage_5_0
  | 6 => regPage_6_0
  | 7 => regPage_7_0
  | 8 => regPage_8_0
  | 9 => regPage_9_0
  | 11 => regPage_b_0
  | 12 => regPage_c_0
  | 13 => regPage_d_0
  | 16 => regPage_10_0
  | 17 => regPage_11_0
  | 18 => regPage_12_0
  | 19 => regPage_13_0
  | 20 => regPage_14_0
  | 21 => regPage_15_0
  | 22 => regPage_16_0
  | 23 => regPage_17_0
  | 24 => regPage_18_0
  | 25 => regPage_19_0
  | _ => []

/-- Whether row `r` holds an element at word address `a` (R410). -/
def RegRow.holds (r : RegRow) (a : Nat) : Bool :=
  r.base ≤ a && (a - r.base) % r.stride == 0 && (a - r.base) / r.stride < r.count

/-- The index row of a word address, if the index implements it (R408, R410, R415). -/
def regAt (a : Nat) : Option RegRow := (regPage (a / 256)).find? (fun r => r.holds a)

/-- The element number of address `a` in its row. -/
def RegRow.idx (r : RegRow) (a : Nat) : Nat := (a - r.base) / r.stride

/-- The word a register reads after power-on reset (R11, R412); 0 where no register stands. -/
def resetWord (a : Nat) : Word :=
  match regAt a with
  | some r => BitVec.ofNat 40 r.reset
  | none => 0

end Sys2Proof.Machine
end

