-- ==== Sys2Proof/Machine/Sparse.lean ====
section
/-! DEFINITION. Sparse data by key: a list of (key, value) pairs with keys strictly rising and no value equal to what
an unlisted key reads as, so that equal contents are equal data. Registers, memory bytes, check bits and the
per-element parts of the state are held in this form. -/

namespace Sys2Proof.Machine

/-- The value at key `k`; `d k` where no entry is listed. -/
def spGet {α : Type} (d : Nat → α) : List (Nat × α) → Nat → α
  | [], k => d k
  | (k', v) :: m, k => if k' = k then v else spGet d m k

/-- Remove key `k`. -/
def spDel {α : Type} : List (Nat × α) → Nat → List (Nat × α)
  | [], _ => []
  | (k', v) :: m, k => if k' = k then spDel m k else (k', v) :: spDel m k

/-- Enter `v` at key `k`, replacing what is listed there. -/
def spPut {α : Type} : List (Nat × α) → Nat → α → List (Nat × α)
  | [], k, v => [(k, v)]
  | (k', v') :: m, k, v =>
    if k' = k then (k, v) :: m else if k < k' then (k, v) :: (k', v') :: m else (k', v') :: spPut m k v

/-- Write `v` at key `k`; writing what an unlisted key reads as removes the entry. -/
def spSet {α : Type} [DecidableEq α] (d : Nat → α) (m : List (Nat × α)) (k : Nat) (v : α) : List (Nat × α) :=
  match m with
  | [] => if v = d k then [] else [(k, v)]
  | p :: l => if v = d k then spDel (p :: l) k else spPut (p :: l) k v

/-- Keys strictly rising, all above `lo` (when given), and no entry equal to its default. -/
def spWfFrom {α : Type} [DecidableEq α] (d : Nat → α) : Option Nat → List (Nat × α) → Bool
  | _, [] => true
  | lo, (k, v) :: m => (match lo with | none => true | some l => decide (l < k)) && decide (v ≠ d k) && spWfFrom d (some k) m

/-- The canonical form. -/
def spWf {α : Type} [DecidableEq α] (d : Nat → α) (m : List (Nat × α)) : Bool := spWfFrom d none m

end Sys2Proof.Machine
end

