-- ==== Sys2Proof/Machine/State.lean ====
section
/-! DEFINITION. The state of the node: every register of the register map (one sparse file keyed by word address),
the SRAM windows and their check bits, the flash on P0, and what each block carries beside its registers, with the
queue of waiting commands. Plain data throughout. Each structure's docstring cites the rules whose state it holds. -/

namespace Sys2Proof.Machine

open Sys2Proof

/-- Reasons a step can stop with a fault. The spec stops the node in no case: a fault of the node is state, and every
command goes on. No meaning raises this one; it is safe. -/
inductive Fault where
  /-- Raised by nothing in the model. -/
  | none
deriving DecidableEq, Repr

/-- Reasons a command has no meaning. -/
inductive Refusal where
  /-- Raised by an arm of `exec` whose command has no meaning yet; safe, since nothing is said of that command. -/
  | notModelled (mnemonic : String)
deriving DecidableEq, Repr

/-- The order of what falls in one core clock (R14, R451). -/
structure CoreSt where
  /-- Core clock in which the last input edge, host write or other event completed. -/
  evt : Option Nat := none
  /-- Core clock of the last hardware update of an RWH field or set of a W1C flag, and the bits of each register that
  hardware has so updated in it. -/
  hwAt : Nat := 0
  hw : List (Nat × Nat) := []
  /-- Core clock of the last change of a channel's state, and the states that the channels changed in it had before (R186). -/
  chAt : Nat := 0
  chWas : List (Nat × Nat) := []
deriving DecidableEq, Repr

/-- What a beacon gives the timebase from the next tick (R41, R47): the offset in ns, and the beacon's reference time, wrap
count and leap seconds. -/
structure TimeDue where
  off : Rat
  reft : Nat
  wrap : Nat
  leap : Nat
deriving DecidableEq, Repr

/-- The core clock, the timebase phase and the discipline of system time (R31 to R42, R452). System time itself is
TBS_TIME in the register file. -/
structure ClockSt where
  /-- Core clocks since power was applied; every internal timer of the model counts in them. -/
  cc : Nat := 0
  /-- Part of the current tb already passed, in units of 2^-39 tb: each core clock adds 2^32 + RATE. -/
  frac : Nat := 0
  /-- For each class of periodic instants, the system time of the last instant taken. -/
  taken : List (Nat × Nat) := []
  /-- Core clock of the last valid discipline input (R42), none since reset. -/
  lastDisc : Option Nat := none
  /-- LOCKED operation so far, newest first: core clocks spent and the rate term then in force. -/
  lockRuns : List (Nat × Int) := []
  /-- Core clock at which the present LOCKED run or rate began. -/
  runStart : Nat := 0
  /-- The node's frequency estimate of R39, in units of 2^-32; its law is not specified (R452). -/
  freqEst : Int := 0
  /-- Core clock at which HOLDOVER was entered. -/
  holdFrom : Nat := 0
  /-- Core clock of the last discipline, and the offset in ns that it left (R452). -/
  lastOff : Option (Nat × Rat) := none
  /-- Wraps of system time since TBS_WRAP was last set (R31). -/
  wraps : Int := 0
  /-- A beacon's discipline that waits for the next tick (R47). -/
  due : Option TimeDue := none
deriving DecidableEq, Repr

/-- What an encoder input carries beside its registers (R50 to R58, R71, R75). -/
structure EncSt where
  /-- Levels of A and B behind the filter. -/
  a : Bool := false
  b : Bool := false
  /-- Levels of the lines A and B, and the core clocks since which they have held (R50). -/
  ra : Bool := false
  rb : Bool := false
  raAt : Nat := 0
  rbAt : Nat := 0
  /-- Core clock at which Z rose, while the filter has not accepted it. -/
  zAt : Option Nat := none
  /-- Edges counted since reset, without wrap or preset. -/
  tally : Int := 0
  /-- Counted edges kept for the speed estimate, newest first: core clock and tally. -/
  edges : List (Nat × Int) := []
  /-- Direction of the last counted edge: 1, −1, or 0 for none. -/
  dirn : Int := 0
  /-- Core clock of the last counted edge. -/
  lastEdge : Option Nat := none
  /-- Core clock from which BREAK has read 1. -/
  brkFrom : Option Nat := none
deriving DecidableEq, Repr

/-- What a serial sensor input carries beside its registers (R59 to R61, R72). -/
structure SsSt where
  /-- Scheduler tick on which the read in progress started. -/
  reading : Option Nat := none
  /-- Core clock of that start. -/
  startCc : Nat := 0
  /-- System time of the tick on which the last read started. -/
  lastStart : Option Nat := none
  /-- Core clock of the end of the last frame (R59). -/
  ended : Option Nat := none
  /-- Length of the present run of good reads. -/
  good : Nat := 0
  /-- Length of the present run of errored reads. -/
  bad : Nat := 0
  /-- Last good value before the sign of INV, as R61 compares it. -/
  lastRaw : Option Nat := none
  /-- Last good value with the sign of INV. -/
  val : Int := 0
  /-- Good reads kept for the speed estimate, newest first: core clock of their tick and value. -/
  reads : List (Nat × Int) := []
deriving DecidableEq, Repr

/-- A travel base that is carried forward: travel in tc, speed in tc/s as Q31.8, and its local system time. -/
structure Base where
  x : Nat
  v : Int
  t : Nat
deriving DecidableEq, Repr

/-- Travel beside its registers (R44 to R49, R62 to R76). -/
structure TravelSt where
  enc : List (Nat × EncSt) := []
  ss : List (Nat × SsSt) := []
  /-- Base from the last accepted beacon (R44). -/
  bcn : Option Base := none
  /-- Core clock of the last beacon valid for travel (R65, R276). -/
  bcnCc : Option Nat := none
  /-- Base from the last GNSS fix (R62). -/
  fix : Option Base := none
  /-- The sum of TRV_BIAS and TRV_OFFSET that the travel of that fix's anchor held (R101). -/
  fixBase : Int := 0
  /-- Core clock of the last fix that passed the consistency checks (R62). -/
  fixCc : Option Nat := none
  /-- Correction still to be applied, in units of 1/8,192 tc (R45). -/
  rem : Int := 0
  /-- The part of it applied at each tick, in the same units. -/
  part : Int := 0
  /-- A correction against the motion holds travel at the last tick's value (R46). -/
  held : Bool := false
  /-- Travel at past ticks, newest first: system time and travel (R69, R76). -/
  hist : List (Nat × Nat) := []
  /-- Speed at past ticks, newest first: system time and speed as Q31.8 (R74). -/
  vhist : List (Nat × Int) := []
  /-- System time of the last scheduler tick. -/
  lastTick : Nat := 0
  /-- A host write of PRI waits for the next tick (R67). -/
  priPend : Bool := false
  /-- Core clock from which the present source has been estimated (R75, R76). -/
  srcFrom : Nat := 0
  /-- Core clock at which standstill asserted, while it holds. -/
  stillFrom : Option Nat := some 0
  /-- The grace close of the present standstill has been made (R141). -/
  graceDone : Bool := false
  /-- Standstill was released since the last tick (R141). -/
  released : Bool := false
  /-- DIR as the planner last saw it (R142). -/
  planDir : Bool := false
  /-- Whether source 2Ah has been reported for the present loss of travel. -/
  lostRep : Bool := false
deriving DecidableEq, Repr

/-- Magnetic switches and dual-channel inputs beside their registers (R77 to R80, R453). -/
structure MsSt where
  /-- For each input, the length of the run of samples that differ from the debounced state. -/
  runs : List (Nat × Nat) := []
  /-- For each pair, a write of EN or ANTI restarts the comparison at the next sample. -/
  restart : List (Nat × Bool) := []
  /-- For each pair, the present disagreement has reached T (R79). -/
  hit : List (Nat × Bool) := []
deriving DecidableEq, Repr
/-- One record of the event store: three words with their check bits (bits 4:0 the parity mismatch of bytes 0 to 4,
bit 5 poison) and the store row it occupies (R124, R341). -/
structure Rec where
  w0 : Word
  w1 : Word
  w2 : Word
  c0 : Nat := 0
  c1 : Nat := 0
  c2 : Nat := 0
  slot : Nat := 0
deriving DecidableEq, Repr

/-- States a queue holds of itself; FROZEN is read from RUN and standstill (Table 5-6, R141). -/
inductive QState where
  | off | run | flush | safe
deriving DecidableEq, Repr

/-- A queue or ring beside its registers (R124, R135 to R138). -/
structure QueueSt where
  /-- Records in queue order; a ring item is NREC consecutive records. -/
  recs : List Rec := []
  st : QState := .off
  /-- Words of the head item already read through EVS_POP (R137). -/
  popped : Nat := 0
  /-- System time of the last tick by which a flush in progress ends. -/
  flushBy : Nat := 0
  /-- The state a flush ends in is SAFE (R136). -/
  toSafe : Bool := false
deriving DecidableEq, Repr

/-- The item a producer is assembling (R125). -/
structure Asm where
  /-- Words received, oldest first; empty when none is in assembly. -/
  words : List Word := []
  /-- Check bits of the words, as delivered. -/
  chks : List Nat := []
  /-- PUSHC words are dropped until the next PUSHS, and counted for this queue (R135). -/
  dropQ : Option Nat := none
deriving DecidableEq, Repr

/-- The planner beside its registers (R120, R121, R140, R143). -/
structure PlanSt where
  /-- Whether the planner plans by travel, by time, or not at all: 0 none, 1 travel, 2 time. -/
  kind : Nat := 0
  /-- The exit edge of the last expanded cell, once a cell has been expanded. -/
  frontier : Option Nat := none
  /-- Channels holding back a close on an exit edge, with that edge (R119). -/
  heldBack : List (Nat × Nat) := []
  /-- Pushes of the present cell not yet admitted, oldest first: queue and record words (R121). -/
  wait : List (Nat × Word × Word × Word) := []
  /-- The active bank is taken as outside the map because a header word was poisoned (R346). -/
  hdrBad : Bool := false
  /-- A bank is active (from the end of BOOT) and whether the active one is valid. -/
  active : Bool := false
  valid : Bool := false
  /-- System time of the next UNIFORM period start. -/
  uNext : Option Nat := none
  /-- Sequence number of the planner's pushes. -/
  seq : Nat := 0
deriving DecidableEq, Repr
/-- An open deferred by off-time, outside the store (R133): the record it came from. -/
structure Deferred where
  q : Nat
  seq : Nat
  prog : Nat
  /-- Lead in force when it was reached. -/
  lead : Int := 0
  /-- Whether a record asked for it, and the outcome code of its execution (0, 6 or 7). -/
  real : Bool := true
  code : Nat := 0
deriving DecidableEq, Repr

/-- A WAIT in progress (R177). -/
structure WaitSt where
  /-- Core clock of the WAIT's slot. -/
  start : Nat
  /-- Sum of |CUR| × 8 µs since the slot, in nC. -/
  charge : Nat := 0
deriving DecidableEq, Repr

/-- An armature detection in progress (R158, R159). -/
structure DetSt where
  /-- Core clock of the pull-in start or close start. -/
  start : Nat
  /-- Examined as a peak (R158) or as a valley (R159). -/
  peak : Bool
  /-- Running maximum or minimum of |CUR| in the window, and its time in µs. -/
  ext : Option (Nat × Nat) := none
  /-- Samples in a row beyond the threshold. -/
  run : Nat := 0
  /-- A period in the window was masked. -/
  masked : Bool := false
  /-- A result is established: 1 MOVED, 2 NOMOVE, 3 MASKED, with its latency. -/
  res : Option (Nat × Nat) := none
deriving DecidableEq, Repr

/-- The resistance measurement of a pull-in (R191, R192). -/
structure MeasSt where
  start : Nat
  /-- Sums and counts of CUR in the three windows. -/
  sums : List (Int × Nat) := []
  /-- Samples of VDRV in the windows. -/
  vs : List Nat := []
  /-- A condition of R192 has failed. -/
  bad : Bool := false
deriving DecidableEq, Repr

/-- A credited interval of open time that metering has not finished (R245, R246). -/
structure Credit where
  /-- Core clock from which time is still to be credited: the open edge, then the last update. -/
  fromCc : Nat
  /-- The open edge is estimated. -/
  est : Bool
  /-- Core clock of a close start whose close edge is not known yet: time beyond it waits for the edge. -/
  hold : Option Nat := none
  /-- The close edge, once known. -/
  toCc : Option Nat := none
  /-- The close edge is estimated. -/
  estTo : Bool := false
deriving DecidableEq, Repr

/-- A valve channel beside its registers (chapters 6 to 8, and the scheduled state of R131). -/
structure ValveSt where
  /-- Scheduled state S_n: open. -/
  sn : Bool := false
  /-- The valve is taken to be closed by a grace close, and reopens on release (R141). -/
  deferred : Option Deferred := none
  /-- The channel closes at the next tick because its queue was flushed, or by a mode (R135). -/
  closeDue : Bool := false
  /-- A close held on a LATCHED pair by a group condition: queue, SEQ and PROG (R163). -/
  heldClose : Option Deferred := none
  /-- Core clock at which the channel entered OFF, while its off-time runs (R157). -/
  offFrom : Option Nat := none
  /-- The running safe program is a recovery under R183 and ends in OFF. -/
  recovery : Bool := false
  /-- The program that runs ends in SAFE although it is a close program (R164). -/
  toSafe : Bool := false
  /-- The source whose report led to the present safe program, for R405. -/
  why : Nat := 0
  /-- Core clock of the program's start, and of the last slot used. -/
  started : Nat := 0
  slotAt : Option Nat := none
  /-- Core clock of the first DRIVE of the program (R173). -/
  driven : Option Nat := none
  /-- Instructions executed in this run. -/
  icount : Nat := 0
  /-- Present current target i_t in µA, the ramp's end in mA and its slope in mA/ms (0: no ramp). -/
  it : Int := 0
  goal : Nat := 0
  ramp : Nat := 0
  /-- The program has executed HOLD: i_t is the working setpoint. -/
  holding : Bool := false
  /-- Integrator term s of R152. -/
  s : Int := 0
  wait : Option WaitSt := none
  /-- Core clock from which a REVERSE has been turning polarity. -/
  revFrom : Option Nat := none
  /-- Decay mode chosen by DECAY for later periods: none means the program set none. -/
  decay : Option Bool := none
  odet : Option DetSt := none
  cdet : Option DetSt := none
  meas : Option MeasSt := none
  /-- Last capture edge and next sample instant, in µs of the group's frames. -/
  edgeAt : Option Nat := none
  sampleAt : Nat := 0
  /-- Samples of the present period: sum and count. -/
  psum : Int := 0
  pcnt : Nat := 0
  /-- The largest |CUR| among them. -/
  pmax : Nat := 0
  /-- Samples of the present millisecond: sum of CUR² and count. -/
  qsum : Nat := 0
  qcnt : Nat := 0
  /-- Periods in a row in HOLD at full duty with |CUR| below a quarter of HOLDACT, and whether this run has reported. -/
  lowRun : Nat := 0
  /-- Peak budget (R155): core clock from which |CUR| has exceeded the rating, and since which it has not. -/
  overFrom : Option Nat := none
  underFrom : Option Nat := none
  /-- A limit applies now; a limit has applied and 450 ms at or below the rating have not passed; the 50 ms of the present
  excess have been acted on. -/
  limited : Bool := false
  spent : Bool := false
  tripped : Bool := false
  /-- Winding and body temperature in °C (R188); none until first set from the ambient. -/
  tw : Option Rat := none
  tb : Option Rat := none
  /-- A valid RMEAS waits for the next model update (R193); one has been valid since power-on. -/
  rmPend : Option Nat := none
  rmLast : Option Nat := none
  /-- Latency estimates in units of 1/256 µs (R197) and runs of rejections (R198). -/
  lo : Nat := 0
  lc : Nat := 0
  rejO : Nat := 0
  rejC : Nat := 0
  /-- Estimate outside the band (R199). -/
  outO : Bool := false
  outC : Bool := false
  /-- Credited intervals (R245), oldest first, and whether the latched state is unknown. -/
  credits : List Credit := []
  unknown : Bool := false
  /-- Fractions of VOL in 2^-16 mL and of RAW in 2^-35 mL (R249). -/
  frac : Nat := 0
  rawFrac : Nat := 0
deriving DecidableEq, Repr

/-- A valve group beside its registers (R163): the live conditions of Table 6-5, bits 0 UV, 1 OV, 2 OT. -/
structure GroupSt where
  cond : Nat := 0
deriving DecidableEq, Repr
/-- An action of a lasting fault that falls due at the next tick (R398). -/
structure DueAct where
  src : Nat
  inst : Nat
  act : Nat
deriving DecidableEq, Repr

/-- Fault supervision beside its registers (R394 to R403); instances are keyed src × 64 + inst. -/
structure FaultSt where
  /-- System times of the last 15 events of each instance, newest first. -/
  hist : List (Nat × List Nat) := []
  /-- Latched instances. -/
  latched : List (Nat × Bool) := []
  due : List DueAct := []
  /-- Clears written to FSV_CLR and not yet evaluated, oldest first (R402). -/
  clears : List Nat := []
deriving DecidableEq, Repr

/-- Modes beside their registers (R371, R380 to R391). -/
structure ModeSt where
  /-- MOD_CMD targets written since the last tick, oldest first (R380). -/
  cmds : List Nat := []
  /-- Causes that lead to HOLD and wait for the next tick, as CAUSE codes 2, 4 and 5 (R382). -/
  hold : List Nat := []
  /-- A LIMP action waits. -/
  limp : Bool := false
  /-- A loss of travel waits. -/
  lost : Bool := false
  idle : Bool := false
  sched : Bool := false
  /-- Stage of the DORMANT entry sequence: 0 none, 1 channels close, 3 ledger commit, 4 raw report, 5 ready to gate;
  2 clocks gated (R387). -/
  dorm : Nat := 0
  /-- Core clock of the last accepted host or link traffic of R391, and of entry to HOLD. -/
  traffic : Nat := 0
  holdFrom : Nat := 0
  /-- A wake has occurred and MODE becomes HOLD at the next tick (R390). -/
  waking : Bool := false
  /-- The injector's two conditions held at the last tick (R386). -/
  inj : Bool := false
  /-- The MOD_CMD target that woke the node, applied at the tick after MODE becomes HOLD. -/
  wakeCmd : Option Nat := none
deriving DecidableEq, Repr

/-- A control stage beside its registers: what its most recent sample used and produced (R203 to R223, R234). -/
structure StageSt where
  /-- States, measurements, working set-point with injection, feed-forward, limited outputs, injected value, target. -/
  x : List Int := []
  y : List Int := []
  w : Int := 0
  f : Int := 0
  u : List Int := []
  v : Int := 0
  tgt : Int := 0
  /-- For each output: 1 limited at UMAX, −1 at UMIN, 0 not limited. -/
  lim : List Int := []
  /-- EN was written 0 while HELD (R223). -/
  lowSeen : Bool := false
  /-- A tick's action wrote the target: that tick's system time, and the target before it (R207). -/
  tgtWas : Option (Nat × Word) := none
  /-- What the present sample does: 0 nothing, 1 run, 2 start, 3 release of FREEZE, 4 frozen. -/
  ph : Nat := 0
  /-- Pulse counts of FP0 and FP1 when the stage last entered START. -/
  base : List Nat := []
deriving DecidableEq, Repr

/-- The supervisors beside their registers (R228 to R232), in numbers of the stage's samples. -/
structure SupSt where
  /-- Samples of LAI taken. -/
  k : Nat := 0
  /-- Schmitt state: 1 above, −1 below, 0 not yet passed. -/
  side : Int := 0
  /-- Kept crossings, newest first: sample and peak |e| since it. -/
  cross : List (Nat × Nat) := []
  /-- The last RUN sample's y_PRIM. -/
  yprev : Option Int := none
  /-- Last samples with a rising and with a falling slope at or above HRATE. -/
  up : Option Nat := none
  down : Option Nat := none
  /-- Sample of the last water-hammer declaration. -/
  ham : Option Nat := none
  /-- The last control sample declared a following error (R229). -/
  fe : Bool := false
deriving DecidableEq, Repr

/-- A running injection: the fields captured at GO and its progress (R239 to R242). -/
structure InjSt where
  cfg : Word := 0
  amp : Int := 0
  dur : Nat := 0
  f0 : Nat := 0
  f1 : Nat := 0
  lfsr : Nat := 0
  phase : Nat := 0
  /-- Its sample number, of which CTL_INJ_STAT.M shows at most 24 bits; and it ended by itself at the last control sample. -/
  m : Nat := 0
  ended : Bool := false
deriving DecidableEq, Repr

/-- A trace buffer beside its registers (R235, R237). -/
structure TraceSt where
  /-- Rows still owed after the trigger. -/
  owed : Nat := 0
  /-- An event of TMODE, or FORCE, waits for the next row. -/
  pend : Bool := false
  /-- Word TSIG of the last row, when a level can be compared with it. -/
  prev : Option Int := none
deriving DecidableEq, Repr

/-- A flowmeter input (R440, R441): pulses counted since the end of BOOT, and the core clocks of the last 16. -/
structure FpSt where
  count : Nat := 0
  stamps : List Nat := []
deriving DecidableEq, Repr

/-- A flow-step profile received: its stamp and its bins. -/
structure Profile where
  at_ : Nat
  bins : List Int
deriving DecidableEq, Repr

/-- The control engine beside its registers: chapters 9, 10 and the inputs and outputs of chapter 22. -/
structure CtlSt where
  stages : List (Nat × StageSt) := []
  sup : SupSt := {}
  inj : InjSt := {}
  trc : List (Nat × TraceSt) := []
  fp : List (Nat × FpSt) := []
  /-- The last publication instant, the sum S formed there, and the profiles received since (R210). -/
  pk : Option Nat := none
  sum : List Int := []
  got : List Profile := []
  /-- AI codes of the last strobe, and the inputs in current mode (bit k: AIk; R437). -/
  ai : List Nat := []
  aiMode : Nat := 0
  /-- Output latches: 1 AO0, 2 AO1, 3 PW0, 4 PW1, as raw values last driven (R444). -/
  out : List (Nat × Nat) := []
  /-- PW0 and PW1: duty of the present period (keys 3 and 4), 0 after an overcurrent (R443). -/
  pw : List (Nat × Nat) := []
  /-- During a control sample: the coefficient writes still to complete, and the coefficient fetches begun (R226). -/
  mid : List CoefWrite := []
  fetches : Nat := 0
deriving DecidableEq, Repr
/-- What SBAS says of a satellite: the SV code of the SBAS satellite that sent it, the correction to its pseudorange in mm, and
whether it is marked "do not use" (R83). -/
structure SbasInfo where
  sender : Nat
  corr : Int
  dnu : Bool
deriving DecidableEq, Repr

/-- A tracking channel beside its register (R91, R92, R95). -/
structure GnssCh where
  /-- Core clock of the hand-over from acquisition. -/
  handed : Nat := 0
  /-- Core clock of the last cycle slip. -/
  slip : Option Nat := none
deriving DecidableEq, Repr

/-- The anchor of GNSS travel (R99): travel, the position there east and north of the reference point, and the displacement
since, in µm. -/
structure Anchor where
  x : Nat
  /-- The sum of TRV_BIAS and TRV_OFFSET that `x` holds (R101). -/
  b : Int
  e : Int
  n : Int
  de : Int := 0
  dn : Int := 0
deriving DecidableEq, Repr

/-- A notch in use (R87): the bin it follows, and the core clock since which that has stayed below the release level. -/
structure Notch where
  bin : Nat
  low : Option Nat := none
  /-- The interferer's power above the median, in units of 0.125 dB, and its frequency from L1 in units of 100 Hz. -/
  pwr : Nat := 0
  freq : Int := 0
deriving DecidableEq, Repr

/-- A snapshot of this node (R103 to R107). Stage 0: accepted; 1: the front end is powered; 2: capture runs; 3: captured. -/
structure Snap where
  id : Nat
  dur : Nat
  tcap : Nat
  peer : Nat
  loc : Bool
  off : Nat
  stage : Nat := 0
  /-- Core clock of the capture's start, and the header fields fixed there (bytes 6 to 17 and 24 to 37 of Table 4-7, and
  TBOFF). -/
  at_ : Nat := 0
  times : List Byte := []
  tail : List Byte := []
  tboff : List Byte := []
  /-- Segments still to be put in Q62, by SEGNO, and those not yet acknowledged. -/
  todo : List Nat := []
  unacked : List Nat := []
  /-- The header segment once formed. -/
  hdr : List Byte := []
deriving DecidableEq, Repr

/-- A snapshot the head has asked for (R109, R110). -/
structure GeoReq where
  node : Nat
  id : Nat
  dur : Nat
  off : Nat
  /-- Core clock of T_cap. -/
  at_ : Nat
  /-- Core clock of the header's arrival, and the header. -/
  hdrCc : Option Nat := none
  hdr : List Byte := []
  segs : List Nat := []
  /-- Core clock at which the record became complete. -/
  done : Option Nat := none
deriving DecidableEq, Repr

/-- The GNSS baseband, snapshots and geometry beside their registers (chapter 4). -/
structure GnbSt where
  /-- Satellites whose navigation data is held, with the core clock of its last decoding, and the last position, earth-centred and earth-fixed in mm; both
  outlast every reset but power-on (R117, R373). -/
  nav : List (Nat × Nat) := []
  pos : Option (Int × Int × Int) := none
  ch : List (Nat × GnssCh) := []
  /-- For each excluded satellite, the core clock to which it stays so (R95). -/
  excl : List (Nat × Nat) := []
  /-- What SBAS says of each satellite, and until when each SBAS satellite is out of use for a message of type 0 (R83). -/
  sbas : List (Nat × SbasInfo) := []
  sbasOff : List (Nat × Nat) := []
  /-- Core clock of the last epoch with a fix. -/
  lastFix : Option Nat := none
  anchor : Option Anchor := none
  /-- The next valid fix anchors: a write of ANCHOR, or a gap that could not be bridged. -/
  reanchor : Bool := false
  /-- Biases of the present run of failing clock checks that agree, and the next such fix is accepted (R96). -/
  clkRun : List Int := []
  clkOk : Bool := false
  /-- Consecutive passing fixes in FREERUN, newest first: core clock and bias (R97). -/
  runs : List (Nat × Int) := []
  /-- Core clock at which a short removed the antenna bias. -/
  antOff : Option Nat := none
  /-- Core clock of the last report of GNSS interference. -/
  jamRep : Option Nat := none
  /-- Consecutive spectra in which each bin exceeded the threshold, and the notches in use. -/
  bins : List (Nat × Nat) := []
  notch : List (Nat × Notch) := []
  /-- The snapshot buffer's bytes that are not 0, and the offsets whose parity mismatches. -/
  buf : List (Nat × Byte) := []
  bad : List Nat := []
  snaps : List Snap := []
  /-- Store rows of the first records of Q62 items that are not for the link. -/
  locals : List Nat := []
  reqs : List GeoReq := []
  /-- Core clock of the last service turn, and the node served last. -/
  turn : Option Nat := none
  served : Option Nat := none
  /-- Core clock at which the last processing ended. -/
  proc : Nat := 0
  /-- For each tower, core clock and AGE at the last acceptance or load, and the head's travel then. -/
  acc : List (Nat × Nat × Nat) := []
  accX : List (Nat × Nat) := []
  /-- Core clock at which STATUS of a tower ceased to be 1 (R115). -/
  left : List (Nat × Nat) := []
  /-- Core clock at which the service last started. -/
  since : Nat := 0
deriving DecidableEq, Repr


/-- A unicast frame sent and not yet completed (R280 to R282). Phase 0 waits for the ACK, 1 waits to be sent again, 2
waits RETRY ms. -/
structure Out where
  ring : Nat
  dst : Nat
  cls : Nat
  seq : Nat
  payload : List Byte
  phase : Nat := 0
  /-- Core clock of the end of the frame, or at which RETRY ends. -/
  at_ : Nat := 0
  /-- Times sent, and retransmissions that ended in a missing ACK (R282). -/
  sends : Nat := 0
  misses : Nat := 0
deriving DecidableEq, Repr

/-- An item that waits for room in a transmit ring (R137). -/
structure TxWait where
  ring : Nat
  dst : Nat
  cls : Nat
  bc : Bool
  payload : List Byte
  /-- It is the host's frame (R289). -/
  host : Bool := false
deriving DecidableEq, Repr

/-- The result kept for an accepted SEQ (R284). -/
structure RxRes where
  seq : Nat
  res : Nat
  adm : Nat := 0
  retry : Nat := 0
deriving DecidableEq, Repr

/-- The link beside its registers (chapter 12). -/
structure LnkSt where
  outs : List Out := []
  wait : List TxWait := []
  /-- Results kept for the frames in each sender's window. -/
  res : List (Nat × List RxRes) := []
  /-- Consecutive missing ACKs to each destination, and whether it has reported an SNR (R272). -/
  miss : List (Nat × Nat) := []
  known : List (Nat × Bool) := []
  /-- Exponent of CW for Q56 and Q57 once it has left its starting value (R280). -/
  cw : List (Nat × Nat) := []
  /-- SEQ of the host's frame in progress (R289). -/
  host : Option Nat := none
  /-- The frame last put on the cable. -/
  sent : Option Frame := none
  /-- Core clock at which that frame has left the node. -/
  txTo : Nat := 0
  /-- Core clock at which the last frame known on the medium ends (R278). -/
  busyTo : Nat := 0
  /-- For a transmit ring whose frame contends for the medium: backoff slots left, and the core clock from which idle slots
  count them (R279). -/
  bo : List (Nat × Nat × Nat) := []
  /-- Address of the sender of the last beacon accepted under R47. -/
  head : Option Nat := none
  /-- Core clock since which energy sensing is ignored. -/
  csFrom : Option Nat := none
  /-- Held BOOT: the band listened in, since when, and the end of the stay after a CERTREQ (R378). -/
  band : Nat := 0
  bandAt : Nat := 0
  stay : Option Nat := none
  /-- Core clock of the last CERTREQ answered (R298). -/
  certAt : Option Nat := none
deriving DecidableEq, Repr

/-- The keys of one generation with a peer: K_mac and K_wrap (R300). -/
structure PairKey where
  gen : Nat
  mac : Nat
  wrap : Nat
deriving DecidableEq, Repr

/-- The session with a peer (R302). -/
structure Session where
  cur : Option PairKey := none
  old : Option PairKey := none
  /-- Core clock of the last installation. -/
  at_ : Nat := 0
deriving DecidableEq, Repr

/-- A key exchange in progress (R299 to R302). Stage 1: KX1 sent; 2: KX2 sent; 3: KX3 sent. -/
structure Exchange where
  peer : Nat
  init : Bool
  gen : Nat
  fresh : Bool
  /-- The ephemeral private key. -/
  eph : Nat
  kx1 : List Byte := []
  kx2 : List Byte := []
  keys : Option PairKey := none
  stage : Nat
  /-- Core clock of the last message sent, and KX1 frames sent. -/
  at_ : Nat
  tries : Nat := 1
  /-- The last failure noted, as KEY_KXSTAT.WHY. -/
  why : Nat := 1
deriving DecidableEq, Repr

/-- A group key held: generation, key, core clock of arrival. -/
structure GroupKey where
  gen : Nat
  key : Nat
  at_ : Nat
deriving DecidableEq, Repr

/-- An enrollment entry (R296). -/
structure Entry where
  certid : Nat
  pub : Nat
  addr : Nat
  headcap : Bool
deriving DecidableEq, Repr

/-- Identity and keys beside their registers (chapter 13). `owner` and `epoch` are in the internal non-volatile store. -/
structure KeySt where
  sess : List (Nat × Session) := []
  kx : List Exchange := []
  /-- Peers not to be initiated with, and until which core clock (R301). -/
  barred : List (Nat × Nat) := []
  /-- Group keys held, newest first. -/
  grp : List GroupKey := []
  /-- On the active head: a generation being distributed, and the nodes that acknowledged it (R303). -/
  next : Option GroupKey := none
  acked : List Nat := []
  /-- Core clock of the last draw of a group key. -/
  drawn : Nat := 0
  /-- The key engine (R305): KEYX frames queued for it, oldest first, and the core clock until which it works. -/
  work : List Frame := []
  engTo : Nat := 0
  entries : List Entry := []
  owner : Option Nat := none
  epoch : Nat := 0
deriving DecidableEq, Repr

/-- A replication epoch (R313, R315). -/
structure Epoch where
  e : Nat
  rep : Nat
  segs : List (Nat × List Byte) := []
  t : Nat := 0
  stream : List Byte := []
  sects : List (Nat × Nat × Nat) := []
deriving DecidableEq, Repr

/-- Active and standby heads beside their registers (chapter 14). -/
structure HeadSt where
  /-- Core clock of the last valid beacon from the active head, and at which arbitration ends (R312, R317). -/
  bcnCc : Option Nat := none
  arb : Option Nat := none
  asm : Option Epoch := none
  adopted : Option Epoch := none
  /-- Active head: the last REP captured, and REP and T of the epoch whose MANIFEST is not yet acknowledged. -/
  rep : Nat := 0
  sending : Option (Nat × Nat) := none
  /-- A group generation is to be drawn after the first beacon (R318). -/
  first : Bool := false
  /-- T of the last epoch whose MANIFEST was acknowledged with ADM = 1, while that is the last acknowledgement. -/
  syncT : Option Nat := none
  /-- Flowmeter latches, newest first: system time and pulse count (R316). -/
  latches : List (Nat × Nat) := []
  /-- Senders fenced, with the core clock (R321). -/
  fenced : List (Nat × Nat) := []
  /-- A handover waits for the next MANIFEST (1), or its HANDOVER for its ACK (2). -/
  ho : Nat := 0
deriving DecidableEq, Repr

/-- A raw report held by the head (R251). -/
structure RawRep where
  node : Nat
  day : Nat
  raw : Nat
deriving DecidableEq, Repr

/-- Metering and the ledger beside their registers (chapter 11). Stages of a commit: 0 idle, 1 wait for P0, 2 erase, 3
wait for the capture tick, 4 sign, 5 program the record, 6 program the marker, 7 read back. -/
structure LedSt where
  stage : Nat := 0
  /-- Core clock at which the stage began. -/
  at_ : Nat := 0
  /-- REASON bits of the running commit, and of triggers that wait. -/
  cur : Nat := 0
  wait : Nat := 0
  /-- A trigger waits; a failed commit keeps it until PERIOD next expires (R263). -/
  pend : Bool := false
  blocked : Bool := false
  /-- REASON bits of the failed commits whose triggers are so kept. -/
  kept : Nat := 0
  retry : Bool := false
  /-- A page poll of this attempt has timed out (R361). -/
  torn : Bool := false
  /-- Target slot, record and SEQ of the running commit; the last SEQ assigned. -/
  slot : Nat := 0
  body : List Byte := []
  recSeq : Nat := 0
  seq : Nat := 0
  /-- Core clock of the last capture. -/
  capAt : Nat := 0
  /-- The SRAM copy of the last published record, and the record before it. -/
  last : List Byte := []
  prev : List Byte := []
  /-- No record has been published since the reset: the next carries FIRST and this source. -/
  first : Option Nat := some 1
  genesis : Bool := false
  restart : Bool := false
  /-- Pressure was stale, an accumulator was restored, since the previous record; and at its capture. -/
  stale : Bool := false
  restored : Bool := false
  /-- Zones restored under R267 and not yet in a record. -/
  zrest : List Nat := []
  /-- The same three as captured by the running try, which a failure gives back (R258, R263). -/
  hadStale : Bool := false
  hadRest : Bool := false
  hadZones : List Nat := []
  /-- Zones whose accumulator has saturated. -/
  sat : List Nat := []
  /-- Line pressure last received from PNODE: sender, mbar, stale bit, core clock. -/
  press : Option (Nat × Nat × Bool × Nat) := none
  /-- Fraction of MUSE in 2^-16 mL. -/
  mfrac : Nat := 0
  /-- Core clock of arrival of the last CF. -/
  cfAt : Option Nat := none
  /-- Raw reports held by the head, and the day being reconciled: the day, its pulses and when it ended. -/
  reports : List RawRep := []
  day : Option (Nat × Nat × Nat) := none
  /-- The raw report of a DORMANT entry is under way (R387). -/
  rawBusy : Bool := false
deriving DecidableEq, Repr
/-- BOOT beside its registers (chapters 18 and 21). -/
structure BootSt where
  /-- Core clock of the release of reset. -/
  start : Nat := 0
  /-- The march test runs. -/
  march : Bool := true
  /-- The core clock has failed: reset is held until it recovers (R372). -/
  halted : Bool := false
  /-- Core clock at which the present step began. -/
  at_ : Nat := 0
  /-- Byte position in the image of the loader's pass; 0 before the header is read. -/
  pos : Nat := 0
  /-- Scope in force: bit a for address a. -/
  scope : Nat := 2 ^ 64 - 1
  /-- Pass 1: types of the records passed, newest first, and the scopes of the MAP records passed. -/
  types : List Nat := []
  maps : List Nat := []
  /-- The entry of ENROLL for this node, and whether a RELEASE names it. -/
  own : Option Entry := none
  released : Bool := false
  /-- Pass 1: the slot addresses that the LIMITS records in scope give. -/
  slotA : Nat := 0
  slotB : Nat := 0
  /-- The bytes that pass 1 read, the signature last; empty before its end. -/
  image : List Byte := []
  /-- Position of the body of an XFER record. -/
  xat : Option Nat := none
  /-- A new binding waits for acceptance: the hash of the owner key; and whether the XSIG of a transfer is to verify. -/
  bind : Option Nat := none
  xfer : Bool := false
  /-- Bank 0 carries a map seed of the image. -/
  seeded : Bool := false
deriving DecidableEq, Repr

/-- A transaction of the peripheral port, or the poll of a page program (R356 to R361). -/
structure PortJob where
  /-- 3 a raw transfer, 4 block-mover channel `ch`. -/
  own : Nat
  ch : Nat := 0
  sel : Nat
  /-- Core clock at which the select asserts. -/
  start : Nat
  /-- On P0: the page part sent waits for its poll, which began at `start`; the polls made so far. -/
  poll : Bool := false
  polls : Nat := 0
  /-- Flash address and bytes of that page part. -/
  at_ : Nat := 0
  sent : List Byte := []
deriving DecidableEq, Repr

/-- The reply that waits on the service port (R368, R369). -/
structure Reply where
  kind : Nat
  pois : Bool := false
  unimp : Bool := false
  addr : Nat := 0
  data : Word := 0
deriving DecidableEq, Repr

/-- The peripheral and service ports beside their registers (chapter 17). -/
structure SerSt where
  job : Option PortJob := none
  /-- Core clock from which the next select may assert (R358). -/
  free : Nat := 0
  /-- The write-enable latch of the flash on P0, set by 06h (R360, R361). -/
  wel : Bool := false
  /-- Reply of the last accepted frame, and whether frames have been discarded since. -/
  reply : Option Reply := none
  disc : Bool := false
  /-- The 72 bits that the node drove in the last frame. -/
  sdo : BitVec 72 := 0
  /-- Core clock of the release of the last accepted frame. -/
  rel : Option Nat := none
deriving DecidableEq, Repr

/-- A block-mover channel beside its registers (chapter 15). -/
structure MovSt where
  /-- Word address of the running descriptor; none when the host wrote it in W0 to W3. -/
  at_ : Option Nat := none
  /-- A STOP completed since the last boundary. -/
  stop : Bool := false
  /-- Source bytes taken so far, and the bytes in the funnel with their poison. -/
  taken : Nat := 0
  funnel : List (Byte × Bool) := []
  /-- A result has ended the descriptor, with its ADM. -/
  res : Option (Nat × Nat) := none
deriving DecidableEq, Repr
/-- The whole machine. Fields that other fields' docstrings do not explain: `regs` lists the registers that differ from
their reset words; `mem` the bytes (key 5 × word address + byte number, R5) of the shape stores, trace buffers and
prescription cache that differ from 0; `chk` the check bits of SRAM words that are not clean (bits 4:0 mismatched bytes,
bit 5 poison, R341); `free` counts the free values drawn so far. -/
structure State where
  regs : List (Nat × Word) := []
  mem : List Host.Cell := []
  chk : List (Nat × Nat) := []
  core : CoreSt := {}
  clk : ClockSt := {}
  trv : TravelSt := {}
  ms : MsSt := {}
  /-- Queues and rings Q0 to Q63. -/
  queues : List (Nat × QueueSt) := []
  /-- Producers' assemblies: key 1 service port, 2 link, 8 + n block-mover channel n (R125). -/
  asms : List (Nat × Asm) := []
  /-- Released records, newest first: what the event-store window still shows of them (R374). -/
  spent : List Rec := []
  plan : PlanSt := {}
  valves : List (Nat × ValveSt) := []
  groups : List (Nat × GroupSt) := []
  flt : FaultSt := {}
  mode : ModeSt := {}
  ctl : CtlSt := {}
  lnk : LnkSt := {}
  key : KeySt := {}
  gnb : GnbSt := {}
  hd : HeadSt := {}
  led : LedSt := {}
  boot : BootSt := {}
  ser : SerSt := {}
  /-- Block-mover channels D0 to D7. -/
  mov : List (Nat × MovSt) := []
  /-- The flash on P0: bytes that differ from FFh (chapter 17). -/
  flash : List (Nat × Byte) := []
  free : Nat := 0
  pending : List Instr := []
deriving DecidableEq, Repr

/-- The machine right after power-on reset: every register at its reset word, memory as the march test leaves it,
nothing queued, nothing pending (R11, R351, R373). (log 1: DESIGN CHOICE, unsafe; log 163: DESIGN CHOICE, unsafe.) -/
def State.reset : State := {}

end Sys2Proof.Machine
end

