-- ==== Sys2Proof/Machine/Ops.lean ====
section
/-! DEFINITION. The named operations over registers, memory, free values and the clock that every meaning uses. -/

namespace Sys2Proof.Machine

open Sys2Proof

/-! ### Registers -/

/-- The stored word of a register (views that are computed at a read are added by `regView`). -/
def State.reg (s : State) (a : Nat) : Word := spGet resetWord s.regs a

/-- Store a register word. -/
def State.setReg (s : State) (a : Nat) (v : Word) : State := { s with regs := spSet resetWord s.regs a v }

/-- The value of a field (R4). -/
def State.fld (s : State) (f : Fld) : Nat := bitsOf (s.reg f.addr).toNat f.hi f.lo

/-- Store a field; the value is truncated to the field width. -/
def State.setFld (s : State) (f : Fld) (v : Nat) : State :=
  s.setReg f.addr (BitVec.ofNat 40 (setBits (s.reg f.addr).toNat f.hi f.lo v))

/-- The width of a field. -/
def Fld.width (f : Fld) : Nat := f.hi + 1 - f.lo

/-- The signed value of a field (R7). -/
def State.fldI (s : State) (f : Fld) : Int := sx f.width (s.fld f)

/-- Store a signed value in a field, modulo its width. -/
def State.setFldI (s : State) (f : Fld) (x : Int) : State := s.setFld f (wrapW f.width x)

/-- Store a signed value in a field, saturated to its width. -/
def State.setFldSat (s : State) (f : Fld) (x : Int) : State := s.setFldI f (satS f.width x)

/-- A one-bit field as a truth value. -/
def State.flag (s : State) (f : Fld) : Bool := s.fld f % 2 == 1

/-- Set or clear a one-bit field. -/
def State.setFlag (s : State) (f : Fld) (b : Bool) : State := s.setFld f (b2n b)

/-- Add k to a saturating counter field. -/
def State.incBy (s : State) (f : Fld) (k : Nat) : State := s.setFld f (satAdd f.width (s.fld f) k)

/-- Increment a saturating counter field. -/
def State.inc (s : State) (f : Fld) : State := s.incBy f 1

/-! ### Free values -/

/-- Draw a free value below `n` (0 when n = 0). (log 5: DESIGN CHOICE, safe.) -/
def State.draw (s : State) (n : Nat) : Nat × State := (Config.freeNat s.free % n, { s with free := s.free + 1 })

/-- num / den (den > 0) rounded where the spec names no rounding: exact quotients stay, others go down or up as the
free direction of `site` says. (log 5: DESIGN CHOICE, safe.) -/
def freeRound (site : Nat) (num : Int) (den : Nat) : Int :=
  if num % (den : Int) = 0 then num / den else if Config.roundUp site num den then num / den + 1 else num / den

/-! ### Bytes and words of the memory windows -/

/-- A byte of the windows held in `mem`; an unlisted byte reads 0, as the march test leaves it (R351).
(log 13: DESIGN CHOICE, unsafe.) -/
def State.memByte (s : State) (a : Nat) : Byte := spGet (fun _ => 0#8) s.mem a

/-- Write one byte. -/
def State.setMemByte (s : State) (a : Nat) (b : Byte) : State := { s with mem := spSet (fun _ => 0#8) s.mem a b }

/-- The canonical form of memory. -/
def Memory.wf (m : List Host.Cell) : Bool := spWf (fun _ => 0#8) m

/-- The data of the word at word address `a`: byte k in bits [8k+7:8k] (R4, R5). -/
def State.memWord (s : State) (a : Nat) : Word :=
  BitVec.ofNat 40 ((List.range 5).foldr (fun k x => (s.memByte (5 * a + k)).toNat + 256 * x) 0)

/-- Write the five bytes of the word at word address `a`, leaving its check bits. -/
def State.setMemWord (s : State) (a : Nat) (v : Word) : State :=
  (List.range 5).foldl (fun s k => s.setMemByte (5 * a + k) (BitVec.ofNat 8 (v.toNat / 256 ^ k))) s

/-- The check bits of an SRAM word: bits 4:0 bytes whose parity mismatches, bit 5 poison (R341). -/
def State.chkAt (s : State) (a : Nat) : Nat := spGet (fun _ => 0) s.chk a

/-- Set the check bits of an SRAM word. -/
def State.setChk (s : State) (a : Nat) (c : Nat) : State := { s with chk := spSet (fun _ => 0) s.chk a (c % 64) }

/-! ### Sparse parts of the state -/

def State.encOf (s : State) (n : Nat) : EncSt := spGet (fun _ => {}) s.trv.enc n
def State.setEnc (s : State) (n : Nat) (e : EncSt) : State := { s with trv := { s.trv with enc := spSet (fun _ => {}) s.trv.enc n e } }
def State.ssOf (s : State) (n : Nat) : SsSt := spGet (fun _ => {}) s.trv.ss n
def State.setSs (s : State) (n : Nat) (e : SsSt) : State := { s with trv := { s.trv with ss := spSet (fun _ => {}) s.trv.ss n e } }
def State.queue (s : State) (q : Nat) : QueueSt := spGet (fun _ => {}) s.queues q
def State.setQueue (s : State) (q : Nat) (x : QueueSt) : State := { s with queues := spSet (fun _ => {}) s.queues q x }
def State.asm (s : State) (p : Nat) : Asm := spGet (fun _ => {}) s.asms p
def State.setAsm (s : State) (p : Nat) (x : Asm) : State := { s with asms := spSet (fun _ => {}) s.asms p x }
def State.valve (s : State) (n : Nat) : ValveSt := spGet (fun _ => {}) s.valves n
def State.setValve (s : State) (n : Nat) (x : ValveSt) : State := { s with valves := spSet (fun _ => {}) s.valves n x }
/-- Change the hidden part of one channel. -/
def State.modValve (s : State) (n : Nat) (f : ValveSt → ValveSt) : State := s.setValve n (f (s.valve n))
def State.group (s : State) (g : Nat) : GroupSt := spGet (fun _ => {}) s.groups g
def State.setGroup (s : State) (g : Nat) (x : GroupSt) : State := { s with groups := spSet (fun _ => {}) s.groups g x }

/-! ### The clock -/

/-- System time (R8, R31). -/
def State.now (s : State) : Nat := s.fld F.TBS_TIME_TIME

/-- One tb in units of 2^-39 tb. -/
def tbUnit : Nat := 2 ^ 39

/-- What one core clock adds to the timebase: 2^32 plus the rate term (R39, Table 2-6). -/
def State.perClock (s : State) : Nat := ((2 ^ 32 : Nat) + s.fldI F.TBS_RATE_RATE).toNat

/-- Let `dt` core clocks pass; a wrap of system time is counted (R31). -/
def State.advCc (s : State) (dt : Nat) : State :=
  let t := s.clk.frac + dt * s.perClock
  { s.setFld F.TBS_TIME_TIME ((s.now + t / tbUnit) % mod40) with
    clk := { s.clk with
      cc := s.clk.cc + dt, frac := t % tbUnit, wraps := s.clk.wraps + ((s.now + t / tbUnit) / mod40 : Nat) } }

/-- Let the clock run up to core clock `c`; no change when it has passed. -/
def State.advCcTo (s : State) (c : Nat) : State := if s.clk.cc < c then s.advCc (c - s.clk.cc) else s

/-- Let the clock run until system time first reaches `t`; no change when d(t, now) ≤ 0. -/
def State.advTo (s : State) (t : Nat) : State :=
  if dist t s.now > 0 then
    let need := (dist t s.now).toNat * tbUnit - s.clk.frac
    s.advCc ((need + s.perClock - 1) / s.perClock)
  else s

/-- Core clocks in `k` milliseconds, rounded up to a whole clock: a time of k ms has passed once they have. -/
def msClocks (k : Nat) : Nat := (k * 2 ^ 27 + 999) / 1000

/-- Core clocks in `k` microseconds, rounded up to a whole clock. -/
def usClocks (k : Nat) : Nat := (k * 2 ^ 27 + 999999) / 1000000

/-- Core clocks in `k` seconds. -/
def secClocks (k : Nat) : Nat := k * 2 ^ 27


/-- Classes of periodic instants. (log 2: DESIGN CHOICE, unsafe.) -/
def clsTick : Nat := 0
def clsSample : Nat := 1
def clsMs : Nat := 2
def clsMeter : Nat := 3
def clsModel : Nat := 4
def clsClear : Nat := 5
def clsProfile : Nat := 6
def clsBeaconTx : Nat := 7
def clsPressure : Nat := 8
def clsRepl : Nat := 9
def clsPulse : Nat := 10
def clsPw : Nat := 11
def clsSpectral : Nat := 12
def clsJam : Nat := 13
def clsFix : Nat := 14
def clsAmbient : Nat := 15
def clsOffTest : Nat := 16
def clsFlow : Nat := 17
def clsCapture : Nat := 18

/-! ### Order within a core clock (R14, R451) -/

/-- The place of a class among instants that fall together: each reads the state before the updates of those after it, and a
turn-off at a model update comes before the actions of the tick (R451). (log 175: DEDUCED, unsafe.) -/
def clsRank (k : Nat) : Nat :=
  if k = clsModel || k = clsProfile then 0
  else if k = clsTick then 1
  else if k = clsCapture || k = clsPressure || k = clsRepl then 2
  else if k = clsSample || k = clsBeaconTx then 4
  else 3

/-- The last instant taken by class `k`. -/
def State.takenAt (s : State) (k : Nat) : Option Nat := (s.clk.taken.find? (·.1 == k)).map (·.2)

/-- The core clock in which the present tb began. -/
def State.tbStart (s : State) : Nat := s.clk.cc - s.clk.frac / s.perClock

/-- Whether an edge, a host write or another event has completed in or after the core clock in which the present tb began: an
instant at that time has not seen it (R451). (log 175: DEDUCED, unsafe.) -/
def State.late (s : State) : Bool :=
  match s.core.evt with
  | some e => decide (e ≥ s.tbStart)
  | none => false

/-- Whether the instant at system time `c` is no longer class `k`'s to take: it was taken, an event has completed in or after
its core clock, or a class whose updates it must not see was taken there (R451). A publication instant takes in the profiles
received in its own core clock (R210). (log 175: DEDUCED, unsafe.) -/
def State.passed (s : State) (k c : Nat) : Bool :=
  s.takenAt k == some c || (c == s.now && s.late && k != clsProfile) ||
    s.clk.taken.any (fun (p : Nat × Nat) => p.2 == c && decide (clsRank p.1 > clsRank k))

/-- The next instant of class `k`: the smallest system time at or after now that is `phase` modulo `period` (a divisor
of 2^40) and that is still the class's to take (R36, R451). (log 2: DESIGN CHOICE, unsafe.) -/
def State.nextInstant (s : State) (k period phase : Nat) : Nat :=
  let c := (s.now + (phase + period - s.now % period) % period) % mod40
  if s.passed k c then (c + period) % mod40 else c

/-- Let time run to the next instant of class `k` and take it. (log 2: DESIGN CHOICE, unsafe.) -/
def State.takeInstant (s : State) (k period phase : Nat) : State :=
  let c := s.nextInstant k period phase
  let s := s.advTo c
  { s with clk := { s.clk with taken := spPut s.clk.taken k c } }

/-- An edge, a host write or another event completes in this core clock (R451). -/
def State.completed (s : State) : State := { s with core := { s.core with evt := some s.clk.cc } }

/-- A protective turn-off comes before the actions of its core clock: where an instant was taken in this one, it falls in the
next (R451). (log 175: DEDUCED, unsafe.) -/
def State.turnOffClock (s : State) : State :=
  if s.tbStart = s.clk.cc && s.clk.taken.any (fun (p : Nat × Nat) => p.2 == s.now) then s.advCc 1 else s

/-- The bits of a field in its word. -/
def Fld.mask (f : Fld) : Nat := (2 ^ f.width - 1) * 2 ^ f.lo

/-- The bits of a register that hardware has updated in this core clock (R14). -/
def State.fresh (s : State) (a : Nat) : Nat := if s.core.hwAt = s.clk.cc then spGet (fun _ => 0) s.core.hw a else 0

/-- Note that hardware updates the bits of `f` in this core clock (R14). -/
def State.mark (s : State) (f : Fld) : State :=
  let l := if s.core.hwAt = s.clk.cc then s.core.hw else []
  { s with core := { s.core with
      hwAt := s.clk.cc, hw := spPut l f.addr (spGet (fun _ => 0) l f.addr ||| f.mask) } }

/-- The hardware sets a W1C flag (R14). -/
def State.raise (s : State) (f : Fld) : State := (s.setFlag f true).mark f

/-- The hardware updates an RWH field (R14). -/
def State.update (s : State) (f : Fld) (v : Nat) : State := (s.setFld f v).mark f

/-- Whether the clocks are gated in DORMANT: scheduler ticks and the blocks they drive stop (R49, R81, R387). -/
def State.gated (s : State) : Bool := s.mode.dorm == 2

/-- A command's outcome that goes on in `s`. -/
abbrev ok (s : State) : Host.Outcome State Fault Refusal := .next s

/-- A command that needs the core clock: while a clock failure holds the node in reset, only resets and the recovery of the
clock act (R372). (log 145: DEDUCED, unsafe.) -/
def State.clocked (s : State) (f : State → Host.Outcome State Fault Refusal) : Host.Outcome State Fault Refusal :=
  if s.boot.halted then ok s else f s

end Sys2Proof.Machine
end

