-- ==== Sys2Proof/Machine/Sources.lean ====
section
/-! DEFINITION. The fault sources of Table 19-1 and which instances of each are channels or groups (Table 19-2). -/

namespace Sys2Proof.Machine

def srcAddress : Nat := 0x00
def srcPhase : Nat := 0x01
def srcDual : Nat := 0x02
def srcDualTrans : Nat := 0x03
def srcHoldExp : Nat := 0x04
def srcAntenna : Nat := 0x05
def srcInterf : Nat := 0x06
def srcGnssClk : Nat := 0x07
def srcGeoStale : Nat := 0x08
def srcPoisEvent : Nat := 0x09
def srcMapInv : Nat := 0x0A
def srcPoisMap : Nat := 0x0B
def srcOverCur : Nat := 0x0C
def srcCoilShort : Nat := 0x0D
def srcOpenLoad : Nat := 0x0E
def srcGroupUv : Nat := 0x0F
def srcGroupOv : Nat := 0x10
def srcGroupOt : Nat := 0x11
def srcNoMove : Nat := 0x12
def srcShapeErr : Nat := 0x13
def srcCoilHot : Nat := 0x14
def srcLatBand : Nat := 0x15
def srcLoopIn : Nat := 0x16
def srcPoisCoef : Nat := 0x17
def srcFollow : Nat := 0x18
def srcHunt : Nat := 0x19
def srcHammer : Nat := 0x1A
def srcRecInc : Nat := 0x1B
def srcRecRange : Nat := 0x1C
def srcAllocEx : Nat := 0x1D
def srcAllocLow : Nat := 0x1E
def srcMachEx : Nat := 0x1F
def srcCommit : Nat := 0x20
def srcLedRestart : Nat := 0x21
def srcLedPois : Nat := 0x22
def srcDelivery : Nat := 0x23
def srcPoisFrame : Nat := 0x24
def srcParity : Nat := 0x25
def srcMarch : Nat := 0x26
def srcMover : Nat := 0x27
def srcFlashTo : Nat := 0x28
def srcHeadLost : Nat := 0x29
def srcTravelLost : Nat := 0x2A

/-- Whether instances of a source are channels, and whether they are groups. -/
def srcChannel (src inst : Nat) : Bool :=
  (srcOverCur ≤ src && src ≤ srcOpenLoad) || (srcNoMove ≤ src && src ≤ srcLatBand) || (src = srcPoisEvent && inst < 48)
def srcGroup (src : Nat) : Bool := srcGroupUv ≤ src && src ≤ srcGroupOt

/-- Whether an action acts as HOLD. -/
def DueAct.holds (d : DueAct) : Bool :=
  d.act = 3 || ((d.act = 1 || d.act = 2) && !srcChannel d.src d.inst && !srcGroup d.src)

end Sys2Proof.Machine
end

