-- ==== Sys2Proof/Machine/Views.lean ====
section
/-! DEFINITION. What a read of a register returns where the register shows state that is held elsewhere: queue counts,
latches, ages and the like are computed at the read, so that they cannot differ from what they show. -/

namespace Sys2Proof.Machine

open Sys2Proof

/-! ### Event store (R124, R128, Table 5-10) -/

/-- COUNT of a queue: records held. -/
def State.qCount (s : State) (q : Nat) : Nat := (s.queue q).recs.length

/-- The reservation in force: RES below 2 on Q0 to Q47 acts as 2 (R128). -/
def State.qRes (s : State) (q : Nat) : Nat :=
  if q < 48 then max 2 (s.fld (F.EVS_Qn_CFG_RES q)) else s.fld (F.EVS_Qn_CFG_RES q)

/-- F of R128: 16,384 less the sum over the queues of max(COUNT, RES). -/
def State.pool (s : State) : Int :=
  16384 - ((List.range 64).foldl (fun a q => a + max (s.qCount q) (s.qRes q)) 0 : Nat)

/-- Records in use in the whole store. -/
def State.used (s : State) : Nat := (List.range 64).foldl (fun a q => a + s.qCount q) 0

/-- Whether standstill is asserted (TRV_STAT.STILL). -/
def State.still (s : State) : Bool := s.flag F.TRV_STAT_STILL

/-- The state code a queue reads (Table 5-6): a valve queue in RUN reads FROZEN during standstill (R141). -/
def State.qStateCode (s : State) (q : Nat) : Nat :=
  match (s.queue q).st with
  | .off => 0
  | .run => if q < 48 && s.still then 2 else 1
  | .flush => 3
  | .safe => 4

/-! ### Faults (Table 19-4) -/

/-- The key of an instance. -/
def instKey (src inst : Nat) : Nat := src * 64 + inst

/-- Whether an instance is latched. -/
def State.isLatched (s : State) (src inst : Nat) : Bool := spGet (fun _ => false) s.flt.latched (instKey src inst)

/-- Latched instances of a source. -/
def State.nlat (s : State) (src : Nat) : Nat := (s.flt.latched.filter (fun p => p.1 / 64 == src)).length

/-- The threshold limit in force: NLIM 0 acts as 1 (R400). -/
def State.nlim (s : State) (src : Nat) : Nat := max 1 (s.fld (F.FSV_SRCs_LIM_NLIM src))

/-- The window in force, in s (R400; W = 0 acts as 1). -/
def State.effW (s : State) (src : Nat) : Nat :=
  max (max 1 (s.fld (F.FSV_SRCs_CFG_W src))) (s.fld (F.FSV_SRCs_LIM_WMIN src))

/-- The threshold in force (R400; N = 0 acts as 1). -/
def State.effN (s : State) (src : Nat) : Nat := min (max 1 (s.fld (F.FSV_SRCs_CFG_N src))) (s.nlim src)

/-- Whether a limit of R400 overrides a stored value. -/
def State.limitOverrides (s : State) (src : Nat) : Bool :=
  s.fld (F.FSV_SRCs_CFG_W src) < s.fld (F.FSV_SRCs_LIM_WMIN src) || s.fld (F.FSV_SRCs_CFG_N src) > s.nlim src

/-- Bits 32k to 32k + 31 of a set of numbers given by its test. -/
def maskOf (p : Nat → Bool) (base n : Nat) : Nat := (List.range n).foldr (fun i x => b2n (p (base + i)) + 2 * x) 0

/-- ms since the last valid discipline input, saturating (Table 2-8). -/
def State.discAge (s : State) : Nat :=
  match s.clk.lastDisc with
  | none => 0xFFFF
  | some c => min 0xFFFF ((s.clk.cc - c) * 1000 / 2 ^ 27)

/-- TBS_WRAP (R31, R32): it counts the wraps of system time, and reads 0 before the first discipline. -/
def State.wrapNow (s : State) : Nat :=
  if s.clk.lastOff.isNone then 0 else wrapW 24 ((s.fld F.TBS_WRAP_WRAP : Int) + s.clk.wraps)

/-- Whether channel n is the odd channel of a parallel or bridge pair (R146, Table 6-1). -/
def State.pairKind (s : State) (n : Nat) : Nat :=
  let p := s.fld (F.VDA_CHn_CFG_PAIR (n / 2 * 2))
  if p = 3 then 0 else p

/-- The odd channel of a parallel or bridge pair. -/
def State.isOddOfPair (s : State) (n : Nat) : Bool := n % 2 == 1 && s.pairKind n != 0

/-- The channel whose registers govern channel n: the even one of a pair (R146). -/
def State.govern (s : State) (n : Nat) : Nat := if s.pairKind n = 0 then n else n / 2 * 2

/-- Replace bits [hi:lo] of a word. -/
def putBits (w : Word) (f : Fld) (v : Nat) : Word := BitVec.ofNat 40 (setBits w.toNat f.hi f.lo v)

/-! ### Modes and roles -/

/-- Modes (Table 18-1). -/
def modeBoot : Nat := 0
def modeDormant : Nat := 1
def modeCommission : Nat := 2
def modePrescribe : Nat := 3
def modeUniform : Nat := 4
def modeFertigate : Nat := 5
def modeHold : Nat := 6
def modeLimp : Nat := 7

/-- MOD_STAT.MODE (Table 18-1). -/
def State.modeNow (s : State) : Nat := s.fld F.MOD_STAT_MODE

/-- Roles (R22, Table 1-6). -/
def roleSpan : Nat := 0
def roleActive : Nat := 1
def roleStandby : Nat := 2
def roleNone : Nat := 3
def State.role (s : State) : Nat := s.fld F.SYS_ROLE_ROLE
def State.addr (s : State) : Nat := s.fld F.SYS_ROLE_ADDR
def State.isHead (s : State) : Bool := s.role == roleActive


/-! ### Heads, geometry and the ledger -/

/-- SYNC (R322): the adopted, or the last acknowledged, epoch is less than 2 s old. -/
def State.synced (s : State) : Bool :=
  let young := fun (t : Nat) => decide (dist s.now t < ((2 * 2 ^ 20 : Nat) : Int))
  if s.isHead then (match s.hd.syncT with
    | some t => young t
    | none => false)
  else if s.role = roleStandby then (match s.hd.adopted with
    | some x => young x.t
    | none => false)
  else false

/-- Bytes of the buffer. -/
def snapSize : Nat := 262144

/-- Bytes of a capture of `dur` ms. -/
def snapLen (dur : Nat) : Nat := 4092 * dur

/-- Spaces in use, as offset and length. -/
def State.snapUsed (s : State) : List (Nat × Nat) :=
  s.gnb.snaps.map (fun x => (x.off, snapLen x.dur)) ++ s.gnb.reqs.map (fun x => (x.off, snapLen x.dur))

/-- Where free space begins: at 0 and after each space in use; and how far it reaches. -/
def State.snapGaps (s : State) : List (Nat × Nat) :=
  let us := s.snapUsed
  let starts := 0 :: us.map (fun u => u.1 + u.2)
  let free := starts.filter (fun a => a < snapSize && us.all (fun u => a < u.1 || u.1 + u.2 ≤ a))
  free.eraseDups.map (fun a => (a, (us.filter (fun u => a < u.1)).foldl (fun m u => min m u.1) snapSize - a))

/-- Seconds since tower `k` was last accepted, none when never. -/
def State.towerAge (s : State) (k : Nat) : Option Nat :=
  (s.gnb.acc.find? (fun p => p.1 == k)).map (fun p => p.2.2 + (s.clk.cc - p.2.1) / secClocks 1)

/-- Hours since the last CF arrived. -/
def State.cfAge (s : State) : Nat :=
  match s.led.cfAt with
  | none => 0xFFFF
  | some c => min 0xFFFF ((s.clk.cc - c) / secClocks 3600)

/-- The record that LDG_RDCTL.SEL names. (log 146: DEDUCED, unsafe.) -/
def State.readRecord (s : State) : List Byte := if s.flag F.LDG_RDCTL_SEL then s.led.prev else s.led.last

/-- AGE of the adopted epoch in s (Table 14-4). -/
def State.adoptedAge (s : State) : Nat :=
  match s.hd.adopted with
  | some x => clampN 0 255 ((dist s.now x.t).toNat / 2 ^ 20)
  | none => 255

/-- The owner of the peripheral port (Table 17-6): 1 the ledger, 2 the loader, 3 a raw transfer, 4 a block-mover channel.
(log 134: DEDUCED, unsafe.) -/
def State.portOwner (s : State) : Nat × Nat :=
  if s.led.stage ≥ 2 then (1, 0)
  else if s.modeNow = modeBoot && [1, 2, 4, 5].contains (s.fld F.MOD_BOOT_STEP) then (2, 0)
  else match s.ser.job with
    | some j => (j.own, j.ch)
    | none => (0, 0)

/-- Whether some action or cause that waits for the end of DORMANT leads to HOLD, and to LIMP (R382). -/
def State.holdWaits (s : State) : Bool := s.modeNow = modeDormant && (s.mode.hold ≠ [] || s.flt.due.any DueAct.holds)
def State.limpWaits (s : State) : Bool := s.modeNow = modeDormant && (s.mode.limp || s.flt.due.any (fun d => d.act == 4))

/-- The word that a read of the implemented register `r` at address `a` returns, without the read's side effects.
Write-only bits read 0 (R10): they are never stored. (log 140: DEDUCED, unsafe.) -/
def State.regView (s : State) (a : Nat) : Word :=
  match regAt a with
  | none => 0
  | some r =>
    let w := s.reg a
    let i := r.idx a
    match r.reg with
    | .TBS_WRAP => BitVec.ofNat 40 s.wrapNow
    | .TBS_BCNAGE => BitVec.ofNat 40 s.discAge
    | .EVS_STORE =>
      BitVec.ofNat 40 (setBits (setBits 0 14 0 (16384 - s.used)) 29 15 (wrapW 15 s.pool))
    | .EVS_Qn_STAT =>
      putBits (putBits w (F.EVS_Qn_STAT_STATE i) (s.qStateCode i)) (F.EVS_Qn_STAT_COUNT i) (s.qCount i)
    | .FSV_STAT => putBits w F.FSV_STAT_NLAT s.flt.latched.length
    | .FSV_QLAT0 => BitVec.ofNat 40 (maskOf (s.isLatched (s.fld F.FSV_QSEL_SRC)) 0 32)
    | .FSV_QLAT1 => BitVec.ofNat 40 (maskOf (s.isLatched (s.fld F.FSV_QSEL_SRC)) 32 32)
    | .FSV_LATA => BitVec.ofNat 40 (maskOf (fun x => s.nlat x != 0) 0 32)
    | .FSV_LATB => BitVec.ofNat 40 (maskOf (fun x => s.nlat x != 0) 32 32)
    | .FSV_SRCs_STAT =>
      if i < 0x2B then
        putBits (putBits w (F.FSV_SRCs_STAT_NLAT i) (s.nlat i)) (F.FSV_SRCs_STAT_EFF i) (b2n (s.limitOverrides i))
      else 0
    | .VDA_CHn_CFG => if s.isOddOfPair i then putBits w (F.VDA_CHn_CFG_PAIR i) 0 else w
    | .VDA_CHn_STAT => if s.isOddOfPair i then putBits w (F.VDA_CHn_STAT_STATE i) 6 else w
    | .VDA_CHn_CUR | .VDA_CHn_SEQ | .VDA_CHn_SERR | .VDA_CHn_TH | .VDA_CHn_TPAR | .VDA_CHn_TLIM | .VDA_CHn_RW
    | .VDA_CHn_LRN | .VDA_CHn_LBAND | .VDA_CHn_LSTAT | .VDA_CHn_LOUT => if s.isOddOfPair i then 0 else w
    | .SLK_STAT => putBits w F.SLK_STAT_TXBUSY (b2n (s.clk.cc < s.lnk.txTo))
    | .SYS_HEAD_STAT => putBits w F.SYS_HEAD_STAT_SYNC (b2n s.synced)
    | .SYS_HEAD_REP => putBits w F.SYS_HEAD_REP_AGE s.adoptedAge
    | .MOD_STAT =>
      putBits (putBits w F.MOD_STAT_HOLDPEND (b2n s.holdWaits)) F.MOD_STAT_LIMPPEND
        (b2n (s.flag F.MOD_STAT_LIMPPEND || s.limpWaits))
    | .GNB_STAT =>
      if s.modeNow ≠ modeBoot && s.modeNow ≠ modeDormant && s.flag F.GNB_CFG_MODE && s.fld F.GNB_STAT_STATE = 0 then
        putBits w F.GNB_STAT_STATE 1 else w
    | .GNB_CHk =>
      let x := spGet (fun _ => {}) s.gnb.ch i
      putBits (putBits w (F.GNB_CHk_SLIP i) (b2n (match x.slip with
        | some c => decide (s.clk.cc < c + secClocks 1)
        | none => false))) (F.GNB_CHk_EXCL i) (b2n (decide (s.clk.cc < spGet (fun _ => 0) s.gnb.excl (s.fld (F.GNB_CHk_SV i)))))
    | .GNB_SNAPSTAT => putBits w F.GNB_SNAPSTAT_FREEKB ((s.snapGaps.map (·.2)).foldl max 0 / 1024)
    | .GNB_GEOSTAT => putBits w F.GNB_GEOSTAT_QLEN (min 63 (s.gnb.reqs.filter (fun r => r.done.isSome)).length)
    | .GNB_TWRk_E => putBits w (F.GNB_TWRk_E_AGE i) (min 0xFFFF ((s.towerAge i).getD 0xFFFF))
    | .BMV_STAT => putBits w F.BMV_STAT_BUSY (maskOf (fun n => s.fld (F.BMV_Dn_CTL_STATE n) == 1) 0 8)
    | .SER_PP0_PROF => if bitOf w.toNat 0 then 0xB1020B0001 else 0xB002030000
    | .SER_PP_STAT => putBits (putBits w F.SER_PP_STAT_OWNER s.portOwner.1) F.SER_PP_STAT_OWNCH s.portOwner.2
    | .LDG_RDDATA => BitVec.ofNat 40 (bytesAt s.readRecord (s.fld F.LDG_RDCTL_PTR) 4)
    | .LDG_CFDAY => putBits w F.LDG_CFDAY_AGE s.cfAge
    | .KEY_CERTIDH => BitVec.ofNat 40 (certId / 2 ^ 32)
    | .KEY_CERTIDL => BitVec.ofNat 40 (certId % 2 ^ 32)
    | .KEY_CERTLEN => BitVec.ofNat 40 certDer.length
    | .KEY_CERTDAT => BitVec.ofNat 40 (bytesAt certDer (s.fld F.KEY_CERTRD_PTR) 4)
    | _ => w

/-- The view of a field. -/
def State.viewFld (s : State) (f : Fld) : Nat := bitsOf (s.regView f.addr).toNat f.hi f.lo

end Sys2Proof.Machine
end

