-- ==== Sys2Proof/Machine/Queue.lean ====
section
/-! DEFINITION. The event store and its queues: record fields, leads, admission, assembly, flushes and ring items
(chapter 5, R122 to R129, R135, R137 to R139, R404). -/

namespace Sys2Proof.Machine

open Sys2Proof

/-! ### Record fields (Table 5-2) -/

def recKind (w0 : Word) : Nat := bitsOf w0.toNat 39 36
def recQ (w0 : Word) : Nat := bitsOf w0.toNat 35 30
def recTrig (w0 : Word) : Bool := bitOf w0.toNat 29
def recLsel (w0 : Word) : Nat := bitsOf w0.toNat 28 27
def recSrc (w0 : Word) : Nat := bitsOf w0.toNat 26 24
def recSeq (w0 : Word) : Nat := bitsOf w0.toNat 23 8
def recNrec (w0 : Word) : Nat := bitsOf w0.toNat 29 25
def recProg (w2 : Word) : Nat := bitsOf w2.toNat 39 32
def recLead (w2 : Word) : Int := sx 32 (bitsOf w2.toNat 31 0)

/-- The words an item has, by its first word: three for an event record, 3 × NREC for a ring item (R124). -/
def itemLen (w0 : Word) : Nat := if recKind w0 = 15 then 3 * recNrec w0 else 3

/-- KIND allowed on a queue (Table 5-3). -/
def kindAllowed (kind q : Nat) : Bool :=
  if q < 48 then kind = 0 || kind = 1 || kind = 2
  else if q < 56 then kind = 0 || (8 ≤ kind && kind ≤ 14)
  else kind = 15

/-! ### Travel terms used by the store -/

/-- The direction of motion: true in reverse (R34: the last non-zero speed's sign, kept in TRV_STAT.DIR). -/
def State.reverse (s : State) : Bool := s.flag F.TRV_STAT_DIR

/-- Travel of the last scheduler tick (R37). -/
def State.travel (s : State) : Nat := s.fld F.TRV_COUNT_COUNT

/-- R34: travel stamp `t` is reached at travel `x`. -/
def State.reachedAt (s : State) (x t : Nat) : Bool := if s.reverse then dist x t ≤ 0 else dist x t ≥ 0

/-- The used latency of a direction in units of 1/256 µs: the estimate clipped to the host band, a MAX below MIN acting
as MIN (R199). `open_` selects the open direction. -/
def State.usedLatency (s : State) (n : Nat) (open_ : Bool) : Nat :=
  let lo := (if open_ then s.fld (F.VDA_CHn_LBAND_OMIN n) else s.fld (F.VDA_CHn_LBAND_CMIN n)) * 250 * 256
  let hi := (if open_ then s.fld (F.VDA_CHn_LBAND_OMAX n) else s.fld (F.VDA_CHn_LBAND_CMAX n)) * 250 * 256
  clampN lo (max lo hi) (if open_ then (s.valve n).lo else (s.valve n).lc)

/-- The lead of R122 for an L of `l256` / 256 µs: v × L / 10^6 + a × L² / (2 × 10^12), exactly, rounded to the nearest
tc with ties away from zero, saturated at ±(2^31 − 1). SPEED is v × 2^8 and ACCEL is a × 2^16 (R74). -/
def leadOf (speed accel : Int) (l256 : Nat) : Int :=
  clampI (-(2 ^ 31 - 1)) (2 ^ 31 - 1)
    (roundAway (speed * l256 * (2 ^ 17 * 10 ^ 6 : Nat) + accel * l256 * l256) (2 ^ 33 * 10 ^ 12))

/-- The lead of a valve record of queue `q` at the present speed and acceleration (R122); 0 with LSEL 00b. -/
def State.leadFor (s : State) (q lsel : Nat) : Int :=
  if lsel = 1 then
    leadOf (s.fldI F.TRV_SPEED_SPEED) (s.fldI F.TRV_ACCEL_ACCEL)
      (s.usedLatency q true + s.fld (F.PLN_CHn_HYD_HYDO q) * 256)
  else if lsel = 2 then
    leadOf (s.fldI F.TRV_SPEED_SPEED) (s.fldI F.TRV_ACCEL_ACCEL)
      (s.usedLatency q false + s.fld (F.PLN_CHn_HYD_HYDC q) * 256)
  else 0

/-- The trigger s' = (STAMP − LEAD) mod 2^40 (R122). -/
def triggerOf (stamp : Nat) (lead : Int) : Nat := add40 stamp (-lead)

/-- Whether a record is reached now: a deadline by system time, a travel stamp less its lead by travel (R34, R122). -/
def State.recReached (s : State) (q : Nat) (w0 w1 : Word) : Bool :=
  if recTrig w0 then dist s.now w1.toNat ≥ 0
  else s.reachedAt s.travel (triggerOf w1.toNat (if q < 48 then s.leadFor q (recLsel w0) else 0))

/-- The predicted time in ms from now to the trigger of a record at the present speed (R128, R134), rounded up to a
whole 2^-8 ms; none when the machine is not moving toward it. -/
def State.predict (s : State) (q : Nat) (w0 w1 : Word) : Option Rat :=
  if recTrig w0 then some ((max 0 (dist w1.toNat s.now) : Int) * 1000 / (2 ^ 20 : Nat))
  else
    let v := s.fldI F.TRV_SPEED_SPEED
    if v = 0 then none
    else
      let g := triggerOf w1.toNat (if q < 48 then s.leadFor q (recLsel w0) else 0)
      let d := if s.reverse then dist s.travel g else dist g s.travel
      some ((max 0 d : Int) * 256 * 1000 / (v.natAbs : Int))

/-! ### Admission (R126 to R129) -/

/-- Admission results (Table 5-4). -/
def admAck : Nat := 0
def admFull : Nat := 1
def admWindow : Nat := 2
def admPast : Nat := 3
def admOrder : Nat := 4
def admOwner : Nat := 5
def admForm : Nat := 6
def admState : Nat := 7

/-- The two tests of R128 for an item of `n` records. -/
def State.fits (s : State) (q n : Nat) : Bool :=
  s.qCount q + n ≤ s.fld (F.EVS_Qn_CFG_LIMIT q) &&
    ((n : Int) - (s.qRes q - s.qCount q : Nat) ≤ s.pool)

/-- R127: whether producer `src` (0 the planner) may push a record with this TRIG to queue `q` in the present mode. -/
def State.ownerOk (s : State) (src q : Nat) (trig : Bool) : Bool :=
  let m := s.modeNow
  if q < 48 then
    if m = modePrescribe || m = modeFertigate then src = 0 && !trig
    else if m = modeUniform then src = 0 && trig
    else if m = modeLimp then src = 0 && (trig == s.flag F.MOD_LIMPA_TRIG)
    else if m = modeCommission then src != 0
    else false
  else if q < 56 then m != modeBoot
  else false

/-- The largest distance of a stamp from the present (R35). -/
def window38 : Int := 2 ^ 38

/-- R129: the stamp is not behind the queue's last one, in the direction of motion for travel stamps. -/
def State.orderOk (s : State) (q : Nat) (trig : Bool) (stamp : Nat) : Bool :=
  match (s.queue q).recs.getLast? with
  | none => true
  | some r =>
    recTrig r.w0 == trig &&
      (if trig || !s.reverse then dist stamp r.w1.toNat ≥ 0 else dist stamp r.w1.toNat ≤ 0)

/-- RETRY in ms for a FULL refusal (R128). -/
def State.retryFor (s : State) (q : Nat) (n : Nat) : Nat :=
  let qs := if s.qCount q + n > s.fld (F.EVS_Qn_CFG_LIMIT q) then [q] else List.range 56
  let ts := qs.flatMap (fun q => (s.queue q).recs.filterMap (fun r => s.predict q r.w0 r.w1))
  if s.still then 1000
  else match ts with
    | [] => 1000
    | t :: ts =>
      let m := ts.foldl min t
      clampN 10 5000 (freeRound 1 m.num m.den).toNat

/-- The code of Table 5-4 for an event record or ring item from producer `src`, in the table's order. -/
def State.admitCode (s : State) (src : Nat) (q : Nat) (ws : List Word) : Nat :=
  let w0 := ws.headD 0
  let w1 := (ws.drop 1).headD 0
  let kind := recKind w0
  let trig := recTrig w0
  let lsel := recLsel w0
  if (s.queue q).st ≠ .run then admState
  else if !s.ownerOk src q trig then admOwner
  else if !kindAllowed kind q || lsel = 3 || (lsel != 0 && (trig || q ≥ 48)) || ws.length != itemLen w0 then admForm
  else if (dist w1.toNat (if trig then s.now else s.travel)).natAbs > window38.natAbs then admWindow
  else if !s.orderOk q trig w1.toNat then admOrder
  else if src != 0 && kind = 1 && s.recReached q w0 w1 then admPast
  else if !s.fits q 1 || (kind = 1 && !s.fits q 2) then admFull
  else admAck

/-! ### Store rows -/

/-- Whether a store row is in use. (log 6: DESIGN CHOICE, safe.) -/
def State.slotUsed (s : State) (r : Nat) : Bool :=
  s.queues.any (fun q => q.2.recs.any (fun x => x.slot == r))

/-- The first unused row at or after `r`, searching `k` rows. -/
def State.firstFree (s : State) : Nat → Nat → Nat
  | 0, r => r
  | k + 1, r => if s.slotUsed r then s.firstFree k ((r + 1) % 16384) else r

/-- Place one record at the end of a queue; the store row it takes is the node's own choice. (log 6: DESIGN CHOICE, safe.) -/
def State.pushRec (s : State) (q : Nat) (r : Rec) : State :=
  let (k, s) := s.draw 16384
  let r := { r with slot := s.firstFree 16384 k }
  let x := s.queue q
  { s.setQueue q { x with recs := x.recs ++ [r] } with spent := s.spent.filter (fun y => y.slot != r.slot) }

/-- The records of an item's words, with their check bits. -/
def recsOf : Nat → List Word → List Nat → List Rec
  | 0, _, _ => []
  | k + 1, ws, cs =>
    if ws.isEmpty then []
    else
      { w0 := ws.headD 0, w1 := (ws.drop 1).headD 0, w2 := (ws.drop 2).headD 0
        c0 := cs.headD 0, c1 := (cs.drop 1).headD 0, c2 := (cs.drop 2).headD 0 } :: recsOf k (ws.drop 3) (cs.drop 3)

/-- Append the records of an item to a queue. -/
def State.pushItem (s : State) (q : Nat) (ws : List Word) (cs : List Nat) : State :=
  (recsOf ws.length ws cs).foldl (fun s r => s.pushRec q r) s

/-- Release the first `n` records of a queue. -/
def State.release (s : State) (q n : Nat) : State :=
  let x := s.queue q
  { s.setQueue q { x with recs := x.recs.drop n } with spent := (x.recs.take n).reverse ++ s.spent }

/-- Submit a complete item of producer `src` to queue `q` (R126): the code, RETRY, and the state after it. The node
writes SRC, and a refusal is counted. -/
def State.submit (s : State) (src q : Nat) (ws : List Word) (cs : List Nat) : Nat × Nat × State :=
  let c := s.admitCode src q ws
  if c = admAck then
    let w0 := BitVec.ofNat 40 (setBits (ws.headD 0).toNat 26 24 src)
    (c, 0, s.pushItem q (w0 :: ws.drop 1) cs)
  else
    let s := (s.inc (F.EVS_Qn_ERR_REFUSED q)).setFld (F.EVS_Qn_ERR_LASTWHY q) c
    (c, if c = admFull then s.retryFor q (if recKind (ws.headD 0) = 1 then 2 else 1) else 0, s)

/-! ### Ring items (R137, R139, R404) -/

/-- Whether a ring can take an item of `n` records now (R128, R138). -/
def State.ringRoom (s : State) (q n : Nat) : Bool := (s.queue q).st == .run && s.fits q n

/-- Put an item in a ring that drops its newest item when it cannot be admitted (Q58, Q59, Q61, Q63; R137). -/
def State.ringDrop (s : State) (q : Nat) (ws : List Word) (cs : List Nat) : State :=
  if s.ringRoom q (ws.length / 3) then s.pushItem q ws cs else s.inc (F.EVS_Qn_ERR_OVF q)

/-- Word 0 of a ring item: Fh, Q and NREC, with the ring's own bits [24:0]. -/
def ringW0 (q nrec low : Nat) : Word := BitVec.ofNat 40 (15 * 2 ^ 36 + q * 2 ^ 30 + nrec * 2 ^ 25 + low)

/-- The words of a byte-stream item (R139): header, stamp, SEQ and the payload, filled to whole records. -/
def streamWords (q peer cls : Nat) (bc : Bool) (time seq : Nat) (payload : List Byte) : List Word :=
  let nrec := 1 + ((payload.length + 4) / 5 + 2) / 3
  let ws := wordsOfBytes payload
  [ringW0 q nrec (peer * 2 ^ 19 + cls * 2 ^ 15 + b2n bc * 2 ^ 14 + payload.length),
   BitVec.ofNat 40 time, BitVec.ofNat 40 (seq % 2 ^ 16)] ++ ws ++ List.replicate (3 * (nrec - 1) - ws.length) 0

/-- Write a record to the error ring Q59 (R404): TYPE and words 3 to 5, stamped with now and the travel of the last
tick (R48). A record that finds no room is dropped and counted (R137, R406). -/
def State.errRec (s : State) (typ : Nat) (w3 w4 w5 : Nat) : State :=
  s.ringDrop 59 [ringW0 59 2 (typ * 2 ^ 19), BitVec.ofNat 40 s.now, BitVec.ofNat 40 s.travel,
    BitVec.ofNat 40 w3, BitVec.ofNat 40 w4, BitVec.ofNat 40 w5] []

/-- Write an execution record to Q61 when XREC is set (R144), with the start of its tick, or of the last tick for an outcome
between ticks (R48). (log 192: DEDUCED, unsafe.) -/
def State.execRec (s : State) (outcome q seq : Nat) : State :=
  if s.flag F.EVS_CFG_XREC then
    s.ringDrop 61 [ringW0 61 1 (outcome * 2 ^ 22 + q * 2 ^ 16 + seq), BitVec.ofNat 40 s.trv.lastTick, BitVec.ofNat 40 s.travel] []
  else s

/-- Outcome codes (Table 5-5). -/
def outExec : Nat := 0
def outMerged : Nat := 1
def outLost : Nat := 2
def outDeferred : Nat := 3
def outCancelled : Nat := 4
def outPoison : Nat := 5
/-- (log 68: DESIGN CHOICE, safe.) -/
def outGrace : Nat := 6
def outReopen : Nat := 7

/-- Write the execution record of an action with outcome `r`; a demand without a record writes one only for a grace close or
a reopen, with a free SEQ (R144). (log 67: DEDUCED, unsafe.) -/
def State.noteOutcome (s : State) (d : Deferred) (r : Nat) : State :=
  if d.real then s.execRec r d.q d.seq
  else if d.code = 0 then s
  else
    let (k, s) := s.draw 65536
    s.execRec (if r = outExec then d.code else r) d.q k

/-! ### Assembly (R125) -/

/-- An assembled item is complete: submit it, and report the result to the service port in EVS_PUSHRES. -/
def State.finishItem (s : State) (prod src : Nat) (ws : List Word) (cs : List Nat) : State :=
  let s := s.setAsm prod {}
  let (c, r, s) := s.submit src (recQ (ws.headD 0)) ws cs
  if src = 1 then
    ((s.setFld F.EVS_PUSHRES_RETRY r).setFld F.EVS_PUSHRES_RESULT c).setFld F.EVS_PUSHRES_SEQ (recSeq (ws.headD 0))
  else s

/-- A first word from producer `prod` (SRC `src`): an incomplete item is discarded and its words counted as orphans. -/
def State.pushStart (s : State) (prod src : Nat) (w : Word) (c : Nat) : State :=
  let s := s.incBy F.EVS_ORPHAN_COUNT (s.asm prod).words.length
  if itemLen w ≤ 1 then s.finishItem prod src [w] [c] else s.setAsm prod { words := [w], chks := [c] }

/-- A further word from producer `prod`: dropped after a flush, an orphan with no item in assembly, or added. -/
def State.pushCont (s : State) (prod src : Nat) (w : Word) (c : Nat) : State :=
  let a := s.asm prod
  match a.dropQ with
  | some q => s.inc (F.EVS_Qn_CTL_DROPW q)
  | none =>
    if a.words = [] then s.inc F.EVS_ORPHAN_COUNT
    else
      let ws := a.words ++ [w]
      let cs := a.chks ++ [c]
      if ws.length ≥ itemLen (ws.headD 0) then s.finishItem prod src ws cs else s.setAsm prod { words := ws, chks := cs }

/-! ### Flush (R135) -/

/-- Discard the partial items in assembly for queue `q`: the words of each are counted, and the later words of those
producers are dropped. -/
def State.dropPartials (s : State) (q : Nat) : State :=
  s.asms.foldl (fun s p =>
    if p.2.words ≠ [] ∧ recQ (p.2.words.headD 0) = q then
      (s.incBy (F.EVS_Qn_CTL_DROPW q) p.2.words.length).setAsm p.1 { words := [], chks := [], dropQ := some q }
    else s) s

/-- Flush a queue: its records are discarded, a deferred open is cancelled, partial items are dropped, and on a valve
queue an open channel is to close at the next tick and S_n becomes closed. The flush ends by the fourth tick after it; a queue in SAFE
stays so (R136). (log 62: DEDUCED, unsafe.) -/
def State.flush (s : State) (q : Nat) (openNow : Bool) (toSafe : Bool) : State :=
  let x := s.queue q
  let s := { s with spent := x.recs.reverse ++ s.spent }
  let safe := toSafe || x.st == .safe || (x.st == .flush && x.toSafe)
  let s := s.setQueue q { x with recs := [], popped := 0, st := .flush, flushBy := (s.now / 32 * 32 + 128) % mod40, toSafe := safe }
  let s := (s.setFlag (F.EVS_Qn_CTL_FLUSH q) true).setFld (F.EVS_Qn_CTL_DROPW q) 0
  let s := s.dropPartials q
  let s := match (s.valve q).deferred with
    | some d => if q < 48 then s.noteOutcome d outCancelled else s
    | none => s
  if q < 48 then
    s.modValve q (fun v => { v with deferred := none, closeDue := v.closeDue || openNow, sn := false })
  else s

/-- The flush of a queue ends: it returns to RUN, or to OFF with EN = 0, or to SAFE (R135, R136).
(log 62: DEDUCED, unsafe.) -/
def State.endFlush (s : State) (q : Nat) : State :=
  let x := s.queue q
  if x.st = .flush then
    let st := if x.toSafe then QState.safe else if s.flag (F.EVS_Qn_CTL_EN q) then .run else .off
    (((s.setQueue q { x with st := st, toSafe := false }).update (F.EVS_Qn_CTL_FLUSH q) 0).raise
      (F.EVS_Qn_CTL_FLDONE q))
  else s

end Sys2Proof.Machine
end

