-- ==== Sys2Proof/Machine/Faults.lean ====
section
/-! DEFINITION. Fault supervision: reports, windowed counting, latches, FAULT records, and clears (chapter 19), with
the conditions of Table 19-1 and the validity of travel (R381). -/

namespace Sys2Proof.Machine

open Sys2Proof

/-- Word 4 of FAULT records: the register of the source at the element of the instance (Table 19-5). Sources 09h and 24h
name one register here and take the other by the reporter's override. -/
def faultAddr (src inst : Nat) : Nat :=
  if src = 0x00 then 0x120
  else if src = 0x01 then 0x230 + 8 * inst
  else if src = 0x02 || src = 0x03 then 0x260 + inst
  else if src = 0x04 then 0x201
  else if src = 0x05 then 0x1401
  else if src = 0x06 then 0x1407
  else if src = 0x07 then 0x1405
  else if src = 0x08 then 0x1482 + 4 * inst
  else if src = 0x09 then 0x641 + 4 * inst
  else if src = 0x0A then 0x403
  else if src = 0x0B then 0x402
  else if src = 0x0C || src = 0x0D || src = 0x0E || src = 0x12 then 0x885 + 8 * inst
  else if src = 0x0F || src = 0x10 || src = 0x11 then 0x808 + inst
  else if src = 0x13 then 0xB40 + inst
  else if src = 0x14 then 0xC00 + 4 * inst
  else if src = 0x15 then 0xD02 + 4 * inst
  else if src = 0x16 || src = 0x17 then 0x1001 + 0x100 * inst
  else if src = 0x18 then 0x1312
  else if src = 0x19 || src = 0x1A then 0x131C
  else if src = 0x1B || src = 0x1C then 0x180D
  else if src = 0x1D then 0x1824 + inst / 32
  else if src = 0x1E then 0x1826 + inst / 32
  else if src = 0x1F then 0x1814
  else if src = 0x20 || src = 0x21 then 0x1801
  else if src = 0x22 then 0x1840 + inst
  else if src = 0x23 then 0x160A
  else if src = 0x24 then 0x1609
  else if src = 0x25 then 0x1785
  else if src = 0x26 then 0x1781
  else if src = 0x27 then 0x1710 + 8 * inst
  else if src = 0x28 then 0x17D4
  else if src = 0x29 then 0x9
  else 0x224

/-- The action in force for a source: the reserved codes act as HOLD (Table 19-2). (log 12: DESIGN CHOICE, unsafe.) -/
def State.actOf (s : State) (src : Nat) : Nat := min 3 (s.fld (F.FSV_SRCs_CFG_ACT src)) +
  (if s.fld (F.FSV_SRCs_CFG_ACT src) = 4 then 1 else 0)

/-- EVENT codes of a FAULT record (Table 19-3). -/
def evLatched : Nat := 0
def evCleared : Nat := 1
def evUnknown : Nat := 2

/-- Write a FAULT record (R404, R454). `addr` is the register of word 4. -/
def State.faultRec (s : State) (src inst ev addr : Nat) : State :=
  s.errRec 1 (src * 2 ^ 34 + inst * 2 ^ 28 + s.actOf src * 2 ^ 25 + ev * 2 ^ 23) addr (s.regView addr).toNat

/-- The FAULT record that notes a latched state as unknown (R405), INST being the even channel of the pair.
(log 26: DESIGN CHOICE, unsafe.) -/
def State.unknownRec (s : State) (src inst : Nat) (addr : Nat) : State := s.faultRec src (inst / 2 * 2) evUnknown addr

/-- How many stamps lie less than `w` seconds before `t` (R394). -/
def recentCount (t w : Nat) (hs : List Nat) : Nat := (hs.filter (fun h => dist t h < ((w * 2 ^ 20 : Nat) : Int))).length

/-- One event of a source for an instance (R393 to R398): it is counted, judged against the window, and a lasting one
latches, writes its record at once, and has its action applied at the next tick. -/
def State.reportAt (s : State) (src inst addr : Nat) : State :=
  let s := s.inc (F.FSV_SRCs_STAT_EVENTS src)
  let k := instKey src inst
  let hs := (s.now :: spGet (fun _ => []) s.flt.hist k).take 15
  let s := { s with flt := { s.flt with hist := spSet (fun _ => []) s.flt.hist k hs } }
  if s.isLatched src inst then s
  else if src = srcDual || recentCount s.now (s.effW src) hs ≥ s.effN src then
    let s := { s with flt := { s.flt with latched := spSet (fun _ => false) s.flt.latched k true } }
    let s := s.faultRec src inst evLatched addr
    if s.actOf src = 0 then s
    else { s with flt := { s.flt with due := s.flt.due ++ [{ src := src, inst := inst, act := s.actOf src }] } }
  else s.inc (F.FSV_SRCs_STAT_TRANS src)

/-- One event reported with the register of Table 19-5. -/
def State.report (s : State) (src inst : Nat) : State := s.reportAt src inst (faultAddr src inst)

/-- An access to an unimplemented address (R13, R408). -/
def State.addrFault (s : State) : State := (s.inc F.FSV_STAT_ADDRF).report srcAddress 0

/-! ### Travel validity (R63, R65, R381) -/

/-- The primary source named by PRI, other values acting as 7h (R63). -/
def State.pri (s : State) : Nat := let p := s.fld F.TRV_SRC_PRI; if p ≤ 7 then p else 7

/-- The alternate source named by ALT, other values acting as Fh (R63). -/
def State.alt (s : State) : Nat := let p := s.fld F.TRV_SRC_ALT; if p ≤ 7 then p else 15

/-- Whether `k` core clocks or more have passed since `c`. (log 3: DESIGN CHOICE, safe.) -/
def State.elapsed (s : State) (c : Option Nat) (k : Nat) : Bool :=
  match c with
  | none => true
  | some c => s.clk.cc ≥ c + k

/-- A beacon valid for travel has been accepted within the last 2.0 s (R65). -/
def State.beaconFresh (s : State) : Bool := !s.elapsed s.trv.bcnCc (secClocks 2)

/-- R381: travel is valid. A local source in use with LOST = 0 counts as a configured local source.
(log 10: DEDUCED, unsafe.) -/
def State.travelValid (s : State) : Bool :=
  ((s.pri != 7 || s.fld F.TRV_SRC_USING != 7) && !s.flag F.TRV_STAT_LOST) || (s.pri = 7 && s.beaconFresh)

/-! ### Clears (R402, R403) -/

/-- Whether the channels of DCm disagree, by their debounced states (R78). -/
def State.dcDisagree (s : State) (m : Nat) : Bool :=
  let d := s.fld F.TRV_MS_STAT_DEB
  xor (bitOf d (2 * m) != bitOf d (2 * m + 1)) (s.flag (F.TRV_DCm_ANTI m))

/-- Sources of kind C: whether the standing condition of an instance holds; none for an event source (Table 19-1). -/
def State.condition (s : State) (src inst : Nat) : Option Bool :=
  if src = srcDual then some (s.flag (F.TRV_DCm_EN inst) && s.dcDisagree inst)
  else if src = srcAntenna then some (s.flag F.GNB_STAT_ANTOPEN || s.flag F.GNB_STAT_ANTSHORT)
  else if src = srcGeoStale then some (s.fld (F.GNB_TWRk_N_STATUS inst) == 4)
  else if src = srcGroupUv then some (bitOf (s.group inst).cond 0)
  else if src = srcGroupOv then some (bitOf (s.group inst).cond 1)
  else if src = srcGroupOt then some (bitOf (s.group inst).cond 2)
  else if src = srcCoilHot then some (s.fld (F.VDA_CHn_TH_STAGE inst) == 3)
  else if src = srcMarch then some (s.flag F.MIN_STAT_MTFAIL)
  else if src = srcTravelLost then some (!s.travelValid)
  else none

/-- Whether some latched instance has the action LIMP (R380, R398). -/
def State.limpLatched (s : State) : Bool := s.flt.latched.any (fun p => s.actOf (p.1 / 64) == 4)

/-- Evaluate the clear of one instance (R402). -/
def State.clearOne (s : State) (src inst : Nat) : State :=
  if !s.isLatched src inst then s
  else if s.condition src inst = some true then s.raise F.FSV_STAT_CLRERR
  else
    let k := instKey src inst
    let s := { s with flt := { s.flt with
      latched := spSet (fun _ => false) s.flt.latched k false
      hist := spSet (fun _ => []) s.flt.hist k [] } }
    let s := s.faultRec src inst evCleared (faultAddr src inst)
    let s := if src = srcDual then s.setFlag (F.TRV_DCm_LAST inst) false else s
    if s.limpLatched then s else s.setFlag F.MOD_STAT_LIMPPEND false

/-- The instances that a write to FSV_CLR names: one, or every latched one in order. -/
def State.clearNames (s : State) (w : Nat) : List (Nat × Nat) :=
  if bitOf w 12 then s.flt.latched.map (fun p => (p.1 / 64, p.1 % 64)) else [(bitsOf w 11 6, bitsOf w 5 0)]

/-- Evaluate one write to FSV_CLR. -/
def State.evalClear (s : State) (w : Nat) : State := (s.clearNames w).foldl (fun s p => s.clearOne p.1 p.2) s

/-- Evaluate the clears that wait, but those of dual-channel inputs: these wait for the sample at the same instant, which says
whether the channels agree (R80, R402, R453). (log 19: DEDUCED, unsafe.) -/
def State.evalPlainClears (s : State) : State :=
  let names := s.flt.clears.flatMap s.clearNames
  let dual := (names.filter (fun p => p.1 == srcDual)).map (fun p => p.1 * 64 + p.2)
  (names.filter (fun p => p.1 != srcDual)).foldl (fun s p => s.clearOne p.1 p.2)
    ({ s with flt := { s.flt with clears := dual } } : State)

/-- Evaluate every clear that waits (R402: at the next 1 ms instant). -/
def State.evalClears (s : State) : State :=
  let cs := s.flt.clears
  cs.foldl (fun s w => s.evalClear w) { s with flt := { s.flt with clears := [] } }

end Sys2Proof.Machine
end

