-- ==== Sys2Proof/Machine/Mem.lean ====
section
/-! DEFINITION. The SRAM: which addresses lie in it, its rows, reads with parity and poison, full-word writes, and the
reports of parity errors (chapter 16, R341 to R345, R348). -/

namespace Sys2Proof.Machine

open Sys2Proof

/-- Requesters in MIN_LASTERR.REQ (Table 16-4). -/
def reqSeq : Nat := 0
def reqCtl : Nat := 1
def reqSched : Nat := 2
def reqLink : Nat := 3
def reqMover : Nat := 4
def reqService : Nat := 5
def reqPatrol : Nat := 6
def reqPlanner : Nat := 7
def reqLedger : Nat := 8

/-- Shape-store words (Table 16-1). -/
def inShape (a : Nat) : Bool := 0x4000 ≤ a && a < 0x5800
/-- Event-store words. -/
def inEvents (a : Nat) : Bool := 0x10000 ≤ a && a < 0x1C000
/-- Trace words. -/
def inTrace (a : Nat) : Bool := 0x20000 ≤ a && a < 0x30000
/-- Prescription-cache words. -/
def inMap (a : Nat) : Bool := 0x30000 ≤ a && a < 0x40000
/-- Any window of Table 20-1. -/
def inWindow (a : Nat) : Bool := inShape a || inEvents a || inTrace a || inMap a

/-- Registers held in SRAM (Table 16-1). -/
def sramReg (a : Nat) : Bool :=
  match regAt a with
  | some r =>
    match r.reg with
    | .CTL_x_TGT | .CTL_x_WSP | .CTL_x_Xi | .CTL_x_XINITi | .CTL_x_ILIMi | .CTL_x_Mr_c | .LDG_VOLz | .LDG_LIMz
    | .LDG_ESTz => true
    | _ => false
  | none => false

/-- Whether a word address lies in SRAM. -/
def inSram (a : Nat) : Bool := inWindow a || sramReg a

/-- The record that a store row shows: one in a queue, or one released from it. -/
def State.slotRec (s : State) (r : Nat) : Option Rec :=
  match (s.queues.flatMap (fun q => q.2.recs)).find? (fun x => x.slot == r) with
  | some x => some x
  | none => s.spent.find? (fun x => x.slot == r)

/-- Word `i` of a record with its check bits. -/
def Rec.word (r : Rec) (i : Nat) : Word × Nat := if i = 0 then (r.w0, r.c0) else if i = 1 then (r.w1, r.c1) else (r.w2, r.c2)

/-- A record with word `i` and its check bits replaced. -/
def Rec.put (r : Rec) (i : Nat) (w : Word) (c : Nat) : Rec :=
  if i = 0 then { r with w0 := w, c0 := c } else if i = 1 then { r with w1 := w, c1 := c } else { r with w2 := w, c2 := c }

/-- Replace a record of the store, wherever it stands. -/
def State.putSlot (s : State) (r i : Nat) (w : Word) (c : Nat) : State :=
  let f := fun (x : Rec) => if x.slot = r then x.put i w c else x
  if s.slotUsed r then { s with queues := s.queues.map (fun q => (q.1, { q.2 with recs := q.2.recs.map f })) }
  else if s.spent.any (fun x => x.slot == r) then { s with spent := s.spent.map f }
  else { s with spent := ({ w0 := 0, w1 := 0, w2 := 0, slot := r } : Rec).put i w c :: s.spent }

/-- The stored data and check bits of an SRAM word. -/
def State.sramData (s : State) (a : Nat) : Word × Nat :=
  if inEvents a then
    match s.slotRec ((a - 0x10000) / 3) with
    | some r => r.word ((a - 0x10000) % 3)
    | none => (0, 0)
  else if sramReg a then (s.reg a, s.chkAt a)
  else (s.memWord a, s.chkAt a)

/-- Store data and check bits exactly as given. -/
def State.sramPut (s : State) (a : Nat) (w : Word) (c : Nat) : State :=
  if inEvents a then s.putSlot ((a - 0x10000) / 3) ((a - 0x10000) % 3) w c
  else if sramReg a then (s.setReg a w).setChk a c
  else (s.setMemWord a w).setChk a c

/-- A full-word write: parity is computed from the data and poison clears (R342). -/
def State.sramWrite (s : State) (a : Nat) (w : Word) : State := s.sramPut a w 0

/-- A parity error found by a read (R343, R345): counted, shown in MIN_LASTERR, recorded and reported. -/
def State.parityError (s : State) (snap : Bool) (mask req addr : Nat) : State :=
  let s := if req = reqPatrol then s.inc F.MIN_ERRCNT_PATERR else s.inc F.MIN_ERRCNT_PARERR
  let s := s.raise F.MIN_FLAGS_PERR
  let s := s.setReg F.MIN_LASTERR_w.addr 0
  let s := s.setFlag F.MIN_LASTERR_SNAP snap
  let s := s.setFld F.MIN_LASTERR_REQ req
  let s := s.setFld F.MIN_LASTERR_BYTES mask
  let s := s.setFld F.MIN_LASTERR_ADDR addr
  let s := s.errRec 5 (s.reg F.MIN_LASTERR_w.addr).toNat 0 0
  s.report srcParity 0

/-- What a read does with the check bits it finds (R343): whether the word is delivered with poison, the check bits
left stored, and the state after the counts. -/
def State.checkRead (s : State) (c req addr : Nat) : Bool × Nat × State :=
  if bitOf c 5 then (true, c, s.inc F.MIN_POISCNT_POISRD)
  else if c % 32 ≠ 0 then (true, c % 32 + 32, s.parityError false (c % 32) req addr)
  else (false, c, s)

/-- A read of an SRAM word under R343: data, poison, and the state after it. -/
def State.sramRead (s : State) (a req : Nat) : Word × Bool × State :=
  let (w, c) := s.sramData a
  if c = 0 then (w, false, s)
  else
    let s := if bitOf c 5 then s else s.sramPut a w (c % 32 + 32)
    let (p, _, s) := s.checkRead c req a
    (w, p, s)

/-- The rows of Table 16-1 and the address each addressable row holds (R341); none for an internal buffer row. -/
def ctlSramOffsets : List Nat :=
  [2, 3] ++ (List.range 8).map (fun i => 0x20 + i) ++ (List.range 8).map (fun i => 0x28 + i) ++
    (List.range 8).map (fun i => 0x30 + i) ++
    (List.range 10).flatMap (fun r => (List.range 14).map (fun c => 0x40 + 16 * r + c))

/-- The word address of SRAM row `row`, if it has one. (log 143: DEDUCED, unsafe.) -/
def rowAddr (row : Nat) : Option Nat :=
  if row < 6144 then some (0x4000 + row)
  else if row < 55296 then some (0x10000 + (row - 6144))
  else if row < 120832 then some (0x20000 + (row - 55296))
  else if row < 186368 then some (0x30000 + (row - 120832))
  else if row < 186866 then
    let i := row - 186368
    some (0x1000 + 0x100 * (i / 166) + ctlSramOffsets.getD (i % 166) 0)
  else if row < 187058 then some (0x1840 + (row - 186866))
  else none

/-- SRAM rows in all (R341). -/
def sramRows : Nat := 196608

/-- The check of a record that the scheduler reads (R136, R343): whether any word is delivered with poison. -/
def State.readRec (s : State) (q : Nat) (r : Rec) : Bool × State :=
  if r.c0 = 0 && r.c1 = 0 && r.c2 = 0 then (false, s)
  else
    let a := 0x10000 + 3 * r.slot
    let (p0, c0, s) := s.checkRead r.c0 reqSched a
    let (p1, c1, s) := s.checkRead r.c1 reqSched (a + 1)
    let (p2, c2, s) := s.checkRead r.c2 reqSched (a + 2)
    let x := s.queue q
    let f := fun (y : Rec) => if y.slot = r.slot then { y with c0 := c0, c1 := c1, c2 := c2 } else y
    (p0 || p1 || p2, s.setQueue q { x with recs := x.recs.map f })

/-- Read the words of one record of ring `q` for requester `req` (R343): each with its poison, and the state after it. -/
def State.readRecWords (s : State) (q req : Nat) (r : Rec) : List (Word × Bool) × State :=
  if r.c0 = 0 && r.c1 = 0 && r.c2 = 0 then ([(r.w0, false), (r.w1, false), (r.w2, false)], s)
  else
    let a := 0x10000 + 3 * r.slot
    let (p0, c0, s) := s.checkRead r.c0 req a
    let (p1, c1, s) := s.checkRead r.c1 req (a + 1)
    let (p2, c2, s) := s.checkRead r.c2 req (a + 2)
    let x := s.queue q
    let f := fun (y : Rec) => if y.slot = r.slot then { y with c0 := c0, c1 := c1, c2 := c2 } else y
    ([(r.w0, p0), (r.w1, p1), (r.w2, p2)], s.setQueue q { x with recs := x.recs.map f })

/-- Read the words of a ring item. -/
def State.readItem (s : State) (q req : Nat) (rs : List Rec) : List (Word × Bool) × State :=
  rs.foldl (fun (a : List (Word × Bool) × State) r =>
    let (ws, s) := a.2.readRecWords q req r
    (a.1 ++ ws, s)) ([], s)

end Sys2Proof.Machine
end

