-- ==== Sys2Proof/Machine/Time.lean ====
section
/-! DEFINITION. Timebase discipline, time steps, holdover (R38 to R42, R452). -/

namespace Sys2Proof.Machine

open Sys2Proof

/-- The rate-term range of Table 2-2, ±200 ppm in units of 2^-32. -/
def rateMax : Int := 858993

/-- SLEWMAX in units of 2^-32 (Table 2-5). -/
def State.slewMax (s : State) : Int := (clampN 1 200 (s.fld F.TBS_CTRL_SLEWMAX) * 2 ^ 32 / 10 ^ 6 : Nat)

/-- Move a system-time deadline by a step. -/
def shift40 (step : Int) (t : Nat) : Nat := add40 t step

/-- A base after a step of time. -/
def Base.shift (k : Int) (b : Base) : Base := { b with t := shift40 k b.t }

/-- Stamps of a history after a step. -/
def shiftKeys {α : Type} (k : Int) (h : List (Nat × α)) : List (Nat × α) := h.map (fun (p : Nat × α) => (shift40 k p.1, p.2))

/-- The clock after a step by `k` of system time `t`: the instants last taken, and the count of wraps (R31).
(log 11: DEDUCED, unsafe.) -/
def ClockSt.shift (k : Int) (t : Nat) (c : ClockSt) : ClockSt :=
  { c with taken := c.taken.map (fun (p : Nat × Nat) => (p.1, shift40 k p.2)), wraps := c.wraps + (t + k) / (mod40 : Int) }

/-- A serial-sensor input after a step. -/
def SsSt.shift (k : Int) (x : SsSt) : SsSt :=
  { x with reading := x.reading.map (shift40 k), lastStart := x.lastStart.map (shift40 k) }

/-- Travel's local stamps after a step. -/
def TravelSt.shift (k : Int) (x : TravelSt) : TravelSt :=
  { x with
    bcn := x.bcn.map (Base.shift k)
    fix := x.fix.map (Base.shift k)
    lastTick := shift40 k x.lastTick
    hist := shiftKeys k x.hist
    vhist := shiftKeys k x.vhist
    ss := x.ss.map (fun (p : Nat × SsSt) => (p.1, p.2.shift k)) }

/-- A record after a step: a deadline moves, a travel stamp does not (R40). -/
def Rec.shift (k : Int) (r : Rec) : Rec :=
  if recTrig r.w0 then { r with w1 := BitVec.ofNat 40 (shift40 k r.w1.toNat) } else r

/-- A queue after a step: event records with deadlines move. -/
def QueueSt.shift (k : Int) (q : Nat) (x : QueueSt) : QueueSt :=
  { x with flushBy := shift40 k x.flushBy, recs := if q < 56 then x.recs.map (Rec.shift k) else x.recs }

/-- A planner push after a step. -/
def shiftPush (k : Int) (p : Nat × Word × Word × Word) : Nat × Word × Word × Word :=
  if recTrig p.2.1 then (p.1, p.2.1, BitVec.ofNat 40 (shift40 k p.2.2.1.toNat), p.2.2.2) else p

/-- The planner after a step: UNIFORM's deadlines move. -/
def PlanSt.shift (k : Int) (x : PlanSt) : PlanSt :=
  { x with uNext := x.uNext.map (shift40 k), wait := x.wait.map (shiftPush k) }

/-- A control stage after a step: the tick of its last target action. -/
def StageSt.shift (k : Int) (x : StageSt) : StageSt :=
  { x with tgtWas := x.tgtWas.map (fun (p : Nat × Word) => (shift40 k p.1, p.2)) }

/-- The control engine after a step: the last publication instant. -/
def CtlSt.shift (k : Int) (x : CtlSt) : CtlSt :=
  { x with pk := x.pk.map (shift40 k), stages := x.stages.map (fun (p : Nat × StageSt) => (p.1, p.2.shift k)) }

/-- The baseband after a step: a capture that waits starts after the remaining time. -/
def GnbSt.shift (k : Int) (x : GnbSt) : GnbSt :=
  { x with snaps := x.snaps.map (fun (p : Snap) => if p.stage < 2 then { p with tcap := shift40 k p.tcap } else p) }

/-- R40: a step of `step` tb (a multiple of 256): system time moves, every pending time-triggered deadline moves with
it, STEPS counts, and a time-step record holds the old and new system time. Local stamps that the node carries forward
or compares with system time move as well, so that the remaining and elapsed durations are unchanged.
(log 11: DEDUCED, unsafe.) -/
def State.timeStep (s : State) (step : Int) : State :=
  let old := s.now
  let s := s.setFld F.TBS_TIME_TIME (shift40 step old)
  let s : State := { s with
    clk := s.clk.shift step old
    trv := s.trv.shift step
    plan := s.plan.shift step
    ctl := s.ctl.shift step
    gnb := s.gnb.shift step
    queues := s.queues.map (fun (p : Nat × QueueSt) => (p.1, p.2.shift step p.1)) }
  let s := s.inc F.TBS_STAT_STEPS
  s.errRec 2 old s.now 0

/-- Close the account of the present rate: the core clocks of LOCKED operation it served. -/
def State.closeRun (s : State) : State :=
  let r := if s.fld F.TBS_STAT_STATE = 1 then
      (s.clk.cc - s.clk.runStart, s.fldI F.TBS_RATE_RATE) :: s.clk.lockRuns else s.clk.lockRuns
  { s with clk := { s.clk with lockRuns := r, runStart := s.clk.cc } }

/-- The oscillator tolerance of Table 2-2, ±20 ppm in units of 2^-32. -/
def oscMax : Int := 85899

/-- The frequency that successive offsets show, in units of 2^-32: the rate term in force less the drift of the offset since
the last discipline, from what that left to `off` ns. -/
def State.freqSeen (s : State) (off : Rat) : Option Rat :=
  match s.clk.lastOff with
  | some (c, o) =>
    if c < s.clk.cc then
      some ((s.fldI F.TBS_RATE_RATE : Rat) - (off - o) * (2 ^ 59 : Nat) / (((s.clk.cc - c) * 10 ^ 9 : Nat) : Rat))
    else none
  | none => none

/-- The frequency estimate (R452): free between the last one and the frequency seen, and at the first discipline within the
oscillator's tolerance. (log 7: DESIGN CHOICE, unsafe.) -/
def State.chooseFreq (s : State) (off : Rat) : State :=
  let (lo, hi) : Int × Int := match s.freqSeen off with
    | some f =>
      let g := clampI (-rateMax) rateMax (roundAway f.num f.den)
      (min s.clk.freqEst g, max s.clk.freqEst g)
    | none => (-oscMax, oscMax)
  let (a, s) := s.draw (hi - lo + 1).toNat
  { s with clk := { s.clk with freqEst := lo + a } }

/-- The rate term that removes an offset of `off` ns (R39, R41, R452): the estimate less a slew toward zero, within SLEWMAX and
within the room that ±200 ppm leaves, and none where there is no room. The slew is free between half of what removes the
offset before the next input, `ms` ms later, and the whole of it. (log 7: DESIGN CHOICE, unsafe.) -/
def State.chooseRate (s : State) (off : Rat) (ms : Nat) : State :=
  let f := s.clk.freqEst
  let ahead := decide (off > 0)
  let room := clampI 0 s.slewMax (if ahead then f + rateMax else rateMax - f)
  let k : Nat := off.num.natAbs * 2 ^ 32 / (off.den * ms * 10 ^ 6)
  let lo := min room ((k + 1) / 2 : Nat)
  let hi := min room k
  let (m, s) := s.draw (hi - lo + 1).toNat
  s.setFldI F.TBS_RATE_RATE (if ahead then f - (lo + m) else f + (lo + m))

/-- TBS_OFFSET after a measured offset of `off` ns: saturating at ±8,388,607 (Table 2-7). -/
def State.showOffset (s : State) (off : Rat) : State :=
  s.setFldI F.TBS_OFFSET_OFFSET (clampI (-8388607) 8388607 (freeRound 10 off.num off.den))

/-- A valid discipline input with a measured offset of `off` ns, local less reference (R39 to R42). `beacons` is the
discipline input for SRC. An offset above STEPTHR is stepped by the nearest multiple of 256 tb; where STEPTHR lies below 128
tb (122 µs) that multiple may be 0, and the model makes a step of 0, which counts and writes its record. The remaining part is
slewed. (log 7: DESIGN CHOICE, unsafe; log 177: DESIGN CHOICE, unsafe.) -/
def State.discipline (s : State) (off : Rat) (beacons : Bool) : State :=
  let s := (s.showOffset off).closeRun
  let thr : Int := clampN 100 4000 (s.fld F.TBS_CTRL_STEPTHR) * 1000
  let tb256 : Rat := off * (2 ^ 20 : Nat) / (256 * 10 ^ 9 : Nat)
  let jump := decide (off > thr) || decide (off < -thr)
  let n := if jump then roundAway tb256.num tb256.den else 0
  let rest : Rat := off - n * (256 * 10 ^ 9 : Nat) / (2 ^ 20 : Nat)
  let s := s.chooseFreq off
  let s := if jump then s.timeStep (-256 * n) else s
  let s := s.chooseRate rest (if beacons then 250 else 100)
  let s := (s.setFld F.TBS_STAT_STATE 1).setFlag F.TBS_STAT_SRC beacons
  { s with clk := { s.clk with lastDisc := some s.clk.cc, lastOff := some (s.clk.cc, rest) } }

/-- Set TBS_WRAP from absolute time (R31): at reference time `t` of wrap `w` the local system time lay near; and TBS_LEAP. -/
def State.setWrap (s : State) (w t leap : Nat) : State :=
  let s := (s.setFldI F.TBS_WRAP_WRAP (((w * mod40 + t : Nat) + dist s.now t) / (mod40 : Int))).setFld F.TBS_LEAP_LEAP leap
  { s with clk := { s.clk with wraps := 0 } }

/-- What a beacon gave the timebase takes effect (R47). -/
def State.applyDue (s : State) : State :=
  match s.clk.due with
  | none => s
  | some d =>
    (({ s with clk := { s.clk with due := none } } : State).discipline d.off true).setWrap d.wrap d.reft d.leap

/-- The sum of the products of duration and rate over the newest runs, up to `left` core clocks, and the time they
cover. -/
def rateSum : Nat → List (Nat × Int) → Int × Nat
  | _, [] => (0, 0)
  | left, (d, r) :: m =>
    let k := min d left
    let (a, n) := rateSum (left - k) m
    (a + k * r, n + k)

/-- HOLDOVER_ENTRY (R42): 1.0 s after the last valid input a LOCKED node enters HOLDOVER, and the rate term freezes at
its average over the last 60 s of LOCKED operation, or over all of it when that is less. -/
def execHoldoverEntry (s : State) : Host.Outcome State Fault Refusal := s.clocked fun s =>
  match s.clk.lastDisc with
  | none => ok s
  | some c =>
    if s.fld F.TBS_STAT_STATE = 1 then
      let s := (s.advCcTo (c + secClocks 1)).closeRun
      let (a, n) := rateSum (secClocks 60) s.clk.lockRuns
      let s := if n = 0 then s else s.setFldI F.TBS_RATE_RATE (freeRound 11 a n)
      let s := { s with clk := { s.clk with holdFrom := s.clk.cc } }
      ok (s.setFld F.TBS_STAT_STATE 2)
    else ok s

/-- HOLDOVER_EXPIRED (R42): HOLDMAX after entry a node in HOLDOVER enters FREERUN, sets HOLDEXP and reports. -/
def execHoldoverExpired (s : State) : Host.Outcome State Fault Refusal := s.clocked fun s =>
  if s.fld F.TBS_STAT_STATE = 2 then
    let s := s.advCcTo (s.clk.holdFrom + secClocks (clampN 10 3600 (s.fld F.TBS_CTRL_HOLDMAX)))
    ok (((s.setFld F.TBS_STAT_STATE 0).raise F.TBS_STAT_HOLDEXP).report srcHoldExp 0)
  else ok s

end Sys2Proof.Machine
end

