-- ==== Sys2Proof/Machine/Travel.lean ====
section
/-! DEFINITION. Travel: encoders, serial sensors, the source in use, corrections, speed, standstill, and the magnetic
switches (R44 to R49, R50 to R81, R453). -/

namespace Sys2Proof.Machine

open Sys2Proof

/-! ### Corrections (R45, R46) -/

/-- Start a correction of `c` tc: one still being spread is finished at once; up to JUMPTHR it is spread over 8,192
ticks, above it is applied at once and counted. -/
def State.correct (s : State) (c : Int) : State :=
  let fin := s.trv.rem ≠ 0
  if c.natAbs ≤ s.fld F.TRV_JUMPTHR_THR then
    { s with trv := { s.trv with rem := c * 8192, part := c, held := s.trv.held || fin } }
  else
    { s.inc F.TRV_CFG_JUMPS with trv := { s.trv with rem := 0, part := 0, held := true } }

/-! ### Positions (R44, R54, R62) -/

/-- n × MANT × 2^(EXP − 32), rounded to the nearest tc with ties away from zero (R54). -/
def scaleK (n : Int) (mant exp : Nat) : Int := roundAway (n * mant * (2 ^ exp : Nat)) (2 ^ 32)

/-- A base carried forward to system time `t` (R44). -/
def Base.at (b : Base) (t : Nat) : Int := b.x + roundAway (b.v * dist t b.t) (2 ^ 28)

/-- The position of source `c` at system time `t`: an encoder or serial sensor by R54, GNSS (less what its anchor's
travel held of bias and offset, R101) and beacons carried forward (R44, R62); none before a first fix or beacon. -/
def State.sourcePos (s : State) (c t : Nat) : Option Int :=
  if c < 4 then
    some (scaleK (s.fldI (F.TRV_ENn_CNT_CNT c)) (s.fld (F.TRV_ENn_K_MANT c)) (s.fld (F.TRV_ENn_K_EXP c)))
  else if c < 6 then
    some (scaleK (s.ssOf (c - 4)).val (s.fld (F.TRV_SSn_K_MANT (c - 4))) (s.fld (F.TRV_SSn_K_EXP (c - 4))) +
      s.fldI (F.TRV_SSn_ZERO_ZERO (c - 4)))
  else if c = 6 then s.trv.fix.map (fun (f : Base) => f.at t - s.trv.fixBase)
  else s.trv.bcn.map (·.at t)

/-- Travel of source `c` at `t` before corrections: position, bias and span offset (R63). (log 8: DEDUCED, unsafe.) -/
def State.rawTravel (s : State) (c t : Nat) : Option Nat :=
  (s.sourcePos c t).map (fun p => wrap40 (p + s.fldI F.TRV_BIAS_BIAS + s.fldI F.TRV_OFFSET_OFFSET))

/-! ### Validity of sources (R61, R62, R64, R65) -/

/-- Whether source `c` is valid. -/
def State.sourceValid (s : State) (c : Nat) : Bool :=
  if c < 4 then
    !s.isLatched srcPhase c && (match (s.encOf c).brkFrom with
      | none => true
      | some b => s.clk.cc < b + msClocks 10)
  else if c < 6 then s.flag (F.TRV_SSn_CFG_VALID (c - 4))
  else if c = 6 then !s.elapsed s.trv.fixCc (secClocks 1)
  else if c = 7 then s.beaconFresh
  else false

/-- Whether the source in use has become invalid. For head beacons that is 2.0 s after the last beacon, or after the
source was taken (R21). (log 9: DEDUCED, unsafe.) -/
def State.usingInvalid (s : State) : Bool :=
  let u := s.fld F.TRV_SRC_USING
  if u = 7 then s.elapsed (some (max (s.trv.bcnCc.getD 0) s.trv.srcFrom)) (secClocks 2) else !s.sourceValid u

/-! ### Switching and loss (R65 to R67) -/

/-- Forget the speed estimate of the source taken: it is estimated afresh. -/
def State.freshSource (s : State) (c : Nat) : State :=
  let s := { s with trv := { s.trv with srcFrom := s.clk.cc } }
  if c < 4 then s.setEnc c { s.encOf c with edges := [] }
  else if c < 6 then s.setSs (c - 4) { s.ssOf (c - 4) with reads := [] }
  else s

/-- R67: switch to source `c` with LOST = 0: TRV_BIAS is set so that travel now equals the last tick's travel carried
forward at its speed, and SWITCHES counts. (log 164: DEDUCED, unsafe.) -/
def State.switchTo (s : State) (c : Nat) (alt : Bool) : State :=
  let want := wrap40 ((s.travel : Int) + roundAway (s.fldI F.TRV_SPEED_SPEED * dist s.now s.trv.lastTick) (2 ^ 28))
  let s := { s with trv := { s.trv with rem := 0, part := 0 } }
  let s := (s.setFld F.TRV_SRC_USING c).setFlag F.TRV_STAT_ALTACT alt
  let s := match s.rawTravel c s.now with
    | some x => s.update F.TRV_BIAS_BIAS (wrap40 (s.fldI F.TRV_BIAS_BIAS + dist want x))
    | none => s
  let s := if c < 4 then s else { s with trv := { s.trv with srcFrom := s.clk.cc } }
  s.inc F.TRV_STAT_SWITCHES

/-- R65: no valid source remains: LOST sets, speed and acceleration read 0, STILL reads 0, the mode change follows
under R382, and the loss is reported. -/
def State.setLost (s : State) : State :=
  let s := ((((s.setFlag F.TRV_STAT_LOST true).setFld F.TRV_SPEED_SPEED 0).setFld F.TRV_ACCEL_ACCEL 0).setFlag
    F.TRV_STAT_STILL false)
  let s := { s with trv := { s.trv with stillFrom := none }, mode := { s.mode with lost := true } }
  s.report srcTravelLost 0

/-- R65: the source in use, or the one a write of PRI names, is not valid: ALT serves if it is valid, else LOST. -/
def State.actInvalid (s : State) : State :=
  if s.alt ≠ 15 && s.sourceValid s.alt then
    if s.alt = s.fld F.TRV_SRC_USING then s else s.switchTo s.alt true
  else s.setLost

/-- R66: while LOST, take PRI or else ALT when valid; bias stays, and the difference is a correction. A loss that still waits
for its mode change keeps it, since clearing LOST changes no mode. -/
def State.tryRegain (s : State) : State :=
  let c := if s.sourceValid s.pri then some s.pri
           else if s.alt ≠ 15 && s.sourceValid s.alt then some s.alt else none
  match c with
  | none => s
  | some c =>
    let s := ((s.setFld F.TRV_SRC_USING c).setFlag F.TRV_STAT_LOST false).setFlag F.TRV_STAT_ALTACT (c != s.pri)
    let s := s.inc F.TRV_STAT_SWITCHES
    let s := { s with trv := { s.trv with rem := 0, part := 0 } }
    let s := match s.rawTravel c s.now with
      | some x => s.correct (dist x s.travel)
      | none => s
    s.freshSource c

/-- The choice of source at a scheduler tick (R65 to R67). (log 18: DEDUCED, unsafe.) -/
def State.chooseSource (s : State) : State :=
  let pend := s.trv.priPend
  let s := { s with trv := { s.trv with priPend := false } }
  if s.flag F.TRV_STAT_LOST then s.tryRegain
  else if pend then
    if s.pri = s.fld F.TRV_SRC_USING then s.setFlag F.TRV_STAT_ALTACT false
    else if s.sourceValid s.pri then s.switchTo s.pri false
    else s.actInvalid
  else if s.usingInvalid then s.actInvalid
  else s

/-! ### Speed (R71 to R74) -/

/-- M of R71: EDGES, 0 meaning 256. -/
def State.edgesM (s : State) : Nat := let m := s.fld F.TRV_SPDCFG_EDGES; if m = 0 then 256 else m

/-- The estimate of R71 as Q31.8 at core clock `cc` from stamped counts, newest first: the count change over the last M
entries, scaled by K, per second; limited while the time since the newest exceeds the span. With fewer than two entries (M = 1)
it is 0. (log 181: DESIGN CHOICE, unsafe.) -/
def State.speedFrom (s : State) (cc : Nat) (es : List (Nat × Int)) (mant exp : Nat) : Int :=
  let es := es.take s.edgesM
  match es, es.getLast? with
  | (c1, n1) :: _ :: _, some (c0, n0) =>
    let span := c1 - c0
    let q : Int := (n1 - n0) * mant * (2 ^ exp : Nat) * (2 ^ 27 : Nat) * 256
    let v := freeRound 12 q (2 ^ 32 * span)
    let gap := cc - c1
    if gap > span then
      let lim := freeRound 13 ((mant : Int) * (2 ^ exp : Nat) * (2 ^ 27 : Nat) * 256) (2 ^ 32 * gap)
      clampI (-lim) lim v
    else v
  | _, _ => 0

/-- The speed of source `c` as Q31.8 at core clock `cc` (R71, R72). -/
def State.sourceSpeed (s : State) (cc c : Nat) : Int :=
  if c < 4 then s.speedFrom cc (s.encOf c).edges (s.fld (F.TRV_ENn_K_MANT c)) (s.fld (F.TRV_ENn_K_EXP c))
  else if c < 6 then
    s.speedFrom cc (s.ssOf (c - 4)).reads (s.fld (F.TRV_SSn_K_MANT (c - 4))) (s.fld (F.TRV_SSn_K_EXP (c - 4)))
  else if c = 6 then s.fldI F.GNB_GSPEED_SPEED
  else match s.trv.bcn with
    | some b => b.v
    | none => 0

/-- The entry of a history (newest first) at or before system time `t`, or else the oldest one's value.
(log 16: DESIGN CHOICE, unsafe.) -/
def histAt {α : Type} (t : Nat) (d : α) : List (Nat × α) → α
  | [] => d
  | (t', v) :: m => if dist t t' ≥ 0 then v else histAt t d m

/-- Whether a history reaches back to system time `t`. -/
def histCovers {α : Type} (t : Nat) (h : List (Nat × α)) : Bool := h.any (fun p => dist t p.1 ≥ 0)

/-- STILLTO in force, in ms (R75). -/
def State.stillTo (s : State) : Nat := max 50 (s.fld F.TRV_SPDCFG_STILLTO)

/-- Milliseconds in tb, rounded up. -/
def msTb (k : Nat) : Nat := (k * 2 ^ 20 + 999) / 1000

/-! ### Standstill (R75, R76) -/

/-- Standstill asserts: speed and acceleration are forced to 0. -/
def State.assertStill (s : State) : State :=
  if s.still then s
  else
    let s := ((s.setFlag F.TRV_STAT_STILL true).setFld F.TRV_SPEED_SPEED 0).setFld F.TRV_ACCEL_ACCEL 0
    { s with trv := { s.trv with stillFrom := some s.clk.cc, graceDone := false } }

/-- Standstill releases. (log 65: DEDUCED, unsafe.) -/
def State.releaseStill (s : State) : State :=
  if s.still then { s.setFlag F.TRV_STAT_STILL false with trv := { s.trv with stillFrom := none, released := true } } else s

/-- The core clock at which an encoder source that counts no further edge comes to standstill. -/
def State.stillDue (s : State) (n : Nat) : Nat :=
  max ((s.encOf n).lastEdge.getD 0) s.trv.srcFrom + msClocks s.stillTo

/-- R75 for an encoder taken while standstill is asserted: standstill releases when its last two edges lie in one
direction, within STILLTO of each other and after standstill asserted; the speed is then set from that one period.
(log 164: DEDUCED, unsafe.) -/
def State.releaseByEdges (s : State) (n : Nat) : State :=
  match (s.encOf n).edges with
  | (c1, n1) :: (c0, n0) :: _ =>
    if c0 ≥ s.trv.stillFrom.getD 0 && c1 - c0 ≤ msClocks s.stillTo then
      (s.setEnc n { s.encOf n with edges := [(c1, n1), (c0, n0)] }).releaseStill
    else s
  | _ => s

/-- The standstill rules at a tick for the source in use (R75, R76); until STILLTO of history exists, standstill stays as it is.
(log 183: DESIGN CHOICE, unsafe.) -/
def State.judgeStill (s : State) : State :=
  let u := s.fld F.TRV_SRC_USING
  if u < 4 then
    if s.clk.cc ≥ s.stillDue u then s.assertStill
    else if s.still then s.releaseByEdges u
    else s
  else if u < 7 then
    let t := add40 s.now (-(msTb s.stillTo : Nat))
    if histCovers t s.trv.hist then
      if (dist s.travel (histAt t s.travel s.trv.hist)).natAbs < 2 ^ s.fld F.TRV_SPDCFG_BANDEXP then s.assertStill
      else s.releaseStill
    else s
  else match s.trv.bcn with
    | some b => if b.v = 0 then s.assertStill else s.releaseStill
    | none => s

/-! ### One tick's travel sample (R37, R44 to R46, R71 to R76) -/

/-- Apply the part of the correction due at this tick, and hold travel where a correction would move it against the
motion (R45, R46). `raw` is the travel with the whole correction in it. (log 15: DESIGN CHOICE, safe.) -/
def State.applyCorrection (s : State) (raw : Nat) : State :=
  let prev := s.travel
  let rem' := if s.trv.rem.natAbs ≤ s.trv.part.natAbs then 0 else s.trv.rem - s.trv.part
  let x := wrap40 (freeRound 14 ((raw : Int) * 8192 - rem') 8192)
  let back := if s.reverse then dist x prev > 0 else dist x prev < 0
  if (s.trv.rem ≠ 0 || s.trv.held) && back then { s with trv := { s.trv with held := true } }
  else { s.setFld F.TRV_COUNT_COUNT x with trv := { s.trv with rem := rem', held := false } }

/-- Keep the turn count of a pivot (R30). (log 165: DEDUCED, unsafe.) -/
def State.countTurns (s : State) (prev : Nat) : State :=
  let x := s.travel
  if s.flag F.TRV_CFG_KIND then s
  else if dist x prev > 0 && x < prev then s.setFldI F.TRV_TURNS_TURNS (s.fldI F.TRV_TURNS_TURNS + 1)
  else if dist x prev < 0 && x > prev then s.setFldI F.TRV_TURNS_TURNS (s.fldI F.TRV_TURNS_TURNS - 1)
  else s

/-- Speed and acceleration at a tick (R71 to R74); 0 at standstill, and saturated to their registers.
(log 16: DESIGN CHOICE, unsafe; log 182: DESIGN CHOICE, unsafe.) -/
def State.estimateSpeed (s : State) : State :=
  if s.still then s
  else
    let v := satS 40 (s.sourceSpeed s.clk.cc (s.fld F.TRV_SRC_USING))
    let w := 2 ^ (s.fld F.TRV_SPDCFG_ACCWIN + 5)
    let v0 := histAt (add40 s.now (-(msTb w : Nat))) 0 s.trv.vhist
    let s := s.setFldI F.TRV_SPEED_SPEED v
    let s := s.setFldSat F.TRV_ACCEL_ACCEL (freeRound 15 ((v - v0) * 256 * 1000) w)
    if v = 0 then s else s.setFlag F.TRV_STAT_DIR (v < 0)

/-- The history kept: 128 s for snapshots and records (R113), which covers the blend and STILLTO; 4,096 ms of speed. -/
def State.keepHist (s : State) : State :=
  let back := fun (k : Nat) (t : Nat) => dist s.now t ≤ (msTb k : Nat)
  { s with trv := { s.trv with
      hist := (s.now, s.travel) :: s.trv.hist.filter (fun p => back 128000 p.1)
      vhist := (s.now, s.fldI F.TRV_SPEED_SPEED) :: s.trv.vhist.filter (fun p => back 4097 p.1)
      lastTick := s.now } }

/-- Step 1 of R130: sample travel and standstill; while LOST travel holds and its speed is 0.
(log 29: DEDUCED, unsafe; log 184: DESIGN CHOICE, unsafe.) -/
def State.sampleTravel (s : State) : State :=
  let s := s.chooseSource
  if s.flag F.TRV_STAT_LOST then s.keepHist
  else
    let prev := s.travel
    let s := match s.rawTravel (s.fld F.TRV_SRC_USING) s.now with
      | some x => (s.applyCorrection x).countTurns prev
      | none => s
    (s.judgeStill.estimateSpeed).keepHist

/-! ### Encoders (R50 to R58, R73, R75) -/

/-- The count change of an encoder for new filtered levels (Table 3-2, R53); none for a phase error (R52). -/
def countEdge (mode : Nat) (inv : Bool) (a b a' b' : Bool) : Option Int :=
  let sign := fun (up : Bool) => some (if up != inv then (1 : Int) else -1)
  if mode = 3 then (if a' && !a then sign (!b) else some 0)
  else if a != a' && b != b' then none
  else if a != a' then
    if mode = 2 then (if a' then sign (!b) else some 0) else sign (a' != b)
  else if b != b' then (if mode = 0 then sign (b' == a) else some 0)
  else some 0

/-- Count one edge of encoder `n` in direction `d` at core clock `c` (R53), stamp it, and apply the reversal and release rules
(R73, R75). At standstill only edges counted since it asserted pair for the release. -/
def State.countOne (s : State) (c n : Nat) (d : Int) : State :=
  let e := s.encOf n
  let used := s.fld F.TRV_SRC_USING = n && !s.flag F.TRV_STAT_LOST && !s.gated
  let stamp := (c, e.tally + d)
  let same := e.dirn = d
  let near := match e.lastEdge with
    | some l => c - l ≤ msClocks s.stillTo && (!s.still || l ≥ s.trv.stillFrom.getD 0)
    | none => false
  let s := s.setFldI (F.TRV_ENn_CNT_CNT n) (s.fldI (F.TRV_ENn_CNT_CNT n) + d)
  let edges := if !same then [stamp]
    else if used && s.still then (if near then stamp :: e.edges.take 1 else [stamp])
    else (stamp :: e.edges).take 256
  let s := s.setEnc n { e with tally := e.tally + d, edges := edges, dirn := d, lastEdge := some c }
  if used && s.still && same && near then
    let s := s.releaseStill
    let v := satS 40 (s.sourceSpeed c n)
    let s := s.setFldI F.TRV_SPEED_SPEED v
    if v = 0 then s else s.setFlag F.TRV_STAT_DIR (v < 0)
  else s

/-- New filtered levels of A and B of encoder `n` at core clock `c`. -/
def State.encLevels (s : State) (c n : Nat) (a b : Bool) : State :=
  let e := s.encOf n
  let k := countEdge (s.fld (F.TRV_ENn_CFG_MODE n)) (s.flag (F.TRV_ENn_CFG_INV n)) e.a e.b a b
  let s := s.setEnc n { e with a := a, b := b }
  match k with
  | none => (s.inc (F.TRV_ENn_CFG_PHERR n)).report srcPhase n
  | some d => if d = 0 then s else s.countOne c n d

/-- A filtered rising edge of Z of encoder `n` (R55 to R58), with A and B still at their levels before its core clock. In
DORMANT the change of count appears in full at the first tick (R81). -/
def State.indexTaken (s : State) (n : Nat) : State :=
  let e := s.encOf n
  let z := s.fld (F.TRV_ENn_CFG_ZQUAL n)
  if z = 0 || z = 3 || (e.a && (z = 1 || e.b)) then
    let s := s.setFld (F.TRV_ENn_IDX_IDX n) (s.fld (F.TRV_ENn_CNT_CNT n))
    if s.flag (F.TRV_ENn_CFG_ARM n) then
      let x0 := s.sourcePos n s.now
      let s := s.setFld (F.TRV_ENn_CNT_CNT n) (s.fld (F.TRV_ENn_PRESET_PRESET n))
      let s := (s.update (F.TRV_ENn_CFG_ARM n) 0).raise (F.TRV_ENn_CFG_IDXTAKEN n)
      if s.fld F.TRV_SRC_USING = n && !s.flag F.TRV_STAT_LOST && !s.gated then
        s.correct (dist (wrap40 ((s.sourcePos n s.now).getD 0)) (wrap40 (x0.getD 0)))
      else s
    else s
  else s

/-- The filter's hold time in core clocks (R50): 4 × 2^FILT, FILT above 12 acting as 12. -/
def State.filtHold (s : State) (n : Nat) : Nat := 4 * 2 ^ min 12 (s.fld (F.TRV_ENn_CFG_FILT n))

/-- The core clock at which the filter of encoder `n` next accepts a level, if no line changes before. -/
def State.filtDue (s : State) (n : Nat) : Option Nat :=
  let e := s.encOf n
  let h := s.filtHold n
  let da := if e.ra != e.a then some (e.raAt + h) else none
  let db := if e.rb != e.b then some (e.rbAt + h) else none
  let ds := da.toList ++ db.toList ++ (e.zAt.map (· + h)).toList
  ds.foldl (fun m d => match m with
    | some x => some (min x d)
    | none => some d) none

/-- The filter of encoder `n` accepts what is due at core clock `c`: Z first, whose qualification and latch use the levels and
the count before (R56), then A and B. -/
def State.settleOne (s : State) (n c : Nat) : State :=
  let e := s.encOf n
  let h := s.filtHold n
  let a := if e.raAt + h ≤ c then e.ra else e.a
  let b := if e.rbAt + h ≤ c then e.rb else e.b
  let s := match e.zAt with
    | some z => if z + h ≤ c then (s.setEnc n { e with zAt := none }).indexTaken n else s
    | none => s
  s.encLevels c n a b

/-- Accept, in order, every level of encoder `n` that is due up to core clock `lim` (R50). (log 179: DESIGN CHOICE, unsafe.) -/
def State.settle (s : State) (n lim : Nat) : State :=
  (List.range 3).foldl (fun s _ => match s.filtDue n with
    | some c => if c ≤ lim then s.settleOne n c else s
    | none => s) s

/-- What every encoder's filter has accepted before the present core clock (R451). -/
def State.settleAll (s : State) : State := (List.range 4).foldl (fun s n => s.settle n (s.clk.cc - 1)) s

/-- Let `dt` core clocks pass; the filter of encoder `n` accepts each level that falls due at its own clock. -/
def State.filterFor (s : State) (n dt : Nat) : State :=
  let lim := s.clk.cc + dt
  let s := (List.range 3).foldl (fun s _ => match s.filtDue n with
    | some c => if c ≤ lim then (s.advCcTo c).settleOne n c |>.completed else s
    | none => s) s
  s.advCcTo lim

/-- The lines A and B of encoder `n` take levels. -/
def State.lines (s : State) (n : Nat) (a b : Bool) : State :=
  let e := s.encOf n
  s.setEnc n { e with
    ra := a, rb := b, raAt := if a == e.ra then e.raAt else s.clk.cc, rbAt := if b == e.rb then e.rbAt else s.clk.cc }

/-- ENCODER_EDGE (R50 to R53): the lines A and B of encoder `n` take the levels `a` and `b` and hold them for `gap` + 1 core
clocks, in which the filter accepts what has held for its time. (log 17: DESIGN CHOICE, safe; log 179: DESIGN CHOICE,
unsafe.) -/
def execEncoderEdge (n : Fin 4) (a b : Bool) (gap : Nat) (s : State) : Host.Outcome State Fault Refusal := s.clocked fun s =>
  ok (((s.settle n s.clk.cc).lines n a b).filterFor n (gap + 1))

/-- INDEX_EDGE (R56, R57): Z of encoder `n` rises, with the levels of A and B in its core clock, and all hold for `gap` + 1 core
clocks. (log 17: DESIGN CHOICE, safe; log 179: DESIGN CHOICE, unsafe.) -/
def execIndexEdge (n : Fin 4) (a b : Bool) (gap : Nat) (s : State) : Host.Outcome State Fault Refusal := s.clocked fun s =>
  let s := (s.settle n s.clk.cc).lines n a b
  ok ((s.setEnc n { s.encOf n with zAt := some s.clk.cc }).filterFor n (gap + 1))

/-- LINE_BREAK (R51): in RS-422 mode BREAK sets; in 24 V mode it reads 0. -/
def execLineBreak (n : Fin 4) (s : State) : Host.Outcome State Fault Refusal := s.clocked fun s =>
  if s.flag (F.TRV_ENn_CFG_ELEC n) || s.flag (F.TRV_ENn_CFG_BREAK n) then ok s
  else ok ((s.setFlag (F.TRV_ENn_CFG_BREAK n) true).setEnc n { s.encOf n with brkFrom := some s.clk.cc }).completed

/-- LINE_BREAK_END (R51): the magnitude is back, so BREAK clears. -/
def execLineBreakEnd (n : Fin 4) (s : State) : Host.Outcome State Fault Refusal := s.clocked fun s =>
  ok ((s.setFlag (F.TRV_ENn_CFG_BREAK n) false).setEnc n { s.encOf n with brkFrom := none }).completed

/-! ### Serial sensors (R59 to R61) -/

/-- PER in ticks, 0 meaning 64 (R59). -/
def State.ssPer (s : State) (n : Nat) : Nat := let p := s.fld (F.TRV_SSn_CFG_PER n); if p = 0 then 64 else p

/-- BITS in force (Table 3-9). -/
def State.ssBits (s : State) (n : Nat) : Nat := clampN 10 40 (s.fld (F.TRV_SSn_CFG_BITS n))

/-- The system time at which the next read may start (R59): the first one at the next tick; after that the first end of a
period that is not past. -/
def State.ssStart (s : State) (n : Nat) : Nat :=
  match (s.ssOf n).lastStart with
  | none => (s.now + (32 - s.now % 32) % 32) % mod40
  | some t =>
    let p := 32 * s.ssPer n
    add40 t (p * max 1 (((dist s.now t).toNat + p - 1) / p) : Nat)

/-- SSI_READ_START (R59): the read period ends at a scheduler tick, and a read starts there; the clock has been high for 25 µs
since the last frame. (log 178: DEDUCED, unsafe.) -/
def execSsiReadStart (n : Fin 2) (s : State) : Host.Outcome State Fault Refusal := s.clocked fun s =>
  let e := s.ssOf n
  if s.gated || e.reading.isSome then ok s
  else
    let s := match e.ended with
      | some c => s.advCcTo (c + usClocks 25)
      | none => s
    let t := s.ssStart n
    let s := s.advTo t
    ok (s.setSs n { s.ssOf n with reading := some t, startCc := s.clk.cc, lastStart := some t })

/-- Gray to binary over `k` bits. -/
def grayToBin : Nat → Nat → Nat
  | 0, _ => 0
  | k + 1, g => b2n (parityOf (k + 1) g) + 2 * grayToBin k (g / 2)

/-- Whether the frame's parity bit is wrong (PAR 01b even, 10b odd; R59, R61). -/
def parityBad (par bits data : Nat) (p : Bool) : Bool :=
  let odd := xor (parityOf bits data) p
  if par = 1 then odd else if par = 2 then !odd else false

/-- SSI_READ_COMPLETE (R61): a frame ends with data bits `data` (first bit the most significant), parity bit `p`, and
`low` when the data line was low at the first clock edge. (log 14: DEDUCED, unsafe.) -/
def execSsiReadComplete (n : Fin 2) (low : Bool) (data : Nat) (par : Bool) (s : State) : Host.Outcome State Fault Refusal := s.clocked fun s =>
  let e := s.ssOf n
  match e.reading with
  | none => ok s
  | some _ => if s.gated then ok s else
    let bits := s.ssBits n
    let pm := s.fld (F.TRV_SSn_CFG_PAR n)
    let clocks := bits + (if pm = 1 || pm = 2 then 1 else 0)
    let s := s.advCcTo (e.startCc + usClocks ((clocks * (s.fld (F.TRV_SSn_CFG_CLK n) + 1) + 1) / 2))
    let e := { e with ended := some s.clk.cc }
    let d := data % 2 ^ bits
    let raw := if s.flag (F.TRV_SSn_CFG_CODE n) then grayToBin bits d else d
    let jm := s.fld (F.TRV_SSn_JUMPMAX_JUMPMAX n)
    let jump := match e.lastRaw with
      | some x => jm ≠ 0 && (sx bits (wrapW bits ((raw : Int) - x))).natAbs > jm
      | none => false
    if low || parityBad pm bits d par || jump then
      let s := s.inc (F.TRV_SSn_CFG_ERRCNT n)
      let s := s.setSs n { e with reading := none, bad := e.bad + 1, good := 0 }
      ok (if e.bad + 1 ≥ 3 then s.setFlag (F.TRV_SSn_CFG_VALID n) false else s).completed
    else
      let v : Int := if s.flag (F.TRV_SSn_CFG_INV n) then -(raw : Int) else raw
      let tally : Int := match e.lastRaw, e.reads with
        | some x, (_, t) :: _ =>
          let dx := sx bits (wrapW bits ((raw : Int) - x))
          t + (if s.flag (F.TRV_SSn_CFG_INV n) then -dx else dx)
        | _, _ => v
      let s := s.setFldI (F.TRV_SSn_VAL_VAL n) v
      let s := s.setSs n { e with
        reading := none, good := e.good + 1, bad := 0, lastRaw := some raw, val := v
        reads := ((e.startCc, tally) :: e.reads).take 256 }
      ok (if e.good + 1 ≥ 3 then s.setFlag (F.TRV_SSn_CFG_VALID n) true else s).completed

/-! ### Events of the source in use -/

/-- Let time run to the scheduler tick that comes next, without taking it. -/
def State.toTick (s : State) : State := s.advTo (s.nextInstant clsTick 32 0)

/-- SOURCE_INVALID (R64, R65): the source in use becomes invalid. Time runs to the instant at which a line break has
held 10 ms, or 1.0 s has passed since the last GNSS fix, when one of these is the cause, and on to the next scheduler tick,
where the node switches (R67). Nothing is judged while ticks are gated (R49). -/
def execSourceInvalid (s : State) : Host.Outcome State Fault Refusal := s.clocked fun s =>
  if s.flag F.TRV_STAT_LOST || s.gated then ok s
  else
    let u := s.fld F.TRV_SRC_USING
    let s := if u < 4 then (match (s.encOf u).brkFrom with
        | some b => s.advCcTo (b + msClocks 10)
        | none => s)
      else if u = 6 then (match s.trv.fixCc with
        | some c => s.advCcTo (c + secClocks 1)
        | none => s)
      else s
    ok (if s.usingInvalid then s.toTick.actInvalid else s)

/-- BEACON_LOSS (R21, R65): 2.0 s without a beacon valid for travel while beacons are the source in use; the node acts at the
next scheduler tick (R67).
(log 3: DESIGN CHOICE, safe; log 9: DEDUCED, unsafe.) -/
def execBeaconLoss (s : State) : Host.Outcome State Fault Refusal := s.clocked fun s =>
  if s.flag F.TRV_STAT_LOST || s.fld F.TRV_SRC_USING ≠ 7 || s.gated then ok s
  else ok (s.advCcTo (max (s.trv.bcnCc.getD 0) s.trv.srcFrom + secClocks 2)).toTick.actInvalid

/-- STANDSTILL_ASSERT (R75, R76): with an encoder in use, time runs to STILLTO after the last counted edge; with another
source the standstill rule is judged now. -/
def execStandstillAssert (s : State) : Host.Outcome State Fault Refusal := s.clocked fun s =>
  if s.flag F.TRV_STAT_LOST || s.still || s.gated then ok s
  else
    let u := s.fld F.TRV_SRC_USING
    if u < 4 then
      let s := s.settle u s.clk.cc
      ok (if s.still then s else (s.advCcTo (s.stillDue u)).assertStill)
    else ok s.judgeStill

/-! ### Magnetic switches (R77 to R80, R453) -/

/-- One sample of input k: the run of differing samples, and whether the debounced state changes at the third. -/
def State.msDebounce (s : State) (lv : Nat) (k : Nat) : State :=
  let x := bitOf lv k
  let d := bitOf (s.fld F.TRV_MS_STAT_DEB) k
  let r := spGet (fun _ => 0) s.ms.runs k
  let put := fun (s : State) (r : Nat) => { s with ms := { s.ms with runs := spSet (fun _ => 0) s.ms.runs k r } }
  if x == d then put s 0
  else if r + 1 ≥ 3 then
    put (s.setFld F.TRV_MS_STAT_DEB (setBits (s.fld F.TRV_MS_STAT_DEB) k k (b2n x))) 0
  else put s (r + 1)

/-- The discrepancy time in force, in samples (Table 3-10). -/
def State.dcT (s : State) (m : Nat) : Nat := clampN 10 10000 (s.fld (F.TRV_DCm_T m))

/-- Whether the present disagreement of DCm has reached T. -/
def State.dcHit (s : State) (m : Nat) : Bool := spGet (fun _ => false) s.ms.hit m
def State.setHit (s : State) (m : Nat) (b : Bool) : State :=
  { s with ms := { s.ms with hit := spSet (fun _ => false) s.ms.hit m b } }

/-- One sample of dual-channel input m (R78 to R80, R453): a disagreement that reaches T latches, one that ends before is a
transient, whatever an earlier fault has left in LAST. -/
def State.dcSample (s : State) (m : Nat) : State :=
  let again := spGet (fun _ => false) s.ms.restart m
  let s := { s with ms := { s.ms with restart := spSet (fun _ => false) s.ms.restart m false } }
  if !s.flag (F.TRV_DCm_EN m) then ((s.setFld (F.TRV_DCm_D m) 0).setFlag (F.TRV_DCm_VAL m) false).setHit m false
  else
    let s := if again then (s.setFld (F.TRV_DCm_D m) 0).setHit m false else s
    let dis := s.dcDisagree m
    let s :=
      if dis then
        let d := satAdd 14 (s.fld (F.TRV_DCm_D m)) 1
        let s := s.setFld (F.TRV_DCm_D m) d
        if d ≥ s.dcT m && !s.dcHit m then ((s.setFlag (F.TRV_DCm_LAST m) true).setHit m true).report srcDual m else s
      else
        let d := s.fld (F.TRV_DCm_D m)
        let short := d ≠ 0 && !s.dcHit m
        let s := (s.setFld (F.TRV_DCm_D m) 0).setHit m false
        if short then (s.inc (F.TRV_DCm_TRANS m)).report srcDualTrans m else s
    s.setFlag (F.TRV_DCm_VAL m) (!dis && !s.flag (F.TRV_DCm_LAST m) && bitOf (s.fld F.TRV_MS_STAT_DEB) (2 * m))

/-- The magnetic-switch part of a 1 ms instant: sample and debounce, evaluate the clears that wait, then time the pairs (R402,
R403). -/
def State.msInstant (s : State) (raw : Nat) : State :=
  let s := s.setFld F.TRV_MS_STAT_RAW raw
  let lv := raw ^^^ s.fld F.TRV_MS_CFG_INV
  let s := (List.range 8).foldl (fun s k => s.msDebounce lv k) s
  (List.range 4).foldl (fun s m => s.dcSample m) s.evalClears

end Sys2Proof.Machine
end

