-- ==== Sys2Proof/Machine/Valve.lean ====
section
/-! DEFINITION. Valve drive channels: states, turn-offs, program starts and errors, the SAFE state, samples, armature
detection, the learner, and the credited edges of metering (R145 to R165, R168 to R170, R182 to R184, R197 to R199,
R245). Channel numbers here are those of the channel whose registers govern (the even one of a pair). -/

namespace Sys2Proof.Machine

open Sys2Proof

/-! ### Kinds, states and ratings -/

def stOff : Nat := 0
def stPull : Nat := 1
def stHold : Nat := 2
def stLatched : Nat := 3
def stClosing : Nat := 4
def stSafe : Nat := 5

/-- STATE of a channel (Table 6-3). -/
def State.chSt (s : State) (n : Nat) : Nat := s.fld (F.VDA_CHn_STAT_STATE n)

/-- Change the STATE of a channel, and keep what it was before this core clock (R186). -/
def State.setChSt (s : State) (n k : Nat) : State :=
  let l := if s.core.chAt = s.clk.cc then s.core.chWas else []
  let l := if l.any (fun p => p.1 == n) then l else (n, s.chSt n) :: l
  { s.setFld (F.VDA_CHn_STAT_STATE n) k with core := { s.core with chAt := s.clk.cc, chWas := l } }

/-- STATE of a channel at the end of the core clock before this one. -/
def State.chStWas (s : State) (n : Nat) : Nat :=
  match (if s.core.chAt = s.clk.cc then s.core.chWas.find? (fun p => p.1 == n) else none) with
  | some (_, k) => k
  | none => s.chSt n

/-- A bridge pair. -/
def State.isBridge (s : State) (n : Nat) : Bool := s.pairKind n == 2

/-- Continuous rating in mA (Table 6-2). -/
def State.contRating (s : State) (n : Nat) : Nat := if s.pairKind n = 1 then 5000 else 2500

/-- Pulse rating in mA (Table 6-2). -/
def State.pulseRating (s : State) (n : Nat) : Nat := if s.pairKind n = 1 then 12000 else 6000

/-- PWM period in µs (Table 6-6). -/
def State.pwmUs (s : State) : Nat :=
  match s.fld F.VDA_CFG_PWMPER with
  | 0 => 24
  | 1 => 32
  | 2 => 48
  | _ => 64

/-- Whether a channel's valve stands open or is being opened: PULL, HOLD or LATCHED. -/
def State.chOpen (s : State) (n : Nat) : Bool := s.chSt n = stPull || s.chSt n = stHold || s.chSt n = stLatched

/-- Whether a program runs on the channel. -/
def State.running (s : State) (n : Nat) : Bool := s.flag (F.VDA_CHn_SEQ_RUNNING n)

/-- Program kinds in VDA_CHn_SEQ.KIND. -/
def kOpen : Nat := 1
def kClose : Nat := 2
def kSafe : Nat := 3

/-- Any live condition of the channel's group (Table 6-5). -/
def State.groupCond (s : State) (n : Nat) : Bool := (s.group (n / 8)).cond != 0

/-! ### Credited edges (R245, R246) -/

/-- The used close latency in core clocks (R199). -/
def State.closeLatCc (s : State) (n : Nat) (open_ : Bool) : Nat := (s.usedLatency n open_ * 2 ^ 27 + 256 * 10 ^ 6 - 1) / (256 * 10 ^ 6)

/-- Start a credited interval at core clock `c`; the credit of a pair of unknown state runs on instead (Table 11-1). -/
def State.creditOpen (s : State) (n c : Nat) (est : Bool) : State :=
  s.modValve n (fun v =>
    if v.credits.any (fun (k : Credit) => k.toCc.isNone) then v
    else { v with credits := v.credits ++ [{ fromCc := c, est := est }] })

/-- The close edge of the interval in progress becomes known. (log 28: DEDUCED, unsafe.) -/
def State.creditClose (s : State) (n c : Nat) (est : Bool) : State :=
  s.modValve n (fun v => { v with
    unknown := false
    credits := v.credits.map (fun (k : Credit) => if k.toCc.isNone then { k with toCc := some c, estTo := est } else k) })

/-- A close start: credit beyond it waits for the close edge. -/
def State.creditHold (s : State) (n c : Nat) : State :=
  s.modValve n (fun v => { v with
    credits := v.credits.map (fun (k : Credit) => if k.toCc.isNone then { k with hold := some c } else k) })

/-- A turn-off with credit in progress: the edge is the turn-off plus the used close latency, or the close start plus
that latency when a close was under way (Table 11-1). (log 22: DEDUCED, unsafe.) -/
def State.creditTurnOff (s : State) (n : Nat) : State :=
  match (s.valve n).credits.find? (fun (k : Credit) => k.toCc.isNone) with
  | none => s
  | some k => s.creditClose n (k.hold.getD s.clk.cc + s.closeLatCc n false) true

/-! ### Periods -/

/-- Core clock of the instant `us` µs into the group frames. (log 23: DESIGN CHOICE, unsafe.) -/
def frameCc (us : Nat) : Nat := usClocks us

/-- The first whole µs of the frames whose core clock is not before `c`. -/
def usAt (c : Nat) : Nat := if c = 0 then 0 else (c - 1) * 10 ^ 6 / 2 ^ 27 + 1

/-- The next capture edge of channel `n`, in µs of the group frames (R151). -/
def State.nextEdge (s : State) (n : Nat) : Nat :=
  let p := s.pwmUs
  let from_ := match (s.valve n).edgeAt with
    | some t => max (t + 1) (usAt s.clk.cc)
    | none => usAt s.clk.cc
  let ph := n % 8 * (p / 8)
  from_ + (ph + p - from_ % p) % p

/-- Mark a detection whose window a masked period touches. -/
def DetSt.mask (d : DetSt) (bad : Bool) (c0 c1 wstart wend : Nat) : DetSt :=
  if bad && d.res.isNone && c1 > d.start + usClocks (wstart * 100) && c0 ≤ d.start + msClocks wend then
    { d with res := some (3, 0), masked := true } else d

/-- The period from core clock `c0` to `c1` passes with every switch off, in fast decay: it masks a detection whose window
it touches (R158, R159, R181). (log 168: DEDUCED, unsafe.) -/
def State.coastPeriod (s : State) (n c0 c1 : Nat) : State :=
  let ws := s.fld (F.VDA_CHn_DET_WSTART n)
  let we := s.fld (F.VDA_CHn_DET_WEND n)
  s.modValve n (fun v => { v with
    odet := v.odet.map (fun (x : DetSt) => x.mask true c0 c1 ws we)
    cdet := v.cdet.map (fun (x : DetSt) => x.mask true c0 c1 ws we) })

/-- The rest of the period in which a program ends passes so. -/
def State.coast (s : State) (n : Nat) : State := s.coastPeriod n s.clk.cc (frameCc (s.nextEdge n))

/-! ### Detections end -/

/-- A resistance measurement in progress stays until its windows end, and is no longer valid (R191, R192). -/
def MeasSt.spoil (m : MeasSt) : MeasSt := { m with bad := true }

/-- An open detection ends without a result (R158); the measurement of the pull-in is no longer valid (R192). -/
def State.dropOdet (s : State) (n : Nat) : State :=
  s.modValve n (fun v => { v with odet := none, meas := v.meas.map MeasSt.spoil })

/-- A close detection ends without a result (R159): the close counts as estimated. (log 168: DEDUCED, unsafe.) -/
def State.dropCdet (s : State) (n : Nat) : State :=
  match (s.valve n).cdet with
  | none => s
  | some d => (s.modValve n (fun v => { v with cdet := none })).creditClose n (d.start + s.closeLatCc n false) true

/-! ### Stopping -/

/-- The program ends: every switch off, no target; a measurement whose windows have not ended is no longer valid
(R192). -/
def State.stopProgram (s : State) (n : Nat) : State :=
  let s := ((s.setFlag (F.VDA_CHn_SEQ_RUNNING n) false).setFld (F.VDA_CHn_SEQ_KIND n) 0).setFld (F.VDA_CHn_SEQ_TGT n) 0
  let s := s.setFld (F.VDA_CHn_CUR_DUTY n) 0
  let r := s.fld (F.VDA_Gg_SEQ_RUN (n / 8))
  let s := s.setFld (F.VDA_Gg_SEQ_RUN (n / 8)) (setBits r (n % 8) (n % 8) 0)
  s.modValve n (fun v => { v with
    it := 0, goal := 0, ramp := 0, holding := false, wait := none, revFrom := none, decay := none, recovery := false
    toSafe := false, lowRun := 0, limited := false, meas := v.meas.map MeasSt.spoil })

/-- Enter OFF: the off-time starts and the integrator is 0 (R152, R157). -/
def State.enterOff (s : State) (n : Nat) : State :=
  (s.setChSt n stOff).modValve n (fun v => { v with offFrom := some s.clk.cc, s := 0 })

/-- The program ends and the channel is in SAFE. (log 168: DEDUCED, unsafe.) -/
def State.intoSafe (s : State) (n : Nat) : State :=
  (s.stopProgram n).setChSt n stSafe

/-- The scheduler is told that the channel is closed. -/
def State.tellClosed (s : State) (n : Nat) : State := s.modValve n (fun v => { v with sn := false })

/-- A turn-off at once in fast decay that ends the program and both detections, into OFF, or into SAFE where a program
on the way to SAFE was running (R164). (log 21: DEDUCED, unsafe.) -/
def State.turnOff (s : State) (n : Nat) : State :=
  let v := s.valve n
  let safe := v.toSafe || (s.fld (F.VDA_CHn_SEQ_KIND n) = kSafe && !v.recovery)
  let s := ((s.dropOdet n).creditTurnOff n).dropCdet n
  if safe then s.intoSafe n else (s.stopProgram n).enterOff n

/-- The program ends with the latched state of a pair unknown: credit in progress has no close edge (Table 11-1). -/
def State.loseState (s : State) (n : Nat) : State :=
  (s.modValve n (fun v => { v with unknown := v.credits.any (fun (k : Credit) => k.toCc.isNone)
                                   credits := v.credits.map (fun (k : Credit) => { k with hold := none }) })).stopProgram n

/-- Turn off with the latched state of a pair unknown; both detections end. -/
def State.turnOffUnknown (s : State) (n : Nat) : State :=
  ((s.dropOdet n).modValve n (fun v => { v with cdet := none })).loseState n

/-- Note a program error in SERR (R182). -/
def State.noteError (s : State) (n code : Nat) : State :=
  let s := (s.raise (F.VDA_CHn_SERR_PERR n)).inc (F.VDA_CHn_SERR_PERRCNT n)
  (s.setFld (F.VDA_CHn_SERR_EPC n) (s.fld (F.VDA_CHn_SEQ_PC n))).setFld (F.VDA_CHn_SERR_ECODE n) code

/-- R184: the channel turns off for a word that failed its check. -/
def State.poisonOff (s : State) (n : Nat) : State :=
  let s := if s.isBridge n then s.turnOffUnknown n else (s.creditTurnOff n).dropOdet n |>.dropCdet n
  let s := (s.intoSafe n).tellClosed n
  let s := if s.isBridge n then s.unknownRec srcPoisEvent n (F.VDA_CHn_SERR_w n).addr else s
  s.reportAt srcPoisEvent n (F.VDA_CHn_SERR_w n).addr

/-- R184: a directory or instruction word failed its check. -/
def State.poisonStop (s : State) (n : Nat) : State := (s.noteError n 11).poisonOff n

/-! ### Starting programs (R168 to R170) -/

/-- Word address in the store of channel n's group. -/
def storeAddr (n w : Nat) : Nat := 0x4000 + 0x400 * (n / 8) + w

/-- What reading a slot gives. -/
inductive SlotRead where
  | start (pc : Nat)
  | invalid
  | poisoned
deriving DecidableEq, Repr

/-- Read the directory word of a slot (R167, R184). -/
def State.readSlot (s : State) (n slot : Nat) : SlotRead × State :=
  if slot = 0 || slot ≥ 64 then (.invalid, s)
  else
    let (w, p, s) := s.sramRead (storeAddr n slot) reqSeq
    if p then (.poisoned, s)
    else if bitOf w.toNat 15 && bitsOf w.toNat 9 0 ≥ 64 then (.start (bitsOf w.toNat 9 0), s)
    else (.invalid, s)

/-- Begin a program of kind `k` at `pc` in the state of R170. Its first slot is one that begins after this core clock (R172);
its target is at or below the continuous rating, which ends a limit (R155). -/
def State.beginProgram (s : State) (n k slot pc : Nat) (recovery : Bool) : State :=
  let hold := s.chSt n = stHold
  let s := if k = kOpen then s.dropCdet n else s.dropOdet n
  let s := if k = kOpen then s.setFld (F.VDA_CHn_LAT_ORES n) 0 else (s.dropCdet n).setFld (F.VDA_CHn_LAT_CRES n) 0
  let s := s.setChSt n (if k = kOpen then stPull else stClosing)
  let it : Int := if hold then s.fld (F.VDA_CHn_HOLD_HOLDACT n) * 1000 else 0
  let s := ((s.setFld (F.VDA_CHn_SEQ_PC n) pc).setFld (F.VDA_CHn_SEQ_SLOT n) slot).setFlag (F.VDA_CHn_SEQ_POL n) false
  let s := (s.setFlag (F.VDA_CHn_SEQ_DEC n) (s.flag (F.VDA_CHn_CFG_DEFDEC n))).setFlag (F.VDA_CHn_SEQ_WMET n) false
  let s := (s.setFlag (F.VDA_CHn_SEQ_RUNNING n) true).setFld (F.VDA_CHn_SEQ_KIND n) k
  let s := s.setFld (F.VDA_CHn_SEQ_OP n) (bitsOf (s.sramData (storeAddr n pc)).1.toNat 39 36)
  let s := s.setFld (F.VDA_CHn_SEQ_TGT n) (it / 1000).toNat
  let r := s.fld (F.VDA_Gg_SEQ_RUN (n / 8))
  let s := s.setFld (F.VDA_Gg_SEQ_RUN (n / 8)) (setBits r (n % 8) (n % 8) 1)
  s.modValve n (fun v => { v with
    started := s.clk.cc, slotAt := some s.clk.cc, driven := none, icount := 0, it := it, goal := 0, ramp := 0, holding := false
    s := 0, wait := none, revFrom := none, decay := none, recovery := recovery, toSafe := v.toSafe && k != kOpen
    limited := false
    offFrom := none, meas := v.meas.map MeasSt.spoil, lowRun := 0 })

/-- R169 for SAFE: the pair turns off directly with its latched state unknown; SAFE, or OFF after a recovery.
(log 26: DESIGN CHOICE, unsafe.) -/
def State.safeInvalid (s : State) (n why : Nat) (recovery : Bool) : State :=
  let s := (s.noteError n 10).turnOffUnknown n
  let s := s.unknownRec why n (faultAddr why n)
  let s := if recovery then s.enterOff n else s.setChSt n stSafe
  s.report srcShapeErr n

/-- Run SAFEPROG: on entry to SAFE, or as a recovery (R164, R183). `why` is the source whose report led there. -/
def State.startSafe (s : State) (n why : Nat) (recovery : Bool) : State :=
  match s.readSlot n (s.fld (F.VDA_CHn_PROG_SAFEPROG n)) with
  | (.start pc, s) =>
    let slot := s.fld (F.VDA_CHn_PROG_SAFEPROG n)
    (s.beginProgram n kSafe slot pc recovery).modValve n (fun v => { v with why := why })
  | (.invalid, s) => s.safeInvalid n why recovery
  | (.poisoned, s) => s.poisonStop n

/-- A CLOSE issued to the drive starts the close program (R156, R169). `prog` 0 names CLOSEPROG. Of an invalid slot and a
poisoned word in one slot, code 10 is recorded and both are reported (R182, R184). -/
def State.startClose (s : State) (n prog : Nat) : State :=
  let dflt := s.fld (F.VDA_CHn_PROG_CLOSEPROG n)
  let slot := if prog = 0 then dflt else prog
  match s.readSlot n slot with
  | (.start pc, s) => s.beginProgram n kClose slot pc false
  | (.poisoned, s) => s.poisonStop n
  | (.invalid, s) =>
    let s := (s.noteError n 10).report srcShapeErr n
    match s.readSlot n dflt with
    | (.start pc, s) => s.beginProgram n kClose dflt pc false
    | (.poisoned, s) => s.poisonOff n
    | (.invalid, s) => s.turnOff n

/-- An OPEN issued to the drive starts the open program (R156, R169). `prog` 0 names OPENPROG. -/
def State.startOpen (s : State) (n prog : Nat) : State :=
  let slot := if prog = 0 then s.fld (F.VDA_CHn_PROG_OPENPROG n) else prog
  match s.readSlot n slot with
  | (.start pc, s) => s.beginProgram n kOpen slot pc false
  | (.poisoned, s) => s.poisonStop n
  | (.invalid, s) => ((s.noteError n 10).tellClosed n).report srcShapeErr n

/-! ### Program errors (R182, R183) -/

/-- What follows a program error with code 1 to 9, by the program that failed (R183). A close detection goes on after an
error in a close program, unless the channel enters SAFE (R159). -/
def State.afterError (s : State) (n : Nat) : State :=
  let k := s.fld (F.VDA_CHn_SEQ_KIND n)
  let v := s.valve n
  if k = kOpen then
    if s.isBridge n then ((s.tellClosed n).dropOdet n).startSafe n srcShapeErr true
    else (s.turnOff n).tellClosed n
  else
    let safe := (k = kSafe && !v.recovery) || v.toSafe
    if s.isBridge n then
      let s := if safe then s.turnOffUnknown n else (s.dropOdet n).loseState n
      let s := s.unknownRec srcShapeErr n (faultAddr srcShapeErr n)
      if safe then s.setChSt n stSafe else (s.enterOff n).coast n
    else if safe then s.turnOff n
    else (((s.creditTurnOff n).stopProgram n).enterOff n).coast n

/-- A program error (R182): flagged, counted, reported, and acted on. -/
def State.progError (s : State) (n code : Nat) : State := ((s.noteError n code).report srcShapeErr n).afterError n

/-! ### SAFE (R164) -/

/-- Entry to SAFE for the latched source `why`. (log 22: DEDUCED, unsafe.) -/
def State.enterSafe (s : State) (ch why : Nat) : State :=
  let n := s.govern ch
  let st := s.chSt n
  if st = stSafe then s
  else
    let s := s.tellClosed n
    if !s.isBridge n then
      let s := ((s.creditTurnOff n).dropOdet n).dropCdet n
      s.intoSafe n
    else if why = srcOverCur || why = srcCoilShort || (srcGroupUv ≤ why && why ≤ srcGroupOt) then
      let s := (s.turnOffUnknown n).setChSt n stSafe
      s.unknownRec why n (faultAddr why (if srcGroupUv ≤ why && why ≤ srcGroupOt then n / 8 else n))
    else if st = stClosing then s.modValve n (fun v => { v with toSafe := true, recovery := false })
    else if st = stOff then (s.dropCdet n).intoSafe n
    else s.startSafe n why false

/-- Whether a latched instance names the channel: those of the sources with instances V0 to V47, of 09h, and of its
group in 0Fh to 11h (R164). -/
def State.safeNamed (s : State) (n : Nat) : Bool :=
  [srcPoisEvent, srcOverCur, srcCoilShort, srcOpenLoad, srcNoMove, srcShapeErr, srcCoilHot, srcLatBand].any
      (fun x => s.isLatched x n) ||
    [srcGroupUv, srcGroupOv, srcGroupOt].any (fun x => s.isLatched x (n / 8))

/-- SAFECLR = 1 (R164): leave SAFE for OFF when no latched instance names the channel. -/
def State.safeClr (s : State) (ch : Nat) : State :=
  let n := s.govern ch
  if s.chSt n = stSafe && !s.safeNamed n then s.enterOff n else s

/-! ### Latency learning (R197 to R199) -/

/-- Show an estimate in its register, rounded to the nearest µs (R197). -/
def State.showLatency (s : State) (n : Nat) : State :=
  (s.setFldI (F.VDA_CHn_LRN_LOPEN n) (roundAway (s.valve n).lo 256)).setFldI (F.VDA_CHn_LRN_LCLOSE n)
    (roundAway (s.valve n).lc 256)

/-- Judge an estimate against the host band: leaving it sets the flag and reports once (R199). -/
def State.judgeBand (s : State) (n : Nat) (open_ : Bool) : State :=
  let v := s.valve n
  let e := if open_ then v.lo else v.lc
  let out := s.usedLatency n open_ != e
  let was := if open_ then v.outO else v.outC
  let s := s.setValve n (if open_ then { v with outO := out } else { v with outC := out })
  if out && !was then
    (s.raise (if open_ then F.VDA_CHn_LSTAT_OOOB n else F.VDA_CHn_LSTAT_COOB n)).report srcLatBand n
  else s

/-- A MOVED result of `lat` µs reaches the learner (R197, R198). (log 20: DEDUCED, unsafe.) -/
def State.learn (s : State) (n : Nat) (open_ : Bool) (lat : Nat) : State :=
  if s.flag (F.VDA_CHn_LRN_FRZ n) then s
  else
    let v := s.valve n
    let cntF := if open_ then F.VDA_CHn_LSTAT_NO n else F.VDA_CHn_LSTAT_NC n
    let e := if open_ then v.lo else v.lc
    let cnt := s.fld cntF
    let g := max 1 (s.fld (F.VDA_CHn_LRN_GAIN n))
    let x := lat * 256
    let d : Int := (x : Int) - e
    let put := fun (s : State) (e : Nat) (r : Nat) =>
      s.modValve n (fun v => if open_ then { v with lo := e, rejO := r } else { v with lc := e, rejC := r })
    let rej := if open_ then v.rejO else v.rejC
    let s :=
      if cnt = 0 then (put s x 0).setFld cntF 1
      else if d.natAbs > s.fld (F.VDA_CHn_LOUT_OUTL n) * 256 then
        let s := s.inc (F.VDA_CHn_LSTAT_REJ n)
        if rej + 1 ≥ 3 then (put s x 0).setFld cntF 1 else put s e (rej + 1)
      else
        let den := if cnt < 2 ^ g then cnt + 1 else 2 ^ g
        (put s ((e : Int) + truncDiv d den).toNat 0).inc cntF
    ((s.showLatency n).mark (if open_ then F.VDA_CHn_LRN_LOPEN n else F.VDA_CHn_LRN_LCLOSE n)).judgeBand n open_

/-! ### Results of detection (R158 to R160) -/

/-- Write an open result (1 MOVED, 2 NOMOVE, 3 MASKED) and pass it on: the learner takes a MOVED latency, metering
starts credit, a NOMOVE is counted and reported. -/
def State.openResult (s : State) (n res lat start : Nat) : State :=
  let s := s.setFld (F.VDA_CHn_LAT_ORES n) res
  let s := s.modValve n (fun v => { v with odet := none })
  let s := s.modValve n (fun v => { v with meas := v.meas.map MeasSt.spoil })
  if res = 1 then
    let s := s.setFld (F.VDA_CHn_LAT_OLAT n) lat
    (s.creditOpen n (start + usClocks lat) false).learn n true lat
  else
    let s := s.creditOpen n (start + s.closeLatCc n true) true
    if res = 2 then (s.inc (F.VDA_CHn_STAT_NOMOVE n)).report srcNoMove n else s

/-- Write a close result and pass it on. -/
def State.closeResult (s : State) (n res lat start : Nat) : State :=
  let s := s.setFld (F.VDA_CHn_LAT_CRES n) res
  let s := s.modValve n (fun v => { v with cdet := none })
  if res = 1 then
    let s := s.setFld (F.VDA_CHn_LAT_CLAT n) lat
    let s := if (s.valve n).unknown then s else s.creditClose n (start + usClocks lat) false
    s.learn n false lat
  else
    let s := if (s.valve n).unknown then s else s.creditClose n (start + s.closeLatCc n false) true
    if res = 2 then (s.inc (F.VDA_CHn_STAT_NOMOVE n)).report srcNoMove n else s

/-! ### Samples (R150, R155, R158, R159, R177, R191) -/

/-- A time in core clocks as µs, in the free direction where it is not whole (OLAT and CLAT are in µs). -/
def ccToUs (c : Nat) : Nat := (freeRound 20 ((c : Int) * 10 ^ 6) (2 ^ 27)).toNat

/-- One sample of |CUR| = `a` at core clock `c` into a detection (R158, R159). -/
def DetSt.sample (d : DetSt) (thr wstart wend a c : Nat) : DetSt :=
  if d.res.isSome || c < d.start then d
  else
    let t := c - d.start
    let low := !d.peak && a < 10
    if t > msClocks wend then { d with res := some (2, 0) }
    else if low then { d with res := some (2, 0) }
    else if t < usClocks (wstart * 100) then d
    else
      let (m, tm) := match d.ext with
        | none => (a, t)
        | some (m, tm) => if (d.peak && a > m) || (!d.peak && a < m) then (a, t) else (m, tm)
      let beyond := if d.peak then a + thr < m else a > m + thr
      let run := if beyond then d.run + 1 else 0
      { d with ext := some (m, tm), run := run, res := if run ≥ 3 then some (1, tm) else none }

/-- Add to the sum and count at window `k`. -/
def addWindow : List (Int × Nat) → Nat → Int → List (Int × Nat)
  | [], 0, x => [(x, 1)]
  | [], k + 1, x => (0, 0) :: addWindow [] k x
  | (a, n) :: m, 0, x => (a + x, n + 1) :: m
  | p :: m, k + 1, x => p :: addWindow m k x

/-- RWIN in µs per window (Table 8-4; 0 acts as 1). -/
def State.rwinUs (s : State) (n : Nat) : Nat := max 1 (s.fld (F.VDA_CHn_RW_RWIN n)) * 8

/-- One sample of channel `n`: time runs to its instant, CUR and VDRV show it, and everything that watches samples
takes it. (log 155: DESIGN CHOICE, safe.) -/
def State.feedOne (s : State) (n : Nat) (x : Sample) : State :=
  let v := s.valve n
  let s := s.advCcTo (frameCc v.sampleAt)
  let c := frameCc v.sampleAt
  let cur := if s.pairKind n = 1 then clampI (-16384) 16383 x.cur else clampI (-8192) 8191 x.cur
  let s := s.setFldI (F.VDA_CHn_CUR_CUR n) cur
  let s := s.setFld (F.VDA_Gg_STAT_VDRV (n / 8)) (min 65535 x.vdrv)
  let a := cur.natAbs
  let thr := s.fld (F.VDA_CHn_DET_DIPTHR n)
  let ws := s.fld (F.VDA_CHn_DET_WSTART n)
  let we := s.fld (F.VDA_CHn_DET_WEND n)
  let high := a > s.contRating n
  let rw := s.rwinUs n
  s.setValve n { v with
    sampleAt := v.sampleAt + 8
    psum := v.psum + cur, pcnt := v.pcnt + 1, pmax := max v.pmax a, tripped := high && v.tripped, qsum := v.qsum + a * a, qcnt := v.qcnt + 1
    wait := v.wait.map (fun (w : WaitSt) => if c ≥ w.start then { w with charge := w.charge + a * 8 } else w)
    odet := v.odet.map (fun (d : DetSt) => d.sample thr ws we a c)
    cdet := v.cdet.map (fun (d : DetSt) => d.sample thr ws we a c)
    meas := v.meas.map (fun (m : MeasSt) =>
      let k := (c - m.start) * 10 ^ 6 / 2 ^ 27 / rw
      if c ≥ m.start && k < 3 then { m with sums := addWindow m.sums k cur, vs := x.vdrv :: m.vs } else m)
    overFrom := if high then (match v.overFrom with | none => some c | some y => some y) else none
    underFrom := if high then none else (match v.underFrom with | none => some c | some y => some y) }

/-- The first sample instant of channel `n` at or after `us` µs: slot n mod 8 of a frame of 8 µs (R150).
(log 23: DESIGN CHOICE, unsafe.) -/
def sampleInstant (n us : Nat) : Nat := us + (n % 8 + 8 - us % 8) % 8

/-- Feed samples in order, from instant `base` µs or the channel's next one, whichever is later. -/
def State.feedFrom (s : State) (n base : Nat) (xs : List Sample) : State :=
  let s := s.modValve n (fun v => { v with sampleAt := max v.sampleAt (sampleInstant n base) })
  xs.foldl (fun s x => s.feedOne n x) s

/-- Feed samples taken since the program's start. -/
def State.feed (s : State) (n : Nat) (xs : List Sample) : State := s.feedFrom n (usAt (s.valve n).started) xs

/-! ### Regulation (R151 to R155, R175, R189) -/

/-- Ta in °C. -/
def State.ambient (s : State) : Rat := (s.fldI F.VDA_TAMB_TAMB : Rat) / 16

/-- Resistance of the winding at temperature `tw`, in units of 10 mΩ (R188). -/
def rCu (r20 : Nat) (tw : Rat) : Rat := r20 * (1 + 393 / 100000 * (tw - 20))

/-- The resistance estimate r of R152, in units of 10 mΩ (R189). -/
def State.rEst (s : State) (n : Nat) : Rat :=
  let v := s.valve n
  let cab : Rat := s.fld (F.VDA_CHn_TLIM_RCAB n)
  if s.flag (F.VDA_CHn_TH_EN n) then rCu (s.fld (F.VDA_CHn_TLIM_R20 n)) (v.tw.getD s.ambient) + cab
  else match v.rmLast with
    | some r => (r : Rat) + cab
    | none => (s.fld (F.VDA_CHn_TLIM_R20 n) : Rat) + cab

/-- The thermal cap in mA (Table 8-1; the continuous rating with EN = 0, R189). (log 86: DEDUCED, unsafe.) -/
def State.thermalCap (s : State) (n : Nat) : Nat :=
  let h := s.fld (F.VDA_CHn_HOLD_HOLD n)
  if !s.flag (F.VDA_CHn_TH_EN n) then s.contRating n
  else match s.fld (F.VDA_CHn_TH_STAGE n) with
    | 0 => s.contRating n
    | 1 => (roundAway (h * 7) 10).toNat
    | 2 => (roundAway (h * 5) 10).toNat
    | _ => 0

/-- The duty of R152 for the present target, integrator and supply. -/
def State.dutyFor (s : State) (n : Nat) : Nat :=
  let v := max 1000 (s.fld (F.VDA_Gg_STAT_VDRV (n / 8)))
  let q : Rat := 1024 * ((s.valve n).it : Rat) / 1000 * s.rEst n / (100 * v : Nat)
  (clampI 0 1024 (roundAway q.num q.den + (s.valve n).s)).toNat

/-- Whether fast decay is in force (R178). -/
def State.fastDecay (s : State) (n : Nat) : Bool := (s.valve n).decay.getD (s.flag (F.VDA_CHn_CFG_DEFDEC n))

/-- The period from core clock `c0` to `c1` at the duty in force: what it masks (R158, R159, R192). -/
def State.maskPeriod (s : State) (n c0 c1 : Nat) : State :=
  let d := s.fld (F.VDA_CHn_CUR_DUTY n)
  let ws := s.fld (F.VDA_CHn_DET_WSTART n)
  let we := s.fld (F.VDA_CHn_DET_WEND n)
  let fast := s.fastDecay n
  let rw := s.rwinUs n
  s.modValve n (fun v => { v with
    odet := v.odet.map (fun (x : DetSt) => x.mask (decide (d < 1024)) c0 c1 ws we)
    cdet := v.cdet.map (fun (x : DetSt) => x.mask (if x.peak then decide (d < 1024) else fast) c0 c1 ws we)
    meas := v.meas.map (fun (m : MeasSt) => if d < 1024 && c0 < m.start + usClocks (3 * rw) then { m with bad := true } else m) })

/-- Set the duty for the period from core clock `c0` to `c1` (R152). -/
def State.setDuty (s : State) (n c0 c1 : Nat) : State :=
  (s.setFld (F.VDA_CHn_CUR_DUTY n) (if (s.valve n).revFrom.isSome then 0 else s.dutyFor n)).maskPeriod n c0 c1

/-- Show the present target in VDA_CHn_SEQ.TGT. -/
def State.showTgt (s : State) (n : Nat) : State :=
  s.setFld (F.VDA_CHn_SEQ_TGT n) (freeRound 21 (s.valve n).it 1000).toNat

/-- The peak budget at a capture edge or a DRIVE (R155): after 50 ms of excess, or where an excursion starts before 450 ms have
passed at or below the rating, the limit starts to apply; it holds until the program's target is at or below the rating.
(log 27: DEDUCED, unsafe.) -/
def State.judgePeak (s : State) (n : Nat) : State :=
  let v := s.valve n
  let r : Int := s.contRating n * 1000
  let above := decide ((v.goal : Int) * 1000 > r)
  let trip := !v.tripped && (match v.overFrom with
    | some c => decide (s.clk.cc ≥ c + msClocks 50)
    | none => false)
  let rested := match v.underFrom with
    | some c => decide (s.clk.cc ≥ c + msClocks 450)
    | none => false
  let v := { v with spent := v.spent && !rested, tripped := v.tripped || trip }
  if v.limited then s.setValve n { v with limited := above, it := if above then min r v.it else v.it }
  else if trip || (v.spent && decide (v.it > r)) then
    (s.setValve n { v with limited := above, spent := true, it := min r v.it }).inc (F.VDA_CHn_STAT_PEAKCUT n)
  else s.setValve n v

end Sys2Proof.Machine
end

