-- ==== Sys2Proof/Machine/Control.lean ====
section
/-! DEFINITION. The control engine: stages, measurements, set-points, the matrix law, outputs, supervisors, injection
and trace buffers (chapters 9 and 10, with the inputs and outputs of chapter 22). Signals are integers in units of
2^-24 (Q15.24), coefficients in units of 2^-34 (Q5.34). -/

namespace Sys2Proof.Machine

open Sys2Proof

/-! ### Arithmetic (R213) -/

/-- num / den (den > 0) rounded to the nearest integer, ties to even. -/
def rne (num : Int) (den : Nat) : Int :=
  let q := num / (den : Int)
  let r := 2 * (num % (den : Int))
  if r < den then q else if r > den then q + 1 else if q % 2 = 0 then q else q + 1

/-- The magnitude of a 40-bit field. -/
def State.mag (s : State) (f : Fld) : Int := (s.fldI f).natAbs

/-! ### Stages (Tables 9-1 and 9-5) -/

def csOff : Nat := 0
def csStart : Nat := 1
def csRun : Nat := 2
def csHeld : Nat := 3
def csFrozen : Nat := 4

def State.stg (s : State) (k : Nat) : StageSt := spGet (fun _ => {}) s.ctl.stages k
def State.modStg (s : State) (k : Nat) (f : StageSt → StageSt) : State :=
  { s with ctl := { s.ctl with stages := spSet (fun _ => {}) s.ctl.stages k (f (s.stg k)) } }

/-- STATE of a stage. -/
def State.cst (s : State) (k : Nat) : Nat := s.fld (F.CTL_x_STAT_STATE k)
def State.ns (s : State) (k : Nat) : Nat := clampN 1 8 (s.fld (F.CTL_x_CFG_NS k))
def State.nm (s : State) (k : Nat) : Nat := clampN 1 4 (s.fld (F.CTL_x_CFG_NM k))
def State.no (s : State) (k : Nat) : Nat := clampN 1 2 (s.fld (F.CTL_x_CFG_NO k))

/-- N of the outer stage, 0 acting as 256; 1 on the others. -/
def State.divN (s : State) (k : Nat) : Nat :=
  if k = 0 then (let n := s.fld (F.CTL_x_CFG_N 0); if n = 0 then 256 else n) else 1

/-- Whether stage `k` has a sample at this strobe (R203). -/
def State.sampleOf (s : State) (k : Nat) : Bool := s.now / 256 % s.divN k == 0

/-- Whether the mode lets stage `k` run (R222); with LAFOLLOW = 1 the LA stages run on the active head only (R318,
R320). (log 44: DEDUCED, unsafe.) -/
def State.modeRuns (s : State) (k : Nat) : Bool :=
  let m := s.modeNow
  if k ≤ 1 && s.flag F.SYS_HEAD_CFG_LAFOLLOW && s.fld F.SYS_ROLE_ROLE ≠ 1 then false
  else if m = modeBoot || m = modeDormant then false
  else if m = modeHold then k != 0
  else if m = modeLimp then s.flag (F.CTL_x_CFG_LIMPRUN k)
  else true

/-- DEST of output `j` of stage `k`, invalid codes and outputs not used acting as 0 (Table 9-3). -/
def State.destOf (s : State) (k j : Nat) : Nat :=
  let d := s.fld (F.CTL_x_UDk_DEST k j)
  if j ≥ s.no k then 0 else if d ≤ 4 then d else if d = 5 && k = 0 && j = 0 then 5 else 0

/-- Whether stage `k` is in START, RUN, FROZEN or HELD. -/
def State.stageOn (s : State) (k : Nat) : Bool := 1 ≤ s.cst k && s.cst k ≤ 4

/-- Whether LA is cascaded: the outer stage feeds the inner set-point and is not OFF. (log 39: DEDUCED, unsafe.) -/
def State.cascaded (s : State) : Bool := s.destOf 0 0 == 5 && s.stageOn 0

/-- Whether a stage that is on drives AO or PW destination `d` (R216). -/
def State.drives (s : State) (k d : Nat) : Bool :=
  s.stageOn k && 1 ≤ d && d ≤ 4 && (List.range 2).any (fun j => s.destOf k j == d)

/-- Whether some stage that is on drives destination `d`. -/
def State.driven (s : State) (d : Nat) : Bool := (List.range 3).any (fun k => s.drives k d)

/-! ### Output latches (R442 to R444) -/

/-- The raw value last driven on AO0, AO1, PW0, PW1 (1 to 4). -/
def State.outRaw (s : State) (d : Nat) : Nat := spGet (fun _ => 0) s.ctl.out d

/-- Set an output latch within its range (Table 9-3). -/
def State.setOut (s : State) (d : Nat) (raw : Int) : State :=
  let v := (clampI 0 (if d ≤ 2 then 65535 else 1024) raw).toNat
  { s with ctl := { s.ctl with out := spSet (fun _ => 0) s.ctl.out d v } }

/-- A stage that is OFF drives SAFE raw to each destination that no running stage drives (R216).
(log 38: DEDUCED, unsafe.) -/
def State.driveSafe (s : State) (k : Nat) : State :=
  (List.range 2).foldl (fun s j =>
    let d := s.destOf k j
    if 1 ≤ d && d ≤ 4 && !s.driven d then s.setOut d (s.fld (F.CTL_x_UDk_SAFE k j)) else s) s

/-! ### Trace events, injection ends, and leaving states -/

def State.trc (s : State) (b : Nat) : TraceSt := spGet (fun _ => {}) s.ctl.trc b
def State.setTrc (s : State) (b : Nat) (t : TraceSt) : State :=
  { s with ctl := { s.ctl with trc := spSet (fun _ => {}) s.ctl.trc b t } }

def trIdle : Nat := 0
def trArmed : Nat := 1
def trTriggered : Nat := 2
def trDone : Nat := 3

/-- An event that armed buffers with TMODE `m` take at their next row (R235, Table 10-3). -/
def State.traceEvent (s : State) (m : Nat) : State :=
  (List.range 2).foldl (fun s b =>
    if s.fld (F.CTL_TRCb_STAT_STATE b) = trArmed && s.fld (F.CTL_TRCb_CFG_TMODE b) = m then
      s.setTrc b { s.trc b with pend := true } else s) s

/-- The stage of the running injection; 3 when none runs. -/
def State.injStage (s : State) : Nat :=
  if s.flag F.CTL_INJ_STAT_RUN then bitsOf s.ctl.inj.cfg.toNat 11 10 else 3

/-- The injection ends early (R242). -/
def State.abortInj (s : State) : State :=
  if s.flag F.CTL_INJ_STAT_RUN then (s.setFlag F.CTL_INJ_STAT_RUN false).raise F.CTL_INJ_STAT_ABORT else s

/-- Stage `k` leaves RUN or FROZEN. -/
def State.leaveRun (s : State) (k : Nat) : State :=
  let s := if s.injStage = k then s.abortInj else s
  if k = 2 then s.setFld F.CTL_FE_STAT_CNT 0 else s

/-- Stage `k` goes OFF. (log 36: DEDUCED, unsafe.) -/
def State.stageOff (s : State) (k : Nat) : State :=
  if s.cst k = csOff then s
  else ((s.leaveRun k).setFld (F.CTL_x_STAT_STATE k) csOff).modStg k (fun _ => {})

/-- Stage `k` enters HELD, from the present sample on. -/
def State.holdStage (s : State) (k : Nat) : State :=
  let s := s.modStg k (fun x => { x with ph := 0 })
  if s.cst k = csHeld || s.cst k = csOff then s
  else ((s.leaveRun k).setFld (F.CTL_x_STAT_STATE k) csHeld).traceEvent 6

/-- Stages whose mode no longer lets them run go OFF (R222); leaving COMMISSION ends an injection (R242).
(log 36: DEDUCED, unsafe.) -/
def State.stagesForMode (s : State) : State :=
  let s := if s.modeNow = modeCommission then s else s.abortInj
  (List.range 3).foldl (fun s k => if s.modeRuns k then s else s.stageOff k) s

/-- R224: a word found poisoned holds the stage, and in a cascade the other LA stage with it. -/
def State.poisonStage (s : State) (k : Nat) : State :=
  let cas := s.cascaded
  let s := ((s.raise (F.CTL_x_STAT_POIS k)).report srcPoisCoef k).holdStage k
  if cas && k ≤ 1 then s.holdStage (1 - k) else s

/-! ### Reads of the engine's SRAM words (R218, R224) -/

/-- Store the coefficient writes of the sample that complete before its next fetch, or, at its end, all (R226). -/
def State.midWrites (s : State) (all : Bool) : State :=
  let due := fun (w : CoefWrite) => all || decide (w.begun ≤ s.ctl.fetches)
  let t := (s.ctl.mid.takeWhile due).foldl (fun (s : State) w => s.sramWrite (F.CTL_x_Mr_c_w w.k w.r w.c).addr w.v) s
  { t with ctl := { t.ctl with mid := t.ctl.mid.dropWhile due } }

/-- Before a read of a word: a coefficient is fetched at its place, with the writes that have completed (R226). -/
def State.beforeFetch (s : State) (a : Nat) : State :=
  if (regAt a).any (fun r => r.reg == .CTL_x_Mr_c) then
    let s := s.midWrites false
    { s with ctl := { s.ctl with fetches := s.ctl.fetches + 1 } }
  else s

/-- Read words in order as signed integers; none at the first one that is poisoned. -/
def State.readWords : List Nat → State → Option (List Int) × State
  | [], s => (some [], s)
  | a :: as, s =>
    let (w, p, s) := (s.beforeFetch a).sramRead a reqCtl
    if p then (none, s)
    else
      match State.readWords as s with
      | (some xs, s) => (some (sx 40 w.toNat :: xs), s)
      | (none, s) => (none, s)

/-- Saturate a signal to Q15.24 in stage `k`, counting a saturation (R213). -/
def State.satSig (s : State) (k : Nat) (x : Int) : Int × State :=
  let y := satS 40 x
  (y, if y = x then s else (s.inc (F.CTL_x_STAT_ASATCNT k)).raise (F.CTL_x_STAT_ASAT k))

/-! ### Flowmeters and measurements (R204 to R206, R438 to R441) -/

def State.fpOf (s : State) (k : Nat) : FpSt := spGet (fun _ => {}) s.ctl.fp k

/-- The rate of FPk in units of 2^-8 pulse/s (R441). (log 45: DESIGN CHOICE, safe.) -/
def State.fpRate (s : State) (k : Nat) : Int :=
  let ts := (s.fpOf k).stamps.filter (fun t => s.clk.cc - t ≤ secClocks 10)
  match ts, ts.getLast? with
  | t0 :: _ :: _, some t1 =>
    let span := t0 - t1
    let gap := s.clk.cc - t0
    if span = 0 then 0
    else
      let r := freeRound 30 (256 * (ts.length - 1 : Nat) * (2 ^ 27 : Nat)) span
      if gap > span then min r (freeRound 31 (256 * (2 ^ 27 : Nat)) gap) else r
  | _, _ => 0

/-- The code of AIk at the last strobe. -/
def State.aiCode (s : State) (k : Nat) : Nat := s.ctl.ai.getD k 0

/-- Whether AIk is invalid at the last strobe (R439). -/
def State.aiInvalid (s : State) (k : Nat) : Bool :=
  if bitOf s.ctl.aiMode k then s.aiCode k < 9830 || s.aiCode k > 57343 else s.aiCode k > 60074

/-- The raw value of source `src` for stage `k`, and whether it is invalid (Table 9-2). -/
def State.rawOf (s : State) (k src : Nat) : Int × Bool :=
  if 1 ≤ src && src ≤ 8 then (s.aiCode (src - 1), s.aiInvalid (src - 1))
  else if src = 9 || src = 10 then (s.fpRate (src - 9), false)
  else if src = 11 || src = 12 then
    (((s.fpOf (src - 11)).count : Int) - ((s.stg k).base.getD (src - 11) 0 : Nat), false)
  else if src = 13 then (s.fldI F.TRV_SPEED_SPEED, s.flag F.TRV_STAT_LOST)
  else (0, false)

/-- The sine series, term by term from `t` = ± x^n / n!. (log 45: DESIGN CHOICE, safe.) -/
def sinSeries : Nat → Nat → Rat → Rat → Rat
  | 0, _, _, _ => 0
  | f + 1, n, x2, t => t + sinSeries f (n + 2) x2 (- t * x2 / ((n + 1) * (n + 2) : Nat))

/-- sin(2π p / 2^32), within 10^-15. -/
def sinTurn (p : Nat) : Rat :=
  let q := p % 2 ^ 32
  let (q, neg) := if q ≥ 2 ^ 31 then (q - 2 ^ 31, true) else (q, false)
  let q := if q > 2 ^ 30 then 2 ^ 31 - q else q
  let x : Rat := ((q * 314159265358979323846 * 2 : Nat) : Rat) / ((10 ^ 20 * 2 ^ 32 : Nat) : Rat)
  let v := sinSeries 12 1 (x * x) x
  if neg then -v else v

/-- The tap k of the PRBS polynomial and its length n (R240). -/
def prbsTaps (ord : Nat) : Nat × Nat :=
  match ord with
  | 0 => (7, 6)
  | 1 => (9, 5)
  | 2 => (11, 9)
  | _ => (15, 14)

/-- The injected value of the running injection at its sample `m`, and the injection after it (R240). The sine is free
within 2^-20 of its value. -/
def State.injValue (s : State) (k m : Nat) : Int × State :=
  let j := s.ctl.inj
  let typ := bitsOf j.cfg.toNat 5 4
  if typ = 0 then (j.amp, s)
  else if typ = 1 then
    let (n, t) := prbsTaps (bitsOf j.cfg.toNat 3 2)
    let bl := bitsOf j.cfg.toNat 19 12
    let bl := if bl = 0 then 256 else bl
    let r := if m % bl = 0 then
        j.lfsr * 2 % 2 ^ n + b2n (xor (bitOf j.lfsr (n - 1)) (bitOf j.lfsr (t - 1))) else j.lfsr
    (if r % 2 = 1 then j.amp else -j.amp, { s with ctl := { s.ctl with inj := { j with lfsr := r } } })
  else
    let dur := max 1 j.dur
    let fs : Rat := (4096000 : Rat) / s.divN k
    let f : Rat := min ((j.f0 : Rat) + ((j.f1 : Rat) - j.f0) * m / dur) (fs / 2)
    let (e, s) := s.draw (2 ^ 21 + 1)
    let v : Rat := j.amp * (sinTurn j.phase + ((e : Int) - (2 ^ 20 : Nat) : Int) / ((2 ^ 40 : Nat) : Rat))
    let st : Rat := f / fs * (2 ^ 32 : Nat)
    let ph := wrapW 32 (j.phase + roundAway st.num st.den)
    (satS 40 (freeRound 32 v.num v.den),
      { s with ctl := { s.ctl with inj := { j with phase := ph } } })

/-- DUR in force: 0 runs until STOP, and acts as 1 for a chirp. -/
def InjSt.limit (j : InjSt) : Nat := if j.dur = 0 && bitOf j.cfg.toNat 5 && !bitOf j.cfg.toNat 4 then 1 else j.dur

/-- Advance the injection at a sample of stage `k` (R239, R240): v of this sample is kept and shown. -/
def State.injStep (s : State) (k : Nat) : State :=
  if s.injStage ≠ k then
    let s := s.modStg k (fun x => { x with v := 0 })
    if bitsOf s.ctl.inj.cfg.toNat 11 10 = k then s.setFld F.CTL_INJ_V_V 0 else s
  else
    let m := s.ctl.inj.m
    if s.ctl.inj.limit ≠ 0 && m ≥ s.ctl.inj.limit then
      let s := ((s.setFlag F.CTL_INJ_STAT_RUN false).raise F.CTL_INJ_STAT_DONE).setFld F.CTL_INJ_V_V 0
      let s := s.modStg k (fun x => { x with v := 0 })
      { s with ctl := { s.ctl with inj := { s.ctl.inj with ended := true } } }
    else
      let (v, s) := s.injValue k m
      let s := if m = 0 then s.traceEvent 5 else s
      let s : State := { s with ctl := { s.ctl with inj := { s.ctl.inj with m := m + 1 } } }
      ((s.inc F.CTL_INJ_STAT_M).setFldI F.CTL_INJ_V_V v).modStg k (fun x => { x with v := v })

/-- Whether the outer stage gives the inner one its set-point at this sample: a cascaded outer stage that computes its u0. -/
def State.outerFeeds (s : State) : Bool :=
  s.cascaded && s.sampleOf 0 && (s.stg 0).ph != 0 && (s.stg 0).ph != 4

/-- POINT of the injection, for stage `k`; 15 when none runs there. On the cascaded inner stage 1h acts as 0h. -/
def State.injPoint (s : State) (k : Nat) : Nat :=
  if s.injStage ≠ k then 15
  else
    let p := bitsOf s.ctl.inj.cfg.toNat 9 6
    if p = 1 && k = 1 && s.cascaded then 0 else p

/-- Conditioning of stage `k` (R205, R206): measurements are scaled, or an invalid one holds the stage. -/
def State.conditionY (s : State) (k : Nat) : State :=
  if (s.stg k).ph = 0 then s
  else
    let js := List.range (s.nm k)
    if js.any (fun j => (s.rawOf k (s.fld (F.CTL_x_MOj_SRC k j))).2) then
      ((s.raise (F.CTL_x_STAT_INFLT k)).report srcLoopIn k).holdStage k
    else
      let s := s.injStep k
      js.foldl (fun s j =>
        let raw := (s.rawOf k (s.fld (F.CTL_x_MOj_SRC k j))).1
        let p := rne ((raw - s.fldI (F.CTL_x_MOj_OFF k j)) * s.fldI (F.CTL_x_MGj_GAIN k j)) (2 ^ 10)
        let y := satS 40 p
        let s := if y = p then s else s.inc (F.CTL_x_STAT_ASATCNT k)
        let s := s.setFldI (F.CTL_x_Yj_Y k j) y
        let (y, s) := if s.injPoint k = 4 + j then s.satSig k (y + (s.stg k).v) else (y, s)
        s.modStg k (fun x => { x with y := (if j = 0 then [] else x.y) ++ [y] })) s

/-- The measurement PRIM of stage `k`. -/
def State.yPrim (s : State) (k : Nat) : Int := (s.stg k).y.getD (s.fld (F.CTL_x_CFG_PRIM k)) (s.fldI (F.CTL_x_Yj_Y k (s.fld (F.CTL_x_CFG_PRIM k))))

/-! ### State transitions at a sample (R217, R220 to R223) -/

/-- Enter START: the histories of the stage's supervisor clear, and pulse volumes count from here.
(log 37: DEDUCED, unsafe.) -/
def State.startStage (s : State) (k : Nat) : State :=
  let s := (s.leaveRun k).setFld (F.CTL_x_STAT_STATE k) csStart
  let s := s.modStg k (fun _ => { ph := 2, base := [(s.fpOf 0).count, (s.fpOf 1).count] })
  if k = 1 then ({ s with ctl := { s.ctl with sup := { fe := s.ctl.sup.fe } } } : State).setFld F.CTL_OSC_STAT_CROSS 0 else s

/-- What stage `k` does at this sample of its own. (log 37: DEDUCED, unsafe.) -/
def State.turnStage (s : State) (k : Nat) : State :=
  let en := s.flag (F.CTL_x_CFG_EN k)
  let st := s.cst k
  let set := fun (s : State) (c ph : Nat) => (s.setFld (F.CTL_x_STAT_STATE k) c).modStg k (fun x => { x with ph := ph })
  if !s.modeRuns k then (s.stageOff k).modStg k (fun x => { x with ph := 0 })
  else if st = csHeld then
    if en && (s.stg k).lowSeen then s.startStage k else s.modStg k (fun x => { x with ph := 0 })
  else if !en then (s.stageOff k).modStg k (fun x => { x with ph := 0 })
  else if st = csOff then
    if (List.range 2).any (fun j => s.driven (s.destOf k j)) then
      (s.raise (F.CTL_x_STAT_CFGERR k)).modStg k (fun x => { x with ph := 0 })
    else s.startStage k
  else if st = csFrozen then
    if s.flag (F.CTL_x_CFG_FREEZE k) then set s csFrozen 4 else set s csRun 3
  else if s.flag (F.CTL_x_CFG_FREEZE k) then set s csFrozen 4
  else set s csRun 1

/-! ### Set-points and feed-forward (R207 to R210) -/

/-- The Eddy feed-forward at this strobe (R210). (log 40: DESIGN CHOICE, safe.) -/
def State.eddyF (s : State) : Int :=
  match s.ctl.pk with
  | none => 0
  | some p =>
    let tpre := clampN 125 3000 (s.fld (F.CTL_x_FF_TPRE 1))
    let ago := dist s.now p
    let num := (List.range 24).foldl (fun a b =>
      let tau2 : Int := (2 * b + 1 : Nat) * (2 ^ 17 : Nat) - 2 * ago
      if 0 ≤ tau2 && tau2 * 1000 < 2 * tpre * (2 ^ 20 : Nat) then a + s.ctl.sum.getD b 0 else a) (0 : Int)
    rne (num * (2 ^ 24 : Nat)) tpre

/-- The working set-point and feed-forward of stage `k`. (log 35: DEDUCED, unsafe; log 39: DEDUCED, unsafe.) -/
def State.setpoint (s : State) (k : Nat) : State :=
  let ph := (s.stg k).ph
  if ph = 0 then s
  else
    let was := (s.stg k).tgtWas
    match State.readWords [(F.CTL_x_TGT_w k).addr, (F.CTL_x_WSP_w k).addr] s with
    | (some [t0, w0], s) =>
      let t0 := match was with
        | some (at_, old) => if at_ = s.now then sx 40 old.toNat else t0
        | none => t0
      let (t, s) := if s.injPoint k = 1 then s.satSig k (t0 + (s.stg k).v) else (t0, s)
      let t := if k = 2 && s.modeNow = modeHold then 0 else t
      let keep := k = 1 && (s.cascaded || s.modeNow = modeHold)
      let rate := s.mag (F.CTL_x_RATE_RATE k)
      let r := rate * s.divN k / 4096
      let w := if ph = 2 then s.yPrim k
        else if keep then w0
        else if rate = 0 then t
        else if t - w0 > r then w0 + r else if w0 - t > r then w0 - r else t
      let s := s.sramWrite (F.CTL_x_WSP_w k).addr (BitVec.ofInt 40 w)
      let ff := k ≠ 0 && s.flag (F.CTL_x_FF_FFEN k)
      let (f, s) := if !ff then ((0 : Int), s)
        else if k = 1 then s.satSig k s.eddyF
        else if ph = 2 then (0, s)
        else s.satSig k ((w - w0) * 4096)
      let (f, s) := if s.injPoint k = 8 then s.satSig k (f + (s.stg k).v) else (f, s)
      let s := s.setFldI (F.CTL_x_FVAL_F k) f
      let (wu, s) := if s.injPoint k = 0 && !(k = 1 && s.outerFeeds) then s.satSig k (w + (s.stg k).v) else (w, s)
      s.modStg k (fun x => { x with w := wu, f := f, tgt := t0 })
    | (_, s) => s.poisonStage k

/-! ### The law and outputs (R212 to R215) -/

/-- The state words of stage `k` for this sample, XINIT at START. -/
def State.loadStates (s : State) (k : Nat) : State :=
  let ph := (s.stg k).ph
  if ph = 0 then s
  else
    let as := (List.range (s.ns k)).map (fun i => if ph = 2 then (F.CTL_x_XINITi_w k i).addr else (F.CTL_x_Xi_w k i).addr)
    match State.readWords as s with
    | (some xs, s) => s.modStg k (fun x => { x with x := xs })
    | (none, s) => s.poisonStage k

/-- The used columns of stage `k`. -/
def State.usedCols (s : State) (k : Nat) : List Nat :=
  List.range (s.ns k) ++ (List.range (s.nm k)).map (8 + ·) ++ [12, 13]

/-- The inputs at the used columns. -/
def StageSt.inputs (x : StageSt) (nm : Nat) : List Int := x.x ++ x.y.take nm ++ [x.w, x.f]

/-- The exact sum of a row's products, in units of 2^-58; none when a coefficient is poisoned. -/
def State.rowSum (s : State) (k r : Nat) : Option Int × State :=
  match State.readWords ((s.usedCols k).map (fun c => (F.CTL_x_Mr_c_w k r c).addr)) s with
  | (some cs, s) => (some (((cs.zip ((s.stg k).inputs (s.nm k))).map (fun p => p.1 * p.2)).foldl (· + ·) 0), s)
  | (none, s) => (none, s)

/-- A row's result in Q15.24 (R213). -/
def State.rowVal (s : State) (k : Nat) (sum : Int) : Int × State := s.satSig k (rne sum (2 ^ 34))

/-- A coefficient as stored, without a fetch. -/
def State.coef (s : State) (k r c : Nat) : Int := s.fldI (F.CTL_x_Mr_c_COEF k r c)

/-- The integrators of stage `k` linked to output `j`, lowest first. -/
def State.integrators (s : State) (k j : Nat) : List Nat :=
  (List.range (s.ns k)).filter (fun i => bitOf (s.fld (F.CTL_x_CFG_INTMASK k)) i &&
    bitOf (s.fld (F.CTL_x_CFG_INTLNK k)) i == (j == 1))

/-- The present value of output `j` for R220: of an AO or PW the raw value mapped back, of DEST 5h the inner stage's
y_PRIM; where R220 names none, the held u on a release of FREEZE (R243), and free at START. (log 40: DESIGN CHOICE, safe.) -/
def State.presentOut (s : State) (k j : Nat) : Rat × State :=
  let d := s.destOf k j
  let g := s.fldI (F.CTL_x_UGAINk_UGAIN k j)
  if d = 5 then (s.yPrim 1, s)
  else if d = 0 || g = 0 then
    if (s.stg k).ph = 3 then (s.fldI (F.CTL_x_Uk_U k j), s)
    else
    let (x, s) := s.draw mod40
    ((sx 40 x : Rat), s)
  else ((((s.outRaw d : Int) - s.fldI (F.CTL_x_UDk_UOFF k j)) * (2 ^ 58 : Nat) : Rat) / g, s)

/-- Read the words that step 3 of R220 uses: for each output the integrators' coefficients of its row, and the whole row where
one of them is not 0. False when one is poisoned (R224). -/
def State.adjustReads (s : State) (k : Nat) : Bool × State :=
  (List.range (s.no k)).foldl (fun (a : Bool × State) j =>
    let row := fun (cs : List Nat) => cs.map (fun c => (F.CTL_x_Mr_c_w k (8 + j) c).addr)
    if !a.1 then a
    else
      match State.readWords (row (a.2.integrators k j)) a.2 with
      | (none, s) => (false, s)
      | (some xs, s) =>
        if xs.all (· == 0) then (true, s)
        else
          match State.readWords (row (s.usedCols k)) s with
          | (none, s) => (false, s)
          | (some _, s) => (true, s)) (true, s)

/-- Step 3 of R220: one integrator for each output is set so that the output equals its present value. -/
def State.adjustStates (s : State) (k : Nat) : State :=
  let pick := fun (j : Nat) => if j < s.no k then (s.integrators k j).find? (fun i => s.coef k (8 + j) i != 0) else none
  let sumW := fun (s : State) (j : Nat) (z : List Nat) =>
    (((s.usedCols k).zip ((s.stg k).inputs (s.nm k))).foldl (fun a p =>
      if z.contains p.1 then a else a + s.coef k (8 + j) p.1 * p.2) (0 : Int))
  let put := fun (s : State) (i : Nat) (v : Rat) =>
    s.modStg k (fun x => { x with x := x.x.set i (satS 40 (freeRound 33 v.num v.den)) })
  match pick 0, pick 1 with
  | none, none => s
  | some i, none =>
    let (t, s) := s.presentOut k 0
    put s i ((t * (2 ^ 34 : Nat) - sumW s 0 [i]) / s.coef k 8 i)
  | none, some i =>
    let (t, s) := s.presentOut k 1
    put s i ((t * (2 ^ 34 : Nat) - sumW s 1 [i]) / s.coef k 9 i)
  | some i0, some i1 =>
    let (t0, s) := s.presentOut k 0
    let (t1, s) := s.presentOut k 1
    let b0 : Rat := t0 * (2 ^ 34 : Nat) - sumW s 0 [i0, i1]
    let b1 : Rat := t1 * (2 ^ 34 : Nat) - sumW s 1 [i0, i1]
    let a00 : Rat := s.coef k 8 i0
    let a01 : Rat := s.coef k 8 i1
    let a10 : Rat := s.coef k 9 i0
    let a11 : Rat := s.coef k 9 i1
    let det := a00 * a11 - a01 * a10
    if det = 0 then
      let s := put s i0 ((t0 * (2 ^ 34 : Nat) - sumW s 0 [i0]) / a00)
      put s i1 ((t1 * (2 ^ 34 : Nat) - sumW s 1 [i1]) / a11)
    else put (put s i0 ((b0 * a11 - a01 * b1) / det)) i1 ((a00 * b1 - a10 * b0) / det)

/-- Step 3 of R220, which a poisoned word stops (R224). -/
def State.adjust (s : State) (k : Nat) : State :=
  match s.adjustReads k with
  | (true, s) => s.adjustStates k
  | (false, s) => s.poisonStage k

/-- Send a limited output to its destination (R215). -/
def State.sendOut (s : State) (k j : Nat) (u : Int) : State :=
  let d := s.destOf k j
  if d = 5 then
    if (s.stg 1).ph = 0 then s
    else
      let s := s.sramWrite (F.CTL_x_WSP_w 1).addr (BitVec.ofInt 40 u)
      let (wu, s) := if s.injPoint 1 = 0 then s.satSig 1 (u + (s.stg 1).v) else (u, s)
      s.modStg 1 (fun x => { x with w := wu })
  else if d = 0 then s
  else
    let raw := rne (u * s.fldI (F.CTL_x_UGAINk_UGAIN k j)) (2 ^ 58) + s.fldI (F.CTL_x_UDk_UOFF k j)
    if d ≥ 3 && s.flag (F.CTL_x_UDk_VFF k j) then
      let v := if d = 3 then s.fld F.CTL_VPW_VPW0 else s.fld F.CTL_VPW_VPW1
      if v = 0 then
        let (x, s) := s.draw 1025
        s.setOut d x
      else s.setOut d (rne (raw * s.fld F.CTL_VNOM_VNOM) v)
    else s.setOut d raw

/-- Compute, limit and send output `j` of stage `k`; `left` counts the products so far. (log 40: DESIGN CHOICE, safe.) -/
def State.computeOut (s : State) (k j : Nat) : State :=
  if (s.stg k).ph = 0 || (s.stg k).ph = 4 then s
  else
    match s.rowSum k (8 + j) with
    | (none, s) => s.poisonStage k
    | (some sum, s) =>
      let (u, s) := s.rowVal k sum
      let (u, s) := if s.injPoint k = 2 + j then s.satSig k (u + (s.stg k).v) else (u, s)
      let lo := s.fldI (F.CTL_x_UMINk_UMIN k j)
      let hi := s.fldI (F.CTL_x_UMAXk_UMAX k j)
      let (c, l, s) := if lo > hi then
          let (x, s) := s.draw mod40
          (sx 40 x, (if Config.roundUp 34 u 1 then (1 : Int) else -1), s)
        else if u > hi then (hi, 1, s) else if u < lo then (lo, -1, s) else (u, 0, s)
      let s := (s.setFldI (F.CTL_x_Uk_U k j) c).modStg k (fun x =>
        { x with u := (if j = 0 then [] else x.u) ++ [c], lim := (if j = 0 then [] else x.lim) ++ [l] })
      let s := s.setFlag (F.CTL_x_STAT_LIM k) ((s.stg k).lim.any (· != 0))
      s.sendOut k j c

/-- The products computed so far in steps 4 to 6, and those up to the last output that was sent; none when none was. -/
structure Products where
  done : Nat := 0
  sent : Nat := 0
deriving DecidableEq, Repr

/-- Steps 4 to 6 of R218 for stage `k`: the outputs, and the products computed: one for each fetch but a poisoned one (R219,
R224). -/
def State.stageOutputs (s : State) (k : Nat) (p : Products) : Products × State :=
  let ph := (s.stg k).ph
  if ph = 0 || ph = 4 then (p, if s.cst k = csOff then s.driveSafe k else s)
  else
    let s := if ph = 2 || ph = 3 then s.adjust k else s
    (List.range (s.no k)).foldl (fun (a : Products × State) j =>
      if (a.2.stg k).ph = 0 then a
      else
        let t := a.2.computeOut k j
        let n := a.1.done + (t.ctl.fetches - a.2.ctl.fetches) - b2n ((t.stg k).ph = 0)
        ({ done := n, sent := if (t.stg k).ph = 0 then a.1.sent else n }, t)) (p, s)

/-! ### State updates (R214) -/

/-- The next value of state `i` after the integrator clamps. -/
def State.clampState (s : State) (k i : Nat) (x x' : Int) : Option Int × State :=
  if !bitOf (s.fld (F.CTL_x_CFG_INTMASK k)) i then (some x', s)
  else
    let j := b2n (bitOf (s.fld (F.CTL_x_CFG_INTLNK k)) i)
    let l := (s.stg k).lim.getD j 0
    match State.readWords [(F.CTL_x_Mr_c_w k (8 + j) i).addr, (F.CTL_x_ILIMi_w k i).addr] s with
    | (some [c, lim], s) =>
      let push := (x' - x) * c
      let hold := (l > 0 && push > 0) || (l < 0 && push < 0)
      let s := if hold then s.inc (F.CTL_x_STAT_LIMCNT k) else s
      let y := if hold then x else x'
      let z := clampI (-(lim.natAbs : Int)) lim.natAbs y
      (some z, if z = y then s else s.inc (F.CTL_x_STAT_LIMCNT k))
    | (_, s) => (none, s)

/-- The state rows of stage `k`: the new states, none when a word is poisoned. -/
def State.nextStates (k : Nat) : List Nat → State → Option (List Int) × State
  | [], s => (some [], s)
  | i :: is, s =>
    let x := (s.stg k).x.getD i 0
    let frozenInt := (s.stg k).ph = 4 && bitOf (s.fld (F.CTL_x_CFG_INTMASK k)) i
    let (v, s) : Option Int × State :=
      if frozenInt then (some x, s)
      else match s.rowSum k i with
        | (none, s) => (none, s)
        | (some sum, s) =>
          let (y, s) := s.rowVal k sum
          s.clampState k i x y
    match v with
    | none => (none, s)
    | some y =>
      match State.nextStates k is s with
      | (some ys, s) => (some (y :: ys), s)
      | (none, s) => (none, s)

/-- Step 7 of R218 for stage `k`. -/
def State.updateStates (s : State) (k : Nat) : State :=
  if (s.stg k).ph = 0 then s
  else
    match State.nextStates k (List.range (s.ns k)) s with
    | (none, s) => s.poisonStage k
    | (some ys, s) =>
      (ys.zip (List.range 8)).foldl (fun s p => s.sramWrite (F.CTL_x_Xi_w k p.2).addr (BitVec.ofInt 40 p.1)) s

/-! ### Supervision (R228 to R232) -/

/-- LB writes SAFE raw to each of its destinations, then is HELD (Table 10-1). -/
def State.feSafe (s : State) : State :=
  let s := (List.range 2).foldl (fun s j =>
    let d := s.destOf 2 j
    if 1 ≤ d && d ≤ 4 then s.setOut d (s.fld (F.CTL_x_UDk_SAFE 2 j)) else s) s
  s.holdStage 2

/-- The following-error supervisor at an LB sample (R228, R229). (log 61: DEDUCED, unsafe.) -/
def State.superviseLb (s : State) : State :=
  let put := fun (s : State) (b : Bool) => { s with ctl := { s.ctl with sup := { s.ctl.sup with fe := b } } }
  let s := put s false
  let t := s.fld F.CTL_FE_CFG_FETIME
  if s.cst 2 = csFrozen then s
  else if s.cst 2 ≠ csRun || t = 0 then s.setFld F.CTL_FE_STAT_CNT 0
  else
    let e := (s.stg 2).w - s.yPrim 2
    if (e.natAbs : Int) > s.mag F.CTL_FE_LIM_FELIM then
      let c := s.fld F.CTL_FE_STAT_CNT + 1
      if c * 1000 ≥ t * 4096 then
        let s := ((s.raise F.CTL_FE_STAT_FEFLT).inc F.CTL_FE_STAT_FECNT).setFld F.CTL_FE_STAT_CNT 0
        let s := put ((s.report srcFollow 2).traceEvent 2) true
        match s.fld F.CTL_FE_CFG_FEACT with
        | 1 => s.holdStage 2
        | 2 => s.feSafe
        | _ => s
      else s.setFld F.CTL_FE_STAT_CNT c
    else s.setFld F.CTL_FE_STAT_CNT 0

/-- LAI enters HELD for a declaration, LAO with it when LA is cascaded (R232). -/
def State.holdLa (s : State) : State :=
  let c := s.cascaded
  let s := s.holdStage 1
  if c then s.holdStage 0 else s

/-- NCROSS in force. -/
def State.ncross (s : State) : Nat := let n := s.fld F.CTL_OSC_CFG_NCROSS; if n = 1 then 2 else n

/-- Hunting at an LAI sample in RUN (R230); true on a declaration. (log 61: DEDUCED, unsafe.) -/
def State.hunting (s : State) (e : Int) : Bool × State :=
  let n := s.ncross
  if n = 0 then (false, s)
  else
    let h := s.mag F.CTL_OSC_HYST_HYST
    let sup := s.ctl.sup
    let up := e ≥ h
    let dn := e ≤ -h
    let crossed := (sup.side > 0 && dn) || (sup.side < 0 && up)
    let side : Int := if sup.side > 0 then (if dn then -1 else 1) else if sup.side < 0 then (if up then 1 else -1)
      else if up then 1 else if dn then -1 else 0
    let kept := (if crossed then (sup.k, 0) :: sup.cross else sup.cross).take n
    let kept := kept.map (fun (p : Nat × Nat) => (p.1, max p.2 e.natAbs))
    let old := kept.getLast?
    let decl := crossed && kept.length = n && (match old with
      | some (k0, pk) => (sup.k - k0) * 1000 ≤ s.fld F.CTL_OSC_CFG_OWIN * 4096 && (pk : Int) ≥ s.mag F.CTL_OSC_AMP_AMP
      | none => false)
    let kept := if decl then [] else kept
    let s := { s with ctl := { s.ctl with sup := { sup with side := side, cross := kept } } }
    let s := s.setFld F.CTL_OSC_STAT_CROSS kept.length
    if decl then
      (true, (((s.raise F.CTL_OSC_STAT_HUNT).inc F.CTL_OSC_STAT_HUNTCNT).report srcHunt 1).traceEvent 3)
    else (false, s)

/-- Water hammer at an LAI sample in RUN (R231); true on a declaration. -/
def State.hammer (s : State) (y : Int) : Bool × State :=
  let sup := s.ctl.sup
  let put := fun (s : State) (x : SupSt) => { s with ctl := { s.ctl with sup := x } }
  match sup.yprev with
  | none => (false, put s { sup with yprev := some y })
  | some y0 =>
    let g := (y - y0) * 4096
    let big := (g.natAbs : Int) ≥ s.mag F.CTL_HAM_RATE_HRATE
    let win := s.fld F.CTL_OSC_CFG_HWIN
    let near := fun (k : Option Nat) => match k with
      | some k => decide ((sup.k - k) * 1000 ≤ win * 4096)
      | none => false
    let quiet := match sup.ham with
      | some k => decide ((sup.k - k) * 1000 < 100 * 4096)
      | none => false
    let decl := big && win ≠ 0 && !quiet && ((g > 0 && near sup.down) || (g < 0 && near sup.up))
    let s := put s { sup with
      yprev := some y
      up := if big && g > 0 then some sup.k else sup.up
      down := if big && g < 0 then some sup.k else sup.down
      ham := if decl then some sup.k else sup.ham }
    if decl then
      (true, (((s.raise F.CTL_OSC_STAT_HAM).inc F.CTL_OSC_STAT_HAMCNT).report srcHammer 1).traceEvent 4)
    else (false, s)

/-- The oscillation detectors at an LAI sample: they judge in RUN, and the slope of R231 spans one sample also after FROZEN. -/
def State.superviseLai (s : State) : State :=
  let s := { s with ctl := { s.ctl with sup := { s.ctl.sup with k := s.ctl.sup.k + 1 } } }
  if s.cst 1 = csFrozen then
    if s.ctl.sup.yprev.isSome && (s.stg 1).ph ≠ 0 then
      { s with ctl := { s.ctl with sup := { s.ctl.sup with yprev := some (s.yPrim 1) } } }
    else s
  else if s.cst 1 ≠ csRun then s
  else
    let (h, s) := s.hunting ((s.stg 1).w - s.yPrim 1)
    let (m, s) := s.hammer (s.yPrim 1)
    if (h && s.fld F.CTL_OSC_CFG_HUNTACT = 1) || (m && s.fld F.CTL_OSC_CFG_HAMACT = 1) then s.holdLa else s

/-! ### Trace (R233 to R238) -/

/-- A trace record in Q61 (R236). -/
def State.traceRec (s : State) (typ b row : Nat) : State :=
  s.ringDrop 61 [ringW0 61 1 (typ * 2 ^ 22 + 0x3D * 2 ^ 16 + b * 2 ^ 12 + row), BitVec.ofNat 40 s.now,
    BitVec.ofNat 40 s.travel] []

/-- The signal of a code (Table 10-2). (log 43: DESIGN CHOICE, unsafe.) -/
def State.traceSig (s : State) (code : Nat) : Int :=
  let hi := code / 64
  let lo := code % 64
  if hi = 3 then
    if 1 ≤ lo && lo ≤ 8 then (s.aiCode (lo - 1) : Int) * (2 ^ 24 : Nat)
    else if lo = 9 || lo = 10 then satS 40 (s.fpRate (lo - 9) * (2 ^ 24 : Nat)) else 0
  else if s.cst hi = csOff then 0
  else
    let x := s.stg hi
    if lo < 8 then x.x.getD lo 0
    else if lo < 12 then x.y.getD (lo - 8) 0
    else if lo = 12 then x.w
    else if lo = 13 then x.f
    else if lo < 16 then x.u.getD (lo - 14) 0
    else if lo = 16 then x.tgt
    else if lo = 17 then x.v
    else if lo = 18 then satS 40 (x.w - s.yPrim hi)
    else 0

/-- SIGk of buffer `b`. -/
def State.traceCode (s : State) (b k : Nat) : Nat :=
  if k < 4 then bitsOf (s.fld (F.CTL_TRCb_SELA_SIG b)) (8 * k + 7) (8 * k)
  else bitsOf (s.fld (F.CTL_TRCb_SELB_SIG b)) (8 * (k - 4) + 7) (8 * (k - 4))

/-- Buffer `b` enters DONE and writes its TYPE 1 record; the row that record names is free. (log 41: DESIGN CHOICE, safe.) -/
def State.traceFinish (s : State) (b : Nat) : State :=
  let (r, s) := s.draw 4096
  ((s.setFld (F.CTL_TRCb_STAT_STATE b) trDone).setTrc b {}).traceRec 1 b r

/-- Whether the level trigger of buffer `b` is crossed from `p` to `c` (Table 10-3). -/
def State.levelHit (s : State) (b : Nat) (p c : Int) : Bool :=
  let l := s.fldI (F.CTL_TRCb_LEVEL_LEVEL b)
  let e := s.fld (F.CTL_TRCb_CFG_EDGE b)
  let rise := p < l && l ≤ c
  let fall := p > l && l ≥ c
  if e = 1 then fall else if e = 2 then rise || fall else rise

/-- One row of buffer `b`, with the trigger and the end (R233, R235). -/
def State.traceRow (s : State) (b : Nat) : State :=
  let st := s.fld (F.CTL_TRCb_STAT_STATE b)
  let dec := s.fld (F.CTL_TRCb_CFG_DEC b)
  let dec := if dec = 0 then 256 else dec
  if (st ≠ trArmed && st ≠ trTriggered) || s.now / 256 % dec ≠ 0 || s.modeNow = modeDormant then s
  else
    let row := s.fld (F.CTL_TRCb_STAT_WPTR b)
    let s := (List.range 8).foldl (fun s k =>
      s.sramWrite (0x20000 + 0x8000 * b + 8 * row + k) (BitVec.ofInt 40 (s.traceSig (s.traceCode b k)))) s
    let s := s.setFld (F.CTL_TRCb_STAT_WPTR b) (row + 1)
    let s := s.setFld (F.CTL_TRCb_STAT_VALID b) (min 4096 (s.fld (F.CTL_TRCb_STAT_VALID b) + 1))
    let c := sx 40 (BitVec.ofInt 40 (s.traceSig (s.traceCode b (s.fld (F.CTL_TRCb_CFG_TSIG b))))).toNat
    let t := s.trc b
    if st = trArmed then
      let lev := s.fld (F.CTL_TRCb_CFG_TMODE b) = 1 && (match t.prev with
        | some p => s.levelHit b p c
        | none => false)
      if t.pend || lev then
        let owed := 4095 - s.fld (F.CTL_TRCb_CFG_PRE b)
        let s := ((s.setFld (F.CTL_TRCb_STAT_TRIGROW b) row).setFld (F.CTL_TRCb_STAT_STATE b) trTriggered).traceRec 0 b row
        if owed = 0 then s.traceFinish b else s.setTrc b { owed := owed }
      else s.setTrc b { t with prev := some c }
    else if t.owed ≤ 1 then s.traceFinish b
    else s.setTrc b { t with owed := t.owed - 1 }

/-- GAP records on entry to DORMANT (R237). -/
def State.traceGap (s : State) : State :=
  (List.range 2).foldl (fun s b =>
    let st := s.fld (F.CTL_TRCb_STAT_STATE b)
    if st = trArmed || st = trTriggered then
      let row := s.fld (F.CTL_TRCb_STAT_WPTR b)
      let s := (s.traceRec 2 b row).setFld (F.CTL_TRCb_GAP_GAPROW b) row
      ((s.inc (F.CTL_TRCb_GAP_GAPS b)).setFld (F.CTL_TRCb_GAPT_TIME b) s.now).setFld (F.CTL_TRCb_GAPX_TRAV b) s.travel
    else s) s

/-- RESUME records on exit from DORMANT (R237). -/
def State.traceResume (s : State) : State :=
  (List.range 2).foldl (fun s b =>
    let st := s.fld (F.CTL_TRCb_STAT_STATE b)
    if st = trArmed || st = trTriggered then
      let s := (s.traceRec 3 b (s.fld (F.CTL_TRCb_STAT_WPTR b))).setFld (F.CTL_TRCb_RSMT_TIME b) s.now
      s.setTrc b { s.trc b with prev := none }
    else s) s

/-! ### Host controls and actions (R207, R216, R223, R225, R235, R239, R242) -/

/-- Keep fields of a word that a write would change while the stage is not OFF, and note it (R225). -/
def State.guardFields (s : State) (k : Nat) (fs : List Fld) (v : Word) : Word × State :=
  if s.cst k = csOff then (v, s)
  else
    let old := fun (f : Fld) => s.fld f
    let v' := fs.foldl (fun v f => putBits v f (old f)) v
    (v', if v' = v then s else s.raise (F.CTL_x_STAT_CFGERR k))

/-- A write of CTL_x_CFG (R221, R223, R225): structure fields only while OFF; EN applies from the next strobe, but EN = 0 marks
a HELD stage for a new START. (log 33: DEDUCED, unsafe; log 36: DEDUCED, unsafe.) -/
def State.writeStageCfg (s : State) (k : Nat) (v : Word) : State :=
  let (v, s) := s.guardFields k [F.CTL_x_CFG_PRIM k, F.CTL_x_CFG_N k, F.CTL_x_CFG_INTLNK k, F.CTL_x_CFG_INTMASK k,
    F.CTL_x_CFG_NO k, F.CTL_x_CFG_NM k, F.CTL_x_CFG_NS k] v
  let s := s.setReg (F.CTL_x_CFG_w k).addr v
  if !s.flag (F.CTL_x_CFG_EN k) && s.cst k = csHeld then s.modStg k (fun x => { x with lowSeen := true }) else s

/-- A write of CTL_x_MOj or CTL_x_UDk, whose SRC or DEST is taken only while OFF (R225). (log 33: DEDUCED, unsafe.) -/
def State.writeGuarded (s : State) (k : Nat) (f : Fld) (v : Word) : State :=
  let (v, s) := s.guardFields k [f] v
  s.setReg f.addr v

/-- ARM = 1 (R235). -/
def State.traceArm (s : State) (b : Nat) : State :=
  let s := ((s.setFld (F.CTL_TRCb_STAT_WPTR b) 0).setFld (F.CTL_TRCb_STAT_VALID b) 0).setFld (F.CTL_TRCb_STAT_TRIGROW b) 0
  (s.setFld (F.CTL_TRCb_STAT_STATE b) trArmed).setTrc b {}

/-- FORCE = 1: an armed buffer triggers at its next row (R235). -/
def State.traceForce (s : State) (b : Nat) : State :=
  if s.fld (F.CTL_TRCb_STAT_STATE b) = trArmed then s.setTrc b { s.trc b with pend := true } else s

/-- STOP = 1: DONE at once from any state (R235). -/
def State.traceStop (s : State) (b : Nat) : State :=
  if s.fld (F.CTL_TRCb_STAT_STATE b) = trDone then s else s.traceFinish b

/-- A write of CTL_TRCb_CTL, bit by bit from bit 0. (log 42: DEDUCED, unsafe.) -/
def State.writeTraceCtl (s : State) (b : Nat) (v : Word) : State :=
  let s := if bitOf v.toNat 0 then s.traceArm b else s
  let s := if bitOf v.toNat 1 then s.traceForce b else s
  if bitOf v.toNat 2 then s.traceStop b else s

/-- GO = 1 (R239). -/
def State.injGo (s : State) : State :=
  let c := s.reg F.CTL_INJ_CFG_w.addr
  let k := s.fld F.CTL_INJ_CFG_STAGE
  if s.modeNow = modeCommission && k ≤ 2 && (s.cst k = csRun || s.cst k = csFrozen) && !s.flag F.CTL_INJ_STAT_RUN &&
      s.fld F.CTL_INJ_CFG_TYPE ≠ 3 && s.fld F.CTL_INJ_CFG_POINT ≤ 8 then
    let a := min (s.mag F.CTL_INJ_AMP_AMP) (s.mag F.CTL_INJ_AMAX_AMAX)
    let n := (prbsTaps (s.fld F.CTL_INJ_CFG_ORDER)).1
    let s : State := { s with ctl := { s.ctl with inj := {
      cfg := c, amp := a, dur := s.fld F.CTL_INJ_DUR_DUR, f0 := s.fld F.CTL_INJ_F0_F0, f1 := s.fld F.CTL_INJ_F1_F1
      lfsr := 2 ^ n - 1 } } }
    (s.setFlag F.CTL_INJ_STAT_RUN true).setFld F.CTL_INJ_STAT_M 0
  else s.raise F.CTL_INJ_STAT_INJERR

/-- STOP = 1 (R242). -/
def State.injStop (s : State) : State :=
  if s.flag F.CTL_INJ_STAT_RUN then (s.setFlag F.CTL_INJ_STAT_RUN false).raise F.CTL_INJ_STAT_DONE else s

/-- A write of CTL_INJ_CTL, bit by bit from bit 0. (log 42: DEDUCED, unsafe.) -/
def State.writeInjCtl (s : State) (v : Word) : State :=
  let s := if bitOf v.toNat 0 then s.injGo else s
  if bitOf v.toNat 1 then s.injStop else s

/-- An action of KIND 8h to Ah writes the target of stage `k` at a tick (R207). -/
def State.actTarget (s : State) (k : Nat) (v : Word) : State :=
  let a := (F.CTL_x_TGT_w k).addr
  let old := s.reg a
  ((s.sramWrite a v).mark (F.CTL_x_TGT_w k)).modStg k (fun x => { x with tgtWas := some (s.now, old) })

/-- An action of KIND Bh to Eh on output `d`, when no running stage drives it (R216, R444). -/
def State.actOut (s : State) (d : Nat) (v : Word) : State :=
  s.setOut d (if d ≤ 2 then bitsOf v.toNat 15 0 else bitsOf v.toNat 10 0)

/-! ### The control sample (R218, R219) -/

/-- Whether a block-mover channel or link transmit holds the SRAM port (R219). (log 191: DEDUCED, unsafe.) -/
def State.portHeld (s : State) : Bool :=
  decide (s.clk.cc < s.lnk.txTo) || (List.range 8).any (fun n => s.fld (F.BMV_Dn_CTL_STATE n) = 1)

/-- The largest strobe-to-output latency seen (R219): a product takes 24 core clocks, and up to 12 more, which are free, while
the SRAM port is held. -/
def State.noteLatency (s : State) (products : Nat) : State :=
  if products = 0 then s
  else
    let (x, s) := if s.portHeld then s.draw (12 * products + 1) else (0, s)
    let num : Nat := 8300 * 2 ^ 27 + (24 * products + x) * 10 ^ 9
    let l := (freeRound 35 num (10 * 2 ^ 27)).toNat
    if l > s.fld F.CTL_ENG_LATMAX then s.update F.CTL_ENG_LATMAX (min 0xFFFF l) else s

/-- One control sample at the present strobe with the inputs converted there and the coefficient writes that complete while it
runs (R218, R226). (log 44: DEDUCED, unsafe; log 190: DESIGN CHOICE, safe.) -/
def State.controlSample (s : State) (x : StrobeIn) (vpw0 vpw1 : Nat) : State :=
  let s := { s with ctl := { s.ctl with
    mid := x.mid, fetches := 0, ai := x.codes.map (fun (c : BitVec 16) => c.toNat), inj := { s.ctl.inj with ended := false } } }
  let s := (s.setFld F.CTL_VPW_VPW0 (min 65535 vpw0)).setFld F.CTL_VPW_VPW1 (min 65535 vpw1)
  let ks := (List.range 3).filter (fun k => s.sampleOf k)
  let s := (List.range 3).foldl (fun s k => s.modStg k (fun x => { x with ph := 0 })) s
  let s := ks.foldl (fun s k => s.turnStage k) s
  let s := ks.foldl (fun s k => s.conditionY k) s
  let s := ks.foldl (fun s k => s.setpoint k) s
  let s := ks.foldl (fun s k => s.loadStates k) s
  let (p, s) := (List.range 3).foldl (fun (a : Products × State) k => a.2.stageOutputs k a.1) ({}, s)
  let s := s.noteLatency p.sent
  let s := ks.foldl (fun s k => s.updateStates k) s
  let s := (s.midWrites true).superviseLb.superviseLai
  let s := ks.foldl (fun s k => if s.cst k = csStart then s.setFld (F.CTL_x_STAT_STATE k) csRun else s) s
  (s.traceRow 0).traceRow 1

/-- The next strobe, and the control sample there. -/
def State.nextSample (s : State) (ai : StrobeIn) (vpw0 vpw1 : Nat) : State :=
  (s.takeInstant clsSample 256 0).controlSample ai vpw0 vpw1

/-- CONTROL_SAMPLE (R218): the next strobe, with the codes of AI0 to AI7 and the PW supplies in mV. -/
def execControlSample (ai : StrobeIn) (vpw0 vpw1 : Nat) (s : State) : Host.Outcome State Fault Refusal := s.clocked fun s =>
  if s.gated then ok s else ok (s.nextSample ai vpw0 vpw1)

/-- FOLLOWING_ERROR (R229): the control sample at which the following-error count reaches its limit; with inputs that
do not bring it there, no step of this kind takes place. (log 34: DESIGN CHOICE, safe.) -/
def execFollowingError (ai : StrobeIn) (vpw0 vpw1 : Nat) (s : State) : Host.Outcome State Fault Refusal := s.clocked fun s =>
  if s.gated then ok s
  else
    let t := s.nextSample ai vpw0 vpw1
    if t.ctl.sup.fe then ok t else ok s

/-- TRACE_DONE (R235): the control sample at which a buffer writes its last post-trigger row; with no buffer about to
end there, no step of this kind takes place. (log 34: DESIGN CHOICE, safe.) -/
def execTraceDone (ai : StrobeIn) (vpw0 vpw1 : Nat) (s : State) : Host.Outcome State Fault Refusal := s.clocked fun s =>
  if s.gated then ok s
  else
    let t := s.nextSample ai vpw0 vpw1
    if (List.range 2).any (fun b => s.fld (F.CTL_TRCb_STAT_STATE b) ≠ trDone && t.fld (F.CTL_TRCb_STAT_STATE b) = trDone)
    then ok t else ok s

/-- INJECTION_END (R240): the control sample from which the injected value is 0 after DUR samples; with none due there,
no step of this kind takes place. (log 34: DESIGN CHOICE, safe.) -/
def execInjectionEnd (ai : StrobeIn) (vpw0 vpw1 : Nat) (s : State) : Host.Outcome State Fault Refusal := s.clocked fun s =>
  if s.gated then ok s
  else
    let t := s.nextSample ai vpw0 vpw1
    if t.ctl.inj.ended then ok t else ok s

/-! ### PW outputs and flowmeters (R440, R443) -/

/-- PW_PERIOD_EDGE (R443): 136 tb after a strobe each PW output takes the duty of its latch for the period. -/
def execPwPeriodEdge (s : State) : Host.Outcome State Fault Refusal := s.clocked fun s =>
  if s.gated then ok s
  else
    let s := s.takeInstant clsPw 256 136
    ok { s with ctl := { s.ctl with pw := [3, 4].foldl (fun m d => spSet (fun _ => 0) m d (s.outRaw d)) s.ctl.pw } }

/-- PW_OVERCURRENT (R443): output PWk is off for the rest of its period. -/
def execPwOvercurrent (k : Fin 2) (s : State) : Host.Outcome State Fault Refusal := s.clocked fun s =>
  ok { s with ctl := { s.ctl with pw := spSet (fun _ => 0) s.ctl.pw (3 + k) 0 } }

end Sys2Proof.Machine
end

