-- ==== Sys2Proof/Machine/LinkBase.lean ====
section
/-! DEFINITION. The link's shared parts: frames, transmit rings, sequence windows and receive checks, and the ends of
transmissions (R271 to R284, R289). -/

namespace Sys2Proof.Machine

open Sys2Proof

/-! ### Roles and addresses (Tables 1-6 and 12-5) -/

def clsAck : Nat := 0
def clsBeacon : Nat := 1
def clsWrite : Nat := 2
def clsRead : Nat := 3
def clsRdata : Nat := 4
def clsPush : Nat := 5
def clsSnap : Nat := 6
def clsSreq : Nat := 7
def clsMsg : Nat := 8
def clsErr : Nat := 9
def clsEpoch : Nat := 10
def clsEnr : Nat := 11
def clsKeyx : Nat := 12

/-- Whether the link runs: EN = 1 and not in BOOT (R292). -/
def State.linkOn (s : State) : Bool := s.flag F.SLK_CFG_EN && s.modeNow != modeBoot

/-! ### Sessions and keys (R274, R302, R303) -/

def State.sess (s : State) (p : Nat) : Session := spGet (fun _ => {}) s.key.sess p
def State.setSess (s : State) (p : Nat) (x : Session) : State :=
  { s with key := { s.key with sess := spSet (fun _ => {}) s.key.sess p x } }

/-- K_mac of generation `g` with peer `p`, if accepted. -/
def State.pairMac (s : State) (p g : Nat) : Option Nat :=
  let x := s.sess p
  match x.cur.filter (fun k => k.gen == g) with
  | some k => some k.mac
  | none => (x.old.filter (fun k => k.gen == g)).map (·.mac)

/-- The group key of generation `g`, if held. -/
def State.groupMac (s : State) (g : Nat) : Option Nat :=
  ((s.key.grp ++ s.key.next.toList).find? (fun k => k.gen == g)).map (·.key)

/-- The header of a frame as ten bytes (Table 12-4). -/
def headerBytes (f : Frame) : List Byte :=
  toBytes 4 f.sysid.toNat ++ toBytes 6 (f.src.val * 2 ^ 42 + f.dst.val * 2 ^ 36 + f.cls.val * 2 ^ 32 + f.seq.toNat * 2 ^ 16 +
    b2n f.bc * 2 ^ 15 + f.keyid.val * 2 ^ 12 + f.payload.length)

/-- The TAG that key `k` makes for a frame (R274). -/
def tagOf (k : Nat) (f : Frame) : Nat := cmac64 k (headerBytes f ++ f.payload)

/-- The CRC of a frame, over header, payload and TAG (R274). -/
def crcOf (f : Frame) : Nat := crc32 (headerBytes f ++ f.payload ++ toBytes 8 f.tag.toNat)

/-- Bits 23:8 of the frame control, RATE and NBYTE, as two bytes (Table 12-3). -/
def fcBytes (f : Frame) : List Byte := toBytes 2 (f.rate.val * 2 ^ 13 + f.nbyte.val * 2 ^ 4)

/-- FCCHK: CRC-8 with polynomial 07h and initial value 00h (Table 12-3). -/
def fcChk (f : Frame) : Nat := (fcBytes f).foldl (crcByte 8 0x07) 0

/-- The MAC frame as it is sent (R273). -/
def macBytes (f : Frame) : List Byte :=
  headerBytes f ++ f.payload ++ toBytes 8 f.tag.toNat ++ toBytes 4 (crcOf f)

/-! ### Symbols (R271) -/

/-- The bits of a byte, the most significant first. -/
def bitsMsb (b : Byte) : List Bool := (List.range 8).map (fun k => bitOf b.toNat (7 - k))

/-- The scrambler x^7 + x^4 + 1 over bits, from register `r`: each bit is XORed with the sum of the stages 7 and 4, which
enters stage 1. (log 185: DEDUCED, unsafe.) -/
def scramble : Nat → List Bool → List Bool
  | _, [] => []
  | r, b :: bs =>
    let o := bitOf r 6 != bitOf r 3
    (b != o) :: scramble ((2 * r + b2n o) % 128) bs

/-- The phase steps of bits, in quarter turns: one bit a step in DBPSK, a pair in DQPSK. -/
def phaseSteps (quad : Bool) : List Bool → List Nat
  | [] => []
  | a :: m =>
    if quad then
      match m with
      | [] => []
      | b :: m => (match a, b with
        | false, false => 0
        | false, true => 1
        | true, true => 2
        | true, false => 3) :: phaseSteps quad m
    else 2 * b2n a :: phaseSteps quad m

/-- A chirp on the cable: its direction, and its phase in quarter turns. -/
inductive Chirp where
  | up (phase : Nat)
  | down
deriving DecidableEq, Repr

/-- Up-chirps whose phases follow `p` by the given steps. -/
def chirpsFrom : Nat → List Nat → List Chirp
  | _, [] => []
  | p, d :: m => .up ((p + d) % 4) :: chirpsFrom ((p + d) % 4) m

/-- The chirps of a frame: preamble, FC in DBPSK, and the scrambled MAC frame at its rate, in DBPSK at code 0 and in DQPSK
above (R271, Table 12-2). (log 185: DEDUCED, unsafe.) -/
def wireOf (f : Frame) : List Chirp :=
  let fc := phaseSteps false ((fcBytes f ++ toBytes 1 (fcChk f)).flatMap bitsMsb)
  let mac := phaseSteps (f.rate.val != 0) (scramble 127 ((macBytes f).flatMap bitsMsb))
  List.replicate 6 (.up 0) ++ List.replicate 2 .down ++ chirpsFrom 0 (fc ++ mac)

/-! ### Transmit rings (R137, R139, R275) -/

/-- The items of a ring, each as its records. -/
def itemsOf : Nat → List Rec → List (List Rec)
  | 0, _ => []
  | _, [] => []
  | k + 1, r :: rs =>
    let n := max 1 (recNrec r.w0)
    (r :: rs.take (n - 1)) :: itemsOf k (rs.drop (n - 1))

def State.items (s : State) (q : Nat) : List (List Rec) := itemsOf (s.queue q).recs.length (s.queue q).recs

/-- Fields of a stream item (R139). -/
structure Item where
  peer : Nat
  cls : Nat
  bc : Bool
  time : Nat
  seq : Nat
  payload : List Byte
  /-- Some word carries poison or a parity mismatch. -/
  bad : Bool
deriving DecidableEq, Repr

/-- Read an item's records as a stream item. -/
def itemOf (rs : List Rec) : Item :=
  let ws := rs.flatMap (fun r => [r.w0, r.w1, r.w2])
  let w0 := (ws.headD 0).toNat
  { peer := bitsOf w0 24 19, cls := bitsOf w0 18 15, bc := bitOf w0 14
    time := ((ws.drop 1).headD 0).toNat, seq := bitsOf ((ws.drop 2).headD 0).toNat 15 0
    payload := padTo (bitsOf w0 10 0) (bytesOfWords (ws.drop 3))
    bad := rs.any (fun r => r.c0 != 0 || r.c1 != 0 || r.c2 != 0) }

/-- Release the item of ring `q` whose SEQ is `seq`. -/
def State.dropItem (s : State) (q seq : Nat) : State :=
  let is := s.items q
  let gone := is.filter (fun i => (itemOf i).seq == seq)
  let x := s.queue q
  { s.setQueue q { x with recs := (is.filter (fun i => (itemOf i).seq != seq)).flatten } with
    spent := gone.flatten.reverse ++ s.spent }

/-- Records an item of `n` payload bytes takes. -/
def nrecFor (n : Nat) : Nat := 1 + ((n + 4) / 5 + 2) / 3

/-- Put a frame in a transmit ring that has room: it takes its SEQ, which the host's frame shows. -/
def State.admitTx (s : State) (t : TxWait) : State :=
  let seq := s.fld F.SLK_STAT_SEQ
  let s := s.setFld F.SLK_STAT_SEQ (seq + 1)
  let s := if t.host then
      ({ s with lnk := { s.lnk with host := some seq } } : State).setFld F.SLK_HSTAT_SEQ seq
    else s
  s.pushItem t.ring (streamWords t.ring t.dst t.cls t.bc s.now seq t.payload) []

/-- Whether two items come from one producer. (log 186: DESIGN CHOICE, safe.) -/
def TxWait.sameSource (t u : TxWait) : Bool := t.ring == u.ring && t.cls == u.cls && t.host == u.host

/-- Hand a frame to a transmit ring; it waits with its producer while the ring cannot admit it, or behind what the same
producer already holds (R137). -/
def State.offerTx (s : State) (t : TxWait) : State :=
  if !s.lnk.wait.any t.sameSource && s.ringRoom t.ring (nrecFor t.payload.length) then s.admitTx t
  else { s with lnk := { s.lnk with wait := s.lnk.wait ++ [t] } }

/-- A frame of the node itself. (log 132: DEDUCED, unsafe.) -/
def State.pushTx (s : State) (ring dst cls : Nat) (bc : Bool) (payload : List Byte) : State :=
  s.offerTx { ring := ring, dst := dst, cls := cls, bc := bc, payload := payload }

/-- Let producers that wait push again, each in its order, while there is room. -/
def State.retryTx (s : State) : State :=
  s.lnk.wait.foldl State.offerTx { s with lnk := { s.lnk with wait := [] } }

/-- The SEQ that the next frame pushed will get. (log 132: DEDUCED, unsafe.) -/
def State.nextSeq (s : State) : Nat := s.fld F.SLK_STAT_SEQ

/-! ### MAC timing (Table 12-9) -/

/-- The band in use: SLK_CFG.BAND, or in held BOOT the band listened in (R269, R378). -/
def State.bandNow (s : State) : Nat := if s.modeNow = modeBoot then s.lnk.band else s.fld F.SLK_CFG_BAND

/-- Slot of the band, in µs; every other figure is a multiple of it but preamble and FC. -/
def State.slotUs (s : State) : Nat :=
  match s.bandNow with
  | 0 => 200
  | 2 => 50
  | _ => 100

/-- Chirp length of the band, in µs (Table 12-1). -/
def State.chirpUs (s : State) : Nat :=
  match s.bandNow with
  | 0 => 64
  | 2 => 16
  | _ => 32

/-- A slot, in core clocks. -/
def State.slot (s : State) : Nat := usClocks s.slotUs

/-- SIFS, one slot. -/
def State.sifs (s : State) : Nat := s.slot

/-- The idle time before any access: two slots. -/
def State.gapCc (s : State) : Nat := usClocks (2 * s.slotUs)

/-- Slots after the gap at which a ring's backoff starts: one for Q56, two for Q57 (R279). -/
def ringOffset (q : Nat) : Nat := if q = 56 then 1 else 2

/-- The preamble, in core clocks. -/
def State.preamble (s : State) : Nat := usClocks (8 * s.chirpUs)

/-- What follows the reference instant of a frame whose MAC frame has `n` bytes at rate code `c`, in core clocks. -/
def State.frameRest (s : State) (c n : Nat) : Nat := usClocks (24 * s.chirpUs) + 8 * n * 2 ^ 27 / (9600 * 2 ^ c)

/-- Highest rate code of the band. -/
def State.bandRate (s : State) : Nat :=
  match s.bandNow with
  | 0 => 2
  | 2 => 4
  | _ => 3

/-- A rate code in force: 5 to 7 act as 4, and above the band's highest as that. -/
def State.rateCode (s : State) (c : Nat) : Nat := min (min c 4) s.bandRate

/-- A frame's time after its reference instant, and its whole time, in core clocks (R271, R278). -/
def State.frameClocks (s : State) (f : Frame) : Nat := s.frameRest (s.rateCode f.rate) f.nbyte
def State.frameAir (s : State) (f : Frame) : Nat := s.preamble + s.frameClocks f

/-- SNR needed for a rate, in units of 0.25 dB (Table 12-2). -/
def snrNeed (c : Nat) : Nat := 8 + 12 * c

/-- Choose and show the rate to node `p`. -/
def State.chooseRateTo (s : State) (p : Nat) : State :=
  let bc := s.rateCode (s.fld F.SLK_PHY_BCRATE)
  let r :=
    if !spGet (fun _ => false) s.lnk.known p || spGet (fun _ => 0) s.lnk.miss p ≥ 3 then bc
    else
      let ok := (List.range 5).filter (fun c => c ≤ s.rateCode (s.fld F.SLK_PHY_MAXRATE) &&
        snrNeed c + s.fld F.SLK_PHY_MARGIN ≤ s.fld (F.SLK_PEERp_LNK_SNR p))
      ok.getLast?.getD 0
  s.setFld (F.SLK_PEERp_LNK_RATE p) r

/-! ### Windows (R284) -/

def State.rxRes (s : State) (p : Nat) : List RxRes := spGet (fun _ => []) s.lnk.res p

/-- Where a SEQ stands against a sender's window: 0 new, 1 duplicate, 2 stale. (log 52: DEDUCED, unsafe.) -/
def State.seqState (s : State) (p seq : Nat) : Nat :=
  let map := s.fld (F.SLK_PEERp_WIN_MAP p)
  if map = 0 then 0
  else
    let k := sx 16 (wrapW 16 ((s.fld (F.SLK_PEERp_LNK_HSEQ p) : Int) - seq))
    if k < 0 then 0 else if k > 31 then 2 else if bitOf map k.toNat then 1 else 0

/-- Enter a SEQ in the window with the result sent. (log 52: DEDUCED, unsafe.) -/
def State.enterWindow (s : State) (p : Nat) (r : RxRes) : State :=
  let map := s.fld (F.SLK_PEERp_WIN_MAP p)
  let h := s.fld (F.SLK_PEERp_LNK_HSEQ p)
  let k := sx 16 (wrapW 16 ((h : Int) - r.seq))
  let s := if map = 0 then (s.setFld (F.SLK_PEERp_LNK_HSEQ p) r.seq).setFld (F.SLK_PEERp_WIN_MAP p) 1
    else if k < 0 then
      (s.setFld (F.SLK_PEERp_LNK_HSEQ p) r.seq).setFld (F.SLK_PEERp_WIN_MAP p) (map * 2 ^ (-k).toNat % 2 ^ 32 + 1)
    else s.setFld (F.SLK_PEERp_WIN_MAP p) (setBits map k.toNat k.toNat 1)
  let h := s.fld (F.SLK_PEERp_LNK_HSEQ p)
  let keep := (r :: s.rxRes p).filter (fun x => wrapW 16 ((h : Int) - x.seq) ≤ 31)
  { s with lnk := { s.lnk with res := spSet (fun _ => []) s.lnk.res p keep } }

/-- Clear a sender's window (R302). -/
def State.clearWindow (s : State) (p : Nat) : State :=
  let s := (s.setFld (F.SLK_PEERp_LNK_HSEQ p) 0).setFld (F.SLK_PEERp_WIN_MAP p) 0
  { s with lnk := { s.lnk with res := spSet (fun _ => []) s.lnk.res p [] } }

/-! ### The medium (R278, R279) -/

/-- A ring's backoff after the medium has been busy from `a` to `b`: it counted the idle slots before, and is frozen until the
gap and its offset have passed again. -/
def thawed (slot gap a b : Nat) (x : Nat × Nat × Nat) : Nat × Nat × Nat :=
  (x.1, x.2.1 - (a - x.2.2) / slot, max x.2.2 (b + gap + ringOffset x.1 * slot))

/-- The medium is busy from core clock `a` to `b`. -/
def State.busy (s : State) (a b : Nat) : State :=
  { s with lnk := { s.lnk with
      busyTo := max s.lnk.busyTo b, bo := s.lnk.bo.map (thawed s.slot s.gapCc a b) } }

/-- A frame has been received: time runs to its end, and it was on the medium until then. -/
def State.arrive (s : State) (f : Frame) : State :=
  let s := s.advCc f.gap
  (s.busy (s.clk.cc - s.frameAir f) s.clk.cc).completed

/-- The reference instant of a frame that ends now, as system time in units of 2^-39 tb (R41, R48).
(log 187: DEDUCED, unsafe.) -/
def State.refUnits (s : State) (f : Frame) : Int :=
  (s.now * tbUnit + s.clk.frac : Nat) - (s.frameClocks f * s.perClock : Nat)

/-- The stamp of a received frame: its reference instant in tb (R48). -/
def State.refTime (s : State) (f : Frame) : Nat := wrap40 (s.refUnits f / tbUnit)

/-! ### Acknowledgements (R280) -/

/-- A frame of this node at rate code `rate`, with its tag under `key`. -/
def State.mkFrame (s : State) (rate dst cls seq keyid : Nat) (bc : Bool) (payload : List Byte) (key : Option Nat) : Frame :=
  let f : Frame := { gap := 0, rate := Fin.ofNat 8 rate, nbyte := Fin.ofNat 512 (22 + payload.length)
                     sysid := BitVec.ofNat 32 (s.fld F.SYS_SYSID_SYSID), src := Fin.ofNat 64 s.addr
                     dst := Fin.ofNat 64 dst, bc := bc, cls := Fin.ofNat 16 cls, seq := BitVec.ofNat 16 seq
                     keyid := Fin.ofNat 4 keyid, payload := payload, tag := 0, snr := 0 }
  match key with
  | some k => { f with tag := BitVec.ofNat 64 (tagOf k f) }
  | none => f

/-- Put a frame on the cable, for `d` core clocks from now. (log 116: DEDUCED, unsafe.) -/
def State.emit (s : State) (f : Frame) (d : Nat) : State :=
  ({ s with lnk := { s.lnk with sent := some f, txTo := s.clk.cc + d } } : State).busy s.clk.cc (s.clk.cc + d)

/-- Answer a unicast frame with an ACK, at SIFS after it and at its rate (R272, R280, Table 12-6). -/
def State.ackFor (s : State) (f : Frame) (res adm retry : Nat) : State :=
  if f.bc then s
  else
    let pl := toBytes 1 res ++ toBytes 1 adm ++ toBytes 2 retry ++ toBytes 1 (min 255 f.snr)
    let a := s.mkFrame (s.rateCode f.rate) f.src clsAck f.seq.toNat f.keyid false pl (s.pairMac f.src f.keyid)
    s.emit a (s.sifs + s.frameAir a)

/-! ### Receive checks (R283) -/

/-- What the checks from 3 on say of a frame. -/
inductive RxOut where
  | dropped
  | answered
  | accepted
deriving DecidableEq, Repr

/-- NBYTE ≠ 22 + LEN, or LEN above 240 (check 2). -/
def badLength (f : Frame) : Bool := f.nbyte.val != 22 + f.payload.length || f.payload.length > 240

/-- Check 2 fails. -/
def State.crcErr (s : State) : State := s.inc F.SLK_CNTB_CRCERR

/-- Checks 2 to 6 of Table 12-10: true when they pass. The CRC is that of FRAME_CHECK_FAILURE. -/
def State.checkAuth (s : State) (f : Frame) : Bool × State :=
  if !s.linkOn || s.role = roleNone then (false, s)
  else if badLength f then (false, s.crcErr)
  else if f.sysid.toNat ≠ s.fld F.SYS_SYSID_SYSID then (false, s.inc F.SLK_CNTA_STRANGER)
  else if !f.bc && f.dst.val ≠ s.addr then (false, s)
  else
    match (if f.bc then s.groupMac f.keyid else s.pairMac f.src f.keyid) with
    | none => (false, s.inc F.SLK_CNTD_NOKEY)
    | some k => if f.tag.toNat = tagOf k f then (true, s) else (false, s.inc F.SLK_CNTA_FORGER)

/-- Checks 3 to 10 of Table 12-10 for a frame whose class, TYPE, LEN and BC are allowed when `form`, and which enters
Q58 with `n` records when `n` is not 0. (log 126: DEDUCED, unsafe.) -/
def State.rxChecks (s : State) (f : Frame) (form : Bool) (n : Nat) : RxOut × State :=
  match s.checkAuth f with
  | (false, s) => (.dropped, s)
  | (true, s) =>
    let st := s.seqState f.src f.seq.toNat
    if st = 1 then
      let s := s.inc F.SLK_CNTC_DUP
      match (s.rxRes f.src).find? (fun r => r.seq == f.seq.toNat) with
      | some r => (.answered, s.ackFor f r.res r.adm r.retry)
      | none => (.answered, s.ackFor f 0 0 0)
    else if st = 2 then (.answered, (s.inc F.SLK_CNTC_STALE).ackFor f 2 0 0)
    else if !form || f.src.val = s.addr then
      let s := (s.inc F.SLK_CNTD_FORMERR).enterWindow f.src { seq := f.seq.toNat, res := 3 }
      (.answered, s.ackFor f 3 0 0)
    else if n ≠ 0 && !s.ringRoom 58 n then
      let s := (s.inc F.SLK_CNTE_RXFULL).inc (F.EVS_Qn_ERR_OVF 58)
      (.answered, s.ackFor f 1 0 (s.fld F.SLK_CFG_RXRETRY))
    else (.accepted, s)

/-- An accepted frame is entered in the window and acknowledged. -/
def State.accept (s : State) (f : Frame) (adm retry : Nat) : State :=
  (s.enterWindow f.src { seq := f.seq.toNat, res := 0, adm := adm, retry := retry }).ackFor f 0 adm retry

/-- Put a received frame in Q58, stamped with its reference instant (R48, R139). -/
def State.pushRx (s : State) (f : Frame) : State :=
  s.pushItem 58 (streamWords 58 f.src f.cls f.bc (s.refTime f) f.seq.toNat f.payload) []

/-! ### Ends of transmissions (R280, R282, R289) -/

def State.outTo (s : State) (p : Nat) : Option Out := s.lnk.outs.find? (fun o => o.dst == p)

def State.setOuts (s : State) (os : List Out) : State := { s with lnk := { s.lnk with outs := os } }

/-- Replace the frame outstanding to a destination. -/
def State.putOut (s : State) (o : Out) : State :=
  s.setOuts (o :: s.lnk.outs.filter (fun x => x.dst != o.dst))

/-- Remove the frame outstanding to a destination and its item. -/
def State.endOut (s : State) (o : Out) : State :=
  (s.setOuts (s.lnk.outs.filter (fun x => x.dst != o.dst))).dropItem o.ring o.seq

/-- CW of a class returns to its starting value. -/
def State.resetCw (s : State) (ring : Nat) : State :=
  { s with lnk := { s.lnk with cw := spDel s.lnk.cw ring } }

/-- The exponent of CW of a class: CWMINB or CWMINC until it doubles (R279). -/
def State.cwExp (s : State) (ring : Nat) : Nat :=
  spGet (fun _ => if ring = 56 then s.fld F.SLK_CFG_CWMINB else s.fld F.SLK_CFG_CWMINC) s.lnk.cw ring

/-- CW of a class doubles, up to its limit (R280). -/
def State.doubleCw (s : State) (ring : Nat) : State :=
  let c := s.cwExp ring
  { s with lnk := { s.lnk with cw := spPut s.lnk.cw ring (max c (min (c + 1) (min 10 (s.fld F.SLK_CFG_CWMAXE)))) } }

/-- The host's frame ends (R289). -/
def State.hostEnds (s : State) (seq res adm retry : Nat) : State :=
  if s.lnk.host = some seq then
    let s : State := { s with lnk := { s.lnk with host := none } }
    (((s.setFld F.SLK_HSTAT_RES res).setFld F.SLK_HSTAT_ADM adm).setFld F.SLK_HSTAT_RETRY retry).setFlag F.SLK_HSTAT_BUSY false
  else s

/-- The TYPE byte of a payload. -/
def typeOf (pl : List Byte) : Nat := (pl.headD 0).toNat

/-- The raw report of a DORMANT entry ends, delivered or failed (R387). -/
def State.rawEnds (s : State) (o : Out) : State :=
  if s.led.rawBusy && o.cls = clsMsg && typeOf o.payload = 4 then { s with led := { s.led with rawBusy := false } } else s

/-- An EPOCH frame ends undelivered: replication starts afresh with the next capture. (log 53: DEDUCED, unsafe.) -/
def State.epochFails (s : State) (o : Out) : State :=
  if o.cls = clsEpoch then { s with hd := { s.hd with sending := none, ho := 0 } } else s

/-- Delivery has failed (R282). (log 53: DEDUCED, unsafe; log 61: DEDUCED, unsafe.) -/
def State.deliveryFails (s : State) (o : Out) : State :=
  let s := (s.endOut o).resetCw o.ring
  let s := (s.inc F.SLK_CNTF_TXFAIL).raise F.SLK_ERR_DELFAIL
  let s := s.errRec 3 (o.dst * 2 ^ 34 + o.cls * 2 ^ 30 + o.seq * 2 ^ 14) 0 0
  let s := if o.cls = clsErr then s.inc F.SLK_ERR_ERRLOST else s
  (((s.hostEnds o.seq 8 0 0).rawEnds o).epochFails o).report srcDelivery o.dst

/-! ### What may be sent, and when (R279, R281, R292) -/

/-- Whether an unenrolled node may answer a CERTREQ: it is held in BOOT for want of an entry or after a release (R378). -/
def State.heldForLink (s : State) : Bool :=
  s.modeNow = modeBoot && s.flag F.MOD_STAT_HELD && (s.fld F.MOD_BOOT_HOLDWHY = 4 || s.fld F.MOD_BOOT_HOLDWHY = 5)

/-- What the node may send in its mode (R292): in DORMANT only the raw report, before the clocks are gated. -/
def State.maySend (s : State) (x : Item) : Bool :=
  s.linkOn && !s.gated && s.role != roleNone &&
    (s.modeNow != modeDormant || (x.cls == clsMsg && typeOf x.payload == 4))

/-- The key and its generation for an item; KEYX broadcasts and ENR carry a zero tag. None when no key is held. -/
def State.txKey (s : State) (x : Item) : Option (Nat × Option Nat) :=
  if x.cls = clsEnr || (x.cls = clsKeyx && x.bc) then some (0, none)
  else if x.bc then s.key.grp.head?.map (fun g => (g.gen, some g.key))
  else (s.sess x.peer).cur.map (fun k => (k.gen, some k.mac))

/-- Whether the item of ring `q` may go now: its destination is not waiting, or it is the frame to be sent again, and a Q56
frame to its destination goes first. (log 117: DEDUCED, unsafe.) -/
def State.mayGo (s : State) (q : Nat) (x : Item) : Bool :=
  s.maySend x && (s.txKey x).isSome &&
    (x.bc || (match s.outTo x.peer with
      | some o => o.phase == 1 && o.ring == q && o.seq == x.seq
      | none => q == 56 || !(s.items 56).any (fun i => let y := itemOf i; !y.bc && y.peer == x.peer)))

/-- Whether ring `q` has a frame that may go; in held BOOT only the answers to a CERTREQ, which are class C (R298, R378). -/
def State.contends (s : State) (q : Nat) : Bool :=
  if s.heldForLink then q == 57 && s.lnk.wait.any (fun t => t.cls == clsEnr)
  else (s.items q).any (fun i => s.mayGo q (itemOf i))

/-- A ring whose frame contends draws its backoff, from 0 to CW − 1 slots, and counts it once the medium has been idle for the
gap and the ring's offset (R279). -/
def State.draw1 (s : State) (q : Nat) : State :=
  if s.lnk.bo.any (fun x => x.1 == q) || !s.contends q then s
  else
    let (n, s) := s.draw (2 ^ s.cwExp q)
    let from_ := max s.clk.cc (s.lnk.busyTo + s.gapCc + ringOffset q * s.slot)
    { s with lnk := { s.lnk with bo := (q, n, from_) :: s.lnk.bo } }

/-- Both rings draw. -/
def State.contend (s : State) : State := (s.draw1 56).draw1 57

/-- The core clock at which a ring's count reaches 0; none when it does not contend. -/
def State.accessAt (s : State) (q : Nat) : Option Nat :=
  (s.lnk.bo.find? (fun x => x.1 == q)).map (fun x => x.2.2 + x.2.1 * s.slot)

/-- A ring's backoff is spent. -/
def State.endBackoff (s : State) (q : Nat) : State :=
  { s with lnk := { s.lnk with bo := s.lnk.bo.filter (fun x => x.1 != q) } }

end Sys2Proof.Machine
end

