-- ==== Sys2Proof/Machine/Trig.lean ====
section
/-! DEFINITION. Sines, azimuths and powers of ten in fixed point, for the projections and weights of chapter 4 (R93, R100,
R113). Results carry 60 bits or more beyond the units the rules round to. -/

namespace Sys2Proof.Machine

open Sys2Proof

/-- 2π in units of 2^-128. -/
def twoPi128 : Int := 2138057168129933495719360746323741566601

/-- 1 / 2π in units of 2^-128. -/
def invTwoPi128 : Int := 54157620742477409023451113735280473968

/-- The terms x^k / k! of a Taylor series with alternating pairs: `k` terms more, each the one before times
θ / n; the sums of the even and of the odd terms with their signs, in units of 2^-128. -/
def taylor : Nat → Int → Nat → Int → Int × Int
  | 0, _, _, _ => (0, 0)
  | k + 1, th, n, t =>
    let (c, s) := taylor k th (n + 1) (t * th / 2 ^ 128 / (n + 1))
    let t' := if n / 2 % 2 = 0 then t else -t
    if n % 2 = 0 then (c + t', s) else (c, s + t')

/-- Cosine and sine of `a` / 2^40 turn, in units of 2^-128. (log 89: DEDUCED, unsafe.) -/
def cosSin (a : Int) : Int × Int := taylor 64 (sx 40 (wrap40 a) * twoPi128 / 2 ^ 40) 0 (2 ^ 128)

/-- Shift a vector right by `k` bits. -/
def shiftVec (k : Nat) (x y : Int) : Int × Int := (x / (2 ^ k : Nat), y / (2 ^ k : Nat))

/-- Bring a vector to a magnitude of about 2^320. -/
def normVec (x y : Int) : Int × Int :=
  let l := (x.natAbs + y.natAbs).log2
  if l ≤ 320 then (x * (2 ^ (320 - l) : Nat), y * (2 ^ (320 - l) : Nat)) else shiftVec (l - 320) x y

/-- The first `k` bits of the angle of (x, y) as a fraction of a turn: each bit is the half plane of the vector, and
squaring it as a complex number doubles the angle. -/
def angleBits : Nat → Int → Int → Nat
  | 0, _, _ => 0
  | k + 1, x, y =>
    let b := b2n (decide (y < 0) || (decide (y = 0) && decide (x < 0)))
    let (x', y') := normVec (x * x - y * y) (2 * x * y)
    b * 2 ^ k + angleBits k x' y'

/-- The angle of (x, y) counted from the x axis toward the y axis, in units of 2^-100 turn; free for a null vector.
(log 89: DEDUCED, unsafe.) -/
def angle100 (x y : Int) : Nat :=
  if x = 0 && y = 0 then Config.nullAzimuth % 2 ^ 100
  else
    let (a, b) := normVec x y
    angleBits 100 a b

/-- An angle in units of 2^-100 turn, wrapped into ±1/2 turn and rounded to units of 2^-40 turn, ties away from zero. -/
def turn40 (a : Int) : Int := roundAway (sx 100 (wrapW 100 a)) (2 ^ 60)

/-- The azimuth of the direction (east, north), clockwise from north, in units of 2^-100 turn. -/
def azimuth (e n : Int) : Int := angle100 n e

/-- 10^(k/10) for k from 0 to 9, in units of 2^-64. -/
def tenths : List Nat := [18446744073709551616, 23223074879256410845, 29236119105494656992, 36806093284148180566, 46336126144280780434,
  58333726687135158849, 73437810891090031263, 92452726317327695260, 116391086550535208933, 146527696564803094700]

/-- 10^(k / 10), in units of 2^-64. (log 89: DEDUCED, unsafe.) -/
def pow10 (k : Nat) : Nat := 10 ^ (k / 10) * tenths.getD (k % 10) (2 ^ 64)

end Sys2Proof.Machine
end

