-- ==== Sys2Proof/Machine/Solve.lean ====
section
/-! DEFINITION. What a fix is computed with (R93, R95, R99, R100): weighted least squares over pseudoranges, and the local frame
at the reference point of WGS 84. Lengths in the solution are in units of 2^-20 mm, unit vectors in units of 2^-30. -/

namespace Sys2Proof.Machine

open Sys2Proof

/-! ### Linear equations -/

/-- Solve `n` equations, each the coefficients followed by the right side, by elimination; none when they are singular. -/
def solveLin : Nat → List (List Int) → Option (List Rat)
  | 0, _ => some []
  | n + 1, rows =>
    match rows.find? (fun r => r.headD 0 != 0) with
    | none => none
    | some p =>
      let a := p.headD 0
      let less := fun (r : List Int) => ((r.zip p).map (fun x => a * x.1 - r.headD 0 * x.2)).tail
      match solveLin n ((rows.erase p).map less) with
      | none => none
      | some xs =>
        let s := ((p.tail.zip xs).map (fun (x : Int × Rat) => (x.1 : Rat) * x.2)).foldl (· + ·) 0
        some ((((p.getLastD 0 : Int) : Rat) - s) / (a : Rat) :: xs)

/-- The normal equations of weighted rows (weight, coefficients, right side) in `u` unknowns. -/
def normalEqs (u : Nat) (rows : List (Int × List Int × Int)) : List (List Int) :=
  (List.range u).map (fun i => (List.range (u + 1)).map (fun j =>
    (rows.map (fun r => r.1 * r.2.1.getD i 0 * (if j < u then r.2.1.getD j 0 else r.2.2))).foldl (· + ·) 0))

/-- The weighted least-squares solution of rows whose coefficients are in units of 2^-30, in the units of their right sides. -/
def leastSquares (u : Nat) (rows : List (Int × List Int × Int)) : Option (List Rat) :=
  (solveLin u (normalEqs u rows)).map (fun xs => xs.map (fun x => x * ((2 ^ 30 : Nat) : Rat)))

/-! ### Points in space -/

/-- A point or direction in three dimensions. -/
structure Vec where
  x : Int
  y : Int
  z : Int
deriving DecidableEq, Repr

def Vec.sub (a b : Vec) : Vec := { x := a.x - b.x, y := a.y - b.y, z := a.z - b.z }
def Vec.dot (a b : Vec) : Int := a.x * b.x + a.y * b.y + a.z * b.z
def Vec.list (a : Vec) : List Int := [a.x, a.y, a.z]

/-- The length of a vector, rounded down. -/
def Vec.len (a : Vec) : Int := isqrtFrom 140 (a.dot a).toNat 0

/-- The unit vector from `b` to `a`, in units of 2^-30; null when the points coincide. -/
def unitFrom (b a : Vec) : Vec :=
  let d := a.sub b
  let r := d.len
  { x := d.x * 2 ^ 30 / r, y := d.y * 2 ^ 30 / r, z := d.z * 2 ^ 30 / r }

/-- Semi-major axis of WGS 84 in mm, and its first eccentricity squared in units of 10^-14. -/
def wgsA : Nat := 6378137000
def wgsE2 : Nat := 669437999014

/-- The local frame at a reference point: its position in units of 2^-20 mm, and the unit vectors east and north in units of
2^-128 (R100, Table 4-15). -/
structure RefFrame where
  o : Vec
  east : Vec
  north : Vec
deriving DecidableEq, Repr

/-- The frame at a latitude and longitude in units of 2^-40 turn and a height in mm. (log 193: PRESUMED, unsafe.) -/
def frameAt (lat lon hgt : Int) : RefFrame :=
  let (cp, sp) := cosSin lat
  let (cl, sl) := cosSin lon
  let one : Int := 2 ^ 128
  let s2 := sp * sp / one
  let root : Int := isqrtFrom 140 ((one - wgsE2 * s2 / 10 ^ 14) * one).toNat 0
  let n := wgsA * 2 ^ 20 * one / root
  let h := hgt * 2 ^ 20
  { o := { x := (n + h) * (cp * cl / one) / one, y := (n + h) * (cp * sl / one) / one
           z := (n * (10 ^ 14 - wgsE2) / 10 ^ 14 + h) * sp / one }
    east := { x := -sl, y := cl, z := 0 }
    north := { x := -(sp * cl / one), y := -(sp * sl / one), z := cp } }

/-- East and north components in a frame, in the vector's own units. -/
def RefFrame.local (f : RefFrame) (v : Vec) : Int × Int := (v.dot f.east / 2 ^ 128, v.dot f.north / 2 ^ 128)

/-! ### The fix (R93) -/

/-- A satellite in a fix: its channel, whether it is Galileo's, elevation in degrees, C/N0 in dB-Hz, its position and its
pseudorange in mm. -/
structure Ranged where
  n : Nat
  gal : Bool
  el : Nat
  cn0 : Nat
  p : Vec
  rho : Int
deriving DecidableEq, Repr

/-- σ² of R93 in mm², in units of 2^-64; none on the horizon, where it has no bound. (log 90: DEDUCED, unsafe.) -/
def variance (el cn0 : Nat) : Option Nat :=
  let sn := (cosSin ((el : Int) * 2 ^ 40 / 360)).2 / 2 ^ 64
  let sin2 := (sn * sn / 2 ^ 64).toNat
  if sin2 = 0 then none else some (250000 * (2 ^ 64 + 2 ^ 128 / sin2) * pow10 (40 - cn0) / 2 ^ 64)

/-- The weight 1/σ² of R93, in units of 2^-50 mm^-2; a satellite on the horizon has none. -/
def weightOf (el cn0 : Nat) : Int :=
  match variance el cn0 with
  | none => 0
  | some v => ((2 ^ 114 / v : Nat) : Int)

/-- The unknowns of a fix: position, receiver clock bias, and the GPS–Galileo time offset as a length (R93). -/
structure Sol where
  pos : Vec
  b : Int := 0
  g : Int := 0
deriving DecidableEq, Repr

/-- The row of a satellite in `u` unknowns: its direction and the biases. -/
def Ranged.row (x : Ranged) (u : Nat) (at_ : Vec) : List Int :=
  let sat : Vec := { x := x.p.x * 2 ^ 20, y := x.p.y * 2 ^ 20, z := x.p.z * 2 ^ 20 }
  (unitFrom sat at_).list ++ [2 ^ 30] ++ (if u = 5 then [if x.gal then 2 ^ 30 else 0] else [])

/-- The residual of a satellite: its pseudorange less what the solution predicts. -/
def Ranged.resid (x : Ranged) (s : Sol) : Int :=
  let sat : Vec := { x := x.p.x * 2 ^ 20, y := x.p.y * 2 ^ 20, z := x.p.z * 2 ^ 20 }
  x.rho * 2 ^ 20 - (s.pos.sub sat).len - s.b - (if x.gal then s.g else 0)

/-- Steps of the least-squares solution: linearised at each, the first at the starting point. (log 193: PRESUMED, unsafe.) -/
def solveFrom (u : Nat) (xs : List Ranged) : Nat → Sol → Option Sol
  | 0, s => some s
  | k + 1, s =>
    match leastSquares u (xs.map (fun x => (weightOf x.el x.cn0, x.row u s.pos, x.resid s))) with
    | none => none
    | some ds =>
      let d := fun (i : Nat) => (ds.getD i 0).floor
      solveFrom u xs k { pos := { x := s.pos.x + d 0, y := s.pos.y + d 1, z := s.pos.z + d 2 }
                         b := s.b + d 3, g := s.g + d 4 }

/-- u of R93: 5 with both constellations, else 4. -/
def unknownsOf (xs : List Ranged) : Nat := if xs.any (·.gal) && xs.any (fun x => !x.gal) then 5 else 4

/-- The fix of satellites from a starting point; none with fewer satellites than unknowns, or when they do not determine it. -/
def fixOf (start : Vec) (xs : List Ranged) (u : Nat) : Option Sol :=
  if xs.length < u then none else solveFrom u xs 12 { pos := start }

/-- S of R94, in units of 2^-64. -/
def sumS (xs : List Ranged) (s : Sol) : Nat :=
  (xs.map (fun x => match variance x.el x.cn0 with
    | none => 0
    | some v => let r := x.resid s; (r * r).toNat * 2 ^ 88 / v)).foldl (· + ·) 0

/-- The horizontal dilution of precision in units of 0.1, rounded down, in a frame. (log 194: PRESUMED, unsafe.) -/
def hdopOf (f : RefFrame) (xs : List Ranged) (s : Sol) (u : Nat) : Nat :=
  let rows := xs.map (fun x =>
    let r := x.row u s.pos
    let d : Vec := { x := r.getD 0 0, y := r.getD 1 0, z := r.getD 2 0 }
    let (e, n) := f.local d
    let up := (d.dot { x := f.east.y * f.north.z, y := -(f.east.x * f.north.z), z := f.east.x * f.north.y - f.east.y * f.north.x }) / 2 ^ 256
    [e, n, up] ++ r.drop 3)
  let q := fun (k : Nat) =>
    let eqs := (List.range u).map (fun i => (List.range (u + 1)).map (fun j =>
      if j < u then (rows.map (fun r => r.getD i 0 * r.getD j 0)).foldl (· + ·) 0 else if i = k then (2 : Int) ^ 60 else 0))
    ((solveLin u eqs).getD []).getD k 0
  isqrt ((q 0 + q 1) * 100).floor.toNat

/-- The change that weighted rates or changes of range give, with one for the clock: the vector, in the units given; none with
fewer than four satellites or when they do not determine it (R99, R100). -/
def changeOf (at_ : Vec) (xs : List (Ranged × Int)) : Option Vec :=
  (leastSquares 4 (xs.map (fun x => (weightOf x.1.el x.1.cn0, x.1.row 4 at_, x.2)))).map (fun ds =>
    { x := (ds.getD 0 0).floor, y := (ds.getD 1 0).floor, z := (ds.getD 2 0).floor })

end Sys2Proof.Machine
end

