-- ==== Sys2Proof/Machine/Gnss.lean ====
section
/-! DEFINITION. The GNSS baseband: antenna, interference, acquisition and tracking, fixes and their checks, and GNSS travel
(chapter 4, R82 to R102, with R62, R69 and R70). -/

namespace Sys2Proof.Machine

open Sys2Proof

/-! ### Whether the baseband runs (R117, Table 4-9) -/

/-- BOOT and DORMANT switch the baseband off. -/
def State.gnssPowered (s : State) : Bool := s.modeNow ≠ modeBoot && s.modeNow ≠ modeDormant

/-- Continuous tracking: MODE 01b or 11b. -/
def State.tracking (s : State) : Bool := s.gnssPowered && s.flag F.GNB_CFG_MODE

/-- Snapshots: MODE 10b or 11b. -/
def State.snapping (s : State) : Bool := s.gnssPowered && s.fld F.GNB_CFG_MODE ≥ 2

def State.setGnb (s : State) (x : GnbSt) : State := { s with gnb := x }
def State.chan (s : State) (n : Nat) : GnssCh := spGet (fun _ => {}) s.gnb.ch n
def State.setChan (s : State) (n : Nat) (x : GnssCh) : State := s.setGnb { s.gnb with ch := spSet (fun _ => {}) s.gnb.ch n x }

/-- Free a tracking channel. -/
def State.freeChan (s : State) (n : Nat) : State := (s.setReg (F.GNB_CHk_w n).addr 0).setChan n {}

/-- The baseband stops tracking: its channels are free, no fix stands, and the anchor is lost. (log 97: DEDUCED, unsafe.) -/
def State.gnssOff (s : State) : State :=
  let s := (List.range 48).foldl State.freeChan s
  let s := s.setReg F.GNB_STAT_w.addr (putBits (putBits (s.reg F.GNB_STAT_w.addr) F.GNB_STAT_STATE 0) F.GNB_STAT_NTRK 0)
  s.setGnb { s.gnb with
    lastFix := none, anchor := none, clkRun := [], clkOk := false, runs := [], bins := [], notch := []
    excl := [], sbas := [], sbasOff := [] }

/-- The next of the ten instants of each second, s × 2^20 + floor(k × 2^20 / 10), that class `c` has not taken (R93). -/
def State.takeTenth (s : State) (c : Nat) : State :=
  let o := s.now % 2 ^ 20
  let ks := (List.range 21).map (fun k => k / 10 * 2 ^ 20 + k % 10 * 2 ^ 20 / 10)
  let ts := (ks.filter (fun x => o ≤ x)).map (fun x => (s.now - o + x) % mod40)
  let t := match ts with
    | a :: b :: _ => if s.takenAt c = some a then b else a
    | _ => s.now
  let s := s.advTo t
  { s with clk := { s.clk with taken := spPut s.clk.taken c t } }

/-! ### Antenna (R85) -/

/-- Whether the antenna is biased. -/
def State.biased (s : State) : Bool :=
  (s.fld F.GNB_CFG_BIAS = 1 || s.fld F.GNB_CFG_BIAS = 2) && s.gnssPowered && s.gnb.antOff.isNone

/-- The bias current, in µA, as the flags judge it. (log 99: DEDUCED, unsafe.) -/
def State.antenna (s : State) (ua : Nat) : State :=
  if ua > 80000 then
    let s := s.setGnb { s.gnb with antOff := some s.clk.cc }
    if s.flag F.GNB_STAT_ANTSHORT then s else (s.setFlag F.GNB_STAT_ANTSHORT true).report srcAntenna 0
  else if ua < 2000 then
    if s.flag F.GNB_STAT_ANTOPEN then s else (s.setFlag F.GNB_STAT_ANTOPEN true).report srcAntenna 0
  else s.setFlag F.GNB_STAT_ANTOPEN false

/-- ANTENNA_FAULT (R85): the bias current, `ua` µA, lies below 2 mA or above 80 mA. -/
def execAntennaFault (ua : Nat) (s : State) : Host.Outcome State Fault Refusal := s.clocked fun s =>
  if s.biased && (ua < 2000 || ua > 80000) then ok (s.antenna ua) else ok s

/-- ANTENNA_BIAS_RETRY (R85): 10 s after a short removed the bias it is applied again, and `ua` µA flow.
(log 99: DEDUCED, unsafe.) -/
def execAntennaBiasRetry (ua : Nat) (s : State) : Host.Outcome State Fault Refusal := s.clocked fun s =>
  match s.gnb.antOff with
  | none => ok s
  | some c =>
    let s := (s.advCcTo (c + secClocks 10)).setGnb { s.gnb with antOff := none }
    if !s.biased then ok s
    else if ua > 80000 then ok (s.antenna ua)
    else ok ((s.setFlag F.GNB_STAT_ANTSHORT false).antenna ua)

/-- ANTENNA_FAULT_END (R85): the bias current is back within 2 to 80 mA. -/
def execAntennaFaultEnd (ua : Nat) (s : State) : Host.Outcome State Fault Refusal := s.clocked fun s =>
  if s.biased && 2000 ≤ ua && ua ≤ 80000 then ok (s.antenna ua) else ok s

/-! ### Interference (R87 to R89) -/

/-- Show a notch. -/
def State.showNotch (s : State) (k : Nat) (x : Notch) : State :=
  ((s.setFlag (F.GNB_NOTCHk_ACT k) true).setFld (F.GNB_NOTCHk_PWR k) (min 255 x.pwr)).setFldSat (F.GNB_NOTCHk_FREQ k) x.freq

/-- Release a notch. (log 100: DEDUCED, unsafe.) -/
def State.dropNotch (s : State) (k : Nat) : State :=
  (s.setReg (F.GNB_NOTCHk_w k).addr 0x8000).setGnb { s.gnb with notch := spDel s.gnb.notch k }

/-- Notch `k` in use as `x`. -/
def State.putNotch (s : State) (k : Nat) (x : Notch) : State :=
  (s.setGnb { s.gnb with notch := spPut s.gnb.notch k x }).showNotch k x

/-- Assign notch `k` to a bin. -/
def State.giveNotch (s : State) (k : Nat) (b : SpecBin) : State :=
  s.putNotch k { bin := b.bin, pwr := b.pwr, freq := b.freq }

/-- Half of the −3 dB width that WIDTH sets, in units of 100 Hz (Table 4-14). -/
def State.halfWidth (s : State) : Nat := 50 * 2 ^ s.fld F.GNB_NCFG_WIDTH

/-- Whether notch `x` removes the interferer of bin `b`: it is the notch's bin, or lies within its width. -/
def State.filtered (s : State) (x : Notch) (b : SpecBin) : Bool :=
  b.bin.val == x.bin || decide ((b.freq - x.freq).natAbs ≤ s.halfWidth)

/-- Whether the interferer of a notch at bin `n` can stand in bin `b` 1 ms later: the bin itself or a neighbour. -/
def nearBin (n : Nat) (b : SpecBin) : Bool :=
  b.bin.val == n || b.bin.val == (n + 1) % 256 || (b.bin.val + 1) % 256 == n

/-- The strongest of some bins. -/
def strongest : List SpecBin → Option SpecBin
  | [] => none
  | b :: m => match strongest m with
    | none => some b
    | some c => if c.pwr > b.pwr then some c else some b

/-- A notch follows its interferer's frequency, into a neighbouring bin when the interferer is strongest there, or is released
when that has stayed more than 3 dB below THR for 1.0 s. (log 100: DEDUCED, unsafe.) -/
def State.followNotch (s : State) (bs : List SpecBin) (k : Nat) (x : Notch) : State :=
  let thr := 8 * s.fld F.GNB_NCFG_THR
  let taken := fun (b : SpecBin) => s.gnb.notch.any (fun p => p.1 != k && p.2.bin == b.bin.val)
  let x := match strongest (bs.filter (fun b => nearBin x.bin b && !taken b)) with
    | some b => { x with bin := b.bin.val, pwr := b.pwr, freq := b.freq }
    | none => { x with pwr := 0 }
  let low := if x.pwr + 24 < thr then some (x.low.getD s.clk.cc) else none
  let s := s.putNotch k { x with low := low }
  match low with
  | some c => if s.clk.cc ≥ c + secClocks 1 then s.dropNotch k else s
  | none => s

/-- The weakest notch in use: its number and the power of its interferer. -/
def State.weakNotch (s : State) : Option (Nat × Nat) :=
  s.gnb.notch.foldl (fun a p =>
    match a with
    | some (_, v) => if p.2.pwr < v then some (p.1, p.2.pwr) else a
    | none => some (p.1, p.2.pwr)) none

/-- An interferer without a notch: it takes a free one, or counts when newly found and may take over the weakest.
(log 100: DEDUCED, unsafe.) -/
def State.serveBin (s : State) (b : SpecBin) : State :=
  let run := spGet (fun _ => 0) s.gnb.bins b.bin
  if run < 10 || s.gnb.notch.any (fun p => s.filtered p.2 b) then s
  else
    match (List.range 4).find? (fun k => !s.gnb.notch.any (fun p => p.1 == k)) with
    | some k => s.giveNotch k b
    | none =>
      let s := if run = 10 then s.inc F.GNB_NCFG_OVF else s
      match s.weakNotch with
      | some (k, w) => if b.pwr ≥ w + 24 then s.giveNotch k b else s
      | none => s

/-- Insert by falling power. -/
def insBin (b : SpecBin) : List SpecBin → List SpecBin
  | [] => [b]
  | c :: m => if b.pwr > c.pwr then b :: c :: m else c :: insBin b m

/-- SPECTRAL_MONITOR (R87): the spectrum of the next 1 ms instant. (log 100: DEDUCED, unsafe.) -/
def execSpectralMonitor (bins : List SpecBin) (s : State) : Host.Outcome State Fault Refusal := s.clocked fun s =>
  if !s.gnssPowered || s.fld F.GNB_CFG_MODE = 0 then ok s
  else
    let s := s.takeInstant clsSpectral 1024 0
    let high := bins.filter (fun b => b.pwr > 8 * s.fld F.GNB_NCFG_THR)
    let runs := high.foldl (fun m b => spPut m b.bin.val (min 11 (spGet (fun _ => 0) s.gnb.bins b.bin + 1))) []
    let s := s.setGnb { s.gnb with bins := runs }
    if s.flag F.GNB_NCFG_EN then
      let s := s.gnb.notch.foldl (fun s p => s.followNotch bins p.1 p.2) s
      ok ((high.foldl (fun m b => insBin b m) []).foldl State.serveBin s)
    else ok (s.gnb.notch.foldl (fun s p => s.dropNotch p.1) s)

/-- JAM ≥ JAMSTOP (R89). -/
def State.jammed (s : State) : Bool := s.fld F.GNB_JAM_JAM ≥ s.fld F.GNB_JAM_JAMSTOP

/-- JAM_UPDATE (R88, R89): at the next 100 ms instant, from the calibration gain and the mean gain of the period, in units of
1/256 dB. (log 101: DESIGN CHOICE, unsafe.) -/
def execJamUpdate (gcal g : Int) (s : State) : Host.Outcome State Fault Refusal := s.clocked fun s =>
  if !s.gnssPowered || s.fld F.GNB_CFG_MODE = 0 then ok s
  else
    let s := s.takeTenth clsJam
    let s := s.setFld F.GNB_JAM_JAM (clampI 0 255 (roundAway (8 * (gcal - g)) 256)).toNat
    let s := s.setFld F.GNB_JAM_AGC (clampI 0 255 (freeRound 61 (4 * g) 256)).toNat
    if s.fld F.GNB_JAM_JAM ≥ s.fld F.GNB_JAM_JAMWARN && s.elapsed s.gnb.jamRep (secClocks 10) then
      ok ((s.setGnb { s.gnb with jamRep := some s.clk.cc }).report srcInterf 0)
    else ok s

/-! ### Acquisition and tracking (R83, R84, R90 to R92) -/

/-- Constellations by SV code (Table 4-17). -/
def svGps (v : Nat) : Bool := 1 ≤ v && v ≤ 32
def svGal (v : Nat) : Bool := 65 ≤ v && v ≤ 100
def svSbas (v : Nat) : Bool := 120 ≤ v && v ≤ 158

/-- Whether the node uses the satellite's system (Table 4-9). -/
def State.svEnabled (s : State) (v : Nat) : Bool :=
  (svGps v && s.flag F.GNB_CFG_GPS) || (svGal v && s.flag F.GNB_CFG_GAL) || (svSbas v && s.flag F.GNB_CFG_SBAS)

def State.chSv (s : State) (n : Nat) : Nat := s.fld (F.GNB_CHk_SV n)
def State.chTrk (s : State) (n : Nat) : Nat := s.fld (F.GNB_CHk_STATE n)

/-- NTRK: channels in state 3 or 4. -/
def State.showTracking (s : State) : State :=
  let n := ((List.range 48).filter (fun n => s.chTrk n ≥ 3)).length
  let s := s.setFld F.GNB_STAT_NTRK n
  if s.fld F.GNB_STAT_STATE < 3 then s.setFld F.GNB_STAT_STATE (if n = 0 then 1 else 2) else s

/-- The lowest satellite among channels. -/
def State.lowest (s : State) (ns : List Nat) : Option Nat :=
  ns.foldl (fun a n => match a with
    | some m => if s.fld (F.GNB_CHk_EL n) < s.fld (F.GNB_CHk_EL m) then some n else a
    | none => some n) none

/-- The channel for a satellite (R84): its own; for a fourth SBAS satellite that of the lowest SBAS satellite, when that stands
lower; a free one, or that of the lowest satellite when that stands lower. (log 102: DESIGN CHOICE, safe.) -/
def State.channelFor (s : State) (sv el : Nat) : Option Nat × State :=
  let ns := List.range 48
  let below := fun (c : Option Nat) => c.filter (fun n => s.fld (F.GNB_CHk_EL n) < el)
  match ns.find? (fun n => s.chSv n == sv) with
  | some n => (some n, s)
  | none =>
    let sb := ns.filter (fun n => svSbas (s.chSv n))
    if svSbas sv && sb.length ≥ 3 then (below (s.lowest sb), s)
    else
      let free := ns.filter (fun n => s.chSv n == 0)
      if free.length ≠ 0 then
        let (k, s) := s.draw free.length
        (free[k]?, s)
      else (below (s.lowest ns), s)

/-- Channels whose satellites are switched off, or no longer stand above ELMASK, are free (R84).
(log 102: DESIGN CHOICE, safe.) -/
def State.releaseChans (s : State) : State :=
  (List.range 48).foldl (fun s n =>
    if s.chSv n ≠ 0 && (!s.svEnabled (s.chSv n) || (s.chTrk n ≥ 2 && s.fld (F.GNB_CHk_EL n) ≤ s.fld F.GNB_CFG_ELMASK))
    then s.freeChan n else s) s

/-- T of Table 4-1 for a satellite, in ms, with COH within its range. -/
def State.coherent (s : State) (sv : Nat) : Nat :=
  let c := clampN 1 20 (s.fld F.GNB_ACQ_COH)
  if svGal sv then 4 * ((c + 3) / 4) else c

/-- Whether the navigation data of a satellite is held and under 4 h old (R117, Table 4-2). -/
def State.hasEph (s : State) (sv : Nat) : Bool :=
  s.gnb.nav.any (fun p => p.1 == sv && decide (s.clk.cc < p.2 + secClocks 14400))

/-- Whether a search is aided (R90): data of the satellite, a position and time are held. (log 195: DEDUCED, unsafe.) -/
def State.aided (s : State) (sv : Nat) : Bool :=
  s.gnb.nav.any (fun p => p.1 == sv) && s.gnb.pos.isSome && s.fld F.TBS_STAT_STATE ≠ 0

/-- Bins on either side of the centre that a search covers, 1 / (2T) apart: ±DOPMAX kHz, or ±500 Hz when aided (R90). -/
def State.searchBins (s : State) (sv : Nat) : Nat :=
  if s.aided sv then s.coherent sv else 2 * s.coherent sv * clampN 1 10 (s.fld F.GNB_ACQ_DOPMAX)

/-- Whether the searches detect and confirm a satellite (R90): both peaks reach ACQTHR, the first within the Doppler range, the
second within ±1 bin and ±2 chips of it. -/
def State.detects (s : State) (sv : Nat) (p q : Peak) : Bool :=
  let thr := s.fld F.GNB_ACQ_ACQTHR
  p.ratio ≥ thr && q.ratio ≥ thr && p.bin.natAbs ≤ s.searchBins sv && (q.bin - p.bin).natAbs ≤ 1 && (q.chip - p.chip).natAbs ≤ 8

/-- ACQUISITION_DETECTION (R90): a search finds satellite `sv` at elevation `el` with its peak `ratio`, and the second search
with `confirm`; confirmed, it starts tracking above ELMASK. -/
def execAcquisitionDetection (sv el cn0 : Nat) (ratio confirm : Peak) (s : State) : Host.Outcome State Fault Refusal := s.clocked fun s =>
  if !s.tracking || !s.svEnabled sv || !s.detects sv ratio confirm || el ≤ s.fld F.GNB_CFG_ELMASK || el > 90 then ok s
  else
    match s.channelFor sv el with
    | (none, s) => ok s
    | (some n, s) =>
      if s.chSv n = sv && s.chTrk n ≥ 2 then ok s
      else
        let s := (s.freeChan n).setChan n { handed := s.clk.cc }
        let s := ((s.setFld (F.GNB_CHk_SV n) sv).setFld (F.GNB_CHk_EL n) el).setFld (F.GNB_CHk_CN0 n) (min 63 cn0)
        ok (s.setFld (F.GNB_CHk_STATE n) 2).showTracking

/-- CYCLE_SLIP (R92): the phase-lock indicator of channel `n`, averaged over 100 ms, is `ind` / 1000. -/
def execCycleSlip (n : Fin 48) (ind : Nat) (s : State) : Host.Outcome State Fault Refusal := s.clocked fun s =>
  if s.tracking && s.chTrk n ≥ 2 && ind < 600 then ok (s.setChan n { s.chan n with slip := some s.clk.cc }).completed else ok s

/-- LOSS_OF_LOCK (R92): C/N0 of channel `n` has stayed at `cn0` dB-Hz or lower for 1.0 s; below LOSSCN the channel returns
to aided acquisition. -/
def execLossOfLock (n : Fin 48) (cn0 : Nat) (s : State) : Host.Outcome State Fault Refusal := s.clocked fun s =>
  if s.tracking && s.chTrk n ≥ 2 && cn0 < s.fld F.GNB_TRK_LOSSCN then
    let s := ((s.setFld (F.GNB_CHk_STATE n) 1).setFld (F.GNB_CHk_CN0 n) cn0).setFlag (F.GNB_CHk_USED n) false
    ok s.showTracking.completed
  else ok s

/-! ### SBAS (R83) -/

/-- The message types the node applies. -/
def sbasTypes : List Nat := [1, 2, 3, 4, 5, 6, 7, 9, 10, 17, 18, 24, 25, 26]

/-- Whether the SBAS satellite `sv` is out of use for a message of type 0. -/
def State.sbasStopped (s : State) (sv : Nat) : Bool :=
  s.gnb.sbasOff.any (fun p => p.1 == sv && decide (s.clk.cc < p.2))

/-- A message of an SBAS satellite that is tracked (R83): type 0 stops the use of its sender for 60 s; the types applied give a
correction, to GPS satellites only, or the mark "do not use". (log 176: DESIGN CHOICE, safe.) -/
def State.takeSbas (s : State) (m : SbasMsg) : State :=
  let from_ := s.chSv m.n
  if !s.flag F.GNB_CFG_SBAS || !svSbas from_ || s.chTrk m.n < 2 then s
  else if m.type = 0 then
    s.setGnb { s.gnb with
      sbasOff := spPut s.gnb.sbasOff from_ (s.clk.cc + secClocks 60), sbas := s.gnb.sbas.filter (fun p => p.2.sender != from_) }
  else if s.sbasStopped from_ || !sbasTypes.contains m.type then s
  else
    s.setGnb { s.gnb with sbas := spPut s.gnb.sbas m.sv { sender := from_, corr := if svGps m.sv then m.corr else 0, dnu := m.dnu } }

/-- What SBAS says of a satellite, while its use is on. -/
def State.sbasOf (s : State) (sv : Nat) : Option SbasInfo :=
  if s.flag F.GNB_CFG_SBAS then (s.gnb.sbas.find? (fun p => p.1 == sv)).map (·.2) else none

/-! ### Residual check (R93 to R95) -/

/-- T(dof) in hundredths (Table 4-3). -/
def threshold (dof : Nat) : Nat :=
  if dof ≤ 10 then [1951, 2303, 2590, 2847, 3086, 3311, 3526, 3733, 3934, 4130].getD (dof - 1) 0 else 4130 + 200 * (dof - 10)

/-- Whether S passes with `dof`. -/
def passesS (sq dof : Nat) : Bool := dof ≥ 1 && sq * 100 ≤ threshold dof * 2 ^ 64

/-- Whether satellite `sv` is excluded (R95). -/
def State.excluded (s : State) (sv : Nat) : Bool :=
  s.gnb.excl.any (fun p => p.1 == sv && decide (s.clk.cc < p.2))

/-- Whether channel `n` may be used in a fix: tracked with its navigation data, and not marked or excluded. SBAS satellites are
not ranged. (log 196: DESIGN CHOICE, unsafe.) -/
def State.usable (s : State) (n : Nat) : Bool :=
  let sv := s.chSv n
  s.chTrk n ≥ 3 && s.hasEph sv && s.svEnabled sv && !svSbas sv && !s.excluded sv && (s.sbasOf sv).all (fun x => !x.dnu)

/-- Half a chip as a length, in mm. -/
def halfChip : Int := 146526

/-- A satellite's part in the fix: its pseudorange with the SBAS correction, and on Galileo with the half chip that the bump-jump
test moves the code (R83, R91). (log 197: DEDUCED, unsafe.) -/
def State.ranged (s : State) (x : ChMeas) : Ranged :=
  let sv := s.chSv x.n
  let corr := ((s.sbasOf sv).map (·.corr)).getD 0
  { n := x.n, gal := svGal sv, el := s.fld (F.GNB_CHk_EL x.n), cn0 := s.fld (F.GNB_CHk_CN0 x.n)
    p := { x := x.sx, y := x.sy, z := x.sz }
    rho := x.rho + corr + (if svGal sv then clampI (-1) 1 x.side * halfChip else 0) }

/-- The satellites of an epoch that may be used, each channel once. -/
def State.sats (s : State) (m : FixMeas) : List ChMeas :=
  (m.chans.foldl (fun (a : List ChMeas) x => if a.any (fun y => y.n == x.n) then a else a ++ [x]) []).filter (fun x => s.usable x.n)

/-- The frame at the reference point (Table 4-15). -/
def State.frame (s : State) : RefFrame := frameAt (s.fldI F.GNB_REFLAT_LAT) (s.fldI F.GNB_REFLON_LON) (s.fldI F.GNB_REFHGT_HGT)

/-- Where the solution starts: the last position, else the reference point. -/
def State.fixStart (s : State) : Vec :=
  match s.gnb.pos with
  | some (x, y, z) => { x := x * 2 ^ 20, y := y * 2 ^ 20, z := z * 2 ^ 20 }
  | none => s.frame.o

/-- The outcome of the residual check: whether it passes, and without which satellite, and the satellites and solution in
force. -/
inductive Check where
  | fail
  | pass (xs : List Ranged) (x : Sol)
  | without (n : Nat) (xs : List Ranged) (x : Sol)
deriving DecidableEq, Repr

/-- The removals of R95 that pass: each satellite in turn is left out. -/
def removals (start : Vec) (xs : List Ranged) : List (Nat × List Ranged × Sol) :=
  xs.filterMap (fun r =>
    let ys := xs.filter (fun y => y.n != r.n)
    let u := unknownsOf ys
    match fixOf start ys u with
    | some x => if passesS (sumS ys x) (ys.length - u) then some (r.n, ys, x) else none
    | none => none)

/-- R94 and R95 for the solution `x` of the satellites `xs`. -/
def checkFix (start : Vec) (xs : List Ranged) (x : Sol) : Check :=
  let u := unknownsOf xs
  if passesS (sumS xs x) (xs.length - u) then .pass xs x
  else if xs.length ≥ u + 2 then
    match removals start xs with
    | [(n, ys, y)] => .without n ys y
    | _ => .fail
  else .fail

/-! ### Clock check (R96, R97) -/

/-- CLKTHR in force. (log 94: DEDUCED, unsafe.) -/
def State.clkThr (s : State) : Nat := clampN 50 4000 (s.fld F.GNB_CLK_CLKTHR)

/-- The holdover figure of Table 2-2 in ns after `c` core clocks, rounded down. (log 91: DEDUCED, unsafe.) -/
def holdoverFigure (c : Nat) : Nat :=
  if c ≤ secClocks 10 then 1000 * c / secClocks 10
  else if c ≤ secClocks 60 then 1000 + 2000 * (c - secClocks 10) / secClocks 50
  else if c ≤ secClocks 600 then 3000 + 47000 * (c - secClocks 60) / secClocks 540
  else Config.holdoverNs c

/-- The bound on |b|; none in FREERUN. -/
def State.clkBound (s : State) : Option Nat :=
  if s.fld F.TBS_STAT_STATE = 1 then some s.clkThr
  else if s.fld F.TBS_STAT_STATE = 2 then some (s.clkThr + holdoverFigure (s.clk.cc - s.clk.holdFrom))
  else none

/-- Whether values agree within `t`. -/
def agree (t : Nat) (bs : List Int) : Bool := bs.all (fun a => bs.all (fun b => a - b ≤ t))

/-- Of values given newest first, the latest ones that agree within `t` with each other; `got` holds those taken so far. -/
def latestAgreeing (t : Nat) : List Int → List Int → List Int
  | got, [] => got
  | got, b :: m => if agree t (got ++ [b]) then latestAgreeing t (got ++ [b]) m else got

/-- Whether the biases of fixes agree within `t` ns once a common rate within ±20 ppm is removed: the rates that each pair
allows, in units of ns per 2^27 core clocks, have a common value. (log 92: DEDUCED, unsafe.) -/
def agreeRate (t : Nat) (xs : List (Nat × Int)) : Bool :=
  let pairs := xs.flatMap (fun a => (xs.filter (fun b => b.1 < a.1)).map (fun b => (((a.1 - b.1 : Nat) : Rat) / 2 ^ 27, ((a.2 - b.2 : Int) : Rat))))
  let lo := pairs.foldl (fun (m : Rat) p => max m ((p.2 - t) / p.1)) (-20000)
  let hi := pairs.foldl (fun (m : Rat) p => min m ((p.2 + t) / p.1)) 20000
  decide (lo ≤ hi)

/-- Whether the node disciplines from GNSS (R38). (log 93: DEDUCED, unsafe.) -/
def State.gnssDisciplines (s : State) : Bool := s.role = roleActive || s.role = roleStandby

/-- Give the bias of a fix to the timebase (R98), and GPS time and leap seconds to TBS_WRAP and TBS_LEAP (R31). -/
def State.giveBias (s : State) (m : FixMeas) (b : Int) : State :=
  if s.gnssDisciplines then
    (s.discipline b false).setWrap (m.gps * 2 ^ 20 / mod40) (m.gps * 2 ^ 20 % mod40) m.leap
  else s

/-- The clock check of a passing fix with bias `b`: STATE, the counters and the discipline. A bias beyond
GNB_CLKRES saturates there. (log 92: DEDUCED, unsafe; log 93: DEDUCED, unsafe; log 198: DESIGN CHOICE, unsafe.) -/
def State.clockCheck (s : State) (m : FixMeas) (b : Int) : State :=
  let s := s.setFldSat F.GNB_CLKRES_BIAS b
  match s.clkBound with
  | none =>
    let r := ((s.clk.cc, b) :: s.gnb.runs).take 5
    let s := (s.setGnb { s.gnb with runs := r, clkRun := [], clkOk := false }).setFld F.GNB_STAT_STATE 3
    if r.length = 5 && agreeRate s.clkThr r then
      ((s.setGnb { s.gnb with runs := [] }).setFld F.GNB_STAT_STATE 4).giveBias m b
    else s
  | some k =>
    let s := s.setGnb { s.gnb with runs := [] }
    if b.natAbs ≤ k then
      ((s.setGnb { s.gnb with clkRun := [], clkOk := false }).setFld F.GNB_STAT_STATE 4).giveBias m b
    else
      let s := (s.setFld F.GNB_STAT_STATE 3).inc F.GNB_CLK_CLKFAIL
      let fits := agree s.clkThr (b :: s.gnb.clkRun)
      if s.gnb.clkOk && fits then (s.setGnb { s.gnb with clkRun := [], clkOk := false }).giveBias m b
      else
        let k := max 1 (s.fld F.GNB_CLK_CLKN)
        let run := latestAgreeing s.clkThr [] (b :: s.gnb.clkRun.take (k - 1))
        let full := run.length ≥ k
        let s := s.setGnb { s.gnb with clkRun := run, clkOk := full }
        if full then s.report srcGnssClk 0 else s

/-! ### GNSS travel (R99 to R101) -/

/-- The sign that DIR gives to azimuths on a pivot. -/
def State.azSign (s : State) : Int := if s.flag F.TRV_CFG_DIR then -1 else 1

/-- Travel of the last tick at or before system time `t` (R48). -/
def State.travelAt (s : State) (t : Nat) : Nat := histAt t s.travel s.trv.hist

/-- The component of (east, north) along azimuth AXIS, times 2^128. -/
def State.along2 (s : State) (e n : Int) : Int :=
  let (c, sn) := cosSin (s.fld F.GNB_AXIS_AXIS)
  e * sn + n * c

/-- The travel of a fix from its anchor (R100): positions in µm. -/
def State.gnssTravel (s : State) (a : Anchor) : Nat :=
  if s.flag F.TRV_CFG_KIND then add40 a.x (roundAway (1024 * s.along2 a.de a.dn) (1000 * 2 ^ 128))
  else
    let d := azimuth (a.e + a.de) (a.n + a.dn) - azimuth a.e a.n
    add40 a.x (s.azSign * turn40 d)

/-- GNB_GSPEED: the velocity in µm/s projected in the same way, as Q31.8 tc/s; 0 on a pivot with the antenna at the reference
point. (log 199: DESIGN CHOICE, unsafe.) -/
def State.gnssSpeed (s : State) (a : Anchor) (ve vn : Int) : Int :=
  if s.flag F.TRV_CFG_KIND then roundAway (1024 * 256 * s.along2 ve vn) (1000 * 2 ^ 128)
  else
    let e := a.e + a.de
    let n := a.n + a.dn
    let r2 := (e * e + n * n).toNat
    if r2 = 0 then 0 else s.azSign * roundAway ((ve * n - vn * e) * invTwoPi128) (r2 * 2 ^ 80)

/-- The anchor at a fix whose antenna stands `e` and `n` µm from the reference point: travel of the last tick, with the bias and
span offset that it holds kept beside it, so that travel taken from GNSS does not jump (R99, R101). -/
def State.takeAnchor (s : State) (e n : Int) : State :=
  let a : Anchor := { x := s.travelAt s.now, b := s.fldI F.TRV_BIAS_BIAS + s.fldI F.TRV_OFFSET_OFFSET, e := e, n := n }
  (s.setGnb { s.gnb with anchor := some a, reanchor := false }).inc F.GNB_ANCH_ANCHORS

/-- A valid fix at `e`, `n` with the velocity `ve`, `vn` gives GNSS travel, anchoring first when needed. TRAVEN written 0 and 1
again keeps the anchor. (log 200: DESIGN CHOICE, unsafe.) -/
def State.travelFix (s : State) (e n ve vn : Int) : State :=
  if !s.flag F.GNB_CFG_TRAVEN then s
  else
    let s := if s.gnb.anchor.isNone || s.gnb.reanchor then s.takeAnchor e n else s
    match s.gnb.anchor with
    | none => s
    | some a =>
      let g := s.gnssTravel a
      let v := satS 40 (s.gnssSpeed a ve vn)
      let s := ((s.setFld F.GNB_GTRAV_TRAV g).setFld F.GNB_GFIXT_TIME s.now).setFldI F.GNB_GSPEED_SPEED v
      { s with trv := { s.trv with fix := some { x := g, v := v, t := s.now }, fixBase := a.b, fixCc := some s.clk.cc } }

/-- Whether a channel has been free of slips since core clock `c` (R92, R101). -/
def State.cleanSince (s : State) (c n : Nat) : Bool :=
  (s.chan n).handed ≤ c && (match (s.chan n).slip with
    | some x => decide (x ≤ c)
    | none => true)

/-- Carry the anchor's displacement over the interval since the last epoch with a fix, by the change of carrier range of the
satellites free of slips over it; with fewer than five of them the next valid fix anchors afresh (R99, R101).
(log 96: DEDUCED, unsafe.) -/
def State.carryAnchor (s : State) (ms : List ChMeas) (at_ : Vec) : State :=
  match s.gnb.anchor, s.gnb.lastFix with
  | some a, some c =>
    let clean := ms.filter (fun x => s.cleanSince c x.n)
    match if clean.length < 5 then none else changeOf at_ (clean.map (fun x => (s.ranged x, x.dph))) with
    | some v =>
      let (de, dn) := s.frame.local v
      s.setGnb { s.gnb with anchor := some { a with de := a.de + de, dn := a.dn + dn } }
    | none => s.setGnb { s.gnb with reanchor := true }
  | _, _ => s

/-! ### The blend (R69, R70) -/

/-- A GNSS fix corrects the bias of an encoder or serial sensor; a re-seed ends the run of rejected fixes.
(log 180: DESIGN CHOICE, unsafe; log 98: DEDUCED, unsafe.) -/
def State.blend (s : State) : State :=
  match s.trv.fix with
  | none => s
  | some f =>
    if !s.flag F.TRV_SRC_BLEND || s.fld F.TRV_SRC_USING ≥ 6 || s.flag F.TRV_STAT_LOST || !s.sourceValid 6 then s
    else if dist s.now f.t > (2 ^ 20 : Nat) || !histCovers f.t s.trv.hist then s
    else
      let e := dist f.x (s.travelAt f.t)
      let give := fun (s : State) (c : Int) => (s.update F.TRV_BIAS_BIAS (wrap40 (s.fldI F.TRV_BIAS_BIAS + c))).correct c
      if e.natAbs ≤ 2 ^ s.fld F.TRV_BLEND_GATEEXP then
        give (s.setFld F.TRV_BLSTAT_CONSEC 0) (freeRound 60 e (2 ^ s.fld F.TRV_BLEND_SHIFT))
      else
        let s := (s.inc F.TRV_BLSTAT_REJ).inc F.TRV_BLSTAT_CONSEC
        if s.fld F.TRV_BLSTAT_CONSEC ≥ max 1 (s.fld F.TRV_BLEND_REJMAX) then
          give ((s.inc F.TRV_BLSTAT_RESEED).setFld F.TRV_BLSTAT_CONSEC 0) e
        else s

/-! ### The fix epoch -/

/-- The channels' measurements at an epoch: the FLL ends after 500 ms, and navigation data, LNAV on GPS and I/NAV from E1-B on
Galileo, mark a channel when decoded or held under 4 h (R82, R91, R117). (log 96: DEDUCED, unsafe.) -/
def State.measureSat (s : State) (x : ChMeas) : State :=
  let n := x.n.val
  let sv := s.chSv n
  if s.chTrk n < 2 then s
  else
    let s := if x.nav && !svSbas sv then s.setGnb { s.gnb with nav := spPut s.gnb.nav sv s.clk.cc } else s
    let st := if s.clk.cc < (s.chan n).handed + msClocks 500 then 2 else if s.hasEph sv then 4 else 3
    ((s.setFld (F.GNB_CHk_EL n) (min 90 x.el)).setFld (F.GNB_CHk_CN0 n) (min 63 x.cn0)).setFld (F.GNB_CHk_STATE n) st

/-- USED, NSV, HDOP and EXCL of a fix. (log 95: DEDUCED, unsafe.) -/
def State.showFix (s : State) (xs : List Ranged) (x : Sol) (excl : Bool) : State :=
  let s := (List.range 48).foldl (fun s n => s.setFlag (F.GNB_CHk_USED n) (xs.any (fun p => p.n == n))) s
  let h := hdopOf s.frame xs x (unknownsOf xs)
  ((s.setFld F.GNB_STAT_NSV (min 63 xs.length)).setFld F.GNB_STAT_HDOP (min 255 h)).setFlag F.GNB_STAT_EXCL excl

/-- A fix that is valid neither for travel nor for discipline: it ends the runs of R96 and R97.
(log 95: DEDUCED, unsafe; log 201: DESIGN CHOICE, unsafe.) -/
def State.invalidFix (s : State) : State :=
  s.setGnb { s.gnb with runs := [], clkRun := [], clkOk := false }

/-- The receiver clock bias of a solution in ns, system time less GPS time (R96): its length over the speed of light. -/
def Sol.biasNs (x : Sol) : Int := roundAway (x.b * 1000000) (299792458 * 2 ^ 20)

/-- A passing fix. -/
def State.goodFix (s : State) (m : FixMeas) (ms : List ChMeas) (xs : List Ranged) (x : Sol) : State :=
  let s := s.setGnb { s.gnb with pos := some (x.pos.x / 2 ^ 20, x.pos.y / 2 ^ 20, x.pos.z / 2 ^ 20) }
  if s.jammed then s.invalidFix
  else
    let f := s.frame
    let d := x.pos.sub f.o
    let (e, n) := f.local { x := d.x * 1000, y := d.y * 1000, z := d.z * 1000 }
    let v := changeOf x.pos ((ms.filter (fun y => xs.any (fun r => r.n == y.n.val))).map (fun y => (s.ranged y, y.dop)))
    let (ve, vn) := f.local (v.getD { x := 0, y := 0, z := 0 })
    let s := s.travelFix (e / 2 ^ 20) (n / 2 ^ 20) ve vn
    (if s.flag F.GNB_CFG_TRAVEN then s.blend else s).clockCheck m x.biasNs

/-- FIX_EPOCH (R83, R84, R91, R93 to R101): the next measurement epoch, with what the channels measure there. Satellites that
give no solution are no fix. (log 88: DESIGN CHOICE, safe.) -/
def execFixEpoch (m : FixMeas) (s : State) : Host.Outcome State Fault Refusal := s.clocked fun s =>
  if !s.tracking then ok s
  else
    let s := s.takeTenth clsFix
    let s := (m.chans.foldl State.measureSat s).releaseChans
    let s := m.sbas.foldl State.takeSbas s
    let s := (s.setFld F.GNB_STAT_STATE 2).showTracking
    let ms := s.sats m
    let xs := ms.map s.ranged
    match fixOf s.fixStart xs (unknownsOf xs) with
    | none => ok s.invalidFix
    | some x =>
      let start := s.fixStart
      let s := s.carryAnchor ms x.pos
      let s := s.setGnb { s.gnb with lastFix := some s.clk.cc }
      match checkFix start xs x with
      | .pass ys y => ok ((s.showFix ys y false).goodFix m ms ys y)
      | .without n ys y =>
        let s := s.setGnb { s.gnb with excl := spPut s.gnb.excl (s.chSv n) (s.clk.cc + secClocks (s.fld F.GNB_RAIM_EXCLHOLD)) }
        ok (((s.inc F.GNB_RAIM_EXCLCNT).showFix ys y true).goodFix m ms ys y)
      | .fail =>
        let s := s.showFix xs x false
        let s := if xs.length - unknownsOf xs < 1 then s else s.inc F.GNB_RAIM_FAILCNT
        ok s.invalidFix

end Sys2Proof.Machine
end

