-- ==== Sys2Proof/Machine/Port.lean ====
section
/-! DEFINITION. The peripheral port: the flash on P0, transaction times, and which requester it serves next (R356 to R362);
with the descriptors of the block mover, whose PORT sides it serves (R324 to R326, R337). -/

namespace Sys2Proof.Machine

open Sys2Proof

/-! ### The flash on P0 (R360) -/

/-- A byte of the flash; an unlisted byte is blank. (log 13: DESIGN CHOICE, unsafe.) -/
def State.flashByte (s : State) (a : Nat) : Byte := spGet (fun _ => 0xFF#8) s.flash a

/-- `n` bytes of the flash from address `a`. -/
def State.flashRead (s : State) (a n : Nat) : List Byte := (List.range n).map (fun i => s.flashByte (a + i))

/-- Program bytes: the flash ANDs them into the old. -/
def State.flashProgram (s : State) (a : Nat) (bs : List Byte) : State :=
  { s with flash := (bs.zip (List.range bs.length)).foldl (fun m (p : Byte × Nat) =>
      spSet (fun _ => 0xFF#8) m (a + p.2) (p.1 &&& spGet (fun _ => 0xFF#8) m (a + p.2))) s.flash }

/-- Erase the 4 KiB sector that holds `a`. -/
def State.flashErase (s : State) (a : Nat) : State :=
  { s with flash := s.flash.filter (fun p => p.1 / 4096 != a / 4096) }

/-- A program cut off or not finished: which bits it cleared is the flash's own (R361, R365).
(log 135: DESIGN CHOICE, safe.) -/
def State.flashTornProgram (s : State) (a : Nat) (bs : List Byte) : State :=
  let (k, s) := s.draw (256 ^ bs.length)
  s.flashProgram a ((bs.zip (toBytes bs.length k)).map (fun p => p.1 ||| p.2))

/-- An erase cut off: which bits it set is the flash's own. (log 135: DESIGN CHOICE, safe.) -/
def State.flashTornErase (s : State) (a : Nat) : State :=
  let (k, s) := s.draw (256 ^ 4096)
  let base := a / 4096 * 4096
  let new := ((s.flashRead base 4096).zip (toBytes 4096 k)).map (fun p => p.1 ||| p.2)
  (s.flashErase base).flashProgram base new

/-! ### Transactions (R357, R358) -/

/-- Ten-nanosecond units in a half-clock of select `k`. -/
def State.halfClock (s : State) (k : Nat) : Nat := max 1 (s.fld (F.SER_PPn_CFG_DIV k)) + 1

/-- Core clocks, rounded up, in `t` units of 10 ns. -/
def tenNs (t : Nat) : Nat := (t * 2 ^ 27 + 10 ^ 8 - 1) / 10 ^ 8

/-- Core clocks of a transaction of `u` units of `b` bits on select `k`. -/
def State.transClocks (s : State) (k u b : Nat) : Nat :=
  tenNs (s.halfClock k * (max 1 (s.fld (F.SER_PPn_CFG_CSLEAD k)) + 2 * u * b + s.fld (F.SER_PPn_CFG_GAP k) * (u - 1) +
    max 1 (s.fld (F.SER_PPn_CFG_CSLAG k))))

/-- Core clocks for which every select stays released after a transaction on select `k`. -/
def State.gapClocks (s : State) (k : Nat) : Nat := tenNs (s.halfClock k * max 4 (s.fld (F.SER_PPn_CFG_GAP k)))

/-! ### Descriptors (R324 to R328) -/

/-- A descriptor (Table 15-2). -/
structure Desc where
  skind : Nat
  dkind : Nat
  spar : Nat
  dpar : Nat
  beo : Bool
  len : Nat
  sadr : Nat
  dadr : Nat
  next : Nat
deriving DecidableEq, Repr

/-- The descriptor in BMV_Dn_W0 to W3. -/
def State.desc (s : State) (n : Nat) : Desc :=
  let w0 := s.fld (F.BMV_Dn_W0_DESC n)
  let l := bitsOf w0 17 0
  { skind := bitsOf w0 39 36, dkind := bitsOf w0 35 32, spar := bitsOf w0 31 26, dpar := bitsOf w0 25 20
    beo := bitOf w0 18, len := if l = 0 then 262144 else l
    sadr := s.fld (F.BMV_Dn_W1_DESC n), dadr := s.fld (F.BMV_Dn_W2_DESC n), next := bitsOf (s.fld (F.BMV_Dn_W3_DESC n)) 39 16 }

/-- Kinds of Table 15-1. -/
def kMem : Nat := 0
def kPort : Nat := 1
def kPop : Nat := 2
def kPush : Nat := 3
def kSnap : Nat := 4
def kFill : Nat := 5

/-- First byte address past register space, and past the MEM space (R325). -/
def regSpaceEnd : Nat := 81920
def memSpaceEnd : Nat := 83886080

/-- A MEM side that breaks the rules of register space. -/
def memAlignBad (a len : Nat) : Bool := a < regSpaceEnd && (a % 5 != 0 || len % 5 != 0)

/-- The result with which a descriptor of channel `n` ends before any byte moves, if any (R324, R325, R328).
(log 142: DEDUCED, unsafe.) -/
def State.precheck (s : State) (n : Nat) (d : Desc) : Option Nat :=
  let src := d.skind = kMem || d.skind = kPort || d.skind = kPop || d.skind = kSnap || d.skind = kFill
  let dst := d.dkind = kMem || d.dkind = kPort || d.dkind = kPush
  let ring := d.spar = 59 || d.spar = 61 || d.spar = 62 || d.spar = 63 || (d.spar = 60 && n = s.fld F.LDG_CFG_DCH)
  if !src || !dst || (d.skind = kPort && d.dkind = kPort) || (d.skind = kPop && !ring) then some 3
  else if (d.skind = kMem && memAlignBad d.sadr d.len) || (d.dkind = kMem && memAlignBad d.dadr d.len) ||
      ((d.dkind = kPush || d.skind = kPop) && d.len % 5 != 0) then some 1
  else if (d.skind = kMem && d.sadr + d.len > memSpaceEnd) || (d.dkind = kMem && d.dadr + d.len > memSpaceEnd) ||
      (d.dkind = kMem && d.dadr < 5 * 0x30000 && d.dadr + d.len > 5 * 0x10000) ||
      (d.skind = kSnap && d.sadr + d.len > 262144) then some 2
  else none

def State.movOf (s : State) (n : Nat) : MovSt := spGet (fun _ => {}) s.mov n
def State.setMov (s : State) (n : Nat) (x : MovSt) : State := { s with mov := spSet (fun _ => {}) s.mov n x }

/-- Channel states (Table 15-5). -/
def mvIdle : Nat := 0
def mvRun : Nat := 1
def mvStopped : Nat := 2
def mvHalted : Nat := 3

/-- Whether channel `n` is in RUN. -/
def State.movRuns (s : State) (n : Nat) : Bool := s.fld (F.BMV_Dn_CTL_STATE n) = mvRun

/-- The bytes that the descriptor of channel `n` still has to move through the peripheral port; 0 when it has no PORT side or
has ended. -/
def State.portLeft (s : State) (n : Nat) : Nat :=
  let d := s.desc n
  if !s.movRuns n || (s.movOf n).res.isSome then 0
  else if d.dkind = kPort then d.len - s.fld (F.BMV_Dn_DONE_BYTES n)
  else if d.skind = kPort then d.len - (s.movOf n).taken
  else 0

/-! ### Service order (R359) -/

/-- The image loader uses the port in BOOT, until the node is held. -/
def State.loaderRuns (s : State) : Bool := s.modeNow = modeBoot && s.fld F.MOD_BOOT_STEP ≠ 7

/-- While the port is free, it takes up the next requester: a ledger commit keeps it from the end of its wait to its own end,
the loader in BOOT; then a raw transfer, then block-mover channels. -/
def State.nextJob (s : State) : State :=
  if s.ser.job.isSome || s.led.stage ≥ 1 || s.loaderRuns || s.gated then s
  else
    let start := max s.clk.cc s.ser.free
    let put := fun (j : PortJob) => ({ s with ser := { s.ser with job := some j } } : State)
    if s.flag F.SER_PP_RAW_BUSY then put { own := 3, sel := s.fld F.SER_PP_RAW_SEL, start := start }
    else match (List.range 8).find? (fun n => s.portLeft n ≠ 0) with
      | some n =>
        let d := s.desc n
        put { own := 4, ch := n, sel := (if d.dkind = kPort then d.dpar else d.spar) % 4, start := start }
      | none => s

/-- A transaction on select `k` ends now: it is counted, and the selects stay released for the gap. -/
def State.endTrans (s : State) (k : Nat) : State :=
  let s := s.inc F.SER_PP_STAT_TRANS
  { s with ser := { s.ser with free := s.clk.cc + s.gapClocks k } }

/-- Count `k` transactions that a ledger commit or the loader has made, and `p` polls or fewer, at least one.
(log 136: DESIGN CHOICE, unsafe.) -/
def State.countTrans (s : State) (k p : Nat) : State :=
  let (x, s) := s.draw p
  s.incBy F.SER_PP_STAT_TRANS (k + (if p = 0 then 0 else x + 1))

end Sys2Proof.Machine
end

