-- ==== Sys2Proof/Machine/Ledger.lean ====
section
/-! DEFINITION. Metering, reconciliation, allocation, the signed record and the commit protocol (chapter 11). -/

namespace Sys2Proof.Machine

open Sys2Proof

/-! ### Commit triggers (R260) -/

/-- REASON bits (Table 11-4). -/
def rsnPeriod : Nat := 1
def rsnHold : Nat := 2
def rsnDormant : Nat := 4
def rsnCf : Nat := 8
def rsnLimit : Nat := 16
def rsnExhaust : Nat := 32
def rsnHost : Nat := 64
def rsnBoot : Nat := 128

def State.setLed (s : State) (l : LedSt) : State := { s with led := l }

/-- Enter a stage of the commit and show its STEP (Table 11-6). -/
def State.ledStage (s : State) (k : Nat) : State :=
  let step := match k with
    | 0 => 0
    | 1 => 1
    | 2 => 2
    | 3 => 2
    | 4 => 3
    | 5 => 4
    | 6 => 4
    | _ => 5
  (s.setFld F.LDG_STAT_STEP step).setLed { s.led with stage := k, at_ := s.clk.cc }

/-- Start a commit with the REASON bits that wait; what failed commits left stays pending. (log 137: DEDUCED, unsafe.) -/
def State.startCommit (s : State) : State :=
  let s := s.setLed { s.led with cur := s.led.wait, wait := 0, pend := false, retry := false }
  (s.ledStage 1).setFlag F.LDG_STAT_PEND s.led.blocked

/-- A trigger with REASON bits `r`: a commit starts, or one more follows the running one. In BOOT and while
the clocks are gated it waits (R260, R429). (log 137: DEDUCED, unsafe.) -/
def State.trigger (s : State) (r : Nat) : State :=
  let s := s.setLed { s.led with wait := s.led.wait ||| r, pend := true }
  if s.led.stage = 0 && s.modeNow ≠ modeBoot && !s.gated then s.startCommit else s.setFlag F.LDG_STAT_PEND true

/-! ### Messages the ledger sends -/

/-- Addresses of the enrolled nodes. -/
def State.nodes (s : State) : List Nat := s.key.entries.map (·.addr)

/-- Send a MSG to every enrolled node but this one. -/
def State.msgAll (s : State) (ring : Nat) (payload : List Byte) : State :=
  (s.nodes.filter (· != s.addr)).foldl (fun s n => s.pushTx ring n clsMsg false payload) s

/-- A raw report for day `d` (R251): the active head keeps its own, another node sends it to the active head. -/
def State.sendRaw (s : State) (d : Nat) : State :=
  let raw := s.fld F.LDG_RAW_RAW
  if s.isHead then
    s.setLed { s.led with reports := { node := s.addr, day := d, raw := raw } ::
      s.led.reports.filter (fun r => !(r.node == s.addr && r.day == d)) }
  else s.pushTx 57 (s.lnk.head.getD 0) clsMsg false (toBytes 1 4 ++ toBytes 2 d ++ toBytes 5 raw)

/-- A CF received or formed applies from the next update and triggers a commit (R253). -/
def State.applyCf (s : State) (cf day : Nat) : State :=
  let s := (s.setFld F.LDG_CF_CF cf).setFld F.LDG_CFDAY_DAY day
  (s.setLed { s.led with cfAt := some s.clk.cc }).trigger rsnCf

/-! ### The flow model (R247, R248) -/

/-- Own line pressure of R248: mbar, and whether it is stale. -/
def State.ownPressure (s : State) : Nat × Bool :=
  let st := s.cst 1
  let g := s.fld F.LDG_PYSCALE_YGAIN
  let y := s.fldI (F.CTL_x_Yj_Y 1 (s.fld (F.CTL_x_CFG_PRIM 1)))
  ((clampI 0 65535 (roundAway (y * g) (2 ^ 40))).toNat, g = 0 || !(st = csStart || st = csRun || st = csFrozen))

/-- Line pressure and staleness by SRC (R248); PNOM while stale, 0 acting as 1 mbar (R247). A value counts while PNODE names its
sender. -/
def State.linePressure (s : State) : Nat × Bool :=
  let src := s.fld F.LDG_PCFG_SRC
  let pnom := max 1 (s.fld F.LDG_PCFG_PNOM)
  let (p, stale) : Nat × Bool :=
    if src = 0 then
      if s.fld F.LDG_PCFG_PNODE = s.addr && s.role ≠ roleNone then s.ownPressure
      else match s.led.press with
        | some (a, p, st, c) => (p, st || a ≠ s.fld F.LDG_PCFG_PNODE || s.clk.cc ≥ c + secClocks 2)
        | none => (0, true)
    else if src ≤ 8 then
      let x : Int := ((s.aiCode (src - 1) : Int) - s.fld F.LDG_PSCALE_POFF) * s.fld F.LDG_PSCALE_PGAIN
      ((clampI 0 65535 (freeRound 41 x (2 ^ 16))).toNat, s.aiInvalid (src - 1))
    else (pnom, false)
  if stale then (pnom, true) else (p, false)

/-- DROP of channel `n` in mbar. -/
def State.drop (s : State) (n : Nat) : Nat :=
  if n % 2 = 0 then s.fld (F.LDG_DROPk_DROP0 (n / 2)) else s.fld (F.LDG_DROPk_DROP1 (n / 2))

/-- q_n in units of 2^-8 mL/s at line pressure `p` (R247), in the free direction where it is not exact. -/
def State.flowQ (s : State) (n p : Nat) : Nat :=
  let pn := p - s.drop n
  let f := s.fld (F.PLN_CHn_CFG_FLOW n)
  let pnom := max 1 (s.fld F.LDG_PCFG_PNOM)
  let x := f * f * pn * 2 ^ 16
  let r := isqrt (x / pnom)
  if r * r * pnom = x then r else if Config.roundUp 40 x pnom then r + 1 else r

/-! ### Accumulation (R245, R246, R249, R267) -/

/-- The credit of one interval up to now: core clocks, whether estimated, and what remains of it. `est` says that the close
edge can only be an estimated one. (log 28: DEDUCED, unsafe; log 30: DEDUCED, unsafe.) -/
def Credit.take (now : Nat) (est : Bool) (k : Credit) : Nat × Bool × Option Credit :=
  let stop := match k.toCc with
    | some c => min c now
    | none => (match k.hold with
      | some c => min c now
      | none => now)
  let d := stop - k.fromCc
  let done := match k.toCc with
    | some c => decide (c ≤ now)
    | none => false
  (d, k.est || (if k.toCc.isSome then k.estTo else est), if done then none else some { k with fromCc := max k.fromCc stop })

/-- Add whole mL to an accumulator word, saturating; true when it saturates. (log 30: DEDUCED, unsafe.) -/
def State.accrue (s : State) (f : Fld) (ml : Nat) : Bool × State :=
  let v := s.fld f + ml
  if v < mod40 then (false, s.sramWrite f.addr (BitVec.ofNat 40 v)) else (true, s.sramWrite f.addr (BitVec.ofNat 40 (mod40 - 1)))

/-- Whether the close edge of a channel's running credit can only be estimated: the latched state of the pair is unknown, or close
detection is off (R246, Table 11-1). -/
def State.closeEst (s : State) (n : Nat) : Bool := (s.valve n).unknown || !s.flag (F.VDA_CHn_DET_CLDET n)

/-- Open time up to now is not credited: in DORMANT only pairs of unknown state accrue (R250). -/
def State.skipCredit (s : State) (n : Nat) : State :=
  if (s.valve n).unknown then s
  else s.modValve n (fun v => { v with credits := (v.credits.map (Credit.take s.clk.cc false)).filterMap (·.2.2) })

/-- One channel at an update (R249, R250). -/
def State.meterChannel (s : State) (p : Nat) (stale : Bool) (n : Nat) : State :=
  let v := s.valve n
  if v.credits = [] then s
  else if s.gated && !v.unknown then s.skipCredit n
  else
    let rs := v.credits.map (Credit.take s.clk.cc (s.closeEst n))
    let d := (rs.map (·.1)).foldl (· + ·) 0
    let est := stale || rs.any (fun r => r.1 != 0 && r.2.1)
    let q := s.flowQ n p
    let add := (roundAway ((q * d * s.fld F.LDG_CF_CF * 2 ^ 16 : Nat) : Int) (2 ^ 59)).toNat
    let fr := v.frac + add
    let raw := v.rawFrac + q * d
    let s := s.modValve n (fun v => { v with
      credits := rs.filterMap (·.2.2), frac := fr % 2 ^ 16, rawFrac := raw % 2 ^ 35 })
    let z := s.fld (F.PLN_CHn_CFG_ZONE n)
    let ml := fr / 2 ^ 16
    let s := s.setFld F.LDG_RAW_RAW (satAdd 40 (s.fld F.LDG_RAW_RAW) (raw / 2 ^ 35))
    if ml = 0 then s
    else
      let (b, s) := s.accrue (F.LDG_VOLz_VOL z) ml
      let (b', s) := if est then s.accrue (F.LDG_ESTz_EST z) ml else (false, s)
      if (b || b') && !s.led.sat.contains z then s.setLed { s.led with sat := z :: s.led.sat } else s

/-- The entry of zone `z` in a record: VOL, EST, LIMIT. -/
def zoneEntry (body : List Byte) (z : Nat) : Option (Nat × Nat × Nat) :=
  ((List.range (bytesAt body 3 1)).find? (fun k => bytesAt body (86 + 17 * k) 1 == z)).map (fun k =>
    (bytesAt body (88 + 17 * k) 5, bytesAt body (93 + 17 * k) 5, bytesAt body (98 + 17 * k) 5))

/-- R267: reload a zone from the SRAM copy of the last published record. -/
def State.reloadZone (s : State) (z : Nat) : State :=
  let (v, e, l) := (zoneEntry s.led.last z).getD (0, 0, mod40 - 1)
  let s := (s.sramWrite (F.LDG_VOLz_w z).addr (BitVec.ofNat 40 v)).sramWrite (F.LDG_ESTz_w z).addr (BitVec.ofNat 40 e)
  let s := s.sramWrite (F.LDG_LIMz_w z).addr (BitVec.ofNat 40 l)
  let s := s.setLed { s.led with restored := true, zrest := if s.led.zrest.contains z then s.led.zrest else z :: s.led.zrest }
  (s.report srcLedPois z).trigger 0

/-- Read the accumulator words of zone `z`; a poisoned one is reloaded. -/
def State.checkZone (s : State) (z : Nat) : State :=
  let (_, p1, s) := s.sramRead (F.LDG_VOLz_w z).addr reqLedger
  let (_, p2, s) := s.sramRead (F.LDG_ESTz_w z).addr reqLedger
  let (_, p3, s) := s.sramRead (F.LDG_LIMz_w z).addr reqLedger
  if p1 || p2 || p3 then s.reloadZone z else s

/-! ### Allocation (R254 to R256) -/

def State.zoneBit (s : State) (f : Nat → Fld) (z : Nat) : Bool := bitOf (s.fld (f (z / 32))) (z % 32)
def State.setZoneBit (s : State) (f : Nat → Fld) (z : Nat) (b : Bool) : State :=
  s.setFld (f (z / 32)) (setBits (s.fld (f (z / 32))) (z % 32) (z % 32) (b2n b))

/-- ACT of a zone. -/
def State.zoneAct (s : State) (z : Nat) : Nat := bitsOf (s.fld (F.LDG_ZACTk_ACT (z / 16))) (2 * (z % 16) + 1) (2 * (z % 16))

/-- Whether zone `z` is closed: exhausted with ACT 00b or 11b. -/
def State.zoneClosed (s : State) (z : Nat) : Bool :=
  s.zoneBit F.LDG_EXHk_EXH z && (s.zoneAct z = 0 || s.zoneAct z = 3)

/-- A cause that leads to HOLD at the next tick (R382). -/
def State.wantHold (s : State) (cause : Nat) : State := { s with mode := { s.mode with hold := s.mode.hold ++ [cause] } }

/-- Exhaustion and warning of zone `z` at an update. -/
def State.judgeZone (s : State) (z : Nat) : State :=
  let v := s.fld (F.LDG_VOLz_VOL z)
  let l := s.fld (F.LDG_LIMz_LIMIT z)
  let s :=
    if v ≥ l then
      if s.zoneBit F.LDG_EXHk_EXH z then s
      else
        let s := ((s.setZoneBit F.LDG_EXHk_EXH z true).report srcAllocEx z).trigger rsnExhaust
        if s.zoneAct z = 2 then s.wantHold 5
        else if s.zoneAct z = 1 then s
        else (List.range 48).foldl (fun s n =>
          if s.fld (F.PLN_CHn_CFG_ZONE n) = z then s.flush n (s.chOpen n) false else s) s
    else s.setZoneBit F.LDG_EXHk_EXH z false
  let w := s.fld F.LDG_WARN_WARN
  if w ≠ 0 && (l : Int) - v ≤ w then
    if s.zoneBit F.LDG_WRNk_WRN z then s else (s.setZoneBit F.LDG_WRNk_WRN z true).report srcAllocLow z
  else s.setZoneBit F.LDG_WRNk_WRN z false

/-- METERING_UPDATE (R249): the next 1 ms instant, or the next second in DORMANT. -/
def execMeteringUpdate (s : State) : Host.Outcome State Fault Refusal := s.clocked fun s =>
  let s := s.takeInstant clsMeter (if s.gated then 2 ^ 20 else 1024) 0
  let (p, stale) := s.linePressure
  let s := (s.setFld F.LDG_PLINE_P p).setFlag F.LDG_PLINE_STALE stale
  let s := s.setLed { s.led with stale := s.led.stale || stale }
  let s := (List.range 64).foldl State.checkZone s
  let s := (List.range 48).foldl (fun s n => if s.isOddOfPair n then s else s.meterChannel p stale n) s
  ok ((List.range 64).foldl State.judgeZone s)

/-- MUSE against MLIMIT on the active head, after each change of either (R256). (log 46: DEDUCED, unsafe.) -/
def State.judgeMachine (s : State) : State :=
  if s.isHead && s.fld F.LDG_MUSE_MUSE ≥ s.fld F.LDG_MLIMIT_MLIMIT && !s.flag F.LDG_MSTAT_MEXH then
    let s := ((s.setFlag F.LDG_MSTAT_MEXH true).report srcMachEx 0).trigger rsnExhaust
    let a := s.fld F.LDG_REC_MACT
    if a = 0 || a = 3 then (s.msgAll 56 (toBytes 1 6 ++ toBytes 1 1)).wantHold 5 else s
  else s

/-- Add `k` pulses to MUSE. -/
def State.addMuse (s : State) (k : Nat) : State :=
  let x := s.led.mfrac + k * s.fld F.LDG_MLPP_MLPP
  (s.setFld F.LDG_MUSE_MUSE (satAdd 40 (s.fld F.LDG_MUSE_MUSE) (x / 2 ^ 16))).setLed { s.led with mfrac := x % 2 ^ 16 }

/-- FLOWMETER_PULSE (R440, R256): an accepted edge of FPk, `gap` core clocks after the previous command.
(log 47: DEDUCED, unsafe.) -/
def execFlowmeterPulse (k : Fin 2) (gap : Nat) (s : State) : Host.Outcome State Fault Refusal := s.clocked fun s =>
  let s := s.advCc gap
  if s.modeNow = modeBoot then ok s
  else
    let x := s.fpOf k
    let x : FpSt := { count := x.count + 1, stamps := (s.clk.cc :: x.stamps).take 16 }
    let s : State := { s with ctl := { s.ctl with fp := spSet (fun _ => {}) s.ctl.fp k x } }
    if s.fld F.LDG_REC_FPSEL = k.val then
      let s := s.inc F.LDG_MSTAT_DPULSE
      ok (if s.isHead then (s.addMuse 1).judgeMachine else s).completed
    else ok s.completed

/-! ### Daily reconciliation (R251, R252) -/

/-- GPS time of now in tb (R31). -/
def State.gpsTb (s : State) : Nat := s.wrapNow * mod40 + s.now

/-- The reconciliation day of a GPS time in seconds. -/
def State.dayOf (s : State) (g : Nat) : Nat :=
  wrapW 16 (((g : Int) - s.fld F.LDG_DAYOFF_DAYOFF) / 86400)

/-- DAY_BOUNDARY (R251): time runs to the next boundary; the node reports RAW for the day that ended, and the head
starts the wait of R252. In DORMANT the report of the entry stands for the day, and the counts of the next day start. None occurs
in FREERUN or on a node that is not enrolled. (log 60: DEDUCED, unsafe.) -/
def execDayBoundary (s : State) : Host.Outcome State Fault Refusal := s.clocked fun s =>
  if s.fld F.TBS_STAT_STATE = 0 || s.role = roleNone then ok s
  else
    let g : Int := s.gpsTb - (s.fld F.LDG_DAYOFF_DAYOFF * 2 ^ 20 : Nat)
    let day : Int := (86400 * 2 ^ 20 : Nat)
    let left := (day - g % day).toNat
    let s := s.advTo ((s.now + left) % mod40)
    let d := wrapW 16 ((g + left) / day - 1)
    let s := if s.gated then s else s.sendRaw d
    let n := s.fld F.LDG_MSTAT_DPULSE
    let s := (s.setFld F.LDG_RAW_RAW 0).setFld F.LDG_MSTAT_DPULSE 0
    ok (if s.isHead && s.flag F.LDG_REC_REN && !s.gated then s.setLed { s.led with day := some (d, n, s.clk.cc) } else s)

/-- RECONCILIATION (R252): every report for the day is in, or 60 s have passed since the boundary.
(log 60: DEDUCED, unsafe.) -/
def execReconciliation (s : State) : Host.Outcome State Fault Refusal := s.clocked fun s =>
  match s.led.day with
  | none => ok s
  | some (d, n, c) =>
    if !s.isHead || s.gated then ok s
    else
      let got := s.led.reports.filter (fun r => r.day == d)
      let all := s.nodes.all (fun x => got.any (fun r => r.node == x))
      let s := if all then s else s.advCcTo (c + secClocks 60)
      let s := s.setLed { s.led with day := none }
      if !all then ok (s.report srcRecInc 0)
      else
        let sum := (got.map (·.raw)).foldl (· + ·) 0
        let v := n * s.fld F.LDG_MLPP_MLPP
        if sum < s.fld F.LDG_REC_DMIN * 10 ^ 6 || sum = 0 then ok s
        else if v * 1000 < s.fld F.LDG_REC_CFMIN * sum * 2 ^ 16 || v * 1000 > s.fld F.LDG_REC_CFMAX * sum * 2 ^ 16 then
          ok (s.report srcRecRange 0)
        else
          let cf := (roundAway ((v * 2 ^ 8 : Nat) : Int) sum).toNat % 2 ^ 32
          ok ((s.msgAll 57 (toBytes 1 5 ++ toBytes 4 cf ++ toBytes 2 d)).applyCf cf d)

/-! ### The record (R258, R259) -/

/-- Whether an enabled channel of the node maps to zone `z`. -/
def State.zoneOwned (s : State) (z : Nat) : Bool :=
  (List.range 48).any (fun n => !s.isOddOfPair n && s.flag (F.PLN_CHn_CFG_EN n) && s.fld (F.PLN_CHn_CFG_ZONE n) == z)

/-- One zone entry. -/
def State.zoneBytes (s : State) (z : Nat) : List Byte :=
  let fl := b2n (s.zoneBit F.LDG_EXHk_EXH z) + 2 * b2n (s.zoneBit F.LDG_WRNk_WRN z) + 4 * b2n (s.led.sat.contains z) +
    8 * b2n (s.led.zrest.contains z) + 16 * b2n (s.zoneOwned z)
  toBytes 1 z ++ toBytes 1 fl ++ toBytes 5 (s.fld (F.LDG_VOLz_VOL z)) ++ toBytes 5 (s.fld (F.LDG_ESTz_EST z)) ++
    toBytes 5 (s.fld (F.LDG_LIMz_LIMIT z))

/-- The bytes that SIG covers, at the capture (Table 11-3). -/
def State.recordBody (s : State) (seq : Nat) : List Byte :=
  let zs := (List.range 64).filter (fun z => s.fld (F.LDG_VOLz_VOL z) ≠ 0 || s.fld (F.LDG_LIMz_LIMIT z) ≠ mod40 - 1 || s.zoneOwned z)
  let l := s.led
  let gen := l.genesis && l.first.isSome
  let rst := l.restart && l.first.isSome
  let flags := b2n gen + 2 * b2n rst + 4 * b2n l.first.isSome + 8 * (l.first.getD 0) +
    128 * b2n (s.fld F.TBS_STAT_STATE = 0) + 256 * b2n (s.cfAge > 48) + 512 * b2n l.stale + 1024 * b2n l.restored
  let prevh := if gen || rst || l.last = [] then toBytes 32 0 else shaBytes l.last
  toBytes 2 0x4C44 ++ toBytes 1 1 ++ toBytes 1 zs.length ++ toBytes 4 seq ++ toBytes 4 (s.fld F.SYS_SYSID_SYSID) ++
    toBytes 1 ((s.reg F.SYS_ROLE_w.addr).toNat % 256) ++ toBytes 2 l.cur ++ toBytes 2 flags ++ toBytes 5 s.now ++
    toBytes 3 s.wrapNow ++ toBytes 5 s.travel ++ toBytes 4 (s.fld F.LDG_CF_CF) ++
    toBytes 2 (s.fld F.LDG_CFDAY_DAY) ++ toBytes 5 (if s.isHead then s.fld F.LDG_MUSE_MUSE else 0) ++
    toBytes 5 (if s.isHead then s.fld F.LDG_MLIMIT_MLIMIT else mod40 - 1) ++ prevh ++ toBytes 8 certId ++
    zs.flatMap s.zoneBytes

/-! ### Commit steps (R261, R263, R264) -/

/-- The flash address of a slot. -/
def State.slotAddr (s : State) (k : Nat) : Nat := if k = 0 then s.fld F.LDG_SLOTA_ADDR else s.fld F.LDG_SLOTB_ADDR

/-- Every channel is OFF, SAFE or LATCHED (R264). -/
def State.allQuiet (s : State) : Bool :=
  (List.range 48).all (fun n => s.isOddOfPair n || s.chSt n == stOff || s.chSt n == stSafe || s.chSt n == stLatched)

/-- The erase of step 2 starts. -/
def State.beginErase (s : State) : State := (s.setLed { s.led with torn := false }).ledStage 2

/-- A page poll reads busy for 3 ms (R361). (log 161: DEDUCED, unsafe.) -/
def State.pageTimeout (s : State) : State :=
  ((s.raise F.SER_PP_STAT_PTMO).inc F.SER_PP_STAT_PTMOCNT).report srcFlashTo 0

/-- A commit fails (R263): once it is retried from step 2, then it is given up, its triggers are kept until PERIOD next expires,
and a commit follows for those that arrived meanwhile (R260). What its record would have told of stays to be told (R258).
(log 59: DEDUCED, unsafe.) -/
def State.commitFails (s : State) : State :=
  let s := s.setLed { s.led with
    stale := s.led.stale || s.led.hadStale, restored := s.led.restored || s.led.hadRest
    zrest := s.led.zrest ++ s.led.hadZones, hadStale := false, hadRest := false, hadZones := [] }
  if s.led.retry then
    let s := ((s.raise F.LDG_STAT_CFAIL).inc F.LDG_STAT_FAILS).report srcCommit 0
    let s := s.setLed { s.led with kept := s.led.kept ||| s.led.cur, blocked := true, retry := false }
    let s := (s.ledStage 0).setFlag F.LDG_STAT_PEND true
    if s.led.pend then s.startCommit else s.nextJob
  else (s.setLed { s.led with retry := true }).beginErase

/-- Publish the record (step 8), and start the commit that waits. -/
def State.publish (s : State) : State :=
  let l := s.led
  let s := ((s.setFld F.LDG_SEQ_SEQ l.recSeq).setFld F.LDG_STAT_LAST l.slot).inc F.LDG_STAT_COMMITS
  let s := s.setLed { l with
    prev := l.last, last := l.body, first := none, genesis := false, restart := false, retry := false
    hadStale := false, hadRest := false, hadZones := [] }
  let s := s.ledStage 0
  if s.led.pend then s.startCommit else s.nextJob

/-- COMMIT_PERIOD_EXPIRY (R260, R263): time runs to PERIOD after the last capture; triggers kept from failed commits join.
(log 3: DESIGN CHOICE, safe; log 59: DEDUCED, unsafe.) -/
def execCommitPeriodExpiry (s : State) : Host.Outcome State Fault Refusal := s.clocked fun s =>
  if s.gated || s.modeNow = modeBoot then ok s
  else
    let s := s.advCcTo (s.led.capAt + secClocks (clampN 60 600 (s.fld F.LDG_CFG_PERIOD)))
    let s := s.setLed { s.led with
      capAt := s.clk.cc, wait := s.led.wait ||| s.led.kept, kept := 0, blocked := false }
    ok (s.trigger rsnPeriod)

/-- COMMIT_START (R261, R359): P0 is free and the commit takes it: the slot that does not hold the last published record, either
one while there is none, is erased. (log 48: DESIGN CHOICE, safe; log 134: DEDUCED, unsafe.) -/
def execCommitStart (s : State) : Host.Outcome State Fault Refusal := s.clocked fun s =>
  if s.led.stage ≠ 1 || s.ser.job.isSome || s.gated then ok s
  else
    let s := s.advCcTo s.ser.free
    let (k, s) := if s.led.last = [] then s.draw 2 else (1 - s.fld F.LDG_STAT_LAST, s)
    ok (s.setLed { s.led with slot := k }).beginErase

/-- SECTOR_ERASE_COMPLETE (R261): the erase poll reports completion. -/
def execSectorEraseComplete (s : State) : Host.Outcome State Fault Refusal := s.clocked fun s =>
  if s.led.stage = 2 then ok (((s.flashErase (s.slotAddr s.led.slot)).countTrans 2 6000).ledStage 3) else ok s

/-- LEDGER_CAPTURE (R261, R264, R267): at the start of the next tick the record's contents are read, a poisoned zone being
reloaded first, and captured, and SEQ is assigned. A
commit for HOLD or DORMANT captures only once every channel is at rest. -/
def execLedgerCapture (s : State) : Host.Outcome State Fault Refusal := s.clocked fun s =>
  if s.led.stage ≠ 3 then ok s
  else
    let s := s.takeInstant clsCapture 32 0
    if s.led.cur &&& (rsnHold ||| rsnDormant) ≠ 0 && !s.allQuiet then ok s
    else
      let s := (List.range 64).foldl State.checkZone s
      let seq := (s.led.seq + 1) % 2 ^ 32
      let s := s.setLed { s.led with body := s.recordBody seq, recSeq := seq, seq := seq, capAt := s.clk.cc
                                     hadStale := s.led.stale, hadRest := s.led.restored, hadZones := s.led.zrest
                                     stale := false, restored := false, zrest := [] }
      ok (s.ledStage 4)

/-- The record as ring items of Q60, at most 450 bytes each, with its capture time (R139, R260). -/
def State.stageItems (s : State) (body : List Byte) : State :=
  (chunksOf 450 body.length body).foldl (fun s c =>
    s.pushItem 60 (streamWords 60 0 0 false (bytesAt body 17 5) s.led.recSeq c) []) s

/-- RECORD_SIGNED (R259): the signature completes the record, which is staged in Q60; while Q60 cannot take it, the
commit waits. -/
def execRecordSigned (s : State) : Host.Outcome State Fault Refusal := s.clocked fun s =>
  if s.led.stage ≠ 4 then ok s
  else
    let body := s.led.body ++ nodeSign s.led.body
    let n := ((chunksOf 450 body.length body).map (fun c => nrecFor c.length)).foldl (· + ·) 0
    if s.ringRoom 60 n then ok (((s.setLed { s.led with body := body }).stageItems body).ledStage 5) else ok s

/-- The payload bytes of the items staged in Q60 that reach the port: those before the first poisoned word, which is counted
on the ledger's channel (R330). -/
def State.unstage (s : State) : List Byte × State :=
  let (bs, _, s) := (s.items 60).foldl (fun (a : List Byte × Bool × State) rs =>
    if a.2.1 then a
    else
      let (ws, s) := a.2.2.readItem 60 reqMover rs
      let bs := (bytesOfWords (((ws.takeWhile (fun w => !w.2)).map (·.1)).drop 3)).take (itemOf rs).payload.length
      if ws.any (·.2) then
        (a.1 ++ bs, true, (s.inc (F.BMV_Dn_CNT_POISON (s.fld F.LDG_CFG_DCH))).inc F.BMV_STAT_POISON)
      else (a.1 ++ bs, false, s)) ([], false, s)
  (bs, s)

/-- RECORD_PROGRAMMED (R261): the pages are programmed, after a page timeout only in part, and the staged items released. -/
def execRecordProgrammed (s : State) : Host.Outcome State Fault Refusal := s.clocked fun s =>
  if s.led.stage ≠ 5 then ok s
  else
    let (bs, s) := s.unstage
    let p := (bs.length + 255) / 256
    let a := s.slotAddr s.led.slot
    let s := (if s.led.torn then s.flashTornProgram a bs else s.flashProgram a bs).countTrans (3 * p - 1) (60 * p)
    ok ((s.release 60 (s.qCount 60)).ledStage 6)

/-- MARKER_PROGRAMMED (R261): the marker stands at offset 4,092. -/
def execMarkerProgrammed (s : State) : Host.Outcome State Fault Refusal := s.clocked fun s =>
  if s.led.stage ≠ 6 then ok s
  else ok (((s.flashProgram (s.slotAddr s.led.slot + 4092) (toBytes 4 0x5AC33CA5)).countTrans 2 60).ledStage 7)

/-- READBACK_COMPARE (R261, R263): the bytes read back equal the record when `same` and the flash holds it; then the
record is published, otherwise the commit fails. -/
def execReadbackCompare (same : Bool) (s : State) : Host.Outcome State Fault Refusal := s.clocked fun s =>
  let pages := (s.led.body.length + 255) / 256
  if s.led.stage ≠ 7 then ok s
  else
    let s := s.countTrans (pages - 1) 2
    if same && s.flashRead (s.slotAddr s.led.slot) s.led.body.length == s.led.body then ok s.publish
    else ok s.commitFails

/-- The step limit of a stage with a status poll, in ms (Table 11-5). -/
def stageLimit (k : Nat) : Nat := if k = 2 then 300 else if k = 5 then 17 else if k = 6 then 3 else 0

/-- What the flash holds of a commit step cut off in stage `k`. (log 161: DEDUCED, unsafe.) -/
def State.tearCommit (s : State) (k : Nat) : State :=
  let a := s.slotAddr s.led.slot
  if k = 2 then s.flashTornErase a
  else if k = 5 then s.flashTornProgram a s.led.body
  else if k = 6 then s.flashTornProgram (a + 4092) (toBytes 4 0x5AC33CA5)
  else s

/-- COMMIT_STEP_TIMEOUT (R263): a status poll exceeds its step limit; a page poll has then also timed out (R361). -/
def execCommitStepTimeout (s : State) : Host.Outcome State Fault Refusal := s.clocked fun s =>
  let k := s.led.stage
  if k = 2 || k = 5 || k = 6 then
    let s := s.advCcTo (s.led.at_ + msClocks (stageLimit k))
    let s := (if k = 2 || s.led.torn then s else s.pageTimeout).tearCommit k
    ok (s.release 60 (s.qCount 60)).commitFails
  else ok s

/-- A read of LDG_RDDATA: four bytes from PTR, and PTR advances by 4. -/
def State.readLedger (s : State) : Word × State :=
  let p := s.fld F.LDG_RDCTL_PTR
  (BitVec.ofNat 40 (bytesAt s.readRecord p 4), s.update F.LDG_RDCTL_PTR (p + 4))

end Sys2Proof.Machine
end

