-- ==== Sys2Proof/Machine/Keys.lean ====
section
/-! DEFINITION. Sessions, key exchanges and group keys (R296 to R304, R307), and the commands that drive them. -/

namespace Sys2Proof.Machine

open Sys2Proof

/-- The enrollment entry of an address. -/
def State.entryOf (s : State) (p : Nat) : Option Entry := s.key.entries.find? (fun e => e.addr == p)

def State.exchange (s : State) (p : Nat) : Option Exchange := s.key.kx.find? (fun x => x.peer == p)

/-- Replace the exchanges in progress; KXBUSY shows whether there are any. -/
def State.setKx (s : State) (xs : List Exchange) : State :=
  ({ s with key := { s.key with kx := xs } } : State).setFlag F.KEY_STAT_KXBUSY (!xs.isEmpty)

def State.putKx (s : State) (x : Exchange) : State := s.setKx (x :: s.key.kx.filter (fun y => y.peer != x.peer))
def State.dropKx (s : State) (p : Nat) : State := s.setKx (s.key.kx.filter (fun y => y.peer != p))

/-- A failure noted in KEY_KXSTAT. (log 56: DEDUCED, unsafe.) -/
def State.kxFail (s : State) (p why : Nat) : State :=
  ((s.inc F.KEY_CNT_KXFAIL).setFld F.KEY_KXSTAT_PEER p).setFld F.KEY_KXSTAT_WHY why

/-! ### The engine (R305) -/

/-- Whether the engine is free: no ledger signature is due, and no operation of an exchange runs. -/
def State.engineFree (s : State) : Bool := s.led.stage ≠ 4 && decide (s.key.engTo ≤ s.clk.cc)

/-- The engine works for an exchange, for at most `ms` ms (Table 13-4). (log 50: DESIGN CHOICE, safe.) -/
def State.engineWorks (s : State) (ms : Nat) : State :=
  let (d, s) := s.draw (msClocks ms + 1)
  { s with key := { s.key with engTo := max s.key.engTo s.clk.cc + d } }

/-- S of R300. -/
def State.sysBytes (s : State) : List Byte := toBytes 4 (s.fld F.SYS_SYSID_SYSID)

/-! ### Forming messages (R299, R300) -/

/-- Bytes of a payload from `off`. -/
def slice (pl : List Byte) (off n : Nat) : List Byte := padTo n (pl.drop off)

/-- What SIGA signs, from a KX1 payload sent by `src`. -/
def State.sigaText (s : State) (src : Nat) (kx1 : List Byte) : List Byte :=
  s.sysBytes ++ toBytes 1 src ++ slice kx1 1 3 ++ slice kx1 4 80

/-- What SIGB signs, from the KX1 payload and a KX2 payload sent by `src`. -/
def State.sigbText (s : State) (src : Nat) (kx1 kx2 : List Byte) : List Byte :=
  s.sysBytes ++ toBytes 1 src ++ slice kx2 1 3 ++ slice kx1 4 80 ++ slice kx2 4 80

/-- The keys of an exchange with peer `p` (R300). -/
def State.deriveKeys (s : State) (p gen eph : Nat) (peerPub : Nat) (na nb : List Byte) : PairKey :=
  let z := toBytes 32 (ecdh eph peerPub)
  let lo := min s.addr p
  let hi := max s.addr p
  let name := [0x55, 0x4C, 0x53, 0x49, 0x53, 0x20, 0x50, 0x57].map (BitVec.ofNat 8)
  let okm := hkdf (na ++ nb) z (name ++ s.sysBytes ++ toBytes 1 lo ++ toBytes 1 hi ++ toBytes 1 gen)
  { gen := gen, mac := okm / 2 ^ 128, wrap := okm % 2 ^ 128 }

/-- CONF3 (n = 3) or CONF4 (n = 4). -/
def confOf (k : PairKey) (n : Nat) (kx1 kx2 : List Byte) : Nat := cmac64 k.mac (toBytes 1 n ++ shaBytes (kx1 ++ kx2))

/-- Send a KEYX broadcast through Q57. -/
def State.sendKeyx (s : State) (pl : List Byte) : State := s.pushTx 57 0 clsKeyx true pl

/-- Start an exchange with peer `p` (R301): key generation and a signature. (log 50: DESIGN CHOICE, safe.) -/
def State.startKx (s : State) (p : Nat) (fresh : Bool) : State :=
  if s.gated || (s.exchange p).isSome then s
  else if (s.entryOf p).isNone then (s.kxFail p 3)
  else
    let gen := if fresh then 0 else (match (s.sess p).cur with
      | some k => (k.gen + 1) % 4
      | none => 0)
    let (eph, s) := s.draw (2 ^ 256)
    let (na, s) := s.draw (2 ^ 128)
    let head := toBytes 1 1 ++ toBytes 1 p ++ toBytes 1 (b2n fresh) ++ toBytes 1 gen ++ toBytes 16 na ++
      toBytes 64 (ephPub eph)
    let pl := head ++ nodeSign (s.sigaText s.addr head)
    let s := s.putKx { peer := p, init := true, gen := gen, fresh := fresh, eph := eph, kx1 := pl, stage := 1, at_ := s.clk.cc }
    (s.engineWorks 24).sendKeyx pl

/-! ### Group keys (R303) -/

/-- Send group key `g` to peer `p`, wrapped under the pair's K_wrap. -/
def State.sendGkey (s : State) (g : GroupKey) (p : Nat) : State :=
  match (s.sess p).cur with
  | none => s
  | some k => s.pushTx 57 p clsKeyx false (toBytes 1 5 ++ toBytes 1 g.gen ++ toBytes 24 (keyWrap k.wrap g.key))

/-- Peers with a session. -/
def State.sessionPeers (s : State) : List Nat := (s.key.sess.filter (fun p => p.2.cur.isSome)).map (·.1)

/-- The active head draws a new group generation and sends it to every session (R303). (log 124: DEDUCED, unsafe.) -/
def State.drawGroup (s : State) : State :=
  let last := match s.key.next, s.key.grp with
    | some k, _ => some k.gen
    | none, k :: _ => some k.gen
    | none, [] => none
  let (k, s) := s.draw (2 ^ 128)
  let gen := match last with
    | some x => (x + 1) % 4
    | none => 0
  let g : GroupKey := { gen := gen, key := k, at_ := s.clk.cc }
  let s := { s with key := { s.key with next := some g, acked := [], drawn := s.clk.cc } }
  s.sessionPeers.foldl (fun s p => s.sendGkey g p) s

/-- A group key comes into use: it and the one before are held. -/
def State.useGroup (s : State) (g : GroupKey) : State :=
  let s := { s with key := { s.key with grp := { g with at_ := s.clk.cc } :: (s.key.grp.filter (fun (x : GroupKey) => x.gen != g.gen)).take 1 } }
  (s.setFlag F.KEY_STAT_GKEY true).setFld F.KEY_STAT_GGEN g.gen

/-! ### Installation (R302) -/

/-- Every unicast frame outstanding to `p` ends as a delivery failure. -/
def State.failOuts (s : State) (p : Nat) : State :=
  match s.outTo p with
  | some o => s.deliveryFails o
  | none => s

/-- Install a generation with peer `p`. -/
def State.install (s : State) (p : Nat) (k : PairKey) (fresh : Bool) : State :=
  let old := (s.sess p).cur
  let s := s.setSess p { cur := some k, old := old, at_ := s.clk.cc }
  let s := (s.setFlag (F.SLK_PEERp_LNK_SESS p) true).setFld (F.SLK_PEERp_LNK_KEYID p) k.gen
  let s := s.inc F.KEY_CNT_KXOK
  let s := if fresh then (s.clearWindow p).failOuts p else s
  let s := s.dropKx p
  if s.isHead && fresh then
    match s.key.next, s.key.grp with
    | some g, _ => s.sendGkey g p
    | none, g :: _ => s.sendGkey g p
    | none, [] => s
  else s

/-! ### Receiving KEYX (R304) -/

/-- Checks 2, 3 and 5 for a KEYX broadcast: the sender's entry. (log 58: DEDUCED, unsafe.) -/
def State.kxSender (s : State) (f : Frame) : Option Entry × State :=
  if !s.linkOn || s.role = roleNone then (none, s)
  else if badLength f then (none, s.crcErr)
  else if f.sysid.toNat ≠ s.fld F.SYS_SYSID_SYSID then (none, s.inc F.SLK_CNTA_STRANGER)
  else match s.entryOf f.src with
    | none => (none, s.inc F.SLK_CNTD_NOKEY)
    | some e => (some e, s)

def State.forger (s : State) : State := s.inc F.SLK_CNTA_FORGER
def State.formErr (s : State) : State := s.inc F.SLK_CNTD_FORMERR

/-- Whether a frame is a KEYX of this TYPE, else it is no frame of the row. -/
def isKeyx (f : Frame) (t : Nat) : Bool := f.cls.val == clsKeyx && typeOf f.payload == t

/-- TGT of a KEYX payload. (log 58: DEDUCED, unsafe.) -/
def tgtOf (pl : List Byte) : Nat := bytesAt pl 1 1

/-- Answer a KX1 as responder. -/
def State.answerKx1 (s : State) (f : Frame) : State :=
  let p := f.src.val
  let fl := bytesAt f.payload 2 1
  let gen := bytesAt f.payload 3 1 % 4
  let (eph, s) := s.draw (2 ^ 256)
  let (nb, s) := s.draw (2 ^ 128)
  let head := toBytes 1 2 ++ toBytes 1 p ++ toBytes 1 fl ++ toBytes 1 gen ++ toBytes 16 nb ++ toBytes 64 (ephPub eph)
  let pl := head ++ nodeSign (s.sigbText s.addr f.payload head)
  let k := s.deriveKeys p gen eph (bytesAt f.payload 20 64) (slice f.payload 4 16) (toBytes 16 nb)
  let s := s.putKx { peer := p, init := false, gen := gen, fresh := bitOf fl 0, eph := eph, kx1 := f.payload, kx2 := pl
                     keys := some k, stage := 2, at_ := s.clk.cc }
  s.sendKeyx pl

/-- A verified KX1 for this node is answered with KX2; of crossing exchanges the one initiated by the lower address continues
(R301). (log 58: DEDUCED, unsafe.) -/
def State.workKx1 (s : State) (e : Entry) (f : Frame) : State :=
  if f.tag ≠ 0 || !verifySig e.pub (s.sigaText f.src f.payload) (bytesAt f.payload 84 64) ||
      !ecOn (pointOf (bytesAt f.payload 20 64)) then s.forger
  else if !f.bc || f.payload.length ≠ 148 || f.src.val = s.addr then s.formErr
  else if tgtOf f.payload ≠ s.addr then s
  else
    match s.exchange f.src with
    | some x => if x.init && x.stage ≠ 3 && s.addr < f.src.val then s else (s.dropKx f.src).answerKx1 f
    | none => s.answerKx1 f

/-- A KX2: the initiator verifies it, derives the keys and sends KX3 (R300). (log 58: DEDUCED, unsafe.) -/
def State.workKx2 (s : State) (e : Entry) (f : Frame) : State :=
  if f.tag ≠ 0 then s.forger
  else if !f.bc || f.payload.length ≠ 148 || f.src.val = s.addr then s.formErr
  else if tgtOf f.payload ≠ s.addr then s
  else match s.exchange f.src with
    | some x =>
      if !x.init || x.stage ≠ 1 || bytesAt f.payload 3 1 ≠ x.gen then s.formErr
      else if !verifySig e.pub (s.sigbText f.src x.kx1 f.payload) (bytesAt f.payload 84 64) ||
          !ecOn (pointOf (bytesAt f.payload 20 64)) then
        s.forger.putKx { x with why := 2 }
      else
        let k := s.deriveKeys f.src x.gen x.eph (bytesAt f.payload 20 64) (slice x.kx1 4 16) (slice f.payload 4 16)
        let s := s.putKx { x with kx2 := f.payload, keys := some k, stage := 3, at_ := s.clk.cc }
        s.sendKeyx (toBytes 1 3 ++ toBytes 1 f.src.val ++ toBytes 1 x.gen ++ toBytes 1 0 ++
          toBytes 8 (confOf k 3 x.kx1 f.payload))
    | none => s.formErr

/-- The KX4 of a responder's exchange. -/
def kx4Of (x : Exchange) (k : PairKey) : List Byte :=
  toBytes 1 4 ++ toBytes 1 x.peer ++ toBytes 1 x.gen ++ toBytes 1 0 ++ toBytes 8 (confOf k 4 x.kx1 x.kx2)

/-- A KX3 or KX4 that passes its checks, given to `done`; `n` is its number. -/
def State.confirmed (s : State) (f : Frame) (n : Nat) (done : Exchange → PairKey → State → State) : State :=
  if f.tag ≠ 0 then s.forger
  else if !f.bc || f.payload.length ≠ 12 || f.src.val = s.addr then s.formErr
  else if tgtOf f.payload ≠ s.addr then s
  else match s.exchange f.src with
    | some x =>
      match x.keys with
      | some k =>
        if (n = 3 && (x.init || x.stage ≠ 2)) || (n = 4 && (!x.init || x.stage ≠ 3)) || bytesAt f.payload 2 1 ≠ x.gen then s.formErr
        else if bytesAt f.payload 4 8 ≠ confOf k n x.kx1 x.kx2 then s.forger.putKx { x with why := 4 }
        else done x k s
      | none => s.formErr
    | none => s.formErr

/-- A KX3: the responder installs the generation and sends KX4 (R302). -/
def State.workKx3 (s : State) (f : Frame) : State :=
  s.confirmed f 3 (fun x k s => (s.sendKeyx (kx4Of x k)).install x.peer k x.fresh)

/-- A KX4: the initiator installs the generation (R302). -/
def State.workKx4 (s : State) (f : Frame) : State := s.confirmed f 4 (fun x k s => s.install x.peer k x.fresh)

/-- The engine's work for a KEYX broadcast of sender `e`, and the time it may take (Table 13-4). -/
def State.workKx (s : State) (e : Entry) (f : Frame) : State :=
  match typeOf f.payload with
  | 1 => (s.workKx1 e f).engineWorks 57
  | 2 => (s.workKx2 e f).engineWorks 33
  | 3 => (s.workKx3 f).engineWorks 1
  | 4 => (s.workKx4 f).engineWorks 1
  | _ => s

/-- Serve the frames that wait for the engine while it is free, first in first out, with fuel for their number (R305). -/
def State.serveFrom : Nat → State → State
  | 0, s => s
  | n + 1, s =>
    match s.key.work with
    | [] => s
    | f :: m =>
      if s.engineFree then
        let s : State := { s with key := { s.key with work := m } }
        match s.entryOf f.src with
        | some e => State.serveFrom n (s.workKx e f)
        | none => State.serveFrom n s
      else s

/-- Serve the queue of the engine. -/
def State.serveKx (s : State) : State := State.serveFrom s.key.work.length s

/-- A KEYX broadcast meets the engine's queue: with 8 frames queued it is dropped and counts in RXFULL (R304, R305). -/
def State.takeKx (s : State) (f : Frame) : State :=
  match s.kxSender f with
  | (none, s) => s
  | (some e, s) =>
    if s.key.work.length ≥ 8 then s.inc F.SLK_CNTE_RXFULL
    else if s.engineFree && s.key.work.isEmpty then s.workKx e f
    else ({ s with key := { s.key with work := s.key.work ++ [f] } } : State).serveKx

/-- KX1 (R300, R301, R304). -/
def execKx1 (f : Frame) (s : State) : Host.Outcome State Fault Refusal := s.clocked fun s =>
  if isKeyx f 1 then ok ((s.arrive f).takeKx f) else ok s

/-- KX2 (R300, R304). -/
def execKx2 (f : Frame) (s : State) : Host.Outcome State Fault Refusal := s.clocked fun s =>
  if isKeyx f 2 then ok ((s.arrive f).takeKx f) else ok s

/-- KX3 (R302, R304). -/
def execKx3 (f : Frame) (s : State) : Host.Outcome State Fault Refusal := s.clocked fun s =>
  if isKeyx f 3 then ok ((s.arrive f).takeKx f) else ok s

/-- KX4 (R302, R304). -/
def execKx4 (f : Frame) (s : State) : Host.Outcome State Fault Refusal := s.clocked fun s =>
  if isKeyx f 4 then ok ((s.arrive f).takeKx f) else ok s

/-- GKEY (R303): the wrapped group key is unwrapped and kept; a failed unwrap is answered with RES 3 and counted. -/
def execGkey (f : Frame) (s : State) : Host.Outcome State Fault Refusal := s.clocked fun s =>
  if !isKeyx f 5 then ok s
  else
    let s := s.arrive f
    match s.rxChecks f (!f.bc && f.payload.length = 26) 0 with
    | (.accepted, s) =>
      let kw := match (s.sess f.src).cur.filter (fun (k : PairKey) => k.gen == f.keyid.val) with
        | some k => some k.wrap
        | none => ((s.sess f.src).old.filter (fun (k : PairKey) => k.gen == f.keyid.val)).map (fun (k : PairKey) => k.wrap)
      match kw.bind (fun k => keyUnwrap k (bytesAt f.payload 2 24)) with
      | some key => ok ((s.accept f 0 0).useGroup { gen := bytesAt f.payload 1 1 % 4, key := key % 2 ^ 128, at_ := s.clk.cc })
      | none =>
        let s := s.enterWindow f.src { seq := f.seq.toNat, res := 3 }
        ok ((s.kxFail f.src 5).ackFor f 3 0 0)
    | (_, s) => ok s

/-! ### Timers and host commands -/

/-- KEYX_ANSWER_TIMEOUT (R301): 500 ms without an answer the message is sent again; after three KX1 the exchange fails and
is barred for 10 s. (log 56: DEDUCED, unsafe.) -/
def execKeyxAnswerTimeout (q : Fin 64) (s : State) : Host.Outcome State Fault Refusal := s.clocked fun s =>
  match s.exchange q with
  | none => ok s
  | some x =>
    let s := s.advCcTo (x.at_ + msClocks 500)
    if x.stage = 1 && x.tries ≥ 3 then
      let s := (s.dropKx q).kxFail q x.why
      ok { s with key := { s.key with barred := spPut s.key.barred q (s.clk.cc + secClocks 10) } }
    else
      let s := s.putKx { x with at_ := s.clk.cc, tries := x.tries + 1 }
      match x.stage, x.keys with
      | 2, _ => ok (s.sendKeyx x.kx2)
      | 3, some k => ok (s.sendKeyx (toBytes 1 3 ++ toBytes 1 x.peer ++ toBytes 1 x.gen ++ toBytes 1 0 ++
          toBytes 8 (confOf k 3 x.kx1 x.kx2)))
      | _, _ => ok (s.sendKeyx x.kx1)

/-- Whether an item for destination `p` waits in a transmit ring or with its producer. -/
def State.frameFor (s : State) (p : Nat) : Bool :=
  (s.items 56 ++ s.items 57).any (fun i => let x := itemOf i; x.peer == p && !x.bc) ||
    s.lnk.wait.any (fun t => t.dst == p && !t.bc)

/-- KEY_EXCHANGE_INITIATE (R301, R312, R316): a node with a frame for peer `q`, or seeking a head session, and no session
with it sends KX1 with FRESH set. -/
def execKeyExchangeInitiate (q : Fin 64) (s : State) : Host.Outcome State Fault Refusal := s.clocked fun s =>
  let barred := match (s.key.barred.find? (fun p => p.1 == q.val)) with
    | some (_, c) => decide (s.clk.cc < c)
    | none => false
  let why := s.frameFor q || s.role = roleStandby || s.hd.arb.isSome
  if s.linkOn && s.role ≠ roleNone && !s.gated && q.val ≠ s.addr && (s.sess q).cur.isNone && !barred && why then ok (s.startKx q true)
  else ok s

/-- REKEY in core clocks; none when it is 0. -/
def State.rekeyCc (s : State) : Option Nat :=
  let h := s.fld F.KEY_CFG_REKEY
  if h = 0 then none else some (secClocks (3600 * h))

/-- REKEY_PERIOD_EXPIRY (R301): REKEY hours after installation, the lower address starts a rekey with peer `q`. -/
def execRekeyPeriodExpiry (q : Fin 64) (s : State) : Host.Outcome State Fault Refusal := s.clocked fun s =>
  match s.rekeyCc, (s.sess q).cur with
  | some k, some _ =>
    if s.addr < q.val && s.linkOn && !s.gated then ok ((s.advCcTo ((s.sess q).at_ + k)).startKx q false) else ok s
  | _, _ => ok s

/-- OLD_GENERATION_DISCARD (R302): 10 s after installation the previous generation is discarded. -/
def execOldGenerationDiscard (q : Fin 64) (s : State) : Host.Outcome State Fault Refusal := s.clocked fun s =>
  let x := s.sess q
  if x.old.isSome then ok ((s.advCcTo (x.at_ + secClocks 10)).setSess q { x with old := none }) else ok s

/-- GROUP_KEY_SWITCH (R303): every node with a session has acknowledged, or 10 s have passed since the first GKEY. -/
def execGroupKeySwitch (s : State) : Host.Outcome State Fault Refusal := s.clocked fun s =>
  match s.key.next with
  | none => ok s
  | some g =>
    let all := s.sessionPeers.all (fun p => s.key.acked.contains p)
    let s := if all then s else s.advCcTo (g.at_ + secClocks 10)
    ok (({ s with key := { s.key with next := none } } : State).useGroup g)

/-- GROUP_KEY_DISCARD (R303): 60 s after a newer generation the older one is discarded. -/
def execGroupKeyDiscard (s : State) : Host.Outcome State Fault Refusal := s.clocked fun s =>
  match s.key.grp with
  | g :: _ :: _ =>
    let s := s.advCcTo (g.at_ + secClocks 60)
    ok { s with key := { s.key with grp := [g] } }
  | _ => ok s

/-- GROUP_REKEY_PERIOD_EXPIRY (R303): REKEY hours after the last draw the active head draws again. -/
def execGroupRekeyPeriodExpiry (s : State) : Host.Outcome State Fault Refusal := s.clocked fun s =>
  match s.rekeyCc with
  | some k => if s.isHead && !s.gated then ok (s.advCcTo (s.key.drawn + k)).drawGroup else ok s
  | none => ok s

/-- A write of KEY_CMD: PEER is kept, and each command bit acts, from bit 0 up (R298, R301, R303). -/
def State.writeKeyCmd (s : State) (v : Word) : State :=
  let s := s.setFld F.KEY_CMD_PEER (bitsOf v.toNat 13 8)
  let p := s.fld F.KEY_CMD_PEER
  let s := if bitOf v.toNat 0 && s.role ≠ roleNone && p ≠ s.addr then s.startKx p (s.sess p).cur.isNone else s
  let s := if bitOf v.toNat 1 && s.isHead then s.drawGroup else s
  if bitOf v.toNat 2 && s.role ≠ roleNone then
    let (c, s) := s.draw (2 ^ 128)
    s.pushTx 57 0 clsEnr true (toBytes 1 1 ++ toBytes 16 c)
  else s

end Sys2Proof.Machine
end

