-- ==== Sys2Proof/Machine/Geo.lean ====
section
/-! DEFINITION. Snapshots on the node that captures them, and the head's geometry service (chapter 4, R103 to R117, R20). -/

namespace Sys2Proof.Machine

open Sys2Proof

/-! ### The snapshot buffer (R105, R106) -/

/-- A place for `n` contiguous bytes, which one being the node's own choice. (log 103: DESIGN CHOICE, safe.) -/
def State.snapPlace (s : State) (n : Nat) : Option Nat × State :=
  let gs := s.snapGaps.filter (fun g => n ≤ g.2)
  if gs = [] then (none, s)
  else
    let (k, s) := s.draw gs.length
    (gs[k]?.map (·.1), s)

/-- The part of sparse data with keys below `k`, and from `k` on. -/
def spCut {α : Type} (k : Nat) (m : List (Nat × α)) : List (Nat × α) × List (Nat × α) :=
  (m.filter (fun p => p.1 < k), m.filter (fun p => k ≤ p.1))

/-- Write a run of bytes into the buffer; their parity is then right. -/
def State.snapWrite (s : State) (off : Nat) (bs : List Byte) : State :=
  let (a, m) := spCut off s.gnb.buf
  let (_, b) := spCut (off + bs.length) m
  let new := (((List.range bs.length).map (fun i => off + i)).zip bs).filter (fun p => p.2 ≠ 0)
  s.setGnb { s.gnb with buf := a ++ new ++ b, bad := s.gnb.bad.filter (fun k => k < off || off + bs.length ≤ k) }

/-- Read a byte: its value and whether it is delivered with poison, which a parity mismatch counts each time (R343). -/
def State.snapRead (s : State) (req k : Nat) : Byte × Bool × State :=
  let b := spGet (fun _ => 0#8) s.gnb.buf k
  if s.gnb.bad.contains k then (b, true, s.parityError true 1 req k) else (b, false, s)

/-- Two samples to a byte, the earlier in bits [7:4] (R108). -/
def packSamples : Nat → List Byte → List Byte
  | 0, _ => []
  | _, [] => []
  | k + 1, a :: m => BitVec.ofNat 8 (a.toNat % 16 * 16 + (m.headD 0).toNat % 16) :: packSamples k m.tail

/-- A 2-bit component: sign and magnitude, the magnitude 3 above the threshold `t` (R106). -/
def code2 (t : Nat) (x : BitVec 8) : Nat :=
  2 * b2n (decide (x.toInt < 0)) + b2n (decide (x.toInt.natAbs > t))

/-- The threshold of the requantizer: the least magnitude above which at most one third of the samples lie (R86).
(log 202: DESIGN CHOICE, unsafe.) -/
def quantThr (xs : List (BitVec 8)) : Nat :=
  let count := fun (t : Nat) => (xs.filter (fun x => decide (x.toInt.natAbs > t))).length
  ((List.range 128).find? (fun t => 3 * count t ≤ xs.length)).getD 128

/-- The samples of a capture requantized: I in bits [3:2] and Q in bits [1:0] of a byte (R86, R105, R106). -/
def quantize (xs : List (BitVec 8 × BitVec 8)) : List Byte :=
  let ti := quantThr (xs.map (·.1))
  let tq := quantThr (xs.map (·.2))
  xs.map (fun p => BitVec.ofNat 8 (4 * code2 ti p.1 + code2 tq p.2))

/-- The samples of packed bytes, one to a byte. -/
def unpackSamples (bs : List Byte) : List Byte :=
  bs.flatMap (fun b => [BitVec.ofNat 8 (b.toNat / 16), BitVec.ofNat 8 (b.toNat % 16)])

/-- The bytes of the buffer from `off`, `n` of them, as stored. -/
def State.snapBytes (s : State) (off n : Nat) : List Byte :=
  (List.range n).map (fun i => spGet (fun _ => 0#8) s.gnb.buf (off + i))

/-! ### Segments (R107, R108) -/

/-- Data bytes of a capture, and data segments. -/
def dataBytes (dur : Nat) : Nat := snapLen dur / 2
def nSeg (dur : Nat) : Nat := (dataBytes dur + 235) / 236

/-- The first four bytes of a segment. -/
def segHead (type id no : Nat) : List Byte := toBytes 1 type ++ toBytes 1 id ++ toBytes 2 no

/-- Header fields at the present instant: T0 or T_cap, TFRAC, X0. -/
def State.hdrTimes (s : State) (t0 frac : Nat) : List Byte := toBytes 5 t0 ++ toBytes 2 frac ++ toBytes 5 (s.travelAt t0)

/-- RATE, FLAGS, JAM, AGC and the notches at the present instant. -/
def State.hdrTail (s : State) : List Byte :=
  let st := s.fld F.TBS_STAT_STATE
  toBytes 3 (wrapW 24 (s.fldI F.TBS_RATE_RATE)) ++
    toBytes 1 (128 * b2n (st = 1) + 64 * b2n (st = 2) + 32 * b2n (s.gnb.notch ≠ [])) ++
    toBytes 1 (s.fld F.GNB_JAM_JAM) ++ toBytes 1 (s.fld F.GNB_JAM_AGC) ++
    (List.range 4).flatMap (fun k => toBytes 2 (s.fld (F.GNB_NOTCHk_FREQ k)))

/-- A header segment (Table 4-7). (log 104: DEDUCED, unsafe.) -/
def headerSeg (id status dur : Nat) (times tail tboff : List Byte) (nsamp nseg crc : Nat) : List Byte :=
  segHead 0xA0 id 0 ++ toBytes 1 status ++ toBytes 1 dur ++ times ++ toBytes 4 nsamp ++ toBytes 2 nseg ++ tail ++
    toBytes 4 crc ++ tboff ++ toBytes 1 0

/-- TBOFF: the last TBS_OFFSET. -/
def State.hdrOff (s : State) : List Byte := toBytes 3 (wrapW 24 (s.fldI F.TBS_OFFSET_OFFSET))

/-- Put a segment in Q62, its words poisoned as `cs` says. -/
def State.putSeg (s : State) (peer : Nat) (loc : Bool) (seg : List Byte) (cs : List Nat) : State :=
  let n := s.qCount 62
  let s := s.pushItem 62 (streamWords 62 peer clsSnap false s.now 0 seg) ([0, 0, 0] ++ cs)
  match (s.queue 62).recs[n]? with
  | some r =>
    let ls := s.gnb.locals.filter (fun k => k != r.slot)
    s.setGnb { s.gnb with locals := if loc then r.slot :: ls else ls }
  | none => s

/-- The payload of segment `no` of a snapshot, with the check bits of its words: a sample byte that fails parity poisons
its word. -/
def State.segOf (s : State) (x : Snap) (no : Nat) : List Byte × List Nat × State :=
  if no = 0 then (x.hdr, [], s)
  else
    let from_ := 472 * (no - 1)
    let n := min 472 (snapLen x.dur - from_)
    let (bs, ps, s) := (List.range n).foldl (fun (a : List Byte × List Bool × State) i =>
      let (b, p, s) := a.2.2.snapRead reqLink (x.off + from_ + i)
      (b :: a.1, p :: a.2.1, s)) ([], [], s)
    let seg := segHead 0xA1 x.id no ++ packSamples n bs.reverse
    let ps := ps.reverse
    let bad := fun (w : Nat) => (List.range ps.length).any (fun i => (ps[i]?.getD false) && (4 + i / 2) / 5 == w)
    (seg, (List.range ((seg.length + 4) / 5)).map (fun w => 32 * b2n (bad w)), s)

/-- Whether the Q62 item that begins with `r` is for the link. -/
def State.forLink (s : State) (r : Rec) : Bool := !s.gnb.locals.contains r.slot

/-- Move the first Q62 item that is for the link to Q57, when there is room: it takes its SEQ there (R107, R275). -/
def State.shipOne (s : State) : Option State :=
  match (s.items 62).find? (fun i => match i with
    | r :: _ => s.forLink r
    | [] => false) with
  | none => none
  | some rs =>
    if s.lnk.wait = [] && s.ringRoom 57 rs.length then
      let r0 := rs.headD { w0 := 0, w1 := 0, w2 := 0 }
      let seq := s.nextSeq
      let out : List Rec := match rs with
        | r :: m => { r with w0 := putBits r.w0 ⟨0, 35, 30⟩ 57, w1 := BitVec.ofNat 40 s.now, w2 := BitVec.ofNat 40 seq } :: m
        | [] => []
      let x := s.queue 62
      let s := { s.setQueue 62 { x with recs := ((s.items 62).filter (fun i => (i.headD r0).slot != r0.slot)).flatten } with
        spent := rs.reverse ++ s.spent }
      let s := s.setFld F.SLK_STAT_SEQ (seq + 1)
      some (out.foldl (fun s r => s.pushRec 57 r) s)
    else none

/-- Put the next waiting segment of a snapshot in Q62, when there is room. -/
def State.feedSeg (s : State) : Option State :=
  match s.gnb.snaps.find? (fun x => x.stage = 3 && x.todo ≠ []) with
  | none => none
  | some x =>
    let no := x.todo.headD 0
    let len := if no = 0 then 46 else 4 + min 236 (dataBytes x.dur - 236 * (no - 1))
    if s.ringRoom 62 (nrecFor len) then
      let (seg, cs, s) := s.segOf x no
      let upd := fun (y : Snap) => if y = x then { y with todo := x.todo.drop 1 } else y
      some ((s.setGnb { s.gnb with snaps := s.gnb.snaps.map upd }).putSeg x.peer x.loc seg cs)
    else none

/-- Let segments flow through Q62 into Q57 while there is room. -/
def State.pumpSnap : Nat → State → State
  | 0, s => s
  | k + 1, s =>
    match s.feedSeg with
    | some s => State.pumpSnap k s
    | none => match s.shipOne with
      | some s => State.pumpSnap k s
      | none => s

/-- Fuel for the pump: segments that wait, and items that stand in Q62, twice. (log 105: DEDUCED, unsafe.) -/
def State.pump (s : State) : State :=
  if s.gated then s
  else State.pumpSnap (2 * (s.gnb.snaps.map (fun x => x.todo.length)).sum + (s.items 62).length) s

/-! ### Requests and captures on the node (R103 to R105, R117) -/

/-- Duration in force: 2 to 32 ms, also for a request. (log 203: DESIGN CHOICE, unsafe.) -/
def durOf (d : Nat) : Nat := clampN 2 32 d

/-- The snapshot that waits for its capture, if any: a new request replaces it. -/
def State.waiting (s : State) : List Snap := s.gnb.snaps.filter (fun x => x.stage < 2)

/-- Drop the snapshot that waits. -/
def State.dropWaiting (s : State) : State := s.setGnb { s.gnb with snaps := s.gnb.snaps.filter (fun x => x.stage ≥ 2) }

/-- The status of a request for T_cap, the first of Table 4-5 that applies; `at_` is its arrival. A
local capture is made with the GNSS in any mode (R117). -/
def State.snapStatus (s : State) (head loc : Bool) (at_ tcap dur : Nat) : Nat :=
  if (if loc then !s.gnssPowered else !s.snapping) then 7
  else if !head then 8
  else if s.flag F.GNB_STAT_ANTOPEN || s.flag F.GNB_STAT_ANTSHORT then 6
  else if s.fld F.TBS_STAT_STATE = 0 then 3
  else if s.jammed then 4
  else if dist tcap at_ * 1000 < ((40 * 2 ^ 20 : Nat) : Int) then 1
  else if dist tcap at_ > ((10 * 2 ^ 20 : Nat) : Int) then 2
  else if s.gnb.snaps.any (fun x => x.stage = 2) || !(s.dropWaiting.snapGaps.any (fun g => snapLen dur ≤ g.2)) then 5
  else 0

/-- Judge a request that arrived at system time `at_`: accepted it replaces one that waits; refused it is answered by a
header segment. (log 104: DEDUCED, unsafe.) -/
def State.snapRequest (s : State) (head loc : Bool) (peer id d at_ tcap : Nat) : State :=
  let dur := durOf d
  let st := s.snapStatus head loc at_ tcap dur
  if st = 0 then
    let s := s.dropWaiting
    match s.snapPlace (snapLen dur) with
    | (some off, s) =>
      s.setGnb { s.gnb with snaps := s.gnb.snaps ++ [{ id := id, dur := dur, tcap := tcap, peer := peer, loc := loc, off := off }] }
    | (none, s) => s
  else
    let s := s.inc F.GNB_SNAPSTAT_REFUSED
    let h := headerSeg id st d (toBytes 5 tcap ++ toBytes 2 0 ++ toBytes 5 (s.travelAt tcap)) s.hdrTail s.hdrOff 0 0 (crc32 [])
    let x : Snap := { id := id, dur := 0, tcap := tcap, peer := peer, loc := loc, off := 0, stage := 3, at_ := s.clk.cc
                      todo := [0], unacked := [0], hdr := h }
    (s.setGnb { s.gnb with snaps := s.gnb.snaps ++ [x] }).pump

/-- LOCAL_SNAPSHOT_REQUEST (R117): a write of GNB_SNAPREQ. -/
def State.writeSnapReq (s : State) (v : Word) : State :=
  if s.gnssPowered then s.snapRequest true true 0 0 (s.fld F.GNB_SNAPCFG_DUR) s.now v.toNat else s

/-- Change the snapshots that satisfy `p`. -/
def State.modSnaps (s : State) (p : Snap → Bool) (f : Snap → Snap) : State :=
  s.setGnb { s.gnb with snaps := s.gnb.snaps.map (fun x => if p x then f x else x) }

/-- Whether the front end must be powered for the capture that waits: MODE 10b, or a local capture with GNSS off (R104, R117). -/
def State.powersFor (s : State) (x : Snap) : Bool :=
  s.gnssPowered && (s.fld F.GNB_CFG_MODE = 2 || (x.loc && s.fld F.GNB_CFG_MODE = 0))

/-- FRONT_END_POWER_UP (R104): 30 ms before T_cap in MODE 10b. -/
def execFrontEndPowerUp (s : State) : Host.Outcome State Fault Refusal := s.clocked fun s =>
  match s.gnb.snaps.find? (fun x => x.stage = 0) with
  | none => ok s
  | some x =>
    if s.powersFor x then
      let s := s.advTo (add40 x.tcap (-(msTb 30 : Nat)))
      ok (s.modSnaps (fun y => y.stage = 0) (fun y => { y with stage := 1 }))
    else ok s

/-- CAPTURE_START (R104): the first sample instant at or after T_cap; where it falls within the tb is the sample clock's.
(log 103: DESIGN CHOICE, safe.) -/
def execCaptureStart (s : State) : Host.Outcome State Fault Refusal := s.clocked fun s =>
  match s.waiting with
  | [] => ok s
  | x :: _ =>
    if !(if x.loc then s.gnssPowered else s.snapping) then ok s
    else
      let s := s.advTo x.tcap
      let (fr, s) := s.draw 16794
      ok (s.modSnaps (fun y => y.stage < 2) (fun y => { y with
        stage := 2, at_ := s.clk.cc, times := s.hdrTimes s.now fr, tail := s.hdrTail, tboff := s.hdrOff }))

/-- CAPTURE_COMPLETE (R104 to R108): 4,092 × DUR samples, requantized, are in the buffer; the record's segments
go to Q62. -/
def execCaptureComplete (samples : List (BitVec 8 × BitVec 8)) (s : State) : Host.Outcome State Fault Refusal := s.clocked fun s =>
  match s.gnb.snaps.find? (fun x => x.stage = 2) with
  | none => ok s
  | some x =>
    let s := s.advCcTo (x.at_ + msClocks x.dur)
    let bs := padTo (snapLen x.dur) (quantize (samples.take (snapLen x.dur)))
    let s := (s.snapWrite x.off bs).inc F.GNB_SNAPSTAT_CAPTURES
    let h := headerSeg x.id 0 x.dur x.times x.tail x.tboff (snapLen x.dur) (nSeg x.dur) (crc32 (packSamples bs.length bs))
    let all := List.range (nSeg x.dur + 1)
    ok (s.modSnaps (fun y => y.stage = 2) (fun y => { y with stage := 3, todo := all, unacked := all, hdr := h })).pump

/-- Drop the items of queue `q` that satisfy `p`. -/
def State.dropItems (s : State) (q : Nat) (p : List Rec → Bool) : State :=
  let x := s.queue q
  let is := s.items q
  { s.setQueue q { x with recs := (is.filter (fun i => !p i)).flatten } with
    spent := (is.filter p).flatten.reverse ++ s.spent }

/-- Free the space of a snapshot; what waits in Q62 and Q57 for the link is not sent any more, but for a frame that has been sent
and waits for its result. (log 105: DEDUCED, unsafe.) -/
def State.freeSnap (s : State) (x : Snap) : State :=
  let s := s.setGnb { s.gnb with snaps := s.gnb.snaps.filter (fun y => y ≠ x) }
  if x.loc then s
  else
    let its := fun (i : List Rec) => (itemOf i).peer == x.peer && bytesAt (itemOf i).payload 1 1 == x.id
    let here := fun (i : List Rec) => (match i with
      | r :: _ => s.forLink r && its i
      | [] => false)
    let sent := fun (i : List Rec) => s.lnk.outs.any (fun o => o.seq == (itemOf i).seq)
    let there := fun (i : List Rec) => i.length != 0 && (itemOf i).cls == clsSnap && its i && !sent i
    (s.dropItems 62 here).dropItems 57 there

/-- SNAPSHOT_SPACE_RELEASE (R105): every segment of the oldest snapshot is acknowledged, or 120 s have passed since its
T_cap. -/
def execSnapshotSpaceRelease (s : State) : Host.Outcome State Fault Refusal := s.clocked fun s =>
  match s.gnb.snaps.find? (fun x => x.stage = 3) with
  | none => ok s
  | some x =>
    let s := if x.unacked = [] then s else s.advCcTo (x.at_ + secClocks 120)
    ok (s.freeSnap x)

/-- A SNAP frame of this node has been acknowledged: segment `no` of snapshot `id` to `p`. -/
def State.snapAcked (s : State) (p id no : Nat) : State :=
  match s.gnb.snaps.find? (fun x => x.stage = 3 && !x.loc && x.peer = p && x.id = id && x.unacked.contains no) with
  | none => s
  | some x =>
    let y := { x with unacked := x.unacked.filter (fun k => k != no) }
    let s := s.setGnb { s.gnb with snaps := s.gnb.snaps.map (fun z => if z = x then y else z) }
    if y.unacked = [] && y.todo = [] then s.freeSnap y else s

/-- Entry to DORMANT: the baseband stops, and a capture that waits or runs is abandoned (R117).
(log 112: DEDUCED, unsafe.) -/
def State.abandonSnap (s : State) : State :=
  let s := s.gnssOff
  s.setGnb { s.gnb with snaps := s.gnb.snaps.filter (fun x => x.stage = 3) }

/-! ### The head's service (R109, R110) -/

/-- Whether the geometry service runs. -/
def State.serving (s : State) : Bool := s.isHead && s.tracking

/-- The nodes served. -/
def State.served (s : State) : List Nat := (List.range 64).filter (fun k => s.flag (F.GNB_TWRk_CFG_EN k))

/-- The position of tower `k`: east and north in mm. -/
def State.towerPos (s : State) (k : Nat) : Int × Int := (s.fldI (F.GNB_TWRk_E_EAST k), s.fldI (F.GNB_TWRk_N_NORTH k))

/-- The service starts afresh, or stops: no request stands. Towers loaded with a position, that is once accepted, count their age
from here. (log 204: DEDUCED, unsafe.) -/
def State.resetGeo (s : State) : State :=
  let known := (List.range 64).filter (fun k => s.fld (F.GNB_TWRk_N_STATUS k) = 1 || s.fld (F.GNB_TWRk_E_AGE k) ≠ 0xFFFF ||
    s.towerPos k != (0, 0))
  s.setGnb { s.gnb with
    reqs := [], turn := none, served := none, left := [], since := s.clk.cc
    acc := known.map (fun k => (k, s.clk.cc, s.fld (F.GNB_TWRk_E_AGE k)))
    accX := known.map (fun k => (k, s.travel)) }

/-- The node whose turn comes after `k`. -/
def nextServed (ns : List Nat) (k : Option Nat) : Option Nat :=
  match k with
  | none => ns.head?
  | some k => (ns.find? (fun n => k < n)).orElse (fun _ => ns.head?)

/-- A request that no header has answered 10 s after T_cap stands no longer. (log 106: DESIGN CHOICE, safe.) -/
def State.lapseReqs (s : State) : State :=
  s.setGnb { s.gnb with reqs := s.gnb.reqs.filter (fun r => r.hdrCc.isSome || s.clk.cc < r.at_ + secClocks 10) }

/-- SNAPSHOT_SERVICE_TURN (R109): the next spacing interval, PERIOD / n, begins with the next node's turn.
(log 106: DESIGN CHOICE, safe.) -/
def execSnapshotServiceTurn (s : State) : Host.Outcome State Fault Refusal := s.clocked fun s =>
  let ns := s.served
  if !s.serving then ok s
  else
    match nextServed ns s.gnb.served with
    | none => ok s
    | some k =>
      let gap := secClocks (clampN 1 3600 (s.fld F.GNB_SNAPCFG_PERIOD)) / ns.length
      let s := match s.gnb.turn with
        | some c => s.advCcTo (c + gap)
        | none => s
      let s := (s.setGnb { s.gnb with turn := some s.clk.cc, served := some k }).lapseReqs
      let dur := durOf (s.fld F.GNB_SNAPCFG_DUR)
      if s.gnb.reqs.any (fun r => r.node = k) || k = s.addr || (s.sess k).cur.isNone then ok s
      else match s.snapPlace (snapLen dur) with
        | (none, s) => ok s
        | (some off, s) =>
          let lo := (s.now + msTb 100 + 1023) / 1024
          let hi := (s.now + 2 ^ 20 / 5) / 1024
          let (d, s) := s.draw (hi + 1 - lo)
          let t := (lo + d) * 1024 % mod40
          let (id, s) := s.draw 256
          let r : GeoReq := { node := k, id := id, dur := dur, off := off, at_ := s.clk.cc + (dist t s.now).toNat * 128 }
          let s := s.setGnb { s.gnb with reqs := s.gnb.reqs ++ [r] }
          ok (s.pushTx 56 k clsSreq false (toBytes 1 id ++ toBytes 1 dur ++ toBytes 5 t))

/-- Remove a request or record, freeing its space. -/
def State.dropReq (s : State) (r : GeoReq) : State := s.setGnb { s.gnb with reqs := s.gnb.reqs.filter (fun x => x ≠ r) }

/-- Replace a request or record. -/
def State.putReq (s : State) (r r' : GeoReq) : State :=
  s.setGnb { s.gnb with reqs := s.gnb.reqs.map (fun x => if x = r then r' else x) }

/-- Whether every data segment is in. -/
def GeoReq.complete (r : GeoReq) : Bool :=
  r.hdrCc.isSome && (List.range (bytesAt r.hdr 22 2)).all (fun i => r.segs.contains (i + 1))

/-- A record with every segment in: DCRC decides whether it waits for processing. -/
def State.judgeRecord (s : State) (r : GeoReq) : State :=
  if r.complete && r.done.isNone then
    let bs := s.snapBytes r.off (bytesAt r.hdr 18 4)
    if crc32 (packSamples bs.length bs) = bytesAt r.hdr 38 4 then s.putReq r { r with done := some s.clk.cc }
    else s.dropReq r
  else s

/-- A segment from node `p` (R110): it belongs to the request outstanding there. -/
def State.snapSegment (s : State) (p : Nat) (pl : List Byte) : State :=
  match s.gnb.reqs.find? (fun r => r.node = p && r.id = bytesAt pl 1 1 && r.done.isNone) with
  | none => s
  | some r =>
    if bytesAt pl 0 1 = 0xA0 then
      if bytesAt pl 4 1 ≠ 0 || bytesAt pl 5 1 ≠ r.dur || bytesAt pl 18 4 ≠ snapLen r.dur || bytesAt pl 22 2 ≠ nSeg r.dur then s.dropReq r
      else
        let r' := { r with hdrCc := some s.clk.cc, hdr := pl }
        (s.putReq r r').judgeRecord r'
    else
      let no := bytesAt pl 2 2
      if no = 0 || no > nSeg r.dur then s
      else
        let bs := unpackSamples ((pl.drop 4).take (dataBytes r.dur - 236 * (no - 1)))
        let s := s.snapWrite (r.off + 472 * (no - 1)) bs
        let r' := { r with segs := if r.segs.contains no then r.segs else no :: r.segs }
        (s.putReq r r').judgeRecord r'

/-- REASSEMBLY_TIMEOUT (R110): 10 s after the header of node `k`'s record a segment is still missing. -/
def execReassemblyTimeout (k : Fin 64) (s : State) : Host.Outcome State Fault Refusal := s.clocked fun s =>
  match s.gnb.reqs.find? (fun r => r.node = k.val && r.hdrCc.isSome && r.done.isNone) with
  | some r => ok ((s.advCcTo (r.hdrCc.getD 0 + secClocks 10)).dropReq r)
  | none => ok s

/-! ### Positions and offsets (R111 to R115, R20) -/

/-- Whether |(e, n)|, in mm, equals `len` within `tol`. -/
def within (e n : Int) (len tol : Nat) : Bool :=
  let d2 := e * e + n * n
  decide (d2 ≤ ((len + tol) * (len + tol) : Nat)) && decide (d2 ≥ ((len - tol) * (len - tol) : Nat))

/-- The tower's previous position carried forward over `dx` tc of travel, in units of 2^-128 mm (R111).
(log 109: DEDUCED, unsafe.) -/
def State.carried (s : State) (k : Nat) (dx : Int) : Int × Int :=
  let (e, n) := s.towerPos k
  if s.flag F.TRV_CFG_KIND then
    let (c, sn) := cosSin (s.fld F.GNB_AXIS_AXIS)
    (e * 2 ^ 128 + dx * sn / 1024, n * 2 ^ 128 + dx * c / 1024)
  else
    let (c, sn) := cosSin (s.azSign * dx)
    (e * c + n * sn, n * c - e * sn)

/-- Channels whose satellites are kept (R111): tracked at or above ELMASK, without a slip from core clock `from_` to `to_`, and with
a peak of 35 dB-Hz or more. -/
def State.keptSats (s : State) (ps : List (Fin 48 × Nat)) (from_ to_ : Nat) : List Nat :=
  let ns := (ps.filter (fun p => p.2 ≥ 35)).map (fun p => p.1.val)
  ns.eraseDups.filter (fun n => s.chTrk n ≥ 3 && s.fld (F.GNB_CHk_EL n) ≥ s.fld F.GNB_CFG_ELMASK &&
    (s.chan n).handed ≤ from_ && (match (s.chan n).slip with
      | some c => decide (c < from_) || decide (c > to_)
      | none => true))

/-- Whether the span constraint of R111 can be formed for tower `k`: PREV is the head, or has a position younger than GEOMAX. -/
def State.prevFresh (s : State) (k : Nat) : Bool :=
  let p := s.fld (F.GNB_TWRk_CFG_PREV k)
  p = s.addr || (match s.towerAge p with
    | some a => decide (a < s.fld F.GNB_GEOCFG_GEOMAX)
    | none => false)

/-- The constraints of R111 on an integer candidate of tower `k` with the head's travel `x`. (log 109: DEDUCED, unsafe.) -/
def State.geoFits (s : State) (k : Nat) (x : Nat) (r : IntCand) : Bool :=
  let p := s.fld (F.GNB_TWRk_CFG_PREV k)
  let (pe, pn) := if p = s.addr then (0, 0) else s.towerPos p
  let span := !s.prevFresh k ||
    within (r.east - pe) (r.north - pn) (s.fld (F.GNB_TWRk_CFG_LEN k)) (s.fld F.GNB_GEOCFG_SPANTOL)
  let near := match s.gnb.accX.find? (fun q => q.1 == k) with
    | some (_, x0) =>
      let (e, n) := s.carried k (dist x x0)
      let de := r.east * 2 ^ 128 - e
      let dn := r.north * 2 ^ 128 - n
      decide (de * de + dn * dn ≤ (500 * 2 ^ 128) * (500 * 2 ^ 128))
    | none => true
  span && near

/-- Insert by rising residual. -/
def insCand (c : IntCand) : List IntCand → List IntCand
  | [] => [c]
  | d :: m => if c.resid < d.resid then c :: d :: m else d :: insCand c m

/-- The best candidate that meets the constraints, and the ratio of the second-best residual to its own in units of 0.1,
saturating at 6.3 when there is no second or no residual (R111, R112). (log 205: DESIGN CHOICE, unsafe.) -/
def State.bestCand (s : State) (k x : Nat) (cs : List IntCand) : Option (IntCand × Nat) :=
  match (cs.filter (s.geoFits k x)).foldl (fun m c => insCand c m) [] with
  | [] => none
  | [c] => some (c, 63)
  | c :: d :: _ => some (c, if c.resid = 0 then 63 else 10 * d.resid / c.resid)

/-- The accepted solution of a snapshot of tower `k`, if any (R112): its candidate, the ratio in units of 0.1, and the number of
satellites kept. -/
def State.geoAccept (s : State) (k x : Nat) (kept : Nat) (cs : List IntCand) : Option (IntCand × Nat) :=
  if kept < 5 || (!s.prevFresh k && kept < 8) then none
  else (s.bestCand k x cs).filter (fun p => p.2 ≥ s.fld F.GNB_GEOCFG_RATIO)

/-- The tower reference point: the antenna moved by −CROSS perpendicular to the span line, in units of 2^-20 mm. -/
def State.refPoint (s : State) (k : Nat) : Int × Int :=
  let p := s.fld (F.GNB_TWRk_CFG_PREV k)
  let (pe, pn) := if p = s.addr then (0, 0) else s.towerPos p
  let (e, n) := s.towerPos k
  let de := e - pe
  let dn := n - pn
  let len : Int := isqrt ((de * de + dn * dn).toNat * 2 ^ 40)
  let c := s.fldI (F.GNB_TWRk_CFG_CROSS k) * (if Config.crossRight then 1 else -1)
  if len = 0 then (e * 2 ^ 20, n * 2 ^ 20)
  else (e * 2 ^ 20 - c * dn * 2 ^ 40 / len, n * 2 ^ 20 + c * de * 2 ^ 40 / len)

/-- The span offset of tower `k` for the head's travel `x` at T0 (R113). -/
def State.spanOffset (s : State) (k x : Nat) : Int :=
  let (e, n) := s.refPoint k
  if s.flag F.TRV_CFG_KIND then roundAway (1024 * s.along2 e n) (2 ^ 148)
  else
    let xk := s.azSign * turn40 (azimuth e n - s.fld F.GNB_AXIS_AXIS * 2 ^ 60)
    dist (wrap40 xk) x

/-- The enabled tower farthest from the head antenna. -/
def State.farthest (s : State) : Option Nat :=
  let ks := s.served.filter (fun k => (s.gnb.accX.find? (fun q => q.1 == k)).isSome)
  let r2 : Nat → Nat := fun k => let (e, n) := s.towerPos k; (e * e + n * n).toNat
  ks.foldl (fun a k => match a with
    | some j => if r2 k > r2 j then some k else a
    | none => some k) none

/-- ZEROCAL at an accepted solution (R114). (log 111: DEDUCED, unsafe.) -/
def State.zeroCal (s : State) : State :=
  if !s.flag F.GNB_GEOCFG_ZEROCAL then s
  else
    let s := s.update F.GNB_GEOCFG_ZEROCAL 0
    if s.flag F.TRV_CFG_KIND then
      match s.farthest with
      | some k =>
        let (e, n) := s.towerPos k
        let (side, s) := s.draw 2
        s.update F.GNB_AXIS_AXIS (wrap40 (turn40 (azimuth e n + (if side = 0 then 2 ^ 98 else -(2 ^ 98)))))
      | none => s
    else
      match s.served.find? (fun k => s.fld (F.GNB_TWRk_CFG_PREV k) == s.addr && (s.gnb.accX.find? (fun q => q.1 == k)).isSome) with
      | some k =>
        let off := s.fldI (F.GNB_TWRk_OFF_OFF k)
        (s.update F.GNB_AXIS_AXIS (wrap40 (s.fldI F.GNB_AXIS_AXIS + s.azSign * off))).setFld (F.GNB_TWRk_OFF_OFF k) 0
      | none => s

/-- A solution of tower `k` is accepted (R112, R113). (log 110: DEDUCED, unsafe.) -/
def State.acceptTower (s : State) (k x kept ratio : Nat) (r : IntCand) : State :=
  let s := (s.setFldI (F.GNB_TWRk_E_EAST k) r.east).setFldI (F.GNB_TWRk_N_NORTH k) r.north
  let s := (s.setFld (F.GNB_TWRk_N_NSV k) (min 63 kept)).setFld (F.GNB_TWRk_N_RATIO k) (min 63 ratio)
  let s := (s.setFld (F.GNB_TWRk_N_STATUS k) 1).inc F.GNB_GEOSTAT_FIXED
  let s := s.setGnb { s.gnb with
    acc := spPut s.gnb.acc k (s.clk.cc, 0), accX := spPut s.gnb.accX k x, left := spDel s.gnb.left k }
  let s := (s.setFldSat (F.GNB_TWRk_OFF_OFF k) (s.spanOffset k x)).zeroCal
  s.setFldSat (F.GNB_TWRk_OFF_OFF k) (s.spanOffset k x)

/-- A solution of tower `k` is not accepted: STATUS ceases to be 1 (R112, R115). -/
def State.rejectTower (s : State) (k : Nat) : State :=
  let s := if s.fld (F.GNB_TWRk_N_STATUS k) = 1 then s.setGnb { s.gnb with left := spPut s.gnb.left k s.clk.cc } else s
  s.setFld (F.GNB_TWRk_N_STATUS k) 3

/-- The complete record with the oldest T0. (log 108: DEDUCED, unsafe.) -/
def State.oldestRecord (s : State) : Option GeoReq :=
  (s.gnb.reqs.filter (fun r => r.done.isSome)).foldl (fun a r => match a with
    | some b => if dist (bytesAt r.hdr 6 5) (bytesAt b.hdr 6 5) < 0 then some r else a
    | none => some r) none

/-- SNAPSHOT_PROCESSING (R110 to R114): the oldest complete record has been correlated with the result `x`, 30 ms + 10 ms ×
DUR after its processing could start; one too old by then is discarded.
(log 108: DEDUCED, unsafe; log 110: DEDUCED, unsafe.) -/
def execSnapshotProcessing (x : SnapFix) (s : State) : Host.Outcome State Fault Refusal := s.clocked fun s =>
  match s.oldestRecord with
  | none => ok s
  | some r =>
    if !s.serving then ok s
    else
      let start := max (r.done.getD 0) s.gnb.proc
      let t0 := bytesAt r.hdr 6 5
      let s := s.advCcTo start
      let age : Int := dist s.now t0 - ((s.clk.cc - start) / 128 : Nat)
      if age > ((clampN 10 127 (s.fld F.GNB_SNAPCFG_MAXAGE) * 2 ^ 20 : Nat) : Int) then ok ((s.dropReq r).inc F.GNB_GEOSTAT_STALE)
      else
        let s := s.advCcTo (start + msClocks (30 + 10 * r.dur))
        let s := (s.dropReq r).setGnb { (s.dropReq r).gnb with proc := s.clk.cc }
        let k := r.node
        let xh := s.travelAt t0
        let from_ := s.clk.cc - ((dist s.now t0).toNat * 128)
        let kept := (s.keptSats x.peaks from_ (from_ + msClocks r.dur)).length
        match s.geoAccept k xh kept x.cands with
        | some (c, ratio) => ok (s.acceptTower k xh kept ratio c)
        | none => ok (s.rejectTower k)

/-- GEOMETRY_STALE (R115): STATUS of tower `k` has not been 1 for GEOMAX s. (log 113: DEDUCED, unsafe.) -/
def execGeometryStale (k : Fin 64) (s : State) : Host.Outcome State Fault Refusal := s.clocked fun s =>
  let st := s.fld (F.GNB_TWRk_N_STATUS k)
  if !s.serving || !s.flag (F.GNB_TWRk_CFG_EN k) || st = 1 || st = 4 then ok s
  else
    let since := match s.gnb.left.find? (fun p => p.1 == k.val) with
      | some (_, c) => c
      | none => s.gnb.since
    let s := s.advCcTo (since + secClocks (s.fld F.GNB_GEOCFG_GEOMAX))
    ok ((s.setFld (F.GNB_TWRk_N_STATUS k) 4).report srcGeoStale k)

/-- SPAN_OFFSET_SEND (R20, R113): the head sends node `k` its span offset, `gap` core clocks after the previous command; without a
session the frame waits in Q56 and starts an exchange (R301).
(log 113: DEDUCED, unsafe.) -/
def execSpanOffsetSend (k : Fin 64) (gap : Nat) (s : State) : Host.Outcome State Fault Refusal := s.clocked fun s =>
  let s := s.advCc gap
  if s.serving && s.flag (F.GNB_TWRk_CFG_EN k) && (s.gnb.accX.find? (fun q => q.1 == k.val)).isSome && k.val ≠ s.addr then
    ok (s.pushTx 56 k clsMsg false (toBytes 1 1 ++ toBytes 5 (s.fld (F.GNB_TWRk_OFF_OFF k))))
  else ok s

end Sys2Proof.Machine
end

