-- ==== Sys2Proof/Machine/Head.lean ====
section
/-! DEFINITION. Active and standby heads: epochs, replication, takeover, yielding and handover (chapter 14). -/

namespace Sys2Proof.Machine

open Sys2Proof

/-! ### Rank and the other head (R310, R311) -/

/-- Whether a head with epoch `e` at address `a` outranks this node. (log 120: DEDUCED, unsafe.) -/
def State.outranked (s : State) (e a : Nat) : Bool :=
  let m := s.fld F.SYS_HEAD_EPOCH_EPOCH
  e > m || (e = m && a < s.addr)

/-- The other head-capable address of the enrollment table. -/
def State.otherHead (s : State) : Option Nat :=
  (s.key.entries.find? (fun e => e.headcap && e.addr != s.addr)).map (·.addr)

/-- Keep an epoch in the non-volatile store and show it. (log 121: DEDUCED, unsafe.) -/
def State.storeEpoch (s : State) (e : Nat) : State :=
  ({ s with key := { s.key with epoch := e } } : State).setFld F.SYS_HEAD_EPOCH_EPOCH e

/-! ### The replicated stream (Table 14-2) -/

/-- The TOWERS entry of node `k`. -/
def State.towerBytes (s : State) (k : Nat) : List Byte :=
  toBytes 1 k ++ toBytes 1 (s.fld (F.GNB_TWRk_N_STATUS k)) ++ toBytes 1 (s.fld (F.GNB_TWRk_N_NSV k)) ++
    toBytes 3 (s.fld (F.GNB_TWRk_E_EAST k)) ++ toBytes 3 (s.fld (F.GNB_TWRk_N_NORTH k)) ++
    toBytes 5 (s.fld (F.GNB_TWRk_OFF_OFF k)) ++ toBytes 2 (s.fld (F.GNB_TWRk_E_AGE k))

/-- The present sections in ascending ID. -/
def State.sections (s : State) : List (Nat × List Byte) :=
  let machine := toBytes 5 (s.fld F.LDG_MUSE_MUSE) ++ toBytes 5 (s.fld F.LDG_MLIMIT_MLIMIT) ++ toBytes 4 (s.fld F.LDG_MSTAT_DPULSE) ++
    toBytes 4 (s.fld F.LDG_CF_CF) ++ toBytes 2 (s.fld F.LDG_CFDAY_DAY) ++ toBytes 1 (s.fld F.LDG_MSTAT_MEXH)
  let raws := s.led.reports.flatMap (fun r => toBytes 1 r.node ++ toBytes 2 r.day ++ toBytes 5 r.raw)
  let towers := ((List.range 64).filter (fun k => s.flag (F.GNB_TWRk_CFG_EN k))).flatMap s.towerBytes
  let loops := toBytes 5 (s.fld (F.CTL_x_TGT_TGT 0)) ++ toBytes 5 (s.fld (F.CTL_x_WSP_WSP 0)) ++
    toBytes 5 (s.fld (F.CTL_x_TGT_TGT 1)) ++ toBytes 5 (s.fld (F.CTL_x_WSP_WSP 1))
  [(1, machine), (2, raws), (3, towers), (4, toBytes 5 (s.fld F.GNB_AXIS_AXIS))] ++
    (if s.flag F.SYS_HEAD_CFG_LAFOLLOW then [(5, loops)] else [])

/-- ID, offset and length of each section. -/
def sectTable : Nat → List (Nat × List Byte) → List (Nat × Nat × Nat)
  | _, [] => []
  | o, (i, b) :: m => (i, o, b.length) :: sectTable (o + b.length) m

/-- Send the DATA frames of a stream and its MANIFEST (Table 14-3). -/
def State.sendEpoch (s : State) (p rep : Nat) : State :=
  let secs := s.sections
  let stream := secs.flatMap (·.2)
  let segs := chunksOf 232 stream.length stream
  let e := toBytes 4 (s.fld F.SYS_HEAD_EPOCH_EPOCH) ++ toBytes 2 rep
  let s' := (segs.zip (List.range segs.length)).foldl (fun (s : State) (x : List Byte × Nat) =>
    s.pushTx 57 p clsEpoch false (toBytes 1 1 ++ e ++ toBytes 1 (x.2 + 1) ++ x.1)) s
  let tab := sectTable 0 secs
  s'.pushTx 57 p clsEpoch false (toBytes 1 2 ++ e ++ toBytes 1 segs.length ++ toBytes 2 stream.length ++ toBytes 4 (crc32 stream) ++
    toBytes 5 s.now ++ toBytes 5 s.travel ++ toBytes 1 tab.length ++
    tab.flatMap (fun t => toBytes 1 t.1 ++ toBytes 2 t.2.1 ++ toBytes 2 t.2.2))

/-- REPLICATION_CAPTURE (R313): at the next tick whose system time has bits [19:0] zero, an active head whose standby holds
a session captures an epoch, or skips it while the last MANIFEST is unacknowledged. -/
def execReplicationCapture (s : State) : Host.Outcome State Fault Refusal := s.clocked fun s =>
  if s.gated then ok s
  else
    let s := s.takeInstant clsRepl (2 ^ 20) 0
    match s.otherHead with
    | none => ok s
    | some p =>
      if !s.isHead || (s.sess p).cur.isNone then ok s
      else if s.hd.sending.isSome then ok (s.inc F.SYS_HEAD_REP_SKIP)
      else
        let rep := (s.hd.rep + 1) % 2 ^ 16
        let s : State := { s with hd := { s.hd with rep := rep, sending := some (rep, s.now) } }
        ok (s.sendEpoch p rep)

/-! ### Adoption at the standby (R315) -/

/-- Discard the assembling epoch, counted when there is one. (log 171: DEDUCED, unsafe.) -/
def State.dropAsm (s : State) : State :=
  if s.hd.asm.isSome then ({ s with hd := { s.hd with asm := none } } : State).inc F.SYS_HEAD_REP_INCOMP else s

/-- A DATA segment at the standby. -/
def State.epochData (s : State) (pl : List Byte) : State :=
  let e := bytesAt pl 1 4
  let rep := bytesAt pl 5 2
  let seg := (bytesAt pl 7 1, pl.drop 8)
  let s := match s.hd.asm with
    | some x => if x.e = e && x.rep = rep then s else s.dropAsm
    | none => s
  let x : Epoch := s.hd.asm.getD { e := e, rep := rep }
  { s with hd := { s.hd with asm := some { x with segs := spPut x.segs seg.1 seg.2 } } }

/-- A MANIFEST at the standby: whether it completed an epoch that was adopted. (log 171: DEDUCED, unsafe.) -/
def State.manifest (s : State) (pl : List Byte) : Bool × State :=
  let e := bytesAt pl 1 4
  let rep := bytesAt pl 5 2
  let nseg := bytesAt pl 7 1
  let stream := match s.hd.asm with
    | some x => x.segs.flatMap (·.2)
    | none => []
  let segs := match s.hd.asm with
    | some x => x.segs.map (·.1)
    | none => []
  let same := match s.hd.asm with
    | some x => decide (x.e = e) && decide (x.rep = rep)
    | none => nseg == 0
  if same && segs == (List.range nseg).map (· + 1) && stream.length = bytesAt pl 8 2 && crc32 stream = bytesAt pl 10 4 then
    let s : State := { s with hd := { s.hd with asm := none } }
    if e < s.fld F.SYS_HEAD_EPOCH_EPOCH then (false, s)
    else
      let n := bytesAt pl 24 1
      let sects := (List.range n).map (fun k => (bytesAt pl (25 + 5 * k) 1, bytesAt pl (26 + 5 * k) 2, bytesAt pl (28 + 5 * k) 2))
      let x : Epoch := { e := e, rep := rep, t := bytesAt pl 14 5, stream := stream, sects := sects }
      (true, ({ s with hd := { s.hd with adopted := some x } } : State).setFld F.SYS_HEAD_STAT_REP rep)
  else (false, s.dropAsm)

/-- Whether a frame is an EPOCH frame of this TYPE. -/
def isEpoch (f : Frame) (t : Nat) : Bool := f.cls.val == clsEpoch && typeOf f.payload == t

/-- EPOCH_DATA (R315). -/
def execEpochData (f : Frame) (s : State) : Host.Outcome State Fault Refusal := s.clocked fun s =>
  if !isEpoch f 1 then ok s
  else
    let s := s.arrive f
    match s.rxChecks f (!f.bc && 9 ≤ f.payload.length) (nrecFor f.payload.length) with
    | (.accepted, s) =>
      let s := s.accept f 0 0
      ok (if s.role = roleStandby && !s.gated then s.epochData f.payload else if s.gated then s.pushRx f else s)
    | (_, s) => ok s

/-- MANIFEST (R315): completion is judged before the ACK, which carries ADM 1 when the epoch was adopted. -/
def execManifest (f : Frame) (s : State) : Host.Outcome State Fault Refusal := s.clocked fun s =>
  if !isEpoch f 2 then ok s
  else
    let s := s.arrive f
    match s.rxChecks f (!f.bc && f.payload.length = 25 + 5 * bytesAt f.payload 24 1) (nrecFor f.payload.length) with
    | (.accepted, s) =>
      if s.gated then ok ((s.pushRx f).accept f 0 0)
      else if s.role = roleStandby then
        let (a, s) := s.manifest f.payload
        ok (s.accept f (b2n a) 0)
      else ok (s.accept f 0 0)
    | (_, s) => ok s

/-! ### Takeover (R311, R317, R318) -/

/-- Bytes of a section of an epoch. -/
def Epoch.section (x : Epoch) (id : Nat) : Option (List Byte) :=
  (x.sects.find? (fun t => t.1 == id)).map (fun t => (x.stream.drop t.2.1).take t.2.2)

/-- The MACHINE section is applied, with the pulses counted since the epoch's T. (log 55: DEDUCED, unsafe.) -/
def State.applyMachine (s : State) (x : Epoch) (b : List Byte) : State :=
  let n := (s.fpOf (s.fld F.LDG_REC_FPSEL)).count
  let since := match s.hd.latches.find? (fun p => p.1 == x.t) with
    | some (_, c) => n - c
    | none => 0
  let s := ((s.setFld F.LDG_MUSE_MUSE (bytesAt b 0 5)).setLed { s.led with mfrac := 0 }).addMuse since
  let s := ((s.setFld F.LDG_MLIMIT_MLIMIT (bytesAt b 5 5)).trigger rsnLimit).judgeMachine
  if sx 16 (wrapW 16 ((bytesAt b 18 2 : Int) - s.fld F.LDG_CFDAY_DAY)) > 0 then s.applyCf (bytesAt b 14 4) (bytesAt b 18 2) else s

/-- One TOWERS entry is loaded. -/
def State.applyTower (s : State) (b : List Byte) : State :=
  let k := bytesAt b 0 1 % 64
  let s := (s.setFld (F.GNB_TWRk_N_STATUS k) (bytesAt b 1 1)).setFld (F.GNB_TWRk_N_NSV k) (bytesAt b 2 1)
  let s := (s.setFld (F.GNB_TWRk_E_EAST k) (bytesAt b 3 3)).setFld (F.GNB_TWRk_N_NORTH k) (bytesAt b 6 3)
  (s.setFld (F.GNB_TWRk_OFF_OFF k) (bytesAt b 9 5)).setFld (F.GNB_TWRk_E_AGE k) (bytesAt b 14 2)

/-- The adopted epoch is applied (R318, step 3). (log 57: DEDUCED, unsafe.) -/
def State.applyEpoch (s : State) (x : Epoch) : State :=
  let s := match x.section 1 with
    | some b => s.applyMachine x b
    | none => s
  let s := match x.section 2 with
    | some b => s.setLed { s.led with reports := (chunksOf 8 b.length b).map (fun c =>
        { node := bytesAt c 0 1, day := bytesAt c 1 2, raw := bytesAt c 3 5 }) }
    | none => s
  let s := match x.section 3 with
    | some b => (chunksOf 16 b.length b).foldl State.applyTower s
    | none => s
  let s := match x.section 4 with
    | some b => s.setFld F.GNB_AXIS_AXIS (bytesAt b 0 5)
    | none => s
  let s := s.resetGeo
  match x.section 5, s.flag F.SYS_HEAD_CFG_LAFOLLOW with
  | some b, true =>
    let s := s.sramWrite (F.CTL_x_TGT_w 0).addr (BitVec.ofNat 40 (bytesAt b 0 5))
    s.sramWrite (F.CTL_x_TGT_w 1).addr (BitVec.ofNat 40 (bytesAt b 10 5))
  | _, _ => s

/-- A takeover (R318). (log 57: DEDUCED, unsafe; log 154: DEDUCED, unsafe.) -/
def State.takeover (s : State) : State :=
  let ea := match s.hd.adopted with
    | some x => x.e
    | none => 0
  let e := (max s.key.epoch (max (s.fld F.SLK_BCN_EPOCH) ea) + 1) % 2 ^ 32
  let s := ((s.storeEpoch e).setFld F.SYS_ROLE_ROLE roleActive).inc F.SYS_HEAD_STAT_TAKEOVERS
  let s := (s.setFlag F.SYS_HEAD_STAT_UNFIT false).dropAsm
  let late : Bool := match s.hd.adopted with
    | some x => decide (dist s.now x.t > ((128 * 2 ^ 20 : Nat) : Int))
    | none => true
  let s := match s.hd.adopted with
    | some x => if late then s else s.applyEpoch x
    | none => s
  let s := if late then ((s.setFld F.LDG_MUSE_MUSE 0).raise F.SYS_HEAD_STAT_NOSTATE).report srcHeadLost 0 else s
  let s := if s.flag F.SYS_HEAD_CFG_LAFOLLOW then s.setFlag F.SLK_CFG_PSEND true else s
  { s with hd := { s.hd with arb := none, first := true, sending := none, syncT := none, ho := 0 } }

/-- Whether the node is fit to take over (R317). -/
def State.fit (s : State) : Bool := s.fld F.TBS_STAT_STATE ≠ 0 && s.modeNow ≠ modeBoot && s.modeNow ≠ modeDormant

/-- Take over when fit, else UNFIT. (log 54: DEDUCED, unsafe.) -/
def State.takeoverIfFit (s : State) : State := if s.fit then s.takeover else s.setFlag F.SYS_HEAD_STAT_UNFIT true

/-- FOTIME in ms. -/
def State.foTime (s : State) : Nat := clampN 300 1200 (s.fld F.SYS_HEAD_CFG_FOTIME)

/-- FAILOVER_TIMEOUT (R317): FOTIME after the last valid beacon the standby declares the head lost. -/
def execFailoverTimeout (s : State) : Host.Outcome State Fault Refusal := s.clocked fun s =>
  match s.hd.bcnCc with
  | none => ok s
  | some c => if s.role = roleStandby then ok (s.advCcTo (c + msClocks s.foTime)).takeoverIfFit else ok s

/-- ARBITRATION_WAIT_EXPIRY (R312): no beacon within ARBWAIT of the end of BOOT. (log 54: DEDUCED, unsafe.) -/
def execArbitrationWaitExpiry (s : State) : Host.Outcome State Fault Refusal := s.clocked fun s =>
  match s.hd.arb with
  | none => ok s
  | some c => ok (s.advCcTo c).takeoverIfFit

/-- PULSE_LATCH (R316): each second the standby latches its pulse count. (log 55: DEDUCED, unsafe.) -/
def execPulseLatch (s : State) : Host.Outcome State Fault Refusal := s.clocked fun s =>
  let s := s.takeInstant clsPulse (2 ^ 20) 0
  if s.role = roleStandby then
    let n := (s.fpOf (s.fld F.LDG_REC_FPSEL)).count
    ok { s with hd := { s.hd with latches := ((s.now, n) :: s.hd.latches).take 128 } }
  else ok s

/-! ### Yielding and handover (R320 to R322) -/

/-- Discard the untransmitted EPOCH frames of Q57. -/
def State.dropEpochs (s : State) : State :=
  ((s.items 57).map itemOf).foldl (fun s x =>
    if x.cls = clsEpoch && !s.lnk.outs.any (fun o => o.seq == x.seq && o.ring == 57) then s.dropItem 57 x.seq else s)
    { s with lnk := { s.lnk with wait := s.lnk.wait.filter (fun t => t.cls != clsEpoch) } }

/-- An active head yields to a head of epoch `e`. -/
def State.yieldTo (s : State) (e : Nat) : State :=
  let s := ((s.storeEpoch e).setFld F.SYS_ROLE_ROLE roleStandby).inc F.SYS_HEAD_STAT_YIELDS
  let s := (s.setFlag F.SLK_CFG_PSEND false).resetGeo
  let s : State := { s with hd := { s.hd with sending := none, syncT := none, ho := 0, first := false, bcnCc := some s.clk.cc }
                            led := { s.led with day := none } }
  (if s.flag F.SYS_HEAD_CFG_LAFOLLOW then (s.stageOff 0).stageOff 1 else s).dropEpochs

/-- A frame from a head of epoch `e` at address `a` makes an outranked active head yield. (log 121: DEDUCED, unsafe.) -/
def State.maybeYield (s : State) (e a : Nat) : State := if s.isHead && s.outranked e a then s.yieldTo e else s

/-- FENCE (R320). -/
def execFence (f : Frame) (s : State) : Host.Outcome State Fault Refusal := s.clocked fun s =>
  if !isEpoch f 3 then ok s
  else
    let s := s.arrive f
    match s.rxChecks f (!f.bc && f.payload.length = 5) (nrecFor f.payload.length) with
    | (.accepted, s) =>
      let s := s.accept f 0 0
      ok (if s.gated then s.pushRx f else s.maybeYield (bytesAt f.payload 1 4) f.src)
    | (_, s) => ok s

/-- HANDOVER (R322): the standby takes over at once; an outranked active head yields. -/
def execHandover (f : Frame) (s : State) : Host.Outcome State Fault Refusal := s.clocked fun s =>
  if !isEpoch f 4 then ok s
  else
    let s := s.arrive f
    match s.rxChecks f (!f.bc && f.payload.length = 7) (nrecFor f.payload.length) with
    | (.accepted, s) =>
      let s := s.accept f 0 0
      if s.gated then ok (s.pushRx f)
      else if s.role = roleStandby then ok s.takeover
      else ok (s.maybeYield (bytesAt f.payload 1 4) f.src)
    | (_, s) => ok s

/-- A write of HANDOVER = 1 (R322). -/
def State.writeHandover (s : State) (v : Word) : State :=
  if !bitOf v.toNat 0 then s
  else if s.isHead && s.synced then { s with hd := { s.hd with ho := 1 } }
  else s.raise F.SYS_HEAD_STAT_HOERR

/-- A MANIFEST has been acknowledged with `adm` (R313, R322). -/
def State.manifestAcked (s : State) (p adm : Nat) : State :=
  match s.hd.sending with
  | none => s
  | some (rep, t) =>
    let s : State := { s with hd := { s.hd with sending := none, syncT := if adm = 1 then some t else none } }
    let s := s.setFld F.SYS_HEAD_STAT_REP rep
    if s.hd.ho = 1 then
      let s : State := { s with hd := { s.hd with ho := 2 } }
      s.pushTx 57 p clsEpoch false (toBytes 1 4 ++ toBytes 4 (s.fld F.SYS_HEAD_EPOCH_EPOCH) ++ toBytes 2 rep)
    else s

/-- HANDOVER has been acknowledged: the head yields, and the standby's epoch is one higher. -/
def State.handoverAcked (s : State) : State :=
  if s.hd.ho = 2 && s.isHead then s.yieldTo (s.fld F.SYS_HEAD_EPOCH_EPOCH) else s

end Sys2Proof.Machine
end

