-- ==== Sys2Proof/Machine/Rx.lean ====
section
/-! DEFINITION. What the frames that a node accepts do when they are taken from Q58, for every class but WRITE and READ
(Tables 12-5, 12-6 and 12-8, R110, R277, R286, R287, R298, R349). -/

namespace Sys2Proof.Machine

open Sys2Proof

/-- Whether `p` is the active head, as the beacons show (R47). (log 115: DEDUCED, unsafe.) -/
def State.fromHead (s : State) (p : Nat) : Bool := s.lnk.head == some p

/-- An RDATA item for the host (R287): the sender, the value count, RSEQ and the values. -/
def State.takeRdata (s : State) (src : Nat) (pl : List Byte) : State :=
  let n := (pl.length - 2) / 5
  let nrec := (2 + n + 2) / 3
  let vs := wordsOfBytes (pl.drop 2)
  s.ringDrop 63 ([ringW0 63 nrec (src * 2 ^ 19 + n * 2 ^ 12), BitVec.ofNat 40 (bytesAt pl 0 2)] ++ vs ++
    List.replicate (3 * nrec - 2 - vs.length) 0) []

/-- A CERTSEG or PROOF item for the host (R298). -/
def State.takeEnr (s : State) (pl : List Byte) : State :=
  let ws := wordsOfBytes pl
  let nrec := (1 + ws.length + 2) / 3
  s.ringDrop 63 ([ringW0 63 nrec (2 ^ 8 + pl.length)] ++ ws ++ List.replicate (3 * nrec - 1 - ws.length) 0) []

/-- An ERR (R286): a record, RWFAIL and RWCNT. -/
def State.takeErr (s : State) (src : Nat) (pl : List Byte) : State :=
  let s := (s.raise F.SLK_ERR_RWFAIL).inc F.SLK_ERR_RWCNT
  s.errRec 4 (src * 2 ^ 34 + bytesAt pl 0 2 * 2 ^ 18 + bytesAt pl 5 1 * 2 ^ 10 + bytesAt pl 6 1 % 32 * 2 ^ 5)
    (bytesAt pl 2 3) (bytesAt pl 7 5)

/-- A new span offset from the head: the difference is a correction (R45). -/
def State.newOffset (s : State) (x : Nat) : State :=
  let c := sx 40 (wrap40 (sx 40 x - s.fldI F.TRV_OFFSET_OFFSET))
  if c = 0 then s else (s.setFld F.TRV_OFFSET_OFFSET x).correct c

/-- A profile for the Eddy sum (R210): kept for the next publication instant P_k when it is stamped P_k − 2^17, late when it is
stamped earlier. One stamped later is in no sum. (log 119: DEDUCED, unsafe.) -/
def State.takeProfile (s : State) (pl : List Byte) : State :=
  let t := bytesAt pl 1 5
  let prev := add40 (s.nextInstant clsProfile (2 ^ 17) 0) (-(2 ^ 17 : Int))
  if dist t prev < 0 then s.inc F.CTL_EDDY_LATE
  else if t ≠ prev then s
  else
    let bins := (List.range 24).map (fun b => sx 24 (bytesAt pl (6 + 3 * b) 3))
    { s with ctl := { s.ctl with got := s.ctl.got ++ [{ at_ := t, bins := bins }] } }

/-- Line pressure from the node that PNODE names (R277). -/
def State.takePressure (s : State) (src : Nat) (pl : List Byte) : State :=
  if s.fld F.LDG_PCFG_PNODE = src then s.setLed { s.led with press := some (src, bytesAt pl 6 2, bitOf (bytesAt pl 8 1) 7, s.clk.cc) } else s

/-- A raw report at the active head: the last of a node and day is kept (R251). -/
def State.takeRaw (s : State) (src : Nat) (pl : List Byte) : State :=
  if s.isHead then
    let d := bytesAt pl 1 2
    s.setLed { s.led with reports := { node := src, day := d, raw := bytesAt pl 3 5 } ::
      s.led.reports.filter (fun r => !(r.node == src && r.day == d)) }
  else s

/-- A MSG (Table 12-8); OFFSET, CF and HOLDCMD come from the active head. -/
def State.takeMsg (s : State) (src : Nat) (pl : List Byte) : State :=
  match typeOf pl with
  | 1 => if s.fromHead src then (s.newOffset (bytesAt pl 1 5)).mark F.TRV_OFFSET_OFFSET else s
  | 2 => s.takeProfile pl
  | 3 => s.takePressure src pl
  | 4 => s.takeRaw src pl
  | 5 => if s.fromHead src then s.applyCf (bytesAt pl 1 4) (bytesAt pl 5 2) else s
  | 6 => if s.fromHead src then s.wantHold 4 else s
  | _ => s

/-- An EPOCH frame (R315, R320, R322). -/
def State.takeEpoch (s : State) (src : Nat) (pl : List Byte) : State :=
  match typeOf pl with
  | 1 => if s.role = roleStandby then s.epochData pl else s
  | 2 => if s.role = roleStandby then (s.manifest pl).2 else s
  | 3 => s.maybeYield (bytesAt pl 1 4) src
  | 4 => if s.role = roleStandby then s.takeover else s.maybeYield (bytesAt pl 1 4) src
  | _ => s

/-- The effect of an accepted frame of sender `src` that arrived at system time `at_`. -/
def State.rxEffect (s : State) (src cls : Nat) (pl : List Byte) (at_ : Nat) : State :=
  if cls = clsRdata then s.takeRdata src pl
  else if cls = clsErr then s.takeErr src pl
  else if cls = clsMsg then s.takeMsg src pl
  else if cls = clsSnap then (if s.serving then s.snapSegment src pl else s)
  else if cls = clsSreq then s.snapRequest (s.fromHead src) false src (bytesAt pl 0 1) (bytesAt pl 1 1) at_ (bytesAt pl 2 5)
  else if cls = clsEpoch then s.takeEpoch src pl
  else if cls = clsEnr then s.takeEnr pl
  else s

/-- Take items other than WRITE and READ from the front of Q58, with fuel; one read poisoned has no effect (R349).
(log 114: DEDUCED, unsafe.) -/
def State.drainRx : Nat → State → State
  | 0, s => s
  | k + 1, s =>
    match s.items 58 with
    | [] => s
    | rs :: _ =>
      let x := itemOf rs
      if s.gated || s.mode.waking || x.cls = clsWrite || x.cls = clsRead then s
      else
        let (ws, s) := s.readItem 58 reqLink rs
        let s := s.release 58 rs.length
        let s := if ws.any (fun w => w.2) then (s.inc F.SLK_CNTD_FORMERR).reportAt srcPoisFrame 0 0x1606
          else s.rxEffect x.peer x.cls x.payload x.time
        State.drainRx k s

/-- Let Q58, the key engine, producers that wait, the snapshot ring and the transmit rings' backoff move on as far as they
can. (log 114: DEDUCED, unsafe.) -/
def State.flow (s : State) : State :=
  ((State.drainRx (s.items 58).length s).serveKx.retryTx.pump).contend

end Sys2Proof.Machine
end

