-- ==== Sys2Proof/Machine/Drive.lean ====
section
/-! DEFINITION. The commands of the valve drive: capture edges, detection results, open-load tests, resistance
measurement, overcurrent, group conditions and off-times (R151 to R163, R191 to R193, R199, R201). -/

namespace Sys2Proof.Machine

open Sys2Proof

/-- The integrator step at the end of a period of duty `d` (R152). (log 20: DEDUCED, unsafe.) -/
def State.stepIntegrator (s : State) (n : Nat) : State :=
  let v := s.valve n
  let d := s.fld (F.VDA_CHn_CUR_DUTY n)
  if 0 < d && d < 1024 && v.pcnt ≠ 0 then
    let num : Int := v.it * v.pcnt - v.psum * 1000
    s.setValve n { v with s := clampI (-256) 256 (v.s + truncDiv num (1000 * v.pcnt * 2 ^ s.fld F.VDA_CFG_KISH)) }
  else s

/-- Open load in HOLD at the end of a period: no sample of it reached a quarter of HOLDACT (R162). -/
def State.judgeOpenLoad (s : State) (n : Nat) : State :=
  let v := s.valve n
  let low := s.chSt n = stHold && s.fld (F.VDA_CHn_CUR_DUTY n) = 1024 &&
    4 * (if v.pcnt = 0 then (s.fldI (F.VDA_CHn_CUR_CUR n)).natAbs else v.pmax) < s.fld (F.VDA_CHn_HOLD_HOLDACT n)
  let k := if low then v.lowRun + 1 else 0
  let s := s.setValve n { v with lowRun := k }
  if k = 10 then (s.raise (F.VDA_CHn_STAT_OPENON n)).report srcOpenLoad n else s

/-- One ramp step (R175), or the hold setpoint (R176), at a capture edge. -/
def State.stepTarget (s : State) (n : Nat) : State :=
  let v := s.valve n
  if v.holding then s.setValve n { v with it := s.fld (F.VDA_CHn_HOLD_HOLDACT n) * 1000 }
  else if v.ramp = 0 then s
  else
    let k : Int := v.ramp * s.pwmUs
    let g : Int := v.goal * 1000
    let it := if v.it < g then min g (v.it + k) else max g (v.it - k)
    s.setValve n { v with it := it, ramp := if it = g then 0 else v.ramp }

/-- The working setpoint at a capture edge: the least of HOLD, the continuous rating and the thermal cap (R153,
R154). -/
def State.reloadHold (s : State) (n : Nat) : State :=
  s.setFld (F.VDA_CHn_HOLD_HOLDACT n) (min (s.fld (F.VDA_CHn_HOLD_HOLD n)) (min (s.contRating n) (s.thermalCap n)))

/-- CAPTURE_EDGE (R152): the next period start of channel `n`, with the samples taken since the last one given.
(log 155: DESIGN CHOICE, safe.) -/
def execCaptureEdge (n : Fin 48) (ss : List Sample) (s : State) : Host.Outcome State Fault Refusal := s.clocked fun s =>
  if s.gated || s.isOddOfPair n then ok s
  else
    let n := n.val
    let t := s.nextEdge n
    let s := s.feedFrom n (sampleInstant n t - 8 * ss.length) ss
    let s := s.advCcTo (frameCc t)
    let s := (s.judgeOpenLoad n).stepIntegrator n
    let s := s.reloadHold n
    let s := s.modValve n (fun v => { v with
      edgeAt := some t, psum := 0, pcnt := 0, pmax := 0, sampleAt := max v.sampleAt (sampleInstant n t) })
    if s.running n then
      let s := ((s.stepTarget n).judgePeak n).showTgt n
      ok (s.setDuty n (frameCc t) (frameCc (t + s.pwmUs)))
    else ok (s.coastPeriod n (frameCc t) (frameCc (t + s.pwmUs)))

/-- OFF_STATE_OPEN_TEST (R162): the next of the tests that an OFF channel makes every 100 ms, 200 µs long, ends with OUTn above
4.0 V when `high`. (log 189: DESIGN CHOICE, unsafe.) -/
def execOffStateOpenTest (n : Fin 48) (high : Bool) (s : State) : Host.Outcome State Fault Refusal := s.clocked fun s =>
  if s.gated || s.isOddOfPair n || s.chSt n ≠ stOff || !s.flag (F.VDA_CHn_CFG_OFFDIAG n) then ok s
  else
    let p := msClocks 100
    let s := (s.advCcTo ((s.clk.cc + p - 1) / p * p)).advCc (usClocks 200)
    if high then ok ((s.raise (F.VDA_CHn_STAT_OPENOFF n)).report srcOpenLoad n)
    else ok s

/-- The result of a detection after the samples given: what they established, or NOMOVE at WEND. -/
def DetSt.final (d : DetSt) : Nat × Nat :=
  match d.res with
  | some (r, t) => (r, t)
  | none => (2, 0)

/-- ARMATURE_RESULT (R158): after the samples given, the open detection of channel `n` ends; with no dip among them the
window has passed. -/
def execArmatureResult (n : Fin 48) (ss : List Sample) (s : State) : Host.Outcome State Fault Refusal := s.clocked fun s =>
  let n := n.val
  if (s.valve n).odet.isNone then ok s
  else
    let s := s.feed n ss
    match (s.valve n).odet with
    | none => ok s
    | some d =>
      let s := if d.res.isNone then s.advCcTo (d.start + msClocks (s.fld (F.VDA_CHn_DET_WEND n))) else s
      let (r, t) := d.final
      ok (s.openResult n r (ccToUs t) d.start).completed

/-- CLOSE_DETECTION_RESULT (R159): after the samples given, the close detection of channel `n` ends. -/
def execCloseDetectionResult (n : Fin 48) (ss : List Sample) (s : State) : Host.Outcome State Fault Refusal := s.clocked fun s =>
  let n := n.val
  if (s.valve n).cdet.isNone then ok s
  else
    let s := s.feed n ss
    match (s.valve n).cdet with
    | none => ok s
    | some d =>
      let s := if d.res.isNone then s.advCcTo (d.start + msClocks (s.fld (F.VDA_CHn_DET_WEND n))) else s
      let (r, t) := d.final
      ok (s.closeResult n r (ccToUs t) d.start).completed

/-- RSW of R191 in units of 10 mΩ. -/
def State.rsw (s : State) (n : Nat) : Nat :=
  match s.pairKind n with
  | 1 => 6
  | 2 => 24
  | _ => 12

/-- The measurement of R191 and its validity (R192): RMEAS in units of 10 mΩ, if valid. -/
def State.measure (s : State) (n : Nat) (m : MeasSt) : Option Rat :=
  match m.sums with
  | (a0, n0) :: (a1, n1) :: (a2, n2) :: _ =>
    if m.bad || n0 = 0 || n1 = 0 || n2 = 0 || 3 * s.rwinUs n > s.fld (F.VDA_CHn_DET_WSTART n) * 100 then none
    else
      let i0 : Rat := (a0 : Rat) / n0
      let d1 : Rat := (a1 : Rat) / n1 - i0
      let d2 : Rat := (a2 : Rat) / n2 - (a1 : Rat) / n1
      let v : Rat := ((m.vs.foldl (· + ·) 0 : Nat) : Rat) / m.vs.length
      let within := m.vs.all (fun x => decide ((x : Rat) ≤ v * 102 / 100) && decide ((x : Rat) ≥ v * 98 / 100))
      if d1 > d2 && d2 > 0 && within then
        let inf := i0 + d1 * d1 / (d1 - d2)
        if inf > 0 then some (v / inf * 100 - s.rsw n - s.fld (F.VDA_CHn_TLIM_RCAB n)) else none
      else none
  | _ => none

/-- RESISTANCE_MEASUREMENT (R191, R192): the three windows of a pull-in end. An invalid measurement counts in RSKIP; a
valid one is written, waits for the model when that runs (R193), and below RMIN turns the channel off as a coil short (R161). -/
def execResistanceMeasurement (n : Fin 48) (ss : List Sample) (s : State) : Host.Outcome State Fault Refusal := s.clocked fun s =>
  let n := n.val
  if (s.valve n).meas.isNone then ok s
  else
    let s := s.feed n ss
    match (s.valve n).meas with
    | none => ok s
    | some m =>
      let s := s.advCcTo (m.start + usClocks (3 * s.rwinUs n))
      let s := s.modValve n (fun v => { v with meas := none })
      match s.measure n m with
      | none => ok (s.inc (F.VDA_CHn_RW_RSKIP n))
      | some r =>
        let x := clampN 0 65535 (freeRound 22 r.num r.den).toNat
        let s := s.setFld (F.VDA_CHn_RES_RMEAS n) x
        let s := s.modValve n (fun v => { v with rmPend := if s.flag (F.VDA_CHn_TH_EN n) then some x else none, rmLast := some x })
        if x < s.fld (F.VDA_CHn_RES_RMIN n) then
          let s := s.turnOffClock.raise (F.VDA_CHn_STAT_SHORT n)
          ok (((s.turnOff n).tellClosed n).report srcCoilShort n)
        else ok s

/-- OVERCURRENT_TRIP (R161): a switch of channel `n` that carries current trips; switches of a channel that is not
driving are off and trip nothing. -/
def execOvercurrentTrip (n : Fin 48) (s : State) : Host.Outcome State Fault Refusal := s.clocked fun s =>
  let n := s.govern n
  if s.running n then
    let s := (s.turnOffClock.raise (F.VDA_CHn_STAT_OC n)).inc (F.VDA_CHn_STAT_OCCNT n)
    ok (((s.turnOff n).tellClosed n).report srcOverCur n)
  else ok s

/-- The flag and source of condition `c` of a group: 0 undervoltage, 1 overvoltage, 2 overtemperature (Table 6-5). -/
def groupFlag (g c : Nat) : Fld :=
  if c = 0 then F.VDA_Gg_STAT_UV g else if c = 1 then F.VDA_Gg_STAT_OV g else F.VDA_Gg_STAT_OT g

/-- UVTHR in mV (Table 6-9). -/
def State.uvThr (s : State) (g : Nat) : Nat := clampN 18 80 (s.fld (F.VDA_Gg_CFG_UVTHR g)) * 500

/-- One reading shows that a condition asserts (Table 6-5): the drive supply in mV, or the bridge temperature in °C + 64. -/
def State.condHigh (s : State) (g c x : Nat) : Bool :=
  if c = 0 then x < s.uvThr g else if c = 1 then x > 62000 else x > 150 + 64

/-- One reading shows that it ends. -/
def State.condLow (s : State) (g c x : Nat) : Bool :=
  if c = 0 then x ≥ s.uvThr g + 1000 else if c = 1 then x ≤ 60000 else x ≤ 130 + 64

/-- Readings in a row that assert a condition: 3 frames, or in DORMANT 3 samples; of the temperature, one. -/
def condRun (c : Nat) : Nat := if c = 2 then 1 else 3

/-- Readings in a row that end it: 10 ms of frames of 8 µs, or in DORMANT 10 samples; of the temperature, one. -/
def State.endRun (s : State) (c : Nat) : Nat := if c = 2 then 1 else if s.gated then 10 else 1250

/-- The last `k` of the readings, when there are so many, all satisfy `p`. -/
def lastAll (k : Nat) (p : Nat → Bool) (xs : List Nat) : Bool := decide (k ≤ xs.length) && (xs.drop (xs.length - k)).all p

/-- The readings of a monitored value, one a frame, or one a ms in DORMANT (R150, R165): time passes, and the last one shows.
(log 155: DESIGN CHOICE, safe.) -/
def State.groupValues (s : State) (g c : Nat) (xs : List Nat) : State :=
  let s := s.advCc (if s.gated then msClocks xs.length else usClocks (8 * xs.length))
  match xs.getLast? with
  | some x => if c = 2 then s.setFld (F.VDA_Gg_STAT_TEMP g) (min 255 x) else s.setFld (F.VDA_Gg_STAT_VDRV g) (min 65535 x)
  | none => s

/-- What a group condition does to one channel when it asserts (R163). (log 21: DEDUCED, unsafe.) -/
def State.groupTurnOff (s : State) (n : Nat) : State :=
  if s.isOddOfPair n then s
  else if s.chSt n = stPull || s.chSt n = stHold || s.chSt n = stClosing then (s.turnOff n).tellClosed n else s

/-- GROUP_CONDITION_ASSERT (R163, R165): readings `x` of group `g`, the newest last; where they show that the condition asserts
(Table 6-5), the group's channels turn off. -/
def execGroupConditionAssert (g : Fin 6) (c : Fin 3) (x : List Nat) (s : State) : Host.Outcome State Fault Refusal := s.clocked fun s =>
  let s := s.groupValues g c x
  let y := s.group g
  if bitOf y.cond c || !lastAll (condRun c) (s.condHigh g c) x then ok s
  else
    let s := s.turnOffClock.setGroup g { cond := setBits y.cond c c 1 }
    let s := s.raise (groupFlag g c)
    let s := (List.range 8).foldl (fun s i => s.groupTurnOff (8 * g.val + i)) s
    ok (s.report (srcGroupUv + c) g)

/-- GROUP_CONDITION_END (R163, R165): readings `x`, the newest last; where they show that the condition has ended (Table 6-5), it
does; the W1C flag stays. -/
def execGroupConditionEnd (g : Fin 6) (c : Fin 3) (x : List Nat) (s : State) : Host.Outcome State Fault Refusal := s.clocked fun s =>
  let s := s.groupValues g c x
  if lastAll (s.endRun c) (s.condLow g c) x then ok (s.setGroup g { cond := setBits (s.group g).cond c c 0 }).completed
  else ok s

/-- OFFMIN in force, in core clocks (Table 6-8). -/
def State.offMinCc (s : State) (n : Nat) : Nat := msClocks (clampN 5 10000 (s.fld (F.VDA_CHn_CFG_OFFMIN n)))

/-- OFF_TIME_END (R157): time runs to the end of the off-time of channel `n`, which is thereby reported to the
scheduler: an open deferred by it falls due at the first tick from then on. -/
def execOffTimeEnd (n : Fin 48) (s : State) : Host.Outcome State Fault Refusal := s.clocked fun s =>
  let n := s.govern n
  match (s.valve n).offFrom with
  | none => ok s
  | some c =>
    if s.chSt n = stOff then
      let s := s.advCcTo (c + s.offMinCc n)
      ok (s.modValve n (fun v => { v with offFrom := none })).completed
    else ok s

end Sys2Proof.Machine
end

