-- ==== Sys2Proof/Machine/Plan.lean ====
section
/-! DEFINITION. The planner: map banks, the expansion of cells into events, UNIFORM periods, map swaps, and the flow-step
profile (chapter 5, R118 to R123, R134, R140 to R143, R346). -/

namespace Sys2Proof.Machine

open Sys2Proof

/-! ### Map banks (R118, R119) -/

/-- First word of map bank `b`. -/
def bankBase (b : Nat) : Nat := 0x30000 + 0x4000 * b

/-- Header fields the planner uses (Table 5-1). -/
structure MapHdr where
  nzone : Nat
  origin : Nat
  clen : Nat
  ncell : Nat
  wrap : Bool
deriving DecidableEq, Repr

/-- The header that words 0 to 3 spell. -/
def hdrOf (w : Nat → Nat) : MapHdr :=
  { nzone := bitsOf (w 0) 13 8 + 1, origin := w 1 % mod40, clen := w 2 % mod40
    ncell := bitsOf (w 3) 31 0, wrap := bitOf (w 3) 32 }

/-- The conditions of R118 on the header words, the CRC apart. -/
def headerValid (w : Nat → Nat) : Bool :=
  let h := hdrOf w
  bitsOf (w 0) 39 32 = 1 && bitOf (w 5) 0 && h.clen > 0 && h.ncell * h.nzone ≤ 16376 &&
    (!h.wrap || h.ncell * h.clen = mod40)

/-- The header of bank `b` as it stands, without a read. -/
def State.hdrPeek (s : State) (b : Nat) : MapHdr := hdrOf (fun i => (s.sramData (bankBase b + i)).1.toNat)

/-- Read `n` words for the planner in ascending order; none at the first poisoned one. -/
def State.planWords : Nat → Nat → State → Option (List Word) × State
  | 0, _, s => (some [], s)
  | n + 1, a, s =>
    let (w, p, s) := s.sramRead a reqPlanner
    if p then (none, s)
    else
      match State.planWords n (a + 1) s with
      | (some ws, s) => (some (w :: ws), s)
      | (none, s) => (none, s)

/-- The validity check of R118 for bank `b`, reading its words. (log 71: DEDUCED, unsafe.) -/
def State.checkBank (s : State) (b : Nat) : Bool × State :=
  match State.planWords 6 (bankBase b) s with
  | (none, s) => (false, s)
  | (some ws, s) =>
    let w := fun i => ((ws.drop i).headD 0).toNat
    let h := hdrOf w
    if headerValid w then
      match State.planWords (h.ncell * h.nzone) (bankBase b + 8) s with
      | (none, s) => (false, s)
      | (some es, s) => (crc32 (bytesOfWords (ws.take 4 ++ es)) = bitsOf (w 4) 31 0, s)
    else (false, s)

/-- Bank `b` becomes active (R118, R374): valid or taken as outside every travel. (log 71: DEDUCED, unsafe.) -/
def State.activate (s : State) (b : Nat) (valid : Bool) : State :=
  let s := (s.setFld F.PLN_MAP_BANK b).setFld F.PLN_MAP_MAPID (bitsOf (s.sramData (bankBase b)).1.toNat 31 16)
  { s with plan := { s.plan with active := true, valid := valid, hdrBad := false } }

/-- Distance of travel `a` ahead of `b` in the direction of motion. -/
def State.ahead (s : State) (a b : Nat) : Int := if s.reverse then dist b a else dist a b

/-- The cell that holds travel `x` (R119). -/
def MapHdr.cellOf (h : MapHdr) (x : Nat) : Int := dist x h.origin / (h.clen : Int)

/-- The lower edge of cell `c`. -/
def MapHdr.edge (h : MapHdr) (c : Int) : Nat := add40 h.origin (c * h.clen)

/-- Entry and exit edge of cell `c` in the direction of motion. -/
def State.entryEdge (s : State) (h : MapHdr) (c : Int) : Nat := if s.reverse then h.edge (c + 1) else h.edge c
def State.exitEdge (s : State) (h : MapHdr) (c : Int) : Nat := if s.reverse then h.edge c else h.edge (c + 1)

/-- The number of the map's cell, or none outside the map. -/
def MapHdr.index (h : MapHdr) (c : Int) : Option Nat :=
  if h.wrap then (if h.ncell = 0 then none else some (c % (h.ncell : Int)).toNat)
  else if 0 ≤ c && c < h.ncell then some c.toNat else none

/-- The cell to expand next: the one past the frontier, or else the one that holds present travel (R120). -/
def State.nextCell (s : State) (h : MapHdr) : Int :=
  match s.plan.frontier with
  | none => h.cellOf s.travel
  | some f => if s.reverse then h.cellOf (add40 f (-1)) else h.cellOf f

/-- The horizon of R120, exactly. -/
def State.inHorizon (s : State) (x : Nat) : Bool :=
  let d := s.ahead x s.travel
  let v : Int := (s.fldI F.TRV_SPEED_SPEED).natAbs
  let hz : Int := clampN 1000 10000 (s.fld F.PLN_CFG_HORIZ)
  d ≤ (s.fld F.PLN_HMIN_HMIN : Int) || d * 256000 ≤ v * hz

/-! ### Pushes (R121) -/

/-- The words of a planner record. -/
def planWord0 (kind q : Nat) (trig : Bool) (lsel seq : Nat) : Word :=
  BitVec.ofNat 40 (kind * 2 ^ 36 + q * 2 ^ 30 + b2n trig * 2 ^ 29 + lsel * 2 ^ 27 + seq % 2 ^ 16 * 2 ^ 8)

/-- Add an event of channel `n` to the pushes: OPEN or CLOSE at `stamp`, with its lead (R123). (log 71: DEDUCED, unsafe.) -/
def State.planPush (s : State) (n : Nat) (open_ : Bool) (trig : Bool) (stamp : Nat) : State :=
  let lsel := if trig then 0 else if open_ then 1 else 2
  let w0 := planWord0 (if open_ then 1 else 2) n trig lsel s.plan.seq
  let w2 := BitVec.ofNat 40 (wrapW 32 (if trig then 0 else s.leadFor n lsel))
  { s with plan := { s.plan with
      wait := s.plan.wait ++ [(n, w0, BitVec.ofNat 40 stamp, w2)], seq := s.plan.seq + 1 } }

/-- Push what waits, in order, until one is refused (R121). -/
def State.planFlush : Nat → State → State
  | 0, s => s
  | k + 1, s =>
    match s.plan.wait with
    | [] => s
    | (q, w0, w1, w2) :: rest =>
      let (c, _, s) := s.submit 0 q [w0, w1, w2] []
      if c = admAck then State.planFlush k { s with plan := { s.plan with wait := rest } }
      else s.inc F.PLN_STAT_STALLS

/-! ### Expansion (R119, R120) -/

/-- Whether the planner plans channel `n` (R119, R385). -/
def State.planned (s : State) (n : Nat) : Bool :=
  s.flag (F.PLN_CHn_CFG_EN n) &&
    (s.modeNow != modeLimp || (if n < 24 then bitOf (s.fld F.MOD_LIMPA_MASK) n else bitOf (s.fld F.MOD_LIMPB_MASK) (n - 24)))

/-- Note a poisoned map word (R346). -/
def State.mapPoison (s : State) : State := (s.inc F.PLN_STAT_OUTMAP).report srcPoisMap 0

/-- Depth of zone `z` in cell `c` (R119): 0 outside the map, for a poisoned entry, and for a closed zone (R254). A zone the
map does not have is given a free depth. (log 72: DESIGN CHOICE, safe.) -/
def State.depthAt (s : State) (h : MapHdr) (c : Int) (z : Nat) : Nat × State :=
  match h.index c with
  | none => (0, s)
  | some i =>
    if z ≥ h.nzone then (if s.zoneClosed z then (0, s) else s.draw 65536)
    else
      let (w, p, s) := s.sramRead (bankBase (s.fld F.PLN_MAP_BANK) + 8 + i * h.nzone + z) reqPlanner
      if p then (0, s.mapPoison) else (if s.zoneClosed z then 0 else bitsOf w.toNat 15 0, s)

/-- The depths of the zones that planned channels use, each entry read once. -/
def State.depths (s : State) (h : MapHdr) (c : Int) : List (Nat × Nat) × State :=
  (List.range 48).foldl (fun (a : List (Nat × Nat) × State) n =>
    let (ds, s) := a
    let z := s.fld (F.PLN_CHn_CFG_ZONE n)
    if s.planned n && !(ds.any (fun d => d.1 == z)) then
      let (d, s) := s.depthAt h c z
      ((z, d) :: ds, s)
    else (ds, s)) ([], s)

/-- The open length of channel `n` in a cell of length `clen` at `depth` (R119). -/
def State.openLen (s : State) (n clen depth : Nat) : Nat :=
  let full := s.fld (F.PLN_CHn_CFG_DFULL n)
  if full = 0 then 0 else clen * min depth full / full

/-- Push the closes held back, each unless the channel opens again at the same edge (R119). (log 73: DEDUCED, unsafe.) -/
def State.pushHeld (s : State) (opensAt : Nat → Option Nat) : State :=
  let hb := s.plan.heldBack
  hb.foldl (fun s p => if opensAt p.1 = some p.2 then s else s.planPush p.1 false false p.2)
    { s with plan := { s.plan with heldBack := [] } }

/-- The limit that an armed fence puts on a cell entered at `e` (R140). (log 74: DEDUCED, unsafe.) -/
def State.fenceLimit (s : State) (e clen : Nat) : Nat :=
  let d := s.ahead (s.fld F.PLN_FENCEACT_FENCE) e
  if s.flag F.PLN_MAP_ARM && 0 < d && d < (clen : Int) then d.toNat else clen

/-- Move travel `e` by `k` tc along the motion. -/
def State.along (s : State) (e k : Nat) : Nat := if s.reverse then add40 e (-(k : Int)) else add40 e k

/-- Expand cell `c` (R119, R120): all events of every planned channel. Stamps behind present travel in the first cell
become present travel. (log 73: DEDUCED, unsafe.) -/
def State.expandCell (s : State) (h : MapHdr) (c : Int) : State :=
  let first := s.plan.frontier.isNone
  let (ds, s) := s.depths h c
  let s := if (h.index c).isNone then s.inc F.PLN_STAT_OUTMAP else s
  let e := s.entryEdge h c
  let lim := s.fenceLimit e h.clen
  let at_ := fun (x : Nat) => if first && s.ahead x s.travel < 0 then s.travel else x
  let len := fun (n : Nat) =>
    if s.planned n then
      s.openLen n h.clen (((ds.find? (fun d => d.1 == s.fld (F.PLN_CHn_CFG_ZONE n))).map (·.2)).getD 0)
    else 0
  let held := s.plan.heldBack
  let s := s.pushHeld (fun n => if len n = 0 then none else some e)
  let cuts := (List.range 48).filter (fun n => len n ≠ 0 && len n ≥ lim)
  let s := (List.range 48).foldl (fun s n =>
    if len n = 0 then s
    else
      let cont := first == false && (held.any (fun p => p == (n, e)))
      let s := if cont then s else s.planPush n true false (at_ e)
      if len n ≥ lim then s else s.planPush n false false (at_ (s.along e (len n)))) s
  { s with plan := { s.plan with
      frontier := some (s.exitEdge h c)
      heldBack := cuts.map (fun n => (n, at_ (s.along e lim))) } }

/-! ### Map swap (R140) -/

/-- The first entry edge of map `h` at or beyond travel `f` along the motion. -/
def State.firstEdge (s : State) (h : MapHdr) (f : Nat) : Nat :=
  let d := dist f h.origin
  if s.reverse then h.edge (d / (h.clen : Int)) else h.edge (-((-d) / (h.clen : Int)))

/-- The planner has reached the fence: swap to the inactive bank when it is valid, else keep the old map.
(log 73: DEDUCED, unsafe.) -/
def State.swap (s : State) : State :=
  let b := 1 - s.fld F.PLN_MAP_BANK
  let f := s.fld F.PLN_FENCEACT_FENCE
  match s.checkBank b with
  | (true, s) =>
    let s := ((s.activate b true).raise F.PLN_MAP_SWAPPED).update F.PLN_MAP_ARM 0
    let h := s.hdrPeek b
    let fr := s.firstEdge h f
    let keep := s.plan.frontier.isNone && s.ahead (s.entryEdge h (h.cellOf s.travel)) f ≥ 0
    let s := if s.plan.heldBack.all (fun p => p.2 == fr) then s else s.pushHeld (fun _ => none)
    { s with plan := { s.plan with frontier := if keep then none else some fr } }
  | (false, s) =>
    let s := ((s.update F.PLN_MAP_ARM 0).raise F.PLN_MAP_MAPERR).inc F.PLN_STAT_MAPERRS
    s.report srcMapInv 0

/-- Whether the active bank gives cells: it is valid, its header was not poisoned, and its cells have a length. -/
def State.gridOk (s : State) : Bool :=
  s.plan.active && s.plan.valid && !s.plan.hdrBad && (s.hdrPeek (s.fld F.PLN_MAP_BANK)).clen != 0

/-- Whether the planner has reached the fence, its next cell being entered at `e`. (log 74: DEDUCED, unsafe.) -/
def State.atFence (s : State) (e : Nat) : Bool :=
  s.flag F.PLN_MAP_ARM && s.ahead e (s.fld F.PLN_FENCEACT_FENCE) ≥ 0

/-- Read the header for an expansion; a poisoned word makes every travel outside the map until a swap (R346). -/
def State.readHeader (s : State) : Option MapHdr × State :=
  let b := bankBase (s.fld F.PLN_MAP_BANK)
  let h := s.hdrPeek (s.fld F.PLN_MAP_BANK)
  let (bad, s) := (List.range 4).foldl (fun (a : Bool × State) i =>
    let (_, p, s) := a.2.sramRead (b + i) reqPlanner
    (a.1 || p, if p then s.mapPoison else s)) (false, s)
  if bad then (none, { (s.pushHeld (fun _ => none)) with plan := { (s.pushHeld (fun _ => none)).plan with hdrBad := true } })
  else (some h, s)

/-- Expand cells while the next one lies in the horizon and no push waits; the swap at a fence comes when the fence lies in the
horizon, be it within a cell of the old map (R140). `k` bounds the number of both. -/
def State.expandLoop : Nat → State → State
  | 0, s => s
  | k + 1, s =>
    if s.plan.wait ≠ [] then s
    else if !s.gridOk then
      let f := s.fld F.PLN_FENCEACT_FENCE
      if s.flag F.PLN_MAP_ARM && s.inHorizon f then
        let s := s.swap
        if s.gridOk then State.expandLoop k s else s
      else s
    else
      let h := s.hdrPeek (s.fld F.PLN_MAP_BANK)
      let c := s.nextCell h
      let e := s.entryEdge h c
      if s.atFence e then
        if s.inHorizon (s.fld F.PLN_FENCEACT_FENCE) then State.expandLoop k s.swap else s
      else if !s.inHorizon e && s.plan.frontier.isSome then s
      else
        match s.readHeader with
        | (none, s) => State.planFlush s.plan.wait.length s
        | (some h, s) =>
          let s := s.expandCell h c
          State.expandLoop k (State.planFlush s.plan.wait.length s)

/-- A bound on the cells and swaps one tick can take. -/
def State.expandFuel (s : State) : Nat :=
  let clen := fun b => max 1 (s.hdrPeek b).clen
  let behind := match s.plan.frontier with
    | some f => (max 0 (s.ahead s.travel f)).toNat
    | none => 0
  2 * (behind + s.fld F.PLN_HMIN_HMIN + (s.fldI F.TRV_SPEED_SPEED).natAbs * 10 / 256) / min (clen 0) (clen 1) + 4

/-! ### UNIFORM (R143) -/

/-- DUTY in force: above 1,024 as 1,024, and 0 for a closed zone (R254). -/
def State.duty (s : State) (n : Nat) : Nat :=
  if s.zoneClosed (s.fld (F.PLN_CHn_CFG_ZONE n)) then 0 else min 1024 (s.fld (F.PLN_CHn_DUTY_DUTY n))

/-- A period start at `t`: the duties are captured, and the events of the period queued for pushing.
(log 76: DEDUCED, unsafe.) -/
def State.uniformStart (s : State) (t : Nat) : State :=
  let per := max 1 (s.fld F.PLN_UCFG_PERIOD)
  let s := (List.range 48).foldl (fun s n =>
    if s.planned n then
      let d := s.duty n
      let s := if d > 0 then s.planPush n true true t else s
      if d < 1024 then s.planPush n false true ((t + d * per * 16) % mod40) else s
    else s) s
  { s with plan := { s.plan with uNext := some ((t + per * 2 ^ 14) % mod40) } }

/-- Step 6 of R130: the planner expands and pushes. -/
def State.planStep (s : State) : State :=
  if s.plan.kind = 0 then s
  else
    let s := match s.plan.uNext with
      | some t => if s.plan.kind = 2 && dist s.now t ≥ 0 then s.uniformStart t else s
      | none => s
    let s := State.planFlush s.plan.wait.length s
    if s.plan.kind = 1 then State.expandLoop s.expandFuel s else s

/-- Start planning of kind `k` afresh (R120, R143), or stop it (0). -/
def State.startPlan (s : State) (k : Nat) : State :=
  let s := { s with trv := { s.trv with planDir := s.reverse } }
  { s with plan := { s.plan with
      kind := k, frontier := none, heldBack := [], wait := []
      uNext := if k = 2 then some ((s.now + (2 ^ 14 - s.now % 2 ^ 14)) % mod40) else none } }

/-- A write of PLN_MAP (R140): the W1C flags clear, and ARM = 1 arms a swap at PLN_FENCE, or at the frontier when the fence
lies behind it. -/
def State.writeMap (s : State) (v : Word) : State :=
  let s := if bitOf v.toNat 3 then s.setFlag F.PLN_MAP_SWAPPED false else s
  let s := if bitOf v.toNat 2 then s.setFlag F.PLN_MAP_MAPERR false else s
  if bitOf v.toNat 1 then
    let f := s.fld F.PLN_FENCE_FENCE
    let f := match s.plan.frontier with
      | some x => if s.ahead f x < 0 then x else f
      | none => f
    (s.setFlag F.PLN_MAP_ARM true).setFld F.PLN_FENCEACT_FENCE f
  else s.setFlag F.PLN_MAP_ARM false

/-! ### The flow-step profile (R134, R210) -/

/-- The predicted time to execution of a record of valve queue `q`, in tb, as a fraction; none when it has none. -/
def State.predictTb (s : State) (q : Nat) (w0 w1 : Word) : Option Rat :=
  (s.predict q w0 w1).map (fun ms => ms * (2 ^ 20 : Nat) / 1000)

/-- The contributions of one valve queue: bin and signed flow. An OPEN with S_n open and a CLOSE with S_n closed
contribute nothing. (log 78: DEDUCED, unsafe.) -/
def State.flowSteps (s : State) (q : Nat) : List (Nat × Int) :=
  let f : Int := s.fld (F.PLN_CHn_CFG_FLOW q)
  let sn := (s.valve q).sn
  (s.queue q).recs.filterMap (fun r =>
    let k := recKind r.w0
    if (k = 1 && !sn) || (k = 2 && sn) then
      match s.predictTb q r.w0 r.w1 with
      | some t => some ((t / (2 ^ 17 : Nat)).floor.toNat, if k = 1 then f else -f)
      | none => none
    else none)

/-- The bins at a publication instant. (log 78: DEDUCED, unsafe.) -/
def State.profileBins (s : State) : List Int :=
  if s.still then List.replicate 24 0
  else
    let xs := (List.range 48).flatMap s.flowSteps
    (List.range 24).map (fun b => (xs.filter (fun x => x.1 == b)).foldl (fun a x => a + x.2) 0)

end Sys2Proof.Machine
end

