-- ==== Sys2Proof/Machine/Sched.lean ====
section
/-! DEFINITION. Steps 3 to 5 of a scheduler tick: records tested and taken, conflicts resolved per channel and per target,
off-times, and the issue to the drive, the control engine and the outputs (chapter 5, R130 to R133, R136, R141, R144). -/

namespace Sys2Proof.Machine

open Sys2Proof

/-! ### Issuing to the drive (R131, R146, R156, R157, R163, R164, R195, R385) -/

/-- Whether the channel's off-time runs, or it is still closing (R157). -/
def State.inOffTime (s : State) (n : Nat) : Bool :=
  s.chSt n = stClosing || (s.chSt n = stOff && (match (s.valve n).offFrom with
    | some c => decide (s.clk.cc < c + s.offMinCc n)
    | none => false))

/-- Whether the channel is in SAFE or on its way there. -/
def State.safeBound (s : State) (n : Nat) : Bool :=
  let v := s.valve n
  s.chSt n = stSafe || v.toSafe || (s.running n && s.fld (F.VDA_CHn_SEQ_KIND n) = kSafe && !v.recovery)

/-- Whether an OPEN that reaches the channel executes nothing and is lost.
(log 69: DEDUCED, unsafe; log 86: DEDUCED, unsafe.) -/
def State.openLost (s : State) (n : Nat) : Bool :=
  s.isOddOfPair n ||
    (s.modeNow = modeLimp && !(if n < 24 then bitOf (s.fld F.MOD_LIMPA_MASK) n else bitOf (s.fld F.MOD_LIMPB_MASK) (n - 24))) ||
    (s.valve n).heldClose.isSome || s.groupCond n || s.safeBound n || s.fld (F.VDA_CHn_TH_STAGE n) = 3

/-- Issue an OPEN: its outcome, and the state with S_n as R131 leaves it. (log 69: DEDUCED, unsafe.) -/
def State.issueOpen (s : State) (n : Nat) (d : Deferred) : Nat × State :=
  if s.openLost n then (outLost, s)
  else
    let s := s.modValve n (fun v => { v with sn := true })
    if s.chOpen n then (outMerged, s)
    else if s.inOffTime n then
      (outDeferred, (s.modValve n (fun v => { v with deferred := some d })).inc (F.EVS_Qn_STAT_LATE n))
    else
      let s := if d.real then s.setFldI (F.PLN_CHn_LEAD_LEAD n) d.lead else s
      (outExec, s.startOpen n d.prog)

/-- Issue a CLOSE: its outcome, and the state after it. -/
def State.issueClose (s : State) (n : Nat) (d : Deferred) : Nat × State :=
  let v := s.valve n
  if s.isOddOfPair n then (outLost, s)
  else if s.safeBound n || v.heldClose.isSome then (outMerged, s)
  else if s.groupCond n then
    if s.chSt n = stLatched then (outDeferred, s.modValve n (fun v => { v with heldClose := some d })) else (outMerged, s)
  else if s.chOpen n then
    let s := if d.real then s.setFldI (F.PLN_CHn_LEAD_LEAD n) d.lead else s
    (outExec, s.startClose n d.prog)
  else (outMerged, s)

/-- The demand of another block on channel `n`: no record stands behind it. -/
def demand (n code : Nat) : Deferred := { q := n, seq := 0, prog := 0, real := false, code := code }

/-! ### Resolution per channel (R131, R133) -/

/-- What reaches a channel in one tick. `keep` marks a grace close, which leaves S_n. -/
structure Act where
  open_ : Bool
  d : Deferred
  keep : Bool := false
deriving DecidableEq, Repr

/-- Each of several actions gets outcome `r`. (log 66: DEDUCED, unsafe; log 67: DEDUCED, unsafe.) -/
def State.noteAll (s : State) (as : List Act) (r : Nat) : State := as.foldl (fun s a => s.noteOutcome a.d r) s

/-- A close wins: it is issued, other closes merge (or are lost with it on the odd channel of a pair, R146), a deferred open is
cancelled, and every open loses.
(log 66: DEDUCED, unsafe.) -/
def State.resolveClose (s : State) (n : Nat) (a : Act) (more opens : List Act) : State :=
  let (r, s) := s.issueClose n a.d
  let s := (s.noteOutcome a.d r).noteAll more (if r = outLost then outLost else outMerged)
  let told := (r = outExec || r = outMerged) && !a.keep || r != outLost && more.any (fun x => !x.keep)
  let s := if told then s.tellClosed n else s
  let s := match (s.valve n).deferred with
    | some d => (s.modValve n (fun v => { v with deferred := none })).noteOutcome d outCancelled
    | none => s
  let s := s.incBy (F.EVS_Qn_STAT_LOSE n) (opens.filter (fun x => x.d.real)).length
  s.noteAll opens outLost

/-- Only opens are reached: one acts and the others merge, or all are lost with it; while an open is deferred they merge
into it. -/
def State.resolveOpen (s : State) (n : Nat) (a : Act) (more : List Act) : State :=
  if (s.valve n).deferred.isSome && !s.openLost n then
    (s.modValve n (fun v => { v with sn := true })).noteAll (a :: more) outMerged
  else
    let (r, s) := s.issueOpen n a.d
    (s.noteOutcome a.d r).noteAll more (if r = outLost then outLost else outMerged)

/-- Resolve the actions that reach channel `n`, a deferred open falling due among them. -/
def State.resolve (s : State) (n : Nat) (as : List Act) : State :=
  let v := s.valve n
  let due := match v.deferred with
    | some d => if s.inOffTime n then [] else [({ open_ := true, d := d } : Act)]
    | none => []
  let s := if due = [] then s else s.setValve n { v with deferred := none }
  let as := due ++ as
  match as.filter (fun a => !a.open_) with
  | c :: cs => s.resolveClose n c cs (as.filter (fun a => a.open_))
  | [] =>
    match as with
    | [] => s
    | a :: more => s.resolveOpen n a more

/-! ### Testing and taking records (R123, R130, R136) -/

/-- The deferred form of a valve record. -/
def deferOf (q : Nat) (r : Rec) : Deferred :=
  { q := q, seq := recSeq r.w0, prog := recProg r.w2
    lead := if recLsel r.w0 = 0 || recTrig r.w0 then 0 else recLead r.w2 }

/-- Write the present lead into a record that carries one (R123). (log 87: DEDUCED, unsafe.) -/
def State.withLead (s : State) (q : Nat) (r : Rec) : Rec :=
  if q < 48 && recLsel r.w0 ≠ 0 && !recTrig r.w0 then
    { r with w2 := putBits r.w2 ⟨0, 31, 0⟩ (wrapW 32 (s.leadFor q (recLsel r.w0))), c2 := 0 }
  else r

/-- Test the records of queue `q` in order: those still waiting, those reached, and the poisoned record at which the test
ends, if any. (log 70: DEDUCED, unsafe.) -/
def State.testRecs (q : Nat) : List Rec → State → List Rec × List Rec × Option Rec × State
  | [], s => ([], [], none, s)
  | r :: rs, s =>
    if s.still && !recTrig r.w0 then
      let (w, t, b, s) := State.testRecs q rs s
      (r :: w, t, b, s)
    else
      let (bad, s) := s.readRec q r
      if bad then (rs, [], some r, s)
      else
        let r := s.withLead q r
        let hit := s.recReached q r.w0 r.w1
        let (w, t, b, s) := State.testRecs q rs s
        if hit then (w, r :: t, b, s) else (r :: w, t, b, s)

/-- Merge records back in queue order: those of `keep` among `all`, with their new contents. -/
def inOrder (all keep : List Rec) : List Rec := all.filterMap (fun r => keep.find? (fun k => k.slot == r.slot))

/-- Step 3 of R130 for queue `q`: the records taken (up to 8), and whether a poisoned record closes the channel.
(log 70: DEDUCED, unsafe.) -/
def State.takeFrom (s : State) (q : Nat) : List Rec × Bool × State :=
  let x := s.queue q
  if x.st ≠ .run || x.recs = [] then ([], false, s)
  else
    let (w, t, bad, s) := State.testRecs q x.recs s
    let take := t.take 8
    let late := (t.drop 8).length
    let x := s.queue q
    let s := { s.setQueue q { x with recs := inOrder x.recs (w ++ t.drop 8) } with spent := take.reverse ++ s.spent }
    let s := s.incBy (F.EVS_Qn_STAT_LATE q) (min 8 late)
    match bad with
    | none => (take, false, s)
    | some r =>
      let s := (s.execRec outPoison q (recSeq r.w0)).reportAt srcPoisEvent q (F.EVS_Qn_STAT_w q).addr
      let s := { s with spent := (x.recs.find? (fun (y : Rec) => y.slot == r.slot)).getD r :: s.spent }
      if q < 48 then (take, true, s.flush q false true)
      else (take, false, s.setQueue q { s.queue q with st := .safe })

/-! ### Resolution per target (R132) -/

/-- Of the records for one target, given with their queues in ascending order, the one with the highest SEQ. -/
def bestAct (x : Nat × Rec) (ys : List (Nat × Rec)) : Nat × Rec :=
  ys.foldl (fun a b => if sx 16 (wrapW 16 ((recSeq b.2.w0 : Int) - recSeq a.2.w0)) > 0 then b else a) x

/-- Perform an action record of KIND 8h to Eh: its outcome (R207, R216, R444). (log 87: DEDUCED, unsafe.) -/
def State.performAct (s : State) (kind : Nat) (v : Word) : Nat × State :=
  if kind = 8 then (outExec, s.actTarget 1 v)
  else if kind = 9 then (outExec, s.actTarget 0 v)
  else if kind = 10 then (outExec, s.actTarget 2 v)
  else if s.driven (kind - 10) then (outLost, s)
  else (outExec, s.actOut (kind - 10) v)

/-- Resolve the records for one target and perform the winner. -/
def State.resolveTarget (s : State) (kind : Nat) (rs : List (Nat × Rec)) : State :=
  match rs with
  | [] => s
  | x :: ys =>
    let w := bestAct x ys
    let s := rs.foldl (fun s r =>
      if r = w then s else (s.inc (F.EVS_Qn_STAT_LOSE r.1)).execRec outLost r.1 (recSeq r.2.w0)) s
    let (r, s) := s.performAct kind w.2.w2
    s.execRec r w.1 (recSeq w.2.w0)

/-! ### Steps 3 to 5 together -/

/-- The actions that wait for this tick without a record: closes left by flushes, held closes whose condition has ended. -/
def State.waitingActs (s : State) (closeDue : List Nat) (n : Nat) : List Act × State :=
  let v := s.valve n
  let fl := if closeDue.contains n then [({ open_ := false, d := demand n 0 } : Act)] else []
  match v.heldClose with
  | some d =>
    if s.groupCond n then (fl, s)
    else ({ open_ := false, d := d } :: fl, s.setValve n { v with heldClose := none })
  | none => (fl, s)

/-- The records of channel `n` taken before the one that acts on it, and those from that one on: the first CLOSE, or else the
first OPEN. -/
def aroundAct (rs : List Rec) : List Rec × List Rec :=
  let k := if rs.any (fun r => recKind r.w0 == 2) then 2 else 1
  (rs.takeWhile (fun r => recKind r.w0 != k), rs.dropWhile (fun r => recKind r.w0 != k))

/-- The leads of executed NOP records of valve queue `n` (R123, R131). -/
def State.nopLeads (s : State) (n : Nat) (rs : List Rec) : State :=
  rs.foldl (fun s r => if recKind r.w0 = 0 then s.setFldI (F.PLN_CHn_LEAD_LEAD n) (deferOf n r).lead else s) s

/-- Steps 3 to 5 of R130. `closeDue` names the channels whose flush close falls due, `extra` the grace closes and reopens of
this tick. -/
def State.executeTick (s : State) (closeDue : List Nat) (extra : List (Nat × Act)) : State :=
  let (taken, bad, s) := (List.range 56).foldl (fun (a : List (Nat × Rec) × List Nat × State) q =>
    let (t, b, s) := a.2.2.takeFrom q
    (a.1 ++ t.map (fun r => (q, r)), if b then a.2.1 ++ [q] else a.2.1, s)) ([], [], s)
  let s := (List.range 48).foldl (fun s n =>
    let (wt, s) := s.waitingActs closeDue n
    let psn := if bad.contains n then [({ open_ := false, d := demand n 0 } : Act)] else []
    let rs := (taken.filter (fun p => p.1 == n && (recKind p.2.w0 == 1 || recKind p.2.w0 == 2))).map
      (fun p => ({ open_ := recKind p.2.w0 == 1, d := deferOf n p.2 } : Act))
    let ex := (extra.filter (fun p => p.1 == n)).map (·.2)
    let around := aroundAct ((taken.filter (fun p => p.1 == n)).map (·.2))
    ((s.nopLeads n around.1).resolve n (wt ++ psn ++ rs ++ ex)).nopLeads n around.2) s
  let s := (List.range 7).foldl (fun s i =>
    s.resolveTarget (8 + i) (taken.filter (fun p => 48 ≤ p.1 && recKind p.2.w0 == 8 + i))) s
  taken.foldl (fun s p =>
    let k := recKind p.2.w0
    if (p.1 < 48 && (k = 1 || k = 2)) || (48 ≤ p.1 && 8 ≤ k && k ≤ 14) then s
    else s.execRec outExec p.1 (recSeq p.2.w0)) s

end Sys2Proof.Machine
end

