-- ==== Sys2Proof/Machine/Modes.lean ====
section
/-! DEFINITION. Modes, their changes and causes, DORMANT, and the scheduler tick (chapters 5, 18 and 19: R130, R141, R142,
R371, R380 to R391, R398, R399). -/

namespace Sys2Proof.Machine

open Sys2Proof

/-! ### Entering a mode (R383 to R387) -/

/-- Flush queues `lo` to `hi − 1`. (log 63: DEDUCED, unsafe.) -/
def State.flushRange (s : State) (lo hi : Nat) : State :=
  ((List.range hi).drop lo).foldl (fun s q => s.flush q (q < 48 && s.chOpen q) false) s

/-- The planner's kind in a mode: 1 by travel, 2 by time, 0 none. -/
def State.planKind (s : State) (m : Nat) : Nat :=
  if m = modePrescribe || m = modeFertigate then 1
  else if m = modeUniform then 2
  else if m = modeLimp then (if s.flag F.MOD_LIMPA_TRIG then 2 else 1)
  else 0

/-- A change between PRESCRIBE and FERTIGATE keeps the valve queues and the plan (R383). (log 75: DEDUCED, unsafe.) -/
def keepsPlan (a b : Nat) : Bool :=
  (a = modePrescribe && b = modeFertigate) || (a = modeFertigate && b = modePrescribe)

/-- R165, R260, R339, R387: the first step of a DORMANT entry, and the trigger of its commit. (log 63: DEDUCED, unsafe.) -/
def State.beginDormant (s : State) : State :=
  let s := (List.range 8).foldl (fun s n =>
    if s.movRuns n && n != s.fld F.LDG_CFG_DCH then s.setMov n { s.movOf n with stop := true } else s) s
  let s := (List.range 48).foldl (fun s n =>
    if s.chOpen n && !s.isOddOfPair n then (s.issueClose n (demand n 0)).2 else s) s
  let s := s.setFlag F.MOD_STAT_TRANS true
  ({ s with mode := { s.mode with dorm := 1 } } : State).trigger rsnDormant

/-- Change to mode `m` for `cause` (R371); nothing changes when it is the present mode. -/
def State.enterMode (s : State) (m cause : Nat) : State :=
  let old := s.modeNow
  if m = old then s
  else
    let s := ((s.setFld F.MOD_STAT_PREV old).setFld F.MOD_STAT_MODE m).setFld F.MOD_STAT_CAUSE cause
    let s := s.setFlag F.MOD_STAT_DEFPEND false
    let s := if keepsPlan old m then s else s.flushRange 0 48
    let s := if m = modeHold || m = modeDormant || m = modeLimp then s.flushRange 48 56 else s
    let s := s.stagesForMode
    let s := if keepsPlan old m then s else s.startPlan (s.planKind m)
    if m = modeHold then
      let s := { s with mode := { s.mode with holdFrom := s.clk.cc } }
      s.trigger rsnHold
    else if m = modeDormant then s.beginDormant
    else s

/-! ### Commands (R380, R381) -/

/-- Table 18-5. -/
def commandAllowed (m t : Nat) : Bool :=
  if m = modeHold then t = modeCommission || t = modePrescribe || t = modeUniform || t = modeFertigate || t = modeDormant
  else if m = modeCommission then t = modeHold || t = modeDormant
  else if m = modePrescribe then t = modeHold || t = modeUniform || t = modeFertigate || t = modeDormant
  else if m = modeFertigate then t = modeHold || t = modePrescribe || t = modeUniform || t = modeDormant
  else if m = modeUniform then t = modeHold || t = modePrescribe || t = modeFertigate || t = modeDormant
  else if m = modeLimp then t = modeHold || t = modeDormant
  else false

/-- The interlock of R381. -/
def State.interlock (s : State) : Bool :=
  s.flag F.MOD_FERT_EN && s.flag (F.TRV_DCm_VAL (s.fld F.MOD_FERT_DC))

/-- The refusal code of a command (Table 18-6), 0 when it is accepted. (log 79: DEDUCED, unsafe.) -/
def State.refusal (s : State) (t : Nat) : Nat :=
  let m := s.modeNow
  if m = modeBoot then
    if s.fld F.MOD_BOOT_HOLDWHY = 4 || s.fld F.MOD_BOOT_HOLDWHY = 5 then 5 else 1
  else if m = modeDormant then 4
  else if t = modeBoot then 1
  else if t = m then 0
  else if !commandAllowed m t then 1
  else if m = modeHold && s.flag F.MOD_STAT_LIMPPEND && (t = modePrescribe || t = modeUniform || t = modeFertigate) then 0
  else if (t = modePrescribe || t = modeFertigate) && !s.travelValid then 2
  else if t = modeFertigate && !s.interlock then 3
  else 0

/-- Apply one command. (log 82: DEDUCED, unsafe.) -/
def State.applyCommand (s : State) (t cause : Nat) : State :=
  let r := s.refusal t
  if r ≠ 0 then (s.raise F.MOD_STAT_CMDERR).setFld F.MOD_STAT_WHY r
  else if s.modeNow = modeHold && s.flag F.MOD_STAT_LIMPPEND && (t = modePrescribe || t = modeUniform || t = modeFertigate)
  then s.enterMode modeLimp cause
  else s.enterMode t cause

/-! ### Fault actions (R398, R399, Table 19-2) -/

/-- Every channel of group `g` enters SAFE. -/
def State.groupSafe (s : State) (g why : Nat) : State :=
  (List.range 8).foldl (fun s i => if s.isOddOfPair (8 * g + i) then s else s.enterSafe (8 * g + i) why) s

/-- The SAFE part of an action. -/
def State.safeAct (s : State) (d : DueAct) : State :=
  if d.holds || d.act = 4 then s
  else if srcGroup d.src then s.groupSafe d.inst d.src
  else if d.act = 2 then s.groupSafe (d.inst / 8) d.src
  else s.enterSafe d.inst d.src

/-- The actions that fall due at this tick: SAFE at once, HOLD and LIMP as causes of mode changes. -/
def State.faultActs (s : State) : State :=
  let ds := s.flt.due
  let s := { s with flt := { s.flt with due := [] } }
  let s := ds.foldl State.safeAct s
  { s with mode := { s.mode with
      hold := s.mode.hold ++ (if ds.any DueAct.holds then [2] else [])
      limp := s.mode.limp || ds.any (fun d => d.act == 4) } }

/-! ### Step 2 of the tick: mode changes (R371, R379, R382) -/

/-- Causes that lead to HOLD. -/
def State.holdCauses (s : State) : State :=
  match s.mode.hold with
  | [] => s
  | c :: _ => ({ s with mode := { s.mode with hold := [] } } : State).enterMode modeHold c

/-- A LIMP action. (log 82: DEDUCED, unsafe.) -/
def State.limpCause (s : State) : State :=
  if !s.mode.limp then s
  else
    let s := { s with mode := { s.mode with limp := false } }
    let m := s.modeNow
    if m = modePrescribe || m = modeFertigate || m = modeUniform then s.enterMode modeLimp 3
    else if (m = modeHold || m = modeCommission) && s.limpLatched then
      (s.setFlag F.MOD_STAT_LIMPPEND true).enterMode modeHold 3
    else s

/-- Travel lost. -/
def State.lostCause (s : State) : State :=
  if !s.mode.lost then s
  else
    let s := { s with mode := { s.mode with lost := false } }
    let m := s.modeNow
    if m = modePrescribe || m = modeFertigate then
      s.enterMode (if s.flag F.MOD_CFG_UFB then modeUniform else modeHold) 6
    else if m = modeLimp && !s.flag F.MOD_LIMPA_TRIG then s.enterMode modeHold 6
    else s

/-- Whether the idle timeout has run out (R391). -/
def State.idleOut (s : State) : Bool :=
  s.modeNow = modeHold && s.fld F.MOD_CFG_IDLETO ≠ 0 &&
    s.clk.cc ≥ max s.mode.traffic s.mode.holdFrom + secClocks (60 * s.fld F.MOD_CFG_IDLETO)

/-- Scheduled dormancy falls due: DEN clears and the cause waits (R391). (log 81: DEDUCED, unsafe.) -/
def State.checkSchedule (s : State) : State :=
  if s.flag F.MOD_WAKE_DEN && dist s.now (s.fld F.MOD_DORMAT_TIME) ≥ 0 then
    { s.update F.MOD_WAKE_DEN 0 with mode := { s.mode with sched := true } }
  else s

/-- WEN clears when its time arrives (R391). (log 81: DEDUCED, unsafe.) -/
def State.checkWake (s : State) : State :=
  if s.flag F.MOD_WAKE_WEN && dist s.now (s.fld F.MOD_WAKEAT_TIME) ≥ 0 then
    let s := s.update F.MOD_WAKE_WEN 0
    if s.modeNow = modeDormant then { s with mode := { s.mode with waking := true } } else s
  else s

/-- Idle timeout and scheduled dormancy. -/
def State.dormantCauses (s : State) : State :=
  if s.idleOut then s.applyCommand modeDormant 7
  else if s.mode.sched then
    ({ s with mode := { s.mode with sched := false } } : State).applyCommand modeDormant 8
  else s

/-- DEFPEND: PRESCRIBE at the first tick at which travel is valid (R379). (log 80: DEDUCED, unsafe.) -/
def State.defPend (s : State) : State :=
  if s.flag F.MOD_STAT_DEFPEND && s.modeNow = modeHold && s.travelValid then s.enterMode modePrescribe 0 else s

/-- The commands written since the last tick, in order. (log 79: DEDUCED, unsafe.) -/
def State.commands (s : State) : State :=
  let cs := s.mode.cmds
  cs.foldl (fun s t => s.applyCommand t 1) { s with mode := { s.mode with cmds := [] } }

/-- Mode changes at a tick. While BOOT or a DORMANT entry lasts, causes wait and commands are refused; the first tick after
a wake enters HOLD. -/
def State.modeStep (s : State) : State :=
  let s := s.checkSchedule.checkWake
  if s.modeNow = modeBoot then s.commands
  else if s.modeNow = modeDormant && s.mode.dorm ≠ 0 then s.commands
  else
    let woke := s.mode.waking
    let s := if woke then
        ({ s with mode := { s.mode with waking := false } } : State).enterMode modeHold 9 else s
    let s := s.faultActs
    let s := s.holdCauses.limpCause.lostCause.dormantCauses.defPend
    let s := s.commands
    match woke, s.mode.wakeCmd with
    | true, some t => { s with mode := { s.mode with wakeCmd := none, cmds := [t] } }
    | _, _ => s

/-! ### DORMANT entry and wake (R387, R389, R390) -/

/-- Every channel is at rest, or its close is held (R387 step 2). -/
def State.channelsDown (s : State) : Bool :=
  (List.range 48).all (fun n => s.isOddOfPair n || s.chSt n == stOff || s.chSt n == stSafe ||
    (s.chSt n == stLatched && (s.valve n).heldClose.isSome))

/-- Step 3 of R387: SAFE raw on every output a stage names, 0 on the others (R222, R444); GAP records; no capture.
(log 85: DEDUCED, unsafe.) -/
def State.outputsDown (s : State) : State :=
  let s := [1, 2, 3, 4].foldl (fun s d =>
    if (List.range 3).any (fun k => (List.range 2).any (fun j => s.destOf k j == d)) then s else s.setOut d 0) s
  let s := (List.range 3).foldl State.driveSafe s
  s.traceGap.abandonSnap

/-- Advance a DORMANT entry (R387). -/
def State.dormantStep (s : State) : State :=
  let stage := fun (s : State) (k : Nat) => ({ s with mode := { s.mode with dorm := k } } : State)
  let s := if s.mode.dorm = 1 && s.channelsDown then stage s.outputsDown 3 else s
  let s := if s.mode.dorm = 3 && s.led.stage = 0 && !s.led.pend then
      let busy := !s.isHead && s.role != roleNone
      let s := if s.role = roleNone then s else s.sendRaw (s.dayOf (s.gpsTb / 2 ^ 20))
      stage (s.setLed { s.led with rawBusy := busy }) 4
    else s
  if s.mode.dorm = 4 && !s.led.rawBusy then stage s 5 else s

/-- A wake (R389, R390): the clocks run again and standstill is asserted; MODE becomes HOLD at the next tick. A wake in the
course of an entry waits for the gating. (log 84: DEDUCED, unsafe.) -/
def State.wake (s : State) : State :=
  if s.modeNow ≠ modeDormant then s
  else if s.mode.dorm = 2 then
    let s := s.traceResume
    let s := if s.flag F.TRV_STAT_LOST then s
      else ((s.setFlag F.TRV_STAT_STILL true).setFld F.TRV_SPEED_SPEED 0).setFld F.TRV_ACCEL_ACCEL 0
    let s : State := { s with
      trv := { s.trv with stillFrom := some s.clk.cc, graceDone := false, hist := [], vhist := [], released := false }
      mode := { s.mode with dorm := 0, waking := true } }
    let s := (List.range 48).foldl State.skipCredit s
    if s.led.pend && s.led.stage = 0 then s.startCommit else s
  else { s with mode := { s.mode with waking := true } }

/-! ### Standstill rules at a tick (R141, R142) -/

/-- The channels that a grace close reaches, or that reopen after a release, at this tick. `rel`: standstill was released
since the last tick.
(log 64: DEDUCED, unsafe; log 65: DEDUCED, unsafe; log 68: DESIGN CHOICE, safe; log 166: DEDUCED, unsafe.) -/
def State.standstillActs (s : State) (rel : Bool) : List (Nat × Act) × State :=
  let ns := (List.range 48).filter (fun n => !s.isOddOfPair n)
  let s := if s.still then
      ns.foldl (fun s n => match (s.valve n).deferred with
        | some d => (s.modValve n (fun v => { v with deferred := none })).noteOutcome d outCancelled
        | none => s) s
    else s
  let due := s.still && !s.trv.graceDone && (match s.trv.stillFrom with
    | some c => decide (s.clk.cc ≥ c + msClocks (s.fld F.PLN_CFG_GRACE))
    | none => false)
  if due then
    ((ns.filter (fun n => s.chOpen n)).map (fun n => (n, { open_ := false, d := demand n outGrace, keep := true })),
      { s with trv := { s.trv with graceDone := true } })
  else if rel && !s.still then
    ((ns.filter (fun n => (s.valve n).sn && !s.chOpen n && (s.valve n).deferred.isNone)).map
      (fun n => (n, { open_ := true, d := demand n outReopen })), s)
  else ([], s)

/-- R142: a change of DIR while planning by travel flushes the valve queues and replans. (log 75: DEDUCED, unsafe.) -/
def State.judgeDir (s : State) : State :=
  if s.plan.kind = 1 && s.reverse != s.trv.planDir then (s.flushRange 0 48).startPlan 1 else s

/-! ### The injector (R386) -/

/-- The injector's action at this tick, if its two conditions begin or cease to hold. (log 83: DEDUCED, unsafe.) -/
def State.injector (s : State) : List (Nat × Act) × State :=
  let ch := s.fld F.MOD_FERT_INJCH
  let want := s.modeNow = modeFertigate && s.flag (F.TRV_DCm_VAL (s.fld F.MOD_FERT_DC)) &&
    (List.range 48).any (fun n => n != ch && s.planned n && (s.valve n).sn)
  let was := s.mode.inj
  let s := { s with mode := { s.mode with inj := want } }
  if ch ≥ 48 || want == was then ([], s) else ([(ch, { open_ := want, d := demand ch 0 })], s)

/-! ### The scheduler tick (R130) -/

/-- Flushes that have lasted 4 ticks end (R135). (log 63: DEDUCED, unsafe.) -/
def State.endFlushes (s : State) : State :=
  s.queues.foldl (fun s p => if p.2.st = .flush && dist s.now p.2.flushBy ≥ 0 then s.endFlush p.1 else s) s

/-- One scheduler tick at the present system time. A channel that the tick's mode transition closes does not reopen (R26). -/
def State.tick (s : State) : State :=
  let s := s.settleAll.applyDue
  let rel := s.trv.released
  let s := { s with trv := { s.trv with released := false } }
  let due := (List.range 48).filter (fun n => (s.valve n).closeDue)
  let s := due.foldl (fun s n => s.modValve n (fun v => { v with closeDue := false })) s
  let s := s.sampleTravel.endFlushes
  let (acts, s) := s.standstillActs rel
  let s := s.judgeDir.modeStep
  let (inj, s) := s.injector
  let acts := acts.filter (fun (a : Nat × Act) => !a.2.open_ || (s.valve a.1).sn)
  let s := s.executeTick due (acts ++ inj)
  let s := s.planStep
  s.flow.dormantStep

/-- The next scheduler tick. -/
def State.nextTick (s : State) : State := (s.takeInstant clsTick 32 0).tick

/-- SCHEDULER_TICK (R130): the next scheduler tick; none start while the clocks are gated. -/
def execSchedulerTick (s : State) : Host.Outcome State Fault Refusal := s.clocked fun s => if s.gated then ok s else ok s.nextTick

/-- GRACE_CLOSE (R141): the scheduler tick at which GRACE has passed since standstill asserted.
(log 77: DESIGN CHOICE, safe.) -/
def execGraceClose (s : State) : Host.Outcome State Fault Refusal := s.clocked fun s =>
  match s.trv.stillFrom with
  | some c =>
    if s.gated || !s.still || s.trv.graceDone then ok s
    else ok (s.advCcTo (c + msClocks (s.fld F.PLN_CFG_GRACE))).nextTick
  | none => ok s

/-- UNIFORM_PERIOD_START (R143): the scheduler tick with which the next UNIFORM period starts.
(log 77: DESIGN CHOICE, safe.) -/
def execUniformPeriodStart (s : State) : Host.Outcome State Fault Refusal := s.clocked fun s =>
  match s.plan.uNext with
  | some t => if s.gated || s.plan.kind ≠ 2 then ok s else ok (s.advTo t).nextTick
  | none => ok s

/-- FLUSH_COMPLETE (R135): the flush of queue `q` ends, within its 4 ticks. -/
def execFlushComplete (q : Fin 64) (s : State) : Host.Outcome State Fault Refusal := s.clocked fun s => ok (s.endFlush q)

/-- IDLE_TIMEOUT (R391): the scheduler tick at which the idle time has run out.
(log 3: DESIGN CHOICE, safe; log 77: DESIGN CHOICE, safe.) -/
def execIdleTimeout (s : State) : Host.Outcome State Fault Refusal := s.clocked fun s =>
  if s.modeNow = modeHold && s.fld F.MOD_CFG_IDLETO ≠ 0 then
    ok (s.advCcTo (max s.mode.traffic s.mode.holdFrom + secClocks (60 * s.fld F.MOD_CFG_IDLETO))).nextTick
  else ok s

/-- SCHEDULED_DORMANCY (R391): the scheduler tick at which MOD_DORMAT has come with DEN = 1.
(log 77: DESIGN CHOICE, safe.) -/
def execScheduledDormancy (s : State) : Host.Outcome State Fault Refusal := s.clocked fun s =>
  if s.flag F.MOD_WAKE_DEN && !s.gated then ok (s.advTo (s.fld F.MOD_DORMAT_TIME)).nextTick else ok s

/-- WAKE_TIME (R389, R391): system time reaches MOD_WAKEAT with WEN = 1; WEN clears, and DORMANT ends. -/
def execWakeTime (s : State) : Host.Outcome State Fault Refusal := s.clocked fun s =>
  if s.flag F.MOD_WAKE_WEN then
    ok ((s.advTo (s.fld F.MOD_WAKEAT_TIME)).update F.MOD_WAKE_WEN 0).wake
  else ok s

/-- PROFILE_PUBLICATION (R134, R210, R277): at the next multiple of 2^17 tb the node publishes its profile when FFEN = 1,
sends it to LANODE unless it is all 0 or the node runs LA, and forms the Eddy sum. (log 78: DEDUCED, unsafe.) -/
def execProfilePublication (s : State) : Host.Outcome State Fault Refusal := s.clocked fun s =>
  if s.gated then ok s
  else
    let s := s.takeInstant clsProfile (2 ^ 17) 0
    let on := s.flag F.PLN_CFG_FFEN && s.modeNow != modeBoot
    let own := if on then s.profileBins else List.replicate 24 0
    let s := if on then
        (own.zip (List.range 24)).foldl (fun s (p : Int × Nat) => s.setFldI (F.PLN_FFb_FLOW p.2) p.1) s else s
    let la := s.fld F.CTL_EDDY_LANODE
    let s := if on && la ≠ s.addr && s.linkOn && s.role ≠ roleNone && own.any (· != 0) then
        s.pushTx 56 la clsMsg false (toBytes 1 2 ++ toBytes 5 s.now ++ own.flatMap (fun x => toBytes 3 (wrapW 24 x)))
      else s
    let use := s.ctl.got.filter (fun p => p.at_ == add40 s.now (-(2 ^ 17 : Int)))
    let sum := (List.range 24).map (fun b =>
      own.getD b 0 + (use.map (fun p => if b + 1 < 24 then p.bins.getD (b + 1) 0 else 0)).foldl (· + ·) 0)
    let s := s.incBy F.CTL_EDDY_PROF use.length
    ok { s with ctl := { s.ctl with pk := some s.now, sum := sum, got := [] } }

end Sys2Proof.Machine
end

