-- ==== Sys2Proof/Machine/Link.lean ====
section
/-! DEFINITION. The span link's frames and timers: transmission, acknowledgement, the classes received, the host's frames,
beacons and discovery (chapter 12, R41, R47, R269 to R292, R298, R312, R319, R321, R378). WRITE and READ items are executed
elsewhere. -/

namespace Sys2Proof.Machine

open Sys2Proof

/-! ### Timers -/

/-- The ACK wait, in core clocks. (log 116: DEDUCED, unsafe.) -/
def State.ackWait (s : State) : Nat := usClocks (3 * s.slotUs)

/-! ### Transmission (R279, R291) -/

/-- A transmit item is read poisoned: it is discarded (R291). -/
def State.abortTx (s : State) (q : Nat) (x : Item) : State :=
  let s := match s.outTo x.peer with
    | some o => if !x.bc && o.seq = x.seq then s.setOuts (s.lnk.outs.filter (fun y => y.dst != o.dst)) else s
    | none => s
  let s := ((s.dropItem q x.seq).inc F.SLK_CNTG_TXABORT).report srcPoisFrame 0
  let o : Out := { ring := q, dst := x.peer, cls := x.cls, seq := x.seq, payload := x.payload }
  ((s.hostEnds x.seq 10 0 0).rawEnds o).epochFails o

/-- Send an item: a broadcast is done with its frame, a unicast frame stays outstanding until it is acknowledged. -/
def State.sendItem (s : State) (q : Nat) (x : Item) : State :=
  let (gen, key) := (s.txKey x).getD (0, none)
  let s := if x.bc then s else s.chooseRateTo x.peer
  let rate := if x.bc then s.rateCode (s.fld F.SLK_PHY_BCRATE) else s.fld (F.SLK_PEERp_LNK_RATE x.peer)
  let f := s.mkFrame rate (if x.bc then 0 else x.peer) x.cls x.seq gen x.bc x.payload key
  let d := s.frameAir f
  let s := s.emit (if x.cls = clsEnr then { f with src := 0 } else f) d
  if x.bc then s.dropItem q x.seq
  else
    let was := (s.outTo x.peer).getD { ring := q, dst := x.peer, cls := x.cls, seq := x.seq, payload := x.payload }
    s.putOut { was with phase := 0, at_ := s.clk.cc + d, sends := was.sends + 1 }

/-- The first ENR frame of a held node that waits with its producer, sent with SYSID 0 (R298, R378). -/
def State.sendHeld (s : State) : State :=
  match s.lnk.wait.find? (fun t => t.cls == clsEnr) with
  | some t =>
    let seq := s.nextSeq
    let s := s.setFld F.SLK_STAT_SEQ (seq + 1)
    let f := s.mkFrame (s.rateCode (s.fld F.SLK_PHY_BCRATE)) 0 t.cls seq 0 true t.payload none
    ({ s with lnk := { s.lnk with wait := s.lnk.wait.erase t } } : State).emit { f with sysid := 0, src := 0 } (s.frameAir f)
  | none => s

/-- The first frame of ring `q` that may go is sent. -/
def State.sendFirst (s : State) (q : Nat) : State :=
  if s.heldForLink then s.sendHeld
  else
    match (s.items q).find? (fun i => s.mayGo q (itemOf i)) with
    | none => s
    | some rs =>
      let (ws, s) := s.readItem q reqLink rs
      let x := itemOf rs
      if ws.any (fun w => w.2) then s.abortTx q x else s.sendItem q x

/-- Whether ring `q` gains the medium before the other: its count ends first, or with it for class B. -/
def State.winsAccess (s : State) (q : Nat) : Bool :=
  match s.accessAt q, s.accessAt (113 - q) with
  | some a, some b => if q = 56 then a ≤ b else a < b
  | some _, none => true
  | none, _ => false

/-- FRAME_TRANSMIT (R279): `busy` core clocks of the medium pass that no received frame accounts for; the backoff of ring 0
(Q56) or 1 (Q57) then runs to 0, and the first frame of that ring that may go is sent. Where the other ring's count ends first,
the ring does not gain the medium. (log 50: DESIGN CHOICE, safe; log 117: DEDUCED, unsafe.) -/
def execFrameTransmit (ring : Fin 2) (busy : Nat) (s : State) : Host.Outcome State Fault Refusal := s.clocked fun s =>
  let q := 56 + ring.val
  let s := if busy = 0 then s.contend else s.contend.busy s.clk.cc (s.clk.cc + busy)
  match s.accessAt q with
  | some c => ok (if s.winsAccess q then (((s.advCcTo c).endBackoff q).sendFirst q).flow else s)
  | none => ok s

/-! ### Acknowledgements (R280, R282) -/

/-- ACK_WAIT_TIMEOUT (R280, R282): no valid ACK of the frame outstanding to `dst` within the ACK wait. Delivery fails once RETRY
retransmissions have ended so. -/
def execAckWaitTimeout (dst : Fin 64) (s : State) : Host.Outcome State Fault Refusal := s.clocked fun s =>
  match s.outTo dst with
  | none => ok s
  | some o =>
    if o.phase ≠ 0 then ok s
    else
      let s := s.advCcTo (o.at_ + s.ackWait)
      let s := (s.inc F.SLK_CNTE_NOACK).doubleCw o.ring
      let m := spGet (fun _ => 0) s.lnk.miss dst + 1
      let s : State := { s with lnk := { s.lnk with miss := spSet (fun _ => 0) s.lnk.miss dst m } }
      let o := { o with misses := o.misses + (if o.sends > 1 then 1 else 0), phase := 1 }
      ok (if o.misses ≥ s.fld F.SLK_CFG_RETRY then (s.deliveryFails o).flow else (s.putOut o).contend)

/-- RETRY_WAIT_EXPIRY (R280): RETRY ms after an ACK with RES 1 the frame may be sent again. -/
def execRetryWaitExpiry (dst : Fin 64) (s : State) : Host.Outcome State Fault Refusal := s.clocked fun s =>
  match s.outTo dst with
  | none => ok s
  | some o => if o.phase = 2 then ok ((s.advCcTo o.at_).putOut { o with phase := 1 }).contend else ok s

/-- What completes with the frame: replication, handover, group keys, the host's frame, the raw report, a segment. -/
def State.completes (s : State) (o : Out) (res adm retry : Nat) : State :=
  let s := ((s.endOut o).resetCw o.ring).inc F.SLK_CNTF_TXOK
  let s := (s.hostEnds o.seq res adm retry).rawEnds o
  let t := typeOf o.payload
  if o.cls = clsEpoch && t = 2 then s.manifestAcked o.dst (if res = 0 then adm else 0)
  else if o.cls = clsEpoch && t = 4 then (if res = 0 then s.handoverAcked else s)
  else if o.cls = clsKeyx && res = 0 then
    { s with key := { s.key with acked := if s.key.acked.contains o.dst then s.key.acked else o.dst :: s.key.acked } }
  else if o.cls = clsSnap && res = 0 then s.snapAcked o.dst (bytesAt o.payload 1 1) (bytesAt o.payload 2 2)
  else s

/-- ACK (R280): a valid ACK of the frame outstanding to its sender completes it, or makes it wait RETRY ms; any other is
counted late. -/
def execAck (f : Frame) (s : State) : Host.Outcome State Fault Refusal := s.clocked fun s =>
  if f.cls.val ≠ clsAck then ok s
  else
    let s := s.arrive f
    match s.checkAuth f with
    | (false, s) => ok s
    | (true, s) =>
      if f.bc || f.payload.length ≠ 5 || f.src.val = s.addr then ok (s.inc F.SLK_CNTD_FORMERR)
      else match s.outTo f.src with
        | some o =>
          if o.phase ≠ 0 || o.seq ≠ f.seq.toNat then ok (s.inc F.SLK_CNTG_LATEACK)
          else
            let res := bytesAt f.payload 0 1
            let retry := bytesAt f.payload 2 2
            let s := s.setFld (F.SLK_PEERp_LNK_SNR f.src) (bytesAt f.payload 4 1)
            let s : State := { s with lnk := { s.lnk with
              known := spSet (fun _ => false) s.lnk.known f.src true, miss := spSet (fun _ => 0) s.lnk.miss f.src 0 } }
            let s := s.chooseRateTo f.src
            if res = 1 then ok ((s.doubleCw o.ring).putOut { o with phase := 2, at_ := s.clk.cc + msClocks retry })
            else ok (s.completes o res (bytesAt f.payload 1 1) retry).flow
        | none => ok (s.inc F.SLK_CNTG_LATEACK)

/-! ### Energy sensing (R278) -/

/-- ENERGY_SENSE_IGNORE (R278): energy above CSTHR, `noise` dBµV, alone has held the medium busy for 300 ms since the last
frame. (log 118: DESIGN CHOICE, safe.) -/
def execEnergySenseIgnore (noise : Nat) (s : State) : Host.Outcome State Fault Refusal := s.clocked fun s =>
  if !s.linkOn || s.flag F.SLK_STAT_CSIGN || noise ≤ s.fld F.SLK_PHY_CSTHR then ok s
  else
    let s := s.advCcTo (s.lnk.busyTo + msClocks 300)
    let s : State := { s with lnk := { s.lnk with csFrom := some s.clk.cc } }
    ok (((s.setFlag F.SLK_STAT_CSIGN true).inc F.SLK_STAT_JAMCS).setFld F.SLK_STAT_NOISE (min 255 noise))

/-- ENERGY_SENSE_RESTORE (R278): energy, now `noise` dBµV, has stayed below CSTHR for 1.0 s. (log 118: DESIGN CHOICE, safe.) -/
def execEnergySenseRestore (noise : Nat) (s : State) : Host.Outcome State Fault Refusal := s.clocked fun s =>
  match s.lnk.csFrom with
  | some c =>
    if noise < s.fld F.SLK_PHY_CSTHR then
      let s := s.advCcTo (c + secClocks 1)
      let s : State := { s with lnk := { s.lnk with csFrom := none } }
      ok ((s.setFlag F.SLK_STAT_CSIGN false).setFld F.SLK_STAT_NOISE (min 255 noise))
    else ok s
  | none => ok s

/-! ### Frames received (R283, Table 12-5) -/

/-- Whether class, TYPE, LEN and BC are allowed (check 9, Tables 12-5, 12-6, 12-8 and 14-3).
(log 107: DEDUCED, unsafe; log 128: DEDUCED, unsafe.) -/
def formOf (f : Frame) : Bool :=
  let n := f.payload.length
  let t := typeOf f.payload
  let c := f.cls.val
  if c = clsAck then !f.bc && n == 5
  else if c = clsBeacon then f.bc && n == 29
  else if c = clsWrite then !f.bc && 8 ≤ n && n ≤ 240 && n % 8 == 0
  else if c = clsRead then !f.bc && 3 ≤ n && n ≤ 141 && n % 3 == 0
  else if c = clsRdata then !f.bc && 7 ≤ n && n ≤ 237 && n % 5 == 2
  else if c = clsPush then !f.bc && n == 15
  else if c = clsSnap then !f.bc && ((t == 0xA0 && n == 46) || (t == 0xA1 && 5 ≤ n && n ≤ 240))
  else if c = clsSreq then !f.bc && n == 7
  else if c = clsMsg then
    if t = 3 then f.bc && n == 9
    else !f.bc && ((t == 1 && n == 6) || (t == 2 && n == 78) || (t == 4 && n == 8) || (t == 5 && n == 7) || (t == 6 && n == 2))
  else if c = clsErr then !f.bc && n == 12
  else if c = clsEpoch then
    !f.bc && ((t == 1 && 9 ≤ n && n ≤ 240) || (t == 2 && n == 25 + 5 * bytesAt f.payload 24 1) || (t == 3 && n == 5) || (t == 4 && n == 7))
  else if c = clsEnr then f.bc && ((t == 1 && n == 17) || (t == 2 && 11 ≤ n && n ≤ 211) || (t == 3 && n == 89))
  else if c = clsKeyx then
    (f.bc && ((t == 1 && n == 148) || (t == 2 && n == 148) || (t == 3 && n == 12) || (t == 4 && n == 12))) || (!f.bc && t == 5 && n == 26)
  else false

/-- Records that a frame takes in Q58; beacons, ACKs, pushes and GKEY take none. -/
def q58Records (f : Frame) : Nat :=
  if f.cls.val = clsBeacon || f.cls.val = clsAck || f.cls.val = clsPush || f.cls.val = clsKeyx then 0
  else nrecFor f.payload.length

/-- A frame of class `c` whose effect goes through Q58: checked, acknowledged, and taken at once when nothing stands before
it. `then_` acts on an accepted frame before it is taken. (log 172: DEDUCED, unsafe.) -/
def State.receive (s : State) (f : Frame) (c : Nat) (t : Option Nat) (then_ : State → State) : State :=
  if f.cls.val ≠ c || (match t with
    | some t => typeOf f.payload ≠ t
    | none => false) then s
  else
    match (s.arrive f).rxChecks f (formOf f) (q58Records f) with
    | (.accepted, s) => (then_ ((s.accept f 0 0).pushRx f)).flow
    | (_, s) => s

/-- Whether a WRITE payload holds a write to MOD_CMD (R389). (log 131: DEDUCED, unsafe.) -/
def writesModCmd (pl : List Byte) : Bool := (List.range (pl.length / 8)).any (fun k => bytesAt pl (8 * k) 3 == 0x101)

/-- Traffic that restarts the idle timeout (R391). (log 131: DEDUCED, unsafe.) -/
def State.traffic (s : State) : State := { s with mode := { s.mode with traffic := s.clk.cc } }

/-- WRITE (R285, R389): accepted into Q58; a write to MOD_CMD ends DORMANT. -/
def execWrite (f : Frame) (s : State) : Host.Outcome State Fault Refusal := s.clocked fun s =>
  ok (s.receive f clsWrite none (fun s => let s := s.traffic; if writesModCmd f.payload then s.wake else s))

/-- READ (R287): accepted into Q58. -/
def execRead (f : Frame) (s : State) : Host.Outcome State Fault Refusal := s.clocked fun s => ok (s.receive f clsRead none State.traffic)

/-- RDATA (R287). -/
def execRdata (f : Frame) (s : State) : Host.Outcome State Fault Refusal := s.clocked fun s => ok (s.receive f clsRdata none id)

/-- ERR (R286). -/
def execErr (f : Frame) (s : State) : Host.Outcome State Fault Refusal := s.clocked fun s => ok (s.receive f clsErr none id)

/-- OFFSET (R45). -/
def execOffset (f : Frame) (s : State) : Host.Outcome State Fault Refusal := s.clocked fun s => ok (s.receive f clsMsg (some 1) id)

/-- PROFILE (R210, R277). -/
def execProfile (f : Frame) (s : State) : Host.Outcome State Fault Refusal := s.clocked fun s => ok (s.receive f clsMsg (some 2) id)

/-- PRESSURE (R277). -/
def execPressure (f : Frame) (s : State) : Host.Outcome State Fault Refusal := s.clocked fun s => ok (s.receive f clsMsg (some 3) id)

/-- RAWREP (R251). -/
def execRawrep (f : Frame) (s : State) : Host.Outcome State Fault Refusal := s.clocked fun s => ok (s.receive f clsMsg (some 4) id)

/-- CF (R253). -/
def execCf (f : Frame) (s : State) : Host.Outcome State Fault Refusal := s.clocked fun s => ok (s.receive f clsMsg (some 5) id)

/-- HOLDCMD (R277, R389): from the active head it ends DORMANT. -/
def execHoldcmd (f : Frame) (s : State) : Host.Outcome State Fault Refusal := s.clocked fun s =>
  ok (s.receive f clsMsg (some 6) (fun s => if s.fromHead f.src then s.wake else s))

/-- SNAPSHOT_REQUEST (R103). -/
def execSnapshotRequest (f : Frame) (s : State) : Host.Outcome State Fault Refusal := s.clocked fun s => ok (s.receive f clsSreq none id)

/-- SNAPSHOT_SEGMENT (R110). -/
def execSnapshotSegment (f : Frame) (s : State) : Host.Outcome State Fault Refusal := s.clocked fun s => ok (s.receive f clsSnap none id)

/-- PUSH (R288): admitted to the queue its record names before the ACK, which carries the result. -/
def execPush (f : Frame) (s : State) : Host.Outcome State Fault Refusal := s.clocked fun s =>
  if f.cls.val ≠ clsPush then ok s
  else
    match (s.arrive f).rxChecks f (formOf f) 0 with
    | (.accepted, s) =>
      let ws := wordsOfBytes f.payload
      let q := recQ (ws.headD 0)
      if q ≥ 56 then ok ((s.traffic).accept f admForm 0)
      else
        let (c, r, s) := s.traffic.submit 2 q ws []
        ok (s.accept f c r)
    | (_, s) => ok s

/-! ### Beacons (R41, R45, R47, R276, R312, R319 to R321) -/

/-- The offset of a beacon, in tb: the local stamp of its reference instant less RXCOMP less REFT (R41). -/
def State.beaconOffset (s : State) (f : Frame) : Rat :=
  (dist (s.refTime f) (bytesAt f.payload 0 5) : Rat) + (s.refUnits f % tbUnit : Int) / (tbUnit : Int) -
    (s.fld F.TBS_RXCOMP_RXCOMP : Rat) * 2 ^ 20 / 10 ^ 9

/-- Travel from a beacon (R44, R45): the new base, and the correction between old and new at the present tick, which finishes
one that is still being spread. (log 133: DEDUCED, unsafe.) -/
def State.beaconTravel (s : State) (pl : List Byte) (off : Rat) : State :=
  let t := add40 (bytesAt pl 10 5) (freeRound 50 off.num off.den)
  let b : Base := { x := bytesAt pl 5 5, v := sx 40 (bytesAt pl 15 5), t := t }
  let old := s.trv.bcn
  let s : State := { s with trv := { s.trv with bcn := some b, bcnCc := some s.clk.cc } }
  if s.fld F.TRV_SRC_USING = 7 && !s.flag F.TRV_STAT_LOST then
    let new := wrap40 (b.at s.trv.lastTick)
    match old with
    | some o => s.correct (dist new (wrap40 (o.at s.trv.lastTick)))
    | none => match s.rawTravel 7 s.trv.lastTick with
      | some x => s.correct (dist x s.travel)
      | none => s
  else s

/-- A beacon of epoch `e` from `a` at the heads: the wait for arbitration ends, or the head yields or fences.
(log 120: DEDUCED, unsafe.) -/
def State.beaconHeads (s : State) (e a : Nat) : State :=
  let s := if s.hd.arb.isSome then
      let s := (s.setFld F.SYS_ROLE_ROLE roleStandby).storeEpoch (max e s.key.epoch)
      { s with hd := { s.hd with arb := none, bcnCc := some s.clk.cc } }
    else s
  if s.role = roleStandby then
    let s := if e > s.fld F.SYS_HEAD_EPOCH_EPOCH then s.setFld F.SYS_HEAD_EPOCH_EPOCH e else s
    (s.setFlag F.SYS_HEAD_STAT_UNFIT false : State)
  else s.maybeYield e a

/-- An active head fences a head that it outranks, at most once a second (R321). -/
def State.fence (s : State) (a : Nat) : State :=
  if s.elapsed ((s.hd.fenced.find? (fun p => p.1 == a)).map (·.2)) (secClocks 1) then
    let s : State := { s with hd := { s.hd with fenced := spPut s.hd.fenced a s.clk.cc } }
    s.pushTx 57 a clsEpoch false (toBytes 1 3 ++ toBytes 4 (s.fld F.SYS_HEAD_EPOCH_EPOCH))
  else s

/-- Whether the node disciplines its timebase from beacons (R38). (log 123: DEDUCED, unsafe.) -/
def State.beaconDisciplines (s : State) : Bool :=
  s.role = roleSpan || (s.role = roleStandby && !(s.fld F.GNB_STAT_STATE ≥ 3 && s.tracking))

/-- What a beacon gives the timebase of a node that it disciplines: it takes effect at the next scheduler tick (R47), or at
once while DORMANT stops the ticks. (log 188: DEDUCED, unsafe.) -/
def State.beaconTime (s : State) (pl : List Byte) (off : Rat) : State :=
  if s.beaconDisciplines then
    let d : TimeDue := { off := off * 10 ^ 9 / 2 ^ 20, reft := bytesAt pl 0 5, wrap := bytesAt pl 24 3, leap := bytesAt pl 27 1 }
    let s : State := { s with clk := { s.clk with due := some d, lastDisc := some s.clk.cc } }
    if s.gated then s.applyDue else s
  else s

/-- An accepted beacon. (log 122: DEDUCED, unsafe.) -/
def State.takeBeacon (s : State) (f : Frame) : State :=
  let src := f.src.val
  let pl := f.payload
  let e := bytesAt pl 20 4
  let high := s.fld F.SLK_BCN_EPOCH
  if s.isHead && !s.outranked e src then
    (if e < high then s.inc F.SLK_BCN_BCNLOW else s).fence src
  else if e < high then s.inc F.SLK_BCN_BCNLOW
  else
    let off := s.beaconOffset f
    let s := s.setFld F.SLK_BCN_EPOCH e
    let s : State := { s with lnk := { s.lnk with head := some src } }
    let s := s.beaconHeads e src
    let s : State := { s with hd := { s.hd with bcnCc := some s.clk.cc } }
    let s := if e > high && s.flag F.SYS_HEAD_CFG_LAFOLLOW then
        (s.setFld F.CTL_EDDY_LANODE src).setFld F.LDG_PCFG_PNODE src else s
    let s := if bitOf (bytesAt pl 28 1) 5 then s else s.beaconTravel pl off
    s.beaconTime pl off

/-- BEACON (R41, R44, R47). -/
def execBeacon (f : Frame) (s : State) : Host.Outcome State Fault Refusal := s.clocked fun s =>
  if f.cls.val ≠ clsBeacon then ok s
  else
    match (s.arrive f).rxChecks f (formOf f) 0 with
    | (.accepted, s) => ok (((s.accept f 0 0).takeBeacon f).flow)
    | (_, s) => ok s

/-- The beacon's payload at its reference instant (Table 12-7). -/
def State.beaconBytes (s : State) : List Byte :=
  let st := s.fld F.TBS_STAT_STATE
  toBytes 5 s.now ++ toBytes 5 s.travel ++ toBytes 5 s.trv.lastTick ++ toBytes 5 (s.fld F.TRV_SPEED_SPEED) ++
    toBytes 4 (s.fld F.SYS_HEAD_EPOCH_EPOCH) ++ toBytes 3 s.wrapNow ++ toBytes 1 (s.fld F.TBS_LEAP_LEAP) ++
    toBytes 1 (128 * b2n (st = 1) + 64 * b2n (st = 2) + 32 * b2n (s.flag F.TRV_STAT_LOST))

/-- A beacon goes out: its preamble runs to the reference instant, at which its payload stands (R276). -/
def State.sendBeacon (s : State) (g : GroupKey) : State :=
  let s := (s.busy s.clk.cc (s.clk.cc + s.preamble)).advCc s.preamble
  let seq := s.nextSeq
  let s := s.setFld F.SLK_STAT_SEQ (seq + 1)
  let f := s.mkFrame (s.rateCode (s.fld F.SLK_PHY_BCRATE)) 0 clsBeacon seq g.gen true s.beaconBytes (some g.key)
  s.emit f (s.frameClocks f)

/-- BEACON_TRANSMIT (R276, R279, R318): at the next multiple of 2^18 tb; `wait` core clocks of the medium pass that no received
frame accounts for, and the beacon starts at the end of the gap. One delayed past the next multiple is not sent. After the first
beacon of a takeover a group generation is drawn. (log 124: DEDUCED, unsafe; log 125: DESIGN CHOICE, safe.) -/
def execBeaconTransmit (wait : Nat) (s : State) : Host.Outcome State Fault Refusal := s.clocked fun s =>
  if !s.isHead || !s.linkOn || s.modeNow = modeDormant then ok s
  else
    let s := s.takeInstant clsBeaconTx (2 ^ 18) 0
    let t := s.now
    let s := if wait = 0 then s else s.busy s.clk.cc (s.clk.cc + wait)
    let s := s.advCcTo (s.lnk.busyTo + s.gapCc)
    if dist s.now t ≥ (2 ^ 18 : Nat) then ok s
    else
      let s := match s.key.grp with
        | g :: _ => s.sendBeacon g
        | [] => s
      if s.hd.first then ok ({ s with hd := { s.hd with first := false } } : State).drawGroup else ok s

/-- PRESSURE_BROADCAST (R277): at the next odd multiple of 2^17 tb a node with PSEND = 1 broadcasts its line pressure. -/
def execPressureBroadcast (s : State) : Host.Outcome State Fault Refusal := s.clocked fun s =>
  if s.gated then ok s
  else
    let s := s.takeInstant clsPressure (2 ^ 18) (2 ^ 17)
    if s.flag F.SLK_CFG_PSEND && s.linkOn && s.role ≠ roleNone && s.modeNow ≠ modeDormant then
      ok (s.pushTx 56 0 clsMsg true (toBytes 1 3 ++ toBytes 5 s.now ++ toBytes 2 (s.fld F.LDG_PLINE_P) ++
        toBytes 1 (128 * b2n (s.flag F.LDG_PLINE_STALE))))
    else ok s

/-! ### The host's frames (R289) -/

/-- The first `n` bytes of the host buffer. -/
def State.hostBytes (s : State) (n : Nat) : List Byte :=
  ((List.range 48).flatMap (fun i => toBytes 5 (s.fld (F.SLK_HBUFi_DATA i)))).take n

/-- A write of SLK_HCMD: DST, CLASS and LEN are kept, and SEND starts a frame. -/
def State.writeHcmd (s : State) (v : Word) : State :=
  let s := ((s.setFld F.SLK_HCMD_DST (bitsOf v.toNat 39 34)).setFld F.SLK_HCMD_CLASS (bitsOf v.toNat 33 30)).setFld
    F.SLK_HCMD_LEN (bitsOf v.toNat 29 22)
  if !bitOf v.toNat 0 || s.flag F.SLK_HSTAT_BUSY then s
  else
    let d := s.fld F.SLK_HCMD_DST
    let c := s.fld F.SLK_HCMD_CLASS
    let n := s.fld F.SLK_HCMD_LEN
    let bad := fun (r : Nat) => ((s.setFld F.SLK_HSTAT_RES r).setFld F.SLK_HSTAT_ADM 0).setFld F.SLK_HSTAT_RETRY 0
    let okLen := (c = clsWrite && 8 ≤ n && n ≤ 240 && n % 8 = 0) || (c = clsRead && 3 ≤ n && n ≤ 141 && n % 3 = 0) || (c = clsPush && n = 15)
    if d = s.addr then bad 9
    else if !okLen then bad 11
    else
      (s.setFlag F.SLK_HSTAT_BUSY true).offerTx
        { ring := 57, dst := d, cls := c, bc := false, payload := s.hostBytes n, host := true }

/-! ### Discovery (R298, R378) -/

/-- Answer a CERTREQ with challenge `chal`: the certificate's segments, then PROOF. (log 127: DEDUCED, unsafe.) -/
def State.answerCertreq (s : State) (chal : List Byte) : State :=
  let segs := chunksOf 200 certDer.length certDer
  let put := fun (s : State) (pl : List Byte) =>
    ({ s with lnk := { s.lnk with wait := s.lnk.wait ++ [{ ring := 57, dst := 0, cls := clsEnr, bc := true, payload := pl }] } } : State)
  let s := (segs.zip (List.range segs.length)).foldl (fun s (x : List Byte × Nat) =>
    put s (toBytes 1 2 ++ toBytes 1 (x.2 + 1) ++ toBytes 1 segs.length ++ toBytes 8 certId ++ x.1)) s
  let body := toBytes 8 certId ++ chal
  put s (toBytes 1 3 ++ body ++ nodeSign body)

/-- CERTREQ (R298, R378): an unenrolled node answers at most one in 10 s, and stays in the band for 60 s. -/
def execCertreq (f : Frame) (s : State) : Host.Outcome State Fault Refusal := s.clocked fun s =>
  if f.cls.val ≠ clsEnr || typeOf f.payload ≠ 1 then ok s
  else
    let s := s.arrive f
    if !s.heldForLink then ok s
    else if badLength f then ok s.crcErr
    else if f.tag ≠ 0 then ok s.forger
    else if !formOf f then ok s.formErr
    else if s.elapsed s.lnk.certAt (secClocks 10) then
      let s : State := { s with lnk := { s.lnk with certAt := some s.clk.cc, stay := some (s.clk.cc + secClocks 60) } }
      ok (s.answerCertreq ((f.payload.drop 1).take 16)).contend
    else ok s

/-- A CERTSEG or PROOF at an enrolled node (R298, R304). (log 129: DEDUCED, unsafe.) -/
def State.receiveEnr (s : State) (f : Frame) (t : Nat) : State :=
  if f.cls.val ≠ clsEnr || typeOf f.payload ≠ t then s
  else
    let s := s.arrive f
    if !s.linkOn || s.role = roleNone then s
    else if badLength f then s.crcErr
    else if f.tag ≠ 0 then s.forger
    else if !formOf f then s.formErr
    else if !s.flag F.KEY_CFG_ENRRX then s
    else if s.gated then (if s.ringRoom 58 (nrecFor f.payload.length) then s.pushRx f else s)
    else s.takeEnr f.payload

/-- CERTSEG (R298). -/
def execCertseg (f : Frame) (s : State) : Host.Outcome State Fault Refusal := s.clocked fun s => ok (s.receiveEnr f 2)

/-- PROOF (R298). -/
def execProof (f : Frame) (s : State) : Host.Outcome State Fault Refusal := s.clocked fun s => ok (s.receiveEnr f 3)

/-- HELD_BOOT_BAND_SWITCH (R378): an unenrolled held node listens in the next band after 2.0 s, or when a stay has ended. -/
def execHeldBootBandSwitch (s : State) : Host.Outcome State Fault Refusal := s.clocked fun s =>
  if !s.heldForLink then ok s
  else
    let s := match s.lnk.stay with
      | some c => s.advCcTo c
      | none => s.advCcTo (s.lnk.bandAt + secClocks 2)
    ok { s with lnk := { s.lnk with band := (s.lnk.band + 1) % 3, bandAt := s.clk.cc, stay := none } }

/-- FRAME_CHECK_FAILURE (R283, R304): a frame that fails a check, with the FCCHK and the CRC received. A frame that passes
every check is not one, and leaves the state. (log 130: DESIGN CHOICE, safe; log 172: DEDUCED, unsafe.) -/
def execFrameCheckFailure (fc : BitVec 8) (crc : BitVec 32) (f : Frame) (s : State) : Host.Outcome State Fault Refusal := s.clocked fun s =>
  let s0 := s
  let s := s.arrive f
  if !s.linkOn || s.role = roleNone then ok s0
  else if fc.toNat ≠ fcChk f then ok (s.inc F.SLK_CNTB_FCERR)
  else if crc.toNat ≠ crcOf f || badLength f then ok s.crcErr
  else if f.cls.val = clsEnr then
    if f.tag ≠ 0 then ok s.forger else if !formOf f then ok s.formErr else ok s0
  else if f.cls.val = clsKeyx && f.bc then
    match s.kxSender f with
    | (none, s) => ok s
    | (some _, s) => if f.tag ≠ 0 then ok s.forger else if !formOf f || f.src.val = s.addr then ok s.formErr else ok s0
  else
    match s.rxChecks f (formOf f) (q58Records f) with
    | (.accepted, _) => ok s0
    | (_, s) => ok s

end Sys2Proof.Machine
end

