-- ==== Sys2Proof/Machine/Reset.lean ====
section
/-! DEFINITION. The resets: what each source keeps (R11, R149, R187, R340, R352, R365, R372, R373), the march test and the
flash identification of BOOT (R353, R376), and the held state (R378). -/

namespace Sys2Proof.Machine

open Sys2Proof

/-! ### Contents at reset -/

/-- Table 7-6: word and value. -/
def storeReset : List (Nat × Nat) :=
  [(1, 0x8040), (2, 0x8048), (3, 0x8050), (64, 0x4000000001), (65, 0x1000000960), (66, 0x3A0C800000), (67, 0x2000000000)] ++
  [(72, 0x4000000001), (73, 0x1000000000), (74, 0x3200000028), (75, 0), (80, 0x5000000001), (81, 0x1000000FA0)] ++
  [(82, 0x320000001E), (83, 0)]

/-- R187: every group store holds Table 7-6, every other word 0, with clean check bits. -/
def State.writeStores (s : State) : State :=
  let s : State := { s with
    mem := s.mem.filter (fun c => !inShape (c.1 / 5))
    chk := s.chk.filter (fun c => !inShape c.1) }
  (List.range 6).foldl (fun s g =>
    storeReset.foldl (fun (s : State) (p : Nat × Nat) => s.setMemWord (0x4000 + 0x400 * g + p.1) (BitVec.ofNat 40 p.2)) s) s

/-- What a channel keeps over a reset other than power-on (R190, R373). -/
def ValveSt.kept (v : ValveSt) : ValveSt := { tw := v.tw, tb := v.tb, rmLast := v.rmLast }

/-- Registers that a reset other than power-on keeps, wholly or in part: temperatures and stage, RMEAS, MARCHALL. -/
def State.keepRegs (s t : State) : State :=
  let t := (List.range 48).foldl (fun (t : State) n =>
    let t := (t.setFld (F.VDA_CHn_TH_TW n) (s.fld (F.VDA_CHn_TH_TW n))).setFld (F.VDA_CHn_TH_TB n) (s.fld (F.VDA_CHn_TH_TB n))
    (t.setFld (F.VDA_CHn_TH_STAGE n) (s.fld (F.VDA_CHn_TH_STAGE n))).setFld (F.VDA_CHn_RES_RMEAS n)
      (s.fld (F.VDA_CHn_RES_RMEAS n))) t
  let t := t.setFlag F.MIN_CFG_MARCHALL (s.flag F.MIN_CFG_MARCHALL)
  t.setFld F.MOD_RST_RSTCNT (satAdd 16 (s.fld F.MOD_RST_RSTCNT) 1)

/-- BOOT enters step `k` (Table 18-4). -/
def State.bootStep (s : State) (k : Nat) : State :=
  let s := s.setFld F.MOD_BOOT_STEP k
  { s with boot := { s.boot with at_ := s.clk.cc } }

/-- Boot step 001b begins: the binding shows (R412). -/
def State.beginIdent (s : State) : State :=
  let s := s.bootStep 1
  match s.key.owner with
  | some h =>
    ((s.setFlag F.KEY_STAT_BOUND true).setFld F.KEY_OWNIDH_OWNID (h / 2 ^ 224)).setFld F.KEY_OWNIDL_OWNID (h / 2 ^ 192 % 2 ^ 32)
  | none => s

/-- The flash tears what a reset cuts off (R365). -/
def State.tearPort (s : State) : State :=
  let s := s.tearCommit s.led.stage
  match s.ser.job with
  | some j => if j.own = 4 && j.sel = 0 && j.poll then s.flashTornProgram j.at_ j.sent else s
  | none => s

/-- A reset of source `src` (Table 18-2): the state that Table 18-3 leaves. BOOT starts with the march test at a power-on reset,
and at the others with MARCHALL = 1; otherwise with the flash identification. -/
def State.resetTo (s : State) (src : Nat) : State :=
  let s := s.tearPort
  let por := src = 1
  let march := por || s.flag F.MIN_CFG_MARCHALL
  let t : State := {
    flash := s.flash, free := s.free, pending := s.pending
    key := { owner := s.key.owner, epoch := s.key.epoch }
    led := { first := some src } }
  let t := if por then t
    else
      let t : State := { t with
        clk := { cc := s.clk.cc }
        valves := (s.valves.map (fun (p : Nat × ValveSt) => (p.1, p.2.kept))).filter (fun p => p.2 ≠ {})
        gnb := { nav := s.gnb.nav, pos := s.gnb.pos } }
      s.keepRegs t
  let t := t.setFld F.MOD_RST_RSTSRC src
  let t : State := { t with boot := { start := t.clk.cc, march := march, halted := src = 6 || (s.boot.halted && !por) } }
  if march then t
  else
    let t : State := { t with
      mem := s.mem, chk := s.chk.filter (fun c => inWindow c.1)
      spent := s.queues.flatMap (fun q => q.2.recs.reverse) ++ s.spent }
    t.writeStores.beginIdent

/-- POWER_ON_RESET (R372). -/
def execPowerOnReset (s : State) : Host.Outcome State Fault Refusal := ok (s.resetTo 1)

/-- BROWNOUT_RESET (R372, R433). -/
def execBrownoutReset (s : State) : Host.Outcome State Fault Refusal := ok (s.resetTo 2)

/-- EXTERNAL_RESET (R372). -/
def execExternalReset (s : State) : Host.Outcome State Fault Refusal := ok (s.resetTo 3)

/-- WATCHDOG_RESET (R372). -/
def execWatchdogReset (s : State) : Host.Outcome State Fault Refusal := ok (s.resetTo 4)

/-- CLOCK_FAILURE_RESET (R372): reset is held until the clock recovers. -/
def execClockFailureReset (s : State) : Host.Outcome State Fault Refusal := ok (s.resetTo 6)

/-- CLOCK_RECOVERY (R372): the reset of a clock failure is released, and BOOT starts. (log 145: DEDUCED, unsafe.) -/
def execClockRecovery (s : State) : Host.Outcome State Fault Refusal :=
  if s.boot.halted then ok { s with boot := { s.boot with halted := false, start := s.clk.cc } } else ok s

/-! ### Held BOOT (R378) -/

/-- BOOT is held for reason `why`. -/
def State.holdBoot (s : State) (why : Nat) : State :=
  let s := ((s.setFld F.MOD_BOOT_STEP 7).setFld F.MOD_BOOT_HOLDWHY why).setFlag F.MOD_STAT_HELD true
  ({ s with lnk := { s.lnk with band := 0, bandAt := s.clk.cc, stay := none } } : State).nextJob

/-! ### March test and identification (R351 to R353, R376) -/

/-- Core clocks of the march test: 1,966,080 operations of 12 (R351). -/
def marchClocks : Nat := 1966080 * 12

/-- MARCH_TEST_COMPLETE (R351, R353, R187): `rows` and `bytes` are the rows and snapshot bytes that failed, in the order found.
(log 138: DESIGN CHOICE, safe.) -/
def execMarchTestComplete (rows bytes : List Nat) (s : State) : Host.Outcome State Fault Refusal := s.clocked fun s =>
  if !s.boot.march then ok s
  else
    let s := s.advCcTo (s.boot.start + marchClocks)
    let s : State := { s with boot := { s.boot with march := false } }
    let s := (s.setFlag F.MIN_STAT_MTRAN true).writeStores
    let rows := (rows.filter (fun r => r < sramRows)).eraseDups
    let bytes := (bytes.filter (fun b => b < snapSize)).eraseDups
    let n := rows.length + bytes.length
    if n = 0 then ok s.beginIdent
    else
      let (k, s) := if rows ≠ [] ∧ bytes ≠ [] then s.draw 2 else (b2n (rows = []), s)
      let s := (s.setFlag F.MIN_STAT_MTFAIL true).setFld F.MIN_STAT_MTWORDS (min (2 ^ 24 - 1) n)
      let s := (s.setFlag F.MIN_MTADDR_SNAP (k = 1)).setFld F.MIN_MTADDR_ROW (if k = 1 then bytes.headD 0 else rows.headD 0)
      ok ((s.report srcMarch 0).holdBoot 6)

/-- FLASH_IDENTIFICATION (R361, R376): 9Fh and three bytes with the reset profile. -/
def execFlashIdentification (id : BitVec 24) (s : State) : Host.Outcome State Fault Refusal := s.clocked fun s =>
  if s.fld F.MOD_BOOT_STEP ≠ 1 || s.modeNow ≠ modeBoot then ok s
  else
    let s := (s.advCc (tenNs (8 * (2 + 2 * 4 * 8 + 2)))).inc F.SER_PP_STAT_TRANS
    let s := s.setFld F.SER_PP_JEDEC_ID id.toNat
    let c := id.toNat % 256
    if id.toNat = 0 || id.toNat = 0xFFFFFF then ok (s.holdBoot 1)
    else if c < 0x17 || c > 0x1F then ok (s.holdBoot 2)
    else ok (s.bootStep 2)

end Sys2Proof.Machine
end

