-- ==== Sys2Proof/Machine/HostIo.lean ====
section
/-! DEFINITION. Host writes and reads of the address space, whatever path makes them (R10 to R14, R285, R325, R369, R408 to
R414, R422): what each register does at a write beside keeping its fields, and the windows. -/

namespace Sys2Proof.Machine

open Sys2Proof

/-- What became of a write (Table 12-11): taken; unimplemented address; no writable field; in a block closed to the link;
ignored under a rule that sets an error flag; ignored by a window that sets none. -/
inductive Wr where
  | done | unimplemented | readOnly | barred | flagged | silent
deriving DecidableEq, Repr

/-- Who writes: a host path, or the image loader. -/
abbrev Writer := Option Path

/-- Producer key and SRC of a writer of EVS_PUSHS and EVS_PUSHC (R125). -/
def Writer.prod (p : Writer) : Nat × Nat :=
  match p with
  | some .link => (2, 2)
  | some (.mover n) => (8 + n, 3)
  | _ => (1, 1)

/-- The requester shown for an SRAM access of a path (Table 16-4). -/
def pathReq (p : Path) : Nat :=
  match p with
  | .service => reqService
  | .link => reqLink
  | .mover _ => reqMover

/-! ### Windows (R118, R186, R409) -/

/-- A store of group `g` may be written: in the core clock before, none of its channels was in PULL, HOLD or CLOSING (R186). -/
def State.storeFree (s : State) (g : Nat) : Bool :=
  (List.range 8).all (fun i => let c := s.chStWas (8 * g + i); c != stPull && c != stHold && c != stClosing)

/-- The active bank holds word address `a` (R118). -/
def State.inActiveBank (s : State) (a : Nat) : Bool :=
  s.plan.active && bankBase (s.fld F.PLN_MAP_BANK) ≤ a && a < bankBase (s.fld F.PLN_MAP_BANK) + 0x4000

/-- A write to a window. -/
def State.writeWindow (s : State) (a : Nat) (v : Word) : Wr × State :=
  if inShape a then
    let g := (a - 0x4000) / 0x400
    if s.storeFree g then (.done, s.sramWrite a v)
    else (.flagged, (s.raise (F.VDA_Gg_SEQ_WRERR g)).inc (F.VDA_Gg_SEQ_WRREJ g))
  else if inMap a && !s.inActiveBank a then (.done, s.sramWrite a v)
  else (.silent, s)

/-! ### Registers with effects of their own -/

/-- EVS_Qn_CTL (R135, R136, R138): EN = 1 enables, FLUSH = 1 or EN = 0 flushes. In BOOT every queue stays OFF and empty: a
flush discards what is in assembly and is complete at once. (log 42: DEDUCED, unsafe; log 147: DEDUCED, unsafe.) -/
def State.writeQueueCtl (s : State) (q : Nat) (v : Word) : State :=
  let en := bitOf v.toNat 2
  let fl := bitOf v.toNat 0
  let s := s.setFlag (F.EVS_Qn_CTL_EN q) en
  if s.modeNow = modeBoot then (if fl || !en then ((s.setFld (F.EVS_Qn_CTL_DROPW q) 0).dropPartials q).raise (F.EVS_Qn_CTL_FLDONE q) else s)
  else
    let x := s.queue q
    let s := if en && (x.st = .off || x.st = .safe) then s.setQueue q { x with st := .run }
      else if en && x.st = .flush then s.setQueue q { x with toSafe := false } else s
    if fl || !en then s.flush q (q < 48 && s.chOpen q) false else s.flow

/-- EVS_Qn_CFG (R128): a RES that would make the sum exceed the store is not taken. (log 150: DEDUCED, unsafe.) -/
def State.writeQueueCfg (s : State) (q : Nat) (v : Word) : State :=
  let sum := ((List.range 64).map (fun k => if k = q then bitsOf v.toNat 16 2 else s.fld (F.EVS_Qn_CFG_RES k))).sum
  let v := if sum > 16384 then putBits v (F.EVS_Qn_CFG_RES q) (s.fld (F.EVS_Qn_CFG_RES q)) else v
  s.setReg (F.EVS_Qn_CFG_w q).addr v

/-- VDA_CHn_CFG (R146): PAIR of an even channel is taken only with both channels OFF in COMMISSION or HOLD (image writes are
taken as in HOLD, R422); the other fields are stored.
(log 140: DEDUCED, unsafe; log 150: DEDUCED, unsafe; log 170: DEDUCED, unsafe.) -/
def State.writeChannelCfg (s : State) (w : Writer) (n : Nat) (v : Word) : Wr × State :=
  let old := s.fld (F.VDA_CHn_CFG_PAIR n)
  let keep := putBits v (F.VDA_CHn_CFG_PAIR n) old
  if n % 2 = 1 then (.done, s.setReg (F.VDA_CHn_CFG_w n).addr keep)
  else if bitsOf v.toNat 5 4 = old then (.done, s.setReg (F.VDA_CHn_CFG_w n).addr v)
  else
    let mode := s.modeNow = modeCommission || s.modeNow = modeHold || w = none
    if mode && s.chSt n = stOff && s.fld (F.VDA_CHn_STAT_STATE (n + 1)) = stOff then
      (.done, s.setReg (F.VDA_CHn_CFG_w n).addr v)
    else (.flagged, (s.setReg (F.VDA_CHn_CFG_w n).addr keep).raise (F.VDA_CHn_CFG_PAIRERR n))

/-- VDA_CHn_LRN (R201): the values written replace the estimates, and their counts become 2^GAIN; an estimate that the learner
has updated in this core clock stays (R14). -/
def State.writeLearn (s : State) (n : Nat) (v : Word) : State :=
  let hold := s.fresh (F.VDA_CHn_LRN_w n).addr
  let s := s.setReg (F.VDA_CHn_LRN_w n).addr v
  let g := 2 ^ max 1 (s.fld (F.VDA_CHn_LRN_GAIN n))
  let s := if bitOf hold (F.VDA_CHn_LRN_LOPEN n).lo then s
    else ((s.modValve n (fun x => { x with lo := s.fld (F.VDA_CHn_LRN_LOPEN n) * 256 })).setFld (F.VDA_CHn_LSTAT_NO n) g).judgeBand n true
  if bitOf hold (F.VDA_CHn_LRN_LCLOSE n).lo then s
  else ((s.modValve n (fun x => { x with lc := s.fld (F.VDA_CHn_LRN_LCLOSE n) * 256 })).setFld (F.VDA_CHn_LSTAT_NC n) g).judgeBand n false

/-- TRV_ENn_CFG (R51): in 24 V mode BREAK reads 0. -/
def State.writeEncCfg (s : State) (n : Nat) (v : Word) : State :=
  let s := s.setReg (F.TRV_ENn_CFG_w n).addr v
  if s.flag (F.TRV_ENn_CFG_ELEC n) then
    (s.setFlag (F.TRV_ENn_CFG_BREAK n) false).setEnc n { s.encOf n with brkFrom := none }
  else s

/-- FSV_SRCs_CFG (R400): with ACTLOCK a host write keeps ACT and sets CFGERR when it differs; the loader is not bound. -/
def State.writeSourceCfg (s : State) (w : Writer) (k : Nat) (v : Word) : Wr × State :=
  let act := s.fld (F.FSV_SRCs_CFG_ACT k)
  let a := (F.FSV_SRCs_CFG_w k).addr
  if w ≠ none && s.modeNow ≠ modeBoot && s.flag (F.FSV_SRCs_LIM_ACTLOCK k) && bitsOf v.toNat 15 13 ≠ act then
    (.flagged, (s.setReg a (putBits v (F.FSV_SRCs_CFG_ACT k) act)).raise F.FSV_STAT_CFGERR)
  else (.done, s.setReg a v)

/-- A write of a register whose operation may set error flag `f`: it fails when the operation sets the flag. -/
def State.probe (s : State) (f : Fld) (op : State → State) : Wr × State :=
  let t := op (s.setFlag f false)
  if t.flag f then (.flagged, t) else (.done, t.setFlag f (s.flag f))

/-- GNB_CFG: leaving continuous tracking frees the channels (R117, Table 4-9).
(log 112: DEDUCED, unsafe; log 151: DEDUCED, unsafe.) -/
def State.writeGnssCfg (s : State) (v : Word) : State :=
  let was := s.tracking
  let s := s.setReg F.GNB_CFG_w.addr v
  if was && !s.tracking then s.gnssOff else s

/-- TRV_BIAS (R68): the change is a correction. -/
def State.writeBias (s : State) (v : Word) : State :=
  let c := dist v.toNat (s.fld F.TRV_BIAS_BIAS)
  if c = 0 then s else (s.setFld F.TRV_BIAS_BIAS v.toNat).correct c

/-- TRV_DCm (R453): a changed EN or ANTI applies from the next sample, which starts the comparison afresh.
(log 141: DEDUCED, unsafe.) -/
def State.writeDual (s : State) (m : Nat) (v : Word) : State :=
  let f := fun (s : State) => (s.flag (F.TRV_DCm_EN m), s.flag (F.TRV_DCm_ANTI m))
  let was := f s
  let s := s.setReg (F.TRV_DCm_w m).addr v
  if f s = was then s else { s with ms := { s.ms with restart := spSet (fun _ => false) s.ms.restart m true } }

/-- MOD_CMD (R380, R389): a command for the next tick; with the clocks gated, one that names another mode wakes the node. -/
def State.writeModCmd (s : State) (v : Word) : State :=
  let t := bitsOf v.toNat 2 0
  if s.gated then
    if t = modeDormant then s else ({ s with mode := { s.mode with wakeCmd := some t } } : State).wake
  else { s with mode := { s.mode with cmds := s.mode.cmds ++ [t] } }

/-! ### Block-mover channels (R332, R336, R337) -/

/-- A channel the host may not start or load: D0 in BOOT, and the ledger's. -/
def State.movOwned (s : State) (n : Nat) : Bool := (s.modeNow = modeBoot && n = 0) || n = s.fld F.LDG_CFG_DCH

/-- Channel `n` begins the descriptor in W0 to W3, fetched from word address `at_` if any. -/
def State.beginDesc (s : State) (n : Nat) (at_ : Option Nat) (stop : Bool) : State :=
  let s := (s.setFld (F.BMV_Dn_DONE_BYTES n) 0).setFld (F.BMV_Dn_DONE_RETRY n) 0
  let res := (s.precheck n (s.desc n)).map (fun r => (r, 0))
  (s.setMov n { at_ := at_, stop := stop, res := res }).nextJob

/-- BMV_Dn_CTL: START, then STOP. -/
def State.writeMovCtl (s : State) (n : Nat) (v : Word) : Wr × State :=
  let bad := s.movOwned n || s.movRuns n
  let start := bitOf v.toNat 0
  let s := if !start then s
    else if bad then s.raise (F.BMV_Dn_CTL_STERR n)
    else (s.setFld (F.BMV_Dn_CTL_STATE n) mvRun).beginDesc n none false
  let s := if bitOf v.toNat 1 && s.movRuns n then s.setMov n { s.movOf n with stop := true } else s
  (if start && bad then .flagged else .done, s)

/-- A write of W0 to W3. -/
def State.writeMovWord (s : State) (n a : Nat) (v : Word) : Wr × State :=
  if s.movOwned n || s.movRuns n then (.flagged, s.raise (F.BMV_Dn_CTL_STERR n)) else (.done, s.setReg a v)

/-! ### The diagnostic path (R350) -/

/-- The parity bits of a word's five bytes. -/
def parBits (w : Word) : Nat :=
  (List.range 5).foldr (fun k x => b2n (parityOf 8 (w.toNat / 256 ^ k)) + 2 * x) 0

/-- MIN_DCTL: WRITE, then READ. -/
def State.writeDiag (s : State) (v : Word) : Wr × State :=
  let wr := bitOf v.toNat 0
  let rd := bitOf v.toNat 1
  let a := s.fld F.MIN_DADDR_ADDR
  if !wr && !rd then (.done, s)
  else if !(s.modeNow = modeBoot || s.modeNow = modeCommission || s.modeNow = modeHold) || !inSram a then
    (.flagged, s.raise F.MIN_DCTL_DERR)
  else
    let d := s.reg F.MIN_DDATA_w.addr
    let s := if wr then s.sramPut a d ((s.fld F.MIN_DCHK_PAR ^^^ parBits d) + 32 * s.fld F.MIN_DCHK_POIS) else s
    let s := if rd then
        let (d, c) := s.sramData a
        ((s.update F.MIN_DDATA_DATA d.toNat).update F.MIN_DCHK_PAR (c % 32 ^^^ parBits d)).update F.MIN_DCHK_POIS (c / 32)
      else s
    (.done, s)

/-! ### Raw transfers (R362, R363) -/

/-- Bits of a raw unit: 4 to 32. -/
def State.rawBits (s : State) : Nat := max 3 (s.fld F.SER_PP_RAW_UNITM1) + 1

/-- The rule of R362 for a raw transfer on P0 outside BOOT. -/
def State.rawAllowed (s : State) : Bool :=
  s.fld F.SER_PP_RAW_SEL ≠ 0 || s.modeNow = modeBoot ||
    (8 ≤ s.rawBits && [0x03, 0x0B, 0x05, 0x9F, 0x06, 0x04].contains
      (bitsOf (s.fld (F.SER_PP_TXk_TX 0)) (s.rawBits - 1) (s.rawBits - 8)))

/-- SER_PP_RAW: GO. -/
def State.writeRaw (s : State) (v : Word) : Wr × State :=
  if !bitOf v.toNat 0 then (.done, s)
  else
    let why := if s.flag F.SER_PP_RAW_BUSY then 1 else if !s.rawAllowed then 2 else if s.modeNow = modeDormant then 3 else 0
    if why ≠ 0 then (.flagged, (s.raise F.SER_PP_STAT_RAWERR).setFld F.SER_PP_STAT_RAWWHY why)
    else (.done, (s.setFlag F.SER_PP_RAW_BUSY true).nextJob)

/-! ### Every write -/

/-- A write to the implemented register of row `r` at address `a`: `v` is the word written and `x` the stored word with the
writable fields replaced; W1C flags are already cleared. (log 46: DEDUCED, unsafe; log 165: DEDUCED, unsafe.) -/
def State.writeReg (s : State) (p : Writer) (r : RegRow) (a : Nat) (v x : Word) : Wr × State :=
  let i := r.idx a
  let fine := fun (t : State) => (Wr.done, t)
  match r.reg with
  | .SYS_HEAD_CTL => s.probe F.SYS_HEAD_STAT_HOERR (fun s => s.writeHandover v)
  | .MOD_CMD => fine (s.writeModCmd v)
  | .MOD_RSTCMD =>
    if bitsOf v.toNat 15 0 = 0xC35A && p ≠ none then fine (s.resetTo (if p = some .link then 7 else 5)) else fine s
  | .FSV_CLR => fine { s with flt := { s.flt with clears := s.flt.clears ++ [v.toNat % 8192] } }
  | .FSV_SRCs_CFG => s.writeSourceCfg p (a - 0x140) x
  | .TRV_CFG => fine (if bitOf x.toNat F.TRV_CFG_KIND.lo then (s.setReg a x).setFld F.TRV_TURNS_TURNS 0 else s.setReg a x)
  | .TRV_SRC => fine { s.setReg a x with trv := { s.trv with priPend := true } }
  | .TRV_ENn_CFG => fine (s.writeEncCfg i x)
  | .TRV_OFFSET => fine (s.newOffset v.toNat)
  | .TRV_BIAS => fine (s.writeBias v)
  | .TRV_DCm => fine (s.writeDual i x)
  | .PLN_MAP => fine (s.writeMap v)
  | .EVS_PUSHS => fine (s.pushStart (Writer.prod p).1 (Writer.prod p).2 v 0)
  | .EVS_PUSHC => fine (s.pushCont (Writer.prod p).1 (Writer.prod p).2 v 0)
  | .EVS_Qn_CFG => fine (s.writeQueueCfg ((a - 0x640) / 4) x)
  | .EVS_Qn_CTL => fine (s.writeQueueCtl i v)
  | .VDA_CHn_CFG => s.writeChannelCfg p i x
  | .VDA_CHn_STAT => fine (if bitOf v.toNat 8 then s.safeClr i else s)
  | .VDA_CHn_LRN => fine (s.writeLearn i x)
  | .VDA_CHn_LBAND => fine (((s.setReg a x).judgeBand i true).judgeBand i false)
  | .CTL_x_CFG => s.probe (F.CTL_x_STAT_CFGERR r.sub) (fun s => s.writeStageCfg r.sub x)
  | .CTL_x_MOj => s.probe (F.CTL_x_STAT_CFGERR r.sub) (fun s => s.writeGuarded r.sub (F.CTL_x_MOj_SRC r.sub i) x)
  | .CTL_x_UDk => s.probe (F.CTL_x_STAT_CFGERR r.sub) (fun s => s.writeGuarded r.sub (F.CTL_x_UDk_DEST r.sub i) x)
  | .CTL_TRCb_CTL => fine (s.writeTraceCtl i v)
  | .CTL_INJ_CTL => s.probe F.CTL_INJ_STAT_INJERR (fun s => s.writeInjCtl v)
  | .GNB_CFG => fine (s.writeGnssCfg x)
  | .GNB_ANCH => fine (if bitOf v.toNat 16 then s.setGnb { s.gnb with reanchor := true } else s)
  | .GNB_SNAPREQ => fine (s.writeSnapReq v)
  | .SLK_CFG =>
    fine (s.setReg a (if s.flag F.SLK_CFG_EN then putBits x F.SLK_CFG_BAND (s.fld F.SLK_CFG_BAND) else x))
  | .SLK_HCMD => fine (s.writeHcmd v)
  | .BMV_Dn_CTL => s.writeMovCtl i v
  | .BMV_Dn_W0 | .BMV_Dn_W1 | .BMV_Dn_W2 | .BMV_Dn_W3 => s.writeMovWord i a v
  | .MIN_DCTL => s.writeDiag v
  | .SER_PP_RAW => (s.setReg a x).writeRaw v
  | .LDG_CTL => fine (if bitOf v.toNat 0 then s.trigger rsnHost else s)
  | .LDG_LIMz => fine ((s.sramWrite a v).trigger rsnLimit)
  | .LDG_MLIMIT =>
    let s := s.setReg a v
    fine ((if v.toNat > s.fld F.LDG_MUSE_MUSE then s.setFlag F.LDG_MSTAT_MEXH false else s).trigger rsnLimit).judgeMachine
  | .KEY_CMD => fine (s.writeKeyCmd v)
  | _ => fine (if sramReg a then s.sramWrite a x else s.setReg a x)

/-- The SLK block, closed to link writes, and the KEY block, closed to the link (R285, R287, R408). -/
def inSlk (a : Nat) : Bool := 0x1600 ≤ a && a < 0x1700
def inKey (a : Nat) : Bool := 0x1900 ≤ a && a < 0x1A00

/-- The registers of the travel inputs and of speed: an access to them looks at what the filters have accepted (R50).
(log 179: DESIGN CHOICE, unsafe.) -/
def inInputs (a : Nat) : Bool := 0x220 ≤ a && a < 0x250

/-- A write as it meets what hardware has done to the register in this core clock (R14): the fields that hardware has updated
keep their value, and the flags that it has set are not cleared; a field that is only written triggers its action. -/
def State.afterHardware (s : State) (r : RegRow) (a : Nat) (v : Word) : Word :=
  let hold := s.fresh a &&& (r.rw ||| r.w1c)
  if hold = 0 then v
  else BitVec.ofNat 40 (v.toNat - (v.toNat &&& hold) + ((s.reg a).toNat &&& (hold &&& r.rw)))

/-- Whether a write has completed in its core clock (R451): it was taken, or refused with an error flag. -/
def Wr.acted (w : Wr) : Bool := w = .done || w = .flagged

/-- A write of `v` to word address `a`. The inputs' filters first accept what is due (R57). -/
def State.hostWrite (s : State) (p : Writer) (a : Nat) (v : Word) : Wr × State :=
  if p = some .link && (inSlk a || inKey a) then (.barred, s)
  else match regAt a with
  | some r =>
    if r.rw = 0 && r.w1c = 0 && r.wo = 0 then (.readOnly, s)
    else
      let s := if inInputs a then (List.range 4).foldl (fun s n => s.settle n s.clk.cc) s else s
      let v := s.afterHardware r a v
      let old := (s.reg a).toNat
      let kept := old - (old &&& (v.toNat &&& r.w1c))
      let s := if r.w1c = 0 then s else s.setReg a (BitVec.ofNat 40 kept)
      let (w, s) := s.writeReg p r a v (BitVec.ofNat 40 (kept - (kept &&& r.rw) + (v.toNat &&& r.rw)))
      (w, if w.acted then s.completed else s)
  | none =>
    if inWindow a then
      let (w, s) := s.writeWindow a v
      (w, if w.acted then s.completed else s)
    else (.unimplemented, s.addrFault)

/-- A write by a host path, as a command. -/
def State.write (s : State) (p : Path) (a : Nat) (v : Word) : State := (s.hostWrite (some p) a v).2

/-! ### Every read -/

/-- The rings that EVS_POP may consume. -/
def popRing (q : Nat) : Bool := q = 59 || q = 61 || q = 62 || q = 63

/-- Take the next word of the head item of ring `q` (R137): data and poison, none when the ring is empty. The item is
released after its last word. -/
def State.popWord (s : State) (q req : Nat) : Option (Word × Bool) × State :=
  match s.items q with
  | [] => (none, s)
  | rs :: _ =>
    let k := (s.queue q).popped
    match rs[k / 3]? with
    | none => (none, (s.release q rs.length).setQueue q { (s.release q rs.length).queue q with popped := 0 })
    | some r =>
      let (w, p, s) := s.sramRead (0x10000 + 3 * r.slot + k % 3) req
      if k + 1 ≥ 3 * rs.length then
        let s := s.release q rs.length
        (some (w, p), (s.setQueue q { s.queue q with popped := 0 }).flow)
      else (some (w, p), s.setQueue q { s.queue q with popped := k + 1 })

/-- A read of word address `a` (R414): data, poison, whether the address is unimplemented, and the state after its side
effects. -/
def State.hostRead (s : State) (p : Path) (a : Nat) : Word × Bool × Bool × State :=
  if p = .link && inKey a then (0, false, false, s)
  else match regAt a with
  | some r =>
    let s := if inInputs a then s.settleAll else s
    if sramReg a then
      let (w, pois, s) := s.sramRead a (pathReq p)
      (w, pois, false, s)
    else match r.reg with
      | .EVS_POP =>
        let q := s.fld F.EVS_POPSEL_Q
        if popRing q then
          match s.popWord q (pathReq p) with
          | (some (w, pois), s) => (w, pois, false, s)
          | (none, s) => (0, false, false, s)
        else (0, false, false, s)
      | .LDG_RDDATA =>
        let (w, s) := s.readLedger
        (w, false, false, s)
      | .KEY_CERTDAT => (s.regView a, false, false, s.update F.KEY_CERTRD_PTR (s.fld F.KEY_CERTRD_PTR + 4))
      | _ => (s.regView a, false, false, s)
  | none =>
    if inWindow a then
      let (w, pois, s) := s.sramRead a (pathReq p)
      (w, pois, false, s)
    else (0, false, true, s.addrFault)

/-- The effect of a service-port read made for its side effect and for MIN_FLAGS.SPPOIS (R347). -/
def State.readBy (s : State) (p : Path) (a : Nat) : State :=
  let (_, pois, _, s) := s.hostRead p a
  if pois && p = .service then s.raise F.MIN_FLAGS_SPPOIS else s

end Sys2Proof.Machine
end

