-- ==== Sys2Proof/Machine/Image.lean ====
section
/-! DEFINITION. The configuration image: its layout in flash, the checks of pass 1, the owner signature and the binding, and
the application of the records in pass 2 (chapter 21; R295, R296, R376, R377, R400, R420 to R428). -/

namespace Sys2Proof.Machine

open Sys2Proof

/-! ### Layout in flash (R416, R418) -/

/-- The number in `n` bytes of the flash from address `a` (R6, R416). -/
def State.imgN (s : State) (a n : Nat) : Nat := ofBytes (s.flashRead a n)

/-- IMGLEN. -/
def State.imgLen (s : State) : Nat := s.imgN 6 4

/-- A record: type, flags, and the address and length of its body. -/
structure ImgRec where
  typ : Nat
  flags : Nat
  body : Nat
  len : Nat
deriving DecidableEq, Repr

/-- The record whose header stands at byte `p`. -/
def State.imgRec (s : State) (p : Nat) : ImgRec :=
  { typ := s.imgN p 1, flags := s.imgN (p + 1) 1, body := p + 5, len := s.imgN (p + 2) 3 }

/-- The byte after a record. -/
def ImgRec.next (r : ImgRec) : Nat := r.body + r.len

/-- The words of a REGS or WINDOW record with their addresses (R422, R423). -/
def State.imgWords (s : State) (r : ImgRec) : List (Nat × Word) :=
  (List.range (s.imgN (r.body + 3) 2)).map (fun i =>
    (s.imgN r.body 3 + i, BitVec.ofNat 40 (s.imgN (r.body + 5 + 5 * i) 5)))

/-- The entries of a LIMITS record: address and value (R424). -/
def State.imgLimits (s : State) (r : ImgRec) : List (Nat × Nat) :=
  (List.range (s.imgN r.body 1)).map (fun i => (s.imgN (r.body + 1 + 8 * i) 3, s.imgN (r.body + 4 + 8 * i) 5))

/-- Word `i` of a MAP record; 0 past its NW words (R425). -/
def State.imgMap (s : State) (r : ImgRec) (i : Nat) : Word :=
  if i < s.imgN r.body 3 then BitVec.ofNat 40 (s.imgN (r.body + 3 + 5 * i) 5) else 0

/-- The CERTIDs of a RELEASE record. (log 157: DEDUCED, unsafe.) -/
def State.imgReleases (s : State) (r : ImgRec) : List Nat :=
  (List.range (s.imgN r.body 1)).map (fun i => s.imgN (r.body + 1 + 8 * i) 8)

/-- The ENROLL record, whose place the order of records fixes. -/
def State.imgEnroll (s : State) : ImgRec := s.imgRec 85

/-- The entries of ENROLL (R296). -/
def State.imgEntries (s : State) : List Entry :=
  let b := s.imgEnroll.body + 5
  (List.range (s.imgN (b - 1) 1)).map (fun i =>
    let e := b + 74 * i
    { certid := s.imgN e 8, pub := s.imgN (e + 8) 64, addr := s.imgN (e + 72) 1, headcap := s.imgN (e + 73) 1 % 2 = 1 })

/-! ### What pass 1 requires of each record (R418 to R425) -/

/-- The header: MAGIC, FMTMAJ and the limits on IMGLEN (Table 21-1, R417). (log 156: DEDUCED, unsafe.) -/
def State.headerOk (s : State) : Bool :=
  let c := s.fld F.SER_PP_JEDEC_ID % 256
  s.imgN 0 4 = 0x4A534F4C && s.imgN 4 1 = 1 && 16 ≤ s.imgLen && s.imgLen + 64 ≤ 2 ^ c && s.imgLen + 64 ≤ 2 ^ 24

/-- The image limit of R417 for a slot address. (log 146: DEDUCED, unsafe; log 156: DEDUCED, unsafe.) -/
def State.slotOk (s : State) (a : Nat) : Bool :=
  a % 4096 = 0 && s.imgLen + 64 ≤ a && a + 4096 ≤ 2 ^ (s.fld F.SER_PP_JEDEC_ID % 256) && a + 4096 ≤ 2 ^ 24

/-- ENROLL (R420). -/
def State.enrollOk (s : State) : Bool :=
  let r := s.imgEnroll
  let n := s.imgN (r.body + 4) 1
  let es := s.imgEntries
  let heads := (es.filter (·.headcap)).length
  let uniq := fun (l : List Nat) => l.eraseDups.length = l.length
  r.len = 5 + 74 * n && 1 ≤ n && n ≤ 64 && es.all (fun e => e.addr ≤ 63) &&
    (List.range n).all (fun i => s.imgN (r.body + 5 + 74 * i + 73) 1 ≤ 1) && 1 ≤ heads && heads ≤ 2 &&
    decide (uniq (es.map (·.addr))) && decide (uniq (es.map (·.pub))) && decide (uniq (es.map (·.certid)))

/-- A word that a REGS record may write at address `a` (R422). (log 156: DEDUCED, unsafe.) -/
def regsWordOk (a : Nat) (v : Word) : Bool :=
  match regAt a with
  | some r => !(r.rw = 0 && r.w1c = 0 && r.wo = 0) && (v.toNat &&& r.wo) = 0
  | none => inWindow a

/-- The fields that a LIMITS entry may set, as a mask (Table 21-3). -/
def limitMask (a : Nat) : Option Nat :=
  if 0x0C02 ≤ a && a ≤ 0x0C02 + 4 * 47 && (a - 0x0C02) % 4 = 0 then some 0xFF
  else if a = 0x1327 then some (2 ^ 40 - 1)
  else if 0x0180 ≤ a && a ≤ 0x01AA then some (2 ^ 40 - 2 ^ 15)
  else if a = 0x1804 || a = 0x1805 then some (2 ^ 32 - 1)
  else none

/-- The bank that a MAP record forms is valid (R118, R425). (log 156: DEDUCED, unsafe.) -/
def State.imgMapOk (s : State) (r : ImgRec) : Bool :=
  let w := fun i => (s.imgMap r i).toNat
  let h := hdrOf w
  headerValid w &&
    crc32 (bytesOfWords ((List.range 4).map (s.imgMap r) ++
      (List.range (h.ncell * h.nzone)).map (fun i => s.imgMap r (8 + i)))) = bitsOf (w 4) 31 0

/-- The scope of a MAP record, over the addresses of the enrolled nodes. -/
def State.mapScope (s : State) : Nat :=
  (s.imgEntries.filter (fun e => bitOf s.boot.scope e.addr)).foldl (fun m e => m ||| 2 ^ e.addr) 0

/-- Whether the node's own address lies in the scope in force (R419). -/
def State.inScope (s : State) : Bool :=
  match s.boot.own with
  | some e => bitOf s.boot.scope e.addr
  | none => false

/-- Where a record of type `t` may stand, given the types before it, newest first (R419, Table 21-2). -/
def placeOk (types : List Nat) (t : Nat) : Bool :=
  if types.isEmpty then t == 1
  else if types == [1] then t == 2
  else if t = 1 || t = 2 then false
  else if t = 3 || t = 4 then !types.contains t && types.all (fun x => 1 ≤ x && x ≤ 4)
  else true

/-- The content of a record (Table 21-2, R420 to R425). -/
def State.contentOk (s : State) (r : ImgRec) : Bool :=
  match r.typ with
  | 0x01 => r.len = 64
  | 0x02 => s.enrollOk
  | 0x03 => r.len = 128 && 16384 ≤ s.imgLen
  | 0x04 => r.len = 1 + 8 * s.imgN r.body 1
  | 0x05 => r.len = 8
  | 0x10 =>
    let n := s.imgN (r.body + 3) 2
    r.len = 5 + 5 * n && 1 ≤ n && n ≤ 1024 && (s.imgWords r).all (fun p => regsWordOk p.1 p.2)
  | 0x11 =>
    let n := s.imgN (r.body + 3) 2
    r.len = 5 + 5 * n && 1 ≤ n && n ≤ 1024 && (s.imgWords r).all (fun p => inShape p.1)
  | 0x12 => r.len = 1 + 8 * s.imgN r.body 1 && (s.imgLimits r).all (fun p => (limitMask p.1).isSome)
  | 0x13 =>
    let n := s.imgN r.body 3
    r.len = 3 + 5 * n && 8 ≤ n && n ≤ 16384 && s.boot.maps.all (fun m => (m &&& s.mapScope) = 0) && s.imgMapOk r
  | 0x7E => true
  | _ => r.flags < 128

/-- Check 3 of Table 21-4 for one record. (log 156: DEDUCED, unsafe.) -/
def State.recOk (s : State) (r : ImgRec) : Bool :=
  r.next ≤ s.imgLen && r.flags % 128 = 0 && placeOk s.boot.types r.typ && s.contentOk r

/-- What pass 1 keeps of a record that passes. -/
def State.noteRec (s : State) (r : ImgRec) : State :=
  let b := s.boot
  let b := { b with types := r.typ :: b.types, pos := r.next }
  let b : BootSt := match r.typ with
    | 0x02 => { b with own := s.imgEntries.find? (fun e => e.pub = nodePub && e.certid = certId) }
    | 0x03 => { b with xat := some r.body }
    | 0x04 => { b with released := (s.imgReleases r).contains certId }
    | 0x05 => { b with scope := s.imgN r.body 8 }
    | 0x12 => if s.inScope then (s.imgLimits r).foldl (fun (b : BootSt) p =>
        if p.1 = 0x1804 then { b with slotA := p.2 % 2 ^ 32 }
        else if p.1 = 0x1805 then { b with slotB := p.2 % 2 ^ 32 } else b) b else b
    | 0x13 => { b with maps := s.mapScope :: b.maps }
    | _ => b
  { s with boot := b }

/-! ### Applying records in pass 2 (R419 to R425) -/

/-- Write `v` in the bits of mask `m` of register `a`, whoever may write them. -/
def State.putMask (s : State) (a m v : Nat) : State :=
  let old := (s.reg a).toNat
  s.setReg a (BitVec.ofNat 40 (old - (old &&& m) + (v &&& m)))

/-- REGS and WINDOW words, up to the first write that a rule ignores with an error flag: whether all were taken. -/
def State.imgWrites (s : State) : List (Nat × Word) → Bool × State
  | [] => (true, s)
  | p :: m =>
    match s.hostWrite none p.1 p.2 with
    | (.flagged, s) => (false, s)
    | (_, s) => State.imgWrites s m

/-- ENROLL (R412, R420): the entries and the system ID; SYS_ROLE and the adoption of the node's own entry follow at the end
of BOOT (R22, Table 18-4). (log 158: DEDUCED, unsafe.) -/
def State.applyEnroll (s : State) : State :=
  ({ s with key := { s.key with entries := s.imgEntries } } : State).setFld F.SYS_SYSID_SYSID (s.imgN s.imgEnroll.body 4)

/-- MAP (R425): words 0 to NW − 1 of bank 0, the rest of the bank 0. -/
def State.applyMap (s : State) (r : ImgRec) : State :=
  let s := (List.range 0x4000).foldl (fun (s : State) i => s.sramWrite (bankBase 0 + i) (s.imgMap r i)) s
  { s with boot := { s.boot with seeded := true } }

/-- One record of pass 2: whether every write was taken. -/
def State.applyRec (s : State) (r : ImgRec) : Bool × State :=
  match r.typ with
  | 0x02 => (true, s.applyEnroll)
  | 0x05 => (true, { s with boot := { s.boot with scope := s.imgN r.body 8 } })
  | 0x10 | 0x11 => if s.inScope then s.imgWrites (s.imgWords r) else (true, s)
  | 0x12 =>
    (true, if s.inScope then (s.imgLimits r).foldl (fun (s : State) p => s.putMask p.1 ((limitMask p.1).getD 0) p.2) s else s)
  | 0x13 => (true, if s.inScope then s.applyMap r else s)
  | _ => (true, s)

/-! ### The two passes (R377, R427) -/

/-- Let the pass run until it has read the first `n` bytes: 1.3025 µs each. -/
def State.readTo (s : State) (n : Nat) : State := s.advCcTo (s.boot.at_ + (n * 13025 * 2 ^ 27 + 10 ^ 10 - 1) / 10 ^ 10)

/-- The image is refused after `n` bytes of a pass, whose transactions are counted. -/
def State.refuseImage (s : State) (n : Nat) : State :=
  ((s.readTo n).incBy F.SER_PP_STAT_TRANS ((n + 255) / 256)).holdBoot 3

/-- A pass that has read nothing yet reads the header, which pass 1 checks (checks 1 and 2 of Table 21-4). -/
def State.openPass (s : State) : State :=
  if s.boot.pos ≠ 0 then s
  else if s.fld F.MOD_BOOT_STEP = 2 && !s.headerOk then s.refuseImage 16
  else { s.readTo 16 with boot := { s.boot with pos := 16, scope := 2 ^ 64 - 1 } }

/-- Whether a pass is in progress. -/
def State.inPass (s : State) : Bool :=
  s.modeNow = modeBoot && (s.fld F.MOD_BOOT_STEP = 2 || s.fld F.MOD_BOOT_STEP = 4)

/-- Pass 1 over the next record (check 3 of Table 21-4), or pass 2 over it: the record is applied. -/
def State.passRec (s : State) : State :=
  let r := s.imgRec s.boot.pos
  if s.fld F.MOD_BOOT_STEP = 2 then
    if s.recOk r then (s.readTo r.next).noteRec r else s.refuseImage (min s.imgLen r.next)
  else if r.next ≤ s.imgLen then
    match (s.readTo r.next).applyRec r with
    | (true, s) => { s with boot := { s.boot with pos := r.next } }
    | (false, s) => s.refuseImage r.next
  else s.refuseImage s.imgLen

/-- A record command: the pass handles the record at its position when that record's type is one of `ts`.
(log 159: DESIGN CHOICE, safe.) -/
def State.stepRec (s : State) (ts : Nat → Bool) : State :=
  if !s.inPass then s
  else
    let s := s.openPass
    if s.inPass && s.boot.pos < s.imgLen && ts (s.imgRec s.boot.pos).typ then s.passRec else s

/-- The records that a pass has still to read, with fuel. -/
def State.restOf : Nat → State → State
  | 0, s => s
  | n + 1, s => if s.inPass && s.boot.pos < s.imgLen then State.restOf n s.passRec else s

/-- A pass up to its last record. (log 159: DESIGN CHOICE, safe.) -/
def State.runPass (s : State) : State := let s := s.openPass; State.restOf (s.imgLen / 5 + 1) s

/-- OWNER_RECORD (R418). -/
def execOwnerRecord (s : State) : Host.Outcome State Fault Refusal := s.clocked fun s => ok (s.stepRec (· == 0x01))

/-- ENROLL_RECORD (R420). -/
def execEnrollRecord (s : State) : Host.Outcome State Fault Refusal := s.clocked fun s => ok (s.stepRec (· == 0x02))

/-- XFER_RECORD (R421). -/
def execXferRecord (s : State) : Host.Outcome State Fault Refusal := s.clocked fun s => ok (s.stepRec (· == 0x03))

/-- RELEASE_RECORD (R421). -/
def execReleaseRecord (s : State) : Host.Outcome State Fault Refusal := s.clocked fun s => ok (s.stepRec (· == 0x04))

/-- SCOPE_RECORD (R419). -/
def execScopeRecord (s : State) : Host.Outcome State Fault Refusal := s.clocked fun s => ok (s.stepRec (· == 0x05))

/-- REGS_RECORD (R422). -/
def execRegsRecord (s : State) : Host.Outcome State Fault Refusal := s.clocked fun s => ok (s.stepRec (· == 0x10))

/-- WINDOW_RECORD (R423). -/
def execWindowRecord (s : State) : Host.Outcome State Fault Refusal := s.clocked fun s => ok (s.stepRec (· == 0x11))

/-- LIMITS_RECORD (R424). -/
def execLimitsRecord (s : State) : Host.Outcome State Fault Refusal := s.clocked fun s => ok (s.stepRec (· == 0x12))

/-- MAP_RECORD (R425). -/
def execMapRecord (s : State) : Host.Outcome State Fault Refusal := s.clocked fun s => ok (s.stepRec (· == 0x13))

/-- PAD_RECORD (R418): a PAD, or a record of a type that Table 21-2 does not list. -/
def execPadRecord (s : State) : Host.Outcome State Fault Refusal := s.clocked fun s =>
  ok (s.stepRec (fun t => !([0x01, 0x02, 0x03, 0x04, 0x05, 0x10, 0x11, 0x12, 0x13].contains t)))

/-- IMAGE_PASS_1 (R377, R417, R427): the pass runs to its end, and the node goes on to the signature. -/
def execImagePass1 (s : State) : Host.Outcome State Fault Refusal := s.clocked fun s =>
  if !(s.modeNow = modeBoot && s.fld F.MOD_BOOT_STEP = 2) then ok s
  else
    let s := s.runPass
    if s.fld F.MOD_BOOT_STEP ≠ 2 then ok s
    else
      let n := s.imgLen
      let slots := s.slotOk s.boot.slotA && s.slotOk s.boot.slotB && s.boot.slotA ≠ s.boot.slotB
      if s.boot.types.length < 2 || (s.boot.own.isSome && !slots) then ok (s.refuseImage (n + 64))
      else
        let s := (s.readTo (n + 64)).incBy F.SER_PP_STAT_TRANS ((n + 64 + 255) / 256)
        ok (({ s with boot := { s.boot with image := s.flashRead 0 (n + 64), pos := 0 } } : State).bootStep 3)

/-- Whether the binding admits the OWNER key (R295, check 5 of Table 21-4): none when it does not, else the hash to bind, if any,
and whether an XSIG is to verify. (log 157: DEDUCED, unsafe.) -/
def State.bindCheck (s : State) : Option (Option Nat × Bool) :=
  let h := sha256 ((s.boot.image.drop 21).take 64)
  match s.key.owner, s.boot.xat with
  | none, _ => some (some h, false)
  | some b, x =>
    if h = b then some (none, false)
    else match x with
      | some p => if sha256 ((s.boot.image.drop p).take 64) = b then some (some h, true) else none
      | none => none

/-- OWNER_SIGNATURE_CHECK (R295, R306, R426, R427): at most 20 ms for the checks 4 to 7 of Table 21-4.
(log 139: DESIGN CHOICE, safe.) -/
def execOwnerSignatureCheck (s : State) : Host.Outcome State Fault Refusal := s.clocked fun s =>
  if !(s.modeNow = modeBoot && s.fld F.MOD_BOOT_STEP = 3) then ok s
  else
    let (d, s) := s.draw (msClocks 20)
    let s := s.advCcTo (s.boot.at_ + d + 1)
    let n := s.boot.image.length - 64
    if !verifySig (bytesAt s.boot.image 21 64) (s.boot.image.take n) (bytesAt s.boot.image n 64) then ok (s.holdBoot 3)
    else match s.bindCheck with
      | none => ok (s.holdBoot 3)
      | some (b, x) =>
        if s.boot.released then
          let s : State := { s with key := { s.key with owner := none } }
          ok ((((s.setFlag F.KEY_STAT_BOUND false).setFld F.KEY_OWNIDH_OWNID 0).setFld F.KEY_OWNIDL_OWNID 0).holdBoot 5)
        else if s.boot.own.isNone then ok (s.holdBoot 4)
        else ok (({ s with boot := { s.boot with bind := b, xfer := x, pos := 0 } } : State).bootStep 4)

/-- IMAGE_PASS_2 (R377, R421, R426, R427): the remaining records are applied; the hash must equal that of pass 1, and the XSIG of
a transfer must verify. -/
def execImagePass2 (s : State) : Host.Outcome State Fault Refusal := s.clocked fun s =>
  if !(s.modeNow = modeBoot && s.fld F.MOD_BOOT_STEP = 4) then ok s
  else
    let s := s.runPass
    if s.fld F.MOD_BOOT_STEP ≠ 4 then ok s
    else
      let img := s.boot.image
      let n := img.length - 64
      let p := s.boot.xat.getD 0
      let xsig := !s.boot.xfer || verifySig (bytesAt img p 64)
        ("JASOL XFER".toList.map (fun c => BitVec.ofNat 8 c.toNat) ++ shaBytes ((img.drop 21).take 64)) (bytesAt img (p + 64) 64)
      if sha256 (s.flashRead 0 s.imgLen) ≠ sha256 (img.take n) || !xsig then ok (s.refuseImage (n + 64))
      else
        let s := (s.readTo (n + 64)).incBy F.SER_PP_STAT_TRANS ((n + 64 + 255) / 256)
        ok (s.bootStep 5)

end Sys2Proof.Machine
end

