-- ==== Sys2Proof/Machine/Boot.lean ====
section
/-! DEFINITION. The ledger scan and the end of BOOT (R22, R119, R138, R216, R260, R265, R266, R310, R312, R374, R375, R379, R392,
R428, R429, R437). -/

namespace Sys2Proof.Machine

open Sys2Proof

/-! ### The ledger scan (R265, R266) -/

/-- A valid record of slot `k`: its bytes. -/
def State.slotRecord (s : State) (k : Nat) : Option (List Byte) :=
  let a := s.slotAddr k
  let nz := s.imgN (a + 3) 1
  if s.imgN (a + 4092) 4 = 0x5AC33CA5 && s.imgN a 2 = 0x4C44 && s.imgN (a + 2) 1 = 1 && nz ≤ 64 &&
      s.imgN (a + 78) 8 = certId &&
      verifySig nodePub (s.flashRead a (86 + 17 * nz)) (s.imgN (a + 86 + 17 * nz) 64) then
    some (s.flashRead a (150 + 17 * nz))
  else none

/-- SEQ of a record. -/
def recSeqOf (b : List Byte) : Nat := bytesAt b 4 4

/-- The slot and the bytes of the record to load: the highest SEQ, slot A when both are equal.
(log 48: DESIGN CHOICE, safe.) -/
def State.bestSlot (s : State) : Option (Nat × List Byte) :=
  match s.slotRecord 0, s.slotRecord 1 with
  | some a, some b => some (if recSeqOf b > recSeqOf a then (1, b) else (0, a))
  | some a, none => some (0, a)
  | none, some b => some (1, b)
  | none, none => none

/-- Load a record (R265). (log 146: DEDUCED, unsafe.) -/
def State.loadRecord (s : State) (k : Nat) (b : List Byte) : State :=
  let s := (List.range 64).foldl (fun (s : State) z =>
    let (v, e, l) := (zoneEntry b z).getD (0, 0, mod40 - 1)
    let s := (s.sramWrite (F.LDG_VOLz_w z).addr (BitVec.ofNat 40 v)).sramWrite (F.LDG_ESTz_w z).addr (BitVec.ofNat 40 e)
    s.sramWrite (F.LDG_LIMz_w z).addr (BitVec.ofNat 40 l)) s
  let s := (s.setFld F.LDG_CF_CF (bytesAt b 30 4)).setFld F.LDG_CFDAY_DAY (bytesAt b 34 2)
  let s := (s.setFld F.LDG_MUSE_MUSE (bytesAt b 36 5)).setFld F.LDG_MLIMIT_MLIMIT (bytesAt b 41 5)
  let s := (s.setFld F.LDG_SEQ_SEQ (recSeqOf b)).setFld F.LDG_STAT_LAST k
  s.setLed { s.led with seq := recSeqOf b, last := b, prev := (s.slotRecord (1 - k)).getD [] }

/-- LEDGER_SCAN (R265, R266, R306, R429): at most 60 ms. (log 139: DESIGN CHOICE, safe.) -/
def execLedgerScan (s : State) : Host.Outcome State Fault Refusal := s.clocked fun s =>
  if !(s.modeNow = modeBoot && s.fld F.MOD_BOOT_STEP = 5) then ok s
  else
    let (d, s) := s.draw (msClocks 60)
    let s := s.advCcTo (s.boot.at_ + d + 1)
    let s := s.setFld F.LDG_RAW_RAW 0
    let s := match s.bestSlot with
      | some (k, b) => (s.loadRecord k b).setFld F.LDG_STAT_BOOTRES 0
      | none =>
        let blank := [0, 1].all (fun k => (s.flashRead (s.slotAddr k) 4096).all (· == 0xFF#8))
        let s := (s.setFld F.LDG_CF_CF 0x1000000).setFld F.LDG_SEQ_SEQ 0
        let s := (List.range 64).foldl (fun (s : State) z =>
          (s.sramWrite (F.LDG_VOLz_w z).addr 0).sramWrite (F.LDG_ESTz_w z).addr 0) s
        let s := s.setLed { s.led with seq := 0, last := [], prev := [], genesis := blank, restart := !blank }
        let s := s.setFld F.LDG_STAT_BOOTRES (if blank then 1 else 2)
        if blank then s else s.report srcLedRestart 0
    ok (s.bootStep 6)

/-! ### The end of BOOT -/

/-- The binding of an accepted image is stored (R428), and the binding shows. -/
def State.storeBinding (s : State) : State :=
  match s.boot.bind with
  | none => s
  | some h =>
    let s : State := { s with key := { s.key with owner := some h } }
    ((s.setFlag F.KEY_STAT_BOUND true).setFld F.KEY_OWNIDH_OWNID (h / 2 ^ 224)).setFld F.KEY_OWNIDL_OWNID (h / 2 ^ 192 % 2 ^ 32)

/-- The prescription banks (R374). -/
def State.chooseBank (s : State) : State :=
  if s.boot.seeded then
    let (v, s) := s.checkBank 0
    s.activate 0 v
  else if s.flag F.MIN_STAT_MTRAN then s.activate 0 false
  else
    match s.checkBank 0 with
    | (true, s) => s.activate 0 true
    | (false, s) =>
      match s.checkBank 1 with
      | (true, s) => s.activate 1 true
      | (false, s) => s.activate 0 false

/-- R138: every queue is enabled and runs. -/
def State.openQueues (s : State) : State :=
  (List.range 64).foldl (fun (s : State) q =>
    (s.update (F.EVS_Qn_CTL_EN q) 1).setQueue q { s.queue q with st := .run }) s

/-- R392: each stage drives SAFE raw; an output that no stage names stays at 0. (log 85: DEDUCED, unsafe.) -/
def State.outputsUp (s : State) : State := (List.range 3).foldl State.driveSafe s

/-- The mode after BOOT and whether DEFPEND and LIMPPEND are set (R379).
(log 80: DEDUCED, unsafe; log 162: DEDUCED, unsafe.) -/
def State.firstMode (s : State) : Nat × Bool × Bool :=
  let m := s.fld F.MOD_CFG_DEFMODE
  let limp := s.flt.due.any (fun d => d.act == 4)
  if limp || s.flt.due.any DueAct.holds then (modeHold, false, limp)
  else if m = modePrescribe then (modeHold, true, false)
  else if m = modeUniform || m = modeDormant then (m, false, false)
  else (modeHold, false, false)

/-- The node leaves BOOT (R371, R379, R384). (log 162: DEDUCED, unsafe.) -/
def State.leaveBoot (s : State) : State :=
  let (m, defp, limp) := s.firstMode
  let s := ((s.setFld F.MOD_STAT_PREV modeBoot).setFld F.MOD_STAT_MODE m).setFld F.MOD_STAT_CAUSE 0
  let s := (s.setFlag F.MOD_STAT_DEFPEND defp).setFlag F.MOD_STAT_LIMPPEND (limp || s.flag F.MOD_STAT_LIMPPEND)
  let s : State := { s with
    flt := { s.flt with due := s.flt.due.filter (fun d => !(d.holds || d.act == 4)) }
    mode := { s.mode with holdFrom := s.clk.cc } }
  let s := s.stagesForMode.startPlan (s.planKind m)
  if m = modeDormant then s.beginDormant else s

/-- The node adopts its entry (R22, R296, Table 18-4). (log 158: DEDUCED, unsafe.) -/
def State.adoptEntry (s : State) : State :=
  match s.boot.own with
  | some e => ((s.setFld F.SYS_ROLE_ADDR e.addr).setFlag F.SYS_ROLE_HEADCAP e.headcap).setFlag F.KEY_STAT_ENROLLED true
  | none => s

/-- The role after BOOT, and on a head-capable node the arbitration (R22, R310, R312). (log 158: DEDUCED, unsafe.) -/
def State.takeRole (s : State) : State :=
  let s := s.adoptEntry
  let s := (s.setFld F.SYS_ROLE_ROLE roleSpan).setFld F.SYS_HEAD_EPOCH_EPOCH s.key.epoch
  if !s.flag F.SYS_ROLE_HEADCAP then s
  else match s.otherHead with
    | none => s.takeover
    | some p =>
      let w := if s.addr < p then 1500 else 2500
      ({ s with hd := { s.hd with arb := some (s.clk.cc + msClocks w) } } : State).startKx p true

/-- END_OF_BOOT (R375, R379, R427): bit k of `aiMode` is 1 when AIkM senses current mode (R437).
(log 139: DESIGN CHOICE, safe.) -/
def execEndOfBoot (aiMode : BitVec 8) (s : State) : Host.Outcome State Fault Refusal := s.clocked fun s =>
  if !(s.modeNow = modeBoot && s.fld F.MOD_BOOT_STEP = 6) then ok s
  else
    let (d, s) := s.draw (msClocks 1)
    let s := s.advCcTo (s.boot.at_ + d + 1)
    let ms := freeRound 70 (((s.clk.cc - s.boot.start) * 1000 : Nat) : Int) (2 ^ 27)
    let s := s.setFld F.MOD_BOOT_BOOTT (min 65535 ms.toNat)
    let s : State := { s with ctl := { s.ctl with aiMode := aiMode.toNat } }
    let s := (s.trigger rsnBoot).storeBinding.chooseBank.openQueues.outputsUp.leaveBoot.takeRole
    ok (if s.led.pend && s.led.stage = 0 then s.startCommit else s).nextJob

end Sys2Proof.Machine
end

