-- ==== Sys2Proof/Machine/Coil.lean ====
section
/-! DEFINITION. The coil thermal model and its derating stages (R188 to R196). -/

namespace Sys2Proof.Machine

open Sys2Proof

/-- One step of the two-node model over `dt` seconds at winding power `p` in W (R188). A heat capacity or thermal
resistance of 0 leaves the result open: a free temperature. (log 24: DESIGN CHOICE, safe.) -/
def State.thermalStep (s : State) (n : Nat) (tw tb dt p : Rat) : Rat × Rat × State :=
  let cw := s.fld (F.VDA_CHn_TPAR_CW n)
  let cb := s.fld (F.VDA_CHn_TPAR_CB n)
  let rwb := s.fld (F.VDA_CHn_TPAR_RWB n)
  let rba := s.fld (F.VDA_CHn_TPAR_RBA n)
  if cw = 0 || cb = 0 || rwb = 0 || rba = 0 then
    let (a, s) := s.draw 65536
    let (b, s) := s.draw 65536
    (((a : Int) - 32768 : Int) / 16, ((b : Int) - 32768 : Int) / 16, s)
  else
    let flow := (tw - tb) / ((rwb : Rat) / 10)
    (tw + dt / ((cw : Rat) / 10) * (p - flow), tb + dt / (cb : Rat) * (flow - (tb - s.ambient) / ((rba : Rat) / 10)), s)

/-- The limit in force (R196). -/
def State.tLim (s : State) (n : Nat) : Nat := min (s.fld (F.VDA_CHn_TLIM_TLIM n)) (s.fld (F.VDA_CHn_TLIM_TLIMX n))

/-- The stage at winding temperature `tw` from stage `k` with limit `l` (Table 8-1). -/
def stageAt (l : Nat) (tw : Rat) (k : Nat) : Nat :=
  let up := if tw ≥ (l : Rat) + 20 then 3 else if tw ≥ (l : Rat) + 10 then 2 else if tw ≥ l then 1 else 0
  if up ≥ k then up
  else
    let d3 := if k = 3 && tw < (l : Rat) + 15 then 2 else k
    let d2 := if d3 = 2 && tw < (l : Rat) + 5 then 1 else d3
    if d2 = 1 && tw < (l : Rat) - 5 then 0 else d2

/-- Entry to stage 3 (R195). -/
def State.overTemp (s : State) (n : Nat) : State :=
  let st := s.chSt n
  let s := s.raise (F.VDA_CHn_TH_OTF n)
  let s :=
    if st = stPull || st = stHold then
      if s.isBridge n then ((s.tellClosed n).dropOdet n).startSafe n srcCoilHot true else (s.turnOff n).tellClosed n
    else s
  s.report srcCoilHot n

/-- The derating stage at a model update (R194, R195). -/
def State.judgeStage (s : State) (n : Nat) (tw : Rat) : State :=
  let k := s.fld (F.VDA_CHn_TH_STAGE n)
  let k' := stageAt (s.tLim n) tw k
  let s := s.setFld (F.VDA_CHn_TH_STAGE n) k'
  if k' = 3 && k ≠ 3 then s.overTemp n else s

/-- One update of channel `n` (R188, R190, R193 to R195). `gated` updates once a second with p = 0. The first update after
the BOOT of a power-on reset sets both temperatures, whatever EN says.
(log 24: DESIGN CHOICE, safe; log 25: DESIGN CHOICE, unsafe; log 32: DEDUCED, unsafe; log 167: DEDUCED, unsafe.) -/
def State.modelOne (s : State) (n : Nat) : State :=
  let v := s.valve n
  let i2 : Rat := if v.qcnt = 0 then ((s.fldI (F.VDA_CHn_CUR_CUR n)).natAbs ^ 2 : Nat)
    else (v.qsum : Rat) / v.qcnt
  let s := s.setValve n { v with qsum := 0, qcnt := 0 }
  if s.isOddOfPair n then s
  else
    match v.tw, v.tb with
    | some tw, some tb =>
      if !s.flag (F.VDA_CHn_TH_EN n) then s.modValve n (fun v => { v with rmPend := none }) else
      let r20 := s.fld (F.VDA_CHn_TLIM_R20 n)
      let (tw, v) := match v.rmPend with
        | some r =>
          let tw' := if r20 = 0 then tw else
            tw + (20 + ((r : Rat) / r20 - 1) / (393 / 100000) - tw) / (2 ^ s.fld (F.VDA_CHn_TH_CORR n) : Nat)
          (tw', { s.valve n with rmPend := none })
        | none => (tw, s.valve n)
      let s := s.setValve n v
      let p : Rat := if s.gated then 0 else i2 / 10 ^ 6 * (rCu r20 tw / 100)
      let (tw, tb, s) := s.thermalStep n tw tb (if s.gated then 1 else 1 / 1000) p
      let s := s.modValve n (fun v => { v with tw := some tw, tb := some tb })
      let s := s.setFldI (F.VDA_CHn_TH_TW n) (satS 16 (freeRound 23 (tw * 16).num (tw * 16).den))
      let s := s.setFldI (F.VDA_CHn_TH_TB n) (satS 16 (freeRound 24 (tb * 16).num (tb * 16).den))
      s.judgeStage n tw
    | _, _ =>
      if s.modeNow = modeBoot then s
      else
        let s := s.modValve n (fun v => { v with tw := some s.ambient, tb := some s.ambient })
        let s := (s.setFldI (F.VDA_CHn_TH_TW n) (s.fldI F.VDA_TAMB_TAMB)).setFldI (F.VDA_CHn_TH_TB n) (s.fldI F.VDA_TAMB_TAMB)
        if s.flag (F.VDA_CHn_TH_EN n) then s.judgeStage n s.ambient else s

/-- MODEL_UPDATE (R188): the next 1 ms instant, or the next whole second in DORMANT (R190). -/
def execModelUpdate (s : State) : Host.Outcome State Fault Refusal := s.clocked fun s =>
  let s := s.takeInstant clsModel (if s.gated then 2 ^ 20 else 1024) 0
  ok ((List.range 48).foldl (fun s n => s.modelOne n) s)

/-- AMBIENT_SENSOR_WRITE (R188): every 1 s, with SRC = 0, the node writes TAMB from its air sensor. -/
def execAmbientSensorWrite (t : Int) (s : State) : Host.Outcome State Fault Refusal := s.clocked fun s =>
  let s := s.takeInstant clsAmbient (2 ^ 20) 0
  if s.flag F.VDA_TAMB_SRC then ok s else ok (s.update F.VDA_TAMB_TAMB (wrapW 16 (satS 16 t)))

end Sys2Proof.Machine
end

