-- ==== Sys2Proof/Machine/HostCmds.lean ====
section
/-! DEFINITION. The commands that are one host write or read: each makes the access on its path, with the bit that names the
command set (or cleared) in the word given. The frame that carries an access over the service port or the link is a command
of its own. -/

namespace Sys2Proof.Machine

open Sys2Proof

/-- A word with bit `i` set to `b`. (log 148: DESIGN CHOICE, safe.) -/
def bitAs (v : Word) (i : Nat) (b : Bool) : Word := putBits v ⟨0, i, i⟩ (b2n b)

/-! ### Reset, modes and faults -/

/-- HOST_COMMAND_RESET (R372). -/
def execHostCommandReset (p : Path) (v : Word) (s : State) : Host.Outcome State Fault Refusal := s.clocked fun s => ok (s.write p 0x111 v)

/-- A write of MOD_CMD with TARGET `t` (R380). (log 148: DESIGN CHOICE, safe.) -/
def State.command (s : State) (p : Path) (t : Nat) : State := s.write p 0x101 (BitVec.ofNat 40 t)

/-- BOOT_COMMAND (R380). (log 79: DEDUCED, unsafe.) -/
def execBootCommand (p : Path) (s : State) : Host.Outcome State Fault Refusal := s.clocked fun s => ok (s.command p modeBoot)
/-- DORMANT_COMMAND (R380). -/
def execDormantCommand (p : Path) (s : State) : Host.Outcome State Fault Refusal := s.clocked fun s => ok (s.command p modeDormant)
/-- COMMISSION_COMMAND (R380). -/
def execCommissionCommand (p : Path) (s : State) : Host.Outcome State Fault Refusal := s.clocked fun s => ok (s.command p modeCommission)
/-- PRESCRIBE_COMMAND (R380). -/
def execPrescribeCommand (p : Path) (s : State) : Host.Outcome State Fault Refusal := s.clocked fun s => ok (s.command p modePrescribe)
/-- UNIFORM_COMMAND (R380). -/
def execUniformCommand (p : Path) (s : State) : Host.Outcome State Fault Refusal := s.clocked fun s => ok (s.command p modeUniform)
/-- FERTIGATE_COMMAND (R380, R381). -/
def execFertigateCommand (p : Path) (s : State) : Host.Outcome State Fault Refusal := s.clocked fun s => ok (s.command p modeFertigate)
/-- HOLD_COMMAND (R380). -/
def execHoldCommand (p : Path) (s : State) : Host.Outcome State Fault Refusal := s.clocked fun s => ok (s.command p modeHold)
/-- LIMP_COMMAND (R380). -/
def execLimpCommand (p : Path) (s : State) : Host.Outcome State Fault Refusal := s.clocked fun s => ok (s.command p modeLimp)

/-- FAULT_CLEAR (R402): the write of FSV_CLR, and its evaluation at the next system time that is a multiple of 1,024 tb; that
of a dual-channel input is left to the MS_SAMPLE of the same instant. (log 19: DEDUCED, unsafe.) -/
def execFaultClear (v : Word) (s : State) : Host.Outcome State Fault Refusal := s.clocked fun s =>
  let s := s.write .service 0x121 v
  ok (s.advTo ((s.now / 1024 * 1024 + 1024) % mod40)).evalPlainClears

/-- FAULT_CONFIG_WRITE (R400). -/
def execFaultConfigWrite (k : Fin 64) (v : Word) (s : State) : Host.Outcome State Fault Refusal := s.clocked fun s =>
  ok (s.write .service (0x140 + k) v)

/-! ### Queues and the planner -/

/-- PUSH_START (R125). -/
def execPushStart (p : Path) (v : Word) (s : State) : Host.Outcome State Fault Refusal := s.clocked fun s => ok (s.write p 0x601 v)
/-- PUSH_CONTINUE (R125). -/
def execPushContinue (p : Path) (v : Word) (s : State) : Host.Outcome State Fault Refusal := s.clocked fun s => ok (s.write p 0x602 v)
/-- RING_POP (R137, R414). -/
def execRingPop (p : Path) (s : State) : Host.Outcome State Fault Refusal := s.clocked fun s => ok (s.readBy p 0x607)
/-- QUEUE_FLUSH (R135): FLUSH = 1; EN is as the word gives it. -/
def execQueueFlush (q : Fin 64) (v : Word) (s : State) : Host.Outcome State Fault Refusal := s.clocked fun s =>
  ok (s.write .service (0x642 + 4 * q) (bitAs v 0 true))
/-- QUEUE_DISABLE (R138): EN = 0. -/
def execQueueDisable (q : Fin 64) (v : Word) (s : State) : Host.Outcome State Fault Refusal := s.clocked fun s =>
  ok (s.write .service (0x642 + 4 * q) (bitAs v 2 false))
/-- QUEUE_ENABLE (R136, R138): EN = 1 without a flush. -/
def execQueueEnable (q : Fin 64) (v : Word) (s : State) : Host.Outcome State Fault Refusal := s.clocked fun s =>
  ok (s.write .service (0x642 + 4 * q) (bitAs (bitAs v 2 true) 0 false))
/-- MAP_SWAP_ARM (R140). -/
def execMapSwapArm (v : Word) (s : State) : Host.Outcome State Fault Refusal := s.clocked fun s => ok (s.write .service 0x403 (bitAs v 1 true))

/-! ### Travel -/

/-- INDEX_ARM (R57): a write of TRV_ENn_CFG. -/
def execIndexArm (n : Fin 4) (v : Word) (s : State) : Host.Outcome State Fault Refusal := s.clocked fun s => ok (s.write .service (0x230 + 8 * n) v)
/-- PRIMARY_SOURCE_WRITE (R67). -/
def execPrimarySourceWrite (v : Word) (s : State) : Host.Outcome State Fault Refusal := s.clocked fun s => ok (s.write .service 0x220 v)
/-- TRV_OFFSET_WRITE (R45). -/
def execTrvOffsetWrite (v : Word) (s : State) : Host.Outcome State Fault Refusal := s.clocked fun s => ok (s.write .service 0x212 v)
/-- TRV_BIAS_WRITE (R68). -/
def execTrvBiasWrite (v : Word) (s : State) : Host.Outcome State Fault Refusal := s.clocked fun s => ok (s.write .service 0x226 v)
/-- DUAL_CHANNEL_CONFIG_WRITE (R453). -/
def execDualChannelConfigWrite (m : Fin 4) (v : Word) (s : State) : Host.Outcome State Fault Refusal := s.clocked fun s =>
  ok (s.write .service (0x260 + m) v)

/-! ### GNSS -/

/-- ANCHOR_WRITE (R99). -/
def execAnchorWrite (v : Word) (s : State) : Host.Outcome State Fault Refusal := s.clocked fun s => ok (s.write .service 0x1415 (bitAs v 16 true))
/-- LOCAL_SNAPSHOT_REQUEST (R117). -/
def execLocalSnapshotRequest (v : Word) (s : State) : Host.Outcome State Fault Refusal := s.clocked fun s => ok (s.write .service 0x141A v)
/-- ZEROCAL (R114): a write of GNB_GEOCFG. -/
def execZerocal (v : Word) (s : State) : Host.Outcome State Fault Refusal := s.clocked fun s => ok (s.write .service 0x141B (bitAs v 28 true))

/-! ### Valves -/

/-- LATENCY_ESTIMATE_WRITE (R201). -/
def execLatencyEstimateWrite (n : Fin 48) (v : Word) (s : State) : Host.Outcome State Fault Refusal := s.clocked fun s =>
  ok (s.write .service (0xD00 + 4 * n) v)
/-- LATENCY_BAND_WRITE (R199). -/
def execLatencyBandWrite (n : Fin 48) (v : Word) (s : State) : Host.Outcome State Fault Refusal := s.clocked fun s =>
  ok (s.write .service (0xD01 + 4 * n) v)
/-- SAFECLR (R164). -/
def execSafeclr (n : Fin 48) (v : Word) (s : State) : Host.Outcome State Fault Refusal := s.clocked fun s =>
  ok (s.write .service (0x885 + 8 * n) (bitAs v 8 true))
/-- PAIR_WRITE (R146). -/
def execPairWrite (n : Fin 48) (v : Word) (s : State) : Host.Outcome State Fault Refusal := s.clocked fun s => ok (s.write .service (0x880 + 8 * n) v)
/-- SHAPE_STORE_WRITE (R186). -/
def execShapeStoreWrite (p : Path) (g : Fin 6) (w : Fin 1024) (v : Word) (s : State) : Host.Outcome State Fault Refusal := s.clocked fun s =>
  ok (s.write p (0x4000 + 0x400 * g + w) v)

/-! ### The control engine -/

/-- FREEZE (R221): a write of CTL_x_CFG. -/
def execFreeze (k : Fin 3) (v : Word) (s : State) : Host.Outcome State Fault Refusal := s.clocked fun s => ok (s.write .service (0x1000 + 0x100 * k) v)
/-- STAGE_ENABLE (R223): a write of CTL_x_CFG. -/
def execStageEnable (k : Fin 3) (v : Word) (s : State) : Host.Outcome State Fault Refusal := s.clocked fun s =>
  ok (s.write .service (0x1000 + 0x100 * k) v)
/-- COEFFICIENT_WRITE (R226). -/
def execCoefficientWrite (p : Path) (k : Fin 3) (r : Fin 10) (c : Fin 14) (v : Word) (s : State) :
    Host.Outcome State Fault Refusal := s.clocked fun s =>
  ok (s.write p (0x1040 + 0x100 * k + 0x10 * r + c) v)
/-- STRUCTURE_FIELD_WRITE (R225): a write of a register that holds one of those fields. -/
def execStructureFieldWrite (p : Path) (a : BitVec 24) (v : Word) (s : State) : Host.Outcome State Fault Refusal := s.clocked fun s =>
  match regAt a.toNat with
  | some r =>
    if r.reg = .CTL_x_CFG || r.reg = .CTL_x_MOj || r.reg = .CTL_x_UDk then ok (s.write p a.toNat v) else ok s
  | none => ok s
/-- TRACE_ARM (R235). -/
def execTraceArm (b : Fin 2) (v : Word) (s : State) : Host.Outcome State Fault Refusal := s.clocked fun s =>
  ok (s.write .service (0x1344 + 0x20 * b) (bitAs v 0 true))
/-- TRACE_FORCE (R235). -/
def execTraceForce (b : Fin 2) (v : Word) (s : State) : Host.Outcome State Fault Refusal := s.clocked fun s =>
  ok (s.write .service (0x1344 + 0x20 * b) (bitAs v 1 true))
/-- TRACE_STOP (R235). -/
def execTraceStop (b : Fin 2) (v : Word) (s : State) : Host.Outcome State Fault Refusal := s.clocked fun s =>
  ok (s.write .service (0x1344 + 0x20 * b) (bitAs v 2 true))
/-- INJECTION_GO (R239). -/
def execInjectionGo (v : Word) (s : State) : Host.Outcome State Fault Refusal := s.clocked fun s => ok (s.write .service 0x1325 (bitAs v 0 true))
/-- INJECTION_STOP (R242). -/
def execInjectionStop (v : Word) (s : State) : Host.Outcome State Fault Refusal := s.clocked fun s => ok (s.write .service 0x1325 (bitAs v 1 true))

/-! ### The ledger -/

/-- LIMIT_WRITE (R257): a write of LDG_LIMz or LDG_MLIMIT. -/
def execLimitWrite (p : Path) (a : BitVec 24) (v : Word) (s : State) : Host.Outcome State Fault Refusal := s.clocked fun s =>
  match regAt a.toNat with
  | some r => if r.reg = .LDG_LIMz || r.reg = .LDG_MLIMIT then ok (s.write p a.toNat v) else ok s
  | none => ok s
/-- COMMIT_REQUEST (R260). -/
def execCommitRequest (p : Path) (v : Word) (s : State) : Host.Outcome State Fault Refusal := s.clocked fun s => ok (s.write p 0x1803 (bitAs v 0 true))
/-- LEDGER_READ (R414). -/
def execLedgerRead (p : Path) (s : State) : Host.Outcome State Fault Refusal := s.clocked fun s => ok (s.readBy p 0x1807)

/-! ### The link, keys and heads -/

/-- HOST_SEND (R289). -/
def execHostSend (v : Word) (s : State) : Host.Outcome State Fault Refusal := s.clocked fun s => ok (s.write .service 0x1610 (bitAs v 0 true))
/-- CERTREQ_COMMAND (R298). -/
def execCertreqCommand (v : Word) (s : State) : Host.Outcome State Fault Refusal := s.clocked fun s => ok (s.write .service 0x190C (bitAs v 2 true))
/-- REKEY_COMMAND (R301). -/
def execRekeyCommand (v : Word) (s : State) : Host.Outcome State Fault Refusal := s.clocked fun s => ok (s.write .service 0x190C (bitAs v 0 true))
/-- GREKEY_COMMAND (R303). -/
def execGrekeyCommand (v : Word) (s : State) : Host.Outcome State Fault Refusal := s.clocked fun s => ok (s.write .service 0x190C (bitAs v 1 true))
/-- HANDOVER_COMMAND (R322). -/
def execHandoverCommand (v : Word) (s : State) : Host.Outcome State Fault Refusal := s.clocked fun s => ok (s.write .service 0xC (bitAs v 0 true))
/-- CERTIFICATE_READ (R414). -/
def execCertificateRead (p : Path) (s : State) : Host.Outcome State Fault Refusal := s.clocked fun s => ok (s.readBy p 0x190A)

/-! ### Block mover, memory and ports -/

/-- DESCRIPTOR_START (R332). -/
def execDescriptorStart (n : Fin 8) (v : Word) (s : State) : Host.Outcome State Fault Refusal := s.clocked fun s =>
  ok (s.write .service (0x1710 + 8 * n) (bitAs v 0 true))
/-- CHAIN_STOP (R336). -/
def execChainStop (n : Fin 8) (v : Word) (s : State) : Host.Outcome State Fault Refusal := s.clocked fun s =>
  ok (s.write .service (0x1710 + 8 * n) (bitAs (bitAs v 0 false) 1 true))
/-- PATROL_ENABLE (R355): a write of MIN_CFG. -/
def execPatrolEnable (v : Word) (s : State) : Host.Outcome State Fault Refusal := s.clocked fun s => ok (s.write .service 0x1780 v)
/-- DIAGNOSTIC_WRITE (R350). -/
def execDiagnosticWrite (v : Word) (s : State) : Host.Outcome State Fault Refusal := s.clocked fun s => ok (s.write .service 0x178B (bitAs v 0 true))
/-- DIAGNOSTIC_READ (R350). -/
def execDiagnosticRead (v : Word) (s : State) : Host.Outcome State Fault Refusal := s.clocked fun s => ok (s.write .service 0x178B (bitAs v 1 true))
/-- RAW_TRANSFER_GO (R363). -/
def execRawTransferGo (v : Word) (s : State) : Host.Outcome State Fault Refusal := s.clocked fun s => ok (s.write .service 0x17C8 (bitAs v 0 true))
/-- REGISTER_WRITE (R10 to R14): a write to any word address. (log 148: DESIGN CHOICE, safe.) -/
def execRegisterWrite (p : Path) (a : BitVec 24) (v : Word) (s : State) : Host.Outcome State Fault Refusal := s.clocked fun s =>
  ok (s.write p a.toNat v)

end Sys2Proof.Machine
end

