-- ==== Sys2Proof/Machine/LinkExec.lean ====
section
/-! DEFINITION. The link processor: it executes WRITE and READ items from Q58 (R285, R287, R291, R349). -/

namespace Sys2Proof.Machine

open Sys2Proof

/-- The item at the head of Q58, when the link processor may take it: outside BOOT and with the clocks running. -/
def State.rxHead (s : State) (c : Nat) : Option (List Rec) :=
  if s.gated || s.mode.waking || s.modeNow = modeBoot then none
  else match s.items 58 with
    | rs :: _ => if (itemOf rs).cls = c then some rs else none
    | [] => none

/-- Whether some word of the item that holds payload bytes `lo` to `hi − 1`, or a header word, was delivered with poison.
(log 149: DEDUCED, unsafe.) -/
def bytesPoisoned (ws : List (Word × Bool)) (lo hi : Nat) : Bool :=
  (ws.take 3).any (fun w => w.2) ||
    (List.range ws.length).any (fun i => (ws.getD i (0, false)).2 && 5 * (i - 3) < hi && lo < 5 * (i - 3) + 5 && 3 ≤ i)

/-- CODE of Table 12-11 for a write that failed; none for one that did not. (log 150: DEDUCED, unsafe.) -/
def Wr.code : Wr → Option Nat
  | .done => none
  | .unimplemented => some 1
  | .readOnly => some 2
  | .barred => some 3
  | .flagged => some 4
  | .silent => some 6

/-- An ERR frame to the sender of a WRITE (Table 12-6). -/
def State.sendErr (s : State) (dst oseq a code idx : Nat) : State :=
  s.pushTx 56 dst clsErr false (toBytes 2 oseq ++ toBytes 3 a ++ toBytes 1 code ++ toBytes 1 idx ++ toBytes 5 s.now)

/-- Write `k` of a WRITE item. A reset by an earlier write has put the node in BOOT: nothing follows it.
(log 149: DEDUCED, unsafe.) -/
def State.linkWriteOne (s : State) (x : Item) (ws : List (Word × Bool)) (k : Nat) : State :=
  if s.modeNow = modeBoot then s
  else
    let a := bytesAt x.payload (8 * k) 3
    if bytesPoisoned ws (8 * k) (8 * k + 8) then s.sendErr x.peer x.seq a 5 k
    else
      let (r, s) := s.hostWrite (some .link) a (BitVec.ofNat 40 (bytesAt x.payload (8 * k + 3) 5))
      match r.code with
      | some c => s.sendErr x.peer x.seq a c k
      | none => s

/-- LINK_WRITE_EXECUTION (R285): the WRITE item at the head of Q58, its writes in payload order. -/
def execLinkWriteExecution (s : State) : Host.Outcome State Fault Refusal := s.clocked fun s =>
  match s.rxHead clsWrite with
  | none => ok s
  | some rs =>
    let x := itemOf rs
    let (ws, s) := s.readItem 58 reqLink rs
    let s := s.release 58 rs.length
    ok ((List.range (x.payload.length / 8)).foldl (fun s k => s.linkWriteOne x ws k) s).flow

/-- The values a READ item asks for, whether one was delivered with poison, and the state after the reads.
(log 149: DEDUCED, unsafe.) -/
def State.linkReads (s : State) (x : Item) : List Byte × Bool × State :=
  (List.range (x.payload.length / 3)).foldl (fun (a : List Byte × Bool × State) k =>
    let (w, p, _, s) := a.2.2.hostRead .link (bytesAt x.payload (3 * k) 3)
    (a.1 ++ toBytes 5 w.toNat, a.2.1 || p, s)) ([], false, s)

/-- LINK_READ_EXECUTION (R287, R291, R349): the READ item at the head of Q58 is answered with an RDATA; a poisoned item has
no effect, and a poisoned value sends nothing. -/
def execLinkReadExecution (s : State) : Host.Outcome State Fault Refusal := s.clocked fun s =>
  match s.rxHead clsRead with
  | none => ok s
  | some rs =>
    let x := itemOf rs
    let (ws, s) := s.readItem 58 reqLink rs
    let s := s.release 58 rs.length
    if ws.any (fun w => w.2) then ok ((s.inc F.SLK_CNTD_FORMERR).reportAt srcPoisFrame 0 0x1606).flow
    else
      let (vs, bad, s) := s.linkReads x
      if bad then ok ((s.inc F.SLK_CNTG_TXABORT).report srcPoisFrame 0).flow
      else ok (s.pushTx 57 x.peer clsRdata false (toBytes 2 x.seq ++ vs)).flow

end Sys2Proof.Machine
end

