-- ==== Sys2Proof/Machine/Mover.lean ====
section
/-! DEFINITION. The block mover: sources, funnel, destinations, poison, and the descriptor boundary (chapter 15, R324 to
R340). -/

namespace Sys2Proof.Machine

open Sys2Proof

/-- The path of a channel's MEM accesses. -/
def movPath (n : Nat) : Path := .mover (Fin.ofNat 8 n)

/-- Byte of a word at stream position `i` (R327). -/
def streamByte (beo : Bool) (i : Nat) : Nat := if beo then 4 - i else i

/-- A word's bytes from stream position `i` on. (log 142: DEDUCED, unsafe.) -/
def wordStream (beo : Bool) (w : Word) (i : Nat) : List Byte :=
  ((List.range 5).drop i).map (fun k => BitVec.ofNat 8 (w.toNat / 256 ^ streamByte beo k))

/-- The word whose stream is `bs`, five bytes. -/
def streamWord (beo : Bool) (bs : List Byte) : Word :=
  BitVec.ofNat 40 ((List.range 5).foldr (fun k x => (bs.getD (streamByte beo k) 0).toNat + 256 * x) 0)

/-- End the descriptor of channel `n` with result `r` (Table 15-4). -/
def State.movEnd (s : State) (n r adm : Nat) : State := s.setMov n { s.movOf n with res := some (r, adm) }

/-- One poisoned source word (R329). -/
def State.countPoison (s : State) (n : Nat) : State := (s.inc F.BMV_STAT_POISON).inc (F.BMV_Dn_CNT_POISON n)

/-- Put source bytes in the funnel. -/
def State.funnelIn (s : State) (n : Nat) (bs : List (Byte × Bool)) : State :=
  let m := s.movOf n
  s.setMov n { m with funnel := m.funnel ++ bs, taken := m.taken + bs.length }

/-- Bytes the destination has taken. -/
def State.movDone (s : State) (n : Nat) : Nat := s.fld (F.BMV_Dn_DONE_BYTES n)

/-- Take `k` bytes out of the funnel and count them as moved. -/
def State.funnelOut (s : State) (n k : Nat) : State :=
  let s := s.setFld (F.BMV_Dn_DONE_BYTES n) (s.movDone n + k)
  s.setMov n { s.movOf n with funnel := (s.movOf n).funnel.drop k }

/-! ### Sources (R325, R327 to R329) -/

/-- Take the next word or byte of the source; none when the source gives nothing now. A ring that has run empty ends the
descriptor with SHORT. -/
def State.movTake (s : State) (n : Nat) (d : Desc) : Option State :=
  let k := (s.movOf n).taken
  if k ≥ d.len then none
  else if d.skind = kMem then
    let a := d.sadr + k
    let (w, p, _, s) := s.hostRead (movPath n) (a / 5)
    let p := p && inWindow (a / 5)
    let bs := (wordStream d.beo w (a % 5)).take (d.len - k)
    some ((if p then s.countPoison n else s).funnelIn n (bs.map (fun b => (b, p))))
  else if d.skind = kPop then
    match s.popWord d.spar reqMover with
    | (some (w, p), s) => some ((if p then s.countPoison n else s).funnelIn n ((wordStream d.beo w 0).map (fun b => (b, p))))
    | (none, s) => some (s.movEnd n 5 0)
  else if d.skind = kSnap then
    let (b, p, s) := s.snapRead reqMover (d.sadr + k)
    some ((if p then s.countPoison n else s).funnelIn n [(b, p)])
  else if d.skind = kFill then some (s.funnelIn n [(BitVec.ofNat 8 d.sadr, false)])
  else none

/-! ### Destinations (R328, R329, R334) -/

/-- Set the poison bit of a window word. -/
def State.poisonWord (s : State) (a : Nat) : State :=
  let (w, c) := s.sramData a
  s.sramPut a w (c % 32 + 32)

/-- A full-word write to MEM: poison is the OR over its bytes. -/
def State.movWord (s : State) (n : Nat) (d : Desc) (a : Nat) (bs : List (Byte × Bool)) : State :=
  let (r, s) := s.hostWrite (some (movPath n)) a (streamWord d.beo (bs.map (·.1)))
  if r = .done && inSram a && bs.any (·.2) then s.poisonWord a else s

/-- A narrow write to MEM from stream position `i`: only its bytes and their parity change, and poison is never cleared. -/
def State.movNarrow (s : State) (d : Desc) (a i : Nat) (bs : List (Byte × Bool)) : State :=
  let (w, c) := s.sramData a
  let put := fun (x : Nat × Nat) (p : (Byte × Bool) × Nat) =>
    let k := streamByte d.beo (i + p.2)
    (setBits x.1 (8 * k + 7) (8 * k) p.1.1.toNat, setBits x.2 k k 0)
  let (w', c') := (bs.zip (List.range bs.length)).foldl put (w.toNat, c)
  let c' := if bs.any (·.2) then c' % 32 + 32 else c'
  if inShape a then
    match s.writeWindow a 0 with
    | (.done, _) => s.sramPut a (BitVec.ofNat 40 w') c'
    | (_, s) => s
  else if inMap a && !s.inActiveBank a then s.sramPut a (BitVec.ofNat 40 w') c'
  else s

/-- Push one word (R125, R334). A refusal, or the discard of the item by a flush, ends the descriptor; DONE then holds the
bytes of the items admitted. (log 142: DEDUCED, unsafe.) -/
def State.movPush (s : State) (n : Nat) (w : Word) (p : Bool) : State :=
  let a := s.asm (8 + n)
  let refuse := fun (s : State) (code retry back : Nat) =>
    ((s.setFld (F.BMV_Dn_DONE_RETRY n) retry).setFld (F.BMV_Dn_DONE_BYTES n) (s.movDone n - back)).movEnd n 4 code
  if a.dropQ.isSome then refuse (s.setAsm (8 + n) {}) admState 0 0
  else
    let ws := a.words ++ [w]
    let cs := a.chks ++ [32 * b2n p]
    if ws.length ≥ itemLen (ws.headD 0) then
      let (c, r, s) := (s.setAsm (8 + n) {}).submit 3 (recQ (ws.headD 0)) ws cs
      if c = admAck then s.funnelOut n 5 else refuse s c r (5 * (ws.length - 1))
    else (s.setAsm (8 + n) { words := ws, chks := cs }).funnelOut n 5

/-- Make the destination's next access, when the funnel holds enough of the `lim` bytes that are to be moved in all. -/
def State.movGive (s : State) (n : Nat) (d : Desc) (lim : Nat) : Option State :=
  let done := s.movDone n
  let f := (s.movOf n).funnel
  let left := lim - done
  if left = 0 then none
  else if d.dkind = kMem then
    let a := d.dadr + done
    let k := min left (5 - a % 5)
    if f.length < k then none
    else
      let bs := f.take k
      some ((if k = 5 then s.movWord n d (a / 5) bs else s.movNarrow d (a / 5) (a % 5) bs).funnelOut n k)
  else if d.dkind = kPush then
    if f.length < 5 then none
    else some (s.movPush n (streamWord d.beo ((f.take 5).map (·.1))) ((f.take 5).any (·.2)))
  else none

/-- Give what the funnel holds, with fuel. -/
def State.movFlush : Nat → State → Nat → Desc → State
  | 0, s, _, _ => s
  | k + 1, s, n, d =>
    match s.movGive n d (s.movDone n + (s.movOf n).funnel.length) with
    | some s => State.movFlush k s n d
    | none => s

/-- Move bytes until the descriptor has a result, all are moved, or a PORT side must act; with fuel. A reset by one of the
writes ends it where it stands (R340). -/
def State.movMove : Nat → State → Nat → Desc → State
  | 0, s, _, _ => s
  | k + 1, s, n, d =>
    if !s.movRuns n || (s.movOf n).res.isSome then s
    else match s.movGive n d d.len with
      | some s => State.movMove k s n d
      | none =>
        match s.movTake n d with
        | some t => if (t.movOf n).res.isSome && d.dkind ≠ kPort then State.movFlush 9 t n d else State.movMove k t n d
        | none => s

/-- Move what can be moved without the peripheral port. -/
def State.movRun (s : State) (n : Nat) : State :=
  let d := s.desc n
  if d.dkind = kPort then s else State.movMove (2 * d.len + 2) s n d

/-! ### The boundary (R332, R333, R335, R336) -/

/-- The chain of channel `n` halts with result `r` at descriptor address `a`. -/
def State.movHalt (s : State) (n r a : Nat) : State :=
  let s := (s.setFld (F.BMV_Dn_CTL_STATE n) mvHalted).raise (F.BMV_Dn_CTL_HALT n)
  if r = 4 then s else (s.errRec 6 (n * 2 ^ 37 + r * 2 ^ 33 + a % 2 ^ 24) 0 0).report srcMover n

/-- Write CMPL, RESULT and ADM into W3. -/
def State.movResult (s : State) (n r adm : Nat) : State :=
  let a := (F.BMV_Dn_W3_w n).addr
  s.setReg a (BitVec.ofNat 40 (setBits (setBits (setBits (s.reg a).toNat 15 15 1) 14 11 r) 10 8 adm))

/-- Fetch the descriptor at NEXT (R332, R335). -/
def State.movFetch (s : State) (n a : Nat) : State :=
  if a < 0x38000 || 0x3FFFC < a then (s.movResult n 7 0).movHalt n 7 a
  else
    let (bad, s) := (List.range 4).foldl (fun (x : Bool × State) i =>
      let (w, p, s) := x.2.sramRead (a + i) reqMover
      (x.1 || p, s.setReg (0x1711 + 8 * n + i) w)) (false, s)
    if bad then (s.movResult n 7 0).movHalt n 7 a else s.beginDesc n (some a) false

/-- The boundary of the running descriptor of channel `n`, which ends with result `r`. (log 142: DEDUCED, unsafe.) -/
def State.movBoundary (s : State) (n r adm : Nat) : State :=
  let m := s.movOf n
  let s := s.movResult n r adm
  let s := match m.at_ with
    | some a => s.sramWrite (a + 3) (s.reg (F.BMV_Dn_W3_w n).addr)
    | none => s
  let s := (s.inc (F.BMV_Dn_CNT_DESCS n)).raise (F.BMV_Dn_CTL_CDONE n)
  let next := (s.desc n).next
  if r ≠ 0 then s.movHalt n r (m.at_.getD (F.BMV_Dn_W0_w n).addr)
  else if m.stop then s.setFld (F.BMV_Dn_CTL_STATE n) mvStopped
  else if next = 0 then s.setFld (F.BMV_Dn_CTL_STATE n) mvIdle
  else s.movFetch n next

/-- Whether the port still serves channel `n`. -/
def State.portBusyFor (s : State) (n : Nat) : Bool :=
  match s.ser.job with
  | some j => j.own == 4 && j.ch == n
  | none => false

/-- DESCRIPTOR_BOUNDARY (R333): the descriptor of channel `n` moves its remaining bytes and ends; one with a PORT side ends once
the port has moved its bytes. -/
def execDescriptorBoundary (n : Fin 8) (s : State) : Host.Outcome State Fault Refusal := s.clocked fun s =>
  if !s.movRuns n || s.gated || s.portBusyFor n || s.portLeft n ≠ 0 then ok s
  else
    let t := s.movRun n
    if !t.movRuns n then ok t
    else
      let (r, adm) := (t.movOf n).res.getD (0, 0)
      ok (t.movBoundary n r adm).nextJob

end Sys2Proof.Machine
end

