-- ==== Sys2Proof/Machine/Seq.lean ====
section
/-! DEFINITION. The shape sequencer: one instruction of a channel's program per command, with the slot timing, the
program errors and the checks of the words read (R171 to R184). -/

namespace Sys2Proof.Machine

open Sys2Proof

/-- The next slot of channel `n` that has not been used: core clock 8 × (n mod 8) of a round of 64 (R171).
(log 23: DESIGN CHOICE, unsafe.) -/
def State.nextSlot (s : State) (n : Nat) : Nat :=
  let from_ := match (s.valve n).slotAt with
    | some c => max s.clk.cc (c + 1)
    | none => s.clk.cc
  from_ + (8 * (n % 8) + 64 - from_ % 64) % 64

/-- The first slot at or after core clock `c`. -/
def slotFrom (n c : Nat) : Nat := c + (8 * (n % 8) + 64 - c % 64) % 64

/-- Let time run to the next slot and use it. -/
def State.takeSlot (s : State) (n : Nat) : State :=
  let c := s.nextSlot n
  (s.advCcTo c).modValve n (fun v => { v with slotAt := some c })

/-- The opcode at the program counter, without reading it. -/
def State.opAt (s : State) (n : Nat) : Nat :=
  bitsOf (s.sramData (storeAddr n (s.fld (F.VDA_CHn_SEQ_PC n)))).1.toNat 39 36

/-- Whether the word at the program counter fails its check (R184). -/
def State.opBad (s : State) (n : Nat) : Bool := (s.sramData (storeAddr n (s.fld (F.VDA_CHn_SEQ_PC n)))).2 != 0

/-- Whether channel `n` executes an instruction at its next slot: a program runs, and no WAIT, REVERSE or HOLD holds
it. -/
def State.ready (s : State) (n : Nat) : Bool :=
  let v := s.valve n
  s.running n && v.wait.isNone && v.revFrom.isNone && !v.holding

/-- Show the opcode at the program counter (Table 7-11). -/
def State.showOp (s : State) (n : Nat) : State := s.setFld (F.VDA_CHn_SEQ_OP n) (s.opAt n)

/-- What an instruction does: an error code, its effect, or its effect and then an error. -/
inductive Effect where
  | err (code : Nat)
  | go (s : State)
  | fail (code : Nat) (s : State)

/-- The program counter advances by one; past word 1,023 it is program error 6. -/
def State.pcNext (s : State) (n : Nat) : Effect :=
  let pc := s.fld (F.VDA_CHn_SEQ_PC n)
  if pc ≥ 1023 then .fail 6 s else .go ((s.setFld (F.VDA_CHn_SEQ_PC n) (pc + 1)).showOp n)

/-- The effect in a slot of its own, from state `s`. -/
def Effect.settle (n : Nat) (s : State) : Effect → State
  | .err c => s.progError n c
  | .go s' => s'
  | .fail c s' => s'.progError n c

/-- Execute the instruction at the program counter if its opcode satisfies `is`: the slot is taken, the word read and
checked, the count of the run kept (error 7 past 4,096), and `f` gives the effect of the word. Of several errors the lowest code
counts (R182). -/
def State.instr (s : State) (n : Nat) (is : Nat → Bool) (f : State → Word → Effect) : State :=
  if s.ready n && (is (s.opAt n) || s.opBad n) then
    let s := s.takeSlot n
    let (w, p, s) := s.sramRead (storeAddr n (s.fld (F.VDA_CHn_SEQ_PC n))) reqSeq
    if p then (s.poisonStop n).completed
    else
      let k := (s.valve n).icount + 1
      let s := s.modValve n (fun v => { v with icount := k })
      let e : Effect := match f s w with
        | .err c => .err (if k > 4096 then min c 7 else c)
        | .go s' => if k > 4096 then .err 7 else .go s'
        | .fail c s' => .fail (if k > 4096 then min c 7 else c) s'
      (e.settle n s).completed
  else s

/-- END (R181). Entry to SAFE ends a close detection (R159). -/
def State.endEffect (s : State) (n : Nat) : Effect :=
  let k := s.fld (F.VDA_CHn_SEQ_KIND n)
  let v := s.valve n
  if k = kOpen then
    if s.isBridge n then .go (((s.stopProgram n).setChSt n stLatched).coast n) else .err 8
  else
    let s := if v.driven.isNone || v.unknown then s.creditClose n (v.driven.getD s.clk.cc + s.closeLatCc n false) true else s
    if v.toSafe || (k = kSafe && !v.recovery) then .go ((s.dropCdet n).intoSafe n) else .go (((s.stopProgram n).enterOff n).coast n)

/-- The first DRIVE of a program is the pull-in start or the close start (R173): detection, and for an open program
the resistance measurement, begin. A measurement still pending from an earlier pull-in is one that was not valid.
(log 169: DEDUCED, unsafe.) -/
def State.firstDrive (s : State) (n : Nat) : State :=
  let c := s.clk.cc
  if (s.valve n).driven.isSome then s
  else
    let s := s.modValve n (fun v => { v with driven := some c })
    if s.fld (F.VDA_CHn_SEQ_KIND n) = kOpen then
      let s := if (s.valve n).meas.isSome then s.inc (F.VDA_CHn_RW_RSKIP n) else s
      let s := s.modValve n (fun v => { v with meas := some { start := c } })
      if s.flag (F.VDA_CHn_DET_OPDET n) then s.modValve n (fun v => { v with odet := some { start := c, peak := true } })
      else s
    else
      let s := s.creditHold n c
      if s.flag (F.VDA_CHn_DET_CLDET n) then
        s.modValve n (fun v => { v with cdet := some { start := c, peak := s.isBridge n } })
      else if (s.valve n).unknown then s
      else s.creditClose n (c + s.closeLatCc n false) true

/-- DRIVE (R175). With a ramp the rest of the period keeps its duty. -/
def State.driveEffect (s : State) (n : Nat) (w : Word) : Effect :=
  let tgt := min (bitsOf w.toNat 15 0) (s.pulseRating n)
  let ramp := bitsOf w.toNat 31 16
  let s := s.firstDrive n
  let c := s.clk.cc
  let s := s.modValve n (fun v =>
    if ramp = 0 then { v with s := 0, it := tgt * 1000, goal := tgt, ramp := 0 }
    else { v with s := 0, goal := tgt, ramp := ramp })
  let e := frameCc (s.nextEdge n)
  let s := if ramp = 0 then (s.judgePeak n).setDuty n c e else s.maskPeriod n c e
  (s.showTgt n).pcNext n

/-- HOLD (R176). -/
def State.holdEffect (s : State) (n : Nat) : Effect :=
  let h := s.fld (F.VDA_CHn_HOLD_HOLDACT n)
  let c := s.clk.cc
  let s := s.setChSt n stHold
  let s := s.modValve n (fun v => { v with s := 0, it := h * 1000, goal := h, ramp := 0, holding := true })
  .go ((s.showTgt n).setDuty n c (frameCc (s.nextEdge n)))

/-- The program's detector result: ORES in an open program, CRES otherwise. -/
def State.detRes (s : State) (n : Nat) : Nat :=
  if s.fld (F.VDA_CHn_SEQ_KIND n) = kOpen then s.fld (F.VDA_CHn_LAT_ORES n) else s.fld (F.VDA_CHn_LAT_CRES n)

/-- Whether the condition of a WAIT is met now (Table 7-3); time conditions are met once LEVEL has passed.
(log 31: DEDUCED, unsafe.) -/
def State.waitMet (s : State) (n : Nat) (w : Word) (t : WaitSt) : Bool :=
  let lv := bitsOf w.toNat 19 0
  let a := (s.fldI (F.VDA_CHn_CUR_CUR n)).natAbs
  match bitsOf w.toNat 35 33 with
  | 0 => s.clk.cc ≥ t.start + usClocks lv
  | 1 => s.clk.cc ≥ t.start + msClocks lv
  | 2 => t.charge ≥ lv * 1000
  | 3 => a ≥ lv
  | 4 => a ≤ lv
  | _ => s.detRes n ≠ 0

/-- WAIT (R177): its condition is tested at its own slot first; a WAIT whose condition is met there takes one round. -/
def State.waitEffect (s : State) (n : Nat) (w : Word) : Effect :=
  let t : WaitSt := { start := s.clk.cc }
  if bitsOf w.toNat 35 33 ≥ 6 then .err 2
  else if s.waitMet n w t then (s.setFlag (F.VDA_CHn_SEQ_WMET n) true).pcNext n
  else .go (s.modValve n (fun v => { v with wait := some t }))

/-- DECAY (R178). -/
def State.decayEffect (s : State) (n : Nat) (w : Word) : Effect :=
  let m := bitsOf w.toNat 1 0
  let s := s.modValve n (fun v => { v with decay := if m = 1 then some false else if m = 2 then some true else none })
  (s.setFlag (F.VDA_CHn_SEQ_DEC n) (s.fastDecay n)).pcNext n

/-- REVERSE (R179). -/
def State.reverseEffect (s : State) (n : Nat) (w : Word) : Effect :=
  if !s.isBridge n then .err 3
  else if bitOf w.toNat 0 == s.flag (F.VDA_CHn_SEQ_POL n) then s.pcNext n
  else .go ((s.modValve n (fun v => { v with revFrom := some s.clk.cc })).setFld (F.VDA_CHn_CUR_DUTY n) 0)

/-- BRANCH (R180, Table 7-4). -/
def State.branchEffect (s : State) (n : Nat) (w : Word) : Effect :=
  let c := bitsOf w.toNat 35 32
  let t := bitsOf w.toNat 9 0
  let m := s.flag (F.VDA_CHn_SEQ_WMET n)
  let r := s.detRes n
  if c ≥ 7 then .err 2
  else if t < 64 then .err 5
  else
    let taken := c = 0 || (c = 1 && m) || (c = 2 && !m) || (c = 3 && r = 1) || (c = 4 && r = 2) || (c = 5 && r = 3) ||
      (c = 6 && r = 0)
    if taken then .go ((s.setFld (F.VDA_CHn_SEQ_PC n) t).showOp n) else s.pcNext n

/-- END_INSTRUCTION (R181). -/
def execEndInstruction (n : Fin 48) (s : State) : Host.Outcome State Fault Refusal := s.clocked fun s =>
  ok (s.instr n (· == 0) (fun s _ => s.endEffect n))

/-- DRIVE_INSTRUCTION (R175). -/
def execDriveInstruction (n : Fin 48) (s : State) : Host.Outcome State Fault Refusal := s.clocked fun s =>
  ok (s.instr n (· == 1) (fun s w => s.driveEffect n w))

/-- HOLD_INSTRUCTION (R176). -/
def execHoldInstruction (n : Fin 48) (s : State) : Host.Outcome State Fault Refusal := s.clocked fun s =>
  ok (s.instr n (· == 2) (fun s _ => s.holdEffect n))

/-- WAIT_INSTRUCTION (R177). -/
def execWaitInstruction (n : Fin 48) (s : State) : Host.Outcome State Fault Refusal := s.clocked fun s =>
  ok (s.instr n (· == 3) (fun s w => s.waitEffect n w))

/-- DECAY_INSTRUCTION (R178). -/
def execDecayInstruction (n : Fin 48) (s : State) : Host.Outcome State Fault Refusal := s.clocked fun s =>
  ok (s.instr n (· == 4) (fun s w => s.decayEffect n w))

/-- REVERSE_INSTRUCTION (R179). -/
def execReverseInstruction (n : Fin 48) (s : State) : Host.Outcome State Fault Refusal := s.clocked fun s =>
  ok (s.instr n (· == 5) (fun s w => s.reverseEffect n w))

/-- BRANCH_INSTRUCTION (R180). -/
def execBranchInstruction (n : Fin 48) (s : State) : Host.Outcome State Fault Refusal := s.clocked fun s =>
  ok (s.instr n (· == 6) (fun s w => s.branchEffect n w))

/-- RESERVED_OPCODE (R174): opcodes 7h to Fh are program error 1. -/
def execReservedOpcode (n : Fin 48) (s : State) : Host.Outcome State Fault Refusal := s.clocked fun s =>
  ok (s.instr n (fun o => decide (o ≥ 7)) (fun _ _ => .err 1))

/-- TMO of a WAIT in core clocks (0 acting as 8,191 ms). -/
def waitTmo (w : Word) : Nat := let t := bitsOf w.toNat 32 20; msClocks (if t = 0 then 8191 else t)

/-- What held channel `n` in its instruction has ended: the program counter advances. -/
def State.goOn (s : State) (n : Nat) : State := ((s.pcNext n).settle n s).completed

/-- Feed samples until one would come after the slot at which `stop` says that what waits ends on the present values. A sample
is seen from the first slot after its instant (R177, R179, R451). -/
def State.scan (s : State) (n : Nat) (stop : State → Option Nat) : List Sample → State
  | [] => s
  | x :: xs =>
    match stop s with
    | some c => if c ≤ frameCc (s.valve n).sampleAt then s else (s.feedOne n x).scan n stop xs
    | none => (s.feedOne n x).scan n stop xs

/-- Scan samples taken since the program's start. -/
def State.scanFrom (s : State) (n : Nat) (stop : State → Option Nat) (xs : List Sample) : State :=
  let base := usAt (s.valve n).started
  (s.modValve n (fun v => { v with sampleAt := max v.sampleAt (sampleInstant n base) })).scan n stop xs

/-- The slot at which a WAIT ends on the present values: the next one when its condition is met, or else the first one at
which LEVEL or TMO has passed. -/
def State.waitSlot (s : State) (n : Nat) (w : Word) (t : WaitSt) : Nat :=
  let c := s.nextSlot n
  if s.waitMet n w t then c
  else max c (slotFrom n (match bitsOf w.toNat 35 33 with
    | 0 => t.start + usClocks (bitsOf w.toNat 19 0)
    | 1 => t.start + msClocks (bitsOf w.toNat 19 0)
    | _ => t.start + waitTmo w))

/-- The slot at which the WAIT of channel `n` ends on the present values. -/
def State.waitStop (s : State) (n : Nat) : Option Nat :=
  (s.valve n).wait.map (s.waitSlot n (s.sramData (storeAddr n (s.fld (F.VDA_CHn_SEQ_PC n)))).1)

/-- WAIT_END (R177): samples pass, and the WAIT of channel `n` ends at the first slot at which its condition is met, or at which
LEVEL or TMO has passed; samples after it are not taken. -/
def execWaitEnd (n : Fin 48) (ss : List Sample) (s : State) : Host.Outcome State Fault Refusal := s.clocked fun s =>
  let n := n.val
  if (s.valve n).wait.isNone then ok s
  else
    let s := s.scanFrom n (fun s => s.waitStop n) ss
    match (s.valve n).wait, s.waitStop n with
    | some t, some c =>
      let w := (s.sramData (storeAddr n (s.fld (F.VDA_CHn_SEQ_PC n)))).1
      let s := s.advCcTo c
      let s := s.modValve n (fun v => { v with wait := none, slotAt := some c })
      ok ((s.setFlag (F.VDA_CHn_SEQ_WMET n) (s.waitMet n w t)).goOn n)
    | _, _ => ok s

/-- The slot at which a REVERSE completes on the present values: the next one, when |CUR| is at or below 50 mA and 20 ms have not
passed before it. -/
def State.revStop (s : State) (n : Nat) : Option Nat :=
  match (s.valve n).revFrom with
  | some c =>
    if (s.fldI (F.VDA_CHn_CUR_CUR n)).natAbs ≤ 50 && s.nextSlot n < c + msClocks 20 then some (s.nextSlot n) else none
  | none => none

/-- A REVERSE completes at slot `c`: the new polarity applies at the current target. -/
def State.endReverse (s : State) (n c : Nat) : State :=
  let s := s.advCcTo c
  let s := s.setFlag (F.VDA_CHn_SEQ_POL n) (!s.flag (F.VDA_CHn_SEQ_POL n))
  let s := s.modValve n (fun v => { v with revFrom := none, slotAt := some c })
  (s.setDuty n c (frameCc (s.nextEdge n))).goOn n

/-- REVERSE_COMPLETE (R179): samples pass, and |CUR| is at or below 50 mA at a slot within 20 ms. (log 31: DEDUCED, unsafe.) -/
def execReverseComplete (n : Fin 48) (ss : List Sample) (s : State) : Host.Outcome State Fault Refusal := s.clocked fun s =>
  let n := n.val
  if (s.valve n).revFrom.isNone then ok s
  else
    let s := s.scanFrom n (fun s => s.revStop n) ss
    match s.revStop n with
    | some c => ok (s.endReverse n c)
    | none => ok s

/-- REVERSE_TIMEOUT (R179): samples pass, and 20 ms with |CUR| above 50 mA at every slot are program error 4; where it falls to
50 mA before, the REVERSE completes. -/
def execReverseTimeout (n : Fin 48) (ss : List Sample) (s : State) : Host.Outcome State Fault Refusal := s.clocked fun s =>
  let n := n.val
  if (s.valve n).revFrom.isNone then ok s
  else
    let s := s.scanFrom n (fun s => s.revStop n) ss
    match s.revStop n, (s.valve n).revFrom with
    | some c, _ => ok (s.endReverse n c)
    | none, some c => ok ((s.advCcTo (c + msClocks 20)).progError n 4).completed
    | none, none => ok s

/-- CLOSE_PROGRAM_TIMEOUT (R182): a close or safe program still running 10.0 s after its start is program error 9. -/
def execCloseProgramTimeout (n : Fin 48) (s : State) : Host.Outcome State Fault Refusal := s.clocked fun s =>
  let n := n.val
  if s.running n && s.fld (F.VDA_CHn_SEQ_KIND n) ≠ kOpen then
    ok ((s.advCcTo ((s.valve n).started + secClocks 10)).progError n 9)
  else ok s

end Sys2Proof.Machine
end

