-- ==== Sys2Proof/Machine/Serial.lean ====
section
/-! DEFINITION. The peripheral port's transactions and page programs, the service port, the patrol, the 1 ms sample of the
magnetic switches, and the gating of the clocks in DORMANT (R77, R354, R355, R358 to R370, R387, R389). -/

namespace Sys2Proof.Machine

open Sys2Proof

/-! ### Raw transfers (R360, R363) -/

/-- The units of a raw transfer as one number, first unit on top. -/
def joinUnits (b : Nat) (us : List Nat) : Nat := us.foldl (fun x u => x * 2 ^ b + u % 2 ^ b) 0

/-- What the flash on P0 does with a raw transfer of whole bytes: the bytes it returns in place of `rx`, and the state.
(log 136: DESIGN CHOICE, unsafe.) -/
def State.rawFlash (s : State) (tx rx : List Byte) : List Byte × State :=
  let op := (tx.headD 0).toNat
  let a := bytesAt tx 1 3
  let n := tx.length
  let wel := fun (s : State) (b : Bool) => ({ s with ser := { s.ser with wel := b } } : State)
  let reply := fun (k : Nat) => rx.take k ++ (List.range (n - k)).map (fun i => s.flashByte ((a + i) % 2 ^ 24))
  if op = 0x06 then (rx, wel s true)
  else if op = 0x04 then (rx, wel s false)
  else if op = 0x03 then (reply 4, s)
  else if op = 0x0B then (reply 5, s)
  else if op = 0x02 && s.ser.wel && n > 4 then
    (rx, wel (((tx.drop 4).zip (List.range (n - 4))).foldl (fun s p =>
      s.flashProgram (a / 256 * 256 + (a % 256 + p.2) % 256) [p.1]) s) false)
  else if op = 0x20 && s.ser.wel && n ≥ 4 then (rx, wel (s.flashErase a) false)
  else (rx, s)

/-- A raw transfer ends: RXk hold its units, and BUSY clears. -/
def State.endRaw (s : State) (j : PortJob) (rx : List (BitVec 32)) : State :=
  let b := s.rawBits
  let u := s.fld F.SER_PP_RAW_NM1 + 1
  let s := s.advCcTo (j.start + s.transClocks j.sel u b)
  let tx := joinUnits b ((List.range u).map (fun k => s.fld (F.SER_PP_TXk_TX k)))
  let r := joinUnits b ((List.range u).map (fun k => (rx.getD k 0).toNat))
  let n := b * u / 8
  let (r, s) := if j.sel = 0 && b * u % 8 = 0 then
      let (bs, s) := s.rawFlash (toBytes n tx) (toBytes n r)
      (ofBytes bs, s)
    else (r, s)
  let s := (List.range u).foldl (fun s k => s.setFld (F.SER_PP_RXk_RX k) (r / 2 ^ (b * (u - 1 - k)) % 2 ^ b)) s
  let s := (s.setFlag F.SER_PP_RAW_BUSY false).endTrans j.sel
  ({ s with ser := { s.ser with job := none } } : State).nextJob

/-! ### Block-mover transactions (R331, R359, R361, R364) -/

/-- Units before the data of a transaction on select `k`: opcode, address, and the dummy bytes of a read. -/
def State.headUnits (s : State) (k : Nat) (read : Bool) : Nat :=
  if k = 0 then 4 + b2n (read && s.flag ⟨0x17C4, 0, 0⟩)
  else
    b2n (s.flag (F.SER_PPn_PROF_OPEN k)) + min 4 (s.fld (F.SER_PPn_PROF_ADDRB k)) +
      (if read then s.fld (F.SER_PPn_PROF_DUMMY k) else 0)

/-- Fill the funnel from the source until it holds `k` bytes, with fuel. -/
def State.movFill : Nat → State → Nat → Desc → Nat → State
  | 0, s, _, _, _ => s
  | f + 1, s, n, d, k =>
    if (s.movOf n).funnel.length ≥ k || (s.movOf n).res.isSome then s
    else match s.movTake n d with
      | some s => State.movFill f s n d k
      | none => s

/-- The port is free of its transaction and takes the next. -/
def State.portNext (s : State) : State := ({ s with ser := { s.ser with job := none } } : State).nextJob

/-- A transaction toward a device: at most 256 bytes, to the page's end on P0, and to the first poisoned byte.
(log 153: DEDUCED, unsafe.) -/
def State.movSend (s : State) (j : PortJob) (d : Desc) : State :=
  let n := j.ch
  let a := d.dadr + s.movDone n
  let k := min (if j.sel = 0 then 256 - a % 256 else 256) (d.len - s.movDone n)
  let s : State := State.movFill k s n d k
  let f := (s.movOf n).funnel.take k
  let clean := (f.takeWhile (fun b => !b.2)).map (·.1)
  let bad := clean.length < f.length
  if f = [] then s.portNext
  else
    let wren := if j.sel = 0 then s.transClocks 0 1 8 + s.gapClocks 0 else 0
    let s := if j.sel = 0 then s.inc F.SER_PP_STAT_TRANS else s
    let s := s.advCcTo (j.start + wren + s.transClocks j.sel (s.headUnits j.sel false + clean.length) 8)
    let s := (s.endTrans j.sel).funnelOut n clean.length
    let s := if bad then s.movEnd n 6 0 else s
    if j.sel = 0 then
      { s with ser := { s.ser with job := some { j with start := s.clk.cc, poll := true, at_ := a % 2 ^ 24, sent := clean } } }
    else s.portNext

/-- A transaction from a device: at most 256 bytes, which pass the funnel. -/
def State.movReceive (s : State) (j : PortJob) (d : Desc) (rx : List (BitVec 32)) : State :=
  let n := j.ch
  let a := d.sadr + (s.movOf n).taken
  let k := min 256 (d.len - (s.movOf n).taken)
  let s := s.advCcTo (j.start + s.transClocks j.sel (s.headUnits j.sel true + k) 8)
  let bs := (List.range k).map (fun i =>
    if j.sel = 0 then s.flashByte ((a + i) % 2 ^ 24) else BitVec.ofNat 8 (rx.getD i 0).toNat)
  let s := (s.endTrans j.sel).funnelIn n (bs.map (fun b => (b, false)))
  (State.movMove (2 * k + 10) ({ s with ser := { s.ser with job := none } } : State) n d).nextJob

/-- PERIPHERAL_TRANSACTION_END (R358): the transaction that runs ends with the data `rx` that its device returned. -/
def execPeripheralTransactionEnd (rx : List (BitVec 32)) (s : State) : Host.Outcome State Fault Refusal := s.clocked fun s =>
  match s.ser.job with
  | none => ok s
  | some j =>
    if j.poll then ok s
    else if j.own = 3 then ok (s.endRaw j rx)
    else
      let d := s.desc j.ch
      ok (if d.dkind = kPort then s.movSend j d else s.movReceive j d rx)

/-- PROGRAM_POLL (R361): the next poll of the page program, 50 µs after the last. (log 136: DESIGN CHOICE, unsafe.) -/
def execProgramPoll (busy : Bool) (s : State) : Host.Outcome State Fault Refusal := s.clocked fun s =>
  match s.ser.job with
  | none => ok s
  | some j =>
    if !j.poll || j.polls > 60 then ok s
    else
      let s := s.advCcTo (max s.ser.free (j.start + usClocks (50 * j.polls)))
      let s := (s.advCc (s.transClocks 0 2 8)).endTrans 0
      if busy then ok { s with ser := { s.ser with job := some { j with polls := j.polls + 1 } } }
      else ok (s.flashProgram j.at_ j.sent).portNext

/-- FLASH_PROGRAM_TIMEOUT (R361): the poll still reads busy after 3 ms, in a page of the record that a commit programs or in a
page of the block mover; the port goes on. (log 153: DEDUCED, unsafe.) -/
def execFlashProgramTimeout (s : State) : Host.Outcome State Fault Refusal := s.clocked fun s =>
  match s.ser.job with
  | none =>
    if s.led.stage = 5 then
      ok ((s.advCcTo (s.led.at_ + msClocks 3)).setLed { s.led with torn := true }).pageTimeout
    else ok s
  | some j =>
    if !j.poll then ok s
    else
      let s := s.advCcTo (j.start + msClocks 3)
      let s := s.incBy F.SER_PP_STAT_TRANS (61 - j.polls)
      let s := s.pageTimeout
      ok (s.flashTornProgram j.at_ j.sent).portNext

/-! ### The service port (R366 to R370, Tables 17-2 to 17-4) -/

/-- A reply of status bits 7:1, address and data, with its parity bit. -/
def replyBits (status addr : Nat) (data : Word) : BitVec 72 :=
  let x := (status * 2 + 0) * 2 ^ 64 + addr % 2 ^ 24 * 2 ^ 40 + data.toNat
  BitVec.ofNat 72 (x + b2n (!parityOf 72 x) * 2 ^ 64)

/-- The pending reply (R368). (log 152: DEDUCED, unsafe.) -/
def State.pendingReply (s : State) : BitVec 72 :=
  match s.ser.reply with
  | none => replyBits (4 * b2n s.ser.disc + 2) 0 0
  | some r => replyBits (32 * r.kind + 16 * b2n r.pois + 8 * b2n r.unimp + 4 * b2n s.ser.disc) r.addr r.data

/-- The node drives `x` in the frame that now ends, in the mode it was taken in. -/
def State.driveSdo (s : State) (x : BitVec 72) (mode3 : Bool) : State :=
  { s.setFlag F.SER_SP_STAT_MODE3 mode3 with ser := { s.ser with sdo := x } }

/-- A frame is accepted, `gap` core clocks after the previous command: it carries out the pending reply. -/
def State.acceptFrame (s : State) (gap : Nat) (mode3 : Bool) : State :=
  let s := s.advCc gap
  let s := (s.driveSdo s.pendingReply mode3).inc F.SER_SP_CNTA_FRAMES
  ({ s with ser := { s.ser with rel := some s.clk.cc, disc := false } } : State).traffic

/-- The reply that the next frame carries. -/
def State.setReply (s : State) (r : Reply) : State := { s with ser := { s.ser with reply := some r } }

/-- The STATUS, ADDR and DATA of a busy frame (R368); what its other status bits show is not said.
(log 144: DESIGN CHOICE, safe.) -/
def State.busyReply (s : State) : BitVec 72 × State :=
  let (k, s) := s.draw 32
  (replyBits (4 * k + 1) 0 0, s)

/-- A frame is discarded as busy. -/
def State.busyFrame (s : State) (mode3 : Bool) : State :=
  let (x, s) := s.busyReply
  let s := (s.driveSdo x mode3).inc F.SER_SP_CNTB_BUSYS
  { s with ser := { s.ser with disc := true } }

/-- During the march test a frame that reaches the SRAM is busy (R370). -/
def State.marchBusy (s : State) (a : Nat) : Bool := s.boot.march && (inSram a || a = 0x178B)

/-- SERVICE_NOP. -/
def execServiceNop (gap : Nat) (mode3 : Bool) (a : BitVec 24) (_d : Word) (s : State) : Host.Outcome State Fault Refusal := s.clocked fun s =>
  ok ((s.acceptFrame gap mode3).setReply { kind := 0, addr := a.toNat })

/-- SERVICE_READ (R369, R347). -/
def execServiceRead (gap : Nat) (mode3 : Bool) (a : BitVec 24) (_d : Word) (s : State) : Host.Outcome State Fault Refusal := s.clocked fun s =>
  if s.marchBusy a.toNat then ok ((s.advCc gap).busyFrame mode3)
  else
    let s := s.acceptFrame gap mode3
    let (w, pois, un, s) := s.hostRead .service a.toNat
    let s := if pois then s.raise F.MIN_FLAGS_SPPOIS else s
    ok (s.setReply { kind := 1, pois := pois, unimp := un, addr := a.toNat, data := w })

/-- SERVICE_WRITE (R369): a write that resets the node leaves no reply pending (R370). -/
def execServiceWrite (gap : Nat) (mode3 : Bool) (a : BitVec 24) (d : Word) (s : State) : Host.Outcome State Fault Refusal := s.clocked fun s =>
  if s.marchBusy a.toNat then ok ((s.advCc gap).busyFrame mode3)
  else
    let s := s.acceptFrame gap mode3
    let (r, s) := s.hostWrite (some .service) a.toNat d
    if a.toNat = 0x111 && bitsOf d.toNat 15 0 = 0xC35A then ok s
    else ok (s.setReply { kind := 2, unimp := r = .unimplemented, addr := a.toNat, data := d })

/-- REFUSED_COMMAND (Table 17-3): a CMD other than 00h, 3Ch and C3h. -/
def execRefusedCommand (gap : Nat) (mode3 : Bool) (cmd : Byte) (a : BitVec 24) (s : State) : Host.Outcome State Fault Refusal := s.clocked fun s =>
  if cmd = 0x00 || cmd = 0x3C || cmd = 0xC3 then ok s
  else ok (((s.acceptFrame gap mode3).inc F.SER_SP_CNTB_REFUSED).setReply { kind := 3, addr := a.toNat })

/-- ABORTED_FRAME (R367): other than 72 clock edges. (log 152: DEDUCED, unsafe.) -/
def execAbortedFrame (gap : Nat) (mode3 : Bool) (s : State) : Host.Outcome State Fault Refusal := s.clocked fun s =>
  let s := s.advCc gap
  let s := (s.driveSdo s.pendingReply mode3).inc F.SER_SP_CNTA_ABORTS
  ok { s with ser := { s.ser with disc := true } }

/-- BUSY_FRAME (R367): a frame of `len` core clocks that began while the access of the last accepted frame, of at most 2.0 µs,
still ran. -/
def execBusyFrame (gap : Nat) (mode3 : Bool) (len : Nat) (s : State) : Host.Outcome State Fault Refusal := s.clocked fun s =>
  match s.ser.rel with
  | none => ok s
  | some c =>
    if s.clk.cc + gap < c + usClocks 2 + len then ok ((s.advCc gap).busyFrame mode3) else ok s

/-! ### The patrol (R354, R355) -/

/-- PATROL_READ: the next row, at the next multiple of 2^(RATE + 6) core clocks; none in DORMANT or during the march test. A row of
an internal buffer has no address and no check bits that anything could make wrong. (log 143: DEDUCED, unsafe.) -/
def execPatrolRead (s : State) : Host.Outcome State Fault Refusal := s.clocked fun s =>
  if !s.flag F.MIN_CFG_PATEN || s.modeNow = modeDormant || s.boot.march then ok s
  else
    let p := 2 ^ (s.fld F.MIN_CFG_RATE + 6)
    let s := s.advCcTo ((s.clk.cc / p + 1) * p)
    let row := s.fld F.MIN_PATPOS_ROW
    let s := match rowAddr row with
      | some a => (s.sramRead a reqPatrol).2.2
      | none => s
    if row + 1 ≥ sramRows then ok ((s.setFld F.MIN_PATPOS_ROW 0).inc F.MIN_PATPOS_SWEEPS)
    else ok (s.setFld F.MIN_PATPOS_ROW (row + 1))

/-! ### Magnetic switches and DORMANT -/

/-- MS_SAMPLE (R77, R389): the next 1 ms instant; a change of an input that MSMASK names ends DORMANT.
(log 29: DEDUCED, unsafe.) -/
def execMsSample (raw : BitVec 8) (s : State) : Host.Outcome State Fault Refusal := s.clocked fun s =>
  let s := s.takeInstant clsMs 1024 0
  let was := s.fld F.TRV_MS_STAT_DEB
  let s := s.msInstant raw.toNat
  if (was ^^^ s.fld F.TRV_MS_STAT_DEB) &&& s.fld F.MOD_WAKE_MSMASK ≠ 0 then ok s.wake else ok s

/-- DORMANT_CLOCK_GATING (R339, R365, R387): the clocks are gated once nothing of the entry is left to do. A wake that came
during the entry takes effect at once. -/
def execDormantClockGating (s : State) : Host.Outcome State Fault Refusal := s.clocked fun s =>
  if s.mode.dorm ≠ 5 || s.ser.job.isSome || s.flag F.SER_PP_RAW_BUSY || s.led.stage ≠ 0 ||
      (List.range 8).any (fun n => s.movRuns n && n != s.fld F.LDG_CFG_DCH) then ok s
  else
    let s := s.setFlag F.MOD_STAT_TRANS false
    let s : State := { s with mode := { s.mode with dorm := 2 } }
    if s.mode.waking then ok s.wake else ok s

end Sys2Proof.Machine
end

