-- ==== Sys2Proof/Machine/Dispatch.lean ====
section
/-! DEFINITION. One arm per command: its meaning, or its refusal by name. -/

namespace Sys2Proof.Machine

open Sys2Proof

/-- The effect of a command on everything but the queue of waiting commands. -/
def exec (i : Instr) (s : State) : Host.Outcome State Fault Refusal :=
  match i with
  | .powerOnReset => Sys2Proof.Machine.execPowerOnReset s
  | .brownoutReset => Sys2Proof.Machine.execBrownoutReset s
  | .externalReset => Sys2Proof.Machine.execExternalReset s
  | .watchdogReset => Sys2Proof.Machine.execWatchdogReset s
  | .hostCommandReset p v => Sys2Proof.Machine.execHostCommandReset p v s
  | .clockFailureReset => Sys2Proof.Machine.execClockFailureReset s
  | .marchTestComplete rows bytes => Sys2Proof.Machine.execMarchTestComplete rows bytes s
  | .flashIdentification id => Sys2Proof.Machine.execFlashIdentification id s
  | .heldBootBandSwitch => Sys2Proof.Machine.execHeldBootBandSwitch s
  | .imagePass1 => Sys2Proof.Machine.execImagePass1 s
  | .ownerSignatureCheck => Sys2Proof.Machine.execOwnerSignatureCheck s
  | .imagePass2 => Sys2Proof.Machine.execImagePass2 s
  | .ownerRecord => Sys2Proof.Machine.execOwnerRecord s
  | .enrollRecord => Sys2Proof.Machine.execEnrollRecord s
  | .xferRecord => Sys2Proof.Machine.execXferRecord s
  | .releaseRecord => Sys2Proof.Machine.execReleaseRecord s
  | .scopeRecord => Sys2Proof.Machine.execScopeRecord s
  | .regsRecord => Sys2Proof.Machine.execRegsRecord s
  | .windowRecord => Sys2Proof.Machine.execWindowRecord s
  | .limitsRecord => Sys2Proof.Machine.execLimitsRecord s
  | .mapRecord => Sys2Proof.Machine.execMapRecord s
  | .padRecord => Sys2Proof.Machine.execPadRecord s
  | .ledgerScan => Sys2Proof.Machine.execLedgerScan s
  | .endOfBoot aiMode => Sys2Proof.Machine.execEndOfBoot aiMode s
  | .schedulerTick => Sys2Proof.Machine.execSchedulerTick s
  | .profilePublication => Sys2Proof.Machine.execProfilePublication s
  | .graceClose => Sys2Proof.Machine.execGraceClose s
  | .uniformPeriodStart => Sys2Proof.Machine.execUniformPeriodStart s
  | .pushStart p v => Sys2Proof.Machine.execPushStart p v s
  | .pushContinue p v => Sys2Proof.Machine.execPushContinue p v s
  | .ringPop p => Sys2Proof.Machine.execRingPop p s
  | .queueFlush q v => Sys2Proof.Machine.execQueueFlush q v s
  | .queueDisable q v => Sys2Proof.Machine.execQueueDisable q v s
  | .queueEnable q v => Sys2Proof.Machine.execQueueEnable q v s
  | .flushComplete q => Sys2Proof.Machine.execFlushComplete q s
  | .mapSwapArm v => Sys2Proof.Machine.execMapSwapArm v s
  | .encoderEdge n a b gap => Sys2Proof.Machine.execEncoderEdge n a b gap s
  | .indexEdge n a b gap => Sys2Proof.Machine.execIndexEdge n a b gap s
  | .indexArm n v => Sys2Proof.Machine.execIndexArm n v s
  | .lineBreak n => Sys2Proof.Machine.execLineBreak n s
  | .sourceInvalid => Sys2Proof.Machine.execSourceInvalid s
  | .beaconLoss => Sys2Proof.Machine.execBeaconLoss s
  | .standstillAssert => Sys2Proof.Machine.execStandstillAssert s
  | .ssiReadStart n => Sys2Proof.Machine.execSsiReadStart n s
  | .ssiReadComplete n low data par => Sys2Proof.Machine.execSsiReadComplete n low data par s
  | .primarySourceWrite v => Sys2Proof.Machine.execPrimarySourceWrite v s
  | .trvOffsetWrite v => Sys2Proof.Machine.execTrvOffsetWrite v s
  | .trvBiasWrite v => Sys2Proof.Machine.execTrvBiasWrite v s
  | .msSample raw => Sys2Proof.Machine.execMsSample raw s
  | .dualChannelConfigWrite m v => Sys2Proof.Machine.execDualChannelConfigWrite m v s
  | .holdoverEntry => Sys2Proof.Machine.execHoldoverEntry s
  | .holdoverExpired => Sys2Proof.Machine.execHoldoverExpired s
  | .beacon f => Sys2Proof.Machine.execBeacon f s
  | .beaconTransmit wait => Sys2Proof.Machine.execBeaconTransmit wait s
  | .fixEpoch m => Sys2Proof.Machine.execFixEpoch m s
  | .anchorWrite v => Sys2Proof.Machine.execAnchorWrite v s
  | .antennaFault ua => Sys2Proof.Machine.execAntennaFault ua s
  | .antennaBiasRetry ua => Sys2Proof.Machine.execAntennaBiasRetry ua s
  | .spectralMonitor bins => Sys2Proof.Machine.execSpectralMonitor bins s
  | .jamUpdate gcal g => Sys2Proof.Machine.execJamUpdate gcal g s
  | .acquisitionDetection sv el cn0 ratio confirm => Sys2Proof.Machine.execAcquisitionDetection sv el cn0 ratio confirm s
  | .cycleSlip n ind => Sys2Proof.Machine.execCycleSlip n ind s
  | .lossOfLock n cn0 => Sys2Proof.Machine.execLossOfLock n cn0 s
  | .snapshotRequest f => Sys2Proof.Machine.execSnapshotRequest f s
  | .frontEndPowerUp => Sys2Proof.Machine.execFrontEndPowerUp s
  | .captureStart => Sys2Proof.Machine.execCaptureStart s
  | .captureComplete samples => Sys2Proof.Machine.execCaptureComplete samples s
  | .snapshotSpaceRelease => Sys2Proof.Machine.execSnapshotSpaceRelease s
  | .localSnapshotRequest v => Sys2Proof.Machine.execLocalSnapshotRequest v s
  | .snapshotServiceTurn => Sys2Proof.Machine.execSnapshotServiceTurn s
  | .snapshotSegment f => Sys2Proof.Machine.execSnapshotSegment f s
  | .reassemblyTimeout k => Sys2Proof.Machine.execReassemblyTimeout k s
  | .snapshotProcessing x => Sys2Proof.Machine.execSnapshotProcessing x s
  | .zerocal v => Sys2Proof.Machine.execZerocal v s
  | .geometryStale k => Sys2Proof.Machine.execGeometryStale k s
  | .spanOffsetSend k gap => Sys2Proof.Machine.execSpanOffsetSend k gap s
  | .offset f => Sys2Proof.Machine.execOffset f s
  | .captureEdge n ss => Sys2Proof.Machine.execCaptureEdge n ss s
  | .offStateOpenTest n high => Sys2Proof.Machine.execOffStateOpenTest n high s
  | .armatureResult n ss => Sys2Proof.Machine.execArmatureResult n ss s
  | .closeDetectionResult n ss => Sys2Proof.Machine.execCloseDetectionResult n ss s
  | .latencyEstimateWrite n v => Sys2Proof.Machine.execLatencyEstimateWrite n v s
  | .latencyBandWrite n v => Sys2Proof.Machine.execLatencyBandWrite n v s
  | .resistanceMeasurement n ss => Sys2Proof.Machine.execResistanceMeasurement n ss s
  | .overcurrentTrip n => Sys2Proof.Machine.execOvercurrentTrip n s
  | .groupConditionAssert g c x => Sys2Proof.Machine.execGroupConditionAssert g c x s
  | .groupConditionEnd g c x => Sys2Proof.Machine.execGroupConditionEnd g c x s
  | .offTimeEnd n => Sys2Proof.Machine.execOffTimeEnd n s
  | .safeclr n v => Sys2Proof.Machine.execSafeclr n v s
  | .pairWrite n v => Sys2Proof.Machine.execPairWrite n v s
  | .endInstruction n => Sys2Proof.Machine.execEndInstruction n s
  | .driveInstruction n => Sys2Proof.Machine.execDriveInstruction n s
  | .holdInstruction n => Sys2Proof.Machine.execHoldInstruction n s
  | .waitInstruction n => Sys2Proof.Machine.execWaitInstruction n s
  | .waitEnd n ss => Sys2Proof.Machine.execWaitEnd n ss s
  | .decayInstruction n => Sys2Proof.Machine.execDecayInstruction n s
  | .reverseInstruction n => Sys2Proof.Machine.execReverseInstruction n s
  | .reverseComplete n ss => Sys2Proof.Machine.execReverseComplete n ss s
  | .reverseTimeout n ss => Sys2Proof.Machine.execReverseTimeout n ss s
  | .branchInstruction n => Sys2Proof.Machine.execBranchInstruction n s
  | .closeProgramTimeout n => Sys2Proof.Machine.execCloseProgramTimeout n s
  | .shapeStoreWrite p g w v => Sys2Proof.Machine.execShapeStoreWrite p g w v s
  | .modelUpdate => Sys2Proof.Machine.execModelUpdate s
  | .ambientSensorWrite t => Sys2Proof.Machine.execAmbientSensorWrite t s
  | .controlSample ai vpw0 vpw1 => Sys2Proof.Machine.execControlSample ai vpw0 vpw1 s
  | .freeze k v => Sys2Proof.Machine.execFreeze k v s
  | .stageEnable k v => Sys2Proof.Machine.execStageEnable k v s
  | .coefficientWrite p k r c v => Sys2Proof.Machine.execCoefficientWrite p k r c v s
  | .structureFieldWrite p a v => Sys2Proof.Machine.execStructureFieldWrite p a v s
  | .followingError ai vpw0 vpw1 => Sys2Proof.Machine.execFollowingError ai vpw0 vpw1 s
  | .traceDone ai vpw0 vpw1 => Sys2Proof.Machine.execTraceDone ai vpw0 vpw1 s
  | .traceArm b v => Sys2Proof.Machine.execTraceArm b v s
  | .traceForce b v => Sys2Proof.Machine.execTraceForce b v s
  | .traceStop b v => Sys2Proof.Machine.execTraceStop b v s
  | .injectionGo v => Sys2Proof.Machine.execInjectionGo v s
  | .injectionStop v => Sys2Proof.Machine.execInjectionStop v s
  | .injectionEnd ai vpw0 vpw1 => Sys2Proof.Machine.execInjectionEnd ai vpw0 vpw1 s
  | .pwPeriodEdge => Sys2Proof.Machine.execPwPeriodEdge s
  | .pwOvercurrent k => Sys2Proof.Machine.execPwOvercurrent k s
  | .flowmeterPulse k gap => Sys2Proof.Machine.execFlowmeterPulse k gap s
  | .meteringUpdate => Sys2Proof.Machine.execMeteringUpdate s
  | .dayBoundary => Sys2Proof.Machine.execDayBoundary s
  | .reconciliation => Sys2Proof.Machine.execReconciliation s
  | .limitWrite p a v => Sys2Proof.Machine.execLimitWrite p a v s
  | .commitRequest p v => Sys2Proof.Machine.execCommitRequest p v s
  | .commitPeriodExpiry => Sys2Proof.Machine.execCommitPeriodExpiry s
  | .commitStart => Sys2Proof.Machine.execCommitStart s
  | .sectorEraseComplete => Sys2Proof.Machine.execSectorEraseComplete s
  | .ledgerCapture => Sys2Proof.Machine.execLedgerCapture s
  | .recordSigned => Sys2Proof.Machine.execRecordSigned s
  | .recordProgrammed => Sys2Proof.Machine.execRecordProgrammed s
  | .markerProgrammed => Sys2Proof.Machine.execMarkerProgrammed s
  | .readbackCompare same => Sys2Proof.Machine.execReadbackCompare same s
  | .commitStepTimeout => Sys2Proof.Machine.execCommitStepTimeout s
  | .ledgerRead p => Sys2Proof.Machine.execLedgerRead p s
  | .pressureBroadcast => Sys2Proof.Machine.execPressureBroadcast s
  | .frameTransmit ring gap => Sys2Proof.Machine.execFrameTransmit ring gap s
  | .ackWaitTimeout dst => Sys2Proof.Machine.execAckWaitTimeout dst s
  | .ack f => Sys2Proof.Machine.execAck f s
  | .retryWaitExpiry dst => Sys2Proof.Machine.execRetryWaitExpiry dst s
  | .energySenseIgnore noise => Sys2Proof.Machine.execEnergySenseIgnore noise s
  | .energySenseRestore noise => Sys2Proof.Machine.execEnergySenseRestore noise s
  | .write f => Sys2Proof.Machine.execWrite f s
  | .linkWriteExecution => Sys2Proof.Machine.execLinkWriteExecution s
  | .read f => Sys2Proof.Machine.execRead f s
  | .linkReadExecution => Sys2Proof.Machine.execLinkReadExecution s
  | .rdata f => Sys2Proof.Machine.execRdata f s
  | .push f => Sys2Proof.Machine.execPush f s
  | .err f => Sys2Proof.Machine.execErr f s
  | .profile f => Sys2Proof.Machine.execProfile f s
  | .pressure f => Sys2Proof.Machine.execPressure f s
  | .rawrep f => Sys2Proof.Machine.execRawrep f s
  | .cf f => Sys2Proof.Machine.execCf f s
  | .holdcmd f => Sys2Proof.Machine.execHoldcmd f s
  | .hostSend v => Sys2Proof.Machine.execHostSend v s
  | .certreq f => Sys2Proof.Machine.execCertreq f s
  | .certseg f => Sys2Proof.Machine.execCertseg f s
  | .proof f => Sys2Proof.Machine.execProof f s
  | .certreqCommand v => Sys2Proof.Machine.execCertreqCommand v s
  | .rekeyCommand v => Sys2Proof.Machine.execRekeyCommand v s
  | .grekeyCommand v => Sys2Proof.Machine.execGrekeyCommand v s
  | .keyExchangeInitiate q => Sys2Proof.Machine.execKeyExchangeInitiate q s
  | .rekeyPeriodExpiry q => Sys2Proof.Machine.execRekeyPeriodExpiry q s
  | .kx1 f => Sys2Proof.Machine.execKx1 f s
  | .kx2 f => Sys2Proof.Machine.execKx2 f s
  | .kx3 f => Sys2Proof.Machine.execKx3 f s
  | .kx4 f => Sys2Proof.Machine.execKx4 f s
  | .keyxAnswerTimeout q => Sys2Proof.Machine.execKeyxAnswerTimeout q s
  | .oldGenerationDiscard q => Sys2Proof.Machine.execOldGenerationDiscard q s
  | .gkey f => Sys2Proof.Machine.execGkey f s
  | .groupKeySwitch => Sys2Proof.Machine.execGroupKeySwitch s
  | .groupKeyDiscard => Sys2Proof.Machine.execGroupKeyDiscard s
  | .arbitrationWaitExpiry => Sys2Proof.Machine.execArbitrationWaitExpiry s
  | .replicationCapture => Sys2Proof.Machine.execReplicationCapture s
  | .epochData f => Sys2Proof.Machine.execEpochData f s
  | .manifest f => Sys2Proof.Machine.execManifest f s
  | .fence f => Sys2Proof.Machine.execFence f s
  | .handover f => Sys2Proof.Machine.execHandover f s
  | .handoverCommand v => Sys2Proof.Machine.execHandoverCommand v s
  | .pulseLatch => Sys2Proof.Machine.execPulseLatch s
  | .failoverTimeout => Sys2Proof.Machine.execFailoverTimeout s
  | .descriptorStart n v => Sys2Proof.Machine.execDescriptorStart n v s
  | .descriptorBoundary n => Sys2Proof.Machine.execDescriptorBoundary n s
  | .chainStop n v => Sys2Proof.Machine.execChainStop n v s
  | .patrolRead => Sys2Proof.Machine.execPatrolRead s
  | .patrolEnable v => Sys2Proof.Machine.execPatrolEnable v s
  | .diagnosticWrite v => Sys2Proof.Machine.execDiagnosticWrite v s
  | .diagnosticRead v => Sys2Proof.Machine.execDiagnosticRead v s
  | .rawTransferGo v => Sys2Proof.Machine.execRawTransferGo v s
  | .peripheralTransactionEnd rx => Sys2Proof.Machine.execPeripheralTransactionEnd rx s
  | .programPoll busy => Sys2Proof.Machine.execProgramPoll busy s
  | .flashProgramTimeout => Sys2Proof.Machine.execFlashProgramTimeout s
  | .serviceNop gap mode3 a d => Sys2Proof.Machine.execServiceNop gap mode3 a d s
  | .serviceRead gap mode3 a d => Sys2Proof.Machine.execServiceRead gap mode3 a d s
  | .serviceWrite gap mode3 a d => Sys2Proof.Machine.execServiceWrite gap mode3 a d s
  | .refusedCommand gap mode3 cmd a => Sys2Proof.Machine.execRefusedCommand gap mode3 cmd a s
  | .abortedFrame gap mode3 => Sys2Proof.Machine.execAbortedFrame gap mode3 s
  | .busyFrame gap mode3 len => Sys2Proof.Machine.execBusyFrame gap mode3 len s
  | .holdCommand p => Sys2Proof.Machine.execHoldCommand p s
  | .commissionCommand p => Sys2Proof.Machine.execCommissionCommand p s
  | .prescribeCommand p => Sys2Proof.Machine.execPrescribeCommand p s
  | .uniformCommand p => Sys2Proof.Machine.execUniformCommand p s
  | .fertigateCommand p => Sys2Proof.Machine.execFertigateCommand p s
  | .dormantCommand p => Sys2Proof.Machine.execDormantCommand p s
  | .dormantClockGating => Sys2Proof.Machine.execDormantClockGating s
  | .wakeTime => Sys2Proof.Machine.execWakeTime s
  | .idleTimeout => Sys2Proof.Machine.execIdleTimeout s
  | .scheduledDormancy => Sys2Proof.Machine.execScheduledDormancy s
  | .faultClear v => Sys2Proof.Machine.execFaultClear v s
  | .faultConfigWrite src v => Sys2Proof.Machine.execFaultConfigWrite src v s
  | .certificateRead p => Sys2Proof.Machine.execCertificateRead p s
  | .registerWrite p a v => Sys2Proof.Machine.execRegisterWrite p a v s
  | .clockRecovery => Sys2Proof.Machine.execClockRecovery s
  | .bootCommand p => Sys2Proof.Machine.execBootCommand p s
  | .limpCommand p => Sys2Proof.Machine.execLimpCommand p s
  | .frameCheckFailure fc crc f => Sys2Proof.Machine.execFrameCheckFailure fc crc f s
  | .lineBreakEnd n => Sys2Proof.Machine.execLineBreakEnd n s
  | .antennaFaultEnd ua => Sys2Proof.Machine.execAntennaFaultEnd ua s
  | .groupRekeyPeriodExpiry => Sys2Proof.Machine.execGroupRekeyPeriodExpiry s
  | .reservedOpcode n => Sys2Proof.Machine.execReservedOpcode n s

end Sys2Proof.Machine
end

