-- ==== Sys2Proof/Safety.lean ====
section
/-! DEFINITION. What a safe state is, in the terms statements use: the sparse parts of the state in canonical form, and the
timebase phase within one tb; and core clocks in which hardware has updated no field that a host can write. -/

namespace Sys2Proof.Machine

open Sys2Proof

/-- The memory windows, the check bits, the flash and the register file are in canonical form, and the part of the current
tb already passed is less than one tb. -/
def State.canonical (s : State) : Bool :=
  Memory.wf s.mem && spWf (fun _ => 0) s.chk && spWf (fun _ => 0xFF#8) s.flash && spWf resetWord s.regs &&
    decide (s.clk.frac < tbUnit)

/-- Hardware has updated no RWH field and set no W1C flag in this core clock, so that a host write now meets none (R14). -/
def State.calm (s : State) : Bool := decide (s.core.hwAt ≠ s.clk.cc) || s.core.hw.isEmpty

end Sys2Proof.Machine
end

