-- ==== Sys2Proof/WellFormed.lean ====
section
/-! DEFINITION. Which commands can arise: frames of the class and type that their row names and no longer than a frame may
be, sample lists of the converters' size, and indexes inside the block a row names. A command that is not well-formed still
has a meaning; no run of the hardware produces it. -/

namespace Sys2Proof

/-- A frame of class `c` (Table 12-5) with at most 240 payload bytes (R273). -/
def Frame.isClass (f : Frame) (c : Nat) : Bool := f.cls.val == c && decide (f.payload.length ≤ 240)

/-- A frame of class `c` whose payload opens with TYPE `t` (Tables 12-8, 13-2, 14-3). -/
def Frame.isType (f : Frame) (c t : Nat) : Bool := f.isClass c && f.payload.head? == some (BitVec.ofNat 8 t)

/-- Eight converter codes and two supply readings of 16 bits (R203). -/
def controlInputsOk (ai : List (BitVec 16)) (v0 v1 : Nat) : Bool :=
  ai.length == 8 && decide (v0 < 2 ^ 16) && decide (v1 < 2 ^ 16)

/-- Frames of the group converters: a supply reading of at most 65,535 mV and a current within the widest range (R150). -/
def samplesOk (ss : List Sample) : Bool :=
  ss.all (fun x => decide (x.vdrv < 2 ^ 16) && decide (-16384 ≤ x.cur) && decide (x.cur ≤ 16383))

/-- Well-formed commands. -/
def Instr.wf : Instr → Bool
  | .beacon f => f.isClass 1
  | .write f => f.isClass 2
  | .read f => f.isClass 3
  | .rdata f => f.isClass 4
  | .push f => f.isClass 5
  | .snapshotSegment f => f.isClass 6
  | .snapshotRequest f => f.isClass 7
  | .offset f => f.isType 8 1
  | .profile f => f.isType 8 2
  | .pressure f => f.isType 8 3
  | .rawrep f => f.isType 8 4
  | .cf f => f.isType 8 5
  | .holdcmd f => f.isType 8 6
  | .err f => f.isClass 9
  | .epochData f => f.isType 10 1
  | .manifest f => f.isType 10 2
  | .fence f => f.isType 10 3
  | .handover f => f.isType 10 4
  | .certreq f => f.isType 11 1
  | .certseg f => f.isType 11 2
  | .proof f => f.isType 11 3
  | .kx1 f => f.isType 12 1
  | .kx2 f => f.isType 12 2
  | .kx3 f => f.isType 12 3
  | .kx4 f => f.isType 12 4
  | .gkey f => f.isType 12 5
  | .ack f => f.isClass 0
  | .controlSample ai v0 v1 => controlInputsOk ai.codes v0 v1
  | .followingError ai v0 v1 => controlInputsOk ai.codes v0 v1
  | .traceDone ai v0 v1 => controlInputsOk ai.codes v0 v1
  | .injectionEnd ai v0 v1 => controlInputsOk ai.codes v0 v1
  | .captureEdge _ ss => samplesOk ss
  | .armatureResult _ ss => samplesOk ss
  | .closeDetectionResult _ ss => samplesOk ss
  | .resistanceMeasurement _ ss => samplesOk ss
  | .waitEnd _ ss => samplesOk ss
  | .reverseComplete _ ss => samplesOk ss
  | .reverseTimeout _ ss => samplesOk ss
  | .antennaFault ua => decide (ua < 2 ^ 32)
  | .antennaFaultEnd ua => decide (ua < 2 ^ 32)
  | .acquisitionDetection _ el _ _ _ => decide (el ≤ 90)
  | .ssiReadComplete _ _ data _ => decide (data < 2 ^ 40)
  | _ => true

end Sys2Proof
end

