-- ==== Sys2Proof/Certificates/Slice0/Obligations.lean ====
section
/-! DEFINITION. The statements for the provers. Each docstring says what its statement formalises; statements about a choice of the
model name its log entry. -/

open Sys2Proof Sys2Proof.Machine

/-- For every command c, queue rest and state s: a step of s with c at the front of its queue is exec of c on s with the
rest. (spec/95_what_each_step_holds.md) -/
def Obligations.StepRunsFrontCommand : Prop :=
  ∀ (c : Instr) (rest : List Instr) (s : State),
    step { s with pending := c :: rest } = exec c { s with pending := rest }

/-- With an empty queue a step answers the state it was given; the model's own choice, log entry 1.
(spec/95_what_each_step_holds.md) -/
def Obligations.EmptyQueueIdles : Prop :=
  ∀ s : State, s.pending = [] → step s = .next s

/-- In every state every command answers a next state, and the queue of waiting commands is as it was. (spec/00_scope.md;
spec/95_what_each_step_holds.md) -/
def Obligations.EveryCommandGoesOn : Prop :=
  ∀ (c : Instr) (s : State), ∃ t, exec c s = .next t ∧ t.pending = s.pending

/-- From every state whose register file, memory windows, check bits and flash are in canonical form and whose timebase
phase is less than one tb, a step that answers a next state answers one such state. (spec/00_scope.md;
spec/02_travel_and_timebase.md R39; spec/16_memory_integrity.md; spec/20_register_map.md) -/
def Obligations.StepKeepsCanonicalForm : Prop :=
  ∀ s t : State, s.canonical = true → step s = .next t → t.canonical = true

/-- State.reset is in canonical form. (spec/18_startup_modes_reset.md) -/
def Obligations.ResetIsCanonical : Prop :=
  State.reset.canonical = true

/-- While a core clock failure holds the node in reset, every command but the five resets that no clock is needed for and
the recovery of the clock leaves the state unchanged. (spec/18_startup_modes_reset.md R372) -/
def Obligations.HeldResetIgnoresCommands : Prop :=
  ∀ (c : Instr) (s : State), s.boot.halted = true →
    c ≠ .powerOnReset → c ≠ .brownoutReset → c ≠ .externalReset → c ≠ .watchdogReset → c ≠ .clockFailureReset →
    c ≠ .clockRecovery → exec c s = .next s

/-- After POWER_ON_RESET every register but MOD_RST reads its reset word, RSTSRC is 1, the march test runs, memory,
queues, channels and the clock are as at reset, owner and head epoch stay, and so does the flash unless a write to it
was cut off. (spec/00_scope.md R11; spec/18_startup_modes_reset.md R372; spec/18_startup_modes_reset.md R373) -/
def Obligations.PowerOnResetRestoresRegisters : Prop :=
  ∀ s : State, ∃ t, exec .powerOnReset s = .next t ∧
    (∀ a, a ≠ 0x110 → t.reg a = resetWord a) ∧ t.fld F.MOD_RST_RSTSRC = 1 ∧
    t.boot.march = true ∧ t.boot.halted = false ∧ t.mem = [] ∧ t.chk = [] ∧ t.queues = [] ∧ t.valves = [] ∧
    t.clk = {} ∧ t.key = { owner := s.key.owner, epoch := s.key.epoch } ∧ t.pending = s.pending ∧
    (s.led.stage = 0 → s.ser.job = none → t.flash = s.flash)

/-- Each of the four resets writes its source code, counts itself, starts BOOT with empty queues, keeps winding and body
temperature, derating stage and RMEAS of every channel, and leaves the flash unless a write to it was cut off; only
the clock failure holds the node. (spec/18_startup_modes_reset.md R372; spec/18_startup_modes_reset.md R373;
spec/08_coil_model_and_latency.md R190) -/
def Obligations.OtherResetsKeepTemperatures : Prop :=
  ∀ s : State, s.boot.halted = false →
    ∀ p ∈ [(Instr.brownoutReset, 2), (.externalReset, 3), (.watchdogReset, 4), (.clockFailureReset, 6)],
    ∃ t, exec p.1 s = .next t ∧ t.fld F.MOD_RST_RSTSRC = p.2 ∧
      t.fld F.MOD_RST_RSTCNT = satAdd 16 (s.fld F.MOD_RST_RSTCNT) 1 ∧
      t.boot.halted = decide (p.2 = 6) ∧ t.boot.start = s.clk.cc ∧ t.queues = [] ∧ t.pending = s.pending ∧
      (∀ n, n < 48 → t.fld (F.VDA_CHn_TH_TW n) = s.fld (F.VDA_CHn_TH_TW n) ∧
        t.fld (F.VDA_CHn_TH_TB n) = s.fld (F.VDA_CHn_TH_TB n) ∧
        t.fld (F.VDA_CHn_TH_STAGE n) = s.fld (F.VDA_CHn_TH_STAGE n) ∧
        t.fld (F.VDA_CHn_RES_RMEAS n) = s.fld (F.VDA_CHn_RES_RMEAS n)) ∧
      (s.led.stage = 0 → s.ser.job = none → t.flash = s.flash)

/-- HOST_COMMAND_RESET with KEY C35Ah resets by every path: RSTSRC becomes 7 for a write from the link and 5 for the
service port and the block mover, RSTCNT counts, the node is in BOOT with empty queues, and the commands that wait
stay; with another KEY registers, memory, queues, channels and flash stay. CLOCK_RECOVERY releases a held reset and
starts BOOT, and otherwise changes nothing. (spec/18_startup_modes_reset.md R372) -/
def Obligations.ResetCommandAndRecovery : Prop :=
  ∀ (s : State) (p : Path) (v : Word),
    (s.boot.halted = false → bitsOf v.toNat 15 0 = 0xC35A → ∃ t, exec (.hostCommandReset p v) s = .next t ∧
      t.fld F.MOD_RST_RSTSRC = (if p = .link then 7 else 5) ∧
      t.fld F.MOD_RST_RSTCNT = satAdd 16 (s.fld F.MOD_RST_RSTCNT) 1 ∧ t.modeNow = modeBoot ∧ t.boot.start = s.clk.cc ∧
      t.boot.halted = false ∧ t.queues = [] ∧ t.pending = s.pending) ∧
    (s.boot.halted = false → bitsOf v.toNat 15 0 ≠ 0xC35A → ∃ t, exec (.hostCommandReset p v) s = .next t ∧
      t.regs = s.regs ∧ t.mem = s.mem ∧ t.queues = s.queues ∧ t.valves = s.valves ∧ t.flash = s.flash ∧
      t.boot = s.boot) ∧
    exec .clockRecovery s =
      .next (if s.boot.halted then { s with boot := { s.boot with halted := false, start := s.clk.cc } } else s)

/-- A march test without failures leads to boot step 1 and sets MTRAN; one with a failing row or byte sets MTFAIL too and
holds BOOT with reason 6. An identification with a capacity code 17h to 1Fh leads to step 2 and shows the three bytes,
any other holds BOOT with reason 1 when the bytes are all 0 or all 1, else 2. A held unenrolled node listens in the
next of three bands. (spec/16_memory_integrity.md R351; spec/16_memory_integrity.md R353;
spec/18_startup_modes_reset.md R376; spec/18_startup_modes_reset.md R378) -/
def Obligations.BootFirstSteps : Prop :=
  ∀ s : State, s.boot.halted = false →
    (s.boot.march = true → ∀ rows bytes : List Nat,
      (rows.filter (fun r => r < sramRows) = [] ∧ bytes.filter (fun b => b < snapSize) = [] →
        ∃ t, exec (.marchTestComplete rows bytes) s = .next t ∧ t.boot.march = false ∧
          t.fld F.MOD_BOOT_STEP = 1 ∧ t.flag F.MIN_STAT_MTRAN = true ∧ t.flash = s.flash ∧ t.pending = s.pending) ∧
      (¬ (rows.filter (fun r => r < sramRows) = [] ∧ bytes.filter (fun b => b < snapSize) = []) →
        ∃ t, exec (.marchTestComplete rows bytes) s = .next t ∧ t.boot.march = false ∧
          t.fld F.MOD_BOOT_STEP = 7 ∧ t.fld F.MOD_BOOT_HOLDWHY = 6 ∧ t.flag F.MIN_STAT_MTRAN = true ∧
          t.flag F.MIN_STAT_MTFAIL = true ∧ t.flash = s.flash ∧ t.pending = s.pending)) ∧
    (∀ id : BitVec 24, s.modeNow = modeBoot → s.fld F.MOD_BOOT_STEP = 1 →
      (id.toNat % 256 < 0x17 ∨ 0x1F < id.toNat % 256 →
        ∃ t, exec (.flashIdentification id) s = .next t ∧ t.fld F.SER_PP_JEDEC_ID = id.toNat ∧
          t.fld F.MOD_BOOT_STEP = 7 ∧ t.flag F.MOD_STAT_HELD = true ∧
          t.fld F.MOD_BOOT_HOLDWHY = (if id.toNat = 0 ∨ id.toNat = 0xFFFFFF then 1 else 2)) ∧
      (0x17 ≤ id.toNat % 256 → id.toNat % 256 ≤ 0x1F →
        ∃ t, exec (.flashIdentification id) s = .next t ∧ t.fld F.SER_PP_JEDEC_ID = id.toNat ∧
          t.fld F.MOD_BOOT_STEP = 2 ∧ t.mem = s.mem ∧ t.flash = s.flash)) ∧
    (s.heldForLink = true → ∃ t, exec .heldBootBandSwitch s = .next t ∧
      t.lnk.band = (s.lnk.band + 1) % 3 ∧ t.lnk.bandAt = t.clk.cc ∧ t.lnk.stay = none ∧ t.mem = s.mem ∧ t.flash = s.flash)

/-- Past the header, the command of the type of the record at the loader's position handles that record; PAD_RECORD takes
every type that the other nine commands do not name. In pass 1 a record that meets its checks is noted: its type is
added to the types passed, the position moves behind it, and memory and flash stay; one that does not holds BOOT with
reason 3. In pass 2 a record whose writes are all taken is applied and the position moves behind it.
(spec/21_configuration_image.md R418; spec/21_configuration_image.md R419; spec/21_configuration_image.md R427) -/
def Obligations.ImageRecordsPass : Prop :=
  ∀ s : State, s.boot.halted = false → s.modeNow = modeBoot → 16 ≤ s.boot.pos → s.boot.pos < s.imgLen →
    ∀ p ∈ [(Instr.ownerRecord, fun t => t == 0x01), (.enrollRecord, fun t => t == 0x02), (.xferRecord, fun t => t == 0x03),
        (.releaseRecord, fun t => t == 0x04), (.scopeRecord, fun t => t == 0x05), (.regsRecord, fun t => t == 0x10),
        (.windowRecord, fun t => t == 0x11), (.limitsRecord, fun t => t == 0x12), (.mapRecord, fun t => t == 0x13),
        (.padRecord, fun t => !([1, 2, 3, 4, 5, 16, 17, 18, 19].contains t))],
      p.2 (s.imgRec s.boot.pos).typ = true →
      (s.fld F.MOD_BOOT_STEP = 2 → s.recOk (s.imgRec s.boot.pos) = true →
        ∃ t, exec p.1 s = .next t ∧ t.boot.types = (s.imgRec s.boot.pos).typ :: s.boot.types ∧
          t.boot.pos = (s.imgRec s.boot.pos).next ∧ t.fld F.MOD_BOOT_STEP = 2 ∧ t.flash = s.flash ∧ t.mem = s.mem) ∧
      (s.fld F.MOD_BOOT_STEP = 2 → s.recOk (s.imgRec s.boot.pos) = false →
        ∃ t, exec p.1 s = .next t ∧ t.fld F.MOD_BOOT_STEP = 7 ∧ t.fld F.MOD_BOOT_HOLDWHY = 3 ∧ t.flash = s.flash) ∧
      (s.fld F.MOD_BOOT_STEP = 4 → (s.imgRec s.boot.pos).next ≤ s.imgLen → ∀ u : State,
        (s.readTo (s.imgRec s.boot.pos).next).applyRec (s.imgRec s.boot.pos) = (true, u) →
        exec p.1 s = .next { u with boot := { u.boot with pos := (s.imgRec s.boot.pos).next } })

/-- In boot step 2 IMAGE_PASS_1, from wherever the pass stands, ends in boot step 3 or holds BOOT with reason 3, and
leaves memory and flash. With every record passed it goes to step 3 and keeps the bytes of the image when OWNER and
ENROLL have passed and, if the image enrolls the node, its two ledger slots lie within R417 and differ; else it holds
BOOT. OWNER_SIGNATURE_CHECK leaves memory and flash. It holds BOOT with reason 3 when the signature does not verify
with the key of OWNER or the binding does not admit that key; else with reason 5, unbound, when a RELEASE names the
node; else with reason 4 when no entry enrolls it; else it goes to step 4 with the binding to store. IMAGE_PASS_2 with
every record applied goes to step 5 when the hash is that of pass 1 and a transfer's XSIG verifies, else it holds BOOT
with reason 3. (spec/21_configuration_image.md R426; spec/21_configuration_image.md R427;
spec/18_startup_modes_reset.md R377; spec/13_identity_and_security.md R295) -/
def Obligations.ImagePassesAdvanceBoot : Prop :=
  ∀ s : State, s.boot.halted = false → s.modeNow = modeBoot →
    (s.fld F.MOD_BOOT_STEP = 2 →
    ∃ t, exec .imagePass1 s = .next t ∧ t.mem = s.mem ∧ t.flash = s.flash ∧
      (t.fld F.MOD_BOOT_STEP = 3 ∨ t.fld F.MOD_BOOT_STEP = 7 ∧ t.fld F.MOD_BOOT_HOLDWHY = 3) ∧
      (16 ≤ s.boot.pos → s.boot.pos = s.imgLen →
        if 2 ≤ s.boot.types.length ∧ (s.boot.own.isSome = true →
            s.slotOk s.boot.slotA = true ∧ s.slotOk s.boot.slotB = true ∧ s.boot.slotA ≠ s.boot.slotB) then
          t.fld F.MOD_BOOT_STEP = 3 ∧ t.boot.image = s.flashRead 0 (s.imgLen + 64) ∧ t.boot.pos = 0
        else t.fld F.MOD_BOOT_STEP = 7)) ∧
    (s.fld F.MOD_BOOT_STEP = 3 → ∃ t, exec .ownerSignatureCheck s = .next t ∧ t.mem = s.mem ∧ t.flash = s.flash ∧
      (if verifySig (bytesAt s.boot.image 21 64) (s.boot.image.take (s.boot.image.length - 64))
          (bytesAt s.boot.image (s.boot.image.length - 64) 64) then
        match s.bindCheck with
        | none => t.fld F.MOD_BOOT_STEP = 7 ∧ t.fld F.MOD_BOOT_HOLDWHY = 3
        | some (b, x) =>
          if s.boot.released then t.fld F.MOD_BOOT_STEP = 7 ∧ t.fld F.MOD_BOOT_HOLDWHY = 5 ∧ t.key.owner = none
          else if s.boot.own = none then t.fld F.MOD_BOOT_STEP = 7 ∧ t.fld F.MOD_BOOT_HOLDWHY = 4
          else t.fld F.MOD_BOOT_STEP = 4 ∧ t.boot.bind = b ∧ t.boot.xfer = x ∧ t.boot.pos = 0
      else t.fld F.MOD_BOOT_STEP = 7 ∧ t.fld F.MOD_BOOT_HOLDWHY = 3)) ∧
    (s.fld F.MOD_BOOT_STEP = 4 → 16 ≤ s.boot.pos → s.boot.pos = s.imgLen →
      ∃ t, exec .imagePass2 s = .next t ∧ t.flash = s.flash ∧ t.mem = s.mem ∧
        (if sha256 (s.flashRead 0 s.imgLen) = sha256 (s.boot.image.take (s.boot.image.length - 64)) ∧
            (s.boot.xfer = true → verifySig (bytesAt s.boot.image (s.boot.xat.getD 0) 64)
              ("JASOL XFER".toList.map (fun c => BitVec.ofNat 8 c.toNat) ++ shaBytes ((s.boot.image.drop 21).take 64))
              (bytesAt s.boot.image (s.boot.xat.getD 0 + 64) 64) = true) then
          t.fld F.MOD_BOOT_STEP = 5
        else t.fld F.MOD_BOOT_STEP = 7 ∧ t.fld F.MOD_BOOT_HOLDWHY = 3))

/-- The ledger scan ends in boot step 6 within 60 ms of its start, or at once when these have passed, with RAW 0 and the
flash as it was; SEQ and CF are those of the record loaded with BOOTRES 0, or 0 and 1.0 with BOOTRES 1 over blank
slots and 2 otherwise. END_OF_BOOT in step 6 leaves BOOT for HOLD, UNIFORM or DORMANT with PREV BOOT and cause 0, and
notes which analog inputs sense current. (spec/11_metering_and_ledger.md R265; spec/11_metering_and_ledger.md R266;
spec/18_startup_modes_reset.md R375; spec/18_startup_modes_reset.md R379) -/
def Obligations.LedgerScanAndEndOfBoot : Prop :=
  ∀ s : State, s.boot.halted = false → s.modeNow = modeBoot →
    (s.fld F.MOD_BOOT_STEP = 5 → ∃ t, exec .ledgerScan s = .next t ∧ t.fld F.MOD_BOOT_STEP = 6 ∧ t.boot.at_ = t.clk.cc ∧
      t.clk.cc ≤ max s.clk.cc (s.boot.at_ + msClocks 60) ∧ t.fld F.LDG_RAW_RAW = 0 ∧ t.flash = s.flash ∧
      (match s.bestSlot with
        | some (k, b) => t.fld F.LDG_STAT_BOOTRES = 0 ∧ t.fld F.LDG_STAT_LAST = k ∧ t.fld F.LDG_SEQ_SEQ = recSeqOf b ∧
            t.fld F.LDG_CF_CF = bytesAt b 30 4 ∧ t.led.last = b
        | none => t.fld F.LDG_SEQ_SEQ = 0 ∧ t.fld F.LDG_CF_CF = 0x1000000 ∧ t.led.last = [] ∧
            t.fld F.LDG_STAT_BOOTRES =
              (if [0, 1].all (fun k => (s.flashRead (s.slotAddr k) 4096).all (· == 0xFF#8)) then 1 else 2))) ∧
    (∀ m : BitVec 8, s.fld F.MOD_BOOT_STEP = 6 → ∃ t, exec (.endOfBoot m) s = .next t ∧
      (t.modeNow = modeHold ∨ t.modeNow = modeUniform ∨ t.modeNow = modeDormant) ∧ t.fld F.MOD_STAT_PREV = modeBoot ∧
      t.fld F.MOD_STAT_CAUSE = 0 ∧ t.ctl.aiMode = m.toNat ∧ t.boot.start = s.boot.start)

/-- With the clocks running, SCHEDULER_TICK runs one tick in a state u that differs from s only in the clock: its system
time is a multiple of 32 tb not before now, at most 64 tb later, every register but TBS_TIME and everything else is as
before. With the clocks gated no tick starts. (spec/02_travel_and_timebase.md R36; spec/05_scheduler.md R130;
spec/02_travel_and_timebase.md R49) -/
def Obligations.TicksComeAtTheirInstants : Prop :=
  ∀ s : State, s.boot.halted = false → s.canonical = true →
    (s.gated = false → ∃ u : State, ∃ r k, exec .schedulerTick s = .next u.tick ∧ u = { s with regs := r, clk := k } ∧
      u.now % 32 = 0 ∧ 0 ≤ Machine.dist u.now s.now ∧ Machine.dist u.now s.now ≤ 64 ∧ s.clk.cc ≤ u.clk.cc ∧
      ∀ a, a ≠ 0x200 → u.reg a = s.reg a) ∧
    (s.gated = true → exec .schedulerTick s = .next s)

/-- Each of the four events lets time pass to its own deadline and runs the first scheduler tick from there: GRACE after
standstill asserted, the start of the next UNIFORM period, IDLETO minutes without traffic in HOLD, the time in
MOD_DORMAT. Nothing but the clock changes before that tick. (spec/05_scheduler.md R141; spec/05_scheduler.md R143;
spec/18_startup_modes_reset.md R391) -/
def Obligations.DueTicksComeWhenDue : Prop :=
  ∀ s : State, s.boot.halted = false → s.canonical = true → s.gated = false →
    (∀ c, s.trv.stillFrom = some c → s.still = true → s.trv.graceDone = false →
      ∃ u : State, ∃ r k, exec .graceClose s = .next u.tick ∧ u = { s with regs := r, clk := k } ∧ u.now % 32 = 0 ∧
        c + msClocks (s.fld F.PLN_CFG_GRACE) ≤ u.clk.cc) ∧
    (∀ t, s.plan.uNext = some t → s.plan.kind = 2 → 0 < Machine.dist t s.now →
      ∃ u : State, ∃ r k, exec .uniformPeriodStart s = .next u.tick ∧ u = { s with regs := r, clk := k } ∧ u.now % 32 = 0 ∧
        0 ≤ Machine.dist u.now t) ∧
    (s.modeNow = modeHold → s.fld F.MOD_CFG_IDLETO ≠ 0 →
      ∃ u : State, ∃ r k, exec .idleTimeout s = .next u.tick ∧ u = { s with regs := r, clk := k } ∧ u.now % 32 = 0 ∧
        u.idleOut = true) ∧
    (s.flag F.MOD_WAKE_DEN = true → 0 < Machine.dist (s.fld F.MOD_DORMAT_TIME) s.now →
      ∃ u : State, ∃ r k, exec .scheduledDormancy s = .next u.tick ∧ u = { s with regs := r, clk := k } ∧ u.now % 32 = 0 ∧
        0 ≤ Machine.dist u.now (u.fld F.MOD_DORMAT_TIME))

/-- WAKE_TIME with WEN = 1 clears WEN; in DORMANT with the clocks gated the clocks run again and HOLD waits for the next
tick; outside DORMANT nothing else changes but the clock. DORMANT_CLOCK_GATING at the end of an entry gates the clocks
and clears TRANS, and leaves every other register, memory, the queues and the flash; with a wake waiting the node
wakes instead. (spec/18_startup_modes_reset.md R387; spec/18_startup_modes_reset.md R389;
spec/18_startup_modes_reset.md R391) -/
def Obligations.WakeAndClockGating : Prop :=
  ∀ s : State, s.boot.halted = false →
    (s.flag F.MOD_WAKE_WEN = true → ∃ t : State, exec .wakeTime s = .next t ∧
      (s.modeNow ≠ modeDormant → t.flag F.MOD_WAKE_WEN = false ∧ t.mem = s.mem ∧ t.flash = s.flash ∧ t.queues = s.queues ∧
        ∀ a, a ≠ 0x200 → a ≠ F.MOD_WAKE_WEN.addr → t.reg a = s.reg a) ∧
      (s.modeNow = modeDormant → s.gated = true → t.flag F.MOD_WAKE_WEN = false ∧ t.gated = false ∧ t.mode.waking = true)) ∧
    (s.mode.dorm = 5 → s.ser.job = none → s.flag F.SER_PP_RAW_BUSY = false → s.led.stage = 0 →
      (∀ n, n < 8 → n ≠ s.fld F.LDG_CFG_DCH → s.movRuns n = false) →
      ∃ t : State, exec .dormantClockGating s = .next t ∧
        (s.mode.waking = false → t.gated = true ∧ t.flag F.MOD_STAT_TRANS = false ∧ t.mem = s.mem ∧ t.flash = s.flash ∧
          t.queues = s.queues ∧ ∀ a, a ≠ F.MOD_STAT_TRANS.addr → t.reg a = s.reg a) ∧
        (s.mode.waking = true → s.modeNow = modeDormant → t.gated = false ∧ t.mode.waking = true))

/-- With the clocks running PROFILE_PUBLICATION notes the instant P_k, which is a multiple of 2^17 tb, uses the profiles
received that carry the instant 2^17 tb before it, counts them in PROF and drops all; with FFEN = 0 each bin of the
sum but the last is the sum of their next bins, the last is 0, and no item is sent. With the clocks gated nothing is
published. (spec/09_control_engine.md R210; spec/05_scheduler.md R134) -/
def Obligations.ProfilePublicationFormsTheSum : Prop :=
  ∀ s : State, s.boot.halted = false →
    (s.gated = false → ∃ t : State, exec .profilePublication s = .next t ∧ t.ctl.pk = some t.now ∧ t.ctl.sum.length = 24 ∧
      (s.canonical = true → t.now % 2 ^ 17 = 0) ∧ t.ctl.got = [] ∧
      t.fld F.CTL_EDDY_PROF = satAdd F.CTL_EDDY_PROF.width (s.fld F.CTL_EDDY_PROF)
        (s.ctl.got.filter (fun p => p.at_ == add40 t.now (-(2 ^ 17 : Int)))).length ∧
      (s.flag F.PLN_CFG_FFEN = false → t.queues = s.queues ∧ t.mem = s.mem ∧ t.ctl.sum[23]? = some 0 ∧ ∀ b, b < 23 →
        t.ctl.sum[b]? = some (((s.ctl.got.filter (fun p => p.at_ == add40 t.now (-(2 ^ 17 : Int)))).map
          (fun p => p.bins.getD (b + 1) 0)).foldl (· + ·) 0))) ∧
    (s.gated = true → exec .profilePublication s = .next s)

/-- In a core clock in which hardware updates no field, outside BOOT QUEUE_FLUSH and QUEUE_DISABLE discard every record of
the queue and put it in FLUSH with FLUSH reading 1; a valve queue's scheduled state becomes closed, its deferred open
is gone, and an open channel closes at the next tick; every queue but this one and Q61 keeps its records and the
queue's EN is as written. In BOOT they leave the queues and set FLDONE. FLUSH_COMPLETE ends a flush in SAFE, RUN or
OFF with FLUSH reading 0 and FLDONE 1. (spec/05_scheduler.md R135; spec/05_scheduler.md R136; spec/05_scheduler.md
R138) -/
def Obligations.QueueControlFlushes : Prop :=
  ∀ (s : State) (q : Fin 64) (v : Word), s.boot.halted = false →
    (s.calm = true → s.modeNow ≠ modeBoot → ∀ c ∈ [(Instr.queueFlush q v, bitOf v.toNat 2), (.queueDisable q v, false)],
      ∃ t : State, exec c.1 s = .next t ∧ (t.queue q).recs = [] ∧ (t.queue q).st = .flush ∧ t.flag (F.EVS_Qn_CTL_FLUSH q) = true ∧
        t.flag (F.EVS_Qn_CTL_EN q) = c.2 ∧ (∀ p, p ≠ q.val → p ≠ 61 → (t.queue p).recs = (s.queue p).recs) ∧
        (q.val < 48 → (t.valve q).sn = false ∧ (t.valve q).deferred = none ∧
          (s.chOpen q = true → (t.valve q).closeDue = true)) ∧ t.mem = s.mem ∧ t.flash = s.flash) ∧
    (s.calm = true → s.modeNow = modeBoot → ∀ c ∈ [Instr.queueFlush q v, .queueDisable q v],
      ∃ t : State, exec c s = .next t ∧ t.queues = s.queues ∧ t.flag (F.EVS_Qn_CTL_FLDONE q) = true) ∧
    ((s.queue q).st = .flush → ∃ t : State, exec (.flushComplete q) s = .next t ∧
      (t.queue q).st = (if (s.queue q).toSafe then .safe else if s.flag (F.EVS_Qn_CTL_EN q) then .run else .off) ∧
      t.flag (F.EVS_Qn_CTL_FLUSH q) = false ∧ t.flag (F.EVS_Qn_CTL_FLDONE q) = true ∧
      (t.queue q).recs = (s.queue q).recs ∧ t.mem = s.mem ∧ t.flash = s.flash ∧
      ∀ a, a ≠ (F.EVS_Qn_CTL_FLUSH q).addr → t.reg a = s.reg a)

/-- In a core clock in which hardware updates no field, outside BOOT QUEUE_ENABLE puts a queue that is OFF or SAFE in RUN
with its records, sets EN, leaves the other queues, and then lets waiting items move; in BOOT only EN is set.
MAP_SWAP_ARM sets ARM and shows the fence in force, which is PLN_FENCE unless that lies behind the frontier.
(spec/05_scheduler.md R138; spec/05_scheduler.md R136; spec/05_scheduler.md R140) -/
def Obligations.QueueEnableAndMapSwap : Prop :=
  ∀ (s : State) (q : Fin 64) (v : Word), s.boot.halted = false → s.calm = true →
    (s.modeNow ≠ modeBoot → (s.queue q).st = .off ∨ (s.queue q).st = .safe →
      ∃ u : State, exec (.queueEnable q v) s = .next u.flow.completed ∧ (u.queue q).st = .run ∧ (u.queue q).recs = (s.queue q).recs ∧
        u.flag (F.EVS_Qn_CTL_EN q) = true ∧ (∀ p, p ≠ q.val → u.queue p = s.queue p) ∧ u.mem = s.mem ∧ u.flash = s.flash ∧
        ∀ a, a ≠ (F.EVS_Qn_CTL_EN q).addr → u.reg a = s.reg a) ∧
    (s.modeNow = modeBoot → ∃ t : State, exec (.queueEnable q v) s = .next t ∧ t.queues = s.queues ∧
      t.flag (F.EVS_Qn_CTL_EN q) = true) ∧
    ∃ t : State, exec (.mapSwapArm v) s = .next t ∧ t.flag F.PLN_MAP_ARM = true ∧
      t.fld F.PLN_FENCEACT_FENCE = (match s.plan.frontier with
        | some x => if s.ahead (s.fld F.PLN_FENCE_FENCE) x < 0 then x % 2 ^ 40 else s.fld F.PLN_FENCE_FENCE
        | none => s.fld F.PLN_FENCE_FENCE) ∧
      t.mem = s.mem ∧ t.flash = s.flash ∧ t.queues = s.queues ∧
      ∀ a, a ≠ F.PLN_MAP_ARM.addr → a ≠ F.PLN_FENCEACT_FENCE.addr → t.reg a = s.reg a

/-- With the clocks running each of the eight mode commands, by any host path, adds its target behind the commands that
wait and changes nothing else but the note that a write has completed. With the clocks gated one that names another
mode than DORMANT wakes the node and is kept for the tick after HOLD; one that names DORMANT does nothing else.
(spec/18_startup_modes_reset.md R380; spec/18_startup_modes_reset.md R389) -/
def Obligations.ModeCommandsWaitForTheTick : Prop :=
  ∀ (s : State) (p : Path), s.boot.halted = false →
    ∀ c ∈ [(Instr.bootCommand p, modeBoot), (.holdCommand p, modeHold), (.commissionCommand p, modeCommission),
        (.prescribeCommand p, modePrescribe), (.uniformCommand p, modeUniform), (.fertigateCommand p, modeFertigate),
        (.limpCommand p, modeLimp), (.dormantCommand p, modeDormant)],
      (s.gated = false → exec c.1 s =
        .next ({ s with mode := { s.mode with cmds := s.mode.cmds ++ [c.2] } } : State).completed) ∧
      (s.gated = true → s.modeNow = modeDormant → ∃ t : State, exec c.1 s = .next t ∧
        (c.2 = modeDormant → t = s.completed) ∧
        (c.2 ≠ modeDormant → t.mode.waking = true ∧ t.gated = false ∧ t.mode.wakeCmd = some c.2))

/-- At a tick, a command that the node refuses leaves everything but MOD_STAT and the note of the update and sets CMDERR
and WHY to the code of Table 18-6; an accepted command naming the present mode leaves the state as it is.
(spec/18_startup_modes_reset.md R380) -/
def Obligations.RefusedModeCommandShowsWhy : Prop :=
  ∀ (s : State) (m cause : Nat),
    (s.refusal m ≠ 0 → ∃ r k, s.applyCommand m cause = { s with regs := r, core := k } ∧ (s.applyCommand m cause).flag F.MOD_STAT_CMDERR = true ∧
      (s.applyCommand m cause).fld F.MOD_STAT_WHY = s.refusal m ∧
      ∀ a, a ≠ F.MOD_STAT_WHY.addr → (s.applyCommand m cause).reg a = s.reg a) ∧
    (s.refusal m = 0 → m = s.modeNow → s.flag F.MOD_STAT_LIMPPEND = false → s.applyCommand m cause = s)

/-- A PUSHS word of a longer item starts the producer's assembly and counts the words of an incomplete item in EVS_ORPHAN;
a PUSHC word is added to it, counted in EVS_ORPHAN with no item in assembly, or counted in DROPW after a flush; the
queues do not change until the last word arrives. The last word submits the item: refused, it leaves the queues,
counts in REFUSED and shows its code; admitted, it adds its records to its queue. A PUSHS word that is an item of no
record is refused. (spec/05_scheduler.md R125; spec/05_scheduler.md R126; spec/05_scheduler.md R135) -/
def Obligations.ItemsAreAssembledPerProducer : Prop :=
  ∀ (s : State) (p : Path) (v : Word), s.boot.halted = false → ∀ k src, Writer.prod (some p) = (k, src) →
    (∃ t : State, exec (.pushStart p v) s = .next t ∧ t.queues = s.queues ∧
      t.fld F.EVS_ORPHAN_COUNT = satAdd F.EVS_ORPHAN_COUNT.width (s.fld F.EVS_ORPHAN_COUNT) (s.asm k).words.length ∧
      t.asm k = (if itemLen v ≤ 1 then {} else { words := [v], chks := [0] })) ∧
    (∀ q, (s.asm k).dropQ = some q → exec (.pushContinue p v) s = .next (s.inc (F.EVS_Qn_CTL_DROPW q)).completed) ∧
    ((s.asm k).dropQ = none → (s.asm k).words = [] → exec (.pushContinue p v) s = .next (s.inc F.EVS_ORPHAN_COUNT).completed) ∧
    (∀ w ws, (s.asm k).dropQ = none → (s.asm k).words = w :: ws →
      ∃ t : State, exec (.pushContinue p v) s = .next t ∧
        (ws.length + 2 < itemLen w → t.queues = s.queues ∧ (t.asm k).words = w :: ws ++ [v]) ∧
        (itemLen w ≤ ws.length + 2 → t.asm k = {} ∧
          (s.admitCode src (recQ w) (w :: ws ++ [v]) ≠ 0 → t.queues = s.queues ∧
            t.fld (F.EVS_Qn_ERR_LASTWHY (recQ w)) = s.admitCode src (recQ w) (w :: ws ++ [v])) ∧
          (s.admitCode src (recQ w) (w :: ws ++ [v]) = 0 →
            (t.queue (recQ w)).recs.length = (s.queue (recQ w)).recs.length + itemLen w / 3 ∧
            ∀ q, q ≠ recQ w → t.queue q = s.queue q)))

/-- With EVS_POPSEL naming Q59, Q61, Q62 or Q63, a read of EVS_POP whose word is clean takes the next word of the head
item: before the last word only the count of words read changes, and the last word releases the item's records and
lets waiting items move. With the ring empty, or another queue named, nothing changes. (spec/05_scheduler.md R137;
spec/20_register_map.md R414) -/
def Obligations.RingPopTakesWords : Prop :=
  ∀ (s : State) (p : Path), s.boot.halted = false → ∀ q, q = s.fld F.EVS_POPSEL_Q →
    (popRing q = false ∨ s.items q = [] → exec (.ringPop p) s = .next s) ∧
    (∀ r rs x, popRing q = true → s.items q = r :: rs → r[(s.queue q).popped / 3]? = some x →
      (s.sramData (0x10000 + 3 * x.slot + (s.queue q).popped % 3)).2 = 0 →
      (3 * r.length > (s.queue q).popped + 1 → exec (.ringPop p) s =
        .next (s.setQueue q { s.queue q with popped := (s.queue q).popped + 1 })) ∧
      (3 * r.length ≤ (s.queue q).popped + 1 → ∃ u : State, exec (.ringPop p) s = .next u.flow ∧
        (u.queue q).recs = (s.queue q).recs.drop r.length ∧ (u.queue q).popped = 0 ∧ u.regs = s.regs ∧ u.mem = s.mem ∧
        ∀ k, k ≠ q → u.queue k = s.queue k))

/-- In the core clock in which hardware has updated RWH fields or set W1C flags of a register, the bits that a
REGISTER_WRITE carries for them make no difference: two words that agree in all other bits have the same outcome, by
every host path. (spec/00_scope.md R14) -/
def Obligations.HardwareWinsInItsCoreClock : Prop :=
  ∀ (s : State) (p : Path) (a : BitVec 24) (r : RegRow) (v w : Word), s.boot.halted = false → regAt a.toNat = some r →
    (∀ u : State, u = (if inInputs a.toNat then (List.range 4).foldl (fun u n => u.settle n u.clk.cc) s else s) →
      ∀ i, i < 40 → bitOf (u.fresh a.toNat &&& (r.rw ||| r.w1c)) i = false → bitOf v.toNat i = bitOf w.toNat i) →
    exec (.registerWrite p a v) s = exec (.registerWrite p a w) s

/-- INDEX_ARM arms and disarms, in a core clock in which neither the inputs' filters nor other hardware update the
register. On an encoder whose lines and filter agree, ENCODER_EDGE with levels that hold for the filter time adds what
Table 3-2 gives for them to the count, modulo 2^40, or counts a phase error and leaves the count; levels held for less
leave levels and count. A qualified INDEX_EDGE held so latches the count before it; armed, it loads PRESET, clears ARM
and sets IDXTAKEN, and not armed it leaves the count, but for the edge of the same clock. The other encoders, memory
and the flash are left. (spec/03_travel_inputs.md R55) -/
def Obligations.EncoderCountsAndIndex : Prop :=
  ∀ (s : State) (n : Fin 4) (a b : Bool) (gap : Nat) (v : Word), s.boot.halted = false →
    (s.calm = true → (∀ m, m < 4 → s.filtDue m = none) →
      ∃ t : State, exec (.indexArm n v) s = .next t ∧ t.flag (F.TRV_ENn_CFG_ARM n) = bitOf v.toNat 11 ∧
        t.fld (F.TRV_ENn_CNT_CNT n) = s.fld (F.TRV_ENn_CNT_CNT n) ∧ (∀ m, m ≠ n.val → t.encOf m = s.encOf m) ∧
        t.mem = s.mem ∧ t.flash = s.flash ∧ ∀ i, i ≠ (F.TRV_ENn_CFG_ARM n).addr → t.reg i = s.reg i) ∧
    (s.filtDue n = none → ∃ t : State, exec (.encoderEdge n a b gap) s = .next t ∧
      (∀ m, m ≠ n.val → t.encOf m = s.encOf m) ∧ t.mem = s.mem ∧ t.flash = s.flash ∧
      (gap + 1 < s.filtHold n → (t.encOf n).a = (s.encOf n).a ∧ (t.encOf n).b = (s.encOf n).b ∧
        t.fld (F.TRV_ENn_CNT_CNT n) = s.fld (F.TRV_ENn_CNT_CNT n) ∧ (t.encOf n).tally = (s.encOf n).tally) ∧
      (s.filtHold n ≤ gap + 1 → (t.encOf n).a = a ∧ (t.encOf n).b = b ∧
        (match countEdge (s.fld (F.TRV_ENn_CFG_MODE n)) (s.flag (F.TRV_ENn_CFG_INV n)) (s.encOf n).a (s.encOf n).b a b with
          | none => t.fld (F.TRV_ENn_CNT_CNT n) = s.fld (F.TRV_ENn_CNT_CNT n) ∧
              t.fld (F.TRV_ENn_CFG_PHERR n) = satAdd 16 (s.fld (F.TRV_ENn_CFG_PHERR n)) 1
          | some d => t.fld (F.TRV_ENn_CNT_CNT n) = add40 (s.fld (F.TRV_ENn_CNT_CNT n)) d ∧
              (t.encOf n).tally = (s.encOf n).tally + d))) ∧
    (∀ z, z = s.fld (F.TRV_ENn_CFG_ZQUAL n) → z = 0 ∨ z = 3 ∨ ((s.encOf n).a = true ∧ (z = 1 ∨ (s.encOf n).b = true)) →
      s.filtDue n = none → s.filtHold n ≤ gap + 1 →
      ∃ t : State, exec (.indexEdge n a b gap) s = .next t ∧ t.fld (F.TRV_ENn_IDX_IDX n) = s.fld (F.TRV_ENn_CNT_CNT n) ∧
        t.flag (F.TRV_ENn_CFG_ARM n) = false ∧
        (s.flag (F.TRV_ENn_CFG_ARM n) = true → t.flag (F.TRV_ENn_CFG_IDXTAKEN n) = true) ∧
        t.fld (F.TRV_ENn_CNT_CNT n) = add40
          (if s.flag (F.TRV_ENn_CFG_ARM n) then s.fld (F.TRV_ENn_PRESET_PRESET n) else s.fld (F.TRV_ENn_CNT_CNT n))
          ((countEdge (s.fld (F.TRV_ENn_CFG_MODE n)) (s.flag (F.TRV_ENn_CFG_INV n)) (s.encOf n).a (s.encOf n).b a b).getD 0) ∧
        (∀ m, m ≠ n.val → t.encOf m = s.encOf m) ∧ t.mem = s.mem ∧ t.flash = s.flash)

/-- LINE_BREAK sets BREAK of an input in RS-422 mode and LINE_BREAK_END clears it, and no other register changes; on an
input in 24 V mode, or with BREAK set, LINE_BREAK changes nothing. With the clocks running SSI_READ_START starts a
read when none is in progress, at a tick a whole number of periods of PER ticks after the last start and 25 µs after
the last frame or later. SSI_READ_COMPLETE ends it: a low line, a wrong parity or a jump counts in ERRCNT, keeps VAL
and at the third in a row clears VALID; a good read writes VAL and at the third in a row sets VALID.
(spec/03_travel_inputs.md R51; spec/03_travel_inputs.md R59; spec/03_travel_inputs.md R61) -/
def Obligations.LineBreakAndSerialReads : Prop :=
  ∀ s : State, s.boot.halted = false →
    (∀ n : Fin 4, s.flag (F.TRV_ENn_CFG_ELEC n) = false → s.flag (F.TRV_ENn_CFG_BREAK n) = false →
      ∃ t : State, exec (.lineBreak n) s = .next t ∧ t.flag (F.TRV_ENn_CFG_BREAK n) = true ∧
        (t.encOf n).brkFrom = some s.clk.cc ∧ ∀ i, i ≠ (F.TRV_ENn_CFG_BREAK n).addr → t.reg i = s.reg i) ∧
    (∀ n : Fin 4, s.flag (F.TRV_ENn_CFG_ELEC n) = true ∨ s.flag (F.TRV_ENn_CFG_BREAK n) = true →
      exec (.lineBreak n) s = .next s) ∧
    (∀ n : Fin 4, ∃ t : State, exec (.lineBreakEnd n) s = .next t ∧ t.flag (F.TRV_ENn_CFG_BREAK n) = false ∧
      (t.encOf n).brkFrom = none ∧ ∀ i, i ≠ (F.TRV_ENn_CFG_BREAK n).addr → t.reg i = s.reg i) ∧
    (∀ n : Fin 2, s.gated = false → (s.ssOf n).reading = none →
      ∃ t k, exec (.ssiReadStart n) s = .next t ∧ (t.ssOf n).reading = some k ∧ (t.ssOf n).startCc = t.clk.cc ∧
        (t.ssOf n).lastStart = some k ∧ (t.ssOf n).good = (s.ssOf n).good ∧
        (∀ l, (s.ssOf n).lastStart = some l → ∃ j : Nat, 1 ≤ j ∧ k = add40 l (32 * s.ssPer n * j : Nat)) ∧
        ((s.ssOf n).lastStart = none → k % 32 = 0) ∧ (∀ c, (s.ssOf n).ended = some c → c + usClocks 25 ≤ t.clk.cc) ∧
        ∀ i, i ≠ 0x200 → t.reg i = s.reg i) ∧
    (∀ (n : Fin 2) (low par : Bool) (d r : Nat), s.gated = false → (s.ssOf n).reading = some r → d < 2 ^ s.ssBits n →
      ∃ t : State, exec (.ssiReadComplete n low d par) s = .next t ∧ (t.ssOf n).reading = none ∧
        (∀ raw bad, raw = (if s.flag (F.TRV_SSn_CFG_CODE n) then grayToBin (s.ssBits n) d else d) →
          bad = (low || parityBad (s.fld (F.TRV_SSn_CFG_PAR n)) (s.ssBits n) d par || (match (s.ssOf n).lastRaw with
            | some x => s.fld (F.TRV_SSn_JUMPMAX_JUMPMAX n) ≠ 0 &&
                (sx (s.ssBits n) (wrapW (s.ssBits n) ((raw : Int) - x))).natAbs > s.fld (F.TRV_SSn_JUMPMAX_JUMPMAX n)
            | none => false)) →
          (bad = true → t.fld (F.TRV_SSn_VAL_VAL n) = s.fld (F.TRV_SSn_VAL_VAL n) ∧
            t.fld (F.TRV_SSn_CFG_ERRCNT n) = satAdd 16 (s.fld (F.TRV_SSn_CFG_ERRCNT n)) 1 ∧
            t.flag (F.TRV_SSn_CFG_VALID n) = (s.flag (F.TRV_SSn_CFG_VALID n) && decide ((s.ssOf n).bad + 1 < 3))) ∧
          (bad = false → t.fld (F.TRV_SSn_VAL_VAL n) = wrap40 (if s.flag (F.TRV_SSn_CFG_INV n) then -(raw : Int) else raw) ∧
            t.fld (F.TRV_SSn_CFG_ERRCNT n) = s.fld (F.TRV_SSn_CFG_ERRCNT n) ∧
            t.flag (F.TRV_SSn_CFG_VALID n) = (s.flag (F.TRV_SSn_CFG_VALID n) || decide (3 ≤ (s.ssOf n).good + 1)))))

/-- With the clocks running and travel not lost, SOURCE_INVALID lets time pass to the end of its cause; where the source
in use is invalid then, time passes to the next scheduler tick, where the node acts on it, and otherwise nothing more
happens. BEACON_LOSS does so 2.0 s after the last beacon or after beacons were taken. To act on an invalid source is
to use a valid ALT with ALTACT 1, or, with none, to set LOST with SPEED, ACCEL and STILL reading 0; the switch sets
the bias so that travel goes on from the last tick's value carried forward. STANDSTILL_ASSERT with an encoder in use
forces SPEED and ACCEL to 0 and sets STILL, STILLTO after the last edge that the filter has passed; with another
source the standstill rule of a tick is judged. With the clocks gated or travel lost nothing happens.
(spec/03_travel_inputs.md R65; spec/03_travel_inputs.md R67; spec/03_travel_inputs.md R75; spec/03_travel_inputs.md
R76; spec/01_machine_and_node.md R21) -/
def Obligations.LossOfTheSourceInUse : Prop :=
  ∀ s : State, s.boot.halted = false →
    (s.flag F.TRV_STAT_LOST = false → s.gated = false → ∃ u : State, ∃ r k, u = { s with regs := r, clk := k } ∧
      (∀ i, i ≠ 0x200 → u.reg i = s.reg i) ∧
      (∀ b, s.fld F.TRV_SRC_USING < 4 → (s.encOf (s.fld F.TRV_SRC_USING)).brkFrom = some b → b + msClocks 10 ≤ u.clk.cc) ∧
      (∀ c, s.fld F.TRV_SRC_USING = 6 → s.trv.fixCc = some c → c + secClocks 1 ≤ u.clk.cc) ∧
      exec .sourceInvalid s = .next (if u.usingInvalid then u.toTick.actInvalid else u)) ∧
    (s.flag F.TRV_STAT_LOST = false → s.gated = false → s.fld F.TRV_SRC_USING = 7 →
      ∃ u : State, ∃ r k, u = { s with regs := r, clk := k } ∧ (∀ i, i ≠ 0x200 → u.reg i = s.reg i) ∧
        max (s.trv.bcnCc.getD 0) s.trv.srcFrom + secClocks 2 ≤ u.clk.cc ∧ exec .beaconLoss s = .next u.toTick.actInvalid) ∧
    (s.canonical = true → s.toTick.now % 32 = 0 ∧ ∃ r k, s.toTick = { s with regs := r, clk := k }) ∧
    (s.alt = 15 ∨ s.sourceValid s.alt = false → s.actInvalid.flag F.TRV_STAT_LOST = true ∧
      s.actInvalid.fld F.TRV_SPEED_SPEED = 0 ∧ s.actInvalid.fld F.TRV_ACCEL_ACCEL = 0 ∧
      s.actInvalid.flag F.TRV_STAT_STILL = false ∧ s.actInvalid.mode.lost = true) ∧
    (s.alt ≠ 15 → s.sourceValid s.alt = true → s.alt ≠ s.fld F.TRV_SRC_USING →
      s.actInvalid.fld F.TRV_SRC_USING = s.alt ∧ s.actInvalid.flag F.TRV_STAT_ALTACT = true ∧
      ∀ x, s.rawTravel s.alt s.now = some x → s.actInvalid.rawTravel s.alt s.now = some (wrap40 ((s.travel : Int) +
        roundAway (s.fldI F.TRV_SPEED_SPEED * Machine.dist s.now s.trv.lastTick) (2 ^ 28)))) ∧
    (s.flag F.TRV_STAT_LOST = false → s.still = false → s.gated = false → s.fld F.TRV_SRC_USING < 4 →
      ∀ u : State, u = s.settle (s.fld F.TRV_SRC_USING) s.clk.cc → u.still = false →
      ∃ t : State, exec .standstillAssert s = .next t ∧ t.flag F.TRV_STAT_STILL = true ∧ t.fld F.TRV_SPEED_SPEED = 0 ∧
        t.fld F.TRV_ACCEL_ACCEL = 0 ∧ t.trv.stillFrom = some t.clk.cc ∧ u.stillDue (s.fld F.TRV_SRC_USING) ≤ t.clk.cc ∧
        t.mem = s.mem ∧ t.queues = u.queues) ∧
    (s.flag F.TRV_STAT_LOST = false → s.still = false → s.gated = false → 4 ≤ s.fld F.TRV_SRC_USING →
      exec .standstillAssert s = .next s.judgeStill) ∧
    (s.flag F.TRV_STAT_LOST = true ∨ s.gated = true →
      ∀ c ∈ [Instr.sourceInvalid, .beaconLoss, .standstillAssert], exec c s = .next s)

/-- In a core clock in which hardware updates no field, u being the state in which the inputs' filters have accepted what
is due: TRV_BIAS_WRITE takes the new bias, and its change c is a correction: up to the threshold it is spread over
8,192 ticks, above it is applied at once and counted in JUMPS; a bias that does not change leaves every register.
TRV_OFFSET_WRITE takes the new offset, and the change is a correction in the same way. PRIMARY_SOURCE_WRITE takes PRI,
ALT and BLEND for the next tick. A changed EN or ANTI of a dual-channel input starts its comparison afresh at the next
sample. (spec/03_travel_inputs.md R68) -/
def Obligations.BiasWriteIsACorrection : Prop :=
  ∀ (s : State) (v : Word), s.boot.halted = false → s.calm = true →
    (∀ u : State, u = (List.range 4).foldl (fun u n => u.settle n u.clk.cc) s → u.calm = true →
      (∃ t : State, exec (.trvBiasWrite v) s = .next t ∧ t.fld F.TRV_BIAS_BIAS = v.toNat ∧
        (∀ c, c = Machine.dist v.toNat (u.fld F.TRV_BIAS_BIAS) →
          (c = 0 → t.regs = u.regs ∧ t.trv = u.trv) ∧
          (c ≠ 0 → c.natAbs ≤ u.fld F.TRV_JUMPTHR_THR →
            t.trv = { u.trv with rem := c * 8192, part := c, held := u.trv.held || decide (u.trv.rem ≠ 0) } ∧
            t.fld F.TRV_CFG_JUMPS = u.fld F.TRV_CFG_JUMPS) ∧
          (u.fld F.TRV_JUMPTHR_THR < c.natAbs → t.trv = { u.trv with rem := 0, part := 0, held := true } ∧
            t.fld F.TRV_CFG_JUMPS = satAdd F.TRV_CFG_JUMPS.width (u.fld F.TRV_CFG_JUMPS) 1)) ∧
        (∀ i, i ≠ F.TRV_BIAS_BIAS.addr → i ≠ F.TRV_CFG_JUMPS.addr → t.reg i = u.reg i) ∧ t.mem = u.mem ∧
        t.queues = u.queues) ∧
      (∃ t : State, exec (.primarySourceWrite v) s = .next t ∧ t.trv = { u.trv with priPend := true } ∧
        t.fld F.TRV_SRC_PRI = bitsOf v.toNat 3 0 ∧ t.fld F.TRV_SRC_ALT = bitsOf v.toNat 7 4 ∧
        t.flag F.TRV_SRC_BLEND = bitOf v.toNat 8 ∧ t.fld F.TRV_SRC_USING = u.fld F.TRV_SRC_USING ∧
        ∀ i, i ≠ F.TRV_SRC_PRI.addr → t.reg i = u.reg i)) ∧
    (∃ t : State, exec (.trvOffsetWrite v) s = .next t ∧ t.fld F.TRV_OFFSET_OFFSET = v.toNat ∧
      (∀ c, c = Machine.dist v.toNat (s.fld F.TRV_OFFSET_OFFSET) →
        (c = 0 → t.regs = s.regs ∧ t.trv = s.trv) ∧
        (c ≠ 0 → c.natAbs ≤ s.fld F.TRV_JUMPTHR_THR →
          t.trv = { s.trv with rem := c * 8192, part := c, held := s.trv.held || decide (s.trv.rem ≠ 0) }) ∧
        (s.fld F.TRV_JUMPTHR_THR < c.natAbs → t.trv = { s.trv with rem := 0, part := 0, held := true } ∧
          t.fld F.TRV_CFG_JUMPS = satAdd F.TRV_CFG_JUMPS.width (s.fld F.TRV_CFG_JUMPS) 1)) ∧
      t.mem = s.mem ∧ t.queues = s.queues) ∧
    (∀ m : Fin 4, ∃ t : State, exec (.dualChannelConfigWrite m v) s = .next t ∧
      (t.flag (F.TRV_DCm_EN m) ≠ s.flag (F.TRV_DCm_EN m) ∨ t.flag (F.TRV_DCm_ANTI m) ≠ s.flag (F.TRV_DCm_ANTI m) →
        spGet (fun _ => false) t.ms.restart m = true) ∧
      t.flag (F.TRV_DCm_EN m) = bitOf v.toNat (F.TRV_DCm_EN m).lo ∧ t.flag (F.TRV_DCm_ANTI m) = bitOf v.toNat (F.TRV_DCm_ANTI m).lo ∧
      t.fld (F.TRV_DCm_T m) = bitsOf v.toNat (F.TRV_DCm_T m).hi (F.TRV_DCm_T m).lo ∧
      ∀ i, i ≠ (F.TRV_DCm_T m).addr → t.reg i = s.reg i)

/-- MS_SAMPLE runs at the next 1 ms instant u: it shows the raw levels, an input that differs from its debounced state for
the third sample in a row changes it and one that agrees starts its run afresh, and the rest is the evaluation of the
clears and the four dual-channel inputs; a change of an input in MSMASK ends DORMANT. (spec/03_travel_inputs.md R77;
spec/03_travel_inputs.md R78; spec/19_fault_supervision.md R402) -/
def Obligations.MagneticSwitchSample : Prop :=
  ∀ (s : State) (raw : BitVec 8), s.boot.halted = false → s.canonical = true →
    ∃ u v : State, ∃ r k, u = { s with regs := r, clk := k } ∧ u.now % 1024 = 0 ∧ (∀ i, i ≠ 0x200 → u.reg i = s.reg i) ∧
      v.fld F.TRV_MS_STAT_RAW = raw.toNat ∧ v.mem = s.mem ∧ v.queues = s.queues ∧ v.trv = s.trv ∧
      (∀ i, i ≠ 0x200 → i ≠ F.TRV_MS_STAT_RAW.addr → v.reg i = s.reg i) ∧
      (∀ i, i < 8 →
        (bitOf (raw.toNat ^^^ s.fld F.TRV_MS_CFG_INV) i = bitOf (s.fld F.TRV_MS_STAT_DEB) i →
          bitOf (v.fld F.TRV_MS_STAT_DEB) i = bitOf (s.fld F.TRV_MS_STAT_DEB) i ∧ spGet (fun _ => 0) v.ms.runs i = 0) ∧
        (bitOf (raw.toNat ^^^ s.fld F.TRV_MS_CFG_INV) i ≠ bitOf (s.fld F.TRV_MS_STAT_DEB) i →
          bitOf (v.fld F.TRV_MS_STAT_DEB) i = (if spGet (fun _ => 0) s.ms.runs i ≥ 2 then !bitOf (s.fld F.TRV_MS_STAT_DEB) i
            else bitOf (s.fld F.TRV_MS_STAT_DEB) i) ∧
          spGet (fun _ => 0) v.ms.runs i = (if spGet (fun _ => 0) s.ms.runs i ≥ 2 then 0 else spGet (fun _ => 0) s.ms.runs i + 1))) ∧
      (∀ w : State, w = (List.range 4).foldl (fun s m => s.dcSample m) v.evalClears →
        exec (.msSample raw) s = .next (if (s.fld F.TRV_MS_STAT_DEB ^^^ w.fld F.TRV_MS_STAT_DEB) &&& s.fld F.MOD_WAKE_MSMASK ≠ 0
          then w.wake else w))

/-- HOLDOVER_ENTRY of a LOCKED node lets time pass to 1.0 s after its last valid input, freezes the rate term at its
average over the last 60 s of LOCKED operation, shows STATE 2 and leaves every register but system time, RATE and
STAT; which way an average between two units of the rate term is rounded is free (log 5). HOLDOVER_EXPIRED lets time
pass to HOLDMAX, limited to 10 to 3,600 s, after that entry, keeps the rate term, shows STATE 0 and sets HOLDEXP.
(spec/02_travel_and_timebase.md R42) -/
def Obligations.HoldoverFollowsLossOfInput : Prop :=
  ∀ s : State, s.boot.halted = false →
    (∀ c, s.clk.lastDisc = some c → s.fld F.TBS_STAT_STATE = 1 →
      ∃ t : State, exec .holdoverEntry s = .next t ∧ t.fld F.TBS_STAT_STATE = 2 ∧ c + secClocks 1 ≤ t.clk.cc ∧
        t.clk.holdFrom = t.clk.cc ∧
        (∀ a n, rateSum (secClocks 60) ((t.clk.cc - s.clk.runStart, s.fldI F.TBS_RATE_RATE) :: s.clk.lockRuns) = (a, n) →
          n ≠ 0 → t.fldI F.TBS_RATE_RATE = sx 24 (wrapW 24 (freeRound 11 a n))) ∧
        (∀ i, i ≠ 0x200 → i ≠ F.TBS_STAT_STATE.addr → i ≠ F.TBS_RATE_RATE.addr → t.reg i = s.reg i) ∧
        t.mem = s.mem ∧ t.queues = s.queues ∧ t.trv = s.trv) ∧
    (s.fld F.TBS_STAT_STATE = 2 → ∃ t : State, exec .holdoverExpired s = .next t ∧ t.fld F.TBS_STAT_STATE = 0 ∧
      t.flag F.TBS_STAT_HOLDEXP = true ∧ t.fld F.TBS_RATE_RATE = s.fld F.TBS_RATE_RATE ∧
      s.clk.holdFrom + secClocks (clampN 10 3600 (s.fld F.TBS_CTRL_HOLDMAX)) ≤ t.clk.cc ∧ t.mem = s.mem ∧ t.trv = s.trv)

/-- A beacon that passes the receive checks is entered, taken, and the node that waits moves on. On a span node one of an
epoch not below the highest seen shows its sender and epoch, gives a new travel base with the beacon's travel and
speed unless it says travel is lost, and with the clocks running leaves its offset, reference time, wrap and leap
seconds for the next tick; one of a lower epoch is counted in BCNLOW and nothing else. What waits for the tick makes
the timebase LOCKED to beacons with those leap seconds. BEACON_TRANSMIT on the active head puts a beacon of the
present state on the cable under the group key at the end of the gap after the medium was last busy, when that comes
before the next instant, and nothing otherwise; another node sends none. (spec/02_travel_and_timebase.md R41;
spec/02_travel_and_timebase.md R44; spec/02_travel_and_timebase.md R47; spec/12_span_link.md R276;
spec/12_span_link.md R278) -/
def Obligations.BeaconsGiveTravelAndTime : Prop :=
  (∀ (s u : State) (f : Frame), s.boot.halted = false → f.cls.val = clsBeacon →
    (s.arrive f).rxChecks f (formOf f) 0 = (.accepted, u) →
    exec (.beacon f) s = .next ((u.accept f 0 0).takeBeacon f).flow) ∧
  (∀ (s t : State) (f : Frame) (pl : List Byte), s.role = roleSpan → s.hd.arb = none → pl = f.payload → t = s.takeBeacon f →
    (bytesAt pl 20 4 < s.fld F.SLK_BCN_EPOCH → t = s.inc F.SLK_BCN_BCNLOW) ∧
    (s.fld F.SLK_BCN_EPOCH ≤ bytesAt pl 20 4 → t.lnk.head = some f.src.val ∧ t.fld F.SLK_BCN_EPOCH = bytesAt pl 20 4 ∧
      t.hd.bcnCc = some s.clk.cc ∧ t.clk.lastDisc = some s.clk.cc ∧
      (s.gated = false → t.clk.due = some { off := s.beaconOffset f * 10 ^ 9 / 2 ^ 20, reft := bytesAt pl 0 5
                                            wrap := bytesAt pl 24 3, leap := bytesAt pl 27 1 }) ∧
      (bitOf (bytesAt pl 28 1) 5 = true → t.trv.bcnCc = s.trv.bcnCc) ∧
      (bitOf (bytesAt pl 28 1) 5 = false → t.trv.bcnCc = some s.clk.cc ∧
        ∃ b, t.trv.bcn = some b ∧ b.x = bytesAt pl 5 5 ∧ b.v = sx 40 (bytesAt pl 15 5)))) ∧
  (∀ (s : State) (d : TimeDue), s.clk.due = some d → s.applyDue.fld F.TBS_STAT_STATE = 1 ∧
    s.applyDue.flag F.TBS_STAT_SRC = true ∧ s.applyDue.clk.due = none ∧ s.applyDue.fld F.TBS_LEAP_LEAP = d.leap % 256) ∧
  (∀ (s u v w : State) (wait : Nat), s.boot.halted = false →
    (s.isHead = true → s.linkOn = true → s.modeNow ≠ modeDormant → u = s.takeInstant clsBeaconTx (2 ^ 18) 0 →
      v = (if wait = 0 then u else u.busy u.clk.cc (u.clk.cc + wait)) → w = v.advCcTo (v.lnk.busyTo + v.gapCc) →
      (∀ (g : GroupKey) (gs : List GroupKey), s.key.grp = g :: gs → Machine.dist w.now u.now < (2 ^ 18 : Nat) →
        ∃ (t : State) (f : Frame), exec (.beaconTransmit wait) s = .next t ∧
          t.lnk.sent = some f ∧ f.cls = 1 ∧ f.bc = true ∧ f.seq = BitVec.ofNat 16 s.nextSeq ∧
          f.payload = (w.advCc w.preamble).beaconBytes ∧ f.tag = BitVec.ofNat 64 (tagOf g.key { f with tag := 0 }) ∧
          t.mem = s.mem ∧ t.trv = s.trv ∧ (s.hd.first = false → t.queues = s.queues)) ∧
      ((2 ^ 18 : Nat) ≤ Machine.dist w.now u.now → exec (.beaconTransmit wait) s = .next w)) ∧
    (s.isHead = false ∨ s.linkOn = false ∨ s.modeNow = modeDormant → exec (.beaconTransmit wait) s = .next s))

/-- With the antenna biased, more than 80 mA removes the bias and sets ANTSHORT, less than 2 mA sets ANTOPEN and 2 to 80
mA clears it; 10 s after a short the bias is tried again. With the baseband on, a bin's count of spectra above THR
goes on or starts at 0, a notch goes only to a bin with 10 of them, a notch that follows its interferer moves by one
bin at most, and with EN = 0 no notch is in use; JAM_UPDATE shows the level that the gains give. With the antenna not
biased, or the baseband off, these commands change nothing. (spec/04_gnss.md R85; spec/04_gnss.md R87; spec/04_gnss.md
R88) -/
def Obligations.AntennaAndInterference : Prop :=
  ∀ s : State, s.boot.halted = false →
    (∀ ua : Nat, s.biased = true →
      (80000 < ua → ∃ t : State, exec (.antennaFault ua) s = .next t ∧ t.flag F.GNB_STAT_ANTSHORT = true ∧
        t.gnb.antOff = some s.clk.cc ∧ t.mem = s.mem) ∧
      (ua < 2000 → ∃ t : State, exec (.antennaFault ua) s = .next t ∧ t.flag F.GNB_STAT_ANTOPEN = true ∧
        t.gnb = s.gnb ∧ t.mem = s.mem) ∧
      (2000 ≤ ua → ua ≤ 80000 → exec (.antennaFaultEnd ua) s = .next (s.setFlag F.GNB_STAT_ANTOPEN false))) ∧
    (∀ ua : Nat, s.biased = false → exec (.antennaFault ua) s = .next s ∧ exec (.antennaFaultEnd ua) s = .next s) ∧
    (s.gnssPowered = false ∨ s.fld F.GNB_CFG_MODE = 0 → ∀ bins (gcal g : Int), exec (.spectralMonitor bins) s = .next s ∧
      exec (.jamUpdate gcal g) s = .next s) ∧
    (∀ (ua c : Nat), s.gnb.antOff = some c → s.gnssPowered = true → s.fld F.GNB_CFG_BIAS = 1 ∨ s.fld F.GNB_CFG_BIAS = 2 →
      ∃ t : State, exec (.antennaBiasRetry ua) s = .next t ∧ c + secClocks 10 ≤ t.clk.cc ∧
        (80000 < ua → t.gnb.antOff = some t.clk.cc ∧ t.flag F.GNB_STAT_ANTSHORT = true) ∧
        (ua ≤ 80000 → t.gnb.antOff = none ∧ t.flag F.GNB_STAT_ANTSHORT = false ∧ 
          t.flag F.GNB_STAT_ANTOPEN = decide (ua < 2000))) ∧
    (s.gnssPowered = true → s.fld F.GNB_CFG_MODE ≠ 0 →
      (∀ bins : List SpecBin, ∃ t : State, exec (.spectralMonitor bins) s = .next t ∧ t.queues = s.queues ∧ t.mem = s.mem ∧
        (∀ n, spGet (fun _ => 0) t.gnb.bins n =
          if bins.any (fun b => b.bin.val == n && b.pwr > 8 * s.fld F.GNB_NCFG_THR) then
            min 11 (spGet (fun _ => 0) s.gnb.bins n + 1) else 0) ∧
        (s.flag F.GNB_NCFG_EN = false → t.gnb.notch = []) ∧
        (∀ p ∈ t.gnb.notch, (∃ q ∈ s.gnb.notch, q.1 = p.1 ∧
            (p.2.bin = q.2.bin ∨ p.2.bin = (q.2.bin + 1) % 256 ∨ (p.2.bin + 1) % 256 = q.2.bin)) ∨
          10 ≤ spGet (fun _ => 0) t.gnb.bins p.2.bin)) ∧
      (∀ gcal g : Int, ∃ t : State, exec (.jamUpdate gcal g) s = .next t ∧
        t.fld F.GNB_JAM_JAM = (clampI 0 255 (roundAway (8 * (gcal - g)) 256)).toNat ∧
        t.fld F.GNB_JAM_JAMWARN = s.fld F.GNB_JAM_JAMWARN ∧ t.mem = s.mem ∧ t.trv = s.trv))

/-- While the node tracks, a detection of an enabled satellite above the mask that both searches confirm, that no channel
has yet, takes a free channel in state 2 with its C/N0 when one is free and, for an SBAS satellite, fewer than three
are tracked; with no channel free a satellite takes that of the lowest one when it stands higher. A detection that is
not confirmed, enabled or above the mask changes nothing. A phase-lock indicator below 0.6 notes a slip; C/N0 below
LOSSCN takes the channel back to aided acquisition and out of the fix. ANCHOR_WRITE makes the next valid fix anchor.
(spec/04_gnss.md R84; spec/04_gnss.md R90; spec/04_gnss.md R92; spec/04_gnss.md R99) -/
def Obligations.SatellitesAreAcquiredAndLost : Prop :=
  ∀ s : State, s.boot.halted = false →
    (∀ (sv el cn0 : Nat) (p q : Peak), s.tracking = true →
      (s.detects sv p q = true → s.svEnabled sv = true → s.fld F.GNB_CFG_ELMASK < el → el ≤ 90 →
        (∀ n, n < 48 → s.chSv n ≠ sv) →
        ((∃ n, n < 48 ∧ s.chSv n = 0) →
          (svSbas sv = true → ((List.range 48).filter (fun n => svSbas (s.chSv n))).length < 3) →
          ∃ (t : State) (n : Nat), exec (.acquisitionDetection sv el cn0 p q) s = .next t ∧ n < 48 ∧ s.chSv n = 0 ∧
            t.chSv n = sv ∧ t.chTrk n = 2 ∧ t.fld (F.GNB_CHk_CN0 n) = min 63 cn0 ∧ t.fld (F.GNB_CHk_EL n) = el ∧
            (∀ m, m < 48 → m ≠ n → t.reg (F.GNB_CHk_w m).addr = s.reg (F.GNB_CHk_w m).addr) ∧ t.mem = s.mem ∧ t.trv = s.trv) ∧
        (∀ m, (∀ n, n < 48 → s.chSv n ≠ 0) → svSbas sv = false → s.lowest (List.range 48) = some m →
          (s.fld (F.GNB_CHk_EL m) < el → ∃ t : State, exec (.acquisitionDetection sv el cn0 p q) s = .next t ∧
            t.chSv m = sv ∧ t.chTrk m = 2 ∧ t.fld (F.GNB_CHk_EL m) = el) ∧
          (el ≤ s.fld (F.GNB_CHk_EL m) → exec (.acquisitionDetection sv el cn0 p q) s = .next s))) ∧
      (s.detects sv p q = false ∨ s.svEnabled sv = false ∨ el ≤ s.fld F.GNB_CFG_ELMASK ∨ 90 < el →
        exec (.acquisitionDetection sv el cn0 p q) s = .next s)) ∧
    (∀ (n : Fin 48) (x : Nat), s.tracking = true → 2 ≤ s.chTrk n →
      (x < 600 → exec (.cycleSlip n x) s = .next (s.setChan n { s.chan n with slip := some s.clk.cc }).completed) ∧
      (600 ≤ x → exec (.cycleSlip n x) s = .next s) ∧
      (x < s.fld F.GNB_TRK_LOSSCN → ∃ t : State, exec (.lossOfLock n x) s = .next t ∧ t.chTrk n = 1 ∧ t.chSv n = s.chSv n ∧
        t.fld (F.GNB_CHk_CN0 n) = x ∧ t.flag (F.GNB_CHk_USED n) = false ∧ t.mem = s.mem ∧ t.trv = s.trv ∧
        ∀ i, i ≠ (F.GNB_CHk_w n).addr → i ≠ F.GNB_STAT_w.addr → t.reg i = s.reg i)) ∧
    (∀ v : Word, exec (.anchorWrite v) s = .next ({ s with gnb := { s.gnb with reanchor := true } } : State).completed)

/-- At a fix epoch u, with the channels measured: satellites that determine no solution give neither travel nor
discipline. A solution whose residuals pass, alone or with one satellite left out, shows its satellites and HDOP and
keeps its position, and under jamming gives no travel; leaving one out counts in EXCLCNT and excludes it for EXCLHOLD;
one that fails counts in FAILCNT where the check can be made, and gives no travel. A node that does not track does
nothing. (spec/04_gnss.md R89; spec/04_gnss.md R93; spec/04_gnss.md R94; spec/04_gnss.md R95) -/
def Obligations.FixEpochsAreChecked : Prop :=
  (∀ (s : State) (m : FixMeas), s.boot.halted = false → s.tracking = false → exec (.fixEpoch m) s = .next s) ∧
  ∀ (s u : State) (m : FixMeas) (xs : List Ranged), s.boot.halted = false → s.tracking = true →
    u = ((m.sbas.foldl State.takeSbas ((m.chans.foldl State.measureSat (s.takeTenth clsFix)).releaseChans)).setFld
      F.GNB_STAT_STATE 2).showTracking → xs = (u.sats m).map u.ranged →
    (fixOf u.fixStart xs (unknownsOf xs) = none → exec (.fixEpoch m) s = .next u.invalidFix) ∧
    (∀ x, fixOf u.fixStart xs (unknownsOf xs) = some x → ∃ t : State, exec (.fixEpoch m) s = .next t ∧
      t.gnb.lastFix = some u.clk.cc ∧
      (∀ ys y, checkFix u.fixStart xs x = .pass ys y →
        t.gnb.pos = some (y.pos.x / 2 ^ 20, y.pos.y / 2 ^ 20, y.pos.z / 2 ^ 20) ∧ t.fld F.GNB_STAT_NSV = min 63 ys.length ∧
        t.fld F.GNB_STAT_HDOP = min 255 (hdopOf u.frame ys y (unknownsOf ys)) ∧ t.flag F.GNB_STAT_EXCL = false ∧
        (u.jammed = true → t.trv = s.trv)) ∧
      (∀ n ys y, checkFix u.fixStart xs x = .without n ys y →
        t.gnb.pos = some (y.pos.x / 2 ^ 20, y.pos.y / 2 ^ 20, y.pos.z / 2 ^ 20) ∧ t.fld F.GNB_STAT_NSV = min 63 ys.length ∧
        t.flag F.GNB_STAT_EXCL = true ∧ (u.jammed = true → t.trv = s.trv) ∧
        (u.chSv n, u.clk.cc + secClocks (u.fld F.GNB_RAIM_EXCLHOLD)) ∈ t.gnb.excl ∧
        t.fld F.GNB_RAIM_EXCLCNT = satAdd F.GNB_RAIM_EXCLCNT.width (s.fld F.GNB_RAIM_EXCLCNT) 1) ∧
      (checkFix u.fixStart xs x = .fail → t.trv = s.trv ∧ t.gnb.clkRun = [] ∧ t.fld F.GNB_RAIM_FAILCNT =
        satAdd F.GNB_RAIM_FAILCNT.width (s.fld F.GNB_RAIM_FAILCNT) (if 1 ≤ xs.length - unknownsOf xs then 1 else 0)))

/-- With the baseband on, a write of GNB_SNAPREQ that Table 4-5 accepts leaves one snapshot that waits, at the written
time, and one it refuses counts in REFUSED; with the baseband off it changes no register. The front end powers up for
a capture that needs it, and otherwise nothing changes; CAPTURE_START takes the waiting snapshot; CAPTURE_COMPLETE
puts its samples, requantized, in the buffer, counts it and lets its segments, the header first, move to Q62; its
space is free once every segment is acknowledged, or 120 s later. (spec/04_gnss.md R103; spec/04_gnss.md R104;
spec/04_gnss.md R105; spec/04_gnss.md R107; spec/04_gnss.md R117) -/
def Obligations.SnapshotsAreCaptured : Prop :=
  ∀ s : State, s.boot.halted = false →
    (∀ v : Word, s.gnssPowered = true →
      ∃ t : State, exec (.localSnapshotRequest v) s = .next t ∧
        (s.snapStatus true true s.now v.toNat (durOf (s.fld F.GNB_SNAPCFG_DUR)) = 0 →
          ∃ x, t.waiting = [x] ∧ x.tcap = v.toNat ∧ x.dur = durOf (s.fld F.GNB_SNAPCFG_DUR) ∧ x.stage = 0 ∧ x.loc = true ∧
            t.regs = s.regs ∧ t.queues = s.queues) ∧
        (s.snapStatus true true s.now v.toNat (durOf (s.fld F.GNB_SNAPCFG_DUR)) ≠ 0 → ∃ u : State, t = u.pump.completed ∧
          u.fld F.GNB_SNAPSTAT_REFUSED = satAdd 15 (s.fld F.GNB_SNAPSTAT_REFUSED) 1 ∧ u.queues = s.queues ∧
          u.waiting = s.waiting)) ∧
    (∀ v : Word, s.gnssPowered = false → exec (.localSnapshotRequest v) s = .next s.completed) ∧
    (∀ x, s.gnb.snaps.find? (fun x => x.stage = 0) = some x → s.powersFor x = false → exec .frontEndPowerUp s = .next s) ∧
    (∀ x, s.gnb.snaps.find? (fun x => x.stage = 0) = some x → s.powersFor x = true →
      ∃ t : State, exec .frontEndPowerUp s = .next t ∧ (∀ y ∈ t.gnb.snaps, y.stage ≠ 0) ∧
        t.gnb.snaps.length = s.gnb.snaps.length ∧ ∀ i, i ≠ 0x200 → t.reg i = s.reg i) ∧
    (∀ x xs, s.waiting = x :: xs → (if x.loc then s.gnssPowered else s.snapping) = true →
      ∃ t : State, exec .captureStart s = .next t ∧ t.waiting = [] ∧ t.gnb.snaps.length = s.gnb.snaps.length ∧
        (∃ y ∈ t.gnb.snaps, y.stage = 2 ∧ y.id = x.id ∧ y.tcap = x.tcap ∧ y.off = x.off ∧ y.at_ = t.clk.cc) ∧
        ∀ i, i ≠ 0x200 → t.reg i = s.reg i) ∧
    (∀ (x : Snap) (q : List (BitVec 8 × BitVec 8)), s.gnb.snaps.find? (fun x => x.stage = 2) = some x →
      ∃ u : State, exec (.captureComplete q) s = .next u.pump ∧ x.at_ + msClocks x.dur ≤ u.clk.cc ∧ u.queues = s.queues ∧
        u.fld F.GNB_SNAPSTAT_CAPTURES = satAdd 16 (s.fld F.GNB_SNAPSTAT_CAPTURES) 1 ∧
        (∀ y ∈ u.gnb.snaps, y.stage ≠ 2) ∧
        (∀ i, i < snapLen x.dur → spGet (fun _ => 0#8) u.gnb.buf (x.off + i) =
          (padTo (snapLen x.dur) (quantize (q.take (snapLen x.dur)))).getD i 0#8) ∧
        ∃ y ∈ u.gnb.snaps, y.id = x.id ∧ y.stage = 3 ∧ y.todo = List.range (nSeg x.dur + 1) ∧ y.unacked = y.todo) ∧
    (∀ x, s.gnb.snaps.find? (fun x => x.stage = 3) = some x →
      ∃ t : State, exec .snapshotSpaceRelease s = .next t ∧ t.gnb.snaps = s.gnb.snaps.filter (fun y => y ≠ x) ∧
        (x.unacked ≠ [] → x.at_ + secClocks 120 ≤ t.clk.cc) ∧ ∀ i, i ≠ 0x200 → t.reg i = s.reg i)

/-- While the service runs: a turn goes to the next node served and sends it a request when none stands there; a record
whose segments are missing 10 s after its header is dropped; the oldest complete record is discarded as stale or
processed at a later instant u, where a solution that R112 accepts shows the tower's new position with STATUS 1 and
any other outcome STATUS 3; a tower whose STATUS has not been 1 for GEOMAX shows STATUS 4; an offset is sent to a
tower that has one. Where the service does not run, these three change nothing but time. In a core clock in which
hardware updates no field ZEROCAL sets the flag that the next accepted solution acts on. (spec/04_gnss.md R109;
spec/04_gnss.md R110; spec/04_gnss.md R111; spec/04_gnss.md R112; spec/04_gnss.md R115; spec/04_gnss.md R113;
spec/01_machine_and_node.md R20) -/
def Obligations.GeometryServiceRuns : Prop :=
  ∀ s : State, s.boot.halted = false →
    (∀ k, s.serving = true → nextServed s.served s.gnb.served = some k →
      ∃ t : State, exec .snapshotServiceTurn s = .next t ∧ t.gnb.served = some k ∧ t.trv = s.trv ∧ t.mem = s.mem ∧
        (∀ r ∈ t.gnb.reqs, r ∈ s.gnb.reqs ∨ (r.node = k ∧ r.dur = durOf (s.fld F.GNB_SNAPCFG_DUR) ∧ r.hdrCc = none)) ∧
        (k = s.addr ∨ (s.sess k).cur = none → t.queues = s.queues)) ∧
    (∀ (k : Fin 64) (r : GeoReq), s.gnb.reqs.find? (fun r => r.node = k.val && r.hdrCc.isSome && r.done.isNone) = some r →
      ∃ t : State, exec (.reassemblyTimeout k) s = .next t ∧ t.gnb.reqs = s.gnb.reqs.filter (fun x => x ≠ r) ∧
        r.hdrCc.getD 0 + secClocks 10 ≤ t.clk.cc ∧ ∀ i, i ≠ 0x200 → t.reg i = s.reg i) ∧
    (∀ (r : GeoReq) (x : SnapFix), s.oldestRecord = some r → s.serving = true → r.node < 64 →
      ∃ t u : State, ∃ g k, exec (.snapshotProcessing x) s = .next t ∧ u = { s with regs := g, clk := k } ∧
        (∀ i, i ≠ 0x200 → u.reg i = s.reg i) ∧ t.gnb.reqs = s.gnb.reqs.filter (fun y => y ≠ r) ∧
        ((t.fld F.GNB_GEOSTAT_STALE = satAdd F.GNB_GEOSTAT_STALE.width (s.fld F.GNB_GEOSTAT_STALE) 1 ∧
            t.fld (F.GNB_TWRk_N_STATUS r.node) = s.fld (F.GNB_TWRk_N_STATUS r.node)) ∨
          ∀ f kept, f = u.clk.cc - (Machine.dist u.now (bytesAt r.hdr 6 5)).toNat * 128 →
            kept = (u.keptSats x.peaks f (f + msClocks r.dur)).length →
            match u.geoAccept r.node (u.travelAt (bytesAt r.hdr 6 5)) kept x.cands with
            | some (c, ratio) => t.fld (F.GNB_TWRk_N_STATUS r.node) = 1 ∧
                t.fldI (F.GNB_TWRk_E_EAST r.node) = sx 24 (wrapW 24 c.east) ∧
                t.fldI (F.GNB_TWRk_N_NORTH r.node) = sx 24 (wrapW 24 c.north) ∧
                t.fld (F.GNB_TWRk_N_NSV r.node) = min 63 kept ∧ t.fld (F.GNB_TWRk_N_RATIO r.node) = min 63 ratio ∧
                t.fld F.GNB_GEOSTAT_FIXED = satAdd F.GNB_GEOSTAT_FIXED.width (s.fld F.GNB_GEOSTAT_FIXED) 1
            | none => t.fld (F.GNB_TWRk_N_STATUS r.node) = 3 ∧
                t.fld F.GNB_GEOSTAT_FIXED = s.fld F.GNB_GEOSTAT_FIXED)) ∧
    (∀ (k : Fin 64) (st : Nat), st = s.fld (F.GNB_TWRk_N_STATUS k) →
      (s.serving = true → s.flag (F.GNB_TWRk_CFG_EN k) = true → st ≠ 1 → st ≠ 4 →
        ∃ t : State, exec (.geometryStale k) s = .next t ∧ t.fld (F.GNB_TWRk_N_STATUS k) = 4 ∧
          ((s.gnb.left.find? (fun p => p.1 == k.val)).map (·.2)).getD s.gnb.since +
            secClocks (s.fld F.GNB_GEOCFG_GEOMAX) ≤ t.clk.cc ∧ t.trv = s.trv ∧ t.mem = s.mem) ∧
      (s.serving = false ∨ s.flag (F.GNB_TWRk_CFG_EN k) = false ∨ st = 1 ∨ st = 4 → exec (.geometryStale k) s = .next s)) ∧
    (∀ (k : Fin 64) (gap : Nat), exec (.spanOffsetSend k gap) s = .next
      (if s.serving = true ∧ s.flag (F.GNB_TWRk_CFG_EN k) = true ∧ (s.gnb.accX.find? (fun q => q.1 == k.val)).isSome = true ∧
          k.val ≠ s.addr then
        (s.advCc gap).pushTx 56 k clsMsg false (toBytes 1 1 ++ toBytes 5 (s.fld (F.GNB_TWRk_OFF_OFF k)))
      else s.advCc gap)) ∧
    (s.serving = false → exec .snapshotServiceTurn s = .next s) ∧
    (∀ v : Word, s.calm = true → ∃ t : State, exec (.zerocal v) s = .next t ∧ t.flag F.GNB_GEOCFG_ZEROCAL = true ∧
      t.fld F.GNB_GEOCFG_GEOMAX = bitsOf v.toNat 27 16 ∧ ∀ i, i ≠ F.GNB_GEOCFG_GEOMAX.addr → t.reg i = s.reg i)

/-- With the clocks running CAPTURE_EDGE on a channel that is not the odd one of a pair lets time pass to its next period
start, empties the sums of the period, shows the last sample in CUR within its range, shows the working setpoint and,
while a program runs, a duty of at most 1,024, 0 while a REVERSE waits; the integrator stays within 256; with no
program the duty and the target stay; no other channel's state changes. With the clocks gated, or on the odd channel,
nothing changes. OFF_STATE_OPEN_TEST on an OFF channel with OFFDIAG lets time pass to 200 µs after the next multiple
of 100 ms (log 189) and sets OPENOFF above 4.0 V, and nothing else otherwise; on any other channel it changes nothing.
A detection in progress ends with its result in ORES or CRES, NOMOVE when the window passed, and its latency when
MOVED; a NOMOVE is counted and STATE stays; an open result starts a credited interval if none is in progress; with no
detection in progress nothing changes. A measurement in progress that is not valid counts in RSKIP; a valid one shows
in RMEAS and waits for the model when EN = 1, and below RMIN the channel turns off with SHORT = 1; with none in
progress nothing changes. (spec/06_valve_drive.md R152; spec/06_valve_drive.md R153; spec/06_valve_drive.md R158;
spec/06_valve_drive.md R159; spec/06_valve_drive.md R162; spec/08_coil_model_and_latency.md R191;
spec/08_coil_model_and_latency.md R192) -/
def Obligations.CaptureEdgesAndDetections : Prop :=
  ∀ (s : State) (n : Fin 48) (ss : List Sample), s.boot.halted = false →
    (s.gated = false → s.isOddOfPair n = false → ∃ t : State, exec (.captureEdge n ss) s = .next t ∧
      (t.valve n).edgeAt = some (s.nextEdge n) ∧ frameCc (s.nextEdge n) ≤ t.clk.cc ∧ (t.valve n).psum = 0 ∧
      (t.valve n).pcnt = 0 ∧ t.mem = s.mem ∧ (∀ m, m ≠ n.val → t.valve m = s.valve m) ∧
      t.fld (F.VDA_CHn_HOLD_HOLDACT n) = min (s.fld (F.VDA_CHn_HOLD_HOLD n)) (min (s.contRating n) (s.thermalCap n)) ∧
      (∀ l x, ss = l ++ [x] → t.fldI (F.VDA_CHn_CUR_CUR n) =
        if s.pairKind n = 1 then clampI (-16384) 16383 x.cur else clampI (-8192) 8191 x.cur) ∧
      (-256 ≤ (s.valve n).s → (s.valve n).s ≤ 256 → -256 ≤ (t.valve n).s ∧ (t.valve n).s ≤ 256) ∧
      (s.running n = true → t.fld (F.VDA_CHn_CUR_DUTY n) ≤ 1024 ∧ ((s.valve n).revFrom.isSome = true →
        t.fld (F.VDA_CHn_CUR_DUTY n) = 0)) ∧
      (s.running n = false → t.fld (F.VDA_CHn_CUR_DUTY n) = s.fld (F.VDA_CHn_CUR_DUTY n) ∧
        (t.valve n).it = (s.valve n).it)) ∧
    (s.gated = true ∨ s.isOddOfPair n = true → exec (.captureEdge n ss) s = .next s) ∧
    (∀ high : Bool,
      (s.gated = false → s.isOddOfPair n = false → s.chSt n = stOff → s.flag (F.VDA_CHn_CFG_OFFDIAG n) = true →
        ∃ t : State, exec (.offStateOpenTest n high) s = .next t ∧ t.chSt n = stOff ∧ t.valves = s.valves ∧ t.mem = s.mem ∧
          t.queues = s.queues ∧ s.clk.cc + usClocks 200 ≤ t.clk.cc ∧ (t.clk.cc - usClocks 200) % msClocks 100 = 0 ∧
          t.flag (F.VDA_CHn_STAT_OPENOFF n) = (high || s.flag (F.VDA_CHn_STAT_OPENOFF n)) ∧
          (high = false → t.flt = s.flt ∧ ∀ a, a ≠ 0x200 → t.reg a = s.reg a)) ∧
      (s.gated = true ∨ s.isOddOfPair n = true ∨ s.chSt n ≠ stOff ∨ s.flag (F.VDA_CHn_CFG_OFFDIAG n) = false →
        exec (.offStateOpenTest n high) s = .next s)) ∧
    ((s.valve n).odet.isSome = true → ∃ (d : DetSt) (t : State), ((s.feed n ss).valve n).odet = some d ∧
      exec (.armatureResult n ss) s = .next t ∧ (t.valve n).odet = none ∧ t.fld (F.VDA_CHn_LAT_ORES n) = d.final.1 % 4 ∧
      t.chSt n = s.chSt n ∧ (t.valve n).credits.length = (s.valve n).credits.length +
        (if (s.valve n).credits.any (fun (k : Credit) => k.toCc.isNone) then 0 else 1) ∧
      (d.res = none → d.start + msClocks (s.fld (F.VDA_CHn_DET_WEND n)) ≤ t.clk.cc) ∧
      (d.final.1 = 1 → t.fld (F.VDA_CHn_LAT_OLAT n) = ccToUs d.final.2 % 2 ^ 18) ∧
      t.fld (F.VDA_CHn_STAT_NOMOVE n) =
        satAdd 8 (s.fld (F.VDA_CHn_STAT_NOMOVE n)) (if d.final.1 = 2 then 1 else 0)) ∧
    ((s.valve n).odet = none → exec (.armatureResult n ss) s = .next s) ∧
    ((s.valve n).cdet.isSome = true → ∃ (d : DetSt) (t : State), ((s.feed n ss).valve n).cdet = some d ∧
      exec (.closeDetectionResult n ss) s = .next t ∧ (t.valve n).cdet = none ∧
      t.fld (F.VDA_CHn_LAT_CRES n) = d.final.1 % 4 ∧ t.chSt n = s.chSt n ∧
      (d.res = none → d.start + msClocks (s.fld (F.VDA_CHn_DET_WEND n)) ≤ t.clk.cc) ∧
      (d.final.1 = 1 → t.fld (F.VDA_CHn_LAT_CLAT n) = ccToUs d.final.2 % 2 ^ 18) ∧
      t.fld (F.VDA_CHn_STAT_NOMOVE n) =
        satAdd 8 (s.fld (F.VDA_CHn_STAT_NOMOVE n)) (if d.final.1 = 2 then 1 else 0)) ∧
    ((s.valve n).cdet = none → exec (.closeDetectionResult n ss) s = .next s) ∧
    ((s.valve n).meas.isSome = true → ∃ (m : MeasSt) (t : State), ((s.feed n ss).valve n).meas = some m ∧
      exec (.resistanceMeasurement n ss) s = .next t ∧
      (t.valve n).meas = none ∧ m.start + usClocks (3 * s.rwinUs n) ≤ t.clk.cc ∧
      (s.measure n m = none → t.fld (F.VDA_CHn_RW_RSKIP n) = satAdd 8 (s.fld (F.VDA_CHn_RW_RSKIP n)) 1 ∧
        t.chSt n = s.chSt n) ∧
      (∀ r x, s.measure n m = some r → x = clampN 0 65535 (freeRound 22 r.num r.den).toNat →
        t.fld (F.VDA_CHn_RES_RMEAS n) = x ∧ (t.valve n).rmLast = some x ∧
        (t.valve n).rmPend = (if s.flag (F.VDA_CHn_TH_EN n) then some x else none) ∧
        (s.fld (F.VDA_CHn_RES_RMIN n) ≤ x → t.chSt n = s.chSt n) ∧
        (x < s.fld (F.VDA_CHn_RES_RMIN n) → t.flag (F.VDA_CHn_STAT_SHORT n) = true ∧ t.running n = false ∧
          (t.valve n).sn = false ∧ t.fld (F.VDA_CHn_STAT_OCCNT n) = s.fld (F.VDA_CHn_STAT_OCCNT n)))) ∧
    ((s.valve n).meas = none → exec (.resistanceMeasurement n ss) s = .next s)

/-- OVERCURRENT_TRIP on a driving channel, or its pair, ends the program, sets OC, counts in OCCNT, closes S_n and leaves
the channel OFF, or SAFE on the way there; a channel that is not driving is left. GROUP_CONDITION_ASSERT with readings
of which the last ones, as many as Table 6-5 asks, pass the asserting limit, sets the condition and its flag, turns
off every channel in PULL, HOLD or CLOSING and leaves those in OFF, SAFE or LATCHED; other readings, or a condition
that stands, only show the last reading. GROUP_CONDITION_END with enough last readings within the ending limit ends
the condition and leaves the flag and the channels; other readings only show. OFF_TIME_END on an OFF channel whose
off-time runs lets time pass to the end of OFFMIN; on another it changes nothing. In a core clock in which hardware
updates no field, SAFECLR takes a channel that no latched instance names from SAFE to OFF, and otherwise leaves it; a
PAIR write applies only with both channels OFF in COMMISSION or HOLD, otherwise PAIR stays and PAIRERR is set, and the
other fields are stored. (spec/06_valve_drive.md R161; spec/06_valve_drive.md R163; spec/06_valve_drive.md R165;
spec/06_valve_drive.md R157; spec/06_valve_drive.md R164; spec/06_valve_drive.md R146) -/
def Obligations.OutputFaultsTurnChannelsOff : Prop :=
  ∀ s : State, s.boot.halted = false →
    (∀ (n : Fin 48) (k : Nat), k = s.govern n →
      (s.running k = true → ∃ t : State, exec (.overcurrentTrip n) s = .next t ∧ t.flag (F.VDA_CHn_STAT_OC k) = true ∧
        t.fld (F.VDA_CHn_STAT_OCCNT k) = satAdd 8 (s.fld (F.VDA_CHn_STAT_OCCNT k)) 1 ∧ t.running k = false ∧
        (t.valve k).sn = false ∧ t.fld (F.VDA_CHn_CUR_DUTY k) = 0 ∧
        t.chSt k = (if (s.valve k).toSafe || (s.fld (F.VDA_CHn_SEQ_KIND k) = kSafe && !(s.valve k).recovery) then stSafe
          else stOff) ∧ (∀ m, m ≠ k → t.valve m = s.valve m) ∧ t.mem = s.mem) ∧
      (s.running k = false → exec (.overcurrentTrip n) s = .next s)) ∧
    (∀ (g : Fin 6) (c : Fin 3) (x : List Nat),
      (bitOf (s.group g).cond c = false → lastAll (condRun c) (s.condHigh g c) x = true →
        ∃ t : State, exec (.groupConditionAssert g c x) s = .next t ∧
        bitOf (t.group g).cond c = true ∧ t.flag (groupFlag g c) = true ∧ t.mem = s.mem ∧
        (∀ h, h ≠ g.val → t.group h = s.group h) ∧
        ∀ i, i < 8 → ∀ k, k = 8 * g.val + i → s.isOddOfPair k = false →
          (s.chSt k = stPull ∨ s.chSt k = stHold ∨ s.chSt k = stClosing → t.running k = false ∧ (t.valve k).sn = false ∧
            (t.chSt k = stOff ∨ t.chSt k = stSafe)) ∧
          (s.chSt k = stOff ∨ s.chSt k = stSafe ∨ s.chSt k = stLatched → t.chSt k = s.chSt k ∧ t.valve k = s.valve k)) ∧
      (bitOf (s.group g).cond c = true ∨ lastAll (condRun c) (s.condHigh g c) x = false →
        exec (.groupConditionAssert g c x) s = .next (s.groupValues g c x)) ∧
      (lastAll (s.endRun c) (s.condLow g c) x = true → ∃ t : State, exec (.groupConditionEnd g c x) s = .next t ∧
        bitOf (t.group g).cond c = false ∧
        t.flag (groupFlag g c) = s.flag (groupFlag g c) ∧ t.valves = s.valves ∧ t.mem = s.mem ∧ t.queues = s.queues ∧
        (∀ h, h ≠ g.val → t.group h = s.group h) ∧
        ∀ i, i ≠ 0x200 → i ≠ (F.VDA_Gg_STAT_VDRV g).addr → t.reg i = s.reg i) ∧
      (lastAll (s.endRun c) (s.condLow g c) x = false →
        exec (.groupConditionEnd g c x) s = .next (s.groupValues g c x))) ∧
    (∀ (n : Fin 48) (k : Nat), k = s.govern n →
      (∀ c, (s.valve k).offFrom = some c → s.chSt k = stOff →
        ∃ t : State, exec (.offTimeEnd n) s = .next t ∧ (t.valve k).offFrom = none ∧ c + s.offMinCc k ≤ t.clk.cc ∧
          (∀ m, m ≠ k → t.valve m = s.valve m) ∧ t.mem = s.mem ∧ t.queues = s.queues ∧ ∀ i, i ≠ 0x200 → t.reg i = s.reg i) ∧
      ((s.valve k).offFrom = none ∨ s.chSt k ≠ stOff → exec (.offTimeEnd n) s = .next s)) ∧
    (∀ (n : Fin 48) (v : Word) (k : Nat), s.calm = true → k = s.govern n →
      ∃ t : State, exec (.safeclr n v) s = .next t ∧ t.mem = s.mem ∧
      (∀ i, i ≠ (F.VDA_CHn_STAT_STATE n).addr → i ≠ (F.VDA_CHn_STAT_STATE k).addr → t.reg i = s.reg i) ∧
      (s.chSt k = stSafe → s.safeNamed k = false → t.chSt k = stOff ∧ (t.valve k).offFrom = some s.clk.cc) ∧
      (s.chSt k ≠ stSafe ∨ s.safeNamed k = true → t.chSt k = s.chSt k ∧ t.valves = s.valves)) ∧
    (∀ (n : Fin 48) (v : Word), s.calm = true → ∃ t : State, exec (.pairWrite n v) s = .next t ∧
      (∀ i, i ≠ (F.VDA_CHn_CFG_PAIR n).addr → t.reg i = s.reg i) ∧ t.valves = s.valves ∧ t.mem = s.mem ∧
      t.fld (F.VDA_CHn_CFG_OFFMIN n) = bitsOf v.toNat 29 16 ∧ t.flag (F.VDA_CHn_CFG_OFFDIAG n) = bitOf v.toNat 3 ∧
      t.flag (F.VDA_CHn_CFG_DEFDEC n) = bitOf v.toNat 2 ∧
      (n.val % 2 = 1 → t.fld (F.VDA_CHn_CFG_PAIR n) = s.fld (F.VDA_CHn_CFG_PAIR n)) ∧
      (n.val % 2 = 0 → s.modeNow = modeCommission ∨ s.modeNow = modeHold → s.chSt n = stOff → s.chSt (n.val + 1) = stOff →
        t.fld (F.VDA_CHn_CFG_PAIR n) = bitsOf v.toNat 5 4) ∧
      (n.val % 2 = 0 → bitsOf v.toNat 5 4 ≠ s.fld (F.VDA_CHn_CFG_PAIR n) →
        (s.modeNow ≠ modeCommission ∧ s.modeNow ≠ modeHold) ∨ s.chSt n ≠ stOff ∨ s.chSt (n.val + 1) ≠ stOff →
        t.fld (F.VDA_CHn_CFG_PAIR n) = s.fld (F.VDA_CHn_CFG_PAIR n) ∧ t.flag (F.VDA_CHn_CFG_PAIRERR n) = true))

/-- MODEL_UPDATE runs the model of every channel at the next multiple of 1,024 tb, with the clocks gated of 2^20 tb: for a
modelled channel with samples, no pending measurement and no parameter 0, the winding follows the first equation of
R188 from the mean of CUR², over 1 ms, or over 1 s from no power with the clocks gated; with EN = 0 no register
changes and a pending measurement is dropped; the first update outside BOOT sets both temperatures to Ta. The air
sensor writes TAMB only with SRC = 0. In a core clock in which hardware updates no field, LATENCY_ESTIMATE_WRITE
replaces both estimates and sets both counts to 2^GAIN (GAIN 0 acting as 1), and LATENCY_BAND_WRITE flags an estimate
that the new band leaves outside. A shape store takes a write when no channel of its group was in PULL, HOLD or
CLOSING in the core clock before, and otherwise sets WRERR and counts in WRREJ. (spec/08_coil_model_and_latency.md
R188; spec/08_coil_model_and_latency.md R190; spec/08_coil_model_and_latency.md R199;
spec/08_coil_model_and_latency.md R201; spec/07_shape_sequencer.md R186) -/
def Obligations.CoilModelAndLatencyWrites : Prop :=
  ∀ s : State, s.boot.halted = false →
    (s.canonical = true → ∃ u : State, ∃ r k, u = { s with regs := r, clk := k } ∧
      u.now % (if s.gated then 2 ^ 20 else 1024) = 0 ∧ (∀ i, i ≠ 0x200 → u.reg i = s.reg i) ∧
      exec .modelUpdate s = .next ((List.range 48).foldl (fun s n => s.modelOne n) u)) ∧
    (∀ n tw tb, n < 48 → s.isOddOfPair n = false → (s.valve n).tw = some tw → (s.valve n).tb = some tb →
      (s.flag (F.VDA_CHn_TH_EN n) = false → (s.modelOne n).regs = s.regs ∧ ((s.modelOne n).valve n).tw = some tw ∧
        ((s.modelOne n).valve n).qcnt = 0 ∧ ((s.modelOne n).valve n).rmPend = none) ∧
      (s.flag (F.VDA_CHn_TH_EN n) = true → (s.valve n).qcnt ≠ 0 → (s.valve n).rmPend = none →
        s.fld (F.VDA_CHn_TPAR_CW n) ≠ 0 → s.fld (F.VDA_CHn_TPAR_CB n) ≠ 0 → s.fld (F.VDA_CHn_TPAR_RWB n) ≠ 0 →
        s.fld (F.VDA_CHn_TPAR_RBA n) ≠ 0 →
        ((s.modelOne n).valve n).tw = some (tw + (if s.gated then 1 else 1 / 1000) / ((s.fld (F.VDA_CHn_TPAR_CW n) : Rat) / 10) *
          ((if s.gated then 0 else
              ((s.valve n).qsum : Rat) / (s.valve n).qcnt / 10 ^ 6 * (rCu (s.fld (F.VDA_CHn_TLIM_R20 n)) tw / 100)) -
            (tw - tb) / ((s.fld (F.VDA_CHn_TPAR_RWB n) : Rat) / 10))))) ∧
    (∀ n, n < 48 → s.isOddOfPair n = false → (s.valve n).tw = none → s.modeNow ≠ modeBoot →
      ((s.modelOne n).valve n).tw = some s.ambient ∧ ((s.modelOne n).valve n).tb = some s.ambient ∧
        (s.modelOne n).fldI (F.VDA_CHn_TH_TW n) = s.fldI F.VDA_TAMB_TAMB ∧
        (s.modelOne n).fldI (F.VDA_CHn_TH_TB n) = s.fldI F.VDA_TAMB_TAMB) ∧
    (∀ x : Int, ∃ t : State, exec (.ambientSensorWrite x) s = .next t ∧ t.mem = s.mem ∧ t.valves = s.valves ∧
      (s.flag F.VDA_TAMB_SRC = false → t.fldI F.VDA_TAMB_TAMB = satS 16 x) ∧
      (s.flag F.VDA_TAMB_SRC = true → t.fldI F.VDA_TAMB_TAMB = s.fldI F.VDA_TAMB_TAMB) ∧
      ∀ i, i ≠ 0x200 → i ≠ F.VDA_TAMB_TAMB.addr → t.reg i = s.reg i) ∧
    (∀ (n : Fin 48) (v : Word), s.calm = true → ∃ t : State, exec (.latencyEstimateWrite n v) s = .next t ∧
      t.reg (F.VDA_CHn_LRN_w n).addr = v ∧ t.mem = s.mem ∧ (∀ m, m ≠ n.val → t.valve m = s.valve m) ∧
      (t.valve n).lo = bitsOf v.toNat 39 22 * 256 ∧ t.fld (F.VDA_CHn_LSTAT_NO n) = 2 ^ max 1 (bitsOf v.toNat 2 0) ∧
      (t.valve n).lc = bitsOf v.toNat 21 4 * 256 ∧ t.fld (F.VDA_CHn_LSTAT_NC n) = 2 ^ max 1 (bitsOf v.toNat 2 0)) ∧
    (∀ (n : Fin 48) (v : Word), s.calm = true → ∃ t : State, exec (.latencyBandWrite n v) s = .next t ∧
      t.reg (F.VDA_CHn_LBAND_w n).addr = v ∧ (t.valve n).lo = (s.valve n).lo ∧ (t.valve n).lc = (s.valve n).lc ∧
      (t.valve n).outO = (t.usedLatency n true != (s.valve n).lo) ∧
      (t.valve n).outC = (t.usedLatency n false != (s.valve n).lc) ∧
      t.flag (F.VDA_CHn_LSTAT_OOOB n) = (s.flag (F.VDA_CHn_LSTAT_OOOB n) || ((t.valve n).outO && !(s.valve n).outO)) ∧
      t.flag (F.VDA_CHn_LSTAT_COOB n) = (s.flag (F.VDA_CHn_LSTAT_COOB n) || ((t.valve n).outC && !(s.valve n).outC)) ∧
      t.mem = s.mem) ∧
    (∀ (p : Path) (g : Fin 6) (w : Fin 1024) (v : Word), ∃ t : State, exec (.shapeStoreWrite p g w v) s = .next t ∧
      (s.storeFree g = true → t.memWord (0x4000 + 0x400 * g.val + w.val) = v ∧ t.chkAt (0x4000 + 0x400 * g.val + w.val) = 0 ∧
        (∀ b, b ≠ 0x4000 + 0x400 * g.val + w.val → t.memWord b = s.memWord b ∧ t.chkAt b = s.chkAt b) ∧
        t.regs = s.regs ∧ t.queues = s.queues) ∧
      (s.storeFree g = false → t.flag (F.VDA_Gg_SEQ_WRERR g) = true ∧
        t.fld (F.VDA_Gg_SEQ_WRREJ g) = satAdd 16 (s.fld (F.VDA_Gg_SEQ_WRREJ g)) 1 ∧ t.mem = s.mem ∧ t.queues = s.queues ∧
        ∀ i, i ≠ (F.VDA_Gg_SEQ_WRERR g).addr → t.reg i = s.reg i))

/-- For a program at a BRANCH whose word passes its check, BRANCH_INSTRUCTION takes the channel's next slot u. COND 7h to
Fh is program error 2; otherwise a TARGET below 64 is program error 5, taken or not. Otherwise, within the 4,096
instructions of a run, when the condition of Table 7-4 holds at the slot, the program counter becomes TARGET, and when
it does not hold it advances by one, or past word 1,023 is program error 6; nothing else but the opcode shown, system
time and the note of the event changes. Past the 4,096 instructions it is program error 7 if it has no lower one.
(spec/07_shape_sequencer.md R180) -/
def Obligations.BranchLoadsTheTarget : Prop :=
  ∀ (s u : State) (n : Fin 48) (w : Word) (c k pc : Nat), s.boot.halted = false → s.ready n = true → s.opBad n = false →
    s.opAt n = 6 → pc = s.fld (F.VDA_CHn_SEQ_PC n) →
    w = (s.sramData (storeAddr n pc)).1 → c = bitsOf w.toNat 35 32 → k = bitsOf w.toNat 9 0 →
    u = (s.takeSlot n).modValve n (fun v => { v with icount := v.icount + 1 }) →
    (7 ≤ c → exec (.branchInstruction n) s = .next (u.progError n 2).completed) ∧
    (c < 7 → k < 64 → exec (.branchInstruction n) s = .next (u.progError n 5).completed) ∧
    (c < 7 → 64 ≤ k → ∀ yes : Prop, (yes ↔ c = 0 ∨ (c = 1 ∧ s.flag (F.VDA_CHn_SEQ_WMET n) = true) ∨
        (c = 2 ∧ s.flag (F.VDA_CHn_SEQ_WMET n) = false) ∨ (c = 3 ∧ s.detRes n = 1) ∨ (c = 4 ∧ s.detRes n = 2) ∨
        (c = 5 ∧ s.detRes n = 3) ∨ (c = 6 ∧ s.detRes n = 0)) →
      (¬yes → 1023 ≤ pc → exec (.branchInstruction n) s = .next (u.progError n 6).completed) ∧
      (yes ∨ pc < 1023 → 4096 ≤ (s.valve n).icount → exec (.branchInstruction n) s = .next (u.progError n 7).completed) ∧
      (yes ∨ pc < 1023 → (s.valve n).icount < 4096 → ∃ t : State, exec (.branchInstruction n) s = .next t ∧
        (yes → t.fld (F.VDA_CHn_SEQ_PC n) = k) ∧ (¬yes → t.fld (F.VDA_CHn_SEQ_PC n) = pc + 1) ∧
        (∀ i, i ≠ 0x200 → i ≠ (F.VDA_CHn_SEQ_PC n).addr → t.reg i = s.reg i) ∧ t.valves = u.valves ∧ t.mem = s.mem ∧
        t.queues = s.queues ∧ t.fld (F.VDA_CHn_SEQ_KIND n) = s.fld (F.VDA_CHn_SEQ_KIND n) ∧ t.running n = true))

/-- For a program at an instruction whose word passes its check, within the 4,096 instructions of a run: DRIVE notes the
first DRIVE, sets the target, at most the pulse rating and, while a limit of R155 is in force, at most the rating, at
once or with its ramp, and clears the integrator; HOLD puts the channel in HOLD at the working setpoint and never
completes; WAIT is met at once or waits from its slot, and TYPE 6 and 7 are program error 2; DECAY selects the decay
mode; END enters OFF, SAFE or LATCHED, or is program error 8. DRIVE, DECAY and a met WAIT advance the program counter,
or have their effect and are program error 6 at word 1,023. WAIT_END with samples ends a WAIT that holds the program
at the first slot on them at which it ends, with WMET saying whether its condition is met there, and the program goes
on; with no WAIT it changes nothing. (spec/07_shape_sequencer.md R173; spec/07_shape_sequencer.md R175;
spec/07_shape_sequencer.md R176; spec/07_shape_sequencer.md R177; spec/07_shape_sequencer.md R178;
spec/07_shape_sequencer.md R181; spec/07_shape_sequencer.md R174; spec/06_valve_drive.md R155) -/
def Obligations.ProgramInstructionsDoTheirEffect : Prop :=
  ∀ (s u : State) (n : Fin 48) (w : Word) (pc : Nat), s.boot.halted = false → pc = s.fld (F.VDA_CHn_SEQ_PC n) →
    w = (s.sramData (storeAddr n pc)).1 →
    u = (s.takeSlot n).modValve n (fun v => { v with icount := v.icount + 1 }) →
    (s.ready n = true → s.opBad n = false → (s.valve n).icount < 4096 →
      (s.opAt n = 1 → ∃ t : State,
        (pc < 1023 → exec (.driveInstruction n) s = .next t ∧ t.fld (F.VDA_CHn_SEQ_PC n) = pc + 1) ∧
        (1023 ≤ pc → exec (.driveInstruction n) s = .next (t.progError n 6).completed) ∧
        (t.valve n).driven = some ((s.valve n).driven.getD (s.nextSlot n)) ∧ (t.valve n).s = 0 ∧
        (t.valve n).goal = min (bitsOf w.toNat 15 0) (s.pulseRating n) ∧ (t.valve n).ramp = bitsOf w.toNat 31 16 ∧
        (t.valve n).it = (if bitsOf w.toNat 31 16 = 0 then
            (if (t.valve n).limited then min ((s.contRating n : Int) * 1000) ((t.valve n).goal * 1000) else (t.valve n).goal * 1000)
          else (s.valve n).it) ∧
        (bitsOf w.toNat 31 16 = 0 → t.fld (F.VDA_CHn_CUR_DUTY n) ≤ 1024) ∧
        (s.fld (F.VDA_CHn_SEQ_KIND n) = kOpen → (s.valve n).driven = none → (t.valve n).meas.isSome = true ∧
          (s.flag (F.VDA_CHn_DET_OPDET n) = true → (t.valve n).odet.isSome = true)) ∧
        t.mem = s.mem ∧ t.queues = s.queues ∧ ∀ m, m ≠ n.val → t.valve m = s.valve m) ∧
      (s.opAt n = 2 → ∃ t : State, exec (.holdInstruction n) s = .next t ∧ t.fld (F.VDA_CHn_SEQ_PC n) = pc ∧
        t.chSt n = stHold ∧ (t.valve n).holding = true ∧ (t.valve n).s = 0 ∧ (t.valve n).ramp = 0 ∧
        (t.valve n).it = (s.fld (F.VDA_CHn_HOLD_HOLDACT n) : Int) * 1000 ∧ t.fld (F.VDA_CHn_CUR_DUTY n) ≤ 1024 ∧
        t.running n = true ∧ t.mem = s.mem ∧ t.queues = s.queues) ∧
      (s.opAt n = 3 → (6 ≤ bitsOf w.toNat 35 33 → exec (.waitInstruction n) s = .next (u.progError n 2).completed) ∧
        (bitsOf w.toNat 35 33 < 6 →
          (u.waitMet n w { start := u.clk.cc } = true → ∃ t : State, t.flag (F.VDA_CHn_SEQ_WMET n) = true ∧
            (t.valve n).wait = none ∧ t.mem = s.mem ∧ t.queues = s.queues ∧
            (pc < 1023 → exec (.waitInstruction n) s = .next t ∧ t.fld (F.VDA_CHn_SEQ_PC n) = pc + 1) ∧
            (1023 ≤ pc → exec (.waitInstruction n) s = .next (t.progError n 6).completed)) ∧
          (u.waitMet n w { start := u.clk.cc } = false → ∃ t : State, exec (.waitInstruction n) s = .next t ∧
            t.fld (F.VDA_CHn_SEQ_PC n) = pc ∧ (t.valve n).wait = some { start := s.nextSlot n } ∧ t.mem = s.mem ∧
            t.queues = s.queues))) ∧
      (s.opAt n = 4 → ∃ t : State,
        (pc < 1023 → exec (.decayInstruction n) s = .next t ∧ t.fld (F.VDA_CHn_SEQ_PC n) = pc + 1) ∧
        (1023 ≤ pc → exec (.decayInstruction n) s = .next (t.progError n 6).completed) ∧
        t.fastDecay n = (bitsOf w.toNat 1 0 == 2 || (bitsOf w.toNat 1 0 != 1 && s.flag (F.VDA_CHn_CFG_DEFDEC n))) ∧
        t.flag (F.VDA_CHn_SEQ_DEC n) = t.fastDecay n ∧ t.mem = s.mem ∧ t.queues = s.queues ∧
        ∀ i, i ≠ 0x200 → i ≠ (F.VDA_CHn_SEQ_PC n).addr → t.reg i = s.reg i) ∧
      (s.opAt n = 0 → (s.fld (F.VDA_CHn_SEQ_KIND n) = kOpen → s.isBridge n = false →
          exec (.endInstruction n) s = .next (u.progError n 8).completed) ∧
        (s.fld (F.VDA_CHn_SEQ_KIND n) ≠ kOpen ∨ s.isBridge n = true → ∃ t : State, exec (.endInstruction n) s = .next t ∧
          t.running n = false ∧ t.fld (F.VDA_CHn_CUR_DUTY n) = 0 ∧ t.mem = s.mem ∧ t.queues = s.queues ∧
          t.chSt n = (if s.fld (F.VDA_CHn_SEQ_KIND n) = kOpen then stLatched
            else if (s.valve n).toSafe || (s.fld (F.VDA_CHn_SEQ_KIND n) = kSafe && !(s.valve n).recovery) then stSafe
            else stOff)))) ∧
    (∀ (ss : List Sample) (v : State), v = s.scanFrom n (fun s => s.waitStop n) ss →
      ((s.valve n).wait = none → exec (.waitEnd n ss) s = .next s) ∧
      ((s.valve n).wait.isSome = true → ∃ (x : WaitSt) (t : State), (v.valve n).wait = some x ∧
        exec (.waitEnd n ss) s = .next (t.goOn n) ∧ t.clk.cc = v.waitSlot n w x ∧ (t.valve n).wait = none ∧
        t.flag (F.VDA_CHn_SEQ_WMET n) = (v.advCcTo (v.waitSlot n w x)).waitMet n w x ∧
        (2 ≤ bitsOf w.toNat 35 33 → v.waitMet n w x = false → x.start + waitTmo w ≤ t.clk.cc) ∧
        t.fld (F.VDA_CHn_SEQ_PC n) = pc ∧ t.mem = s.mem ∧ t.queues = s.queues ∧
        ((t.goOn n).fld (F.VDA_CHn_SEQ_PC n) = pc + 1 ∧ (t.goOn n).valves = t.valves ∨
          1023 ≤ pc ∧ t.goOn n = (t.progError n 6).completed)))

/-- The commands of the eight opcode classes change nothing where no program is ready or the opcode is of another class; a
word that fails its check is error 11 and takes the channel to SAFE. Opcodes 7h to Fh are program error 1; past 4,096
instructions DRIVE, HOLD and DECAY are program error 7. A program error of a channel that is no bridge pair, or of a
close or safe program of a pair, sets PERR, counts, shows the program counter and the code and leaves the channel OFF,
or SAFE for a program on the way there. REVERSE on a single or parallel channel is error 3; on a bridge pair one to
the present polarity only advances, one to the other turns the switches off; with samples it completes at a slot
within 20 ms at which |CUR| is at most 50 mA, and where none is, 20 ms are error 4. A close or safe program still
running 10 s after its start is error 9. Each of these commands changes nothing where its program or REVERSE does not
run. (spec/07_shape_sequencer.md R182; spec/07_shape_sequencer.md R183; spec/07_shape_sequencer.md R184;
spec/07_shape_sequencer.md R174; spec/07_shape_sequencer.md R179) -/
def Obligations.ProgramErrorsAndReversal : Prop :=
  ∀ (s u : State) (n : Fin 48) (w : Word) (pc : Nat), s.boot.halted = false → pc = s.fld (F.VDA_CHn_SEQ_PC n) →
    w = (s.sramData (storeAddr n pc)).1 →
    u = (s.takeSlot n).modValve n (fun v => { v with icount := v.icount + 1 }) →
    (∀ c ∈ [(Instr.endInstruction n, decide (s.opAt n = 0)), (.driveInstruction n, decide (s.opAt n = 1)),
        (.holdInstruction n, decide (s.opAt n = 2)), (.waitInstruction n, decide (s.opAt n = 3)),
        (.decayInstruction n, decide (s.opAt n = 4)), (.reverseInstruction n, decide (s.opAt n = 5)),
        (.branchInstruction n, decide (s.opAt n = 6)), (.reservedOpcode n, decide (7 ≤ s.opAt n))],
      (s.ready n = false ∨ (s.opBad n = false ∧ c.2 = false) → exec c.1 s = .next s) ∧
      (s.ready n = true → s.opBad n = true → ∃ t : State, exec c.1 s = .next t ∧ t.running n = false ∧ t.chSt n = stSafe ∧
        t.fld (F.VDA_CHn_SERR_ECODE n) = 11 ∧ (t.valve n).sn = false)) ∧
    ((s.isBridge n = false ∨ s.fld (F.VDA_CHn_SEQ_KIND n) ≠ kOpen) → ∀ code, code < 16 → ∀ t, t = s.progError n code →
      t.flag (F.VDA_CHn_SERR_PERR n) = true ∧
      t.fld (F.VDA_CHn_SERR_PERRCNT n) = satAdd 8 (s.fld (F.VDA_CHn_SERR_PERRCNT n)) 1 ∧
      t.fld (F.VDA_CHn_SERR_EPC n) = pc ∧ t.fld (F.VDA_CHn_SERR_ECODE n) = code ∧ t.running n = false ∧
      t.fld (F.VDA_CHn_CUR_DUTY n) = 0 ∧ t.mem = s.mem ∧ (∀ m, m ≠ n.val → t.valve m = s.valve m) ∧
      t.chSt n = (if (s.valve n).toSafe || (s.fld (F.VDA_CHn_SEQ_KIND n) = kSafe && !(s.valve n).recovery) then stSafe
        else stOff)) ∧
    (s.ready n = true → s.opBad n = false →
      (7 ≤ s.opAt n → exec (.reservedOpcode n) s = .next (u.progError n 1).completed) ∧
      (4096 ≤ (s.valve n).icount → pc < 1023 → ∀ c ∈ [(Instr.driveInstruction n, 1), (.holdInstruction n, 2), (.decayInstruction n, 4)],
        s.opAt n = c.2 → exec c.1 s = .next (u.progError n 7).completed) ∧
      (s.opAt n = 5 → (s.isBridge n = false → exec (.reverseInstruction n) s = .next (u.progError n 3).completed) ∧
        (s.isBridge n = true → (s.valve n).icount < 4096 →
          (bitOf w.toNat 0 = s.flag (F.VDA_CHn_SEQ_POL n) → 1023 ≤ pc →
            exec (.reverseInstruction n) s = .next (u.progError n 6).completed) ∧
          (bitOf w.toNat 0 ≠ s.flag (F.VDA_CHn_SEQ_POL n) ∨ pc < 1023 → ∃ t : State, exec (.reverseInstruction n) s = .next t ∧
          t.flag (F.VDA_CHn_SEQ_POL n) = s.flag (F.VDA_CHn_SEQ_POL n) ∧ t.mem = s.mem ∧ t.queues = s.queues ∧
          (bitOf w.toNat 0 = s.flag (F.VDA_CHn_SEQ_POL n) → t.fld (F.VDA_CHn_SEQ_PC n) = pc + 1 ∧ t.valves = u.valves) ∧
          (bitOf w.toNat 0 ≠ s.flag (F.VDA_CHn_SEQ_POL n) → t.fld (F.VDA_CHn_SEQ_PC n) = pc ∧
            t.fld (F.VDA_CHn_CUR_DUTY n) = 0 ∧ (t.valve n).revFrom = some (s.nextSlot n)))))) ∧
    (∀ (ss : List Sample) (v : State), v = s.scanFrom n (fun s => s.revStop n) ss →
      ((s.valve n).revFrom = none → exec (.reverseComplete n ss) s = .next s ∧ exec (.reverseTimeout n ss) s = .next s) ∧
      (∀ c, (s.valve n).revFrom = some c →
        ((v.fldI (F.VDA_CHn_CUR_CUR n)).natAbs ≤ 50 → v.nextSlot n < c + msClocks 20 → ∃ t : State,
          (t.valve n).revFrom = none ∧ t.flag (F.VDA_CHn_SEQ_POL n) = !s.flag (F.VDA_CHn_SEQ_POL n) ∧
          t.clk.cc = v.nextSlot n ∧ t.mem = s.mem ∧ t.queues = s.queues ∧
          (pc < 1023 → t.fld (F.VDA_CHn_SEQ_PC n) = pc + 1 ∧ exec (.reverseComplete n ss) s = .next t ∧
            exec (.reverseTimeout n ss) s = .next t) ∧
          (1023 ≤ pc → exec (.reverseComplete n ss) s = .next (t.progError n 6).completed ∧
            exec (.reverseTimeout n ss) s = .next (t.progError n 6).completed)) ∧
        (50 < (v.fldI (F.VDA_CHn_CUR_CUR n)).natAbs ∨ c + msClocks 20 ≤ v.nextSlot n →
          exec (.reverseComplete n ss) s = .next v ∧
          exec (.reverseTimeout n ss) s = .next ((v.advCcTo (c + msClocks 20)).progError n 4).completed))) ∧
    (s.running n = true → s.fld (F.VDA_CHn_SEQ_KIND n) ≠ kOpen → exec (.closeProgramTimeout n) s =
      .next ((s.advCcTo ((s.valve n).started + secClocks 10)).progError n 9)) ∧
    (s.running n = false ∨ s.fld (F.VDA_CHn_SEQ_KIND n) = kOpen → exec (.closeProgramTimeout n) s = .next s)

/-- With the clocks running CONTROL_SAMPLE runs one sample at the next multiple of 256 tb; with every stage OFF and not
enabled each output takes the SAFE raw of the one stage output that names it. FOLLOWING_ERROR, TRACE_DONE and
INJECTION_END are that sample when it declares a following error, takes a buffer to DONE or ends the injection, and
nothing otherwise (log 34). With the clocks gated none of these does anything. A following error that has lasted
FETIME sets FEFLT, counts, and holds LB by FEACT. PW_PERIOD_EDGE takes the latches 136 tb after a strobe,
PW_OVERCURRENT turns one output off for the rest of its period, and FLOWMETER_PULSE comes the given core clocks after
the last event and counts a pulse outside BOOT, for the head's own flowmeter also in MUSE. (spec/09_control_engine.md
R203; spec/09_control_engine.md R216; spec/09_control_engine.md R218; spec/10_loop_supervision_and_tuning.md R229;
spec/10_loop_supervision_and_tuning.md R235; spec/10_loop_supervision_and_tuning.md R240;
spec/22_electrical_mechanical.md R443; spec/22_electrical_mechanical.md R440) -/
def Obligations.ControlSamplesRunAtStrobes : Prop :=
  ∀ (s : State) (ai : StrobeIn) (a b : Nat), s.boot.halted = false →
    (s.gated = true → exec (.controlSample ai a b) s = .next s) ∧
    (s.gated = false → s.canonical = true → ∃ u : State, ∃ r k, u = { s with regs := r, clk := k } ∧ u.now % 256 = 0 ∧
      (∀ i, i ≠ 0x200 → u.reg i = s.reg i) ∧ exec (.controlSample ai a b) s = .next (u.controlSample ai a b)) ∧
    ((∀ k, k < 3 → s.cst k = csOff ∧ s.flag (F.CTL_x_CFG_EN k) = false) → ∀ t, t = s.controlSample ai a b →
      t.fld F.CTL_VPW_VPW0 = min 65535 a ∧ t.fld F.CTL_VPW_VPW1 = min 65535 b ∧ t.ctl.ai = ai.codes.map (fun c => c.toNat) ∧
      (∀ k, k < 3 → t.cst k = csOff) ∧
      ∀ k j d, k < 3 → j < 2 → d = s.destOf k j → 1 ≤ d → d ≤ 4 →
        (∀ k' j', k' < 3 → j' < 2 → s.destOf k' j' = d → k' = k ∧ j' = j) →
        t.outRaw d = min (if d ≤ 2 then 65535 else 1024) (s.fld (F.CTL_x_UDk_SAFE k j))) ∧
    (s.gated = false → ∀ t, t = s.nextSample ai a b →
      exec (.followingError ai a b) s = .next (if t.ctl.sup.fe then t else s) ∧
      exec (.traceDone ai a b) s = .next (if (s.fld (F.CTL_TRCb_STAT_STATE 0) ≠ trDone ∧
          t.fld (F.CTL_TRCb_STAT_STATE 0) = trDone) ∨ (s.fld (F.CTL_TRCb_STAT_STATE 1) ≠ trDone ∧
          t.fld (F.CTL_TRCb_STAT_STATE 1) = trDone) then t else s) ∧
      exec (.injectionEnd ai a b) s = .next (if t.ctl.inj.ended then t else s)) ∧
    (s.gated = true → ∀ c ∈ [Instr.followingError ai a b, .traceDone ai a b, .injectionEnd ai a b, .pwPeriodEdge],
      exec c s = .next s) ∧
    (s.cst 2 = csRun → s.fld F.CTL_FE_CFG_FETIME ≠ 0 → s.mag F.CTL_FE_LIM_FELIM < ((s.stg 2).w - s.yPrim 2).natAbs →
      s.fld F.CTL_FE_CFG_FETIME * 4096 ≤ (s.fld F.CTL_FE_STAT_CNT + 1) * 1000 →
      s.superviseLb.flag F.CTL_FE_STAT_FEFLT = true ∧ s.superviseLb.fld F.CTL_FE_STAT_CNT = 0 ∧
      s.superviseLb.fld F.CTL_FE_STAT_FECNT = satAdd 8 (s.fld F.CTL_FE_STAT_FECNT) 1 ∧ s.superviseLb.ctl.sup.fe = true ∧
      s.superviseLb.cst 2 =
        (if s.fld F.CTL_FE_CFG_FEACT = 1 ∨ s.fld F.CTL_FE_CFG_FEACT = 2 then csHeld else csRun)) ∧
    (s.gated = false → s.canonical = true → ∃ t : State, exec .pwPeriodEdge s = .next t ∧ t.now % 256 = 136 ∧
      spGet (fun _ => 0) t.ctl.pw 3 = s.outRaw 3 ∧ spGet (fun _ => 0) t.ctl.pw 4 = s.outRaw 4 ∧ t.mem = s.mem ∧
      t.queues = s.queues ∧ t.ctl.out = s.ctl.out ∧ ∀ i, i ≠ 0x200 → t.reg i = s.reg i) ∧
    (∀ k : Fin 2, ∃ t : State, exec (.pwOvercurrent k) s = .next t ∧ spGet (fun _ => 0) t.ctl.pw (3 + k.val) = 0 ∧
      (∀ j, j ≠ 3 + k.val → spGet (fun _ => 0) t.ctl.pw j = spGet (fun _ => 0) s.ctl.pw j) ∧ t.ctl.out = s.ctl.out ∧
      t.regs = s.regs ∧ t.mem = s.mem ∧ t.queues = s.queues) ∧
    (∀ (k : Fin 2) (gap : Nat), (s.modeNow = modeBoot → exec (.flowmeterPulse k gap) s = .next (s.advCc gap)) ∧
      (s.modeNow ≠ modeBoot → ∃ t : State, exec (.flowmeterPulse k gap) s = .next t ∧ t.clk.cc = s.clk.cc + gap ∧
        (t.fpOf k).count = (s.fpOf k).count + 1 ∧ (t.fpOf k).stamps.head? = some t.clk.cc ∧
        (∀ j, j ≠ k.val → t.fpOf j = s.fpOf j) ∧ t.mem = s.mem ∧
        t.fld F.LDG_MSTAT_DPULSE = (if s.fld F.LDG_REC_FPSEL = k.val then
          satAdd F.LDG_MSTAT_DPULSE.width (s.fld F.LDG_MSTAT_DPULSE) 1 else s.fld F.LDG_MSTAT_DPULSE) ∧
        t.fld F.LDG_MUSE_MUSE = (if s.fld F.LDG_REC_FPSEL = k.val ∧ s.isHead = true then
          satAdd 40 (s.fld F.LDG_MUSE_MUSE) ((s.led.mfrac + s.fld F.LDG_MLPP_MLPP) / 2 ^ 16) else s.fld F.LDG_MUSE_MUSE)))

/-- In a core clock in which hardware updates no field a write of CTL_x_CFG, by FREEZE, STAGE_ENABLE or
STRUCTURE_FIELD_WRITE, stores EN, FREEZE and LIMPRUN; while the stage is not OFF it keeps NS, NM, NO, N, INTMASK,
INTLNK and PRIM and sets CFGERR when one would change. STATE stays, since EN applies from the next strobe; EN = 0 lets
a HELD stage start again. A write of an MOj or UDk keeps SRC or DEST in the same way and stores the other fields. A
coefficient write is stored whole with clean check bits; one that completes while a sample runs is used by the fetches
that begin after it and by none that has begun (log 190). A STRUCTURE_FIELD_WRITE to any other address does nothing.
(spec/09_control_engine.md R221; spec/09_control_engine.md R223; spec/09_control_engine.md R225;
spec/09_control_engine.md R226) -/
def Obligations.StageStructureIsTakenOnlyOff : Prop :=
  ∀ (s : State) (p : Path) (k : Fin 3) (v : Word), s.boot.halted = false → s.calm = true →
    (∀ c ∈ [Instr.freeze k v, .stageEnable k v, .structureFieldWrite p (BitVec.ofNat 24 (0x1000 + 0x100 * k.val)) v],
      ∃ t : State, exec c s = .next t ∧ t.flag (F.CTL_x_CFG_EN k) = bitOf v.toNat 9 ∧
        t.flag (F.CTL_x_CFG_FREEZE k) = bitOf v.toNat 10 ∧ t.flag (F.CTL_x_CFG_LIMPRUN k) = bitOf v.toNat 37 ∧
        (∀ f ∈ [F.CTL_x_CFG_NS k, F.CTL_x_CFG_NM k, F.CTL_x_CFG_NO k, F.CTL_x_CFG_N k, F.CTL_x_CFG_INTMASK k,
            F.CTL_x_CFG_INTLNK k, F.CTL_x_CFG_PRIM k],
          (s.cst k = csOff → t.fld f = bitsOf v.toNat f.hi f.lo) ∧
          (s.cst k ≠ csOff → t.fld f = s.fld f ∧ (bitsOf v.toNat f.hi f.lo ≠ s.fld f →
            t.flag (F.CTL_x_STAT_CFGERR k) = true))) ∧
        t.cst k = s.cst k ∧ (bitOf v.toNat 9 = true ∨ s.cst k ≠ csHeld → t.ctl = s.ctl) ∧
        (bitOf v.toNat 9 = false → s.cst k = csHeld → (t.stg k).lowSeen = true) ∧
        (∀ j, j ≠ k.val → t.stg j = s.stg j) ∧ t.mem = s.mem ∧ t.queues = s.queues) ∧
    (∀ j, j < 4 → ∃ t : State, exec (.structureFieldWrite p (BitVec.ofNat 24 (0x1008 + 0x100 * k.val + 2 * j)) v) s = .next t ∧
      t.fld (F.CTL_x_MOj_OFF k j) = bitsOf v.toNat 31 0 ∧
      (s.cst k = csOff → t.fld (F.CTL_x_MOj_SRC k j) = bitsOf v.toNat 35 32) ∧
      (s.cst k ≠ csOff → t.fld (F.CTL_x_MOj_SRC k j) = s.fld (F.CTL_x_MOj_SRC k j) ∧
        (bitsOf v.toNat 35 32 ≠ s.fld (F.CTL_x_MOj_SRC k j) → t.flag (F.CTL_x_STAT_CFGERR k) = true)) ∧
      (∀ i, i ≠ (F.CTL_x_MOj_SRC k j).addr → i ≠ (F.CTL_x_STAT_CFGERR k).addr → t.reg i = s.reg i) ∧ t.ctl = s.ctl ∧
      t.mem = s.mem ∧ t.queues = s.queues) ∧
    (∀ j, j < 2 → ∃ t : State, exec (.structureFieldWrite p (BitVec.ofNat 24 (0x1014 + 0x100 * k.val + 4 * j)) v) s = .next t ∧
      t.fld (F.CTL_x_UDk_SAFE k j) = bitsOf v.toNat 39 24 ∧
      (s.cst k = csOff → t.fld (F.CTL_x_UDk_DEST k j) = bitsOf v.toNat 3 0) ∧
      (s.cst k ≠ csOff → t.fld (F.CTL_x_UDk_DEST k j) = s.fld (F.CTL_x_UDk_DEST k j) ∧
        (bitsOf v.toNat 3 0 ≠ s.fld (F.CTL_x_UDk_DEST k j) → t.flag (F.CTL_x_STAT_CFGERR k) = true)) ∧
      (∀ i, i ≠ (F.CTL_x_UDk_DEST k j).addr → i ≠ (F.CTL_x_STAT_CFGERR k).addr → t.reg i = s.reg i) ∧ t.ctl = s.ctl ∧
      t.mem = s.mem ∧ t.queues = s.queues) ∧
    (∀ a : BitVec 24, (∀ r, regAt a.toNat = some r → r.reg ≠ .CTL_x_CFG ∧ r.reg ≠ .CTL_x_MOj ∧ r.reg ≠ .CTL_x_UDk) →
      exec (.structureFieldWrite p a v) s = .next s) ∧
    (∀ (r : Fin 10) (c : Fin 14), ∃ t : State, exec (.coefficientWrite p k r c v) s = .next t ∧
      t.reg (F.CTL_x_Mr_c_w k r c).addr = v ∧ t.chkAt (F.CTL_x_Mr_c_w k r c).addr = 0 ∧ t.ctl = s.ctl ∧ t.mem = s.mem ∧
      t.queues = s.queues ∧ ∀ i, i ≠ (F.CTL_x_Mr_c_w k r c).addr → t.reg i = s.reg i ∧ t.chkAt i = s.chkAt i) ∧
    (∀ (w : CoefWrite) (m : List CoefWrite) (i : Nat), i = (F.CTL_x_Mr_c_w w.k w.r w.c).addr →
      (s.ctl.mid = [w] → w.begun ≤ s.ctl.fetches → (State.readWords [i] s).1 = some [sx 40 w.v.toNat]) ∧
      (s.ctl.mid = w :: m → s.ctl.fetches < w.begun → (State.readWords [i] s).1 =
        (State.readWords [i] { s with ctl := { s.ctl with mid := [] } }).1))

/-- ARM takes a buffer to ARMED with its rows empty, FORCE makes an ARMED buffer trigger at its next row, and STOP takes
it to DONE; the bits of one word act from ARM up. In COMMISSION GO starts an injection on a stage in RUN or FROZEN
with legal fields while none runs, with the amplitude limited by AMAX; any other GO sets INJERR and starts nothing.
STOP ends a running injection with DONE = 1. (spec/10_loop_supervision_and_tuning.md R235;
spec/10_loop_supervision_and_tuning.md R239; spec/10_loop_supervision_and_tuning.md R242) -/
def Obligations.TraceAndInjectionControls : Prop :=
  ∀ (s : State) (v : Word), s.boot.halted = false →
    (∀ b : Fin 2, ∃ t : State, exec (.traceArm b v) s = .next t ∧ t.fld (F.CTL_TRCb_STAT_WPTR b) = 0 ∧
      t.fld (F.CTL_TRCb_STAT_VALID b) = 0 ∧ t.fld (F.CTL_TRCb_STAT_TRIGROW b) = 0 ∧ t.mem = s.mem ∧
      t.fld (F.CTL_TRCb_STAT_STATE b) = (if bitOf v.toNat 2 then trDone else trArmed) ∧
      (t.trc b).pend = (bitOf v.toNat 1 && !bitOf v.toNat 2)) ∧
    (∀ b : Fin 2, ∃ t : State, exec (.traceForce b v) s = .next t ∧ t.mem = s.mem ∧
      t.fld (F.CTL_TRCb_STAT_STATE b) = (if bitOf v.toNat 2 then trDone else if bitOf v.toNat 0 then trArmed
        else s.fld (F.CTL_TRCb_STAT_STATE b)) ∧
      (bitOf v.toNat 2 = false → bitOf v.toNat 0 = true ∨ s.fld (F.CTL_TRCb_STAT_STATE b) = trArmed →
        (t.trc b).pend = true) ∧
      (bitOf v.toNat 2 = false → bitOf v.toNat 0 = false → t.regs = s.regs ∧ t.queues = s.queues ∧
        (s.fld (F.CTL_TRCb_STAT_STATE b) ≠ trArmed → t = s.completed))) ∧
    (∀ b : Fin 2, ∃ t : State, exec (.traceStop b v) s = .next t ∧ t.fld (F.CTL_TRCb_STAT_STATE b) = trDone ∧ t.mem = s.mem ∧
      (bitOf v.toNat 0 = false → bitOf v.toNat 1 = false → s.fld (F.CTL_TRCb_STAT_STATE b) = trDone → t = s.completed) ∧
      ∀ c, c ≠ b.val → t.trc c = s.trc c) ∧
    (∀ (can : Prop), (can ↔ s.modeNow = modeCommission ∧ s.fld F.CTL_INJ_CFG_STAGE ≤ 2 ∧
        (s.cst (s.fld F.CTL_INJ_CFG_STAGE) = csRun ∨ s.cst (s.fld F.CTL_INJ_CFG_STAGE) = csFrozen) ∧
        s.flag F.CTL_INJ_STAT_RUN = false ∧ s.fld F.CTL_INJ_CFG_TYPE ≠ 3 ∧ s.fld F.CTL_INJ_CFG_POINT ≤ 8) →
      ∃ t : State, exec (.injectionGo v) s = .next t ∧ t.mem = s.mem ∧ t.queues = s.queues ∧
        (∀ i, i ≠ F.CTL_INJ_STAT_RUN.addr → t.reg i = s.reg i) ∧
        (can → bitOf v.toNat 1 = false → t.flag F.CTL_INJ_STAT_RUN = true ∧ t.fld F.CTL_INJ_STAT_M = 0 ∧
          t.ctl.inj.amp = min (s.mag F.CTL_INJ_AMP_AMP) (s.mag F.CTL_INJ_AMAX_AMAX) ∧
          t.ctl.inj.cfg = s.reg F.CTL_INJ_CFG_w.addr ∧ t.ctl.stages = s.ctl.stages) ∧
        (can → bitOf v.toNat 1 = true → t.flag F.CTL_INJ_STAT_RUN = false ∧ t.flag F.CTL_INJ_STAT_DONE = true) ∧
        (¬can → t.flag F.CTL_INJ_STAT_INJERR = true ∧ t.ctl = s.ctl ∧
          (bitOf v.toNat 1 = false → t.flag F.CTL_INJ_STAT_RUN = s.flag F.CTL_INJ_STAT_RUN))) ∧
    ∃ t : State, exec (.injectionStop v) s = .next t ∧ t.flag F.CTL_INJ_STAT_RUN = false ∧ t.mem = s.mem ∧
      t.queues = s.queues ∧ (s.flag F.CTL_INJ_STAT_RUN = true → t.flag F.CTL_INJ_STAT_DONE = true) ∧
      (∀ i, i ≠ F.CTL_INJ_STAT_RUN.addr → t.reg i = s.reg i) ∧
      (bitOf v.toNat 0 = false → t.ctl = s.ctl ∧ (s.flag F.CTL_INJ_STAT_RUN = false → ∀ i, t.reg i = s.reg i))

/-- METERING_UPDATE runs at the next multiple of 1,024 tb, with the clocks gated of 2^20 tb, and shows the line pressure;
a channel's credited time adds its volume, scaled by CF with its fraction carried, to its zone, saturating, to EST as
well where it is estimated, and unscaled to RAW; with the clocks gated only pairs of unknown state accrue.
DAY_BOUNDARY starts RAW and DPULSE at 0, with the clocks running after reporting RAW, but does nothing in FREERUN or
without a role. RECONCILIATION on the head forms a new CF when every report is in and the ratio lies within the
bounds, and keeps CF otherwise; with no day that waits, on another node or with the clocks gated it does nothing. In a
core clock in which hardware updates no field a write of LIMIT or MLIMIT is stored and triggers a commit; LIMIT_WRITE
to another address does nothing. A read of LDG_RDDATA moves PTR on by 4. (spec/11_metering_and_ledger.md R249;
spec/11_metering_and_ledger.md R248; spec/11_metering_and_ledger.md R251; spec/11_metering_and_ledger.md R252;
spec/11_metering_and_ledger.md R257; spec/20_register_map.md R414) -/
def Obligations.MeteringAndReconciliation : Prop :=
  ∀ s : State, s.boot.halted = false →
    (s.canonical = true → ∃ u t : State, ∃ r k, u = { s with regs := r, clk := k } ∧
      exec .meteringUpdate s = .next t ∧ t.now = u.now ∧ u.now % (if s.gated then 2 ^ 20 else 1024) = 0 ∧ (∀ i, i ≠ 0x200 → u.reg i = s.reg i) ∧
      t.fld F.LDG_PLINE_P = u.linePressure.1 % 65536 ∧ t.flag F.LDG_PLINE_STALE = u.linePressure.2) ∧
    (∀ (p n z d ml : Nat) (stale : Bool) (rs : List (Nat × Bool × Option Credit)), n < 48 → z = s.fld (F.PLN_CHn_CFG_ZONE n) →
      rs = (s.valve n).credits.map (Credit.take s.clk.cc (s.closeEst n)) → d = (rs.map (·.1)).foldl (· + ·) 0 →
      ml = ((s.valve n).frac + (roundAway ((s.flowQ n p * d * s.fld F.LDG_CF_CF * 2 ^ 16 : Nat) : Int) (2 ^ 59)).toNat) →
      ((s.valve n).credits ≠ [] → s.gated = false ∨ (s.valve n).unknown = true →
        (s.meterChannel p stale n).fld (F.LDG_VOLz_VOL z) = min (s.fld (F.LDG_VOLz_VOL z) + ml / 2 ^ 16) (2 ^ 40 - 1) ∧
        (s.meterChannel p stale n).fld (F.LDG_ESTz_EST z) = (if stale || rs.any (fun r => r.1 != 0 && r.2.1) then
          min (s.fld (F.LDG_ESTz_EST z) + ml / 2 ^ 16) (2 ^ 40 - 1) else s.fld (F.LDG_ESTz_EST z)) ∧
        (s.meterChannel p stale n).fld F.LDG_RAW_RAW =
          satAdd 40 (s.fld F.LDG_RAW_RAW) (((s.valve n).rawFrac + s.flowQ n p * d) / 2 ^ 35) ∧
        ((s.meterChannel p stale n).valve n).frac = ml % 2 ^ 16) ∧
      ((s.valve n).credits = [] ∨ (s.gated = true ∧ (s.valve n).unknown = false) →
        (s.meterChannel p stale n).regs = s.regs ∧ ((s.meterChannel p stale n).valve n).frac = (s.valve n).frac)) ∧
    (s.fld F.TBS_STAT_STATE = 0 ∨ s.role = roleNone → exec .dayBoundary s = .next s) ∧
    (s.fld F.TBS_STAT_STATE ≠ 0 → s.role ≠ roleNone → ∃ t : State, exec .dayBoundary s = .next t ∧ t.mem = s.mem ∧
      t.fld F.LDG_RAW_RAW = 0 ∧ t.fld F.LDG_MSTAT_DPULSE = 0 ∧ (s.gated = true → t.led = s.led) ∧
      (s.gated = false → (s.isHead = false → t.led = s.led) ∧
        (s.isHead = true → (∃ x ∈ t.led.reports, x.node = s.addr ∧ x.raw = s.fld F.LDG_RAW_RAW) ∧
          (s.flag F.LDG_REC_REN = true → ∃ d, t.led.day = some (d, s.fld F.LDG_MSTAT_DPULSE, t.clk.cc))))) ∧
    (s.led.day = none ∨ s.isHead = false ∨ s.gated = true → exec .reconciliation s = .next s) ∧
    (∀ (d n c sum v : Nat) (got : List RawRep) (all : Bool), s.led.day = some (d, n, c) → s.isHead = true → s.gated = false →
      got = s.led.reports.filter (fun r => r.day == d) → all = s.nodes.all (fun x => got.any (fun r => r.node == x)) →
      sum = (got.map (·.raw)).foldl (· + ·) 0 → v = n * s.fld F.LDG_MLPP_MLPP →
      ∃ t : State, exec .reconciliation s = .next t ∧ t.led.day = none ∧
        (all = false → t.fld F.LDG_CF_CF = s.fld F.LDG_CF_CF ∧ c + secClocks 60 ≤ t.clk.cc ∧
          t.fld (F.FSV_SRCs_STAT_EVENTS srcRecInc) = satAdd (F.FSV_SRCs_STAT_EVENTS srcRecInc).width
            (s.fld (F.FSV_SRCs_STAT_EVENTS srcRecInc)) 1) ∧
        (all = true → s.fld F.LDG_REC_DMIN * 10 ^ 6 ≤ sum → sum ≠ 0 → s.fld F.LDG_REC_CFMIN * sum * 2 ^ 16 ≤ v * 1000 →
          v * 1000 ≤ s.fld F.LDG_REC_CFMAX * sum * 2 ^ 16 →
          t.fld F.LDG_CF_CF = (roundAway ((v * 2 ^ 8 : Nat) : Int) sum).toNat % 2 ^ 32 ∧
          t.fld F.LDG_CFDAY_DAY = d % 65536 ∧ t.led.cfAt = some t.clk.cc) ∧
        (all = true → sum < s.fld F.LDG_REC_DMIN * 10 ^ 6 ∨ sum = 0 ∨ v * 1000 < s.fld F.LDG_REC_CFMIN * sum * 2 ^ 16 ∨
          s.fld F.LDG_REC_CFMAX * sum * 2 ^ 16 < v * 1000 → t.fld F.LDG_CF_CF = s.fld F.LDG_CF_CF)) ∧
    (∀ (p : Path) (a : BitVec 24) (v : Word), (∀ r, regAt a.toNat = some r → r.reg ≠ .LDG_LIMz ∧ r.reg ≠ .LDG_MLIMIT) →
      exec (.limitWrite p a v) s = .next s) ∧
    (∀ (p : Path) (v : Word), s.calm = true → (∀ z, z < 64 → ∃ t : State, exec (.limitWrite p (BitVec.ofNat 24 (0x1880 + z)) v) s = .next t ∧
        t.fld (F.LDG_LIMz_LIMIT z) = v.toNat ∧ t.chkAt (F.LDG_LIMz_w z).addr = 0 ∧ t.mem = s.mem ∧
        (t.led.wait ||| t.led.cur) &&& rsnLimit = rsnLimit ∧
        (s.led.stage = 0 → s.modeNow ≠ modeBoot → s.gated = false → t.led.stage = 1 ∧ t.led.cur = s.led.wait ||| rsnLimit) ∧
        ∀ i, i ≠ (F.LDG_LIMz_w z).addr → i ≠ F.LDG_STAT_w.addr → t.reg i = s.reg i) ∧
      ∃ t : State, exec (.limitWrite p 0x1813#24 v) s = .next t ∧ t.fld F.LDG_MLIMIT_MLIMIT = v.toNat ∧ t.mem = s.mem ∧
        (t.led.wait ||| t.led.cur) &&& rsnLimit = rsnLimit) ∧
    ∀ p : Path, ∃ t : State, exec (.ledgerRead p) s = .next t ∧ t.led = s.led ∧ t.mem = s.mem ∧
      t.fld F.LDG_RDCTL_PTR = (s.fld F.LDG_RDCTL_PTR + 4) % 2048 ∧ (∀ i, i ≠ F.LDG_RDCTL_PTR.addr → t.reg i = s.reg i) ∧
      s.regView 0x1807 = BitVec.ofNat 40 (bytesAt s.readRecord (s.fld F.LDG_RDCTL_PTR) 4)

/-- Each event of the commit acts in its own step only. A trigger starts a commit, or is noted for one more while one
runs, in BOOT or with the clocks gated. The commit takes the slot that does not hold the last record, erases it,
captures the record with the next SEQ at the start of the next tick once the accumulator words are checked, for HOLD
or DORMANT only with every channel at rest, signs and stages it, programs it and then the marker. A read-back that
agrees publishes it; a difference or a timeout starts again from the erase once, and the second time sets CFAIL,
counts in FAILS, publishes nothing, keeps its triggers until PERIOD expires and starts the commit that waits.
(spec/11_metering_and_ledger.md R260; spec/11_metering_and_ledger.md R261; spec/11_metering_and_ledger.md R263;
spec/11_metering_and_ledger.md R264; spec/11_metering_and_ledger.md R259) -/
def Obligations.CommitStepsFollowTheTable : Prop :=
  ∀ s : State, s.boot.halted = false →
    (∀ (p : Path) (v : Word), ∃ t : State, exec (.commitRequest p v) s = .next t ∧ t.mem = s.mem ∧ t.flash = s.flash ∧
      (s.led.stage = 0 → s.modeNow ≠ modeBoot → s.gated = false → t.led.stage = 1 ∧ t.led.cur = s.led.wait ||| rsnHost) ∧
      (s.led.stage ≠ 0 ∨ s.modeNow = modeBoot ∨ s.gated = true → t.led.stage = s.led.stage ∧ t.led.cur = s.led.cur ∧ t.led.wait = s.led.wait ||| rsnHost ∧
        t.flag F.LDG_STAT_PEND = true)) ∧
    (s.gated = false → s.modeNow ≠ modeBoot → ∃ t : State, exec .commitPeriodExpiry s = .next t ∧ t.led.capAt = t.clk.cc ∧
      s.led.capAt + secClocks (clampN 60 600 (s.fld F.LDG_CFG_PERIOD)) ≤ t.clk.cc ∧
      t.led.kept = 0 ∧ (s.led.stage = 0 → t.led.stage = 1 ∧ t.led.cur = s.led.wait ||| s.led.kept ||| rsnPeriod) ∧
      (s.led.stage ≠ 0 → t.led.stage = s.led.stage ∧ t.led.wait = s.led.wait ||| s.led.kept ||| rsnPeriod)) ∧
    (s.gated = true ∨ s.modeNow = modeBoot → exec .commitPeriodExpiry s = .next s) ∧
    (s.led.stage ≠ 1 ∨ s.ser.job.isSome = true ∨ s.gated = true → exec .commitStart s = .next s) ∧
    (∀ c ∈ [(Instr.sectorEraseComplete, 2), (.ledgerCapture, 3), (.recordSigned, 4), (.recordProgrammed, 5),
        (.markerProgrammed, 6), (.readbackCompare true, 7), (.readbackCompare false, 7)],
      s.led.stage ≠ c.2 → exec c.1 s = .next s) ∧
    (s.led.stage ≠ 2 → s.led.stage ≠ 5 → s.led.stage ≠ 6 → exec .commitStepTimeout s = .next s) ∧
    (s.led.stage = 1 → s.ser.job = none → s.gated = false → ∃ t : State, exec .commitStart s = .next t ∧ t.led.stage = 2 ∧
      t.fld F.LDG_STAT_STEP = 2 ∧ s.ser.free ≤ t.clk.cc ∧ (s.led.last ≠ [] → t.led.slot = 1 - s.fld F.LDG_STAT_LAST) ∧
      (s.led.last = [] → t.led.slot < 2) ∧ t.flash = s.flash ∧ t.mem = s.mem) ∧
    (s.led.stage = 2 → ∃ t : State, exec .sectorEraseComplete s = .next t ∧ t.led.stage = 3 ∧ t.mem = s.mem ∧
      ∀ a, t.flashByte a = (if a / 4096 = s.slotAddr s.led.slot / 4096 then 0xFF#8 else s.flashByte a)) ∧
    (s.led.stage = 3 → s.canonical = true → ∃ u v t : State, ∃ r k, u = { s with regs := r, clk := k } ∧ u.now % 32 = 0 ∧
      (∀ i, i ≠ 0x200 → u.reg i = s.reg i) ∧ v = (List.range 64).foldl State.checkZone u ∧ exec .ledgerCapture s = .next t ∧
      (s.led.cur &&& 6 ≠ 0 ∧ s.allQuiet = false → t = u) ∧
      (s.led.cur &&& 6 = 0 ∨ s.allQuiet = true → t.led.stage = 4 ∧ t.fld F.LDG_STAT_STEP = 3 ∧
        t.led.seq = (s.led.seq + 1) % 2 ^ 32 ∧ t.led.recSeq = t.led.seq ∧ t.led.body = v.recordBody t.led.seq ∧
        t.led.capAt = t.clk.cc ∧ t.mem = s.mem ∧ t.flash = s.flash ∧ t.queues = v.queues)) ∧
    (∀ (body : List Byte) (n : Nat), s.led.stage = 4 → body = s.led.body ++ nodeSign s.led.body →
      n = ((chunksOf 450 body.length body).map (fun c => nrecFor c.length)).foldl (· + ·) 0 →
      (s.ringRoom 60 n = true → ∃ t : State, exec .recordSigned s = .next t ∧ t.led.stage = 5 ∧ t.led.body = body ∧
        t.flash = s.flash ∧ t.mem = s.mem ∧ (∀ q, q ≠ 60 → t.queue q = s.queue q)) ∧
      (s.ringRoom 60 n = false → exec .recordSigned s = .next s)) ∧
    (s.led.stage = 5 → ∃ t : State, exec .recordProgrammed s = .next t ∧ t.led.stage = 6 ∧ (t.queue 60).recs = [] ∧
      (∀ a, a < s.slotAddr s.led.slot ∨ s.slotAddr s.led.slot + s.unstage.1.length ≤ a → t.flashByte a = s.flashByte a) ∧
      (s.led.torn = false → ∀ i b, s.unstage.1[i]? = some b →
        t.flashByte (s.slotAddr s.led.slot + i) = b &&& s.flashByte (s.slotAddr s.led.slot + i))) ∧
    (s.led.stage = 6 → ∃ t : State, exec .markerProgrammed s = .next t ∧ t.led.stage = 7 ∧ t.fld F.LDG_STAT_STEP = 5 ∧
      ∀ i b, [0x5A#8, 0xC3#8, 0x3C#8, 0xA5#8][i]? = some b →
        t.flashByte (s.slotAddr s.led.slot + 4092 + i) = b &&& s.flashByte (s.slotAddr s.led.slot + 4092 + i)) ∧
    (∀ same : Bool, s.led.stage = 7 → ∃ t : State, exec (.readbackCompare same) s = .next t ∧ t.flash = s.flash ∧
      (same = true → s.flashRead (s.slotAddr s.led.slot) s.led.body.length = s.led.body →
        t.fld F.LDG_SEQ_SEQ = s.led.recSeq % 2 ^ 32 ∧ t.fld F.LDG_STAT_LAST = s.led.slot % 2 ∧ t.led.last = s.led.body ∧
        t.led.prev = s.led.last ∧ t.fld F.LDG_STAT_COMMITS = satAdd 16 (s.fld F.LDG_STAT_COMMITS) 1 ∧
        t.led.stage = (if s.led.pend then 1 else 0)) ∧
      (same = false ∨ s.flashRead (s.slotAddr s.led.slot) s.led.body.length ≠ s.led.body →
        t.fld F.LDG_SEQ_SEQ = s.fld F.LDG_SEQ_SEQ ∧ t.led.last = s.led.last ∧
        t.fld F.LDG_STAT_LAST = s.fld F.LDG_STAT_LAST ∧
        (s.led.retry = false → t.led.stage = 2 ∧ t.led.retry = true ∧ t.led.slot = s.led.slot) ∧
        (s.led.retry = true → t.led.stage = (if s.led.pend then 1 else 0) ∧ t.flag F.LDG_STAT_CFAIL = true ∧
          t.flag F.LDG_STAT_PEND = true ∧ t.fld F.LDG_STAT_FAILS = satAdd 8 (s.fld F.LDG_STAT_FAILS) 1 ∧
          t.led.kept = s.led.kept ||| s.led.cur ∧ (s.led.pend = true → t.led.cur = s.led.wait)))) ∧
    (s.led.stage = 2 ∨ s.led.stage = 5 ∨ s.led.stage = 6 → ∃ t : State, exec .commitStepTimeout s = .next t ∧
      s.led.at_ + msClocks (stageLimit s.led.stage) ≤ t.clk.cc ∧ t.led.last = s.led.last ∧
      t.fld F.LDG_SEQ_SEQ = s.fld F.LDG_SEQ_SEQ ∧ (t.queue 60).recs = [] ∧
      (s.led.retry = false → t.led.stage = 2 ∧ t.led.retry = true) ∧
      (s.led.retry = true → t.led.stage = (if s.led.pend then 1 else 0) ∧ t.flag F.LDG_STAT_CFAIL = true ∧
        t.led.kept = s.led.kept ||| s.led.cur))

/-- Time runs to a frame's end, which gives state u. With the link on and a role, a frame of its row that fails a check
counts in that check's counter, leaves the queues, and for a form error is entered in its sender's window; one for
another node leaves u. An accepted frame is in Q58, is a duplicate from then on, and a unicast one is acknowledged
with RES 0; then what waits moves on. A frame of another row leaves the state; with the link off or no role one of the
row leaves u. FRAME_CHECK_FAILURE counts a wrong FCCHK, CRC or length, and what the later checks count, and leaves the
state for a frame that passes, and with the link off or no role. (spec/12_span_link.md R280; spec/12_span_link.md
R283; spec/12_span_link.md R284) -/
def Obligations.ReceivedFramesAreChecked : Prop :=
  ∀ (s u : State) (f : Frame) (fc : BitVec 8) (crc : BitVec 32), s.boot.halted = false → u = s.arrive f →
    ∀ rows : List (Instr × Bool), rows = [(.write f, f.cls.val == 2), (.read f, f.cls.val == 3), (.rdata f, f.cls.val == 4),
        (.err f, f.cls.val == 9), (.offset f, f.cls.val == 8 && typeOf f.payload == 1),
        (.profile f, f.cls.val == 8 && typeOf f.payload == 2), (.pressure f, f.cls.val == 8 && typeOf f.payload == 3),
        (.rawrep f, f.cls.val == 8 && typeOf f.payload == 4), (.cf f, f.cls.val == 8 && typeOf f.payload == 5),
        (.holdcmd f, f.cls.val == 8 && typeOf f.payload == 6), (.snapshotRequest f, f.cls.val == 7),
        (.snapshotSegment f, f.cls.val == 6)] →
    (∀ c ∈ rows, c.2 = false → exec c.1 s = .next s) ∧
    (s.linkOn = false ∨ s.role = roleNone → (∀ c ∈ rows, c.2 = true → exec c.1 s = .next u) ∧
      exec (.frameCheckFailure fc crc f) s = .next s) ∧
    (s.linkOn = true → s.role ≠ roleNone →
      (fc.toNat ≠ fcChk f → ∃ t : State, exec (.frameCheckFailure fc crc f) s = .next t ∧ t.queues = s.queues ∧
        t.fld F.SLK_CNTB_FCERR = satAdd 16 (s.fld F.SLK_CNTB_FCERR) 1) ∧
      (fc.toNat = fcChk f → crc.toNat ≠ crcOf f → ∃ t : State, exec (.frameCheckFailure fc crc f) s = .next t ∧
        t.queues = s.queues ∧ t.fld F.SLK_CNTB_CRCERR = satAdd 16 (s.fld F.SLK_CNTB_CRCERR) 1) ∧
      ∀ c ∈ rows ++ [(.frameCheckFailure fc crc f, fc.toNat == fcChk f && crc.toNat == crcOf f &&
          f.cls.val != clsEnr && !(f.cls.val == clsKeyx && f.bc))], c.2 = true →
        (badLength f = true → ∃ t : State, exec c.1 s = .next t ∧ t.queues = s.queues ∧ t.lnk = u.lnk ∧
          t.fld F.SLK_CNTB_CRCERR = satAdd 16 (s.fld F.SLK_CNTB_CRCERR) 1) ∧
        (badLength f = false → f.sysid.toNat ≠ s.fld F.SYS_SYSID_SYSID → ∃ t : State, exec c.1 s = .next t ∧
          t.queues = s.queues ∧ t.lnk = u.lnk ∧ t.fld F.SLK_CNTA_STRANGER = satAdd 16 (s.fld F.SLK_CNTA_STRANGER) 1 ∧
          ∀ i, i ≠ 0x200 → i ≠ F.SLK_CNTA_w.addr → t.reg i = s.reg i) ∧
        (badLength f = false → f.sysid.toNat = s.fld F.SYS_SYSID_SYSID →
          (f.bc = false → f.dst.val ≠ s.addr → exec c.1 s = .next u) ∧
          (f.bc = true ∨ f.dst.val = s.addr → ∀ key, key = (if f.bc then s.groupMac f.keyid else s.pairMac f.src f.keyid) →
            (key = none → ∃ t : State, exec c.1 s = .next t ∧ t.queues = s.queues ∧ t.lnk = u.lnk ∧
              t.fld F.SLK_CNTD_NOKEY = satAdd 16 (s.fld F.SLK_CNTD_NOKEY) 1) ∧
            (∀ k, key = some k → f.tag.toNat ≠ tagOf k f → ∃ t : State, exec c.1 s = .next t ∧ t.queues = s.queues ∧
              t.lnk = u.lnk ∧ t.fld F.SLK_CNTA_FORGER = satAdd 16 (s.fld F.SLK_CNTA_FORGER) 1) ∧
            (∀ k, key = some k → f.tag.toNat = tagOf k f →
              (s.seqState f.src f.seq.toNat = 1 → ∃ t : State, exec c.1 s = .next t ∧ t.queues = s.queues ∧
                t.fld F.SLK_CNTC_DUP = satAdd 16 (s.fld F.SLK_CNTC_DUP) 1) ∧
              (s.seqState f.src f.seq.toNat = 2 → ∃ t : State, exec c.1 s = .next t ∧ t.queues = s.queues ∧
                t.fld F.SLK_CNTC_STALE = satAdd 16 (s.fld F.SLK_CNTC_STALE) 1) ∧
              (s.seqState f.src f.seq.toNat = 0 →
                (formOf f = false ∨ f.src.val = s.addr → ∃ t : State, exec c.1 s = .next t ∧
                  t.queues = s.queues ∧ t.seqState f.src f.seq.toNat = 1 ∧
                  t.fld F.SLK_CNTD_FORMERR = satAdd 16 (s.fld F.SLK_CNTD_FORMERR) 1) ∧
                (formOf f = true → f.src.val ≠ s.addr →
                  (q58Records f ≠ 0 → s.ringRoom 58 (q58Records f) = false → ∃ t : State, exec c.1 s = .next t ∧
                    t.queues = s.queues ∧ t.seqState f.src f.seq.toNat = 0 ∧
                    t.fld F.SLK_CNTE_RXFULL = satAdd 16 (s.fld F.SLK_CNTE_RXFULL) 1) ∧
                  (q58Records f = 0 ∨ s.ringRoom 58 (q58Records f) = true → (c ∉ rows → exec c.1 s = .next s) ∧
                    (c ∈ rows → ∃ v : State, exec c.1 s = .next v.flow ∧
                      (v.queue 58).recs.length = (s.queue 58).recs.length + nrecFor f.payload.length ∧
                      v.seqState f.src f.seq.toNat = 1 ∧ v.mem = s.mem ∧ (f.bc = false → ∃ a : Frame, v.lnk.sent = some a ∧
                        a.cls = 0 ∧ a.dst = f.src ∧ a.seq = f.seq ∧ a.payload.head? = some 0)))))))))

/-- An ERR sets RWFAIL and counts in RWCNT; an RDATA is put in Q63 when it has room. OFFSET, CF and HOLDCMD act only from
the active head: the offset with its correction, the new CF and its commit trigger, a HOLD that waits for the tick. A
profile stamped before P_k − 2^17 for the next instant P_k only counts in LATE, one stamped there is kept and a later
one is not (log 119); line pressure is taken only from PNODE; the active head keeps the last raw report of a node and
day. A PUSH that passes the checks is admitted before its ACK, which carries the result; another ends as the checks
leave it. The WRITE and READ items at the head of Q58 are released, the writes are made in order, a clean READ is
answered with an RDATA, a READ item that is read poisoned counts in FORMERR and a poisoned value in TXABORT; with no
such item at the head nothing changes. (spec/12_span_link.md R285; spec/12_span_link.md R286; spec/12_span_link.md
R287; spec/12_span_link.md R288; spec/12_span_link.md R277; spec/11_metering_and_ledger.md R251;
spec/11_metering_and_ledger.md R253; spec/02_travel_and_timebase.md R45) -/
def Obligations.AcceptedFramesHaveTheirEffect : Prop :=
  (∀ (s t : State) (src : Nat) (pl : List Byte) (at_ : Nat),
    (t = s.rxEffect src clsErr pl at_ → t.flag F.SLK_ERR_RWFAIL = true ∧ t.fld F.SLK_ERR_RWCNT = satAdd 16 (s.fld F.SLK_ERR_RWCNT) 1 ∧
      t.mem = s.mem ∧ t.valves = s.valves) ∧
    (t = s.rxEffect src clsRdata pl at_ → pl.length % 5 = 2 → t.mem = s.mem ∧
      (s.ringRoom 63 ((4 + (pl.length - 2) / 5) / 3) = true → (t.queue 63).recs.length = (s.queue 63).recs.length +
        (4 + (pl.length - 2) / 5) / 3 ∧ t.regs = s.regs) ∧
      (s.ringRoom 63 ((4 + (pl.length - 2) / 5) / 3) = false → t.queues = s.queues)) ∧
    (t = s.rxEffect src clsMsg pl at_ →
      (typeOf pl = 1 ∨ typeOf pl = 5 ∨ typeOf pl = 6 → s.fromHead src = false → t = s) ∧
      (typeOf pl = 1 → s.fromHead src = true → t.fld F.TRV_OFFSET_OFFSET = bytesAt pl 1 5 % 2 ^ 40) ∧
      (typeOf pl = 2 → ∀ p, p = add40 (s.nextInstant clsProfile (2 ^ 17) 0) (-(2 ^ 17 : Int)) →
        (Machine.dist (bytesAt pl 1 5) p < 0 → t = s.inc F.CTL_EDDY_LATE) ∧
        (bytesAt pl 1 5 = p → t.ctl.got.length = s.ctl.got.length + 1 ∧ t.regs = s.regs) ∧
        (0 ≤ Machine.dist (bytesAt pl 1 5) p → bytesAt pl 1 5 ≠ p → t = s)) ∧
      (typeOf pl = 3 → (s.fld F.LDG_PCFG_PNODE = src →
          t.led.press = some (src, bytesAt pl 6 2, bitOf (bytesAt pl 8 1) 7, s.clk.cc)) ∧
        (s.fld F.LDG_PCFG_PNODE ≠ src → t = s)) ∧
      (typeOf pl = 4 → (s.isHead = false → t = s) ∧ (s.isHead = true → t.led.reports.head? = some
        { node := src, day := bytesAt pl 1 2, raw := bytesAt pl 3 5 } ∧ t.regs = s.regs)) ∧
      (typeOf pl = 5 → s.fromHead src = true → t.fld F.LDG_CF_CF = bytesAt pl 1 4 % 2 ^ 32 ∧ t.led.cfAt = some s.clk.cc ∧
        ((t.led.wait ||| t.led.cur) &&& rsnCf) = rsnCf) ∧
      (typeOf pl = 6 → s.fromHead src = true → t = { s with mode := { s.mode with hold := s.mode.hold ++ [4] } }))) ∧
  (∀ (s u : State) (f : Frame), s.boot.halted = false → (f.cls.val ≠ clsPush → exec (.push f) s = .next s) ∧
    (∀ o, f.cls.val = clsPush → (s.arrive f).rxChecks f (formOf f) 0 = (o, u) → o ≠ .accepted → exec (.push f) s = .next u) ∧
    (f.cls.val = clsPush → (s.arrive f).rxChecks f (formOf f) 0 = (.accepted, u) → ∀ ws q, ws = wordsOfBytes f.payload →
      q = recQ (ws.headD 0) → ∃ t : State, exec (.push f) s = .next t ∧ t.mem = s.mem ∧ t.mode.traffic = t.clk.cc ∧
      (∀ k, k ≠ q → t.queue k = u.queue k) ∧ (q < 56 → u.admitCode 2 q ws = 0 →
        (t.queue q).recs.length = (u.queue q).recs.length + (ws.length + 2) / 3) ∧
      (56 ≤ q ∨ u.admitCode 2 q ws ≠ 0 → t.queues = u.queues) ∧
      (f.bc = false → ∃ a : Frame, t.lnk.sent = some a ∧ a.dst = f.src ∧ a.seq = f.seq ∧
        (a.payload[1]?) = some (BitVec.ofNat 8 (if 56 ≤ q then admForm else u.admitCode 2 q ws))))) ∧
  (∀ (s : State) (rs : List Rec), s.boot.halted = false →
    (s.rxHead clsWrite = none → exec .linkWriteExecution s = .next s) ∧ (s.rxHead clsRead = none → exec .linkReadExecution s = .next s) ∧
    (s.rxHead clsWrite = some rs → ∃ v w : State, exec .linkWriteExecution s = .next w.flow ∧
      (v.queue 58).recs.length = (s.queue 58).recs.length - rs.length ∧
      w = (List.range ((itemOf rs).payload.length / 8)).foldl
        (fun s k => s.linkWriteOne (itemOf rs) (s.readItem 58 reqLink rs).1 k) v ∧
      ((∀ r ∈ rs, r.c0 = 0 ∧ r.c1 = 0 ∧ r.c2 = 0) → v.regs = s.regs ∧ v.mem = s.mem)) ∧
    (s.rxHead clsRead = some rs → (s.readItem 58 reqLink rs).1.any (·.2) = true → ∃ v : State,
      exec .linkReadExecution s = .next v.flow ∧ (v.queue 58).recs.length = (s.queue 58).recs.length - rs.length ∧
      v.fld F.SLK_CNTD_FORMERR = satAdd 16 (s.fld F.SLK_CNTD_FORMERR) 1) ∧
    (s.rxHead clsRead = some rs → (∀ r ∈ rs, r.c0 = 0 ∧ r.c1 = 0 ∧ r.c2 = 0) → ∃ v : State,
      (v.queue 58).recs.length = (s.queue 58).recs.length - rs.length ∧ v.regs = s.regs ∧ v.mem = s.mem ∧
      ((v.linkReads (itemOf rs)).2.1 = false → exec .linkReadExecution s = .next (((v.linkReads (itemOf rs)).2.2.pushTx 57
        (itemOf rs).peer clsRdata false (toBytes 2 (itemOf rs).seq ++ (v.linkReads (itemOf rs)).1)).flow)) ∧
      ((v.linkReads (itemOf rs)).2.1 = true → ∃ w : State, exec .linkReadExecution s = .next w.flow ∧
        w.fld F.SLK_CNTG_TXABORT = satAdd 16 ((v.linkReads (itemOf rs)).2.2.fld F.SLK_CNTG_TXABORT) 1)))

/-- FRAME_TRANSMIT draws what backoff is due and lets the busy time given pass; where its ring's count ends first it then
waits for that end and sends the first clean item that may go, a poisoned one counting in TXABORT, or in a held
unenrolled node the first answer with SYSID 0; a unicast frame then stays outstanding. An ACK of it with RES 1 makes
it wait RETRY ms, any other completes it and counts in TXOK, an ACK of nothing outstanding counts in LATEACK, one of
wrong form in FORMERR. ACK_WAIT_TIMEOUT counts in NOACK and sends again, or fails the delivery once RETRY repetitions
have missed. With nothing outstanding that waits so, the timers change nothing. Energy above CSTHR is ignored 300 ms
after the last frame, and minded again after 1.0 s below it. In a core clock in which hardware updates no field
HOST_SEND starts a legal frame; PRESSURE_BROADCAST offers the line pressure. (spec/12_span_link.md R277;
spec/12_span_link.md R278; spec/12_span_link.md R279; spec/12_span_link.md R280; spec/12_span_link.md R282;
spec/12_span_link.md R289) -/
def Obligations.FramesAreSentAndAcknowledged : Prop :=
  ∀ s : State, s.boot.halted = false →
    (∀ (ring : Fin 2) (busy q : Nat) (u : State), q = 56 + ring.val →
      u = (if busy = 0 then s.contend else s.contend.busy s.clk.cc (s.clk.cc + busy)) →
      (u.winsAccess q = false → exec (.frameTransmit ring busy) s = .next u) ∧
      (∀ c, u.winsAccess q = true → u.accessAt q = some c →
        (s.heldForLink = false → (s.items q).find? (fun i => s.mayGo q (itemOf i)) = none →
          exec (.frameTransmit ring busy) s = .next ((u.advCcTo c).endBackoff q).flow) ∧
        (∀ rs, s.heldForLink = false → (s.items q).find? (fun i => s.mayGo q (itemOf i)) = some rs →
          (s.readItem q reqLink rs).1.any (·.2) = true → ∃ v : State, exec (.frameTransmit ring busy) s = .next v.flow ∧
            v.fld F.SLK_CNTG_TXABORT = satAdd 16 (s.fld F.SLK_CNTG_TXABORT) 1 ∧ v.lnk.sent = s.lnk.sent) ∧
        (∀ rs x, s.heldForLink = false → (s.items q).find? (fun i => s.mayGo q (itemOf i)) = some rs →
          (∀ r ∈ rs, r.c0 = 0 ∧ r.c1 = 0 ∧ r.c2 = 0) → x = itemOf rs →
          ∃ (v : State) (f : Frame), exec (.frameTransmit ring busy) s = .next v.flow ∧ v.lnk.sent = some f ∧
            f.bc = x.bc ∧ f.payload = x.payload ∧ f.seq = BitVec.ofNat 16 x.seq ∧ f.cls.val = x.cls ∧
            f.sysid = BitVec.ofNat 32 (s.fld F.SYS_SYSID_SYSID) ∧ v.mem = s.mem ∧ c ≤ v.clk.cc ∧
            (∀ y ∈ v.lnk.bo, y.1 ≠ q) ∧
            (x.bc = false → v.queues = s.queues ∧ ∃ o, v.outTo x.peer = some o ∧ o.phase = 0 ∧ o.seq = x.seq ∧
              o.dst = x.peer ∧ v.clk.cc < o.at_)) ∧
        (∀ w, s.heldForLink = true → s.lnk.wait.find? (fun t => t.cls == clsEnr) = some w →
          ∃ (v : State) (f : Frame), exec (.frameTransmit ring busy) s = .next v.flow ∧ v.lnk.sent = some f ∧ f.bc = true ∧
            f.payload = w.payload ∧ f.sysid = 0 ∧ f.src = 0 ∧ f.cls.val = w.cls % 16 ∧ v.lnk.wait = s.lnk.wait.erase w))) ∧
    (∀ dst : Fin 64, (∀ o, s.outTo dst = some o → o.phase ≠ 0) → exec (.ackWaitTimeout dst) s = .next s) ∧
    (∀ (dst : Fin 64) (o : Out) (m : Nat), s.outTo dst = some o → o.phase = 0 → m = o.misses + (if o.sends > 1 then 1 else 0) →
      (m < s.fld F.SLK_CFG_RETRY → ∃ t : State, exec (.ackWaitTimeout dst) s = .next t ∧ o.at_ + s.ackWait ≤ t.clk.cc ∧
        t.fld F.SLK_CNTE_NOACK = satAdd 16 (s.fld F.SLK_CNTE_NOACK) 1 ∧ t.queues = s.queues ∧
        t.outTo dst = some { o with misses := m, phase := 1 }) ∧
      (s.fld F.SLK_CFG_RETRY ≤ m → ∃ v : State, exec (.ackWaitTimeout dst) s = .next v.flow ∧ v.outTo dst = none ∧
        v.flag F.SLK_ERR_DELFAIL = true ∧ v.fld F.SLK_CNTF_TXFAIL = satAdd 16 (s.fld F.SLK_CNTF_TXFAIL) 1 ∧
        v.fld F.SLK_CNTE_NOACK = satAdd 16 (s.fld F.SLK_CNTE_NOACK) 1)) ∧
    (∀ dst : Fin 64, (∀ o, s.outTo dst = some o → o.phase ≠ 2) → exec (.retryWaitExpiry dst) s = .next s) ∧
    (∀ (dst : Fin 64) (o : Out), s.outTo dst = some o → o.phase = 2 → ∃ t : State, exec (.retryWaitExpiry dst) s = .next t ∧
      o.at_ ≤ t.clk.cc ∧ t.outTo dst = some { o with phase := 1 } ∧ t.queues = s.queues ∧ t.mem = s.mem ∧
      ∀ i, i ≠ 0x200 → t.reg i = s.reg i) ∧
    (∀ (f : Frame) (u : State), (f.cls.val ≠ clsAck → exec (.ack f) s = .next s) ∧
      (f.cls.val = clsAck → (s.arrive f).checkAuth f = (false, u) → exec (.ack f) s = .next u) ∧
      (f.cls.val = clsAck → (s.arrive f).checkAuth f = (true, u) → f.bc = true ∨ f.payload.length ≠ 5 ∨ f.src.val = s.addr →
        exec (.ack f) s = .next (u.inc F.SLK_CNTD_FORMERR)) ∧
      (f.cls.val = clsAck → (s.arrive f).checkAuth f = (true, u) → f.bc = false → f.payload.length = 5 → f.src.val ≠ s.addr →
        (s.outTo f.src = none ∨ (∃ o, s.outTo f.src = some o ∧ (o.phase ≠ 0 ∨ o.seq ≠ f.seq.toNat)) →
          ∃ t : State, exec (.ack f) s = .next t ∧ t.fld F.SLK_CNTG_LATEACK = satAdd 16 (s.fld F.SLK_CNTG_LATEACK) 1 ∧
            t.lnk = u.lnk ∧ t.queues = s.queues) ∧
        (∀ o, s.outTo f.src = some o → o.phase = 0 → o.seq = f.seq.toNat →
          (bytesAt f.payload 0 1 = 1 → ∃ t : State, exec (.ack f) s = .next t ∧ t.queues = s.queues ∧
            t.fld (F.SLK_PEERp_LNK_SNR f.src) = bytesAt f.payload 4 1 ∧
            t.outTo f.src = some { o with phase := 2, at_ := t.clk.cc + msClocks (bytesAt f.payload 2 2) }) ∧
          (bytesAt f.payload 0 1 ≠ 1 → ∃ v : State, exec (.ack f) s = .next v.flow ∧ v.outTo f.src = none ∧
            v.fld (F.SLK_PEERp_LNK_SNR f.src) = bytesAt f.payload 4 1 ∧
            v.fld F.SLK_CNTF_TXOK = satAdd 16 (s.fld F.SLK_CNTF_TXOK) 1)))) ∧
    (∀ noise : Nat, (s.linkOn = false ∨ s.flag F.SLK_STAT_CSIGN = true ∨ noise ≤ s.fld F.SLK_PHY_CSTHR →
        exec (.energySenseIgnore noise) s = .next s) ∧
      (s.linkOn = true → s.flag F.SLK_STAT_CSIGN = false → s.fld F.SLK_PHY_CSTHR < noise →
        ∃ t : State, exec (.energySenseIgnore noise) s = .next t ∧ s.lnk.busyTo + msClocks 300 ≤ t.clk.cc ∧
        t.flag F.SLK_STAT_CSIGN = true ∧ t.fld F.SLK_STAT_JAMCS = satAdd 8 (s.fld F.SLK_STAT_JAMCS) 1 ∧
        t.fld F.SLK_STAT_NOISE = min 255 noise ∧ t.fld F.SLK_STAT_SEQ = s.fld F.SLK_STAT_SEQ ∧
        t.lnk.csFrom = some t.clk.cc ∧ ∀ i, i ≠ 0x200 → i ≠ F.SLK_STAT_w.addr → t.reg i = s.reg i) ∧
      (s.lnk.csFrom = none ∨ s.fld F.SLK_PHY_CSTHR ≤ noise → exec (.energySenseRestore noise) s = .next s) ∧
      (∀ c, s.lnk.csFrom = some c → noise < s.fld F.SLK_PHY_CSTHR →
        ∃ t : State, exec (.energySenseRestore noise) s = .next t ∧ c + secClocks 1 ≤ t.clk.cc ∧ t.lnk.csFrom = none ∧
        t.flag F.SLK_STAT_CSIGN = false ∧ t.fld F.SLK_STAT_NOISE = min 255 noise ∧
        t.fld F.SLK_STAT_SEQ = s.fld F.SLK_STAT_SEQ ∧ ∀ i, i ≠ 0x200 → i ≠ F.SLK_STAT_w.addr → t.reg i = s.reg i)) ∧
    (∀ (v : Word) (d c n : Nat) (okLen behind : Prop), s.calm = true →
      (behind ↔ ∃ w ∈ s.lnk.wait, w.ring = 57 ∧ w.cls = c ∧ w.host = true) → d = bitsOf v.toNat 39 34 → c = bitsOf v.toNat 33 30 → n = bitsOf v.toNat 29 22 →
      (okLen ↔ (c = 2 ∧ 8 ≤ n ∧ n ≤ 240 ∧ n % 8 = 0) ∨ (c = 3 ∧ 3 ≤ n ∧ n ≤ 141 ∧ n % 3 = 0) ∨ (c = 5 ∧ n = 15)) →
      ∃ t : State, exec (.hostSend v) s = .next t ∧ t.mem = s.mem ∧ t.fld F.SLK_HCMD_LEN = n ∧
        (s.flag F.SLK_HSTAT_BUSY = true → t.queues = s.queues ∧ t.lnk = s.lnk) ∧
        (s.flag F.SLK_HSTAT_BUSY = false → d = s.addr → t.fld F.SLK_HSTAT_RES = 9 ∧ t.queues = s.queues ∧ t.lnk = s.lnk) ∧
        (s.flag F.SLK_HSTAT_BUSY = false → d ≠ s.addr → ¬okLen → t.fld F.SLK_HSTAT_RES = 11 ∧ t.queues = s.queues ∧
          t.lnk = s.lnk) ∧
        (s.flag F.SLK_HSTAT_BUSY = false → d ≠ s.addr → okLen → t.flag F.SLK_HSTAT_BUSY = true ∧
          (¬behind → s.ringRoom 57 (nrecFor n) = true → t.lnk.host = some s.nextSeq ∧
            t.fld F.SLK_HSTAT_SEQ = s.nextSeq ∧
            (t.queue 57).recs.length = (s.queue 57).recs.length + nrecFor n) ∧
          (behind ∨ s.ringRoom 57 (nrecFor n) = false → t.queues = s.queues ∧
            t.lnk.wait.length = s.lnk.wait.length + 1))) ∧
    (s.gated = true → exec .pressureBroadcast s = .next s) ∧
    (s.gated = false → ∃ u : State, ∃ r k, u = { s with regs := r, clk := k } ∧ (∀ i, i ≠ 0x200 → u.reg i = s.reg i) ∧
      (s.canonical = true → u.now % 2 ^ 18 = 2 ^ 17) ∧ exec .pressureBroadcast s = .next
        (if s.flag F.SLK_CFG_PSEND = true ∧ s.linkOn = true ∧ s.role ≠ roleNone ∧ s.modeNow ≠ modeDormant then
          u.pushTx 56 0 clsMsg true (toBytes 1 3 ++ toBytes 5 u.now ++ toBytes 2 (s.fld F.LDG_PLINE_P) ++
            toBytes 1 (128 * b2n (s.flag F.LDG_PLINE_STALE))) else u))

/-- Starting an exchange with an enrolled peer, where a frame or the search for a head session asks for one, puts a fresh
KX1 in Q57 and holds the exchange; a peer without an entry counts in KXFAIL; elsewhere nothing starts. A KEYX
broadcast of its row that fails a check counts there; one that passes waits in the engine's queue of 8 while the
engine works, counts in RXFULL when that is full, and is served at once by an idle engine: a KX1 that verifies is
answered as responder, one that fails is a forger, and of crossing exchanges the lower address's goes on; a KX2
belongs to the node's own first message and must verify; a KX3 or KX4 whose CONF matches installs the generation,
keeping the old one, and another leaves the sessions. After 500 ms a message is repeated, and after three KX1 the
exchange fails and the peer is barred. KEY_CMD.REKEY and REKEY hours start one; the old generation is discarded after
10 s. (spec/13_identity_and_security.md R300; spec/13_identity_and_security.md R301; spec/13_identity_and_security.md
R302; spec/13_identity_and_security.md R304) -/
def Obligations.PairKeysAreExchanged : Prop :=
  (∀ (s : State) (q : Fin 64), s.boot.halted = false → s.linkOn = true → s.role ≠ roleNone → s.gated = false → q.val ≠ s.addr →
    (s.sess q).cur = none → (∀ b, s.key.barred.find? (fun p => p.1 == q.val) = some b → b.2 ≤ s.clk.cc) →
    (s.frameFor q = true ∨ s.role = roleStandby ∨ s.hd.arb.isSome = true) →
    (∀ x, s.exchange q = some x → exec (.keyExchangeInitiate q) s = .next s) ∧
    (s.exchange q = none → s.entryOf q = none → ∃ t : State, exec (.keyExchangeInitiate q) s = .next t ∧ t.key = s.key ∧
      t.queues = s.queues ∧ t.fld F.KEY_CNT_KXFAIL = satAdd 16 (s.fld F.KEY_CNT_KXFAIL) 1 ∧ t.fld F.KEY_KXSTAT_PEER = q.val) ∧
    (s.exchange q = none → (s.entryOf q).isSome = true → ∃ (t : State) (x : Exchange), exec (.keyExchangeInitiate q) s = .next t ∧
      t.exchange q = some x ∧ x.init = true ∧ x.fresh = true ∧ x.gen = 0 ∧ x.stage = 1 ∧ x.tries = 1 ∧ x.at_ = s.clk.cc ∧
      x.kx1.length = 148 ∧ t.flag F.KEY_STAT_KXBUSY = true ∧ t.key.sess = s.key.sess ∧ t.mem = s.mem ∧
      ((∀ w ∈ s.lnk.wait, w.ring = 57 → w.cls = clsKeyx → w.host = true) → s.ringRoom 57 (nrecFor 148) = true →
        (t.queue 57).recs.length = (s.queue 57).recs.length + nrecFor 148))) ∧
  (∀ (s : State) (q : Fin 64), s.boot.halted = false → (s.linkOn = false ∨ s.role = roleNone ∨ s.gated = true ∨ q.val = s.addr ∨
      (s.sess q).cur.isSome = true ∨ (∃ b, s.key.barred.find? (fun p => p.1 == q.val) = some b ∧ s.clk.cc < b.2) ∨
      (s.frameFor q = false ∧ s.role ≠ roleStandby ∧ s.hd.arb = none)) → exec (.keyExchangeInitiate q) s = .next s) ∧
  (∀ (s u : State) (f : Frame), s.boot.halted = false → u = s.arrive f →
    ∀ c ∈ [(Instr.kx1 f, 1), (.kx2 f, 2), (.kx3 f, 3), (.kx4 f, 4)],
      (isKeyx f c.2 = false → exec c.1 s = .next s) ∧
      (isKeyx f c.2 = true → (s.linkOn = false ∨ s.role = roleNone → exec c.1 s = .next u) ∧
        (s.linkOn = true → s.role ≠ roleNone →
          (badLength f = true → exec c.1 s = .next (u.inc F.SLK_CNTB_CRCERR)) ∧
          (badLength f = false → f.sysid.toNat ≠ s.fld F.SYS_SYSID_SYSID → exec c.1 s = .next (u.inc F.SLK_CNTA_STRANGER)) ∧
          (badLength f = false → f.sysid.toNat = s.fld F.SYS_SYSID_SYSID →
            (s.entryOf f.src = none → exec c.1 s = .next (u.inc F.SLK_CNTD_NOKEY)) ∧
            ((s.entryOf f.src).isSome = true →
              (8 ≤ s.key.work.length → exec c.1 s = .next (u.inc F.SLK_CNTE_RXFULL)) ∧
              (s.key.work.length < 8 → u.engineFree = false →
                exec c.1 s = .next { u with key := { u.key with work := u.key.work ++ [f] } }) ∧
              (s.key.work.length < 8 → s.key.work ≠ [] →
                exec c.1 s = .next (State.serveKx { u with key := { u.key with work := u.key.work ++ [f] } }))))))) ∧
  (∀ (s u : State) (f : Frame) (e : Entry), s.boot.halted = false → u = s.arrive f → s.linkOn = true → s.role ≠ roleNone →
    badLength f = false → f.sysid.toNat = s.fld F.SYS_SYSID_SYSID → s.entryOf f.src = some e → s.key.work = [] →
    u.engineFree = true →
    (isKeyx f 1 = true → ∀ good : Bool,
      good = (verifySig e.pub (s.sigaText f.src f.payload) (bytesAt f.payload 84 64) && ecOn (pointOf (bytesAt f.payload 20 64))) →
      (f.tag ≠ 0 ∨ good = false → ∃ t : State, exec (.kx1 f) s = .next t ∧ t.key = { s.key with engTo := t.key.engTo } ∧
        t.queues = s.queues ∧ t.fld F.SLK_CNTA_FORGER = satAdd 16 (s.fld F.SLK_CNTA_FORGER) 1) ∧
      (f.tag = 0 → good = true →
        (f.bc = false ∨ f.payload.length ≠ 148 ∨ f.src.val = s.addr → ∃ t : State, exec (.kx1 f) s = .next t ∧
          t.key = { s.key with engTo := t.key.engTo } ∧ t.queues = s.queues ∧
          t.fld F.SLK_CNTD_FORMERR = satAdd 16 (s.fld F.SLK_CNTD_FORMERR) 1) ∧
        (f.bc = true → f.payload.length = 148 → f.src.val ≠ s.addr →
          (tgtOf f.payload ≠ s.addr → exec (.kx1 f) s = .next (u.engineWorks 57)) ∧
          (tgtOf f.payload = s.addr →
            (∀ x, s.exchange f.src = some x → x.init = true → x.stage ≠ 3 → s.addr < f.src.val →
              exec (.kx1 f) s = .next (u.engineWorks 57)) ∧
            ((∀ x, s.exchange f.src = some x → x.init = false ∨ x.stage = 3 ∨ f.src.val < s.addr) →
              ∃ (t : State) (y : Exchange), exec (.kx1 f) s = .next t ∧ t.exchange f.src = some y ∧ y.init = false ∧
                y.stage = 2 ∧ y.gen = bytesAt f.payload 3 1 % 4 ∧ y.kx1 = f.payload ∧ y.kx2.length = 148 ∧ y.keys.isSome = true ∧
                t.key.sess = s.key.sess ∧ t.flag F.KEY_STAT_KXBUSY = true ∧ t.mem = s.mem ∧
                t.key.engTo ≤ max s.key.engTo t.clk.cc + msClocks 57))))) ∧
    (isKeyx f 2 = true → (f.tag ≠ 0 → ∃ t : State, exec (.kx2 f) s = .next t ∧ t.key = { s.key with engTo := t.key.engTo } ∧
        t.queues = s.queues ∧ t.fld F.SLK_CNTA_FORGER = satAdd 16 (s.fld F.SLK_CNTA_FORGER) 1) ∧
      (f.tag = 0 → f.bc = true → f.payload.length = 148 → f.src.val ≠ s.addr → tgtOf f.payload = s.addr →
      ((∀ x, s.exchange f.src = some x → x.init = false ∨ x.stage ≠ 1 ∨ bytesAt f.payload 3 1 ≠ x.gen) →
        ∃ t : State, exec (.kx2 f) s = .next t ∧ t.key = { s.key with engTo := t.key.engTo } ∧ t.queues = s.queues ∧
          t.fld F.SLK_CNTD_FORMERR = satAdd 16 (s.fld F.SLK_CNTD_FORMERR) 1) ∧
      (∀ x good, s.exchange f.src = some x → x.init = true → x.stage = 1 → bytesAt f.payload 3 1 = x.gen →
        good = (verifySig e.pub (s.sigbText f.src x.kx1 f.payload) (bytesAt f.payload 84 64) &&
          ecOn (pointOf (bytesAt f.payload 20 64))) →
        (good = false → ∃ t : State, exec (.kx2 f) s = .next t ∧ t.exchange f.src = some { x with why := 2 } ∧
            t.key.sess = s.key.sess ∧ t.queues = s.queues ∧ t.fld F.SLK_CNTA_FORGER = satAdd 16 (s.fld F.SLK_CNTA_FORGER) 1) ∧
        (good = true → ∃ (t : State) (y : Exchange), exec (.kx2 f) s = .next t ∧ t.exchange f.src = some y ∧ y.init = true ∧
            y.stage = 3 ∧ y.gen = x.gen ∧ y.kx1 = x.kx1 ∧ y.kx2 = f.payload ∧ y.keys.isSome = true ∧
            t.key.sess = s.key.sess ∧ t.mem = s.mem)))) ∧
    (∀ (n : Nat) (c : Instr), (n = 3 ∧ c = .kx3 f) ∨ (n = 4 ∧ c = .kx4 f) →
      (isKeyx f n = true → f.tag ≠ 0 → ∃ t : State, exec c s = .next t ∧ t.key = { s.key with engTo := t.key.engTo } ∧
        t.queues = s.queues ∧ t.fld F.SLK_CNTA_FORGER = satAdd 16 (s.fld F.SLK_CNTA_FORGER) 1) ∧
      (isKeyx f n = true → f.tag = 0 → f.bc = true → f.payload.length = 12 → f.src.val ≠ s.addr → tgtOf f.payload = s.addr →
        (s.exchange f.src = none → ∃ t : State, exec c s = .next t ∧ t.key = { s.key with engTo := t.key.engTo } ∧
          t.queues = s.queues ∧ t.fld F.SLK_CNTD_FORMERR = satAdd 16 (s.fld F.SLK_CNTD_FORMERR) 1) ∧
        (∀ (x : Exchange) (k : PairKey), s.exchange f.src = some x → x.keys = some k → bytesAt f.payload 2 1 = x.gen →
          ((n = 3 ∧ x.init = false ∧ x.stage = 2) ∨ (n = 4 ∧ x.init = true ∧ x.stage = 3)) →
          (bytesAt f.payload 4 8 ≠ confOf k n x.kx1 x.kx2 → ∃ t : State, exec c s = .next t ∧ t.key.sess = s.key.sess ∧
            t.exchange f.src = some { x with why := 4 } ∧ t.queues = s.queues ∧
            t.fld F.SLK_CNTA_FORGER = satAdd 16 (s.fld F.SLK_CNTA_FORGER) 1) ∧
          (bytesAt f.payload 4 8 = confOf k n x.kx1 x.kx2 → ∃ t : State, exec c s = .next t ∧
            t.sess f.src = { cur := some k, old := (s.sess f.src).cur, at_ := t.clk.cc } ∧ t.exchange f.src = none ∧
            t.flag (F.SLK_PEERp_LNK_SESS f.src) = true ∧ t.fld (F.SLK_PEERp_LNK_KEYID f.src) = k.gen % 4 ∧
            t.fld F.KEY_CNT_KXOK = satAdd 16 (s.fld F.KEY_CNT_KXOK) 1 ∧ (∀ p : Fin 64, p ≠ f.src → t.sess p = s.sess p) ∧
            (x.fresh = true → t.fld (F.SLK_PEERp_WIN_MAP f.src) = 0 ∧ t.outTo f.src = none) ∧
            (x.fresh = false → t.fld (F.SLK_PEERp_WIN_MAP f.src) = s.fld (F.SLK_PEERp_WIN_MAP f.src))))))) ∧
  (∀ (s : State) (q : Fin 64), s.boot.halted = false → s.exchange q = none → exec (.keyxAnswerTimeout q) s = .next s) ∧
  (∀ (s : State) (q : Fin 64) (x : Exchange), s.boot.halted = false → s.exchange q = some x →
    (x.stage = 1 → 3 ≤ x.tries → ∃ t : State, exec (.keyxAnswerTimeout q) s = .next t ∧ x.at_ + msClocks 500 ≤ t.clk.cc ∧
      t.exchange q = none ∧ t.fld F.KEY_CNT_KXFAIL = satAdd 16 (s.fld F.KEY_CNT_KXFAIL) 1 ∧ t.fld F.KEY_KXSTAT_PEER = q.val ∧
      spGet (fun _ => 0) t.key.barred q = t.clk.cc + secClocks 10 ∧ t.queues = s.queues ∧ t.key.sess = s.key.sess) ∧
    (x.stage ≠ 1 ∨ x.tries < 3 → ∃ t : State, exec (.keyxAnswerTimeout q) s = .next t ∧ x.at_ + msClocks 500 ≤ t.clk.cc ∧
      t.exchange q = some { x with at_ := t.clk.cc, tries := x.tries + 1 } ∧ t.key.sess = s.key.sess ∧ t.mem = s.mem)) ∧
  (∀ (s : State) (q : Fin 64), s.boot.halted = false → s.gated = false → s.exchange q = none → (s.entryOf q).isSome = true →
    (∀ v : Word, s.calm = true → bitsOf v.toNat 13 8 = q.val → s.role ≠ roleNone → q.val ≠ s.addr → ∃ (t : State) (x : Exchange), exec (.rekeyCommand v) s = .next t ∧ t.fld F.KEY_CMD_PEER = q.val ∧
        t.exchange q = some x ∧ x.init = true ∧ x.stage = 1 ∧ x.fresh = (s.sess q).cur.isNone ∧
        (∀ k, (s.sess q).cur = some k → x.gen = (k.gen + 1) % 4) ∧ t.key.sess = s.key.sess ∧ t.mem = s.mem) ∧
    (∀ k, (s.sess q).cur = some k → s.addr < q.val → s.linkOn = true → s.fld F.KEY_CFG_REKEY ≠ 0 →
      ∃ (t : State) (x : Exchange), exec (.rekeyPeriodExpiry q) s = .next t ∧ t.exchange q = some x ∧ x.init = true ∧
        x.fresh = false ∧ x.gen = (k.gen + 1) % 4 ∧ (s.sess q).at_ + secClocks (3600 * s.fld F.KEY_CFG_REKEY) ≤ t.clk.cc ∧
        t.key.sess = s.key.sess ∧ t.mem = s.mem)) ∧
  (∀ (s : State) (q : Fin 64), s.boot.halted = false → s.fld F.KEY_CFG_REKEY = 0 ∨ (s.sess q).cur = none ∨ q.val ≤ s.addr ∨
    s.linkOn = false ∨ s.gated = true → exec (.rekeyPeriodExpiry q) s = .next s) ∧
  (∀ (s : State) (q : Fin 64), s.boot.halted = false →
    ((s.sess q).old = none → exec (.oldGenerationDiscard q) s = .next s) ∧
    (∀ k, (s.sess q).old = some k → ∃ t : State, exec (.oldGenerationDiscard q) s = .next t ∧
      (s.sess q).at_ + secClocks 10 ≤ t.clk.cc ∧ t.sess q = { s.sess q with old := none } ∧
      (∀ p : Fin 64, p ≠ q → t.sess p = s.sess p) ∧ t.queues = s.queues ∧ t.mem = s.mem ∧ ∀ i, i ≠ 0x200 → t.reg i = s.reg i))

/-- A GKEY that unwraps becomes the group key in use and is acknowledged with RES 0; one that does not counts in KXFAIL,
is answered with RES 3 and keeps the keys; one that a check turns away ends as the checks leave it. The active head
draws a new generation on KEY_CMD.GREKEY and every REKEY hours; another node draws none. It comes into use once all
sessions have acknowledged it or 10 s after it was drawn, and 60 s later the older is discarded. A held unenrolled
node answers one CERTREQ in 10 s with its segments and PROOF; an enrolled node puts CERTSEG and PROOF in Q63 only with
ENRRX, or with the clocks gated in Q58; a frame of these that fails a check counts there. In a core clock in which
hardware updates no field KEY_CMD.CERTREQ sends a challenge; a read of KEY_CERTDAT moves PTR by 4, and by the link
reads nothing. (spec/20_register_map.md R414; spec/13_identity_and_security.md R298; spec/13_identity_and_security.md
R303; spec/13_identity_and_security.md R304) -/
def Obligations.GroupKeysAndEnrollment : Prop :=
  (∀ (s u : State) (f : Frame), s.boot.halted = false →
    (isKeyx f 5 = false → exec (.gkey f) s = .next s) ∧
    (∀ o, isKeyx f 5 = true → (s.arrive f).rxChecks f (!f.bc && f.payload.length = 26) 0 = (o, u) → o ≠ .accepted →
      exec (.gkey f) s = .next u) ∧
    (isKeyx f 5 = true → (s.arrive f).rxChecks f (!f.bc && f.payload.length = 26) 0 = (.accepted, u) → ∀ k : PairKey,
      (((s.sess f.src).cur = some k ∧ k.gen = f.keyid.val) ∨ ((∀ c, (s.sess f.src).cur = some c → c.gen ≠ f.keyid.val) ∧
        (s.sess f.src).old = some k ∧ k.gen = f.keyid.val)) →
      (∀ key, keyUnwrap k.wrap (bytesAt f.payload 2 24) = some key → ∃ (t : State) (g : GroupKey) (a : Frame),
        exec (.gkey f) s = .next t ∧ t.key.grp.head? = some g ∧ g.gen = bytesAt f.payload 1 1 % 4 ∧ g.key = key % 2 ^ 128 ∧
        g.at_ = t.clk.cc ∧ t.key.grp.length ≤ 2 ∧ t.flag F.KEY_STAT_GKEY = true ∧ t.fld F.KEY_STAT_GGEN = g.gen ∧
        t.key.sess = s.key.sess ∧ t.lnk.sent = some a ∧ a.cls = 0 ∧ a.dst = f.src ∧ a.payload.head? = some 0) ∧
      (keyUnwrap k.wrap (bytesAt f.payload 2 24) = none → ∃ (t : State) (a : Frame), exec (.gkey f) s = .next t ∧
        t.key = s.key ∧ t.fld F.KEY_CNT_KXFAIL = satAdd 16 (s.fld F.KEY_CNT_KXFAIL) 1 ∧ t.fld F.KEY_KXSTAT_PEER = f.src.val ∧
        t.lnk.sent = some a ∧ a.cls = 0 ∧ a.dst = f.src ∧ a.payload.head? = some 3))) ∧
  (∀ s : State, s.boot.halted = false →
    (∀ (c : Instr) (v : Word), (c = .grekeyCommand v) ∨
        (c = .groupRekeyPeriodExpiry ∧ s.fld F.KEY_CFG_REKEY ≠ 0 ∧ s.gated = false) →
      (s.isHead = true → ∃ (t : State) (g : GroupKey), exec c s = .next t ∧ t.key.next = some g ∧ t.key.acked = [] ∧
        t.key.drawn = t.clk.cc ∧ g.at_ = t.clk.cc ∧ t.key.grp = s.key.grp ∧ t.key.sess = s.key.sess ∧ t.mem = s.mem ∧
        (c = .groupRekeyPeriodExpiry → s.key.drawn + secClocks (3600 * s.fld F.KEY_CFG_REKEY) ≤ t.clk.cc) ∧
        (∀ x, s.key.next = some x → g.gen = (x.gen + 1) % 4) ∧
        (s.key.next = none → (∀ x, s.key.grp.head? = some x → g.gen = (x.gen + 1) % 4) ∧ (s.key.grp = [] → g.gen = 0))) ∧
      (s.isHead = false → ∃ t : State, exec c s = .next t ∧ t.key.next = s.key.next ∧ t.key.grp = s.key.grp ∧
        (bitOf v.toNat 0 = false → bitOf v.toNat 2 = false → t.key = s.key ∧ t.queues = s.queues ∧ t.lnk = s.lnk))) ∧
    (s.fld F.KEY_CFG_REKEY = 0 ∨ s.isHead = false ∨ s.gated = true → exec .groupRekeyPeriodExpiry s = .next s) ∧
    (s.key.next = none → exec .groupKeySwitch s = .next s) ∧
    (∀ g, s.key.next = some g → ∃ t : State, exec .groupKeySwitch s = .next t ∧ t.key.next = none ∧
      t.key.grp.head? = some { g with at_ := t.clk.cc } ∧ t.key.grp.length ≤ 2 ∧ t.flag F.KEY_STAT_GKEY = true ∧
      t.fld F.KEY_STAT_GGEN = g.gen % 4 ∧ t.key.sess = s.key.sess ∧ t.queues = s.queues ∧
      ((∀ p ∈ s.sessionPeers, p ∈ s.key.acked) → t.clk = s.clk) ∧
      ((∃ p ∈ s.sessionPeers, p ∉ s.key.acked) → g.at_ + secClocks 10 ≤ t.clk.cc)) ∧
    (s.key.grp.length ≤ 1 → exec .groupKeyDiscard s = .next s) ∧
    (∀ g h m, s.key.grp = g :: h :: m → ∃ t : State, exec .groupKeyDiscard s = .next t ∧ t.key = { s.key with grp := [g] } ∧
      g.at_ + secClocks 60 ≤ t.clk.cc ∧ t.queues = s.queues ∧ t.mem = s.mem ∧ ∀ i, i ≠ 0x200 → t.reg i = s.reg i)) ∧
  (∀ (s u : State) (f : Frame), s.boot.halted = false → u = s.arrive f →
    (f.cls.val ≠ clsEnr ∨ typeOf f.payload ≠ 1 → exec (.certreq f) s = .next s) ∧
    (f.cls.val = clsEnr → typeOf f.payload = 1 →
      (s.heldForLink = false → exec (.certreq f) s = .next u) ∧
      (s.heldForLink = true → badLength f = true → exec (.certreq f) s = .next (u.inc F.SLK_CNTB_CRCERR)) ∧
      (s.heldForLink = true → badLength f = false → f.tag ≠ 0 → ∃ t : State, exec (.certreq f) s = .next t ∧ t.lnk = u.lnk ∧
        t.fld F.SLK_CNTA_FORGER = satAdd 16 (s.fld F.SLK_CNTA_FORGER) 1) ∧
      (s.heldForLink = true → badLength f = false → f.tag = 0 → formOf f = false → ∃ t : State, exec (.certreq f) s = .next t ∧
        t.lnk = u.lnk ∧
        t.fld F.SLK_CNTD_FORMERR = satAdd 16 (s.fld F.SLK_CNTD_FORMERR) 1) ∧
      (s.heldForLink = true → badLength f = false → f.tag = 0 → formOf f = true →
        (∀ c, s.lnk.certAt = some c → u.clk.cc < c + secClocks 10 → exec (.certreq f) s = .next u) ∧
        ((∀ c, s.lnk.certAt = some c → c + secClocks 10 ≤ u.clk.cc) → ∃ (t : State) (m : List TxWait),
          exec (.certreq f) s = .next t ∧ t.lnk.certAt = some t.clk.cc ∧ t.lnk.stay = some (t.clk.cc + secClocks 60) ∧
          t.lnk.wait = s.lnk.wait ++ m ∧ m.length = (certDer.length + 199) / 200 + 1 ∧ t.mem = s.mem ∧
          ∀ w ∈ m, w.cls = clsEnr ∧ w.bc = true ∧ w.ring = 57))) ∧
    (∀ (n : Nat) (c : Instr), (n = 2 ∧ c = .certseg f) ∨ (n = 3 ∧ c = .proof f) →
      (f.cls.val ≠ clsEnr ∨ typeOf f.payload ≠ n → exec c s = .next s) ∧
      (f.cls.val = clsEnr → typeOf f.payload = n → s.linkOn = false ∨ s.role = roleNone → exec c s = .next u) ∧
      (f.cls.val = clsEnr → typeOf f.payload = n → s.linkOn = true → s.role ≠ roleNone → badLength f = true →
        exec c s = .next (u.inc F.SLK_CNTB_CRCERR)) ∧
      (f.cls.val = clsEnr → typeOf f.payload = n → s.linkOn = true → s.role ≠ roleNone → badLength f = false →
        (f.tag ≠ 0 → ∃ t : State, exec c s = .next t ∧ t.queues = s.queues ∧
          t.fld F.SLK_CNTA_FORGER = satAdd 16 (s.fld F.SLK_CNTA_FORGER) 1) ∧
        (f.tag = 0 → formOf f = false → ∃ t : State, exec c s = .next t ∧ t.queues = s.queues ∧
          t.fld F.SLK_CNTD_FORMERR = satAdd 16 (s.fld F.SLK_CNTD_FORMERR) 1) ∧
        (f.tag = 0 → formOf f = true → s.flag F.KEY_CFG_ENRRX = false → exec c s = .next u) ∧
        (f.tag = 0 → formOf f = true → s.flag F.KEY_CFG_ENRRX = true → s.gated = true → ∃ t : State, exec c s = .next t ∧
          (s.ringRoom 58 (nrecFor f.payload.length) = true →
            (t.queue 58).recs.length = (s.queue 58).recs.length + nrecFor f.payload.length) ∧
          (s.ringRoom 58 (nrecFor f.payload.length) = false → t = u)) ∧
        (f.tag = 0 → formOf f = true → s.flag F.KEY_CFG_ENRRX = true → s.gated = false → ∀ k,
          k = (3 + (f.payload.length + 4) / 5) / 3 → ∃ t : State, exec c s = .next t ∧ t.mem = s.mem ∧
          (s.ringRoom 63 k = true → (t.queue 63).recs.length = (s.queue 63).recs.length + k) ∧
          (s.ringRoom 63 k = false → t.queues = s.queues))))) ∧
  (∀ (s : State) (v : Word), s.boot.halted = false → s.calm = true →
    ∃ t : State, exec (.certreqCommand v) s = .next t ∧ t.fld F.KEY_CMD_PEER = bitsOf v.toNat 13 8 ∧ t.mem = s.mem ∧
      (bitOf v.toNat 0 = false → bitOf v.toNat 1 = false → t.key = s.key ∧
        (s.role = roleNone → t.queues = s.queues ∧ t.lnk = s.lnk) ∧
        (s.role ≠ roleNone → (∀ w ∈ s.lnk.wait, w.ring = 57 → w.cls = clsEnr → w.host = true) → s.ringRoom 57 3 = true →
          (t.queue 57).recs.length = (s.queue 57).recs.length + 3))) ∧
  (∀ (s : State) (p : Path), s.boot.halted = false →
    (p = .link → exec (.certificateRead p) s = .next s) ∧
    (p ≠ .link → ∃ t : State, exec (.certificateRead p) s = .next t ∧ t.mem = s.mem ∧ t.queues = s.queues ∧
      t.fld F.KEY_CERTRD_PTR = (s.fld F.KEY_CERTRD_PTR + 4) % 1024 ∧ ∀ i, i ≠ F.KEY_CERTRD_w.addr → t.reg i = s.reg i))

/-- FOTIME after the last beacon at a standby, or when ARBWAIT ends, a fit node takes over: it is the active head with an
epoch one above all it knows, stored, and TAKEOVERS counts; an unfit one sets UNFIT and keeps its role. Without an
adopted epoch NOSTATE is set and the machine's use is 0. A HANDOVER makes the standby take over; FENCE and HANDOVER
from a head that outranks an active head make it yield and store that epoch, and others change no head; one that a
check turns away ends as the checks leave it, and with the clocks gated one waits in Q58. The command HANDOVER is
taken only by a synced active head, else HOERR. The standby latches its pulses each second.
(spec/14_head_redundancy.md R310; spec/14_head_redundancy.md R312; spec/14_head_redundancy.md R316;
spec/14_head_redundancy.md R317; spec/14_head_redundancy.md R318; spec/14_head_redundancy.md R320;
spec/14_head_redundancy.md R322) -/
def Obligations.HeadsTakeOverAndYield : Prop :=
  (∀ (s : State) (c : Nat) (i : Instr) (e : Nat), s.boot.halted = false →
    e = (max s.key.epoch (max (s.fld F.SLK_BCN_EPOCH) (match s.hd.adopted with | some x => x.e | none => 0)) + 1) % 2 ^ 32 →
    ((i = .failoverTimeout ∧ s.role = roleStandby ∧ ∃ b, s.hd.bcnCc = some b ∧ c = b + msClocks s.foTime) ∨
      (i = .arbitrationWaitExpiry ∧ s.hd.arb = some c)) →
    (s.fit = false → ∃ t : State, exec i s = .next t ∧ c ≤ t.clk.cc ∧ t.flag F.SYS_HEAD_STAT_UNFIT = true ∧ t.key = s.key ∧
      t.hd = s.hd ∧ t.queues = s.queues ∧ t.mem = s.mem ∧ t.role = s.role) ∧
    (s.fit = true → ∃ t : State, exec i s = .next t ∧ c ≤ t.clk.cc ∧ t.role = roleActive ∧ t.key.epoch = e ∧
      t.fld F.SYS_HEAD_EPOCH_EPOCH = e ∧ t.fld F.SYS_HEAD_STAT_TAKEOVERS = satAdd 8 (s.fld F.SYS_HEAD_STAT_TAKEOVERS) 1 ∧
      t.flag F.SYS_HEAD_STAT_UNFIT = false ∧ t.hd.arb = none ∧ t.hd.first = true ∧ t.hd.sending = none ∧ t.hd.ho = 0 ∧
      t.hd.asm = none ∧ t.valves = s.valves ∧
      (s.hd.adopted = none → t.flag F.SYS_HEAD_STAT_NOSTATE = true ∧ t.fld F.LDG_MUSE_MUSE = 0))) ∧
  (∀ s : State, s.boot.halted = false →
    (s.hd.bcnCc = none ∨ s.role ≠ roleStandby → exec .failoverTimeout s = .next s) ∧
    (s.hd.arb = none → exec .arbitrationWaitExpiry s = .next s) ∧
    ∃ t : State, exec .pulseLatch s = .next t ∧ (s.canonical = true → t.now % 2 ^ 20 = 0) ∧ t.queues = s.queues ∧ t.mem = s.mem ∧ (∀ i, i ≠ 0x200 → t.reg i = s.reg i) ∧
      t.hd = { s.hd with latches := if s.role = roleStandby then
        ((t.now, (s.fpOf (s.fld F.LDG_REC_FPSEL)).count) :: s.hd.latches).take 128 else s.hd.latches }) ∧
  (∀ (s u : State) (f : Frame) (i : Instr) (k n e : Nat), s.boot.halted = false →
    ((i = .fence f ∧ k = 3 ∧ n = 5) ∨ (i = .handover f ∧ k = 4 ∧ n = 7)) → e = bytesAt f.payload 1 4 →
    (isEpoch f k = false → exec i s = .next s) ∧
    (∀ o, isEpoch f k = true → (s.arrive f).rxChecks f (!f.bc && f.payload.length = n) (nrecFor f.payload.length) = (o, u) →
      o ≠ .accepted → exec i s = .next u) ∧
    (isEpoch f k = true → (s.arrive f).rxChecks f (!f.bc && f.payload.length = n) (nrecFor f.payload.length) = (.accepted, u) →
      (s.gated = true → ∃ t : State, exec i s = .next t ∧ t.hd = s.hd ∧ t.key = s.key ∧ t.role = s.role ∧
        (t.queue 58).recs.length = (s.queue 58).recs.length + nrecFor n) ∧
      (s.gated = false → s.role ≠ roleActive → k = 3 ∨ s.role ≠ roleStandby → ∃ t : State, exec i s = .next t ∧ t.hd = s.hd ∧
        t.key = s.key ∧ t.role = s.role ∧ t.queues = s.queues ∧ t.mem = s.mem) ∧
      (s.gated = false → s.role = roleActive → s.outranked e f.src = false → ∃ t : State, exec i s = .next t ∧ t.hd = s.hd ∧
        t.key = s.key ∧ t.role = s.role ∧ t.queues = s.queues ∧ t.mem = s.mem) ∧
      (s.gated = false → s.role = roleActive → s.outranked e f.src = true → ∃ t : State, exec i s = .next t ∧
        t.role = roleStandby ∧ t.key.epoch = e ∧ t.fld F.SYS_HEAD_EPOCH_EPOCH = e ∧ t.flag F.SLK_CFG_PSEND = false ∧
        t.fld F.SYS_HEAD_STAT_YIELDS = satAdd 8 (s.fld F.SYS_HEAD_STAT_YIELDS) 1 ∧ t.hd.sending = none ∧ t.hd.first = false ∧
        t.hd.ho = 0 ∧ t.hd.syncT = none ∧ t.led.day = none ∧ t.valves = s.valves) ∧
      (s.gated = false → s.role = roleStandby → k = 4 → ∃ t : State, exec i s = .next t ∧ t.role = roleActive ∧
        t.fld F.SYS_HEAD_STAT_TAKEOVERS = satAdd 8 (s.fld F.SYS_HEAD_STAT_TAKEOVERS) 1 ∧ t.hd.first = true ∧ t.hd.arb = none ∧
        t.fld F.SYS_HEAD_EPOCH_EPOCH = t.key.epoch ∧ (s.key.epoch < 2 ^ 32 - 1 → s.fld F.SLK_BCN_EPOCH < 2 ^ 32 - 1 →
          (∀ x, s.hd.adopted = some x → x.e < 2 ^ 32 - 1) → s.key.epoch < t.key.epoch ∧ s.fld F.SLK_BCN_EPOCH < t.key.epoch)))) ∧
  (∀ (s : State) (v : Word), s.boot.halted = false → ∃ t : State, exec (.handoverCommand v) s = .next t ∧ t.mem = s.mem ∧
    t.queues = s.queues ∧ t.key = s.key ∧ (∀ i, i ≠ F.SYS_HEAD_STAT_w.addr → t.reg i = s.reg i) ∧
    (s.isHead = true → s.synced = true → t.hd = { s.hd with ho := 1 } ∧
      t.flag F.SYS_HEAD_STAT_HOERR = s.flag F.SYS_HEAD_STAT_HOERR) ∧
    (s.isHead = false ∨ s.synced = false → t.hd = s.hd ∧ t.flag F.SYS_HEAD_STAT_HOERR = true))

/-- At a replication instant an active head with a session with the other head takes the next REP and sends the stream in
segments and a MANIFEST, or counts SKIP while the last is unacknowledged. At the standby a DATA segment joins the
epoch being assembled, and one of another epoch discards that and counts INCOMP. A MANIFEST that all segments, the
length and the CRC match ends the assembly, and adopts it when its epoch is not below the node's: the ACK says so with
ADM 1. Any other discards it, and with no epoch being assembled one that names segments changes no head. Nodes that
are no standby only acknowledge, and with the clocks gated a frame waits in Q58; one that a check turns away ends as
the checks leave it. (spec/14_head_redundancy.md R313; spec/14_head_redundancy.md R314; spec/14_head_redundancy.md
R315) -/
def Obligations.EpochsAreReplicated : Prop :=
  (∀ s : State, s.boot.halted = false →
    (s.gated = true → exec .replicationCapture s = .next s) ∧
    (s.gated = false → ∃ t : State, exec .replicationCapture s = .next t ∧ t.mem = s.mem ∧ t.valves = s.valves ∧ t.key = s.key ∧
      (s.otherHead = none ∨ s.isHead = false ∨ (∃ p, s.otherHead = some p ∧ (s.sess p).cur = none) →
        t.hd = s.hd ∧ t.queues = s.queues ∧ t.lnk = s.lnk ∧ ∀ i, i ≠ 0x200 → t.reg i = s.reg i) ∧
      (∀ p, s.otherHead = some p → s.isHead = true → (s.sess p).cur.isSome = true →
        (s.hd.sending.isSome = true → t.hd = s.hd ∧ t.queues = s.queues ∧ t.lnk = s.lnk ∧
          t.fld F.SYS_HEAD_REP_SKIP = satAdd 16 (s.fld F.SYS_HEAD_REP_SKIP) 1) ∧
        (s.hd.sending = none → t.fld F.SYS_HEAD_REP_SKIP = s.fld F.SYS_HEAD_REP_SKIP ∧
          t.hd = { s.hd with rep := (s.hd.rep + 1) % 2 ^ 16, sending := some ((s.hd.rep + 1) % 2 ^ 16, t.now) } ∧
          (∃ v : State, v.hd = t.hd ∧ v.queues = s.queues ∧ v.lnk = s.lnk ∧ t = v.sendEpoch p ((s.hd.rep + 1) % 2 ^ 16)) ∧
          ((∃ w ∈ s.lnk.wait, w.ring = 57 ∧ w.cls = clsEpoch ∧ w.host = false) → ∃ m : List TxWait, t.lnk.wait = s.lnk.wait ++ m ∧ t.queues = s.queues ∧
            m.length = ((t.sections.flatMap (·.2)).length + 231) / 232 + 1 ∧ (∀ w ∈ m, w.ring = 57 ∧ w.dst = p ∧
              w.cls = clsEpoch ∧ w.bc = false) ∧ ∃ w, m.getLast? = some w ∧ typeOf w.payload = 2 ∧
              bytesAt w.payload 1 4 = s.fld F.SYS_HEAD_EPOCH_EPOCH ∧ bytesAt w.payload 5 2 = (s.hd.rep + 1) % 2 ^ 16))))) ∧
  (∀ (s u : State) (f : Frame) (e rep : Nat), s.boot.halted = false → e = bytesAt f.payload 1 4 → rep = bytesAt f.payload 5 2 →
    (isEpoch f 1 = false → exec (.epochData f) s = .next s) ∧
    (∀ o, isEpoch f 1 = true → (s.arrive f).rxChecks f (!f.bc && 9 ≤ f.payload.length) (nrecFor f.payload.length) = (o, u) →
      o ≠ .accepted → exec (.epochData f) s = .next u) ∧
    (isEpoch f 1 = true →
      (s.arrive f).rxChecks f (!f.bc && 9 ≤ f.payload.length) (nrecFor f.payload.length) = (.accepted, u) →
      (s.role ≠ roleStandby ∨ s.gated = true → ∃ t : State, exec (.epochData f) s = .next t ∧ t.hd = s.hd ∧
        t.fld F.SYS_HEAD_REP_INCOMP = s.fld F.SYS_HEAD_REP_INCOMP) ∧
      (s.role = roleStandby → s.gated = false → ∃ (t : State) (x : Epoch), exec (.epochData f) s = .next t ∧ t.hd.asm = some x ∧
        x.e = e ∧ x.rep = rep ∧ spGet (fun _ => []) x.segs (bytesAt f.payload 7 1) = f.payload.drop 8 ∧
        t.hd.adopted = s.hd.adopted ∧ t.queues = s.queues ∧ t.mem = s.mem ∧
        (∀ y, s.hd.asm = some y → (y.e = e ∧ y.rep = rep → t.fld F.SYS_HEAD_REP_INCOMP = s.fld F.SYS_HEAD_REP_INCOMP ∧
            ∀ k, k ≠ bytesAt f.payload 7 1 → spGet (fun _ => []) x.segs k = spGet (fun _ => []) y.segs k) ∧
          (¬(y.e = e ∧ y.rep = rep) → t.fld F.SYS_HEAD_REP_INCOMP = satAdd 16 (s.fld F.SYS_HEAD_REP_INCOMP) 1 ∧
            x.segs.length = 1)))) ∧
    (isEpoch f 2 = false → exec (.manifest f) s = .next s) ∧
    (∀ o, isEpoch f 2 = true → (s.arrive f).rxChecks f (!f.bc && f.payload.length = 25 + 5 * bytesAt f.payload 24 1)
      (nrecFor f.payload.length) = (o, u) → o ≠ .accepted → exec (.manifest f) s = .next u) ∧
    (isEpoch f 2 = true →
      (s.arrive f).rxChecks f (!f.bc && f.payload.length = 25 + 5 * bytesAt f.payload 24 1) (nrecFor f.payload.length) =
        (.accepted, u) →
      (s.gated = true → ∃ t : State, exec (.manifest f) s = .next t ∧ t.hd = s.hd) ∧
      (s.gated = false → s.role ≠ roleStandby → ∃ (t : State) (a : Frame), exec (.manifest f) s = .next t ∧ t.hd = s.hd ∧
        t.queues = s.queues ∧ t.lnk.sent = some a ∧ a.payload.take 2 = [0, 0]) ∧
      (s.gated = false → s.role = roleStandby → s.hd.asm = none → bytesAt f.payload 7 1 ≠ 0 → ∃ (t : State) (a : Frame),
        exec (.manifest f) s = .next t ∧ t.hd = s.hd ∧ t.queues = s.queues ∧ t.lnk.sent = some a ∧ a.payload.take 2 = [0, 0]) ∧
      (s.gated = false → s.role = roleStandby → ∀ y, s.hd.asm = some y → ∀ whole : Prop,
        (whole ↔ y.e = e ∧ y.rep = rep ∧ y.segs.map (·.1) = (List.range (bytesAt f.payload 7 1)).map (· + 1) ∧
          (y.segs.flatMap (·.2)).length = bytesAt f.payload 8 2 ∧ crc32 (y.segs.flatMap (·.2)) = bytesAt f.payload 10 4) →
        (whole → s.fld F.SYS_HEAD_EPOCH_EPOCH ≤ e → ∃ (t : State) (a : Frame) (x : Epoch), exec (.manifest f) s = .next t ∧
          t.hd.asm = none ∧ t.hd.adopted = some x ∧ x.e = e ∧ x.rep = rep ∧ x.t = bytesAt f.payload 14 5 ∧
          x.stream = y.segs.flatMap (·.2) ∧ t.fld F.SYS_HEAD_STAT_REP = rep ∧ t.queues = s.queues ∧
          t.lnk.sent = some a ∧ a.dst = f.src ∧ a.payload.take 2 = [0, 1]) ∧
        (whole → e < s.fld F.SYS_HEAD_EPOCH_EPOCH → ∃ (t : State) (a : Frame), exec (.manifest f) s = .next t ∧
          t.hd = { s.hd with asm := none } ∧ t.fld F.SYS_HEAD_REP_INCOMP = s.fld F.SYS_HEAD_REP_INCOMP ∧
          t.lnk.sent = some a ∧ a.payload.take 2 = [0, 0]) ∧
        (¬whole → ∃ (t : State) (a : Frame), exec (.manifest f) s = .next t ∧ t.hd = { s.hd with asm := none } ∧
          t.fld F.SYS_HEAD_REP_INCOMP = satAdd 16 (s.fld F.SYS_HEAD_REP_INCOMP) 1 ∧ t.queues = s.queues ∧
          t.lnk.sent = some a ∧ a.payload.take 2 = [0, 0]))))

/-- START of a channel the host may use puts it in RUN with DONE 0 and the result of the checks; otherwise STERR sets and
the channel keeps its state. STOP of a running channel is kept for the boundary. A descriptor that its checks refused
moves nothing, and its result halts the chain. A FILL descriptor of one prescription-cache word writes that word, and
at the boundary W3 shows OK, DESCS counts and CDONE sets; then the chain is stopped, idle, halted with DESC for a bad
NEXT, or runs the descriptor fetched from NEXT. (spec/15_block_mover.md R324; spec/15_block_mover.md R325;
spec/15_block_mover.md R332; spec/15_block_mover.md R333; spec/15_block_mover.md R335; spec/15_block_mover.md R336) -/
def Obligations.DescriptorsStartAndEnd : Prop :=
  (∀ (s : State) (n : Fin 8) (v : Word), s.boot.halted = false →
    (s.movOwned n = true ∨ s.movRuns n = true → ∃ t : State, exec (.descriptorStart n v) s = .next t ∧
      t.flag (F.BMV_Dn_CTL_STERR n) = true ∧ t.fld (F.BMV_Dn_CTL_STATE n) = s.fld (F.BMV_Dn_CTL_STATE n) ∧
      t.movOf n = { s.movOf n with stop := (s.movOf n).stop || (bitOf v.toNat 1 && s.movRuns n) } ∧ t.mem = s.mem ∧
      t.queues = s.queues ∧ ∀ i, i ≠ (F.BMV_Dn_CTL_w n).addr → t.reg i = s.reg i) ∧
    (s.movOwned n = false → s.movRuns n = false → ∃ t : State, exec (.descriptorStart n v) s = .next t ∧ t.movRuns n = true ∧
      t.movOf n = { at_ := none, stop := bitOf v.toNat 1, res := (s.precheck n (s.desc n)).map (fun r => (r, 0)) } ∧
      t.fld (F.BMV_Dn_DONE_BYTES n) = 0 ∧ t.fld (F.BMV_Dn_DONE_RETRY n) = 0 ∧ t.mem = s.mem ∧ t.queues = s.queues ∧
      ∀ i, i ≠ (F.BMV_Dn_CTL_w n).addr → i ≠ (F.BMV_Dn_DONE_w n).addr → t.reg i = s.reg i) ∧
    (∃ t : State, exec (.chainStop n v) s = .next t ∧ t.mem = s.mem ∧ t.queues = s.queues ∧
      t.fld (F.BMV_Dn_CTL_STATE n) = s.fld (F.BMV_Dn_CTL_STATE n) ∧
      (∀ i, i ≠ (F.BMV_Dn_CTL_w n).addr → t.reg i = s.reg i) ∧
      (s.movRuns n = true → t.movOf n = { s.movOf n with stop := true }) ∧
      (s.movRuns n = false → t.movOf n = s.movOf n)) ∧
    (s.movRuns n = false ∨ s.gated = true ∨ s.portBusyFor n = true ∨ s.portLeft n ≠ 0 →
      exec (.descriptorBoundary n) s = .next s) ∧
    (s.movRuns n = true → s.gated = false → s.portBusyFor n = false →
      (∀ r adm, (s.movOf n).res = some (r, adm) → 0 < r → r < 16 → adm < 8 → ∃ t : State,
        exec (.descriptorBoundary n) s = .next t ∧ t.fld (F.BMV_Dn_CTL_STATE n) = mvHalted ∧
        t.flag (F.BMV_Dn_CTL_HALT n) = true ∧ t.flag (F.BMV_Dn_CTL_CDONE n) = true ∧
        bitsOf (t.reg (F.BMV_Dn_W3_w n).addr).toNat 15 8 = 128 + 8 * r + adm ∧
        (t.desc n).next = (s.desc n).next ∧ t.fld (F.BMV_Dn_DONE_BYTES n) = s.fld (F.BMV_Dn_DONE_BYTES n) ∧
        t.fld (F.BMV_Dn_CNT_DESCS n) = satAdd 16 (s.fld (F.BMV_Dn_CNT_DESCS n)) 1 ∧
        ((s.movOf n).at_ = none → t.mem = s.mem)) ∧
      (∀ (d : Desc) (st : Bool) (a : Nat), d = s.desc n → d.skind = kFill → d.dkind = kMem → d.len = 5 → d.dadr = 5 * a →
        inMap a = true → s.inActiveBank a = false → s.movOf n = { at_ := none, stop := st } →
        s.fld (F.BMV_Dn_DONE_BYTES n) = 0 → ∃ t : State, exec (.descriptorBoundary n) s = .next t ∧
        t.memWord a = BitVec.ofNat 40 (d.sadr % 256 * 0x0101010101) ∧ t.chkAt a = 0 ∧
        (∀ b, b ≠ a → t.memWord b = s.memWord b) ∧ t.flag (F.BMV_Dn_CTL_CDONE n) = true ∧
        t.fld (F.BMV_Dn_CNT_DESCS n) = satAdd 16 (s.fld (F.BMV_Dn_CNT_DESCS n)) 1 ∧
        (st = true ∨ d.next < 0x38000 ∨ 0x3FFFC < d.next → t.fld (F.BMV_Dn_DONE_BYTES n) = 5 ∧ (t.desc n).next = d.next) ∧
        (st = true → t.fld (F.BMV_Dn_CTL_STATE n) = mvStopped ∧ bitsOf (t.reg (F.BMV_Dn_W3_w n).addr).toNat 15 8 = 128) ∧
        (st = false → d.next = 0 → t.fld (F.BMV_Dn_CTL_STATE n) = mvIdle ∧
          bitsOf (t.reg (F.BMV_Dn_W3_w n).addr).toNat 15 8 = 128) ∧
        (st = false → d.next ≠ 0 → d.next < 0x38000 ∨ 0x3FFFC < d.next → t.fld (F.BMV_Dn_CTL_STATE n) = mvHalted ∧
          t.flag (F.BMV_Dn_CTL_HALT n) = true ∧ bitsOf (t.reg (F.BMV_Dn_W3_w n).addr).toNat 15 8 = 128 + 8 * 7) ∧
        (st = false → 0x38000 ≤ d.next → d.next ≤ 0x3FFFC → (∀ i, i < 4 → s.chkAt (d.next + i) = 0) →
          t.movRuns n = true ∧ (t.movOf n).at_ = some d.next ∧ t.fld (F.BMV_Dn_DONE_BYTES n) = 0 ∧
          ∀ i, i < 4 → t.reg (0x1711 + 8 * n.val + i) = t.memWord (d.next + i)))))

/-- Without PATEN, in DORMANT and during the march test no row is read. Otherwise the row reached is read at the next
multiple of 2^(RATE + 6) core clocks; a clean one changes nothing, a parity mismatch counts in PATERR and shows in
MIN_LASTERR, and the position moves on, wrapping with SWEEPS. In a core clock in which hardware updates no field a
write of MIN_CFG changes it alone. In BOOT, COMMISSION and HOLD a diagnostic write stores the word and the check bits
given, and a diagnostic read shows what is stored and changes nothing else, after a write of the same command what
that stored; elsewhere DERR sets. (spec/16_memory_integrity.md R341; spec/16_memory_integrity.md R343;
spec/16_memory_integrity.md R350; spec/16_memory_integrity.md R354; spec/16_memory_integrity.md R355) -/
def Obligations.PatrolAndDiagnosticPath : Prop :=
  ∀ s : State, s.boot.halted = false →
    (s.flag F.MIN_CFG_PATEN = false ∨ s.modeNow = modeDormant ∨ s.boot.march = true → exec .patrolRead s = .next s) ∧
    (s.flag F.MIN_CFG_PATEN = true → s.modeNow ≠ modeDormant → s.boot.march = false →
      ∀ p row : Nat, p = 2 ^ (s.fld F.MIN_CFG_RATE + 6) → row = s.fld F.MIN_PATPOS_ROW →
      ∃ t : State, exec .patrolRead s = .next t ∧ t.clk.cc = (s.clk.cc / p + 1) * p ∧
        (row + 1 < sramRows → t.fld F.MIN_PATPOS_ROW = row + 1 ∧ t.fld F.MIN_PATPOS_SWEEPS = s.fld F.MIN_PATPOS_SWEEPS) ∧
        (sramRows ≤ row + 1 → t.fld F.MIN_PATPOS_ROW = 0 ∧
          t.fld F.MIN_PATPOS_SWEEPS = satAdd 16 (s.fld F.MIN_PATPOS_SWEEPS) 1) ∧
        ((∀ a, rowAddr row = some a → (s.sramData a).2 = 0) → t.mem = s.mem ∧ t.chk = s.chk ∧ t.queues = s.queues ∧
          ∀ i, i ≠ 0x200 → i ≠ F.MIN_PATPOS_w.addr → t.reg i = s.reg i) ∧
        (∀ a c, rowAddr row = some a → c = (s.sramData a).2 → c % 32 ≠ 0 → bitOf c 5 = false →
          t.fld F.MIN_ERRCNT_PATERR = satAdd 16 (s.fld F.MIN_ERRCNT_PATERR) 1 ∧ t.flag F.MIN_FLAGS_PERR = true ∧
          t.fld F.MIN_LASTERR_ADDR = a ∧ t.fld F.MIN_LASTERR_BYTES = c % 32 ∧ t.fld F.MIN_LASTERR_REQ = reqPatrol ∧
          t.flag F.MIN_LASTERR_SNAP = false) ∧
        (∀ a, rowAddr row = some a → bitOf (s.sramData a).2 5 = true →
          t.fld F.MIN_POISCNT_POISRD = satAdd 16 (s.fld F.MIN_POISCNT_POISRD) 1 ∧ t.mem = s.mem ∧
          t.fld F.MIN_ERRCNT_PATERR = s.fld F.MIN_ERRCNT_PATERR)) ∧
    (∀ v : Word, s.calm = true → ∃ t : State, exec (.patrolEnable v) s = .next t ∧ t.flag F.MIN_CFG_PATEN = bitOf v.toNat 4 ∧
      t.fld F.MIN_CFG_RATE = bitsOf v.toNat 3 0 ∧ t.flag F.MIN_CFG_MARCHALL = bitOf v.toNat 8 ∧ t.mem = s.mem ∧
      t.queues = s.queues ∧ ∀ i, i ≠ F.MIN_CFG_w.addr → t.reg i = s.reg i) ∧
    (∀ (v : Word) (a : Nat) (may : Prop), a = s.fld F.MIN_DADDR_ADDR → (may ↔ inSram a = true ∧
        (s.modeNow = modeBoot ∨ s.modeNow = modeCommission ∨ s.modeNow = modeHold)) →
      (¬may → ∀ c, c = Instr.diagnosticWrite v ∨ c = Instr.diagnosticRead v → ∃ t : State, exec c s = .next t ∧
        t.flag F.MIN_DCTL_DERR = true ∧ t.mem = s.mem ∧ t.chk = s.chk ∧ t.queues = s.queues ∧ t.spent = s.spent ∧
        ∀ i, i ≠ F.MIN_DCTL_w.addr → t.reg i = s.reg i) ∧
      (may → ∃ t : State, exec (.diagnosticWrite v) s = .next t ∧
        t.sramData a = (s.reg F.MIN_DDATA_w.addr,
          (s.fld F.MIN_DCHK_PAR ^^^ parBits (s.reg F.MIN_DDATA_w.addr)) + 32 * s.fld F.MIN_DCHK_POIS) ∧
        ∀ i, i ≠ F.MIN_DCTL_w.addr → i ≠ a →
          bitOf v.toNat 1 = false ∨ (i ≠ F.MIN_DDATA_w.addr ∧ i ≠ F.MIN_DCHK_w.addr) → t.reg i = s.reg i) ∧
      (may → bitOf v.toNat 0 = true → ∃ t : State, exec (.diagnosticRead v) s = .next t ∧
        t.reg F.MIN_DDATA_w.addr = s.reg F.MIN_DDATA_w.addr ∧ t.fld F.MIN_DCHK_PAR = s.fld F.MIN_DCHK_PAR ∧
        t.fld F.MIN_DCHK_POIS = s.fld F.MIN_DCHK_POIS ∧ (t.sramData a).1 = s.reg F.MIN_DDATA_w.addr) ∧
      (may → bitOf v.toNat 0 = false → ∃ t : State, exec (.diagnosticRead v) s = .next t ∧
        t.reg F.MIN_DDATA_w.addr = (s.sramData a).1 ∧
        t.fld F.MIN_DCHK_PAR = (s.sramData a).2 % 32 ^^^ parBits (s.sramData a).1 ∧
        t.fld F.MIN_DCHK_POIS = (s.sramData a).2 / 32 % 2 ∧ t.mem = s.mem ∧ t.chk = s.chk ∧ t.queues = s.queues ∧
        t.spent = s.spent ∧ ∀ i, i ≠ F.MIN_DCTL_w.addr → i ≠ F.MIN_DDATA_w.addr → i ≠ F.MIN_DCHK_w.addr →
          t.reg i = s.reg i))

/-- In a core clock in which hardware updates no field, GO stores the raw fields and sets BUSY, and a free port takes the
transfer; it is refused with RAWWHY 1 while BUSY, 2 for a barred opcode on P0, 3 in DORMANT. A raw transfer off P0
leaves its units in RXk and clears BUSY; 06h on P0 sets the write latch. A five-byte read descriptor passes its bytes
to its word of the cache. A FILL sent to a device is counted in DONE; on P0 its page part waits for the poll. A poll
that reads busy is repeated; one that does not has programmed the bytes. After 3 ms PTMO sets and only bits that the
program clears can have cleared. (spec/17_serial_ports.md R358; spec/17_serial_ports.md R359; spec/17_serial_ports.md
R361; spec/17_serial_ports.md R362; spec/17_serial_ports.md R363; spec/17_serial_ports.md R364) -/
def Obligations.PortTransfersRunToTheirEnd : Prop :=
  (∀ (s : State) (v : Word) (sel b : Nat) (may : Prop), s.boot.halted = false → s.calm = true → sel = bitsOf v.toNat 23 22 →
    b = max 3 (bitsOf v.toNat 21 17) + 1 → (may ↔ sel ≠ 0 ∨ s.modeNow = modeBoot ∨ (8 ≤ b ∧
      bitsOf (s.fld (F.SER_PP_TXk_TX 0)) (b - 1) (b - 8) ∈ [0x03, 0x0B, 0x05, 0x9F, 0x06, 0x04])) →
    ∃ t : State, exec (.rawTransferGo v) s = .next t ∧ t.fld F.SER_PP_RAW_SEL = sel ∧
      t.fld F.SER_PP_RAW_NM1 = bitsOf v.toNat 16 15 ∧ t.fld F.SER_PP_RAW_UNITM1 = bitsOf v.toNat 21 17 ∧ t.mem = s.mem ∧
      t.flash = s.flash ∧ t.queues = s.queues ∧
      (s.flag F.SER_PP_RAW_BUSY = true → t.flag F.SER_PP_STAT_RAWERR = true ∧ t.fld F.SER_PP_STAT_RAWWHY = 1 ∧ t.ser = s.ser) ∧
      (s.flag F.SER_PP_RAW_BUSY = false → ¬may → t.flag F.SER_PP_STAT_RAWERR = true ∧ t.fld F.SER_PP_STAT_RAWWHY = 2 ∧
        t.flag F.SER_PP_RAW_BUSY = false ∧ t.ser = s.ser) ∧
      (s.flag F.SER_PP_RAW_BUSY = false → may → s.modeNow = modeDormant → t.flag F.SER_PP_STAT_RAWERR = true ∧
        t.fld F.SER_PP_STAT_RAWWHY = 3 ∧ t.flag F.SER_PP_RAW_BUSY = false ∧ t.ser = s.ser) ∧
      (s.flag F.SER_PP_RAW_BUSY = false → may → s.modeNow ≠ modeDormant → t.flag F.SER_PP_RAW_BUSY = true ∧
        t.flag F.SER_PP_STAT_RAWERR = s.flag F.SER_PP_STAT_RAWERR ∧ (s.ser.job.isSome = true → t.ser = s.ser) ∧
        (s.ser.job = none → s.led.stage = 0 → s.loaderRuns = false → s.gated = false →
          t.ser = { s.ser with job := some { own := 3, sel := sel, start := max s.clk.cc s.ser.free } }))) ∧
  (∀ (s : State) (rx : List (BitVec 32)) (j : PortJob), s.boot.halted = false →
    (s.ser.job = none ∨ (s.ser.job = some j ∧ j.poll = true) → exec (.peripheralTransactionEnd rx) s = .next s) ∧
    (s.ser.job = some j → j.poll = false → j.own = 3 → j.sel < 4 → ∀ b u : Nat, b = s.rawBits → u = s.fld F.SER_PP_RAW_NM1 + 1 →
      ∃ t : State, exec (.peripheralTransactionEnd rx) s = .next t ∧ t.flag F.SER_PP_RAW_BUSY = false ∧ t.mem = s.mem ∧
        j.start + s.transClocks j.sel u b ≤ t.clk.cc ∧ (∀ x, t.ser.job = some x → x.own = 4) ∧
        t.fld F.SER_PP_STAT_TRANS = satAdd 16 (s.fld F.SER_PP_STAT_TRANS) 1 ∧
        (j.sel ≠ 0 → t.flash = s.flash ∧ t.ser.wel = s.ser.wel ∧
          ∀ k, k < u → t.fld (F.SER_PP_RXk_RX k) = (rx.getD k 0).toNat % 2 ^ b) ∧
        (j.sel = 0 → b = 8 → u = 1 → s.fld (F.SER_PP_TXk_TX 0) % 256 = 0x06 → t.ser.wel = true ∧ t.flash = s.flash)) ∧
    (s.ser.job = some j → j.poll = false → j.own = 4 → s.movRuns j.ch = true → j.ch < 8 → ∀ (d : Desc) (m : MovSt),
      d = s.desc j.ch → m = s.movOf j.ch → m.res = none → m.funnel = [] → m.taken = s.fld (F.BMV_Dn_DONE_BYTES j.ch) →
      m.taken < d.len →
      (d.dkind = kPort → d.skind = kFill → ∀ k, k = min (if j.sel = 0 then 256 - (d.dadr + m.taken) % 256 else 256)
        (d.len - m.taken) → ∃ t : State, exec (.peripheralTransactionEnd rx) s = .next t ∧ t.flash = s.flash ∧ t.mem = s.mem ∧
          t.fld (F.BMV_Dn_DONE_BYTES j.ch) = m.taken + k ∧
          (j.sel ≠ 0 → t.fld F.SER_PP_STAT_TRANS = satAdd 16 (s.fld F.SER_PP_STAT_TRANS) 1) ∧
          (j.sel = 0 → t.fld F.SER_PP_STAT_TRANS = satAdd 16 (s.fld F.SER_PP_STAT_TRANS) 2 ∧
            ∃ bs, bs = List.replicate k (BitVec.ofNat 8 d.sadr) ∧ t.ser.job = some
              { j with start := t.clk.cc, poll := true, at_ := (d.dadr + m.taken) % 2 ^ 24, sent := bs })) ∧
      (d.skind = kPort → d.dkind = kMem → m.taken = 0 → d.len = 5 → ∀ a, d.dadr = 5 * a → inMap a = true →
        s.inActiveBank a = false → ∃ t : State, exec (.peripheralTransactionEnd rx) s = .next t ∧ t.flash = s.flash ∧
          t.memWord a = streamWord d.beo ((List.range 5).map (fun i => if j.sel = 0 then s.flashByte ((d.sadr + i) % 2 ^ 24)
            else BitVec.ofNat 8 (rx.getD i 0).toNat)) ∧ (∀ c, c ≠ a → t.memWord c = s.memWord c) ∧
          t.fld (F.BMV_Dn_DONE_BYTES j.ch) = 5 ∧
          t.fld F.SER_PP_STAT_TRANS = satAdd 16 (s.fld F.SER_PP_STAT_TRANS) 1))) ∧
  (∀ (s : State) (busy : Bool), s.boot.halted = false →
    (s.ser.job = none ∨ (∃ j, s.ser.job = some j ∧ (j.poll = false ∨ 60 < j.polls)) → exec (.programPoll busy) s = .next s) ∧
    (∀ j, s.ser.job = some j → j.poll = true → j.polls ≤ 60 → ∃ t : State, exec (.programPoll busy) s = .next t ∧ t.mem = s.mem ∧
      j.start + usClocks (50 * j.polls) ≤ t.clk.cc ∧ t.fld F.SER_PP_STAT_TRANS = satAdd 16 (s.fld F.SER_PP_STAT_TRANS) 1 ∧
      (busy = true → t.flash = s.flash ∧ t.ser.job = some { j with polls := j.polls + 1 }) ∧
      (busy = false → (∀ x, t.ser.job = some x → x.poll = false) ∧
        (∀ i b, j.sent[i]? = some b → t.flashByte (j.at_ + i) = b &&& s.flashByte (j.at_ + i)) ∧
        ∀ a, a < j.at_ ∨ j.at_ + j.sent.length ≤ a → t.flashByte a = s.flashByte a)) ∧
    (s.ser.job = none → s.led.stage ≠ 5 → exec .flashProgramTimeout s = .next s) ∧
    (∀ j, s.ser.job = some j → j.poll = false → exec .flashProgramTimeout s = .next s) ∧
    (s.ser.job = none → s.led.stage = 5 → ∃ t : State, exec .flashProgramTimeout s = .next t ∧ t.led.torn = true ∧
      s.led.at_ + msClocks 3 ≤ t.clk.cc ∧ t.flag F.SER_PP_STAT_PTMO = true ∧ t.flash = s.flash ∧
      t.fld F.SER_PP_STAT_PTMOCNT = satAdd 8 (s.fld F.SER_PP_STAT_PTMOCNT) 1) ∧
    (∀ j, s.ser.job = some j → j.poll = true → ∃ t : State, exec .flashProgramTimeout s = .next t ∧ t.mem = s.mem ∧
      j.start + msClocks 3 ≤ t.clk.cc ∧ t.flag F.SER_PP_STAT_PTMO = true ∧ (∀ x, t.ser.job = some x → x.poll = false) ∧
      t.fld F.SER_PP_STAT_PTMOCNT = satAdd 8 (s.fld F.SER_PP_STAT_PTMOCNT) 1 ∧
      (∀ i b, j.sent[i]? = some b → t.flashByte (j.at_ + i) &&& s.flashByte (j.at_ + i) = t.flashByte (j.at_ + i) ∧
        b &&& s.flashByte (j.at_ + i) &&& t.flashByte (j.at_ + i) = b &&& s.flashByte (j.at_ + i)) ∧
      ∀ a, a < j.at_ ∨ j.at_ + j.sent.length ≤ a → t.flashByte a = s.flashByte a))

/-- An accepted frame drives the pending reply, counts in FRAMES and leaves its own reply, with its kind, address and
data, for the next frame. A read replies with what the host read gives and a write does the host write, except that a
write of the reset key leaves no reply; a clean cache word reads and writes as it stands, and an unimplemented address
shows UNIMP and counts in ADDRF. A refused command counts in REFUSED. An aborted frame counts in ABORTS and a busy one
in BUSYS; both leave the reply, mark that frames were discarded, and touch nothing else. Every reply has odd parity.
(spec/17_serial_ports.md R366; spec/17_serial_ports.md R367; spec/17_serial_ports.md R368; spec/17_serial_ports.md
R369; spec/17_serial_ports.md R370; spec/00_scope.md R10; spec/00_scope.md R13) -/
def Obligations.ServiceFramesAreAnswered : Prop :=
  (∀ s : State, (∀ r, s.ser.reply = some r → r.kind ≤ 3) → parityOf 72 s.pendingReply.toNat = true) ∧
  (∀ (s u : State) (gap : Nat) (mode3 : Bool) (a : BitVec 24) (d : Word), s.boot.halted = false → u = s.acceptFrame gap mode3 →
    (u.ser.sdo = s.pendingReply ∧ u.fld F.SER_SP_CNTA_FRAMES = satAdd 16 (s.fld F.SER_SP_CNTA_FRAMES) 1 ∧ u.ser.disc = false ∧
      u.ser.rel = some (s.clk.cc + gap) ∧ u.flag F.SER_SP_STAT_MODE3 = mode3 ∧ u.mem = s.mem ∧ u.queues = s.queues ∧
      u.chk = s.chk ∧ ∀ i, i ≠ 0x200 → i ≠ F.SER_SP_CNTA_w.addr → i ≠ F.SER_SP_STAT_w.addr → u.reg i = s.reg i) ∧
    (∃ t : State, exec (.serviceNop gap mode3 a d) s = .next t ∧ t.pendingReply = replyBits 0 a.toNat 0 ∧
      t = { u with ser := { u.ser with reply := some { kind := 0, addr := a.toNat } } }) ∧
    (s.marchBusy a.toNat = true → ∀ c, c = Instr.serviceRead gap mode3 a d ∨ c = Instr.serviceWrite gap mode3 a d →
      ∃ t : State, exec c s = .next t ∧ t.ser.disc = true ∧ t.ser.reply = s.ser.reply ∧ t.mem = s.mem ∧
        t.fld F.SER_SP_CNTB_BUSYS = satAdd 16 (s.fld F.SER_SP_CNTB_BUSYS) 1) ∧
    (s.marchBusy a.toNat = false →
      (∀ w pois un v, u.hostRead .service a.toNat = (w, pois, un, v) → ∃ t : State, exec (.serviceRead gap mode3 a d) s = .next t ∧
        t.ser.reply = some { kind := 1, pois := pois, unimp := un, addr := a.toNat, data := w } ∧ t.mem = v.mem ∧
        t.queues = v.queues ∧ (pois = true → t.flag F.MIN_FLAGS_SPPOIS = true) ∧ (pois = false → t.regs = v.regs)) ∧
      (∀ r v, u.hostWrite (some .service) a.toNat d = (r, v) →
        (a.toNat = 0x111 → bitsOf d.toNat 15 0 = 0xC35A → exec (.serviceWrite gap mode3 a d) s = .next v) ∧
        (¬(a.toNat = 0x111 ∧ bitsOf d.toNat 15 0 = 0xC35A) → exec (.serviceWrite gap mode3 a d) s = .next { v with ser :=
          { v.ser with reply := some { kind := 2, unimp := decide (r = .unimplemented), addr := a.toNat, data := d } } })) ∧
      (inMap a.toNat = true → s.chkAt a.toNat = 0 → ∃ t : State, exec (.serviceRead gap mode3 a d) s = .next t ∧
        t.ser.reply = some { kind := 1, addr := a.toNat, data := s.memWord a.toNat } ∧ t.mem = s.mem ∧ t.regs = u.regs) ∧
      (inMap a.toNat = true → s.inActiveBank a.toNat = false → ∃ t : State, exec (.serviceWrite gap mode3 a d) s = .next t ∧
        t.memWord a.toNat = d ∧ t.chkAt a.toNat = 0 ∧ (∀ b, b ≠ a.toNat → t.memWord b = s.memWord b) ∧ t.regs = u.regs ∧
        t.ser.reply = some { kind := 2, addr := a.toNat, data := d }) ∧
      (regAt a.toNat = none → inWindow a.toNat = false →
        (∃ t : State, exec (.serviceRead gap mode3 a d) s = .next t ∧ t.mem = s.mem ∧
          t.ser.reply = some { kind := 1, unimp := true, addr := a.toNat } ∧
          t.fld F.FSV_STAT_ADDRF = satAdd 16 (s.fld F.FSV_STAT_ADDRF) 1) ∧
        (∃ t : State, exec (.serviceWrite gap mode3 a d) s = .next t ∧ t.mem = s.mem ∧
          t.ser.reply = some { kind := 2, unimp := true, addr := a.toNat, data := d } ∧
          t.fld F.FSV_STAT_ADDRF = satAdd 16 (s.fld F.FSV_STAT_ADDRF) 1))) ∧
    (∀ cmd : Byte, (cmd = 0x00 ∨ cmd = 0x3C ∨ cmd = 0xC3 → exec (.refusedCommand gap mode3 cmd a) s = .next s) ∧
      (cmd ≠ 0x00 → cmd ≠ 0x3C → cmd ≠ 0xC3 → ∃ t : State, exec (.refusedCommand gap mode3 cmd a) s = .next t ∧
        t.ser.sdo = s.pendingReply ∧ t.ser.reply = some { kind := 3, addr := a.toNat } ∧ t.mem = s.mem ∧ t.queues = s.queues ∧
        t.fld F.SER_SP_CNTA_FRAMES = satAdd 16 (s.fld F.SER_SP_CNTA_FRAMES) 1 ∧
        t.fld F.SER_SP_CNTB_REFUSED = satAdd 16 (s.fld F.SER_SP_CNTB_REFUSED) 1 ∧
        ∀ i, i ≠ 0x200 → i ≠ F.SER_SP_CNTA_w.addr → i ≠ F.SER_SP_CNTB_w.addr → i ≠ F.SER_SP_STAT_w.addr → t.reg i = s.reg i)) ∧
    (∃ t : State, exec (.abortedFrame gap mode3) s = .next t ∧ t.ser.sdo = s.pendingReply ∧ t.ser.reply = s.ser.reply ∧
      t.ser.disc = true ∧ t.ser.rel = s.ser.rel ∧ t.fld F.SER_SP_CNTA_ABORTS = satAdd 16 (s.fld F.SER_SP_CNTA_ABORTS) 1 ∧
      t.mem = s.mem ∧ t.queues = s.queues ∧
      ∀ i, i ≠ 0x200 → i ≠ F.SER_SP_CNTA_w.addr → i ≠ F.SER_SP_STAT_w.addr → t.reg i = s.reg i) ∧
    (∀ len : Nat, (s.ser.rel = none → exec (.busyFrame gap mode3 len) s = .next s) ∧
      (∀ c, s.ser.rel = some c → c + usClocks 2 + len ≤ s.clk.cc + gap → exec (.busyFrame gap mode3 len) s = .next s) ∧
      (∀ c, s.ser.rel = some c → s.clk.cc + gap < c + usClocks 2 + len → ∃ t : State,
        exec (.busyFrame gap mode3 len) s = .next t ∧ t.ser.disc = true ∧ t.ser.reply = s.ser.reply ∧ t.ser.rel = s.ser.rel ∧
        bitOf t.ser.sdo.toNat 65 = true ∧ t.ser.sdo.toNat % 2 ^ 64 = 0 ∧ t.mem = s.mem ∧ t.queues = s.queues ∧
        t.fld F.SER_SP_CNTB_BUSYS = satAdd 16 (s.fld F.SER_SP_CNTB_BUSYS) 1 ∧
        ∀ i, i ≠ 0x200 → i ≠ F.SER_SP_CNTB_w.addr → i ≠ F.SER_SP_STAT_w.addr → t.reg i = s.reg i)))

/-- With no other clear waiting, a write of FSV_CLR is evaluated at the next 1,024 tb instant, but the clear of a
dual-channel input is left for the sample of that instant. An instance that is not latched is left alone; one whose
condition holds stays latched and sets CLRERR; any other is unlatched with its history, its FAULT record is written,
and when no LIMP latch is left LIMPPEND clears; the sample's evaluation does the same for a dual-channel input and
clears LAST. ALL clears every instance that has no condition and latches none. In a core clock in which hardware
updates no field, a write of FSV_SRCs_CFG stores its fields, but with ACTLOCK outside BOOT a different ACT is kept out
and sets CFGERR; reserved sources ignore it. (spec/19_fault_supervision.md R400; spec/19_fault_supervision.md R401;
spec/19_fault_supervision.md R402) -/
def Obligations.FaultsAreClearedAndConfigured : Prop :=
  (∀ (s u : State) (v : Word) (src inst : Nat), s.boot.halted = false → s.flt.clears = [] → src = bitsOf v.toNat 11 6 →
    inst = bitsOf v.toNat 5 0 → u = s.completed.advTo ((s.now / 1024 * 1024 + 1024) % mod40) →
    (bitOf v.toNat 12 = false → src = srcDual → exec (.faultClear v) s =
      .next { u with flt := { u.flt with clears := [srcDual * 64 + inst] } }) ∧
    (bitOf v.toNat 12 = false → src ≠ srcDual →
      (s.isLatched src inst = false → exec (.faultClear v) s = .next u) ∧
      (s.isLatched src inst = true → u.condition src inst = some true → ∃ t : State, exec (.faultClear v) s = .next t ∧
        t.flt = s.flt ∧ t.flag F.FSV_STAT_CLRERR = true ∧ t.mem = s.mem ∧ t.queues = s.queues ∧
        ∀ i, i ≠ 0x200 → i ≠ F.FSV_STAT_w.addr → t.reg i = s.reg i) ∧
      (s.isLatched src inst = true → u.condition src inst ≠ some true → ∃ t : State, exec (.faultClear v) s = .next t ∧
        t.isLatched src inst = false ∧ spGet (fun _ => []) t.flt.hist (instKey src inst) = [] ∧
        (∀ x y, instKey x y ≠ instKey src inst → t.isLatched x y = s.isLatched x y) ∧ t.flt.clears = [] ∧ t.mem = s.mem ∧
        t.valves = s.valves ∧ t.flag F.FSV_STAT_CLRERR = s.flag F.FSV_STAT_CLRERR ∧
        (s.ringRoom 59 2 = true → (t.queue 59).recs.length = (s.queue 59).recs.length + 2) ∧
        (t.limpLatched = false → t.flag F.MOD_STAT_LIMPPEND = false))) ∧
    (bitOf v.toNat 12 = true → ∃ t : State, exec (.faultClear v) s = .next t ∧ (s.flt.latched = [] → t = u) ∧
      (∀ x y, t.isLatched x y = true → s.isLatched x y = true) ∧
      (∀ y, y < 64 → t.isLatched srcDual y = s.isLatched srcDual y) ∧
      ((∀ (w : State), ∀ p ∈ s.flt.latched, w.condition (p.1 / 64) (p.1 % 64) = none) →
        ∀ x y, y < 64 → x ≠ srcDual → t.isLatched x y = false))) ∧
  (∀ (s : State) (inst : Nat), inst < 4 → s.flt.clears = [srcDual * 64 + inst] →
    (s.isLatched srcDual inst = false → s.evalClears = { s with flt := { s.flt with clears := [] } }) ∧
    (s.isLatched srcDual inst = true → s.condition srcDual inst = some true →
      s.evalClears.isLatched srcDual inst = true ∧ s.evalClears.flag F.FSV_STAT_CLRERR = true) ∧
    (s.isLatched srcDual inst = true → s.condition srcDual inst ≠ some true → s.evalClears.isLatched srcDual inst = false ∧
      s.evalClears.flag (F.TRV_DCm_LAST inst) = false ∧ s.evalClears.flag F.FSV_STAT_CLRERR = s.flag F.FSV_STAT_CLRERR)) ∧
  (∀ (s : State) (k : Fin 64) (v : Word) (kept : Prop), s.boot.halted = false → s.calm = true →
    (kept ↔ s.modeNow ≠ modeBoot ∧ s.flag (F.FSV_SRCs_LIM_ACTLOCK k) = true ∧
      bitsOf v.toNat 15 13 ≠ s.fld (F.FSV_SRCs_CFG_ACT k)) →
    (43 ≤ k.val → exec (.faultConfigWrite k v) s = .next s) ∧
    (k.val < 43 → ∃ t : State, exec (.faultConfigWrite k v) s = .next t ∧ t.fld (F.FSV_SRCs_CFG_W k) = bitsOf v.toNat 39 20 ∧
      t.fld (F.FSV_SRCs_CFG_N k) = bitsOf v.toNat 19 16 ∧ t.mem = s.mem ∧ t.queues = s.queues ∧ t.flt = s.flt ∧
      (kept → t.fld (F.FSV_SRCs_CFG_ACT k) = s.fld (F.FSV_SRCs_CFG_ACT k) ∧ t.flag F.FSV_STAT_CFGERR = true) ∧
      (¬kept → t.fld (F.FSV_SRCs_CFG_ACT k) = bitsOf v.toNat 15 13 ∧
        t.flag F.FSV_STAT_CFGERR = s.flag F.FSV_STAT_CFGERR) ∧
      ∀ i, i ≠ (F.FSV_SRCs_CFG_w k).addr → i ≠ F.FSV_STAT_w.addr → t.reg i = s.reg i))

/-- A write to an unimplemented address counts in ADDRF and changes no stored word; the link's writes to SLK and KEY and
every write to a register of RO fields change nothing. In a register without an effect of its own and outside the
travel inputs, in a core clock in which hardware updates no field, a writable field takes the bits written, a W1C flag
written 1 clears, and every other bit and register stays. A cache word outside the active bank and a shape word of a
store that was free in the core clock before take the word written with clean check bits; a shape store in use rejects
it, and other window words ignore it. (spec/00_scope.md R10; spec/00_scope.md R12; spec/00_scope.md R13;
spec/20_register_map.md R408; spec/20_register_map.md R409; spec/20_register_map.md R411; spec/07_shape_sequencer.md
R186; spec/05_scheduler.md R118) -/
def Obligations.WritesFollowAccessCodes : Prop :=
  ∀ (s : State) (p : Path) (a : BitVec 24) (v : Word) (n : Nat), s.boot.halted = false → n = a.toNat →
    (p = .link → inSlk n = true ∨ inKey n = true → exec (.registerWrite p a v) s = .next s) ∧
    (p ≠ .link ∨ (inSlk n = false ∧ inKey n = false) →
      (regAt n = none → inWindow n = false → ∃ t : State, exec (.registerWrite p a v) s = .next t ∧ t.mem = s.mem ∧
        t.chk = s.chk ∧ t.valves = s.valves ∧ t.fld F.FSV_STAT_ADDRF = satAdd 16 (s.fld F.FSV_STAT_ADDRF) 1 ∧
        ∀ i, i ≠ F.FSV_STAT_w.addr → i ≠ (F.FSV_SRCs_STAT_w srcAddress).addr → i ≠ (F.EVS_Qn_ERR_w 59).addr →
          t.reg i = s.reg i) ∧
      (∀ r, regAt n = some r → r.rw = 0 → r.w1c = 0 → r.wo = 0 → exec (.registerWrite p a v) s = .next s) ∧
      (∀ r, regAt n = some r → s.calm = true → inInputs n = false → (r.rw ≠ 0 ∨ r.w1c ≠ 0 ∨ r.wo ≠ 0) → r.reg ∉ [.SYS_HEAD_CTL, .MOD_CMD, .MOD_RSTCMD, .FSV_CLR, .FSV_SRCs_CFG,
          .TRV_CFG, .TRV_SRC, .TRV_ENn_CFG, .TRV_OFFSET, .TRV_BIAS, .TRV_DCm, .PLN_MAP, .EVS_PUSHS, .EVS_PUSHC, .EVS_Qn_CFG, .EVS_Qn_CTL,
          .VDA_CHn_CFG, .VDA_CHn_STAT, .VDA_CHn_LRN, .VDA_CHn_LBAND, .CTL_x_CFG, .CTL_x_MOj, .CTL_x_UDk, .CTL_TRCb_CTL,
          .CTL_INJ_CTL, .GNB_CFG, .GNB_ANCH, .GNB_SNAPREQ, .SLK_CFG, .SLK_HCMD, .BMV_Dn_CTL, .BMV_Dn_W0, .BMV_Dn_W1, .BMV_Dn_W2,
          .BMV_Dn_W3, .MIN_DCTL, .SER_PP_RAW, .LDG_CTL, .LDG_LIMz, .LDG_MLIMIT, .KEY_CMD] →
        ∃ t : State, exec (.registerWrite p a v) s = .next t ∧ t.mem = s.mem ∧ t.queues = s.queues ∧ t.valves = s.valves ∧
          (∀ i, i ≠ n → t.reg i = s.reg i) ∧ (sramReg n = true → t.chkAt n = 0) ∧
          ∀ i, i < 40 → (t.reg n).getLsbD i = (if r.rw.testBit i then v.getLsbD i
            else if r.w1c.testBit i && v.getLsbD i then false else (s.reg n).getLsbD i)) ∧
      (inMap n = true → s.inActiveBank n = false → ∃ t : State, exec (.registerWrite p a v) s = .next t ∧ t.memWord n = v ∧
        t.chkAt n = 0 ∧ (∀ b, b ≠ n → t.memWord b = s.memWord b) ∧ t.regs = s.regs ∧ t.queues = s.queues) ∧
      (inMap n = true → s.inActiveBank n = true → exec (.registerWrite p a v) s = .next s) ∧
      (inEvents n = true ∨ inTrace n = true → exec (.registerWrite p a v) s = .next s) ∧
      (inShape n = true → ∀ g, g = (n - 0x4000) / 0x400 →
        (s.storeFree g = true →
          ∃ t : State, exec (.registerWrite p a v) s = .next t ∧ t.memWord n = v ∧ t.chkAt n = 0 ∧
            (∀ b, b ≠ n → t.memWord b = s.memWord b) ∧ t.regs = s.regs) ∧
        (s.storeFree g = false →
          ∃ t : State, exec (.registerWrite p a v) s = .next t ∧ t.mem = s.mem ∧ t.flag (F.VDA_Gg_SEQ_WRERR g) = true ∧
            t.fld (F.VDA_Gg_SEQ_WRREJ g) = satAdd (F.VDA_Gg_SEQ_WRREJ g).width (s.fld (F.VDA_Gg_SEQ_WRREJ g)) 1 ∧
            ∀ i, i ≠ (F.VDA_Gg_SEQ_w g).addr → t.reg i = s.reg i)))
end

