-- ==== Sys2Proof/Laws/Sparse.lean ====
section
/-! SUPPORT. The laws of sparse data: a read after a write, and that every operation keeps the canonical form. -/

set_option Elab.async false

namespace Sys2Proof.Machine

open Sys2Proof

theorem spGet_spDel_same {α : Type} (d : Nat → α) (m : List (Nat × α)) (k : Nat) : spGet d (spDel m k) k = d k := by
  induction m with
  | nil => rfl
  | cons p m ih =>
    obtain ⟨k', v⟩ := p
    by_cases h : k' = k <;> simp [spDel, spGet, h, ih]

theorem spGet_spDel_ne {α : Type} (d : Nat → α) (m : List (Nat × α)) {k j : Nat} (h : j ≠ k) :
    spGet d (spDel m k) j = spGet d m j := by
  induction m with
  | nil => rfl
  | cons p m ih =>
    obtain ⟨k', v⟩ := p
    by_cases hk : k' = k
    · subst hk; simp [spDel, spGet, ih, Ne.symm h]
    · simp [spDel, spGet, hk, ih]

theorem spGet_spPut_same {α : Type} (d : Nat → α) (m : List (Nat × α)) (k : Nat) (v : α) : spGet d (spPut m k v) k = v := by
  induction m with
  | nil => simp [spPut, spGet]
  | cons p m ih =>
    obtain ⟨k', v'⟩ := p
    by_cases h : k' = k
    · simp [spPut, spGet, h]
    · by_cases g : k < k' <;> simp [spPut, spGet, h, g, ih]

theorem spGet_spPut_ne {α : Type} (d : Nat → α) (m : List (Nat × α)) {k j : Nat} (v : α) (h : j ≠ k) :
    spGet d (spPut m k v) j = spGet d m j := by
  induction m with
  | nil => simp [spPut, spGet, Ne.symm h]
  | cons p m ih =>
    obtain ⟨k', v'⟩ := p
    by_cases hk : k' = k
    · subst hk; simp [spPut, spGet, Ne.symm h]
    · by_cases g : k < k' <;> simp [spPut, spGet, hk, g, ih, Ne.symm h]

/-- A write, whatever is listed. -/
theorem spSet_eq {α : Type} [DecidableEq α] (d : Nat → α) (m : List (Nat × α)) (k : Nat) (v : α) :
    spSet d m k v = if v = d k then spDel m k else spPut m k v := by cases m <;> rfl

/-- A read after a write gives the value written at its key and what was there elsewhere. -/
theorem spGet_spSet {α : Type} [DecidableEq α] (d : Nat → α) (m : List (Nat × α)) (k j : Nat) (v : α) :
    spGet d (spSet d m k v) j = if j = k then v else spGet d m j := by
  rw [spSet_eq]
  by_cases h : j = k
  · subst h
    by_cases g : v = d j <;> simp [g, spGet_spDel_same, spGet_spPut_same]
  · by_cases g : v = d k <;> simp [g, h, spGet_spDel_ne, spGet_spPut_ne]

/-! ### The canonical form -/

theorem spWfFrom_cons {α : Type} [DecidableEq α] (d : Nat → α) (lo : Option Nat) (k : Nat) (v : α) (m : List (Nat × α)) :
    spWfFrom d lo ((k, v) :: m) = true ↔ (∀ l, lo = some l → l < k) ∧ v ≠ d k ∧ spWfFrom d (some k) m = true := by
  cases lo <;> simp [spWfFrom, and_assoc]

/-- A lower bound may be loosened: what holds above `k` holds above any bound of `k`. -/
theorem spWfFrom_tail {α : Type} [DecidableEq α] {d : Nat → α} {lo : Option Nat} {k : Nat} {v : α} {m : List (Nat × α)}
    (h : spWfFrom d lo ((k, v) :: m) = true) : spWfFrom d lo m = true := by
  rw [spWfFrom_cons] at h
  cases m with
  | nil => rfl
  | cons p m =>
    obtain ⟨k', v'⟩ := p
    have h2 := (spWfFrom_cons _ _ _ _ _).1 h.2.2
    exact (spWfFrom_cons _ _ _ _ _).2 ⟨fun l e => Nat.lt_trans (h.1 l e) (h2.1 k rfl), h2.2⟩

theorem spWfFrom_del {α : Type} [DecidableEq α] (d : Nat → α) (m : List (Nat × α)) (k : Nat) :
    ∀ lo, spWfFrom d lo m = true → spWfFrom d lo (spDel m k) = true := by
  induction m with
  | nil => intro lo h; exact h
  | cons p m ih =>
    obtain ⟨k', v'⟩ := p
    intro lo h
    by_cases hk : k' = k
    · simpa [spDel, hk] using ih lo (spWfFrom_tail h)
    · simp only [spDel, hk, if_false]
      rw [spWfFrom_cons] at h ⊢
      exact ⟨h.1, h.2.1, ih _ h.2.2⟩

theorem spWfFrom_put {α : Type} [DecidableEq α] (d : Nat → α) (m : List (Nat × α)) (k : Nat) (v : α) (hv : v ≠ d k) :
    ∀ lo, (∀ l, lo = some l → l < k) → spWfFrom d lo m = true → spWfFrom d lo (spPut m k v) = true := by
  induction m with
  | nil => intro lo hl _; exact (spWfFrom_cons _ _ _ _ _).2 ⟨hl, hv, rfl⟩
  | cons p m ih =>
    obtain ⟨k', v'⟩ := p
    intro lo hl h
    rw [spWfFrom_cons] at h
    by_cases hk : k' = k
    · subst hk
      simp only [spPut, if_true]
      exact (spWfFrom_cons _ _ _ _ _).2 ⟨hl, hv, h.2.2⟩
    · by_cases g : k < k'
      · simp only [spPut, hk, if_false, g, if_true]
        exact (spWfFrom_cons _ _ _ _ _).2 ⟨hl, hv,
          (spWfFrom_cons _ _ _ _ _).2 ⟨fun l e => by cases e; exact g, h.2⟩⟩
      · simp only [spPut, hk, if_false, g]
        exact (spWfFrom_cons _ _ _ _ _).2 ⟨h.1, h.2.1, ih _ (fun l e => by cases e; omega) h.2.2⟩

/-- A write keeps the canonical form. -/
theorem spWf_spSet {α : Type} [DecidableEq α] (d : Nat → α) (m : List (Nat × α)) (k : Nat) (v : α) (h : spWf d m = true) :
    spWf d (spSet d m k v) = true := by
  rw [spSet_eq]
  by_cases g : v = d k
  · rw [if_pos g]; exact spWfFrom_del d m k none h
  · rw [if_neg g]; exact spWfFrom_put d m k v g none (by simp) h

/-- Dropping entries keeps the canonical form. -/
theorem spWf_filter {α : Type} [DecidableEq α] (d : Nat → α) (m : List (Nat × α)) (q : Nat × α → Bool) (h : spWf d m = true) :
    spWf d (m.filter q) = true := by
  suffices ∀ lo, spWfFrom d lo m = true → spWfFrom d lo (m.filter q) = true from this none h
  clear h
  induction m with
  | nil => intro lo h; exact h
  | cons p m ih =>
    obtain ⟨k, v⟩ := p
    intro lo h
    by_cases hq : q (k, v) = true
    · rw [List.filter_cons_of_pos hq]
      rw [spWfFrom_cons] at h ⊢
      exact ⟨h.1, h.2.1, ih _ h.2.2⟩
    · rw [List.filter_cons_of_neg hq]
      exact ih _ (spWfFrom_tail h)

end Sys2Proof.Machine
end

