-- ==== Sys2Proof/Laws/State.lean ====
section
/-! SUPPORT. What each update of the state leaves: one lemma per field per update, and what a read gives after a write. -/

namespace Sys2Proof.Machine

open Sys2Proof

/-! ### `setReg` -/

@[simp] theorem State.setReg_mem (s : State) (a : Nat) (v : Word) : (s.setReg a v).mem = s.mem := rfl
@[simp] theorem State.setReg_chk (s : State) (a : Nat) (v : Word) : (s.setReg a v).chk = s.chk := rfl
@[simp] theorem State.setReg_core (s : State) (a : Nat) (v : Word) : (s.setReg a v).core = s.core := rfl
@[simp] theorem State.setReg_clk (s : State) (a : Nat) (v : Word) : (s.setReg a v).clk = s.clk := rfl
@[simp] theorem State.setReg_trv (s : State) (a : Nat) (v : Word) : (s.setReg a v).trv = s.trv := rfl
@[simp] theorem State.setReg_ms (s : State) (a : Nat) (v : Word) : (s.setReg a v).ms = s.ms := rfl
@[simp] theorem State.setReg_queues (s : State) (a : Nat) (v : Word) : (s.setReg a v).queues = s.queues := rfl
@[simp] theorem State.setReg_asms (s : State) (a : Nat) (v : Word) : (s.setReg a v).asms = s.asms := rfl
@[simp] theorem State.setReg_spent (s : State) (a : Nat) (v : Word) : (s.setReg a v).spent = s.spent := rfl
@[simp] theorem State.setReg_plan (s : State) (a : Nat) (v : Word) : (s.setReg a v).plan = s.plan := rfl
@[simp] theorem State.setReg_valves (s : State) (a : Nat) (v : Word) : (s.setReg a v).valves = s.valves := rfl
@[simp] theorem State.setReg_groups (s : State) (a : Nat) (v : Word) : (s.setReg a v).groups = s.groups := rfl
@[simp] theorem State.setReg_flt (s : State) (a : Nat) (v : Word) : (s.setReg a v).flt = s.flt := rfl
@[simp] theorem State.setReg_mode (s : State) (a : Nat) (v : Word) : (s.setReg a v).mode = s.mode := rfl
@[simp] theorem State.setReg_ctl (s : State) (a : Nat) (v : Word) : (s.setReg a v).ctl = s.ctl := rfl
@[simp] theorem State.setReg_lnk (s : State) (a : Nat) (v : Word) : (s.setReg a v).lnk = s.lnk := rfl
@[simp] theorem State.setReg_key (s : State) (a : Nat) (v : Word) : (s.setReg a v).key = s.key := rfl
@[simp] theorem State.setReg_gnb (s : State) (a : Nat) (v : Word) : (s.setReg a v).gnb = s.gnb := rfl
@[simp] theorem State.setReg_hd (s : State) (a : Nat) (v : Word) : (s.setReg a v).hd = s.hd := rfl
@[simp] theorem State.setReg_led (s : State) (a : Nat) (v : Word) : (s.setReg a v).led = s.led := rfl
@[simp] theorem State.setReg_boot (s : State) (a : Nat) (v : Word) : (s.setReg a v).boot = s.boot := rfl
@[simp] theorem State.setReg_ser (s : State) (a : Nat) (v : Word) : (s.setReg a v).ser = s.ser := rfl
@[simp] theorem State.setReg_mov (s : State) (a : Nat) (v : Word) : (s.setReg a v).mov = s.mov := rfl
@[simp] theorem State.setReg_flash (s : State) (a : Nat) (v : Word) : (s.setReg a v).flash = s.flash := rfl
@[simp] theorem State.setReg_free (s : State) (a : Nat) (v : Word) : (s.setReg a v).free = s.free := rfl
@[simp] theorem State.setReg_pending (s : State) (a : Nat) (v : Word) : (s.setReg a v).pending = s.pending := rfl

/-! ### `setFld` -/

@[simp] theorem State.setFld_mem (s : State) (f : Fld) (v : Nat) : (s.setFld f v).mem = s.mem := rfl
@[simp] theorem State.setFld_chk (s : State) (f : Fld) (v : Nat) : (s.setFld f v).chk = s.chk := rfl
@[simp] theorem State.setFld_core (s : State) (f : Fld) (v : Nat) : (s.setFld f v).core = s.core := rfl
@[simp] theorem State.setFld_clk (s : State) (f : Fld) (v : Nat) : (s.setFld f v).clk = s.clk := rfl
@[simp] theorem State.setFld_trv (s : State) (f : Fld) (v : Nat) : (s.setFld f v).trv = s.trv := rfl
@[simp] theorem State.setFld_ms (s : State) (f : Fld) (v : Nat) : (s.setFld f v).ms = s.ms := rfl
@[simp] theorem State.setFld_queues (s : State) (f : Fld) (v : Nat) : (s.setFld f v).queues = s.queues := rfl
@[simp] theorem State.setFld_asms (s : State) (f : Fld) (v : Nat) : (s.setFld f v).asms = s.asms := rfl
@[simp] theorem State.setFld_spent (s : State) (f : Fld) (v : Nat) : (s.setFld f v).spent = s.spent := rfl
@[simp] theorem State.setFld_plan (s : State) (f : Fld) (v : Nat) : (s.setFld f v).plan = s.plan := rfl
@[simp] theorem State.setFld_valves (s : State) (f : Fld) (v : Nat) : (s.setFld f v).valves = s.valves := rfl
@[simp] theorem State.setFld_groups (s : State) (f : Fld) (v : Nat) : (s.setFld f v).groups = s.groups := rfl
@[simp] theorem State.setFld_flt (s : State) (f : Fld) (v : Nat) : (s.setFld f v).flt = s.flt := rfl
@[simp] theorem State.setFld_mode (s : State) (f : Fld) (v : Nat) : (s.setFld f v).mode = s.mode := rfl
@[simp] theorem State.setFld_ctl (s : State) (f : Fld) (v : Nat) : (s.setFld f v).ctl = s.ctl := rfl
@[simp] theorem State.setFld_lnk (s : State) (f : Fld) (v : Nat) : (s.setFld f v).lnk = s.lnk := rfl
@[simp] theorem State.setFld_key (s : State) (f : Fld) (v : Nat) : (s.setFld f v).key = s.key := rfl
@[simp] theorem State.setFld_gnb (s : State) (f : Fld) (v : Nat) : (s.setFld f v).gnb = s.gnb := rfl
@[simp] theorem State.setFld_hd (s : State) (f : Fld) (v : Nat) : (s.setFld f v).hd = s.hd := rfl
@[simp] theorem State.setFld_led (s : State) (f : Fld) (v : Nat) : (s.setFld f v).led = s.led := rfl
@[simp] theorem State.setFld_boot (s : State) (f : Fld) (v : Nat) : (s.setFld f v).boot = s.boot := rfl
@[simp] theorem State.setFld_ser (s : State) (f : Fld) (v : Nat) : (s.setFld f v).ser = s.ser := rfl
@[simp] theorem State.setFld_mov (s : State) (f : Fld) (v : Nat) : (s.setFld f v).mov = s.mov := rfl
@[simp] theorem State.setFld_flash (s : State) (f : Fld) (v : Nat) : (s.setFld f v).flash = s.flash := rfl
@[simp] theorem State.setFld_free (s : State) (f : Fld) (v : Nat) : (s.setFld f v).free = s.free := rfl
@[simp] theorem State.setFld_pending (s : State) (f : Fld) (v : Nat) : (s.setFld f v).pending = s.pending := rfl

/-! ### `setFldI` -/

@[simp] theorem State.setFldI_mem (s : State) (f : Fld) (x : Int) : (s.setFldI f x).mem = s.mem := rfl
@[simp] theorem State.setFldI_chk (s : State) (f : Fld) (x : Int) : (s.setFldI f x).chk = s.chk := rfl
@[simp] theorem State.setFldI_core (s : State) (f : Fld) (x : Int) : (s.setFldI f x).core = s.core := rfl
@[simp] theorem State.setFldI_clk (s : State) (f : Fld) (x : Int) : (s.setFldI f x).clk = s.clk := rfl
@[simp] theorem State.setFldI_trv (s : State) (f : Fld) (x : Int) : (s.setFldI f x).trv = s.trv := rfl
@[simp] theorem State.setFldI_ms (s : State) (f : Fld) (x : Int) : (s.setFldI f x).ms = s.ms := rfl
@[simp] theorem State.setFldI_queues (s : State) (f : Fld) (x : Int) : (s.setFldI f x).queues = s.queues := rfl
@[simp] theorem State.setFldI_asms (s : State) (f : Fld) (x : Int) : (s.setFldI f x).asms = s.asms := rfl
@[simp] theorem State.setFldI_spent (s : State) (f : Fld) (x : Int) : (s.setFldI f x).spent = s.spent := rfl
@[simp] theorem State.setFldI_plan (s : State) (f : Fld) (x : Int) : (s.setFldI f x).plan = s.plan := rfl
@[simp] theorem State.setFldI_valves (s : State) (f : Fld) (x : Int) : (s.setFldI f x).valves = s.valves := rfl
@[simp] theorem State.setFldI_groups (s : State) (f : Fld) (x : Int) : (s.setFldI f x).groups = s.groups := rfl
@[simp] theorem State.setFldI_flt (s : State) (f : Fld) (x : Int) : (s.setFldI f x).flt = s.flt := rfl
@[simp] theorem State.setFldI_mode (s : State) (f : Fld) (x : Int) : (s.setFldI f x).mode = s.mode := rfl
@[simp] theorem State.setFldI_ctl (s : State) (f : Fld) (x : Int) : (s.setFldI f x).ctl = s.ctl := rfl
@[simp] theorem State.setFldI_lnk (s : State) (f : Fld) (x : Int) : (s.setFldI f x).lnk = s.lnk := rfl
@[simp] theorem State.setFldI_key (s : State) (f : Fld) (x : Int) : (s.setFldI f x).key = s.key := rfl
@[simp] theorem State.setFldI_gnb (s : State) (f : Fld) (x : Int) : (s.setFldI f x).gnb = s.gnb := rfl
@[simp] theorem State.setFldI_hd (s : State) (f : Fld) (x : Int) : (s.setFldI f x).hd = s.hd := rfl
@[simp] theorem State.setFldI_led (s : State) (f : Fld) (x : Int) : (s.setFldI f x).led = s.led := rfl
@[simp] theorem State.setFldI_boot (s : State) (f : Fld) (x : Int) : (s.setFldI f x).boot = s.boot := rfl
@[simp] theorem State.setFldI_ser (s : State) (f : Fld) (x : Int) : (s.setFldI f x).ser = s.ser := rfl
@[simp] theorem State.setFldI_mov (s : State) (f : Fld) (x : Int) : (s.setFldI f x).mov = s.mov := rfl
@[simp] theorem State.setFldI_flash (s : State) (f : Fld) (x : Int) : (s.setFldI f x).flash = s.flash := rfl
@[simp] theorem State.setFldI_free (s : State) (f : Fld) (x : Int) : (s.setFldI f x).free = s.free := rfl
@[simp] theorem State.setFldI_pending (s : State) (f : Fld) (x : Int) : (s.setFldI f x).pending = s.pending := rfl

/-! ### `setFldSat` -/

@[simp] theorem State.setFldSat_mem (s : State) (f : Fld) (x : Int) : (s.setFldSat f x).mem = s.mem := rfl
@[simp] theorem State.setFldSat_chk (s : State) (f : Fld) (x : Int) : (s.setFldSat f x).chk = s.chk := rfl
@[simp] theorem State.setFldSat_core (s : State) (f : Fld) (x : Int) : (s.setFldSat f x).core = s.core := rfl
@[simp] theorem State.setFldSat_clk (s : State) (f : Fld) (x : Int) : (s.setFldSat f x).clk = s.clk := rfl
@[simp] theorem State.setFldSat_trv (s : State) (f : Fld) (x : Int) : (s.setFldSat f x).trv = s.trv := rfl
@[simp] theorem State.setFldSat_ms (s : State) (f : Fld) (x : Int) : (s.setFldSat f x).ms = s.ms := rfl
@[simp] theorem State.setFldSat_queues (s : State) (f : Fld) (x : Int) : (s.setFldSat f x).queues = s.queues := rfl
@[simp] theorem State.setFldSat_asms (s : State) (f : Fld) (x : Int) : (s.setFldSat f x).asms = s.asms := rfl
@[simp] theorem State.setFldSat_spent (s : State) (f : Fld) (x : Int) : (s.setFldSat f x).spent = s.spent := rfl
@[simp] theorem State.setFldSat_plan (s : State) (f : Fld) (x : Int) : (s.setFldSat f x).plan = s.plan := rfl
@[simp] theorem State.setFldSat_valves (s : State) (f : Fld) (x : Int) : (s.setFldSat f x).valves = s.valves := rfl
@[simp] theorem State.setFldSat_groups (s : State) (f : Fld) (x : Int) : (s.setFldSat f x).groups = s.groups := rfl
@[simp] theorem State.setFldSat_flt (s : State) (f : Fld) (x : Int) : (s.setFldSat f x).flt = s.flt := rfl
@[simp] theorem State.setFldSat_mode (s : State) (f : Fld) (x : Int) : (s.setFldSat f x).mode = s.mode := rfl
@[simp] theorem State.setFldSat_ctl (s : State) (f : Fld) (x : Int) : (s.setFldSat f x).ctl = s.ctl := rfl
@[simp] theorem State.setFldSat_lnk (s : State) (f : Fld) (x : Int) : (s.setFldSat f x).lnk = s.lnk := rfl
@[simp] theorem State.setFldSat_key (s : State) (f : Fld) (x : Int) : (s.setFldSat f x).key = s.key := rfl
@[simp] theorem State.setFldSat_gnb (s : State) (f : Fld) (x : Int) : (s.setFldSat f x).gnb = s.gnb := rfl
@[simp] theorem State.setFldSat_hd (s : State) (f : Fld) (x : Int) : (s.setFldSat f x).hd = s.hd := rfl
@[simp] theorem State.setFldSat_led (s : State) (f : Fld) (x : Int) : (s.setFldSat f x).led = s.led := rfl
@[simp] theorem State.setFldSat_boot (s : State) (f : Fld) (x : Int) : (s.setFldSat f x).boot = s.boot := rfl
@[simp] theorem State.setFldSat_ser (s : State) (f : Fld) (x : Int) : (s.setFldSat f x).ser = s.ser := rfl
@[simp] theorem State.setFldSat_mov (s : State) (f : Fld) (x : Int) : (s.setFldSat f x).mov = s.mov := rfl
@[simp] theorem State.setFldSat_flash (s : State) (f : Fld) (x : Int) : (s.setFldSat f x).flash = s.flash := rfl
@[simp] theorem State.setFldSat_free (s : State) (f : Fld) (x : Int) : (s.setFldSat f x).free = s.free := rfl
@[simp] theorem State.setFldSat_pending (s : State) (f : Fld) (x : Int) : (s.setFldSat f x).pending = s.pending := rfl

/-! ### `setFlag` -/

@[simp] theorem State.setFlag_mem (s : State) (f : Fld) (b : Bool) : (s.setFlag f b).mem = s.mem := rfl
@[simp] theorem State.setFlag_chk (s : State) (f : Fld) (b : Bool) : (s.setFlag f b).chk = s.chk := rfl
@[simp] theorem State.setFlag_core (s : State) (f : Fld) (b : Bool) : (s.setFlag f b).core = s.core := rfl
@[simp] theorem State.setFlag_clk (s : State) (f : Fld) (b : Bool) : (s.setFlag f b).clk = s.clk := rfl
@[simp] theorem State.setFlag_trv (s : State) (f : Fld) (b : Bool) : (s.setFlag f b).trv = s.trv := rfl
@[simp] theorem State.setFlag_ms (s : State) (f : Fld) (b : Bool) : (s.setFlag f b).ms = s.ms := rfl
@[simp] theorem State.setFlag_queues (s : State) (f : Fld) (b : Bool) : (s.setFlag f b).queues = s.queues := rfl
@[simp] theorem State.setFlag_asms (s : State) (f : Fld) (b : Bool) : (s.setFlag f b).asms = s.asms := rfl
@[simp] theorem State.setFlag_spent (s : State) (f : Fld) (b : Bool) : (s.setFlag f b).spent = s.spent := rfl
@[simp] theorem State.setFlag_plan (s : State) (f : Fld) (b : Bool) : (s.setFlag f b).plan = s.plan := rfl
@[simp] theorem State.setFlag_valves (s : State) (f : Fld) (b : Bool) : (s.setFlag f b).valves = s.valves := rfl
@[simp] theorem State.setFlag_groups (s : State) (f : Fld) (b : Bool) : (s.setFlag f b).groups = s.groups := rfl
@[simp] theorem State.setFlag_flt (s : State) (f : Fld) (b : Bool) : (s.setFlag f b).flt = s.flt := rfl
@[simp] theorem State.setFlag_mode (s : State) (f : Fld) (b : Bool) : (s.setFlag f b).mode = s.mode := rfl
@[simp] theorem State.setFlag_ctl (s : State) (f : Fld) (b : Bool) : (s.setFlag f b).ctl = s.ctl := rfl
@[simp] theorem State.setFlag_lnk (s : State) (f : Fld) (b : Bool) : (s.setFlag f b).lnk = s.lnk := rfl
@[simp] theorem State.setFlag_key (s : State) (f : Fld) (b : Bool) : (s.setFlag f b).key = s.key := rfl
@[simp] theorem State.setFlag_gnb (s : State) (f : Fld) (b : Bool) : (s.setFlag f b).gnb = s.gnb := rfl
@[simp] theorem State.setFlag_hd (s : State) (f : Fld) (b : Bool) : (s.setFlag f b).hd = s.hd := rfl
@[simp] theorem State.setFlag_led (s : State) (f : Fld) (b : Bool) : (s.setFlag f b).led = s.led := rfl
@[simp] theorem State.setFlag_boot (s : State) (f : Fld) (b : Bool) : (s.setFlag f b).boot = s.boot := rfl
@[simp] theorem State.setFlag_ser (s : State) (f : Fld) (b : Bool) : (s.setFlag f b).ser = s.ser := rfl
@[simp] theorem State.setFlag_mov (s : State) (f : Fld) (b : Bool) : (s.setFlag f b).mov = s.mov := rfl
@[simp] theorem State.setFlag_flash (s : State) (f : Fld) (b : Bool) : (s.setFlag f b).flash = s.flash := rfl
@[simp] theorem State.setFlag_free (s : State) (f : Fld) (b : Bool) : (s.setFlag f b).free = s.free := rfl
@[simp] theorem State.setFlag_pending (s : State) (f : Fld) (b : Bool) : (s.setFlag f b).pending = s.pending := rfl

/-! ### `incBy` -/

@[simp] theorem State.incBy_mem (s : State) (f : Fld) (k : Nat) : (s.incBy f k).mem = s.mem := rfl
@[simp] theorem State.incBy_chk (s : State) (f : Fld) (k : Nat) : (s.incBy f k).chk = s.chk := rfl
@[simp] theorem State.incBy_core (s : State) (f : Fld) (k : Nat) : (s.incBy f k).core = s.core := rfl
@[simp] theorem State.incBy_clk (s : State) (f : Fld) (k : Nat) : (s.incBy f k).clk = s.clk := rfl
@[simp] theorem State.incBy_trv (s : State) (f : Fld) (k : Nat) : (s.incBy f k).trv = s.trv := rfl
@[simp] theorem State.incBy_ms (s : State) (f : Fld) (k : Nat) : (s.incBy f k).ms = s.ms := rfl
@[simp] theorem State.incBy_queues (s : State) (f : Fld) (k : Nat) : (s.incBy f k).queues = s.queues := rfl
@[simp] theorem State.incBy_asms (s : State) (f : Fld) (k : Nat) : (s.incBy f k).asms = s.asms := rfl
@[simp] theorem State.incBy_spent (s : State) (f : Fld) (k : Nat) : (s.incBy f k).spent = s.spent := rfl
@[simp] theorem State.incBy_plan (s : State) (f : Fld) (k : Nat) : (s.incBy f k).plan = s.plan := rfl
@[simp] theorem State.incBy_valves (s : State) (f : Fld) (k : Nat) : (s.incBy f k).valves = s.valves := rfl
@[simp] theorem State.incBy_groups (s : State) (f : Fld) (k : Nat) : (s.incBy f k).groups = s.groups := rfl
@[simp] theorem State.incBy_flt (s : State) (f : Fld) (k : Nat) : (s.incBy f k).flt = s.flt := rfl
@[simp] theorem State.incBy_mode (s : State) (f : Fld) (k : Nat) : (s.incBy f k).mode = s.mode := rfl
@[simp] theorem State.incBy_ctl (s : State) (f : Fld) (k : Nat) : (s.incBy f k).ctl = s.ctl := rfl
@[simp] theorem State.incBy_lnk (s : State) (f : Fld) (k : Nat) : (s.incBy f k).lnk = s.lnk := rfl
@[simp] theorem State.incBy_key (s : State) (f : Fld) (k : Nat) : (s.incBy f k).key = s.key := rfl
@[simp] theorem State.incBy_gnb (s : State) (f : Fld) (k : Nat) : (s.incBy f k).gnb = s.gnb := rfl
@[simp] theorem State.incBy_hd (s : State) (f : Fld) (k : Nat) : (s.incBy f k).hd = s.hd := rfl
@[simp] theorem State.incBy_led (s : State) (f : Fld) (k : Nat) : (s.incBy f k).led = s.led := rfl
@[simp] theorem State.incBy_boot (s : State) (f : Fld) (k : Nat) : (s.incBy f k).boot = s.boot := rfl
@[simp] theorem State.incBy_ser (s : State) (f : Fld) (k : Nat) : (s.incBy f k).ser = s.ser := rfl
@[simp] theorem State.incBy_mov (s : State) (f : Fld) (k : Nat) : (s.incBy f k).mov = s.mov := rfl
@[simp] theorem State.incBy_flash (s : State) (f : Fld) (k : Nat) : (s.incBy f k).flash = s.flash := rfl
@[simp] theorem State.incBy_free (s : State) (f : Fld) (k : Nat) : (s.incBy f k).free = s.free := rfl
@[simp] theorem State.incBy_pending (s : State) (f : Fld) (k : Nat) : (s.incBy f k).pending = s.pending := rfl

/-! ### `inc` -/

@[simp] theorem State.inc_mem (s : State) (f : Fld) : (s.inc f).mem = s.mem := rfl
@[simp] theorem State.inc_chk (s : State) (f : Fld) : (s.inc f).chk = s.chk := rfl
@[simp] theorem State.inc_core (s : State) (f : Fld) : (s.inc f).core = s.core := rfl
@[simp] theorem State.inc_clk (s : State) (f : Fld) : (s.inc f).clk = s.clk := rfl
@[simp] theorem State.inc_trv (s : State) (f : Fld) : (s.inc f).trv = s.trv := rfl
@[simp] theorem State.inc_ms (s : State) (f : Fld) : (s.inc f).ms = s.ms := rfl
@[simp] theorem State.inc_queues (s : State) (f : Fld) : (s.inc f).queues = s.queues := rfl
@[simp] theorem State.inc_asms (s : State) (f : Fld) : (s.inc f).asms = s.asms := rfl
@[simp] theorem State.inc_spent (s : State) (f : Fld) : (s.inc f).spent = s.spent := rfl
@[simp] theorem State.inc_plan (s : State) (f : Fld) : (s.inc f).plan = s.plan := rfl
@[simp] theorem State.inc_valves (s : State) (f : Fld) : (s.inc f).valves = s.valves := rfl
@[simp] theorem State.inc_groups (s : State) (f : Fld) : (s.inc f).groups = s.groups := rfl
@[simp] theorem State.inc_flt (s : State) (f : Fld) : (s.inc f).flt = s.flt := rfl
@[simp] theorem State.inc_mode (s : State) (f : Fld) : (s.inc f).mode = s.mode := rfl
@[simp] theorem State.inc_ctl (s : State) (f : Fld) : (s.inc f).ctl = s.ctl := rfl
@[simp] theorem State.inc_lnk (s : State) (f : Fld) : (s.inc f).lnk = s.lnk := rfl
@[simp] theorem State.inc_key (s : State) (f : Fld) : (s.inc f).key = s.key := rfl
@[simp] theorem State.inc_gnb (s : State) (f : Fld) : (s.inc f).gnb = s.gnb := rfl
@[simp] theorem State.inc_hd (s : State) (f : Fld) : (s.inc f).hd = s.hd := rfl
@[simp] theorem State.inc_led (s : State) (f : Fld) : (s.inc f).led = s.led := rfl
@[simp] theorem State.inc_boot (s : State) (f : Fld) : (s.inc f).boot = s.boot := rfl
@[simp] theorem State.inc_ser (s : State) (f : Fld) : (s.inc f).ser = s.ser := rfl
@[simp] theorem State.inc_mov (s : State) (f : Fld) : (s.inc f).mov = s.mov := rfl
@[simp] theorem State.inc_flash (s : State) (f : Fld) : (s.inc f).flash = s.flash := rfl
@[simp] theorem State.inc_free (s : State) (f : Fld) : (s.inc f).free = s.free := rfl
@[simp] theorem State.inc_pending (s : State) (f : Fld) : (s.inc f).pending = s.pending := rfl

/-! ### `completed` -/

@[simp] theorem State.completed_regs (s : State)  : (s.completed).regs = s.regs := rfl
@[simp] theorem State.completed_mem (s : State)  : (s.completed).mem = s.mem := rfl
@[simp] theorem State.completed_chk (s : State)  : (s.completed).chk = s.chk := rfl
@[simp] theorem State.completed_clk (s : State)  : (s.completed).clk = s.clk := rfl
@[simp] theorem State.completed_trv (s : State)  : (s.completed).trv = s.trv := rfl
@[simp] theorem State.completed_ms (s : State)  : (s.completed).ms = s.ms := rfl
@[simp] theorem State.completed_queues (s : State)  : (s.completed).queues = s.queues := rfl
@[simp] theorem State.completed_asms (s : State)  : (s.completed).asms = s.asms := rfl
@[simp] theorem State.completed_spent (s : State)  : (s.completed).spent = s.spent := rfl
@[simp] theorem State.completed_plan (s : State)  : (s.completed).plan = s.plan := rfl
@[simp] theorem State.completed_valves (s : State)  : (s.completed).valves = s.valves := rfl
@[simp] theorem State.completed_groups (s : State)  : (s.completed).groups = s.groups := rfl
@[simp] theorem State.completed_flt (s : State)  : (s.completed).flt = s.flt := rfl
@[simp] theorem State.completed_mode (s : State)  : (s.completed).mode = s.mode := rfl
@[simp] theorem State.completed_ctl (s : State)  : (s.completed).ctl = s.ctl := rfl
@[simp] theorem State.completed_lnk (s : State)  : (s.completed).lnk = s.lnk := rfl
@[simp] theorem State.completed_key (s : State)  : (s.completed).key = s.key := rfl
@[simp] theorem State.completed_gnb (s : State)  : (s.completed).gnb = s.gnb := rfl
@[simp] theorem State.completed_hd (s : State)  : (s.completed).hd = s.hd := rfl
@[simp] theorem State.completed_led (s : State)  : (s.completed).led = s.led := rfl
@[simp] theorem State.completed_boot (s : State)  : (s.completed).boot = s.boot := rfl
@[simp] theorem State.completed_ser (s : State)  : (s.completed).ser = s.ser := rfl
@[simp] theorem State.completed_mov (s : State)  : (s.completed).mov = s.mov := rfl
@[simp] theorem State.completed_flash (s : State)  : (s.completed).flash = s.flash := rfl
@[simp] theorem State.completed_free (s : State)  : (s.completed).free = s.free := rfl
@[simp] theorem State.completed_pending (s : State)  : (s.completed).pending = s.pending := rfl
@[simp] theorem State.completed_reg (s : State)  (i : Nat) : (s.completed).reg i = s.reg i := rfl
@[simp] theorem State.completed_fld (s : State)  (h : Fld) : (s.completed).fld h = s.fld h := rfl
@[simp] theorem State.completed_fldI (s : State)  (h : Fld) : (s.completed).fldI h = s.fldI h := rfl
@[simp] theorem State.completed_flag (s : State)  (h : Fld) : (s.completed).flag h = s.flag h := rfl

/-! ### `mark` -/

@[simp] theorem State.mark_regs (s : State) (f : Fld) : (s.mark f).regs = s.regs := rfl
@[simp] theorem State.mark_mem (s : State) (f : Fld) : (s.mark f).mem = s.mem := rfl
@[simp] theorem State.mark_chk (s : State) (f : Fld) : (s.mark f).chk = s.chk := rfl
@[simp] theorem State.mark_clk (s : State) (f : Fld) : (s.mark f).clk = s.clk := rfl
@[simp] theorem State.mark_trv (s : State) (f : Fld) : (s.mark f).trv = s.trv := rfl
@[simp] theorem State.mark_ms (s : State) (f : Fld) : (s.mark f).ms = s.ms := rfl
@[simp] theorem State.mark_queues (s : State) (f : Fld) : (s.mark f).queues = s.queues := rfl
@[simp] theorem State.mark_asms (s : State) (f : Fld) : (s.mark f).asms = s.asms := rfl
@[simp] theorem State.mark_spent (s : State) (f : Fld) : (s.mark f).spent = s.spent := rfl
@[simp] theorem State.mark_plan (s : State) (f : Fld) : (s.mark f).plan = s.plan := rfl
@[simp] theorem State.mark_valves (s : State) (f : Fld) : (s.mark f).valves = s.valves := rfl
@[simp] theorem State.mark_groups (s : State) (f : Fld) : (s.mark f).groups = s.groups := rfl
@[simp] theorem State.mark_flt (s : State) (f : Fld) : (s.mark f).flt = s.flt := rfl
@[simp] theorem State.mark_mode (s : State) (f : Fld) : (s.mark f).mode = s.mode := rfl
@[simp] theorem State.mark_ctl (s : State) (f : Fld) : (s.mark f).ctl = s.ctl := rfl
@[simp] theorem State.mark_lnk (s : State) (f : Fld) : (s.mark f).lnk = s.lnk := rfl
@[simp] theorem State.mark_key (s : State) (f : Fld) : (s.mark f).key = s.key := rfl
@[simp] theorem State.mark_gnb (s : State) (f : Fld) : (s.mark f).gnb = s.gnb := rfl
@[simp] theorem State.mark_hd (s : State) (f : Fld) : (s.mark f).hd = s.hd := rfl
@[simp] theorem State.mark_led (s : State) (f : Fld) : (s.mark f).led = s.led := rfl
@[simp] theorem State.mark_boot (s : State) (f : Fld) : (s.mark f).boot = s.boot := rfl
@[simp] theorem State.mark_ser (s : State) (f : Fld) : (s.mark f).ser = s.ser := rfl
@[simp] theorem State.mark_mov (s : State) (f : Fld) : (s.mark f).mov = s.mov := rfl
@[simp] theorem State.mark_flash (s : State) (f : Fld) : (s.mark f).flash = s.flash := rfl
@[simp] theorem State.mark_free (s : State) (f : Fld) : (s.mark f).free = s.free := rfl
@[simp] theorem State.mark_pending (s : State) (f : Fld) : (s.mark f).pending = s.pending := rfl
@[simp] theorem State.mark_reg (s : State) (f : Fld) (i : Nat) : (s.mark f).reg i = s.reg i := rfl
@[simp] theorem State.mark_fld (s : State) (f : Fld) (h : Fld) : (s.mark f).fld h = s.fld h := rfl
@[simp] theorem State.mark_fldI (s : State) (f : Fld) (h : Fld) : (s.mark f).fldI h = s.fldI h := rfl
@[simp] theorem State.mark_flag (s : State) (f : Fld) (h : Fld) : (s.mark f).flag h = s.flag h := rfl

/-! ### `raise` -/

@[simp] theorem State.raise_mem (s : State) (f : Fld) : (s.raise f).mem = s.mem := rfl
@[simp] theorem State.raise_chk (s : State) (f : Fld) : (s.raise f).chk = s.chk := rfl
@[simp] theorem State.raise_clk (s : State) (f : Fld) : (s.raise f).clk = s.clk := rfl
@[simp] theorem State.raise_trv (s : State) (f : Fld) : (s.raise f).trv = s.trv := rfl
@[simp] theorem State.raise_ms (s : State) (f : Fld) : (s.raise f).ms = s.ms := rfl
@[simp] theorem State.raise_queues (s : State) (f : Fld) : (s.raise f).queues = s.queues := rfl
@[simp] theorem State.raise_asms (s : State) (f : Fld) : (s.raise f).asms = s.asms := rfl
@[simp] theorem State.raise_spent (s : State) (f : Fld) : (s.raise f).spent = s.spent := rfl
@[simp] theorem State.raise_plan (s : State) (f : Fld) : (s.raise f).plan = s.plan := rfl
@[simp] theorem State.raise_valves (s : State) (f : Fld) : (s.raise f).valves = s.valves := rfl
@[simp] theorem State.raise_groups (s : State) (f : Fld) : (s.raise f).groups = s.groups := rfl
@[simp] theorem State.raise_flt (s : State) (f : Fld) : (s.raise f).flt = s.flt := rfl
@[simp] theorem State.raise_mode (s : State) (f : Fld) : (s.raise f).mode = s.mode := rfl
@[simp] theorem State.raise_ctl (s : State) (f : Fld) : (s.raise f).ctl = s.ctl := rfl
@[simp] theorem State.raise_lnk (s : State) (f : Fld) : (s.raise f).lnk = s.lnk := rfl
@[simp] theorem State.raise_key (s : State) (f : Fld) : (s.raise f).key = s.key := rfl
@[simp] theorem State.raise_gnb (s : State) (f : Fld) : (s.raise f).gnb = s.gnb := rfl
@[simp] theorem State.raise_hd (s : State) (f : Fld) : (s.raise f).hd = s.hd := rfl
@[simp] theorem State.raise_led (s : State) (f : Fld) : (s.raise f).led = s.led := rfl
@[simp] theorem State.raise_boot (s : State) (f : Fld) : (s.raise f).boot = s.boot := rfl
@[simp] theorem State.raise_ser (s : State) (f : Fld) : (s.raise f).ser = s.ser := rfl
@[simp] theorem State.raise_mov (s : State) (f : Fld) : (s.raise f).mov = s.mov := rfl
@[simp] theorem State.raise_flash (s : State) (f : Fld) : (s.raise f).flash = s.flash := rfl
@[simp] theorem State.raise_free (s : State) (f : Fld) : (s.raise f).free = s.free := rfl
@[simp] theorem State.raise_pending (s : State) (f : Fld) : (s.raise f).pending = s.pending := rfl

/-! ### `update` -/

@[simp] theorem State.update_mem (s : State) (f : Fld) (v : Nat) : (s.update f v).mem = s.mem := rfl
@[simp] theorem State.update_chk (s : State) (f : Fld) (v : Nat) : (s.update f v).chk = s.chk := rfl
@[simp] theorem State.update_clk (s : State) (f : Fld) (v : Nat) : (s.update f v).clk = s.clk := rfl
@[simp] theorem State.update_trv (s : State) (f : Fld) (v : Nat) : (s.update f v).trv = s.trv := rfl
@[simp] theorem State.update_ms (s : State) (f : Fld) (v : Nat) : (s.update f v).ms = s.ms := rfl
@[simp] theorem State.update_queues (s : State) (f : Fld) (v : Nat) : (s.update f v).queues = s.queues := rfl
@[simp] theorem State.update_asms (s : State) (f : Fld) (v : Nat) : (s.update f v).asms = s.asms := rfl
@[simp] theorem State.update_spent (s : State) (f : Fld) (v : Nat) : (s.update f v).spent = s.spent := rfl
@[simp] theorem State.update_plan (s : State) (f : Fld) (v : Nat) : (s.update f v).plan = s.plan := rfl
@[simp] theorem State.update_valves (s : State) (f : Fld) (v : Nat) : (s.update f v).valves = s.valves := rfl
@[simp] theorem State.update_groups (s : State) (f : Fld) (v : Nat) : (s.update f v).groups = s.groups := rfl
@[simp] theorem State.update_flt (s : State) (f : Fld) (v : Nat) : (s.update f v).flt = s.flt := rfl
@[simp] theorem State.update_mode (s : State) (f : Fld) (v : Nat) : (s.update f v).mode = s.mode := rfl
@[simp] theorem State.update_ctl (s : State) (f : Fld) (v : Nat) : (s.update f v).ctl = s.ctl := rfl
@[simp] theorem State.update_lnk (s : State) (f : Fld) (v : Nat) : (s.update f v).lnk = s.lnk := rfl
@[simp] theorem State.update_key (s : State) (f : Fld) (v : Nat) : (s.update f v).key = s.key := rfl
@[simp] theorem State.update_gnb (s : State) (f : Fld) (v : Nat) : (s.update f v).gnb = s.gnb := rfl
@[simp] theorem State.update_hd (s : State) (f : Fld) (v : Nat) : (s.update f v).hd = s.hd := rfl
@[simp] theorem State.update_led (s : State) (f : Fld) (v : Nat) : (s.update f v).led = s.led := rfl
@[simp] theorem State.update_boot (s : State) (f : Fld) (v : Nat) : (s.update f v).boot = s.boot := rfl
@[simp] theorem State.update_ser (s : State) (f : Fld) (v : Nat) : (s.update f v).ser = s.ser := rfl
@[simp] theorem State.update_mov (s : State) (f : Fld) (v : Nat) : (s.update f v).mov = s.mov := rfl
@[simp] theorem State.update_flash (s : State) (f : Fld) (v : Nat) : (s.update f v).flash = s.flash := rfl
@[simp] theorem State.update_free (s : State) (f : Fld) (v : Nat) : (s.update f v).free = s.free := rfl
@[simp] theorem State.update_pending (s : State) (f : Fld) (v : Nat) : (s.update f v).pending = s.pending := rfl

/-! ### `setMemByte` -/

@[simp] theorem State.setMemByte_regs (s : State) (a : Nat) (b : Byte) : (s.setMemByte a b).regs = s.regs := rfl
@[simp] theorem State.setMemByte_chk (s : State) (a : Nat) (b : Byte) : (s.setMemByte a b).chk = s.chk := rfl
@[simp] theorem State.setMemByte_core (s : State) (a : Nat) (b : Byte) : (s.setMemByte a b).core = s.core := rfl
@[simp] theorem State.setMemByte_clk (s : State) (a : Nat) (b : Byte) : (s.setMemByte a b).clk = s.clk := rfl
@[simp] theorem State.setMemByte_trv (s : State) (a : Nat) (b : Byte) : (s.setMemByte a b).trv = s.trv := rfl
@[simp] theorem State.setMemByte_ms (s : State) (a : Nat) (b : Byte) : (s.setMemByte a b).ms = s.ms := rfl
@[simp] theorem State.setMemByte_queues (s : State) (a : Nat) (b : Byte) : (s.setMemByte a b).queues = s.queues := rfl
@[simp] theorem State.setMemByte_asms (s : State) (a : Nat) (b : Byte) : (s.setMemByte a b).asms = s.asms := rfl
@[simp] theorem State.setMemByte_spent (s : State) (a : Nat) (b : Byte) : (s.setMemByte a b).spent = s.spent := rfl
@[simp] theorem State.setMemByte_plan (s : State) (a : Nat) (b : Byte) : (s.setMemByte a b).plan = s.plan := rfl
@[simp] theorem State.setMemByte_valves (s : State) (a : Nat) (b : Byte) : (s.setMemByte a b).valves = s.valves := rfl
@[simp] theorem State.setMemByte_groups (s : State) (a : Nat) (b : Byte) : (s.setMemByte a b).groups = s.groups := rfl
@[simp] theorem State.setMemByte_flt (s : State) (a : Nat) (b : Byte) : (s.setMemByte a b).flt = s.flt := rfl
@[simp] theorem State.setMemByte_mode (s : State) (a : Nat) (b : Byte) : (s.setMemByte a b).mode = s.mode := rfl
@[simp] theorem State.setMemByte_ctl (s : State) (a : Nat) (b : Byte) : (s.setMemByte a b).ctl = s.ctl := rfl
@[simp] theorem State.setMemByte_lnk (s : State) (a : Nat) (b : Byte) : (s.setMemByte a b).lnk = s.lnk := rfl
@[simp] theorem State.setMemByte_key (s : State) (a : Nat) (b : Byte) : (s.setMemByte a b).key = s.key := rfl
@[simp] theorem State.setMemByte_gnb (s : State) (a : Nat) (b : Byte) : (s.setMemByte a b).gnb = s.gnb := rfl
@[simp] theorem State.setMemByte_hd (s : State) (a : Nat) (b : Byte) : (s.setMemByte a b).hd = s.hd := rfl
@[simp] theorem State.setMemByte_led (s : State) (a : Nat) (b : Byte) : (s.setMemByte a b).led = s.led := rfl
@[simp] theorem State.setMemByte_boot (s : State) (a : Nat) (b : Byte) : (s.setMemByte a b).boot = s.boot := rfl
@[simp] theorem State.setMemByte_ser (s : State) (a : Nat) (b : Byte) : (s.setMemByte a b).ser = s.ser := rfl
@[simp] theorem State.setMemByte_mov (s : State) (a : Nat) (b : Byte) : (s.setMemByte a b).mov = s.mov := rfl
@[simp] theorem State.setMemByte_flash (s : State) (a : Nat) (b : Byte) : (s.setMemByte a b).flash = s.flash := rfl
@[simp] theorem State.setMemByte_free (s : State) (a : Nat) (b : Byte) : (s.setMemByte a b).free = s.free := rfl
@[simp] theorem State.setMemByte_pending (s : State) (a : Nat) (b : Byte) : (s.setMemByte a b).pending = s.pending := rfl
@[simp] theorem State.setMemByte_reg (s : State) (a : Nat) (b : Byte) (i : Nat) : (s.setMemByte a b).reg i = s.reg i := rfl
@[simp] theorem State.setMemByte_fld (s : State) (a : Nat) (b : Byte) (h : Fld) : (s.setMemByte a b).fld h = s.fld h := rfl
@[simp] theorem State.setMemByte_fldI (s : State) (a : Nat) (b : Byte) (h : Fld) : (s.setMemByte a b).fldI h = s.fldI h := rfl
@[simp] theorem State.setMemByte_flag (s : State) (a : Nat) (b : Byte) (h : Fld) : (s.setMemByte a b).flag h = s.flag h := rfl

/-! ### `setChk` -/

@[simp] theorem State.setChk_regs (s : State) (a c : Nat) : (s.setChk a c).regs = s.regs := rfl
@[simp] theorem State.setChk_mem (s : State) (a c : Nat) : (s.setChk a c).mem = s.mem := rfl
@[simp] theorem State.setChk_core (s : State) (a c : Nat) : (s.setChk a c).core = s.core := rfl
@[simp] theorem State.setChk_clk (s : State) (a c : Nat) : (s.setChk a c).clk = s.clk := rfl
@[simp] theorem State.setChk_trv (s : State) (a c : Nat) : (s.setChk a c).trv = s.trv := rfl
@[simp] theorem State.setChk_ms (s : State) (a c : Nat) : (s.setChk a c).ms = s.ms := rfl
@[simp] theorem State.setChk_queues (s : State) (a c : Nat) : (s.setChk a c).queues = s.queues := rfl
@[simp] theorem State.setChk_asms (s : State) (a c : Nat) : (s.setChk a c).asms = s.asms := rfl
@[simp] theorem State.setChk_spent (s : State) (a c : Nat) : (s.setChk a c).spent = s.spent := rfl
@[simp] theorem State.setChk_plan (s : State) (a c : Nat) : (s.setChk a c).plan = s.plan := rfl
@[simp] theorem State.setChk_valves (s : State) (a c : Nat) : (s.setChk a c).valves = s.valves := rfl
@[simp] theorem State.setChk_groups (s : State) (a c : Nat) : (s.setChk a c).groups = s.groups := rfl
@[simp] theorem State.setChk_flt (s : State) (a c : Nat) : (s.setChk a c).flt = s.flt := rfl
@[simp] theorem State.setChk_mode (s : State) (a c : Nat) : (s.setChk a c).mode = s.mode := rfl
@[simp] theorem State.setChk_ctl (s : State) (a c : Nat) : (s.setChk a c).ctl = s.ctl := rfl
@[simp] theorem State.setChk_lnk (s : State) (a c : Nat) : (s.setChk a c).lnk = s.lnk := rfl
@[simp] theorem State.setChk_key (s : State) (a c : Nat) : (s.setChk a c).key = s.key := rfl
@[simp] theorem State.setChk_gnb (s : State) (a c : Nat) : (s.setChk a c).gnb = s.gnb := rfl
@[simp] theorem State.setChk_hd (s : State) (a c : Nat) : (s.setChk a c).hd = s.hd := rfl
@[simp] theorem State.setChk_led (s : State) (a c : Nat) : (s.setChk a c).led = s.led := rfl
@[simp] theorem State.setChk_boot (s : State) (a c : Nat) : (s.setChk a c).boot = s.boot := rfl
@[simp] theorem State.setChk_ser (s : State) (a c : Nat) : (s.setChk a c).ser = s.ser := rfl
@[simp] theorem State.setChk_mov (s : State) (a c : Nat) : (s.setChk a c).mov = s.mov := rfl
@[simp] theorem State.setChk_flash (s : State) (a c : Nat) : (s.setChk a c).flash = s.flash := rfl
@[simp] theorem State.setChk_free (s : State) (a c : Nat) : (s.setChk a c).free = s.free := rfl
@[simp] theorem State.setChk_pending (s : State) (a c : Nat) : (s.setChk a c).pending = s.pending := rfl
@[simp] theorem State.setChk_reg (s : State) (a c : Nat) (i : Nat) : (s.setChk a c).reg i = s.reg i := rfl
@[simp] theorem State.setChk_fld (s : State) (a c : Nat) (h : Fld) : (s.setChk a c).fld h = s.fld h := rfl
@[simp] theorem State.setChk_fldI (s : State) (a c : Nat) (h : Fld) : (s.setChk a c).fldI h = s.fldI h := rfl
@[simp] theorem State.setChk_flag (s : State) (a c : Nat) (h : Fld) : (s.setChk a c).flag h = s.flag h := rfl

/-! ### `setEnc` -/

@[simp] theorem State.setEnc_regs (s : State) (n : Nat) (e : EncSt) : (s.setEnc n e).regs = s.regs := rfl
@[simp] theorem State.setEnc_mem (s : State) (n : Nat) (e : EncSt) : (s.setEnc n e).mem = s.mem := rfl
@[simp] theorem State.setEnc_chk (s : State) (n : Nat) (e : EncSt) : (s.setEnc n e).chk = s.chk := rfl
@[simp] theorem State.setEnc_core (s : State) (n : Nat) (e : EncSt) : (s.setEnc n e).core = s.core := rfl
@[simp] theorem State.setEnc_clk (s : State) (n : Nat) (e : EncSt) : (s.setEnc n e).clk = s.clk := rfl
@[simp] theorem State.setEnc_ms (s : State) (n : Nat) (e : EncSt) : (s.setEnc n e).ms = s.ms := rfl
@[simp] theorem State.setEnc_queues (s : State) (n : Nat) (e : EncSt) : (s.setEnc n e).queues = s.queues := rfl
@[simp] theorem State.setEnc_asms (s : State) (n : Nat) (e : EncSt) : (s.setEnc n e).asms = s.asms := rfl
@[simp] theorem State.setEnc_spent (s : State) (n : Nat) (e : EncSt) : (s.setEnc n e).spent = s.spent := rfl
@[simp] theorem State.setEnc_plan (s : State) (n : Nat) (e : EncSt) : (s.setEnc n e).plan = s.plan := rfl
@[simp] theorem State.setEnc_valves (s : State) (n : Nat) (e : EncSt) : (s.setEnc n e).valves = s.valves := rfl
@[simp] theorem State.setEnc_groups (s : State) (n : Nat) (e : EncSt) : (s.setEnc n e).groups = s.groups := rfl
@[simp] theorem State.setEnc_flt (s : State) (n : Nat) (e : EncSt) : (s.setEnc n e).flt = s.flt := rfl
@[simp] theorem State.setEnc_mode (s : State) (n : Nat) (e : EncSt) : (s.setEnc n e).mode = s.mode := rfl
@[simp] theorem State.setEnc_ctl (s : State) (n : Nat) (e : EncSt) : (s.setEnc n e).ctl = s.ctl := rfl
@[simp] theorem State.setEnc_lnk (s : State) (n : Nat) (e : EncSt) : (s.setEnc n e).lnk = s.lnk := rfl
@[simp] theorem State.setEnc_key (s : State) (n : Nat) (e : EncSt) : (s.setEnc n e).key = s.key := rfl
@[simp] theorem State.setEnc_gnb (s : State) (n : Nat) (e : EncSt) : (s.setEnc n e).gnb = s.gnb := rfl
@[simp] theorem State.setEnc_hd (s : State) (n : Nat) (e : EncSt) : (s.setEnc n e).hd = s.hd := rfl
@[simp] theorem State.setEnc_led (s : State) (n : Nat) (e : EncSt) : (s.setEnc n e).led = s.led := rfl
@[simp] theorem State.setEnc_boot (s : State) (n : Nat) (e : EncSt) : (s.setEnc n e).boot = s.boot := rfl
@[simp] theorem State.setEnc_ser (s : State) (n : Nat) (e : EncSt) : (s.setEnc n e).ser = s.ser := rfl
@[simp] theorem State.setEnc_mov (s : State) (n : Nat) (e : EncSt) : (s.setEnc n e).mov = s.mov := rfl
@[simp] theorem State.setEnc_flash (s : State) (n : Nat) (e : EncSt) : (s.setEnc n e).flash = s.flash := rfl
@[simp] theorem State.setEnc_free (s : State) (n : Nat) (e : EncSt) : (s.setEnc n e).free = s.free := rfl
@[simp] theorem State.setEnc_pending (s : State) (n : Nat) (e : EncSt) : (s.setEnc n e).pending = s.pending := rfl
@[simp] theorem State.setEnc_reg (s : State) (n : Nat) (e : EncSt) (i : Nat) : (s.setEnc n e).reg i = s.reg i := rfl
@[simp] theorem State.setEnc_fld (s : State) (n : Nat) (e : EncSt) (h : Fld) : (s.setEnc n e).fld h = s.fld h := rfl
@[simp] theorem State.setEnc_fldI (s : State) (n : Nat) (e : EncSt) (h : Fld) : (s.setEnc n e).fldI h = s.fldI h := rfl
@[simp] theorem State.setEnc_flag (s : State) (n : Nat) (e : EncSt) (h : Fld) : (s.setEnc n e).flag h = s.flag h := rfl

/-! ### `setSs` -/

@[simp] theorem State.setSs_regs (s : State) (n : Nat) (e : SsSt) : (s.setSs n e).regs = s.regs := rfl
@[simp] theorem State.setSs_mem (s : State) (n : Nat) (e : SsSt) : (s.setSs n e).mem = s.mem := rfl
@[simp] theorem State.setSs_chk (s : State) (n : Nat) (e : SsSt) : (s.setSs n e).chk = s.chk := rfl
@[simp] theorem State.setSs_core (s : State) (n : Nat) (e : SsSt) : (s.setSs n e).core = s.core := rfl
@[simp] theorem State.setSs_clk (s : State) (n : Nat) (e : SsSt) : (s.setSs n e).clk = s.clk := rfl
@[simp] theorem State.setSs_ms (s : State) (n : Nat) (e : SsSt) : (s.setSs n e).ms = s.ms := rfl
@[simp] theorem State.setSs_queues (s : State) (n : Nat) (e : SsSt) : (s.setSs n e).queues = s.queues := rfl
@[simp] theorem State.setSs_asms (s : State) (n : Nat) (e : SsSt) : (s.setSs n e).asms = s.asms := rfl
@[simp] theorem State.setSs_spent (s : State) (n : Nat) (e : SsSt) : (s.setSs n e).spent = s.spent := rfl
@[simp] theorem State.setSs_plan (s : State) (n : Nat) (e : SsSt) : (s.setSs n e).plan = s.plan := rfl
@[simp] theorem State.setSs_valves (s : State) (n : Nat) (e : SsSt) : (s.setSs n e).valves = s.valves := rfl
@[simp] theorem State.setSs_groups (s : State) (n : Nat) (e : SsSt) : (s.setSs n e).groups = s.groups := rfl
@[simp] theorem State.setSs_flt (s : State) (n : Nat) (e : SsSt) : (s.setSs n e).flt = s.flt := rfl
@[simp] theorem State.setSs_mode (s : State) (n : Nat) (e : SsSt) : (s.setSs n e).mode = s.mode := rfl
@[simp] theorem State.setSs_ctl (s : State) (n : Nat) (e : SsSt) : (s.setSs n e).ctl = s.ctl := rfl
@[simp] theorem State.setSs_lnk (s : State) (n : Nat) (e : SsSt) : (s.setSs n e).lnk = s.lnk := rfl
@[simp] theorem State.setSs_key (s : State) (n : Nat) (e : SsSt) : (s.setSs n e).key = s.key := rfl
@[simp] theorem State.setSs_gnb (s : State) (n : Nat) (e : SsSt) : (s.setSs n e).gnb = s.gnb := rfl
@[simp] theorem State.setSs_hd (s : State) (n : Nat) (e : SsSt) : (s.setSs n e).hd = s.hd := rfl
@[simp] theorem State.setSs_led (s : State) (n : Nat) (e : SsSt) : (s.setSs n e).led = s.led := rfl
@[simp] theorem State.setSs_boot (s : State) (n : Nat) (e : SsSt) : (s.setSs n e).boot = s.boot := rfl
@[simp] theorem State.setSs_ser (s : State) (n : Nat) (e : SsSt) : (s.setSs n e).ser = s.ser := rfl
@[simp] theorem State.setSs_mov (s : State) (n : Nat) (e : SsSt) : (s.setSs n e).mov = s.mov := rfl
@[simp] theorem State.setSs_flash (s : State) (n : Nat) (e : SsSt) : (s.setSs n e).flash = s.flash := rfl
@[simp] theorem State.setSs_free (s : State) (n : Nat) (e : SsSt) : (s.setSs n e).free = s.free := rfl
@[simp] theorem State.setSs_pending (s : State) (n : Nat) (e : SsSt) : (s.setSs n e).pending = s.pending := rfl
@[simp] theorem State.setSs_reg (s : State) (n : Nat) (e : SsSt) (i : Nat) : (s.setSs n e).reg i = s.reg i := rfl
@[simp] theorem State.setSs_fld (s : State) (n : Nat) (e : SsSt) (h : Fld) : (s.setSs n e).fld h = s.fld h := rfl
@[simp] theorem State.setSs_fldI (s : State) (n : Nat) (e : SsSt) (h : Fld) : (s.setSs n e).fldI h = s.fldI h := rfl
@[simp] theorem State.setSs_flag (s : State) (n : Nat) (e : SsSt) (h : Fld) : (s.setSs n e).flag h = s.flag h := rfl

/-! ### `setQueue` -/

@[simp] theorem State.setQueue_regs (s : State) (q : Nat) (x : QueueSt) : (s.setQueue q x).regs = s.regs := rfl
@[simp] theorem State.setQueue_mem (s : State) (q : Nat) (x : QueueSt) : (s.setQueue q x).mem = s.mem := rfl
@[simp] theorem State.setQueue_chk (s : State) (q : Nat) (x : QueueSt) : (s.setQueue q x).chk = s.chk := rfl
@[simp] theorem State.setQueue_core (s : State) (q : Nat) (x : QueueSt) : (s.setQueue q x).core = s.core := rfl
@[simp] theorem State.setQueue_clk (s : State) (q : Nat) (x : QueueSt) : (s.setQueue q x).clk = s.clk := rfl
@[simp] theorem State.setQueue_trv (s : State) (q : Nat) (x : QueueSt) : (s.setQueue q x).trv = s.trv := rfl
@[simp] theorem State.setQueue_ms (s : State) (q : Nat) (x : QueueSt) : (s.setQueue q x).ms = s.ms := rfl
@[simp] theorem State.setQueue_asms (s : State) (q : Nat) (x : QueueSt) : (s.setQueue q x).asms = s.asms := rfl
@[simp] theorem State.setQueue_spent (s : State) (q : Nat) (x : QueueSt) : (s.setQueue q x).spent = s.spent := rfl
@[simp] theorem State.setQueue_plan (s : State) (q : Nat) (x : QueueSt) : (s.setQueue q x).plan = s.plan := rfl
@[simp] theorem State.setQueue_valves (s : State) (q : Nat) (x : QueueSt) : (s.setQueue q x).valves = s.valves := rfl
@[simp] theorem State.setQueue_groups (s : State) (q : Nat) (x : QueueSt) : (s.setQueue q x).groups = s.groups := rfl
@[simp] theorem State.setQueue_flt (s : State) (q : Nat) (x : QueueSt) : (s.setQueue q x).flt = s.flt := rfl
@[simp] theorem State.setQueue_mode (s : State) (q : Nat) (x : QueueSt) : (s.setQueue q x).mode = s.mode := rfl
@[simp] theorem State.setQueue_ctl (s : State) (q : Nat) (x : QueueSt) : (s.setQueue q x).ctl = s.ctl := rfl
@[simp] theorem State.setQueue_lnk (s : State) (q : Nat) (x : QueueSt) : (s.setQueue q x).lnk = s.lnk := rfl
@[simp] theorem State.setQueue_key (s : State) (q : Nat) (x : QueueSt) : (s.setQueue q x).key = s.key := rfl
@[simp] theorem State.setQueue_gnb (s : State) (q : Nat) (x : QueueSt) : (s.setQueue q x).gnb = s.gnb := rfl
@[simp] theorem State.setQueue_hd (s : State) (q : Nat) (x : QueueSt) : (s.setQueue q x).hd = s.hd := rfl
@[simp] theorem State.setQueue_led (s : State) (q : Nat) (x : QueueSt) : (s.setQueue q x).led = s.led := rfl
@[simp] theorem State.setQueue_boot (s : State) (q : Nat) (x : QueueSt) : (s.setQueue q x).boot = s.boot := rfl
@[simp] theorem State.setQueue_ser (s : State) (q : Nat) (x : QueueSt) : (s.setQueue q x).ser = s.ser := rfl
@[simp] theorem State.setQueue_mov (s : State) (q : Nat) (x : QueueSt) : (s.setQueue q x).mov = s.mov := rfl
@[simp] theorem State.setQueue_flash (s : State) (q : Nat) (x : QueueSt) : (s.setQueue q x).flash = s.flash := rfl
@[simp] theorem State.setQueue_free (s : State) (q : Nat) (x : QueueSt) : (s.setQueue q x).free = s.free := rfl
@[simp] theorem State.setQueue_pending (s : State) (q : Nat) (x : QueueSt) : (s.setQueue q x).pending = s.pending := rfl
@[simp] theorem State.setQueue_reg (s : State) (q : Nat) (x : QueueSt) (i : Nat) : (s.setQueue q x).reg i = s.reg i := rfl
@[simp] theorem State.setQueue_fld (s : State) (q : Nat) (x : QueueSt) (h : Fld) : (s.setQueue q x).fld h = s.fld h := rfl
@[simp] theorem State.setQueue_fldI (s : State) (q : Nat) (x : QueueSt) (h : Fld) : (s.setQueue q x).fldI h = s.fldI h := rfl
@[simp] theorem State.setQueue_flag (s : State) (q : Nat) (x : QueueSt) (h : Fld) : (s.setQueue q x).flag h = s.flag h := rfl

/-! ### `setAsm` -/

@[simp] theorem State.setAsm_regs (s : State) (p : Nat) (x : Asm) : (s.setAsm p x).regs = s.regs := rfl
@[simp] theorem State.setAsm_mem (s : State) (p : Nat) (x : Asm) : (s.setAsm p x).mem = s.mem := rfl
@[simp] theorem State.setAsm_chk (s : State) (p : Nat) (x : Asm) : (s.setAsm p x).chk = s.chk := rfl
@[simp] theorem State.setAsm_core (s : State) (p : Nat) (x : Asm) : (s.setAsm p x).core = s.core := rfl
@[simp] theorem State.setAsm_clk (s : State) (p : Nat) (x : Asm) : (s.setAsm p x).clk = s.clk := rfl
@[simp] theorem State.setAsm_trv (s : State) (p : Nat) (x : Asm) : (s.setAsm p x).trv = s.trv := rfl
@[simp] theorem State.setAsm_ms (s : State) (p : Nat) (x : Asm) : (s.setAsm p x).ms = s.ms := rfl
@[simp] theorem State.setAsm_queues (s : State) (p : Nat) (x : Asm) : (s.setAsm p x).queues = s.queues := rfl
@[simp] theorem State.setAsm_spent (s : State) (p : Nat) (x : Asm) : (s.setAsm p x).spent = s.spent := rfl
@[simp] theorem State.setAsm_plan (s : State) (p : Nat) (x : Asm) : (s.setAsm p x).plan = s.plan := rfl
@[simp] theorem State.setAsm_valves (s : State) (p : Nat) (x : Asm) : (s.setAsm p x).valves = s.valves := rfl
@[simp] theorem State.setAsm_groups (s : State) (p : Nat) (x : Asm) : (s.setAsm p x).groups = s.groups := rfl
@[simp] theorem State.setAsm_flt (s : State) (p : Nat) (x : Asm) : (s.setAsm p x).flt = s.flt := rfl
@[simp] theorem State.setAsm_mode (s : State) (p : Nat) (x : Asm) : (s.setAsm p x).mode = s.mode := rfl
@[simp] theorem State.setAsm_ctl (s : State) (p : Nat) (x : Asm) : (s.setAsm p x).ctl = s.ctl := rfl
@[simp] theorem State.setAsm_lnk (s : State) (p : Nat) (x : Asm) : (s.setAsm p x).lnk = s.lnk := rfl
@[simp] theorem State.setAsm_key (s : State) (p : Nat) (x : Asm) : (s.setAsm p x).key = s.key := rfl
@[simp] theorem State.setAsm_gnb (s : State) (p : Nat) (x : Asm) : (s.setAsm p x).gnb = s.gnb := rfl
@[simp] theorem State.setAsm_hd (s : State) (p : Nat) (x : Asm) : (s.setAsm p x).hd = s.hd := rfl
@[simp] theorem State.setAsm_led (s : State) (p : Nat) (x : Asm) : (s.setAsm p x).led = s.led := rfl
@[simp] theorem State.setAsm_boot (s : State) (p : Nat) (x : Asm) : (s.setAsm p x).boot = s.boot := rfl
@[simp] theorem State.setAsm_ser (s : State) (p : Nat) (x : Asm) : (s.setAsm p x).ser = s.ser := rfl
@[simp] theorem State.setAsm_mov (s : State) (p : Nat) (x : Asm) : (s.setAsm p x).mov = s.mov := rfl
@[simp] theorem State.setAsm_flash (s : State) (p : Nat) (x : Asm) : (s.setAsm p x).flash = s.flash := rfl
@[simp] theorem State.setAsm_free (s : State) (p : Nat) (x : Asm) : (s.setAsm p x).free = s.free := rfl
@[simp] theorem State.setAsm_pending (s : State) (p : Nat) (x : Asm) : (s.setAsm p x).pending = s.pending := rfl
@[simp] theorem State.setAsm_reg (s : State) (p : Nat) (x : Asm) (i : Nat) : (s.setAsm p x).reg i = s.reg i := rfl
@[simp] theorem State.setAsm_fld (s : State) (p : Nat) (x : Asm) (h : Fld) : (s.setAsm p x).fld h = s.fld h := rfl
@[simp] theorem State.setAsm_fldI (s : State) (p : Nat) (x : Asm) (h : Fld) : (s.setAsm p x).fldI h = s.fldI h := rfl
@[simp] theorem State.setAsm_flag (s : State) (p : Nat) (x : Asm) (h : Fld) : (s.setAsm p x).flag h = s.flag h := rfl

/-! ### `setValve` -/

@[simp] theorem State.setValve_regs (s : State) (n : Nat) (x : ValveSt) : (s.setValve n x).regs = s.regs := rfl
@[simp] theorem State.setValve_mem (s : State) (n : Nat) (x : ValveSt) : (s.setValve n x).mem = s.mem := rfl
@[simp] theorem State.setValve_chk (s : State) (n : Nat) (x : ValveSt) : (s.setValve n x).chk = s.chk := rfl
@[simp] theorem State.setValve_core (s : State) (n : Nat) (x : ValveSt) : (s.setValve n x).core = s.core := rfl
@[simp] theorem State.setValve_clk (s : State) (n : Nat) (x : ValveSt) : (s.setValve n x).clk = s.clk := rfl
@[simp] theorem State.setValve_trv (s : State) (n : Nat) (x : ValveSt) : (s.setValve n x).trv = s.trv := rfl
@[simp] theorem State.setValve_ms (s : State) (n : Nat) (x : ValveSt) : (s.setValve n x).ms = s.ms := rfl
@[simp] theorem State.setValve_queues (s : State) (n : Nat) (x : ValveSt) : (s.setValve n x).queues = s.queues := rfl
@[simp] theorem State.setValve_asms (s : State) (n : Nat) (x : ValveSt) : (s.setValve n x).asms = s.asms := rfl
@[simp] theorem State.setValve_spent (s : State) (n : Nat) (x : ValveSt) : (s.setValve n x).spent = s.spent := rfl
@[simp] theorem State.setValve_plan (s : State) (n : Nat) (x : ValveSt) : (s.setValve n x).plan = s.plan := rfl
@[simp] theorem State.setValve_groups (s : State) (n : Nat) (x : ValveSt) : (s.setValve n x).groups = s.groups := rfl
@[simp] theorem State.setValve_flt (s : State) (n : Nat) (x : ValveSt) : (s.setValve n x).flt = s.flt := rfl
@[simp] theorem State.setValve_mode (s : State) (n : Nat) (x : ValveSt) : (s.setValve n x).mode = s.mode := rfl
@[simp] theorem State.setValve_ctl (s : State) (n : Nat) (x : ValveSt) : (s.setValve n x).ctl = s.ctl := rfl
@[simp] theorem State.setValve_lnk (s : State) (n : Nat) (x : ValveSt) : (s.setValve n x).lnk = s.lnk := rfl
@[simp] theorem State.setValve_key (s : State) (n : Nat) (x : ValveSt) : (s.setValve n x).key = s.key := rfl
@[simp] theorem State.setValve_gnb (s : State) (n : Nat) (x : ValveSt) : (s.setValve n x).gnb = s.gnb := rfl
@[simp] theorem State.setValve_hd (s : State) (n : Nat) (x : ValveSt) : (s.setValve n x).hd = s.hd := rfl
@[simp] theorem State.setValve_led (s : State) (n : Nat) (x : ValveSt) : (s.setValve n x).led = s.led := rfl
@[simp] theorem State.setValve_boot (s : State) (n : Nat) (x : ValveSt) : (s.setValve n x).boot = s.boot := rfl
@[simp] theorem State.setValve_ser (s : State) (n : Nat) (x : ValveSt) : (s.setValve n x).ser = s.ser := rfl
@[simp] theorem State.setValve_mov (s : State) (n : Nat) (x : ValveSt) : (s.setValve n x).mov = s.mov := rfl
@[simp] theorem State.setValve_flash (s : State) (n : Nat) (x : ValveSt) : (s.setValve n x).flash = s.flash := rfl
@[simp] theorem State.setValve_free (s : State) (n : Nat) (x : ValveSt) : (s.setValve n x).free = s.free := rfl
@[simp] theorem State.setValve_pending (s : State) (n : Nat) (x : ValveSt) : (s.setValve n x).pending = s.pending := rfl
@[simp] theorem State.setValve_reg (s : State) (n : Nat) (x : ValveSt) (i : Nat) : (s.setValve n x).reg i = s.reg i := rfl
@[simp] theorem State.setValve_fld (s : State) (n : Nat) (x : ValveSt) (h : Fld) : (s.setValve n x).fld h = s.fld h := rfl
@[simp] theorem State.setValve_fldI (s : State) (n : Nat) (x : ValveSt) (h : Fld) : (s.setValve n x).fldI h = s.fldI h := rfl
@[simp] theorem State.setValve_flag (s : State) (n : Nat) (x : ValveSt) (h : Fld) : (s.setValve n x).flag h = s.flag h := rfl

/-! ### `modValve` -/

@[simp] theorem State.modValve_regs (s : State) (n : Nat) (g : ValveSt → ValveSt) : (s.modValve n g).regs = s.regs := rfl
@[simp] theorem State.modValve_mem (s : State) (n : Nat) (g : ValveSt → ValveSt) : (s.modValve n g).mem = s.mem := rfl
@[simp] theorem State.modValve_chk (s : State) (n : Nat) (g : ValveSt → ValveSt) : (s.modValve n g).chk = s.chk := rfl
@[simp] theorem State.modValve_core (s : State) (n : Nat) (g : ValveSt → ValveSt) : (s.modValve n g).core = s.core := rfl
@[simp] theorem State.modValve_clk (s : State) (n : Nat) (g : ValveSt → ValveSt) : (s.modValve n g).clk = s.clk := rfl
@[simp] theorem State.modValve_trv (s : State) (n : Nat) (g : ValveSt → ValveSt) : (s.modValve n g).trv = s.trv := rfl
@[simp] theorem State.modValve_ms (s : State) (n : Nat) (g : ValveSt → ValveSt) : (s.modValve n g).ms = s.ms := rfl
@[simp] theorem State.modValve_queues (s : State) (n : Nat) (g : ValveSt → ValveSt) : (s.modValve n g).queues = s.queues := rfl
@[simp] theorem State.modValve_asms (s : State) (n : Nat) (g : ValveSt → ValveSt) : (s.modValve n g).asms = s.asms := rfl
@[simp] theorem State.modValve_spent (s : State) (n : Nat) (g : ValveSt → ValveSt) : (s.modValve n g).spent = s.spent := rfl
@[simp] theorem State.modValve_plan (s : State) (n : Nat) (g : ValveSt → ValveSt) : (s.modValve n g).plan = s.plan := rfl
@[simp] theorem State.modValve_groups (s : State) (n : Nat) (g : ValveSt → ValveSt) : (s.modValve n g).groups = s.groups := rfl
@[simp] theorem State.modValve_flt (s : State) (n : Nat) (g : ValveSt → ValveSt) : (s.modValve n g).flt = s.flt := rfl
@[simp] theorem State.modValve_mode (s : State) (n : Nat) (g : ValveSt → ValveSt) : (s.modValve n g).mode = s.mode := rfl
@[simp] theorem State.modValve_ctl (s : State) (n : Nat) (g : ValveSt → ValveSt) : (s.modValve n g).ctl = s.ctl := rfl
@[simp] theorem State.modValve_lnk (s : State) (n : Nat) (g : ValveSt → ValveSt) : (s.modValve n g).lnk = s.lnk := rfl
@[simp] theorem State.modValve_key (s : State) (n : Nat) (g : ValveSt → ValveSt) : (s.modValve n g).key = s.key := rfl
@[simp] theorem State.modValve_gnb (s : State) (n : Nat) (g : ValveSt → ValveSt) : (s.modValve n g).gnb = s.gnb := rfl
@[simp] theorem State.modValve_hd (s : State) (n : Nat) (g : ValveSt → ValveSt) : (s.modValve n g).hd = s.hd := rfl
@[simp] theorem State.modValve_led (s : State) (n : Nat) (g : ValveSt → ValveSt) : (s.modValve n g).led = s.led := rfl
@[simp] theorem State.modValve_boot (s : State) (n : Nat) (g : ValveSt → ValveSt) : (s.modValve n g).boot = s.boot := rfl
@[simp] theorem State.modValve_ser (s : State) (n : Nat) (g : ValveSt → ValveSt) : (s.modValve n g).ser = s.ser := rfl
@[simp] theorem State.modValve_mov (s : State) (n : Nat) (g : ValveSt → ValveSt) : (s.modValve n g).mov = s.mov := rfl
@[simp] theorem State.modValve_flash (s : State) (n : Nat) (g : ValveSt → ValveSt) : (s.modValve n g).flash = s.flash := rfl
@[simp] theorem State.modValve_free (s : State) (n : Nat) (g : ValveSt → ValveSt) : (s.modValve n g).free = s.free := rfl
@[simp] theorem State.modValve_pending (s : State) (n : Nat) (g : ValveSt → ValveSt) : (s.modValve n g).pending = s.pending := rfl
@[simp] theorem State.modValve_reg (s : State) (n : Nat) (g : ValveSt → ValveSt) (i : Nat) : (s.modValve n g).reg i = s.reg i := rfl
@[simp] theorem State.modValve_fld (s : State) (n : Nat) (g : ValveSt → ValveSt) (h : Fld) : (s.modValve n g).fld h = s.fld h := rfl
@[simp] theorem State.modValve_fldI (s : State) (n : Nat) (g : ValveSt → ValveSt) (h : Fld) : (s.modValve n g).fldI h = s.fldI h := rfl
@[simp] theorem State.modValve_flag (s : State) (n : Nat) (g : ValveSt → ValveSt) (h : Fld) : (s.modValve n g).flag h = s.flag h := rfl

/-! ### `setGroup` -/

@[simp] theorem State.setGroup_regs (s : State) (g : Nat) (x : GroupSt) : (s.setGroup g x).regs = s.regs := rfl
@[simp] theorem State.setGroup_mem (s : State) (g : Nat) (x : GroupSt) : (s.setGroup g x).mem = s.mem := rfl
@[simp] theorem State.setGroup_chk (s : State) (g : Nat) (x : GroupSt) : (s.setGroup g x).chk = s.chk := rfl
@[simp] theorem State.setGroup_core (s : State) (g : Nat) (x : GroupSt) : (s.setGroup g x).core = s.core := rfl
@[simp] theorem State.setGroup_clk (s : State) (g : Nat) (x : GroupSt) : (s.setGroup g x).clk = s.clk := rfl
@[simp] theorem State.setGroup_trv (s : State) (g : Nat) (x : GroupSt) : (s.setGroup g x).trv = s.trv := rfl
@[simp] theorem State.setGroup_ms (s : State) (g : Nat) (x : GroupSt) : (s.setGroup g x).ms = s.ms := rfl
@[simp] theorem State.setGroup_queues (s : State) (g : Nat) (x : GroupSt) : (s.setGroup g x).queues = s.queues := rfl
@[simp] theorem State.setGroup_asms (s : State) (g : Nat) (x : GroupSt) : (s.setGroup g x).asms = s.asms := rfl
@[simp] theorem State.setGroup_spent (s : State) (g : Nat) (x : GroupSt) : (s.setGroup g x).spent = s.spent := rfl
@[simp] theorem State.setGroup_plan (s : State) (g : Nat) (x : GroupSt) : (s.setGroup g x).plan = s.plan := rfl
@[simp] theorem State.setGroup_valves (s : State) (g : Nat) (x : GroupSt) : (s.setGroup g x).valves = s.valves := rfl
@[simp] theorem State.setGroup_flt (s : State) (g : Nat) (x : GroupSt) : (s.setGroup g x).flt = s.flt := rfl
@[simp] theorem State.setGroup_mode (s : State) (g : Nat) (x : GroupSt) : (s.setGroup g x).mode = s.mode := rfl
@[simp] theorem State.setGroup_ctl (s : State) (g : Nat) (x : GroupSt) : (s.setGroup g x).ctl = s.ctl := rfl
@[simp] theorem State.setGroup_lnk (s : State) (g : Nat) (x : GroupSt) : (s.setGroup g x).lnk = s.lnk := rfl
@[simp] theorem State.setGroup_key (s : State) (g : Nat) (x : GroupSt) : (s.setGroup g x).key = s.key := rfl
@[simp] theorem State.setGroup_gnb (s : State) (g : Nat) (x : GroupSt) : (s.setGroup g x).gnb = s.gnb := rfl
@[simp] theorem State.setGroup_hd (s : State) (g : Nat) (x : GroupSt) : (s.setGroup g x).hd = s.hd := rfl
@[simp] theorem State.setGroup_led (s : State) (g : Nat) (x : GroupSt) : (s.setGroup g x).led = s.led := rfl
@[simp] theorem State.setGroup_boot (s : State) (g : Nat) (x : GroupSt) : (s.setGroup g x).boot = s.boot := rfl
@[simp] theorem State.setGroup_ser (s : State) (g : Nat) (x : GroupSt) : (s.setGroup g x).ser = s.ser := rfl
@[simp] theorem State.setGroup_mov (s : State) (g : Nat) (x : GroupSt) : (s.setGroup g x).mov = s.mov := rfl
@[simp] theorem State.setGroup_flash (s : State) (g : Nat) (x : GroupSt) : (s.setGroup g x).flash = s.flash := rfl
@[simp] theorem State.setGroup_free (s : State) (g : Nat) (x : GroupSt) : (s.setGroup g x).free = s.free := rfl
@[simp] theorem State.setGroup_pending (s : State) (g : Nat) (x : GroupSt) : (s.setGroup g x).pending = s.pending := rfl
@[simp] theorem State.setGroup_reg (s : State) (g : Nat) (x : GroupSt) (i : Nat) : (s.setGroup g x).reg i = s.reg i := rfl
@[simp] theorem State.setGroup_fld (s : State) (g : Nat) (x : GroupSt) (h : Fld) : (s.setGroup g x).fld h = s.fld h := rfl
@[simp] theorem State.setGroup_fldI (s : State) (g : Nat) (x : GroupSt) (h : Fld) : (s.setGroup g x).fldI h = s.fldI h := rfl
@[simp] theorem State.setGroup_flag (s : State) (g : Nat) (x : GroupSt) (h : Fld) : (s.setGroup g x).flag h = s.flag h := rfl

/-! ### `draw` -/

@[simp] theorem State.draw_regs (s : State) (n : Nat) : (s.draw n).2.regs = s.regs := rfl
@[simp] theorem State.draw_mem (s : State) (n : Nat) : (s.draw n).2.mem = s.mem := rfl
@[simp] theorem State.draw_chk (s : State) (n : Nat) : (s.draw n).2.chk = s.chk := rfl
@[simp] theorem State.draw_core (s : State) (n : Nat) : (s.draw n).2.core = s.core := rfl
@[simp] theorem State.draw_clk (s : State) (n : Nat) : (s.draw n).2.clk = s.clk := rfl
@[simp] theorem State.draw_trv (s : State) (n : Nat) : (s.draw n).2.trv = s.trv := rfl
@[simp] theorem State.draw_ms (s : State) (n : Nat) : (s.draw n).2.ms = s.ms := rfl
@[simp] theorem State.draw_queues (s : State) (n : Nat) : (s.draw n).2.queues = s.queues := rfl
@[simp] theorem State.draw_asms (s : State) (n : Nat) : (s.draw n).2.asms = s.asms := rfl
@[simp] theorem State.draw_spent (s : State) (n : Nat) : (s.draw n).2.spent = s.spent := rfl
@[simp] theorem State.draw_plan (s : State) (n : Nat) : (s.draw n).2.plan = s.plan := rfl
@[simp] theorem State.draw_valves (s : State) (n : Nat) : (s.draw n).2.valves = s.valves := rfl
@[simp] theorem State.draw_groups (s : State) (n : Nat) : (s.draw n).2.groups = s.groups := rfl
@[simp] theorem State.draw_flt (s : State) (n : Nat) : (s.draw n).2.flt = s.flt := rfl
@[simp] theorem State.draw_mode (s : State) (n : Nat) : (s.draw n).2.mode = s.mode := rfl
@[simp] theorem State.draw_ctl (s : State) (n : Nat) : (s.draw n).2.ctl = s.ctl := rfl
@[simp] theorem State.draw_lnk (s : State) (n : Nat) : (s.draw n).2.lnk = s.lnk := rfl
@[simp] theorem State.draw_key (s : State) (n : Nat) : (s.draw n).2.key = s.key := rfl
@[simp] theorem State.draw_gnb (s : State) (n : Nat) : (s.draw n).2.gnb = s.gnb := rfl
@[simp] theorem State.draw_hd (s : State) (n : Nat) : (s.draw n).2.hd = s.hd := rfl
@[simp] theorem State.draw_led (s : State) (n : Nat) : (s.draw n).2.led = s.led := rfl
@[simp] theorem State.draw_boot (s : State) (n : Nat) : (s.draw n).2.boot = s.boot := rfl
@[simp] theorem State.draw_ser (s : State) (n : Nat) : (s.draw n).2.ser = s.ser := rfl
@[simp] theorem State.draw_mov (s : State) (n : Nat) : (s.draw n).2.mov = s.mov := rfl
@[simp] theorem State.draw_flash (s : State) (n : Nat) : (s.draw n).2.flash = s.flash := rfl
@[simp] theorem State.draw_pending (s : State) (n : Nat) : (s.draw n).2.pending = s.pending := rfl
@[simp] theorem State.draw_reg (s : State) (n : Nat) (i : Nat) : (s.draw n).2.reg i = s.reg i := rfl
@[simp] theorem State.draw_fld (s : State) (n : Nat) (h : Fld) : (s.draw n).2.fld h = s.fld h := rfl
@[simp] theorem State.draw_fldI (s : State) (n : Nat) (h : Fld) : (s.draw n).2.fldI h = s.fldI h := rfl
@[simp] theorem State.draw_flag (s : State) (n : Nat) (h : Fld) : (s.draw n).2.flag h = s.flag h := rfl

/-! ### `advCc` -/

/-- What passing core clocks changes: system time and its wraps, the count of core clocks and the fraction of a tb. -/
theorem State.advCc_eq (s : State) (d : Nat) : ∃ f v fr w, f = F.TBS_TIME_TIME ∧ s.advCc d =
    { s.setFld f v with clk := { s.clk with cc := s.clk.cc + d, frac := fr, wraps := w } } := ⟨_, _, _, _, rfl, rfl⟩

@[simp] theorem State.advCc_mem (s : State) (d : Nat) : (s.advCc d).mem = s.mem := by
  obtain ⟨_, _, _, _, _, e⟩ := s.advCc_eq d; rw [e]; rfl
@[simp] theorem State.advCc_chk (s : State) (d : Nat) : (s.advCc d).chk = s.chk := by
  obtain ⟨_, _, _, _, _, e⟩ := s.advCc_eq d; rw [e]; rfl
@[simp] theorem State.advCc_core (s : State) (d : Nat) : (s.advCc d).core = s.core := by
  obtain ⟨_, _, _, _, _, e⟩ := s.advCc_eq d; rw [e]; rfl
@[simp] theorem State.advCc_trv (s : State) (d : Nat) : (s.advCc d).trv = s.trv := by
  obtain ⟨_, _, _, _, _, e⟩ := s.advCc_eq d; rw [e]; rfl
@[simp] theorem State.advCc_ms (s : State) (d : Nat) : (s.advCc d).ms = s.ms := by
  obtain ⟨_, _, _, _, _, e⟩ := s.advCc_eq d; rw [e]; rfl
@[simp] theorem State.advCc_queues (s : State) (d : Nat) : (s.advCc d).queues = s.queues := by
  obtain ⟨_, _, _, _, _, e⟩ := s.advCc_eq d; rw [e]; rfl
@[simp] theorem State.advCc_asms (s : State) (d : Nat) : (s.advCc d).asms = s.asms := by
  obtain ⟨_, _, _, _, _, e⟩ := s.advCc_eq d; rw [e]; rfl
@[simp] theorem State.advCc_spent (s : State) (d : Nat) : (s.advCc d).spent = s.spent := by
  obtain ⟨_, _, _, _, _, e⟩ := s.advCc_eq d; rw [e]; rfl
@[simp] theorem State.advCc_plan (s : State) (d : Nat) : (s.advCc d).plan = s.plan := by
  obtain ⟨_, _, _, _, _, e⟩ := s.advCc_eq d; rw [e]; rfl
@[simp] theorem State.advCc_valves (s : State) (d : Nat) : (s.advCc d).valves = s.valves := by
  obtain ⟨_, _, _, _, _, e⟩ := s.advCc_eq d; rw [e]; rfl
@[simp] theorem State.advCc_groups (s : State) (d : Nat) : (s.advCc d).groups = s.groups := by
  obtain ⟨_, _, _, _, _, e⟩ := s.advCc_eq d; rw [e]; rfl
@[simp] theorem State.advCc_flt (s : State) (d : Nat) : (s.advCc d).flt = s.flt := by
  obtain ⟨_, _, _, _, _, e⟩ := s.advCc_eq d; rw [e]; rfl
@[simp] theorem State.advCc_mode (s : State) (d : Nat) : (s.advCc d).mode = s.mode := by
  obtain ⟨_, _, _, _, _, e⟩ := s.advCc_eq d; rw [e]; rfl
@[simp] theorem State.advCc_ctl (s : State) (d : Nat) : (s.advCc d).ctl = s.ctl := by
  obtain ⟨_, _, _, _, _, e⟩ := s.advCc_eq d; rw [e]; rfl
@[simp] theorem State.advCc_lnk (s : State) (d : Nat) : (s.advCc d).lnk = s.lnk := by
  obtain ⟨_, _, _, _, _, e⟩ := s.advCc_eq d; rw [e]; rfl
@[simp] theorem State.advCc_key (s : State) (d : Nat) : (s.advCc d).key = s.key := by
  obtain ⟨_, _, _, _, _, e⟩ := s.advCc_eq d; rw [e]; rfl
@[simp] theorem State.advCc_gnb (s : State) (d : Nat) : (s.advCc d).gnb = s.gnb := by
  obtain ⟨_, _, _, _, _, e⟩ := s.advCc_eq d; rw [e]; rfl
@[simp] theorem State.advCc_hd (s : State) (d : Nat) : (s.advCc d).hd = s.hd := by
  obtain ⟨_, _, _, _, _, e⟩ := s.advCc_eq d; rw [e]; rfl
@[simp] theorem State.advCc_led (s : State) (d : Nat) : (s.advCc d).led = s.led := by
  obtain ⟨_, _, _, _, _, e⟩ := s.advCc_eq d; rw [e]; rfl
@[simp] theorem State.advCc_boot (s : State) (d : Nat) : (s.advCc d).boot = s.boot := by
  obtain ⟨_, _, _, _, _, e⟩ := s.advCc_eq d; rw [e]; rfl
@[simp] theorem State.advCc_ser (s : State) (d : Nat) : (s.advCc d).ser = s.ser := by
  obtain ⟨_, _, _, _, _, e⟩ := s.advCc_eq d; rw [e]; rfl
@[simp] theorem State.advCc_mov (s : State) (d : Nat) : (s.advCc d).mov = s.mov := by
  obtain ⟨_, _, _, _, _, e⟩ := s.advCc_eq d; rw [e]; rfl
@[simp] theorem State.advCc_flash (s : State) (d : Nat) : (s.advCc d).flash = s.flash := by
  obtain ⟨_, _, _, _, _, e⟩ := s.advCc_eq d; rw [e]; rfl
@[simp] theorem State.advCc_free (s : State) (d : Nat) : (s.advCc d).free = s.free := by
  obtain ⟨_, _, _, _, _, e⟩ := s.advCc_eq d; rw [e]; rfl
@[simp] theorem State.advCc_pending (s : State) (d : Nat) : (s.advCc d).pending = s.pending := by
  obtain ⟨_, _, _, _, _, e⟩ := s.advCc_eq d; rw [e]; rfl

/-! ### Reads after writes of the sparse parts -/

/-- A byte of memory after one byte is written. -/
theorem State.memByte_setMemByte (s : State) (a i : Nat) (b : Byte) :
    (s.setMemByte a b).memByte i = if i = a then b else s.memByte i := spGet_spSet _ _ _ _ _

theorem State.chkAt_setChk (s : State) (a i c : Nat) : (s.setChk a c).chkAt i = if i = a then c % 64 else s.chkAt i :=
  spGet_spSet _ _ _ _ _

theorem State.encOf_setEnc (s : State) (n i : Nat) (e : EncSt) : (s.setEnc n e).encOf i = if i = n then e else s.encOf i :=
  spGet_spSet _ _ _ _ _

theorem State.ssOf_setSs (s : State) (n i : Nat) (e : SsSt) : (s.setSs n e).ssOf i = if i = n then e else s.ssOf i :=
  spGet_spSet _ _ _ _ _

theorem State.queue_setQueue (s : State) (q i : Nat) (x : QueueSt) : (s.setQueue q x).queue i = if i = q then x else s.queue i :=
  spGet_spSet _ _ _ _ _

theorem State.asm_setAsm (s : State) (p i : Nat) (x : Asm) : (s.setAsm p x).asm i = if i = p then x else s.asm i :=
  spGet_spSet _ _ _ _ _

theorem State.valve_setValve (s : State) (n i : Nat) (x : ValveSt) : (s.setValve n x).valve i = if i = n then x else s.valve i :=
  spGet_spSet _ _ _ _ _

theorem State.valve_modValve (s : State) (n i : Nat) (g : ValveSt → ValveSt) :
    (s.modValve n g).valve i = if i = n then g (s.valve n) else s.valve i := spGet_spSet _ _ _ _ _

theorem State.group_setGroup (s : State) (g i : Nat) (x : GroupSt) : (s.setGroup g x).group i = if i = g then x else s.group i :=
  spGet_spSet _ _ _ _ _

/-! ### Reads after writes of registers and fields -/

/-- A register after a register is written. -/
theorem State.reg_setReg (s : State) (a i : Nat) (v : Word) : (s.setReg a v).reg i = if i = a then v else s.reg i :=
  spGet_spSet _ _ _ _ _

/-- The field lies in a word of 40 bits. -/
def Fld.ok (f : Fld) : Bool := f.lo ≤ f.hi && f.hi < 40

/-- A write of a field leaves the registers at other addresses. -/
theorem State.reg_setFld_ne (s : State) (f : Fld) (v : Nat) {i : Nat} (h : i ≠ f.addr) : (s.setFld f v).reg i = s.reg i := by
  rw [State.setFld, State.reg_setReg, if_neg h]

/-- A write of a field leaves the fields at other addresses. -/
theorem State.fld_setFld_ne (s : State) (f g : Fld) (v : Nat) (h : g.addr ≠ f.addr) : (s.setFld f v).fld g = s.fld g := by
  rw [State.fld, State.fld, State.reg_setFld_ne s f v h]

theorem State.fldI_setFld_ne (s : State) (f g : Fld) (v : Nat) (h : g.addr ≠ f.addr) : (s.setFld f v).fldI g = s.fldI g := by
  rw [State.fldI, State.fldI, State.fld_setFld_ne s f g v h]

theorem State.flag_setFld_ne (s : State) (f g : Fld) (v : Nat) (h : g.addr ≠ f.addr) : (s.setFld f v).flag g = s.flag g := by
  rw [State.flag, State.flag, State.fld_setFld_ne s f g v h]

theorem setBits_lt (x hi lo v : Nat) (hx : x < 2 ^ 40) (hl : lo ≤ hi) (hh : hi < 40) : setBits x hi lo v < 2 ^ 40 := by
  unfold setBits
  have e1 : 2 ^ (hi + 1) = 2 ^ (hi + 1 - lo) * 2 ^ lo := by rw [← Nat.pow_add]; congr 1; omega
  have e2 : 2 ^ 40 = 2 ^ (40 - (hi + 1)) * 2 ^ (hi + 1) := by rw [← Nat.pow_add]; congr 1; omega
  have h1 : v % 2 ^ (hi + 1 - lo) < 2 ^ (hi + 1 - lo) := Nat.mod_lt _ (Nat.two_pow_pos _)
  have h2 : x % 2 ^ lo < 2 ^ lo := Nat.mod_lt _ (Nat.two_pow_pos _)
  have h3 : x / 2 ^ (hi + 1) < 2 ^ (40 - (hi + 1)) := by
    rw [Nat.div_lt_iff_lt_mul (Nat.two_pow_pos _), ← e2]; exact hx
  have h4 : v % 2 ^ (hi + 1 - lo) * 2 ^ lo + x % 2 ^ lo < 2 ^ (hi + 1) := by
    rw [e1]
    calc _ < v % 2 ^ (hi + 1 - lo) * 2 ^ lo + 2 ^ lo := by omega
      _ = (v % 2 ^ (hi + 1 - lo) + 1) * 2 ^ lo := by rw [Nat.add_mul, Nat.one_mul]
      _ ≤ _ := Nat.mul_le_mul_right _ h1
  calc _ < x / 2 ^ (hi + 1) * 2 ^ (hi + 1) + 2 ^ (hi + 1) := by omega
    _ = (x / 2 ^ (hi + 1) + 1) * 2 ^ (hi + 1) := by rw [Nat.add_mul, Nat.one_mul]
    _ ≤ 2 ^ (40 - (hi + 1)) * 2 ^ (hi + 1) := Nat.mul_le_mul_right _ h3
    _ = 2 ^ 40 := e2.symm

/-- Bit `i` after bits [hi:lo] are replaced. -/
theorem testBit_setBits (x hi lo v i : Nat) (hl : lo ≤ hi) :
    (setBits x hi lo v).testBit i = if lo ≤ i ∧ i ≤ hi then v.testBit (i - lo) else x.testBit i := by
  have e : setBits x hi lo v = 2 ^ (hi + 1) * (x / 2 ^ (hi + 1)) + (2 ^ lo * (v % 2 ^ (hi + 1 - lo)) + x % 2 ^ lo) := by
    unfold setBits; rw [Nat.mul_comm (x / _), Nat.mul_comm (v % _)]; omega
  have h2 : x % 2 ^ lo < 2 ^ lo := Nat.mod_lt _ (Nat.two_pow_pos _)
  have h1 : v % 2 ^ (hi + 1 - lo) < 2 ^ (hi + 1 - lo) := Nat.mod_lt _ (Nat.two_pow_pos _)
  have e1 : 2 ^ (hi + 1) = 2 ^ lo * 2 ^ (hi + 1 - lo) := by rw [← Nat.pow_add]; congr 1; omega
  have h4 : 2 ^ lo * (v % 2 ^ (hi + 1 - lo)) + x % 2 ^ lo < 2 ^ (hi + 1) := by
    rw [e1]
    calc _ < 2 ^ lo * (v % 2 ^ (hi + 1 - lo)) + 2 ^ lo := by omega
      _ = 2 ^ lo * (v % 2 ^ (hi + 1 - lo) + 1) := by rw [Nat.mul_add, Nat.mul_one]
      _ ≤ _ := Nat.mul_le_mul_left _ h1
  rw [e, Nat.testBit_two_pow_mul_add _ h4]
  by_cases a : i < hi + 1
  · rw [if_pos a, Nat.testBit_two_pow_mul_add _ h2]
    by_cases b : i < lo
    · rw [if_pos b, if_neg (by omega), Nat.testBit_mod_two_pow]; simp [b]
    · rw [if_neg b, if_pos (by omega), Nat.testBit_mod_two_pow]
      simp; omega
  · rw [if_neg a, if_neg (by omega), Nat.testBit_div_two_pow]
    congr 1; omega

theorem testBit_bitsOf (x hi lo i : Nat) : (bitsOf x hi lo).testBit i = (decide (i < hi + 1 - lo) && x.testBit (i + lo)) := by
  unfold bitsOf
  rw [Nat.testBit_mod_two_pow, Nat.testBit_div_two_pow]

/-- A field read after it is written: the value, truncated to the width of the field (chapter 0). -/
theorem State.fld_setFld_same (s : State) (f : Fld) (v : Nat) (h : f.ok = true) : (s.setFld f v).fld f = v % 2 ^ f.width := by
  simp only [Fld.ok, Bool.and_eq_true, decide_eq_true_eq] at h
  rw [State.fld, State.setFld, State.reg_setReg, if_pos rfl, BitVec.toNat_ofNat,
    Nat.mod_eq_of_lt (setBits_lt _ _ _ _ (s.reg f.addr).isLt h.1 h.2)]
  apply Nat.eq_of_testBit_eq
  intro i
  rw [testBit_bitsOf, testBit_setBits _ _ _ _ _ h.1, Nat.testBit_mod_two_pow]
  by_cases g : i < f.hi + 1 - f.lo
  · rw [if_pos (by omega)]; simp [Fld.width, g]
  · simp [Fld.width, g]

/-- A write of a field leaves the other fields of its register. -/
theorem State.fld_setFld_disj (s : State) (f g : Fld) (v : Nat) (h : f.ok = true) (hd : g.hi < f.lo ∨ f.hi < g.lo) :
    (s.setFld f v).fld g = s.fld g := by
  by_cases e : g.addr = f.addr
  · simp only [Fld.ok, Bool.and_eq_true, decide_eq_true_eq] at h
    rw [State.fld, State.fld, State.setFld, State.reg_setReg, if_pos e, BitVec.toNat_ofNat,
      Nat.mod_eq_of_lt (setBits_lt _ _ _ _ (s.reg f.addr).isLt h.1 h.2), e]
    apply Nat.eq_of_testBit_eq
    intro i
    rw [testBit_bitsOf, testBit_bitsOf, testBit_setBits _ _ _ _ _ h.1]
    by_cases c : i < g.hi + 1 - g.lo
    · rw [if_neg (by omega)]
    · simp [c]
  · exact State.fld_setFld_ne s f g v e

theorem State.fldI_setFld_disj (s : State) (f g : Fld) (v : Nat) (h : f.ok = true) (hd : g.hi < f.lo ∨ f.hi < g.lo) :
    (s.setFld f v).fldI g = s.fldI g := by
  rw [State.fldI, State.fldI, State.fld_setFld_disj s f g v h hd]

theorem State.flag_setFld_disj (s : State) (f g : Fld) (v : Nat) (h : f.ok = true) (hd : g.hi < f.lo ∨ f.hi < g.lo) :
    (s.setFld f v).flag g = s.flag g := by
  rw [State.flag, State.flag, State.fld_setFld_disj s f g v h hd]

/-- A flag read after it is written. -/
theorem State.flag_setFlag_same (s : State) (f : Fld) (b : Bool) (h : f.ok = true) : (s.setFlag f b).flag f = b := by
  rw [State.flag, State.setFlag, State.fld_setFld_same s f _ h]
  simp only [Fld.ok, Bool.and_eq_true, decide_eq_true_eq] at h
  have : 2 ∣ 2 ^ f.width := ⟨2 ^ (f.width - 1), by rw [← Nat.pow_succ']; congr 1; unfold Fld.width; omega⟩
  rw [Nat.mod_mod_of_dvd _ this]
  cases b <;> rfl

/-- A field that is written first with one value and then with another holds the second. -/
theorem State.setReg_setReg_reg (s : State) (a i : Nat) (v w : Word) :
    ((s.setReg a v).setReg a w).reg i = (s.setReg a w).reg i := by
  simp only [State.reg_setReg]
  split <;> rfl

/-- Registers decide fields: what leaves the register file leaves every field. -/
theorem State.fld_of_regs {s t : State} (h : t.regs = s.regs) (f : Fld) : t.fld f = s.fld f := by
  simp only [State.fld, State.reg, h]

theorem State.fldI_of_regs {s t : State} (h : t.regs = s.regs) (f : Fld) : t.fldI f = s.fldI f := by
  rw [State.fldI, State.fldI, State.fld_of_regs h]

theorem State.flag_of_regs {s t : State} (h : t.regs = s.regs) (f : Fld) : t.flag f = s.flag f := by
  rw [State.flag, State.flag, State.fld_of_regs h]

/-! ### Memory words and the clock -/

/-- The bytes after a word is written: the five bytes of that word, every other as it was. -/
theorem State.memByte_setMemWord (s : State) (a i : Nat) (v : Word) :
    (s.setMemWord a v).memByte i =
      if 5 * a ≤ i ∧ i < 5 * a + 5 then BitVec.ofNat 8 (v.toNat / 256 ^ (i - 5 * a)) else s.memByte i := by
  have e : s.setMemWord a v = ((((s.setMemByte (5 * a + 0) (BitVec.ofNat 8 (v.toNat / 256 ^ 0))).setMemByte (5 * a + 1)
      (BitVec.ofNat 8 (v.toNat / 256 ^ 1))).setMemByte (5 * a + 2) (BitVec.ofNat 8 (v.toNat / 256 ^ 2))).setMemByte (5 * a + 3)
      (BitVec.ofNat 8 (v.toNat / 256 ^ 3))).setMemByte (5 * a + 4) (BitVec.ofNat 8 (v.toNat / 256 ^ 4)) := rfl
  rw [e]
  simp only [State.memByte_setMemByte]
  by_cases h4 : i = 5 * a + 4
  · subst h4; simp
  by_cases h3 : i = 5 * a + 3
  · subst h3; simp
  by_cases h2 : i = 5 * a + 2
  · subst h2; simp
  by_cases h1 : i = 5 * a + 1
  · subst h1; simp
  by_cases h0 : i = 5 * a
  · subst h0; simp
  rw [if_neg h4, if_neg h3, if_neg h2, if_neg h1, if_neg (by simpa using h0), if_neg (by omega)]

/-- Core clocks pass: the count of core clocks. -/
@[simp] theorem State.advCc_cc (s : State) (d : Nat) : (s.advCc d).clk.cc = s.clk.cc + d := by
  obtain ⟨_, _, _, _, _, e⟩ := s.advCc_eq d; rw [e]

/-- Core clocks pass: every register but the timebase is as before. -/
theorem State.advCc_reg (s : State) (d : Nat) {i : Nat} (h : i ≠ F.TBS_TIME_TIME.addr) : (s.advCc d).reg i = s.reg i := by
  obtain ⟨f, v, _, _, hf, e⟩ := s.advCc_eq d
  rw [e]
  exact State.reg_setFld_ne s f v (hf ▸ h)

/-- A halted clock leaves the state. -/
theorem State.clocked_halted (s : State) (f : State → Host.Outcome State Fault Refusal) (h : s.boot.halted = true) :
    s.clocked f = .next s := by simp [State.clocked, h]

/-- With the clock running a command acts. -/
theorem State.clocked_running (s : State) (f : State → Host.Outcome State Fault Refusal) (h : s.boot.halted = false) :
    s.clocked f = f s := by simp [State.clocked, h]

end Sys2Proof.Machine
end

