-- ==== Sys2Proof/Laws/Kept.lean ====
section
/-! SUPPORT. The relation `Kept s t`: going from `s` to `t`, the queue of waiting commands is as it was and the canonical form
is kept. It holds of every operation of the model: the files `Laws/Kept*.lean` say so, one lemma for each. This file has the
relation, how it composes, and the operations that write the sparse parts. -/

set_option Elab.async false

namespace Sys2Proof.Machine

open Sys2Proof

/-- The queue of commands is untouched, and the canonical form is kept. -/
def Kept (s t : State) : Prop := t.pending = s.pending ∧ (s.canonical = true → t.canonical = true)

/-- `Kept` of the state in an answer that pairs it with a value. -/
def KeptP {α : Type} (s : State) (p : α × State) : Prop := Kept s p.2
/-- `Kept` of the state behind two values. -/
def KeptQ {α β : Type} (s : State) (p : α × β × State) : Prop := Kept s p.2.2
/-- `Kept` of the state behind three values. -/
def KeptR {α β γ : Type} (s : State) (p : α × β × γ × State) : Prop := Kept s p.2.2.2
/-- `Kept` of the state in front of a value. -/
def KeptL {α : Type} (s : State) (p : State × α) : Prop := Kept s p.1
/-- `Kept` of a state that there may be. -/
structure KeptO (s : State) (o : Option State) : Prop where
  all : ∀ t, o = some t → Kept s t
/-- `Kept` of the state that a sequencer instruction goes on or fails in, if it does. -/
structure KeptE (s : State) (e : Effect) : Prop where
  all : ∀ t, e = .go t → Kept s t
  failed : ∀ c t, e = .fail c t → Kept s t
/-- The command goes on, and `Kept` holds of the state it goes on in. -/
def KeptN (s : State) (o : Host.Outcome State Fault Refusal) : Prop := ∃ t, o = .next t ∧ Kept s t

theorem Kept.refl (s : State) : Kept s s := ⟨rfl, id⟩
theorem Kept.trans {a b c : State} (h : Kept a b) (g : Kept b c) : Kept a c := ⟨g.1.trans h.1, g.2 ∘ h.2⟩
theorem KeptP.trans {α : Type} {a b : State} {p : α × State} (h : Kept a b) (g : KeptP b p) : KeptP a p := Kept.trans h g
theorem KeptQ.trans {α β : Type} {a b : State} {p : α × β × State} (h : Kept a b) (g : KeptQ b p) : KeptQ a p :=
  Kept.trans h g
theorem KeptR.trans {α β γ : Type} {a b : State} {p : α × β × γ × State} (h : Kept a b) (g : KeptR b p) : KeptR a p :=
  Kept.trans h g
theorem KeptL.trans {α : Type} {a b : State} {p : State × α} (h : Kept a b) (g : KeptL b p) : KeptL a p := Kept.trans h g
theorem KeptO.trans {a b : State} {o : Option State} (h : Kept a b) (g : KeptO b o) : KeptO a o :=
  ⟨fun t e => h.trans (g.all t e)⟩
theorem KeptE.trans {a b : State} {e : Effect} (h : Kept a b) (g : KeptE b e) : KeptE a e := ⟨fun t k => h.trans (g.all t k), fun c t k => h.trans (g.failed c t k)⟩
theorem KeptN.trans {a b : State} {o : Host.Outcome State Fault Refusal} (h : Kept a b) (g : KeptN b o) : KeptN a o :=
  let ⟨t, e, k⟩ := g; ⟨t, e, h.trans k⟩
theorem KeptP.mk {α : Type} {s t : State} {x : α} (h : Kept s t) : KeptP s (x, t) := h
theorem KeptQ.mk {α β : Type} {s t : State} {x : α} {y : β} (h : Kept s t) : KeptQ s (x, y, t) := h
theorem KeptR.mk {α β γ : Type} {s t : State} {x : α} {y : β} {z : γ} (h : Kept s t) : KeptR s (x, y, z, t) := h
theorem KeptL.mk {α : Type} {s t : State} {x : α} (h : Kept s t) : KeptL s (t, x) := h
theorem KeptO.some {s t : State} (h : Kept s t) : KeptO s (.some t) := ⟨fun _ e => by cases e; exact h⟩
theorem KeptO.none {s : State} : KeptO s .none := ⟨fun _ e => nomatch e⟩
theorem KeptE.go {s t : State} (h : Kept s t) : KeptE s (.go t) :=
  ⟨fun _ e => by cases e; exact h, fun _ _ e => (nomatch e)⟩
theorem KeptE.err {s : State} {c : Nat} : KeptE s (.err c) := ⟨fun _ e => (nomatch e), fun _ _ e => (nomatch e)⟩
theorem KeptE.fail {s t : State} {c : Nat} (h : Kept s t) : KeptE s (.fail c t) :=
  ⟨fun _ e => (nomatch e), fun _ _ e => by cases e; exact h⟩
theorem KeptN.ok {s t : State} (h : Kept s t) : KeptN s (.next t) := ⟨t, rfl, h⟩
theorem KeptP.get {α : Type} {s t : State} {p : α × State} {x : α} (e : p = (x, t)) (h : KeptP s p) : Kept s t := by
  subst e; exact h
theorem KeptQ.get {α β : Type} {s t : State} {p : α × β × State} {x : α} {y : β} (e : p = (x, y, t)) (h : KeptQ s p) :
    Kept s t := by subst e; exact h
theorem KeptR.get {α β γ : Type} {s t : State} {p : α × β × γ × State} {x : α} {y : β} {z : γ} (e : p = (x, y, z, t))
    (h : KeptR s p) : Kept s t := by subst e; exact h
theorem KeptL.get {α : Type} {s t : State} {p : State × α} {x : α} (e : p = (t, x)) (h : KeptL s p) : Kept s t := by
  subst e; exact h
theorem KeptO.get {s t : State} {o : Option State} (e : o = .some t) (h : KeptO s o) : Kept s t := h.all t e
theorem KeptE.get {s t : State} {x : Effect} (e : x = .go t) (h : KeptE s x) : Kept s t := h.all t e
theorem KeptE.gone {s t : State} {x : Effect} {c : Nat} (e : x = .fail c t) (h : KeptE s x) : Kept s t := h.failed c t e
theorem Kept.ite {ρ : Type} {P : ρ → Prop} {c : Prop} [Decidable c] {a b : ρ} (h : P a) (g : P b) :
    P (if c then a else b) := by split <;> assumption

/-- A new state with the same registers, memory, check bits, flash, timebase phase and queue. -/
theorem Kept.same {s : State} {core : CoreSt} {clk : ClockSt} {trv : TravelSt} {ms : MsSt} {queues : List (Nat × QueueSt)}
    {asms : List (Nat × Asm)} {spent : List Rec} {plan : PlanSt} {valves : List (Nat × ValveSt)}
    {groups : List (Nat × GroupSt)} {flt : FaultSt} {mode : ModeSt} {ctl : CtlSt} {lnk : LnkSt} {key : KeySt} {gnb : GnbSt}
    {hd : HeadSt} {led : LedSt} {boot : BootSt} {ser : SerSt} {mov : List (Nat × MovSt)} {free : Nat}
    (h : clk.frac = s.clk.frac := by rfl) : Kept s ⟨s.regs, s.mem, s.chk, core, clk, trv, ms, queues, asms, spent, plan, valves, groups, flt, mode, ctl, lnk, key, gnb, hd,
      led, boot, ser, mov, s.flash, free, s.pending⟩ := by
  refine ⟨rfl, fun g => ?_⟩
  simp only [State.canonical] at g ⊢
  rw [h]; exact g

/-- A loop whose every turn keeps them keeps them. -/
theorem Kept.foldl {α : Type} {s t : State} {g : State → α → State} {l : List α} (ht : Kept s t)
    (h : ∀ t x, Kept s t → Kept s (g t x)) : Kept s (l.foldl g t) := by
  induction l generalizing t with
  | nil => exact ht
  | cons x l ih => exact ih (h _ _ ht)

theorem KeptP.foldl {α β : Type} {s : State} {p : β × State} {g : β × State → α → β × State} {l : List α} (hp : KeptP s p)
    (h : ∀ p x, KeptP s p → KeptP s (g p x)) : KeptP s (l.foldl g p) := by
  induction l generalizing p with
  | nil => exact hp
  | cons x l ih => exact ih (h _ _ hp)

theorem KeptL.foldl {α β : Type} {s : State} {p : State × β} {g : State × β → α → State × β} {l : List α} (hp : KeptL s p)
    (h : ∀ p x, KeptL s p → KeptL s (g p x)) : KeptL s (l.foldl g p) := by
  induction l generalizing p with
  | nil => exact hp
  | cons x l ih => exact ih (h _ _ hp)

theorem KeptQ.foldl {α β γ : Type} {s : State} {p : β × γ × State} {g : β × γ × State → α → β × γ × State} {l : List α}
    (hp : KeptQ s p) (h : ∀ p x, KeptQ s p → KeptQ s (g p x)) : KeptQ s (l.foldl g p) := by
  induction l generalizing p with
  | nil => exact hp
  | cons x l ih => exact ih (h _ _ hp)

theorem KeptR.foldl {α β γ δ : Type} {s : State} {p : β × γ × δ × State} {g : β × γ × δ × State → α → β × γ × δ × State}
    {l : List α} (hp : KeptR s p) (h : ∀ p x, KeptR s p → KeptR s (g p x)) : KeptR s (l.foldl g p) := by
  induction l generalizing p with
  | nil => exact hp
  | cons x l ih => exact ih (h _ _ hp)

/-- A command under the clock. -/
theorem KeptN.clocked {s : State} {f : State → Host.Outcome State Fault Refusal} (h : KeptN s (f s)) : KeptN s (s.clocked f) := by
  unfold State.clocked
  split
  · exact .ok (.refl s)
  · exact h

theorem State.canonical_iff (s : State) : s.canonical = true ↔
    Memory.wf s.mem = true ∧ spWf (fun _ => 0) s.chk = true ∧ spWf (fun _ => 0xFF#8) s.flash = true ∧
      spWf resetWord s.regs = true ∧ s.clk.frac < tbUnit := by
  simp only [State.canonical, Bool.and_eq_true, and_assoc, decide_eq_true_eq]

/-! ### The operations that write the sparse parts -/

theorem State.setReg_kept (s : State) (a : Nat) (v : Word) : Kept s (s.setReg a v) := by
  refine ⟨rfl, fun h => ?_⟩
  rw [State.canonical_iff] at h ⊢
  exact ⟨h.1, h.2.1, h.2.2.1, spWf_spSet _ _ _ _ h.2.2.2.1, h.2.2.2.2⟩

theorem State.setFld_kept (s : State) (f : Fld) (v : Nat) : Kept s (s.setFld f v) := s.setReg_kept _ _
theorem State.setFldI_kept (s : State) (f : Fld) (x : Int) : Kept s (s.setFldI f x) := s.setReg_kept _ _
theorem State.setFldSat_kept (s : State) (f : Fld) (x : Int) : Kept s (s.setFldSat f x) := s.setReg_kept _ _
theorem State.setFlag_kept (s : State) (f : Fld) (b : Bool) : Kept s (s.setFlag f b) := s.setReg_kept _ _
theorem State.incBy_kept (s : State) (f : Fld) (k : Nat) : Kept s (s.incBy f k) := s.setReg_kept _ _
theorem State.inc_kept (s : State) (f : Fld) : Kept s (s.inc f) := s.setReg_kept _ _

theorem State.setMemByte_kept (s : State) (a : Nat) (b : Byte) : Kept s (s.setMemByte a b) := by
  refine ⟨rfl, fun h => ?_⟩
  rw [State.canonical_iff] at h ⊢
  exact ⟨spWf_spSet _ _ _ _ h.1, h.2⟩

theorem State.setMemWord_kept (s : State) (a : Nat) (v : Word) : Kept s (s.setMemWord a v) :=
  Kept.foldl (.refl s) fun t _ h => h.trans (t.setMemByte_kept _ _)

theorem State.setChk_kept (s : State) (a c : Nat) : Kept s (s.setChk a c) := by
  refine ⟨rfl, fun h => ?_⟩
  rw [State.canonical_iff] at h ⊢
  exact ⟨h.1, spWf_spSet _ _ _ _ h.2.1, h.2.2⟩

theorem State.flashErase_kept (s : State) (a : Nat) : Kept s (s.flashErase a) := by
  refine ⟨rfl, fun h => ?_⟩
  rw [State.canonical_iff] at h ⊢
  exact ⟨h.1, h.2.1, spWf_filter _ _ _ h.2.2.1, h.2.2.2⟩

theorem spWf_program (a : Nat) (l : List (Byte × Nat)) (m : List (Nat × Byte)) (h : spWf (fun _ => 0xFF#8) m = true) :
    spWf (fun _ => 0xFF#8) (l.foldl (fun m (p : Byte × Nat) =>
      spSet (fun _ => 0xFF#8) m (a + p.2) (p.1 &&& spGet (fun _ => 0xFF#8) m (a + p.2))) m) = true := by
  induction l generalizing m with
  | nil => exact h
  | cons p l ih => exact ih _ (spWf_spSet _ _ _ _ h)

theorem State.flashProgram_kept (s : State) (a : Nat) (bs : List Byte) : Kept s (s.flashProgram a bs) := by
  refine ⟨rfl, fun h => ?_⟩
  rw [State.canonical_iff] at h ⊢
  exact ⟨h.1, h.2.1, spWf_program _ _ _ h.2.2.1, h.2.2.2⟩

theorem State.dropStores_kept (s : State) (p : Host.Cell → Bool) (q : Nat × Nat → Bool) :
    Kept s { s with mem := s.mem.filter p, chk := s.chk.filter q } := by
  refine ⟨rfl, fun h => ?_⟩
  rw [State.canonical_iff] at h ⊢
  exact ⟨spWf_filter _ _ _ h.1, spWf_filter _ _ _ h.2.1, h.2.2⟩

end Sys2Proof.Machine
end

