-- ==== Sys2Proof/Laws/Shapes.lean ====
section
/-! SUPPORT. What a shared operation can change, said once each: the parts of the state it may write, by an equation that leaves
all others, and the registers it leaves. -/

set_option Elab.async false

namespace Sys2Proof.Machine

open Sys2Proof

/-! ### Folds -/

/-- What every step of a fold leaves, the fold leaves. -/
theorem foldl_same {α β γ : Type} (g : β → γ) (f : β → α → β) (h : ∀ b a, g (f b a) = g b) (l : List α) (b : β) :
    g (l.foldl f b) = g b := by
  induction l generalizing b with
  | nil => rfl
  | cons x l ih => exact (ih _).trans (h b x)

/-- A fold of steps that write only memory writes only memory. -/
theorem foldl_mem {α : Type} (f : State → α → State) (h : ∀ s a, ∃ m, f s a = { s with mem := m }) (l : List α) (s : State) :
    ∃ m, l.foldl f s = { s with mem := m } := by
  induction l generalizing s with
  | nil => exact ⟨_, rfl⟩
  | cons x l ih =>
    obtain ⟨m, e⟩ := h s x
    rw [List.foldl_cons, e]
    obtain ⟨m', e'⟩ := ih { s with mem := m }
    exact ⟨m', e'⟩

/-! ### Time -/

theorem State.advCcTo_same (s : State) (c : Nat) : ∃ r k, s.advCcTo c = { s with regs := r, clk := k } := by
  unfold State.advCcTo
  split
  · exact ⟨_, _, rfl⟩
  · exact ⟨_, _, rfl⟩

theorem State.advCcTo_reg (s : State) (c : Nat) {i : Nat} (h : i ≠ 0x200) : (s.advCcTo c).reg i = s.reg i := by
  unfold State.advCcTo
  split
  · exact State.advCc_reg _ _ h
  · rfl

/-- The clock stands at `c`, or where it was if that is later. -/
theorem State.advCcTo_cc (s : State) (c : Nat) : (s.advCcTo c).clk.cc = max s.clk.cc c := by
  unfold State.advCcTo
  split
  · show s.clk.cc + (c - s.clk.cc) = _
    omega
  · omega

theorem State.advTo_same (s : State) (t : Nat) : ∃ r k, s.advTo t = { s with regs := r, clk := k } := by
  unfold State.advTo
  split
  · exact ⟨_, _, rfl⟩
  · exact ⟨_, _, rfl⟩

theorem State.advTo_reg (s : State) (t : Nat) {i : Nat} (h : i ≠ 0x200) : (s.advTo t).reg i = s.reg i := by
  unfold State.advTo
  split
  · exact State.advCc_reg _ _ h
  · rfl

theorem State.takeInstant_same (s : State) (k p ph : Nat) : ∃ r c, s.takeInstant k p ph = { s with regs := r, clk := c } := by
  unfold State.takeInstant
  obtain ⟨r, c, e⟩ := s.advTo_same (s.nextInstant k p ph)
  dsimp only
  rw [e]
  exact ⟨_, _, rfl⟩

theorem State.takeInstant_reg (s : State) (k p ph : Nat) {i : Nat} (h : i ≠ 0x200) :
    (s.takeInstant k p ph).reg i = s.reg i := by
  unfold State.takeInstant
  exact s.advTo_reg _ h

/-! ### Registers -/

theorem State.fld_of_reg {s t : State} (f : Fld) (h : t.reg f.addr = s.reg f.addr) : t.fld f = s.fld f := by
  unfold State.fld; rw [h]

theorem State.fld_lt (s : State) (f : Fld) : s.fld f < 2 ^ f.width := by
  unfold State.fld bitsOf Fld.width
  exact Nat.mod_lt _ (Nat.two_pow_pos _)

/-! ### Memory -/

theorem State.setMemWord_same (s : State) (a : Nat) (v : Word) : ∃ m, s.setMemWord a v = { s with mem := m } := by
  unfold State.setMemWord
  exact foldl_mem _ (fun s k => ⟨_, rfl⟩) _ _

/-- The stores take their reset contents; nothing else changes. -/
theorem State.writeStores_same (s : State) : ∃ m c, s.writeStores = { s with mem := m, chk := c } := by
  unfold State.writeStores
  obtain ⟨m, e⟩ := foldl_mem (fun (s : State) g =>
      storeReset.foldl (fun (s : State) (p : Nat × Nat) => s.setMemWord (0x4000 + 0x400 * g + p.1) (BitVec.ofNat 40 p.2)) s)
    (fun s g => foldl_mem _ (fun s p => s.setMemWord_same _ _) _ _) (List.range 6)
    { s with mem := s.mem.filter (fun c => !inShape (c.1 / 5)), chk := s.chk.filter (fun c => !inShape c.1) }
  exact ⟨m, _, e⟩

/-! ### Flash and port -/

/-- What a cut-off commit leaves differs in the flash, and in the free values drawn. -/
theorem State.tearCommit_same (s : State) (k : Nat) : ∃ f n, s.tearCommit k = { s with flash := f, free := n } := by
  unfold State.tearCommit
  split
  · exact ⟨_, _, rfl⟩
  · split
    · exact ⟨_, _, rfl⟩
    · split <;> exact ⟨_, _, rfl⟩

theorem State.tearPort_same (s : State) : ∃ f n, s.tearPort = { s with flash := f, free := n } := by
  unfold State.tearPort
  obtain ⟨f, n, e⟩ := s.tearCommit_same s.led.stage
  rw [e]
  dsimp only
  split
  · split <;> exact ⟨_, _, rfl⟩
  · exact ⟨_, _, rfl⟩

/-- With no write to the flash under way a reset leaves the flash. -/
theorem State.tearPort_quiet (s : State) (h : s.led.stage = 0) (g : s.ser.job = none) : s.tearPort = s := by
  simp [State.tearPort, h, State.tearCommit, g]

/-- Taking up the next job of the port writes nothing but the port's own state. -/
theorem State.nextJob_same (s : State) : ∃ x, s.nextJob = { s with ser := x } := by
  unfold State.nextJob
  split
  · exact ⟨_, rfl⟩
  · dsimp only
    split
    · exact ⟨_, rfl⟩
    · split <;> exact ⟨_, rfl⟩

theorem State.nextJob_reg (s : State) (i : Nat) : s.nextJob.reg i = s.reg i := by
  obtain ⟨x, e⟩ := s.nextJob_same
  rw [e]; rfl

/-! ### BOOT -/

theorem State.bootStep_step (s : State) {k : Nat} (h : k < 8) : (s.bootStep k).fld F.MOD_BOOT_STEP = k := by
  show (s.setFld _ _).fld _ = _
  rw [State.fld_setFld_same _ _ _ (by decide)]
  exact Nat.mod_eq_of_lt h

theorem State.bootStep_reg (s : State) (k : Nat) {i : Nat} (h : i ≠ 0x112) : (s.bootStep k).reg i = s.reg i :=
  State.reg_setFld_ne s F.MOD_BOOT_STEP k h

/-- BOOT is held: step 7, the reason, and HELD; no other register changes. -/
theorem State.holdBoot_facts (s : State) {w : Nat} (h : w < 16) :
    (s.holdBoot w).fld F.MOD_BOOT_STEP = 7 ∧ (s.holdBoot w).flag F.MOD_STAT_HELD = true ∧
      (s.holdBoot w).fld F.MOD_BOOT_HOLDWHY = w ∧ ∀ i, i ≠ 0x112 → i ≠ 0x100 → (s.holdBoot w).reg i = s.reg i := by
  unfold State.holdBoot
  dsimp only
  obtain ⟨x, e⟩ := State.nextJob_same
    { ((s.setFld F.MOD_BOOT_STEP 7).setFld F.MOD_BOOT_HOLDWHY w).setFlag F.MOD_STAT_HELD true with
      lnk := { s.lnk with band := 0, bandAt := s.clk.cc, stay := none } }
  simp only [State.setFlag_lnk, State.setFld_lnk, State.setFlag_clk, State.setFld_clk] at *
  rw [e]
  refine ⟨?_, ?_, ?_, ?_⟩
  · show (State.setFld _ _ _).fld _ = _
    rw [State.fld_setFld_ne _ _ _ _ (by decide), State.fld_setFld_disj _ _ _ _ (by decide) (by decide),
      State.fld_setFld_same _ _ _ (by decide)]
    rfl
  · show (State.setFlag _ _ _).flag _ = _
    rw [State.flag_setFlag_same _ _ _ (by decide)]
  · show (State.setFld _ _ _).fld _ = _
    rw [State.fld_setFld_ne _ _ _ _ (by decide), State.fld_setFld_same _ _ _ (by decide)]
    exact Nat.mod_eq_of_lt h
  · intro i h1 h2
    show (State.setFld _ _ _).reg _ = _
    rw [State.reg_setFld_ne _ _ _ (fun e => h2 e), State.reg_setFld_ne _ _ _ (fun e => h1 e),
      State.reg_setFld_ne _ _ _ (fun e => h1 e)]

theorem State.holdBoot_same (s : State) (w : Nat) : ∃ r l x, s.holdBoot w = { s with regs := r, lnk := l, ser := x } := by
  unfold State.holdBoot
  dsimp only
  obtain ⟨x, e⟩ := State.nextJob_same
    { ((s.setFld F.MOD_BOOT_STEP 7).setFld F.MOD_BOOT_HOLDWHY w).setFlag F.MOD_STAT_HELD true with
      lnk := { s.lnk with band := 0, bandAt := s.clk.cc, stay := none } }
  exact ⟨_, _, x, e⟩

/-- The binding shows in KEY_STAT and KEY_OWNIDH and L, and the step is 1. -/
theorem State.beginIdent_same (s : State) : ∃ r b, s.beginIdent = { s with regs := r, boot := b } := by
  unfold State.beginIdent State.bootStep
  dsimp only
  split <;> exact ⟨_, _, rfl⟩

theorem State.beginIdent_step (s : State) : s.beginIdent.fld F.MOD_BOOT_STEP = 1 := by
  unfold State.beginIdent
  dsimp only
  split
  · rw [State.fld_setFld_ne _ _ _ _ (by decide), State.fld_setFld_ne _ _ _ _ (by decide)]
    show (State.setFld _ _ _).fld _ = _
    rw [State.fld_setFld_ne _ _ _ _ (by decide)]
    exact s.bootStep_step (by decide)
  · exact s.bootStep_step (by decide)

theorem State.beginIdent_reg (s : State) {i : Nat} (h : i ≠ 0x112) (h1 : i ≠ 0x1900) (h2 : i ≠ 0x1904) (h3 : i ≠ 0x1905) :
    s.beginIdent.reg i = s.reg i := by
  unfold State.beginIdent
  dsimp only
  split
  · rw [State.reg_setFld_ne _ _ _ (fun e => h3 e), State.reg_setFld_ne _ _ _ (fun e => h2 e)]
    show (State.setFld _ _ _).reg _ = _
    rw [State.reg_setFld_ne _ _ _ (fun e => h1 e)]
    exact s.bootStep_reg _ h
  · exact s.bootStep_reg _ h

end Sys2Proof.Machine
end

