-- ==== Sys2Proof/Laws/Clock.lean ====
section
/-! SUPPORT. What the clock does when time passes: where system time stands after it, and the instants of scheduler ticks. -/

set_option Elab.async false

namespace Sys2Proof.Machine

open Sys2Proof

/-- System time is a 40-bit count. -/
theorem State.now_lt (s : State) : s.now < 2 ^ 40 := s.fld_lt F.TBS_TIME_TIME

/-- The rate term has 24 bits. -/
theorem State.fldI_rate (s : State) : -(2 ^ 23 : Int) ≤ s.fldI F.TBS_RATE_RATE ∧ s.fldI F.TBS_RATE_RATE < 2 ^ 23 := by
  have h : s.fld F.TBS_RATE_RATE < 2 ^ 24 := s.fld_lt F.TBS_RATE_RATE
  unfold State.fldI sx
  have e : F.TBS_RATE_RATE.width = 24 := rfl
  rw [e]
  split <;> omega

/-- A core clock adds more than nothing and less than one tb. -/
theorem State.perClock_bounds (s : State) : 0 < s.perClock ∧ s.perClock < tbUnit := by
  have h := State.fldI_rate s
  unfold State.perClock tbUnit
  omega

/-- System time after `d` core clocks. -/
theorem State.advCc_now (s : State) (d : Nat) : (s.advCc d).now = (s.now + (s.clk.frac + d * s.perClock) / tbUnit) % mod40 := by
  unfold State.advCc State.now
  show State.fld (State.setFld s F.TBS_TIME_TIME _) F.TBS_TIME_TIME = _
  rw [State.fld_setFld_same _ _ _ (by decide)]
  exact Nat.mod_mod _ _

/-- What d(a, b) is for 40-bit counts (R33). -/
theorem dist_cases (a b : Nat) (ha : a < 2 ^ 40) (hb : b < 2 ^ 40) : 
   (dist a b = (a : Int) - b ∨ dist a b = (a : Int) - b + 2 ^ 40 ∨ dist a b = (a : Int) - b - 2 ^ 40) ∧ -(2^39 : Int) ≤ dist a b ∧ dist a b < 2 ^ 39 := by
  unfold dist wrap40 wrapW sx
  split <;> omega

/-- d takes its first argument modulo 2^40. -/
theorem dist_mod (a b : Nat) : dist (a % mod40) b = dist a b := by
  unfold dist wrap40 wrapW mod40
  congr 2
  omega

/-- `advTo` stops exactly at the system time asked for. -/
theorem State.advTo_now (s : State) (t : Nat) (hf : s.clk.frac < tbUnit) (h : 0 < dist t s.now) : (s.advTo t).now = t % mod40 := by
  unfold State.advTo
  rw [if_pos h]
  dsimp only
  rw [State.advCc_now]
  have hp := State.perClock_bounds s
  rw [← dist_mod] at h ⊢
  have ht : t % mod40 < 2 ^ 40 := Nat.mod_lt _ (by decide)
  generalize t % mod40 = t' at *
  have hd := dist_cases t' s.now ht (State.now_lt s)
  generalize dist t' s.now = D at *
  obtain ⟨n, rfl⟩ : ∃ n : Nat, D = n := ⟨D.toNat, by omega⟩
  have hn : 0 < n := by omega
  simp only [Int.toNat_natCast]
  have key : (s.clk.frac + (n * tbUnit - s.clk.frac + s.perClock - 1) / s.perClock * s.perClock) / tbUnit = n := by
    generalize s.perClock = P at *
    generalize s.clk.frac = f at *
    have h1 : tbUnit ≤ n * tbUnit := Nat.le_mul_of_pos_left _ hn
    have h2 := Nat.div_add_mod (n * tbUnit - f + P - 1) P
    have h3 := Nat.mod_lt (n * tbUnit - f + P - 1) hp.1
    rw [Nat.mul_comm P] at h2
    generalize (n * tbUnit - f + P - 1) / P * P = X at *
    have : n * tbUnit ≤ f + X ∧ f + X < n * tbUnit + tbUnit := by omega
    apply Nat.div_eq_of_lt_le
    · omega
    · rw [Nat.add_mul]; omega
  rw [key]
  unfold mod40
  omega

/-- The next tick instant: a multiple of 32 tb, not before now and at most 64 tb later. -/
theorem State.nextInstant_facts (s : State) : (s.nextInstant clsTick 32 0) % 32 = 0 ∧ s.nextInstant clsTick 32 0 < 2 ^ 40 ∧ 0 ≤ dist (s.nextInstant clsTick 32 0) s.now ∧ dist (s.nextInstant clsTick 32 0) s.now ≤ 64 := by
  have hn := State.now_lt s
  unfold State.nextInstant
  dsimp only
  have h1 : (s.now + (0 + 32 - s.now % 32) % 32) % mod40 % 32 = 0 := by unfold mod40; omega
  have h2 : ((s.now + (0 + 32 - s.now % 32) % 32) % mod40 + 32) % mod40 % 32 = 0 := by unfold mod40; omega
  have h3 : (s.now + (0 + 32 - s.now % 32) % 32) % mod40 < 2 ^ 40 := Nat.mod_lt _ (by decide)
  have h4 : ((s.now + (0 + 32 - s.now % 32) % 32) % mod40 + 32) % mod40 < 2 ^ 40 := Nat.mod_lt _ (by decide)
  have d3 := dist_cases _ s.now h3 hn
  have d4 := dist_cases _ s.now h4 hn
  split
  · refine ⟨h2, h4, ?_⟩
    generalize dist (((s.now + (0 + 32 - s.now % 32) % 32) % mod40 + 32) % mod40) s.now = D at *
    unfold mod40 at *
    constructor <;> omega
  · refine ⟨h1, h3, ?_⟩
    generalize dist ((s.now + (0 + 32 - s.now % 32) % 32) % mod40) s.now = D at *
    unfold mod40 at *
    constructor <;> omega

/-- Taking the next tick instant changes the clock only, and stops there. -/
theorem State.tick_at (s : State) (hf : s.clk.frac < tbUnit) : ∃ r k, s.takeInstant clsTick 32 0 = { s with regs := r, clk := k } ∧
   (s.takeInstant clsTick 32 0).now % 32 = 0 ∧ 0 ≤ dist (s.takeInstant clsTick 32 0).now s.now ∧ dist (s.takeInstant clsTick 32 0).now s.now ≤ 64 ∧ s.clk.cc ≤ (s.takeInstant clsTick 32 0).clk.cc := by
  obtain ⟨r, k, e⟩ := s.takeInstant_same clsTick 32 0
  obtain ⟨a, b, c, d⟩ := State.nextInstant_facts s
  have hn : (s.takeInstant clsTick 32 0).now = s.nextInstant clsTick 32 0 := by
    show (s.advTo _).now = _
    by_cases h : 0 < dist (s.nextInstant clsTick 32 0) s.now
    · rw [State.advTo_now s _ hf h]; exact Nat.mod_eq_of_lt b
    · unfold State.advTo; rw [if_neg (by omega)]
      have := dist_cases _ _ b (State.now_lt s)
      have := State.now_lt s
      omega
  refine ⟨r, k, e, hn ▸ a, hn ▸ c, hn ▸ d, ?_⟩
  show s.clk.cc ≤ (s.advTo _).clk.cc
  unfold State.advTo
  split
  · exact Nat.le_add_right _ _
  · exact Nat.le_refl _

theorem State.advCc_frac (s : State) (d : Nat) : (s.advCc d).clk.frac < tbUnit := Nat.mod_lt _ (by decide)

theorem State.advCcTo_frac (s : State) (c : Nat) (hf : s.clk.frac < tbUnit) : (s.advCcTo c).clk.frac < tbUnit := by
  unfold State.advCcTo
  split
  · exact State.advCc_frac _ _
  · exact hf

theorem State.advTo_frac (s : State) (c : Nat) (hf : s.clk.frac < tbUnit) : (s.advTo c).clk.frac < tbUnit := by
  unfold State.advTo
  split
  · exact State.advCc_frac _ _
  · exact hf

/-- The tick instant after a stretch of time. -/
theorem State.tick_after (s v : State) (hv : ∃ r k, v = { s with regs := r, clk := k }) (hf : v.clk.frac < tbUnit) :
    ∃ r k, v.takeInstant clsTick 32 0 = { s with regs := r, clk := k } ∧ (v.takeInstant clsTick 32 0).now % 32 = 0 ∧
      0 ≤ dist (v.takeInstant clsTick 32 0).now v.now ∧ dist (v.takeInstant clsTick 32 0).now v.now ≤ 64 ∧ v.clk.cc ≤ (v.takeInstant clsTick 32 0).clk.cc := by
  obtain ⟨r, k, rfl⟩ := hv
  obtain ⟨r', k', e, a⟩ := State.tick_at _ hf
  exact ⟨r', k', by rw [e], a⟩

/-- A time not before the end of `advTo t` is not before `t`. -/
theorem State.advTo_dist (s : State) (t : Nat) (hf : s.clk.frac < tbUnit) (h : 0 < dist t s.now) (x : Nat) (h1 : 0 ≤ dist x (s.advTo t).now) : 0 ≤ dist x t := by
  rw [State.advTo_now s t hf h] at h1
  have e : dist x t = dist x (t % mod40) := by unfold dist wrap40 wrapW mod40; congr 2; omega
  rw [e]; exact h1

end Sys2Proof.Machine
end

