-- ==== Sys2Proof/Laws/KeptOps.lean ====
section
/-! SUPPORT. `Kept` holds of the operations of `Machine/Ops.lean`. -/

set_option Elab.async false

namespace Sys2Proof.Machine

open Sys2Proof

theorem State.draw_kept (s0) (n) : KeptP s0 (State.draw s0 n) := by
  unfold State.draw
  exact KeptP.mk ((Kept.same))

theorem State.setEnc_kept (s0) (n) (e) : Kept s0 (State.setEnc s0 n e) := by
  unfold State.setEnc
  exact (Kept.same)

theorem State.setSs_kept (s0) (n) (e) : Kept s0 (State.setSs s0 n e) := by
  unfold State.setSs
  exact (Kept.same)

theorem State.setQueue_kept (s0) (q) (x) : Kept s0 (State.setQueue s0 q x) := by
  unfold State.setQueue
  exact (Kept.same)

theorem State.setAsm_kept (s0) (p) (x) : Kept s0 (State.setAsm s0 p x) := by
  unfold State.setAsm
  exact (Kept.same)

theorem State.setValve_kept (s0) (n) (x) : Kept s0 (State.setValve s0 n x) := by
  unfold State.setValve
  exact (Kept.same)

theorem State.modValve_kept (s0) (n) (f) : Kept s0 (State.modValve s0 n f) := by
  unfold State.modValve
  exact State.setValve_kept ..

theorem State.setGroup_kept (s0) (g) (x) : Kept s0 (State.setGroup s0 g x) := by
  unfold State.setGroup
  exact (Kept.same)

theorem State.advCc_kept (s0) (dt) : Kept s0 (State.advCc s0 dt) := by
  unfold State.advCc
  extract_lets +onlyGivenNames x1
  refine (s0.setFld_kept F.TBS_TIME_TIME ((s0.now + x1 / tbUnit) % mod40)).trans ⟨rfl, fun h => ?_⟩
  rw [State.canonical_iff] at h ⊢
  exact ⟨h.1, h.2.1, h.2.2.1, h.2.2.2.1, Nat.mod_lt _ (by decide)⟩

theorem State.advCcTo_kept (s0) (c) : Kept s0 (State.advCcTo s0 c) := by
  unfold State.advCcTo
  exact Kept.ite (State.advCc_kept ..) (.refl _)

theorem State.advTo_kept (s0) (t) : Kept s0 (State.advTo s0 t) := by
  unfold State.advTo
  refine Kept.ite ?_ ?_
  · extract_lets +onlyGivenNames x1
    exact State.advCc_kept ..
  · exact .refl _

theorem State.takeInstant_kept (s0) (k) (period) (phase) : Kept s0 (State.takeInstant s0 k period phase) := by
  unfold State.takeInstant
  extract_lets +onlyGivenNames x1
  extract_lets +onlyGivenNames x2
  have h3 : Kept s0 x2 := State.advTo_kept ..
  exact h3.trans .same

theorem State.completed_kept (s0) : Kept s0 (State.completed s0) := by
  unfold State.completed
  exact (Kept.same)

theorem State.turnOffClock_kept (s0) : Kept s0 (State.turnOffClock s0) := by
  unfold State.turnOffClock
  exact Kept.ite (State.advCc_kept ..) (.refl _)

theorem State.mark_kept (s0) (f) : Kept s0 (State.mark s0 f) := by
  unfold State.mark
  extract_lets +onlyGivenNames x1
  exact (Kept.same)

theorem State.raise_kept (s0) (f) : Kept s0 (State.raise s0 f) := by
  unfold State.raise
  exact (State.setFlag_kept ..).trans (State.mark_kept ..)

theorem State.update_kept (s0) (f) (v) : Kept s0 (State.update s0 f v) := by
  unfold State.update
  exact (State.setFld_kept ..).trans (State.mark_kept ..)

end Sys2Proof.Machine
end

