-- ==== Sys2Proof/Laws/KeptQueue.lean ====
section
/-! SUPPORT. `Kept` holds of the operations of `Machine/Queue.lean`. -/

set_option Elab.async false

namespace Sys2Proof.Machine

open Sys2Proof

theorem State.pushRec_kept (s0) (q) (r) : Kept s0 (State.pushRec s0 q r) := by
  unfold State.pushRec
  split
  rename_i y1 y2 y3 y4
  have h5 : Kept s0 y3 := KeptP.get y4 (State.draw_kept ..)
  extract_lets +onlyGivenNames x6
  extract_lets +onlyGivenNames x7
  extract_lets +onlyGivenNames x8
  have h9 : Kept s0 x8 := h5.trans (State.setQueue_kept ..)
  exact h9.trans .same

theorem State.pushItem_kept (s0) (q) (ws) (cs) : Kept s0 (State.pushItem s0 q ws cs) := by
  unfold State.pushItem
  exact Kept.foldl (.refl _) (fun a2 x3 h1 => h1.trans (State.pushRec_kept ..))

theorem State.release_kept (s0) (q) (n) : Kept s0 (State.release s0 q n) := by
  unfold State.release
  extract_lets +onlyGivenNames x1
  extract_lets +onlyGivenNames x2
  have h3 : Kept s0 x2 := State.setQueue_kept ..
  exact h3.trans .same

theorem State.submit_kept (s0) (src) (q) (ws) (cs) : KeptQ s0 (State.submit s0 src q ws cs) := by
  unfold State.submit
  extract_lets +onlyGivenNames x1
  refine Kept.ite ?_ ?_
  · extract_lets +onlyGivenNames x2
    exact KeptQ.mk (State.pushItem_kept ..)
  · extract_lets +onlyGivenNames x3
    have h4 : Kept s0 x3 := (State.inc_kept ..).trans (State.setFld_kept ..)
    exact KeptQ.mk h4

theorem State.ringDrop_kept (s0) (q) (ws) (cs) : Kept s0 (State.ringDrop s0 q ws cs) := by
  unfold State.ringDrop
  exact Kept.ite (State.pushItem_kept ..) (State.inc_kept ..)

theorem State.errRec_kept (s0) (typ) (w3) (w4) (w5) : Kept s0 (State.errRec s0 typ w3 w4 w5) := by
  unfold State.errRec
  exact State.ringDrop_kept ..

theorem State.execRec_kept (s0) (outcome) (q) (seq) : Kept s0 (State.execRec s0 outcome q seq) := by
  unfold State.execRec
  exact Kept.ite (State.ringDrop_kept ..) (.refl _)

theorem State.noteOutcome_kept (s0) (d) (r) : Kept s0 (State.noteOutcome s0 d r) := by
  unfold State.noteOutcome
  refine Kept.ite ?_ ?_
  · exact State.execRec_kept ..
  · refine Kept.ite ?_ ?_
    · exact .refl _
    · split
      rename_i y1 y2 y3 y4
      have h5 : Kept s0 y3 := KeptP.get y4 (State.draw_kept ..)
      exact h5.trans (State.execRec_kept ..)

theorem State.finishItem_kept (s0) (prod) (src) (ws) (cs) : Kept s0 (State.finishItem s0 prod src ws cs) := by
  unfold State.finishItem
  extract_lets +onlyGivenNames x1
  have h2 : Kept s0 x1 := State.setAsm_kept ..
  split
  rename_i y3 y4 y5 y6 y7
  have h8 : Kept s0 y6 := KeptQ.get y7 (KeptQ.trans h2 (State.submit_kept ..))
  exact Kept.ite (((h8.trans (State.setFld_kept ..)).trans (State.setFld_kept ..)).trans (State.setFld_kept ..)) h8

theorem State.pushStart_kept (s0) (prod) (src) (w) (c) : Kept s0 (State.pushStart s0 prod src w c) := by
  unfold State.pushStart
  extract_lets +onlyGivenNames x1
  have h2 : Kept s0 x1 := State.incBy_kept ..
  exact Kept.ite (h2.trans (State.finishItem_kept ..)) (h2.trans (State.setAsm_kept ..))

theorem State.pushCont_kept (s0) (prod) (src) (w) (c) : Kept s0 (State.pushCont s0 prod src w c) := by
  unfold State.pushCont
  extract_lets +onlyGivenNames x1
  split
  · rename_i y2 y3 y4
    exact State.inc_kept ..
  · rename_i y5 y6
    refine Kept.ite ?_ ?_
    · exact State.inc_kept ..
    · extract_lets +onlyGivenNames x7
      extract_lets +onlyGivenNames x8
      exact Kept.ite (State.finishItem_kept ..) (State.setAsm_kept ..)

theorem State.dropPartials_kept (s0) (q) : Kept s0 (State.dropPartials s0 q) := by
  unfold State.dropPartials
  exact Kept.foldl (.refl _) (fun a2 x3 h1 => Kept.ite ((h1.trans (State.incBy_kept ..)).trans (State.setAsm_kept ..)) h1)

theorem State.flush_kept (s0) (q) (openNow) (toSafe) : Kept s0 (State.flush s0 q openNow toSafe) := by
  unfold State.flush
  extract_lets +onlyGivenNames x1
  extract_lets +onlyGivenNames x2
  have h3 : Kept s0 x2 := (Kept.same)
  extract_lets +onlyGivenNames x4
  extract_lets +onlyGivenNames x5
  have h6 : Kept s0 x5 := h3.trans (State.setQueue_kept ..)
  extract_lets +onlyGivenNames x7
  have h8 : Kept s0 x7 := (h6.trans (State.setFlag_kept ..)).trans (State.setFld_kept ..)
  extract_lets +onlyGivenNames x9
  have h10 : Kept s0 x9 := h8.trans (State.dropPartials_kept ..)
  extract_lets +onlyGivenNames x11
  have h12 : Kept s0 x11 := by
    unfold x11
    split
    · rename_i y13 y14 y15
      exact Kept.ite (h10.trans (State.noteOutcome_kept ..)) h10
    · rename_i y16 y17
      exact h10
  exact Kept.ite (h12.trans (State.modValve_kept ..)) h12

theorem State.endFlush_kept (s0) (q) : Kept s0 (State.endFlush s0 q) := by
  unfold State.endFlush
  extract_lets +onlyGivenNames x1
  refine Kept.ite ?_ ?_
  · extract_lets +onlyGivenNames x2
    exact ((State.setQueue_kept ..).trans (State.update_kept ..)).trans (State.raise_kept ..)
  · exact .refl _

end Sys2Proof.Machine
end

