-- ==== Sys2Proof/Laws/KeptFaults.lean ====
section
/-! SUPPORT. `Kept` holds of the operations of `Machine/Faults.lean`. -/

set_option Elab.async false

namespace Sys2Proof.Machine

open Sys2Proof

theorem State.faultRec_kept (s0) (src) (inst) (ev) (addr) : Kept s0 (State.faultRec s0 src inst ev addr) := by
  unfold State.faultRec
  exact State.errRec_kept ..

theorem State.unknownRec_kept (s0) (src) (inst) (addr) : Kept s0 (State.unknownRec s0 src inst addr) := by
  unfold State.unknownRec
  exact State.faultRec_kept ..

theorem State.reportAt_kept (s0) (src) (inst) (addr) : Kept s0 (State.reportAt s0 src inst addr) := by
  unfold State.reportAt
  extract_lets +onlyGivenNames x1
  have h2 : Kept s0 x1 := State.inc_kept ..
  extract_lets +onlyGivenNames x3 x4 x5 x6
  have h7 : Kept s0 x6 := h2.trans .same
  refine Kept.ite ?_ ?_
  · exact h7
  · refine Kept.ite ?_ ?_
    · extract_lets +onlyGivenNames x8
      extract_lets +onlyGivenNames x9
      have h10 : Kept s0 x9 := h7.trans .same
      extract_lets +onlyGivenNames x11
      have h12 : Kept s0 x11 := h10.trans (State.faultRec_kept ..)
      exact Kept.ite h12 (h12.trans .same)
    · exact h7.trans (State.inc_kept ..)

theorem State.report_kept (s0) (src) (inst) : Kept s0 (State.report s0 src inst) := by
  unfold State.report
  exact State.reportAt_kept ..

theorem State.addrFault_kept (s0) : Kept s0 (State.addrFault s0) := by
  unfold State.addrFault
  exact (State.inc_kept ..).trans (State.report_kept ..)

theorem State.clearOne_kept (s0) (src) (inst) : Kept s0 (State.clearOne s0 src inst) := by
  unfold State.clearOne
  refine Kept.ite ?_ ?_
  · exact .refl _
  · refine Kept.ite ?_ ?_
    · exact State.raise_kept ..
    · extract_lets +onlyGivenNames x1
      extract_lets +onlyGivenNames x2 x3
      have h4 : Kept s0 x3 := (Kept.same)
      extract_lets +onlyGivenNames x5
      have h6 : Kept s0 x5 := h4.trans (State.faultRec_kept ..)
      extract_lets +onlyGivenNames x7
      have h8 : Kept s0 x7 := Kept.ite (h6.trans (State.setFlag_kept ..)) h6
      exact Kept.ite h8 (h8.trans (State.setFlag_kept ..))

theorem State.evalClear_kept (s0) (w) : Kept s0 (State.evalClear s0 w) := by
  unfold State.evalClear
  exact Kept.foldl (.refl _) (fun a2 x3 h1 => h1.trans (State.clearOne_kept ..))

theorem State.evalPlainClears_kept (s0) : Kept s0 (State.evalPlainClears s0) := by
  unfold State.evalPlainClears
  extract_lets +onlyGivenNames x1
  extract_lets +onlyGivenNames x2
  exact Kept.foldl ((Kept.same)) (fun a4 x5 h3 => h3.trans (State.clearOne_kept ..))

theorem State.evalClears_kept (s0) : Kept s0 (State.evalClears s0) := by
  unfold State.evalClears
  extract_lets +onlyGivenNames x1
  exact Kept.foldl ((Kept.same)) (fun a3 x4 h2 => h2.trans (State.evalClear_kept ..))

end Sys2Proof.Machine
end

