-- ==== Sys2Proof/Laws/KeptMem.lean ====
section
/-! SUPPORT. `Kept` holds of the operations of `Machine/Mem.lean`. -/

set_option Elab.async false

namespace Sys2Proof.Machine

open Sys2Proof

theorem State.putSlot_kept (s0) (r) (i) (w) (c) : Kept s0 (State.putSlot s0 r i w c) := by
  unfold State.putSlot
  extract_lets +onlyGivenNames x1
  exact Kept.ite ((Kept.same)) (Kept.ite ((Kept.same)) ((Kept.same)))

theorem State.sramPut_kept (s0) (a) (w) (c) : Kept s0 (State.sramPut s0 a w c) := by
  unfold State.sramPut
  exact Kept.ite (State.putSlot_kept ..) (Kept.ite ((State.setReg_kept ..).trans (State.setChk_kept ..))
      ((State.setMemWord_kept ..).trans (State.setChk_kept ..)))

theorem State.sramWrite_kept (s0) (a) (w) : Kept s0 (State.sramWrite s0 a w) := by
  unfold State.sramWrite
  exact State.sramPut_kept ..

theorem State.parityError_kept (s0) (snap) (mask) (req) (addr) : Kept s0 (State.parityError s0 snap mask req addr) := by
  unfold State.parityError
  extract_lets +onlyGivenNames x1
  have h2 : Kept s0 x1 := Kept.ite (State.inc_kept ..) (State.inc_kept ..)
  extract_lets +onlyGivenNames x3
  have h4 : Kept s0 x3 := h2.trans (State.raise_kept ..)
  extract_lets +onlyGivenNames x5
  have h6 : Kept s0 x5 := h4.trans (State.setReg_kept ..)
  extract_lets +onlyGivenNames x7
  have h8 : Kept s0 x7 := h6.trans (State.setFlag_kept ..)
  extract_lets +onlyGivenNames x9
  have h10 : Kept s0 x9 := h8.trans (State.setFld_kept ..)
  extract_lets +onlyGivenNames x11
  have h12 : Kept s0 x11 := h10.trans (State.setFld_kept ..)
  extract_lets +onlyGivenNames x13
  have h14 : Kept s0 x13 := h12.trans (State.setFld_kept ..)
  extract_lets +onlyGivenNames x15
  have h16 : Kept s0 x15 := h14.trans (State.errRec_kept ..)
  exact h16.trans (State.report_kept ..)

theorem State.checkRead_kept (s0) (c) (req) (addr) : KeptQ s0 (State.checkRead s0 c req addr) := by
  unfold State.checkRead
  exact Kept.ite (KeptQ.mk (State.inc_kept ..)) (Kept.ite (KeptQ.mk (State.parityError_kept ..)) (KeptQ.mk (.refl _)))

theorem State.sramRead_kept (s0) (a) (req) : KeptQ s0 (State.sramRead s0 a req) := by
  unfold State.sramRead
  split
  rename_i y1 y2 y3 y4
  refine Kept.ite ?_ ?_
  · exact KeptQ.mk (.refl _)
  · extract_lets +onlyGivenNames x5
    have h6 : Kept s0 x5 := Kept.ite (.refl _) (State.sramPut_kept ..)
    split
    rename_i y7 y8 y9 y10 y11
    have h12 : Kept s0 y10 := KeptQ.get y11 (KeptQ.trans h6 (State.checkRead_kept ..))
    exact KeptQ.mk h12

theorem State.readRec_kept (s0) (q) (r) : KeptP s0 (State.readRec s0 q r) := by
  unfold State.readRec
  refine Kept.ite ?_ ?_
  · exact KeptP.mk (.refl _)
  · extract_lets +onlyGivenNames x1
    split
    rename_i y2 y3 y4 y5 y6
    have h7 : Kept s0 y5 := KeptQ.get y6 (State.checkRead_kept ..)
    split
    rename_i y8 y9 y10 y11 y12
    have h13 : Kept s0 y11 := KeptQ.get y12 (KeptQ.trans h7 (State.checkRead_kept ..))
    split
    rename_i y14 y15 y16 y17 y18
    have h19 : Kept s0 y17 := KeptQ.get y18 (KeptQ.trans h13 (State.checkRead_kept ..))
    extract_lets +onlyGivenNames x20 x21
    exact KeptP.mk (h19.trans (State.setQueue_kept ..))

theorem State.readRecWords_kept (s0) (q) (req) (r) : KeptP s0 (State.readRecWords s0 q req r) := by
  unfold State.readRecWords
  refine Kept.ite ?_ ?_
  · exact KeptP.mk (.refl _)
  · extract_lets +onlyGivenNames x1
    split
    rename_i y2 y3 y4 y5 y6
    have h7 : Kept s0 y5 := KeptQ.get y6 (State.checkRead_kept ..)
    split
    rename_i y8 y9 y10 y11 y12
    have h13 : Kept s0 y11 := KeptQ.get y12 (KeptQ.trans h7 (State.checkRead_kept ..))
    split
    rename_i y14 y15 y16 y17 y18
    have h19 : Kept s0 y17 := KeptQ.get y18 (KeptQ.trans h13 (State.checkRead_kept ..))
    extract_lets +onlyGivenNames x20 x21
    exact KeptP.mk (h19.trans (State.setQueue_kept ..))

theorem State.readItem_kept (s0) (q) (req) (rs) : KeptP s0 (State.readItem s0 q req rs) := by
  unfold State.readItem
  refine KeptP.foldl ?_ (fun a2 x3 h1 => ?_)
  · exact KeptP.mk (.refl _)
  · split
    rename_i y4 y5 y6 y7
    have h8 : Kept s0 y6 := KeptP.get y7 (KeptP.trans h1 (State.readRecWords_kept ..))
    exact KeptP.mk h8

end Sys2Proof.Machine
end

