-- ==== Sys2Proof/Laws/KeptTime.lean ====
section
/-! SUPPORT. `Kept` holds of the operations of `Machine/Time.lean`. -/

set_option Elab.async false

namespace Sys2Proof.Machine

open Sys2Proof

theorem State.timeStep_kept (s0) (step) : Kept s0 (State.timeStep s0 step) := by
  unfold State.timeStep
  extract_lets +onlyGivenNames x1
  extract_lets +onlyGivenNames x2
  have h3 : Kept s0 x2 := State.setFld_kept ..
  extract_lets +onlyGivenNames x4
  have h5 : Kept s0 x4 := h3.trans .same
  extract_lets +onlyGivenNames x6
  have h7 : Kept s0 x6 := h5.trans (State.inc_kept ..)
  exact h7.trans (State.errRec_kept ..)

theorem State.closeRun_kept (s0) : Kept s0 (State.closeRun s0) := by
  unfold State.closeRun
  extract_lets +onlyGivenNames x1
  exact (Kept.same)

theorem State.chooseFreq_kept (s0) (off) : Kept s0 (State.chooseFreq s0 off) := by
  unfold State.chooseFreq
  split
  rename_i y1 y2 y3 y4
  split
  rename_i y5 y6 y7 y8
  have h9 : Kept s0 y7 := KeptP.get y8 (State.draw_kept ..)
  exact h9.trans .same

theorem State.chooseRate_kept (s0) (off) (ms) : Kept s0 (State.chooseRate s0 off ms) := by
  unfold State.chooseRate
  extract_lets +onlyGivenNames x1
  extract_lets +onlyGivenNames x2
  extract_lets +onlyGivenNames x3
  extract_lets +onlyGivenNames x4
  extract_lets +onlyGivenNames x5
  extract_lets +onlyGivenNames x6
  split
  rename_i y7 y8 y9 y10
  have h11 : Kept s0 y9 := KeptP.get y10 (State.draw_kept ..)
  exact h11.trans (State.setFldI_kept ..)

theorem State.showOffset_kept (s0) (off) : Kept s0 (State.showOffset s0 off) := by
  unfold State.showOffset
  exact State.setFldI_kept ..

theorem State.discipline_kept (s0) (off) (beacons) : Kept s0 (State.discipline s0 off beacons) := by
  unfold State.discipline
  extract_lets +onlyGivenNames x1
  have h2 : Kept s0 x1 := (State.showOffset_kept ..).trans (State.closeRun_kept ..)
  extract_lets +onlyGivenNames x3
  extract_lets +onlyGivenNames x4
  extract_lets +onlyGivenNames x5
  extract_lets +onlyGivenNames x6
  extract_lets +onlyGivenNames x7
  extract_lets +onlyGivenNames x8
  have h9 : Kept s0 x8 := h2.trans (State.chooseFreq_kept ..)
  extract_lets +onlyGivenNames x10
  have h11 : Kept s0 x10 := Kept.ite (h9.trans (State.timeStep_kept ..)) h9
  extract_lets +onlyGivenNames x12
  have h13 : Kept s0 x12 := h11.trans (State.chooseRate_kept ..)
  extract_lets +onlyGivenNames x14
  have h15 : Kept s0 x14 := (h13.trans (State.setFld_kept ..)).trans (State.setFlag_kept ..)
  exact h15.trans .same

theorem State.setWrap_kept (s0) (w) (t) (leap) : Kept s0 (State.setWrap s0 w t leap) := by
  unfold State.setWrap
  extract_lets +onlyGivenNames x1
  have h2 : Kept s0 x1 := (State.setFldI_kept ..).trans (State.setFld_kept ..)
  exact h2.trans .same

theorem State.applyDue_kept (s0) : Kept s0 (State.applyDue s0) := by
  unfold State.applyDue
  split
  · rename_i y1 y2
    exact .refl _
  · rename_i y3 y4 y5
    exact (((Kept.same)).trans (State.discipline_kept ..)).trans (State.setWrap_kept ..)

theorem execHoldoverEntry_kept (s0) : KeptN s0 (execHoldoverEntry s0) := by
  unfold execHoldoverEntry
  refine KeptN.clocked ?_
  split
  · rename_i y1 y2
    exact KeptN.ok (.refl _)
  · rename_i y3 y4 y5
    refine Kept.ite ?_ ?_
    · extract_lets +onlyGivenNames x6
      have h7 : Kept s0 x6 := (State.advCcTo_kept ..).trans (State.closeRun_kept ..)
      split
      rename_i y8 y9 y10 y11
      extract_lets +onlyGivenNames x12
      have h13 : Kept s0 x12 := Kept.ite h7 (h7.trans (State.setFldI_kept ..))
      extract_lets +onlyGivenNames x14 x15
      have h16 : Kept s0 x15 := h13.trans .same
      exact KeptN.ok (h16.trans (State.setFld_kept ..))
    · exact KeptN.ok (.refl _)

theorem execHoldoverExpired_kept (s0) : KeptN s0 (execHoldoverExpired s0) := by
  unfold execHoldoverExpired
  refine KeptN.clocked ?_
  refine Kept.ite ?_ ?_
  · extract_lets +onlyGivenNames x1
    have h2 : Kept s0 x1 := State.advCcTo_kept ..
    exact KeptN.ok (((h2.trans (State.setFld_kept ..)).trans (State.raise_kept ..)).trans (State.report_kept ..))
  · exact KeptN.ok (.refl _)

end Sys2Proof.Machine
end

