-- ==== Sys2Proof/Laws/KeptTravel.lean ====
section
/-! SUPPORT. `Kept` holds of the operations of `Machine/Travel.lean`. -/

set_option Elab.async false

namespace Sys2Proof.Machine

open Sys2Proof

theorem State.correct_kept (s0) (c) : Kept s0 (State.correct s0 c) := by
  unfold State.correct
  extract_lets +onlyGivenNames x1
  refine Kept.ite ?_ ?_
  · exact (Kept.same)
  · extract_lets +onlyGivenNames x2
    have h3 : Kept s0 x2 := State.inc_kept ..
    exact h3.trans .same

theorem State.freshSource_kept (s0) (c) : Kept s0 (State.freshSource s0 c) := by
  unfold State.freshSource
  extract_lets +onlyGivenNames x1
  extract_lets +onlyGivenNames x2
  have h3 : Kept s0 x2 := (Kept.same)
  exact Kept.ite (h3.trans (State.setEnc_kept ..)) (Kept.ite (h3.trans (State.setSs_kept ..)) h3)

theorem State.switchTo_kept (s0) (c) (alt) : Kept s0 (State.switchTo s0 c alt) := by
  unfold State.switchTo
  extract_lets +onlyGivenNames x1
  extract_lets +onlyGivenNames x2
  extract_lets +onlyGivenNames x3
  have h4 : Kept s0 x3 := (Kept.same)
  extract_lets +onlyGivenNames x5
  have h6 : Kept s0 x5 := (h4.trans (State.setFld_kept ..)).trans (State.setFlag_kept ..)
  extract_lets +onlyGivenNames x7
  have h8 : Kept s0 x7 := by
    unfold x7
    split
    · rename_i y9 y10 y11
      exact h6.trans (State.update_kept ..)
    · rename_i y12 y13
      exact h6
  extract_lets +onlyGivenNames x14
  extract_lets +onlyGivenNames x15
  have h16 : Kept s0 x15 := Kept.ite h8 (h8.trans .same)
  exact h16.trans (State.inc_kept ..)

theorem State.setLost_kept (s0) : Kept s0 (State.setLost s0) := by
  unfold State.setLost
  extract_lets +onlyGivenNames x1
  have h2 : Kept s0 x1 := (((State.setFlag_kept ..).trans (State.setFld_kept ..)).trans (State.setFld_kept ..)).trans
      (State.setFlag_kept ..)
  extract_lets +onlyGivenNames x3
  extract_lets +onlyGivenNames x4
  extract_lets +onlyGivenNames x5
  have h6 : Kept s0 x5 := h2.trans .same
  exact h6.trans (State.report_kept ..)

theorem State.actInvalid_kept (s0) : Kept s0 (State.actInvalid s0) := by
  unfold State.actInvalid
  exact Kept.ite (Kept.ite (.refl _) (State.switchTo_kept ..)) (State.setLost_kept ..)

theorem State.tryRegain_kept (s0) : Kept s0 (State.tryRegain s0) := by
  unfold State.tryRegain
  extract_lets +onlyGivenNames x1
  clear_value x1
  split
  · rename_i y2
    exact .refl _
  · rename_i y3 y4
    extract_lets +onlyGivenNames x5
    have h6 : Kept s0 x5 := ((State.setFld_kept ..).trans (State.setFlag_kept ..)).trans (State.setFlag_kept ..)
    extract_lets +onlyGivenNames x7
    have h8 : Kept s0 x7 := h6.trans (State.inc_kept ..)
    extract_lets +onlyGivenNames x9 x10
    have h11 : Kept s0 x10 := h8.trans .same
    extract_lets +onlyGivenNames x12
    have h13 : Kept s0 x12 := by
      unfold x12
      split
      · rename_i y14 y15 y16
        exact h11.trans (State.correct_kept ..)
      · rename_i y17 y18
        exact h11
    exact h13.trans (State.freshSource_kept ..)

theorem State.chooseSource_kept (s0) : Kept s0 (State.chooseSource s0) := by
  unfold State.chooseSource
  extract_lets +onlyGivenNames x1
  extract_lets +onlyGivenNames x2
  extract_lets +onlyGivenNames x3
  have h4 : Kept s0 x3 := (Kept.same)
  exact Kept.ite (h4.trans (State.tryRegain_kept ..)) (Kept.ite (Kept.ite (h4.trans (State.setFlag_kept ..)) (Kept.ite
      (h4.trans (State.switchTo_kept ..)) (h4.trans (State.actInvalid_kept ..)))) (Kept.ite (h4.trans (State.actInvalid_kept
      ..)) h4))

theorem State.assertStill_kept (s0) : Kept s0 (State.assertStill s0) := by
  unfold State.assertStill
  refine Kept.ite ?_ ?_
  · exact .refl _
  · extract_lets +onlyGivenNames x1
    have h2 : Kept s0 x1 := ((State.setFlag_kept ..).trans (State.setFld_kept ..)).trans (State.setFld_kept ..)
    exact h2.trans .same

theorem State.releaseStill_kept (s0) : Kept s0 (State.releaseStill s0) := by
  unfold State.releaseStill
  refine Kept.ite ?_ ?_
  · extract_lets +onlyGivenNames x1
    have h2 : Kept s0 x1 := State.setFlag_kept ..
    exact h2.trans .same
  · exact .refl _

theorem State.releaseByEdges_kept (s0) (n) : Kept s0 (State.releaseByEdges s0 n) := by
  unfold State.releaseByEdges
  split
  · rename_i y1 y2 y3 y4 y5 y6 y7
    exact Kept.ite ((State.setEnc_kept ..).trans (State.releaseStill_kept ..)) (.refl _)
  · rename_i y8 y9
    exact .refl _

theorem State.judgeStill_kept (s0) : Kept s0 (State.judgeStill s0) := by
  unfold State.judgeStill
  extract_lets +onlyGivenNames x1
  refine Kept.ite ?_ ?_
  · exact Kept.ite (State.assertStill_kept ..) (Kept.ite (State.releaseByEdges_kept ..) (.refl _))
  · refine Kept.ite ?_ ?_
    · extract_lets +onlyGivenNames x2
      exact Kept.ite (Kept.ite (State.assertStill_kept ..) (State.releaseStill_kept ..)) (.refl _)
    · split
      · rename_i y3 y4 y5
        exact Kept.ite (State.assertStill_kept ..) (State.releaseStill_kept ..)
      · rename_i y6 y7
        exact .refl _

theorem State.applyCorrection_kept (s0) (raw) : Kept s0 (State.applyCorrection s0 raw) := by
  unfold State.applyCorrection
  extract_lets +onlyGivenNames x1 x2 x3 x4
  refine Kept.ite ?_ ?_
  · exact (Kept.same)
  · extract_lets +onlyGivenNames x5
    have h6 : Kept s0 x5 := State.setFld_kept ..
    exact h6.trans .same

theorem State.countTurns_kept (s0) (prev) : Kept s0 (State.countTurns s0 prev) := by
  unfold State.countTurns
  extract_lets +onlyGivenNames x1
  exact Kept.ite (.refl _) (Kept.ite (State.setFldI_kept ..) (Kept.ite (State.setFldI_kept ..) (.refl _)))

theorem State.estimateSpeed_kept (s0) : Kept s0 (State.estimateSpeed s0) := by
  unfold State.estimateSpeed
  refine Kept.ite ?_ ?_
  · exact .refl _
  · extract_lets +onlyGivenNames x1
    extract_lets +onlyGivenNames x2 x3 x4
    have h5 : Kept s0 x4 := State.setFldI_kept ..
    extract_lets +onlyGivenNames x6
    have h7 : Kept s0 x6 := h5.trans (State.setFldSat_kept ..)
    exact Kept.ite h7 (h7.trans (State.setFlag_kept ..))

theorem State.keepHist_kept (s0) : Kept s0 (State.keepHist s0) := by
  unfold State.keepHist
  extract_lets +onlyGivenNames x1
  exact (Kept.same)

theorem State.sampleTravel_kept (s0) : Kept s0 (State.sampleTravel s0) := by
  unfold State.sampleTravel
  extract_lets +onlyGivenNames x1
  have h2 : Kept s0 x1 := State.chooseSource_kept ..
  refine Kept.ite ?_ ?_
  · exact h2.trans (State.keepHist_kept ..)
  · extract_lets +onlyGivenNames x3
    extract_lets +onlyGivenNames x4
    have h5 : Kept s0 x4 := by
      unfold x4
      split
      · rename_i y6 y7 y8
        exact (h2.trans (State.applyCorrection_kept ..)).trans (State.countTurns_kept ..)
      · rename_i y9 y10
        exact h2
    exact ((h5.trans (State.judgeStill_kept ..)).trans (State.estimateSpeed_kept ..)).trans (State.keepHist_kept ..)

theorem State.countOne_kept (s0) (c) (n) (d) : Kept s0 (State.countOne s0 c n d) := by
  unfold State.countOne
  extract_lets +onlyGivenNames x1 x2 x3 x4 x5 x6
  have h7 : Kept s0 x6 := State.setFldI_kept ..
  extract_lets +onlyGivenNames x8 x9
  have h10 : Kept s0 x9 := h7.trans (State.setEnc_kept ..)
  refine Kept.ite ?_ ?_
  · extract_lets +onlyGivenNames x11
    have h12 : Kept s0 x11 := h10.trans (State.releaseStill_kept ..)
    extract_lets +onlyGivenNames x13 x14
    have h15 : Kept s0 x14 := h12.trans (State.setFldI_kept ..)
    exact Kept.ite h15 (h15.trans (State.setFlag_kept ..))
  · exact h10

theorem State.encLevels_kept (s0) (c) (n) (a) (b) : Kept s0 (State.encLevels s0 c n a b) := by
  unfold State.encLevels
  extract_lets +onlyGivenNames x1 x2 x3
  have h4 : Kept s0 x3 := State.setEnc_kept ..
  clear_value x2
  split
  · rename_i y5
    exact (h4.trans (State.inc_kept ..)).trans (State.report_kept ..)
  · rename_i y6 y7
    exact Kept.ite h4 (h4.trans (State.countOne_kept ..))

theorem State.indexTaken_kept (s0) (n) : Kept s0 (State.indexTaken s0 n) := by
  unfold State.indexTaken
  extract_lets +onlyGivenNames x1 x2
  refine Kept.ite ?_ ?_
  · extract_lets +onlyGivenNames x3
    have h4 : Kept s0 x3 := State.setFld_kept ..
    refine Kept.ite ?_ ?_
    · extract_lets +onlyGivenNames x5
      extract_lets +onlyGivenNames x6
      have h7 : Kept s0 x6 := h4.trans (State.setFld_kept ..)
      extract_lets +onlyGivenNames x8
      have h9 : Kept s0 x8 := (h7.trans (State.update_kept ..)).trans (State.raise_kept ..)
      exact Kept.ite (h9.trans (State.correct_kept ..)) h9
    · exact h4
  · exact .refl _

theorem State.settleOne_kept (s0) (n) (c) : Kept s0 (State.settleOne s0 n c) := by
  unfold State.settleOne
  extract_lets +onlyGivenNames x1
  extract_lets +onlyGivenNames x2
  extract_lets +onlyGivenNames x3
  extract_lets +onlyGivenNames x4
  extract_lets +onlyGivenNames x5
  have h6 : Kept s0 x5 := by
    unfold x5
    split
    · rename_i y7 y8 y9
      exact Kept.ite ((State.setEnc_kept ..).trans (State.indexTaken_kept ..)) (.refl _)
    · rename_i y10 y11
      exact .refl _
  exact h6.trans (State.encLevels_kept ..)

theorem State.settle_kept (s0) (n) (lim) : Kept s0 (State.settle s0 n lim) := by
  unfold State.settle
  refine Kept.foldl ?_ (fun a2 x3 h1 => ?_)
  · exact .refl _
  · split
    · rename_i y4 y5 y6
      exact Kept.ite (h1.trans (State.settleOne_kept ..)) h1
    · rename_i y7 y8
      exact h1

theorem State.settleAll_kept (s0) : Kept s0 (State.settleAll s0) := by
  unfold State.settleAll
  exact Kept.foldl (.refl _) (fun a2 x3 h1 => h1.trans (State.settle_kept ..))

theorem State.filterFor_kept (s0) (n) (dt) : Kept s0 (State.filterFor s0 n dt) := by
  unfold State.filterFor
  extract_lets +onlyGivenNames x1
  extract_lets +onlyGivenNames x2
  have h3 : Kept s0 x2 := by
    unfold x2
    refine Kept.foldl ?_ (fun a5 x6 h4 => ?_)
    · exact .refl _
    · split
      · rename_i y7 y8 y9
        exact Kept.ite (((h4.trans (State.advCcTo_kept ..)).trans (State.settleOne_kept ..)).trans (State.completed_kept
            ..)) h4
      · rename_i y10 y11
        exact h4
  exact h3.trans (State.advCcTo_kept ..)

theorem State.lines_kept (s0) (n) (a) (b) : Kept s0 (State.lines s0 n a b) := by
  unfold State.lines
  extract_lets +onlyGivenNames x1
  exact State.setEnc_kept ..

theorem execEncoderEdge_kept (n) (a) (b) (gap) (s0) : KeptN s0 (execEncoderEdge n a b gap s0) := by
  unfold execEncoderEdge
  exact KeptN.clocked (KeptN.ok (((State.settle_kept ..).trans (State.lines_kept ..)).trans (State.filterFor_kept ..)))

theorem execIndexEdge_kept (n) (a) (b) (gap) (s0) : KeptN s0 (execIndexEdge n a b gap s0) := by
  unfold execIndexEdge
  refine KeptN.clocked ?_
  extract_lets +onlyGivenNames x1
  have h2 : Kept s0 x1 := (State.settle_kept ..).trans (State.lines_kept ..)
  exact KeptN.ok ((h2.trans (State.setEnc_kept ..)).trans (State.filterFor_kept ..))

theorem execLineBreak_kept (n) (s0) : KeptN s0 (execLineBreak n s0) := by
  unfold execLineBreak
  exact KeptN.clocked (Kept.ite (KeptN.ok (.refl _)) (KeptN.ok (((State.setFlag_kept ..).trans (State.setEnc_kept ..)).trans
      (State.completed_kept ..))))

theorem execLineBreakEnd_kept (n) (s0) : KeptN s0 (execLineBreakEnd n s0) := by
  unfold execLineBreakEnd
  exact KeptN.clocked (KeptN.ok (((State.setFlag_kept ..).trans (State.setEnc_kept ..)).trans (State.completed_kept ..)))

theorem execSsiReadStart_kept (n) (s0) : KeptN s0 (execSsiReadStart n s0) := by
  unfold execSsiReadStart
  refine KeptN.clocked ?_
  extract_lets +onlyGivenNames x1
  refine Kept.ite ?_ ?_
  · exact KeptN.ok (.refl _)
  · extract_lets +onlyGivenNames x2
    have h3 : Kept s0 x2 := by
      unfold x2
      split
      · rename_i y4 y5 y6
        exact State.advCcTo_kept ..
      · rename_i y7 y8
        exact .refl _
    extract_lets +onlyGivenNames x9 x10
    have h11 : Kept s0 x10 := h3.trans (State.advTo_kept ..)
    exact KeptN.ok (h11.trans (State.setSs_kept ..))

theorem execSsiReadComplete_kept (n) (low) (data) (par) (s0) : KeptN s0 (execSsiReadComplete n low data par s0) := by
  unfold execSsiReadComplete
  refine KeptN.clocked ?_
  extract_lets +onlyGivenNames x1
  split
  · rename_i y2 y3
    exact KeptN.ok (.refl _)
  · rename_i y4 y5 y6
    refine Kept.ite ?_ ?_
    · exact KeptN.ok (.refl _)
    · extract_lets +onlyGivenNames x7 x8 x9 x10
      have h11 : Kept s0 x10 := State.advCcTo_kept ..
      extract_lets +onlyGivenNames x12 x13 x14 x15 x16
      refine Kept.ite ?_ ?_
      · extract_lets +onlyGivenNames x17
        have h18 : Kept s0 x17 := h11.trans (State.inc_kept ..)
        extract_lets +onlyGivenNames x19
        have h20 : Kept s0 x19 := h18.trans (State.setSs_kept ..)
        exact KeptN.ok ((Kept.ite (h20.trans (State.setFlag_kept ..)) h20).trans (State.completed_kept ..))
      · extract_lets +onlyGivenNames x21
        extract_lets +onlyGivenNames x22 x23
        have h24 : Kept s0 x23 := h11.trans (State.setFldI_kept ..)
        extract_lets +onlyGivenNames x25
        have h26 : Kept s0 x25 := h24.trans (State.setSs_kept ..)
        exact KeptN.ok ((Kept.ite (h26.trans (State.setFlag_kept ..)) h26).trans (State.completed_kept ..))

theorem State.toTick_kept (s0) : Kept s0 (State.toTick s0) := by
  unfold State.toTick
  exact State.advTo_kept ..

theorem execSourceInvalid_kept (s0) : KeptN s0 (execSourceInvalid s0) := by
  unfold execSourceInvalid
  refine KeptN.clocked ?_
  refine Kept.ite ?_ ?_
  · exact KeptN.ok (.refl _)
  · extract_lets +onlyGivenNames x1
    extract_lets +onlyGivenNames x2
    have h3 : Kept s0 x2 := by
      unfold x2
      refine Kept.ite ?_ ?_
      · split
        · rename_i y4 y5 y6
          exact State.advCcTo_kept ..
        · rename_i y7 y8
          exact .refl _
      · refine Kept.ite ?_ ?_
        · split
          · rename_i y9 y10 y11
            exact State.advCcTo_kept ..
          · rename_i y12 y13
            exact .refl _
        · exact .refl _
    exact KeptN.ok (Kept.ite ((h3.trans (State.toTick_kept ..)).trans (State.actInvalid_kept ..)) h3)

theorem execBeaconLoss_kept (s0) : KeptN s0 (execBeaconLoss s0) := by
  unfold execBeaconLoss
  exact KeptN.clocked (Kept.ite (KeptN.ok (.refl _)) (KeptN.ok (((State.advCcTo_kept ..).trans (State.toTick_kept ..)).trans
      (State.actInvalid_kept ..))))

theorem execStandstillAssert_kept (s0) : KeptN s0 (execStandstillAssert s0) := by
  unfold execStandstillAssert
  refine KeptN.clocked ?_
  refine Kept.ite ?_ ?_
  · exact KeptN.ok (.refl _)
  · extract_lets +onlyGivenNames x1
    refine Kept.ite ?_ ?_
    · extract_lets +onlyGivenNames x2
      have h3 : Kept s0 x2 := State.settle_kept ..
      exact KeptN.ok (Kept.ite h3 ((h3.trans (State.advCcTo_kept ..)).trans (State.assertStill_kept ..)))
    · exact KeptN.ok (State.judgeStill_kept ..)

theorem State.msDebounce_kept (s0) (lv) (k) : Kept s0 (State.msDebounce s0 lv k) := by
  unfold State.msDebounce
  extract_lets +onlyGivenNames x1 x2 x3 x4
  refine Kept.ite ?_ ?_
  · unfold x4
    exact (Kept.same)
  · refine Kept.ite ?_ ?_
    · unfold x4
      exact (State.setFld_kept ..).trans .same
    · unfold x4
      exact (Kept.same)

theorem State.setHit_kept (s0) (m) (b) : Kept s0 (State.setHit s0 m b) := by
  unfold State.setHit
  exact (Kept.same)

theorem State.dcSample_kept (s0) (m) : Kept s0 (State.dcSample s0 m) := by
  unfold State.dcSample
  extract_lets +onlyGivenNames x1 x2 x3
  have h4 : Kept s0 x3 := (Kept.same)
  refine Kept.ite ?_ ?_
  · exact ((h4.trans (State.setFld_kept ..)).trans (State.setFlag_kept ..)).trans (State.setHit_kept ..)
  · extract_lets +onlyGivenNames x5
    have h6 : Kept s0 x5 := Kept.ite ((h4.trans (State.setFld_kept ..)).trans (State.setHit_kept ..)) h4
    extract_lets +onlyGivenNames x7 x8 x9
    have h10 : Kept s0 x9 := h6.trans (State.setFld_kept ..)
    extract_lets +onlyGivenNames x11 x12 x13
    have h14 : Kept s0 x13 := (h6.trans (State.setFld_kept ..)).trans (State.setHit_kept ..)
    extract_lets +onlyGivenNames x15
    have h16 : Kept s0 x15 := Kept.ite (Kept.ite (((h10.trans (State.setFlag_kept ..)).trans (State.setHit_kept ..)).trans
        (State.report_kept ..)) h10) (Kept.ite ((h14.trans (State.inc_kept ..)).trans (State.report_kept ..)) h14)
    exact h16.trans (State.setFlag_kept ..)

theorem State.msInstant_kept (s0) (raw) : Kept s0 (State.msInstant s0 raw) := by
  unfold State.msInstant
  extract_lets +onlyGivenNames x1
  have h2 : Kept s0 x1 := State.setFld_kept ..
  extract_lets +onlyGivenNames x3
  extract_lets +onlyGivenNames x4
  have h5 : Kept s0 x4 := Kept.foldl h2 (fun a7 x8 h6 => h6.trans (State.msDebounce_kept ..))
  exact Kept.foldl (h5.trans (State.evalClears_kept ..)) (fun a10 x11 h9 => h9.trans (State.dcSample_kept ..))

end Sys2Proof.Machine
end

