-- ==== Sys2Proof/Laws/KeptValve.lean ====
section
/-! SUPPORT. `Kept` holds of the operations of `Machine/Valve.lean`. -/

set_option Elab.async false

namespace Sys2Proof.Machine

open Sys2Proof

theorem State.setChSt_kept (s0) (n) (k) : Kept s0 (State.setChSt s0 n k) := by
  unfold State.setChSt
  extract_lets +onlyGivenNames x1
  extract_lets +onlyGivenNames x2
  extract_lets +onlyGivenNames x3
  have h4 : Kept s0 x3 := State.setFld_kept ..
  exact h4.trans .same

theorem State.creditOpen_kept (s0) (n) (c) (est) : Kept s0 (State.creditOpen s0 n c est) := by
  unfold State.creditOpen
  exact State.modValve_kept ..

theorem State.creditClose_kept (s0) (n) (c) (est) : Kept s0 (State.creditClose s0 n c est) := by
  unfold State.creditClose
  exact State.modValve_kept ..

theorem State.creditHold_kept (s0) (n) (c) : Kept s0 (State.creditHold s0 n c) := by
  unfold State.creditHold
  exact State.modValve_kept ..

theorem State.creditTurnOff_kept (s0) (n) : Kept s0 (State.creditTurnOff s0 n) := by
  unfold State.creditTurnOff
  split
  · rename_i y1 y2
    exact .refl _
  · rename_i y3 y4 y5
    exact State.creditClose_kept ..

theorem State.coastPeriod_kept (s0) (n) (c0) (c1) : Kept s0 (State.coastPeriod s0 n c0 c1) := by
  unfold State.coastPeriod
  extract_lets +onlyGivenNames x1
  extract_lets +onlyGivenNames x2
  exact State.modValve_kept ..

theorem State.coast_kept (s0) (n) : Kept s0 (State.coast s0 n) := by
  unfold State.coast
  exact State.coastPeriod_kept ..

theorem State.dropOdet_kept (s0) (n) : Kept s0 (State.dropOdet s0 n) := by
  unfold State.dropOdet
  exact State.modValve_kept ..

theorem State.dropCdet_kept (s0) (n) : Kept s0 (State.dropCdet s0 n) := by
  unfold State.dropCdet
  split
  · rename_i y1 y2
    exact .refl _
  · rename_i y3 y4 y5
    exact (State.modValve_kept ..).trans (State.creditClose_kept ..)

theorem State.stopProgram_kept (s0) (n) : Kept s0 (State.stopProgram s0 n) := by
  unfold State.stopProgram
  extract_lets +onlyGivenNames x1
  have h2 : Kept s0 x1 := ((State.setFlag_kept ..).trans (State.setFld_kept ..)).trans (State.setFld_kept ..)
  extract_lets +onlyGivenNames x3
  have h4 : Kept s0 x3 := h2.trans (State.setFld_kept ..)
  extract_lets +onlyGivenNames x5
  extract_lets +onlyGivenNames x6
  have h7 : Kept s0 x6 := h4.trans (State.setFld_kept ..)
  exact h7.trans (State.modValve_kept ..)

theorem State.enterOff_kept (s0) (n) : Kept s0 (State.enterOff s0 n) := by
  unfold State.enterOff
  exact (State.setChSt_kept ..).trans (State.modValve_kept ..)

theorem State.intoSafe_kept (s0) (n) : Kept s0 (State.intoSafe s0 n) := by
  unfold State.intoSafe
  exact (State.stopProgram_kept ..).trans (State.setChSt_kept ..)

theorem State.tellClosed_kept (s0) (n) : Kept s0 (State.tellClosed s0 n) := by
  unfold State.tellClosed
  exact State.modValve_kept ..

theorem State.turnOff_kept (s0) (n) : Kept s0 (State.turnOff s0 n) := by
  unfold State.turnOff
  extract_lets +onlyGivenNames x1
  extract_lets +onlyGivenNames x2
  extract_lets +onlyGivenNames x3
  have h4 : Kept s0 x3 := ((State.dropOdet_kept ..).trans (State.creditTurnOff_kept ..)).trans (State.dropCdet_kept ..)
  exact Kept.ite (h4.trans (State.intoSafe_kept ..)) ((h4.trans (State.stopProgram_kept ..)).trans (State.enterOff_kept ..))

theorem State.loseState_kept (s0) (n) : Kept s0 (State.loseState s0 n) := by
  unfold State.loseState
  exact (State.modValve_kept ..).trans (State.stopProgram_kept ..)

theorem State.turnOffUnknown_kept (s0) (n) : Kept s0 (State.turnOffUnknown s0 n) := by
  unfold State.turnOffUnknown
  exact ((State.dropOdet_kept ..).trans (State.modValve_kept ..)).trans (State.loseState_kept ..)

theorem State.noteError_kept (s0) (n) (code) : Kept s0 (State.noteError s0 n code) := by
  unfold State.noteError
  extract_lets +onlyGivenNames x1
  have h2 : Kept s0 x1 := (State.raise_kept ..).trans (State.inc_kept ..)
  exact (h2.trans (State.setFld_kept ..)).trans (State.setFld_kept ..)

theorem State.poisonOff_kept (s0) (n) : Kept s0 (State.poisonOff s0 n) := by
  unfold State.poisonOff
  extract_lets +onlyGivenNames x1
  have h2 : Kept s0 x1 := Kept.ite (State.turnOffUnknown_kept ..) (((State.creditTurnOff_kept ..).trans (State.dropOdet_kept
      ..)).trans (State.dropCdet_kept ..))
  extract_lets +onlyGivenNames x3
  have h4 : Kept s0 x3 := (h2.trans (State.intoSafe_kept ..)).trans (State.tellClosed_kept ..)
  extract_lets +onlyGivenNames x5
  have h6 : Kept s0 x5 := Kept.ite (h4.trans (State.unknownRec_kept ..)) h4
  exact h6.trans (State.reportAt_kept ..)

theorem State.poisonStop_kept (s0) (n) : Kept s0 (State.poisonStop s0 n) := by
  unfold State.poisonStop
  exact (State.noteError_kept ..).trans (State.poisonOff_kept ..)

theorem State.readSlot_kept (s0) (n) (slot) : KeptP s0 (State.readSlot s0 n slot) := by
  unfold State.readSlot
  refine Kept.ite ?_ ?_
  · exact KeptP.mk (.refl _)
  · split
    rename_i y1 y2 y3 y4 y5
    have h6 : Kept s0 y4 := KeptQ.get y5 (State.sramRead_kept ..)
    exact Kept.ite (KeptP.mk h6) (Kept.ite (KeptP.mk h6) (KeptP.mk h6))

theorem State.beginProgram_kept (s0) (n) (k) (slot) (pc) (recovery) : Kept s0 (State.beginProgram s0 n k slot pc recovery)
    := by
  unfold State.beginProgram
  extract_lets +onlyGivenNames x1
  extract_lets +onlyGivenNames x2
  have h3 : Kept s0 x2 := Kept.ite (State.dropCdet_kept ..) (State.dropOdet_kept ..)
  extract_lets +onlyGivenNames x4
  have h5 : Kept s0 x4 := Kept.ite (h3.trans (State.setFld_kept ..)) ((h3.trans (State.dropCdet_kept ..)).trans
      (State.setFld_kept ..))
  extract_lets +onlyGivenNames x6
  have h7 : Kept s0 x6 := h5.trans (State.setChSt_kept ..)
  extract_lets +onlyGivenNames x8
  extract_lets +onlyGivenNames x9
  have h10 : Kept s0 x9 := ((h7.trans (State.setFld_kept ..)).trans (State.setFld_kept ..)).trans (State.setFlag_kept ..)
  extract_lets +onlyGivenNames x11
  have h12 : Kept s0 x11 := (h10.trans (State.setFlag_kept ..)).trans (State.setFlag_kept ..)
  extract_lets +onlyGivenNames x13
  have h14 : Kept s0 x13 := (h12.trans (State.setFlag_kept ..)).trans (State.setFld_kept ..)
  extract_lets +onlyGivenNames x15
  have h16 : Kept s0 x15 := h14.trans (State.setFld_kept ..)
  extract_lets +onlyGivenNames x17
  have h18 : Kept s0 x17 := h16.trans (State.setFld_kept ..)
  extract_lets +onlyGivenNames x19
  extract_lets +onlyGivenNames x20
  have h21 : Kept s0 x20 := h18.trans (State.setFld_kept ..)
  exact h21.trans (State.modValve_kept ..)

theorem State.safeInvalid_kept (s0) (n) (why) (recovery) : Kept s0 (State.safeInvalid s0 n why recovery) := by
  unfold State.safeInvalid
  extract_lets +onlyGivenNames x1
  have h2 : Kept s0 x1 := (State.noteError_kept ..).trans (State.turnOffUnknown_kept ..)
  extract_lets +onlyGivenNames x3
  have h4 : Kept s0 x3 := h2.trans (State.unknownRec_kept ..)
  extract_lets +onlyGivenNames x5
  have h6 : Kept s0 x5 := Kept.ite (h4.trans (State.enterOff_kept ..)) (h4.trans (State.setChSt_kept ..))
  exact h6.trans (State.report_kept ..)

theorem State.startSafe_kept (s0) (n) (why) (recovery) : Kept s0 (State.startSafe s0 n why recovery) := by
  unfold State.startSafe
  split
  · rename_i y1 y2 y3 y4
    have h5 : Kept s0 y3 := KeptP.get y4 (State.readSlot_kept ..)
    extract_lets +onlyGivenNames x6
    exact (h5.trans (State.beginProgram_kept ..)).trans (State.modValve_kept ..)
  · rename_i y7 y8 y9
    have h10 : Kept s0 y8 := KeptP.get y9 (State.readSlot_kept ..)
    exact h10.trans (State.safeInvalid_kept ..)
  · rename_i y11 y12 y13
    have h14 : Kept s0 y12 := KeptP.get y13 (State.readSlot_kept ..)
    exact h14.trans (State.poisonStop_kept ..)

theorem State.startClose_kept (s0) (n) (prog) : Kept s0 (State.startClose s0 n prog) := by
  unfold State.startClose
  extract_lets +onlyGivenNames x1 x2
  split
  · rename_i y3 y4 y5 y6
    have h7 : Kept s0 y5 := KeptP.get y6 (State.readSlot_kept ..)
    exact h7.trans (State.beginProgram_kept ..)
  · rename_i y8 y9 y10
    have h11 : Kept s0 y9 := KeptP.get y10 (State.readSlot_kept ..)
    exact h11.trans (State.poisonStop_kept ..)
  · rename_i y12 y13 y14
    have h15 : Kept s0 y13 := KeptP.get y14 (State.readSlot_kept ..)
    extract_lets +onlyGivenNames x16
    have h17 : Kept s0 x16 := (h15.trans (State.noteError_kept ..)).trans (State.report_kept ..)
    split
    · rename_i y18 y19 y20 y21
      have h22 : Kept s0 y20 := KeptP.get y21 (KeptP.trans h17 (State.readSlot_kept ..))
      exact h22.trans (State.beginProgram_kept ..)
    · rename_i y23 y24 y25
      have h26 : Kept s0 y24 := KeptP.get y25 (KeptP.trans h17 (State.readSlot_kept ..))
      exact h26.trans (State.poisonOff_kept ..)
    · rename_i y27 y28 y29
      have h30 : Kept s0 y28 := KeptP.get y29 (KeptP.trans h17 (State.readSlot_kept ..))
      exact h30.trans (State.turnOff_kept ..)

theorem State.startOpen_kept (s0) (n) (prog) : Kept s0 (State.startOpen s0 n prog) := by
  unfold State.startOpen
  extract_lets +onlyGivenNames x1
  split
  · rename_i y2 y3 y4 y5
    have h6 : Kept s0 y4 := KeptP.get y5 (State.readSlot_kept ..)
    exact h6.trans (State.beginProgram_kept ..)
  · rename_i y7 y8 y9
    have h10 : Kept s0 y8 := KeptP.get y9 (State.readSlot_kept ..)
    exact h10.trans (State.poisonStop_kept ..)
  · rename_i y11 y12 y13
    have h14 : Kept s0 y12 := KeptP.get y13 (State.readSlot_kept ..)
    exact ((h14.trans (State.noteError_kept ..)).trans (State.tellClosed_kept ..)).trans (State.report_kept ..)

theorem State.afterError_kept (s0) (n) : Kept s0 (State.afterError s0 n) := by
  unfold State.afterError
  extract_lets +onlyGivenNames x1 x2
  refine Kept.ite ?_ ?_
  · exact Kept.ite (((State.tellClosed_kept ..).trans (State.dropOdet_kept ..)).trans (State.startSafe_kept ..))
        ((State.turnOff_kept ..).trans (State.tellClosed_kept ..))
  · extract_lets +onlyGivenNames x3
    refine Kept.ite ?_ ?_
    · extract_lets +onlyGivenNames x4
      have h5 : Kept s0 x4 := Kept.ite (State.turnOffUnknown_kept ..) ((State.dropOdet_kept ..).trans (State.loseState_kept
          ..))
      extract_lets +onlyGivenNames x6
      have h7 : Kept s0 x6 := h5.trans (State.unknownRec_kept ..)
      exact Kept.ite (h7.trans (State.setChSt_kept ..)) ((h7.trans (State.enterOff_kept ..)).trans (State.coast_kept ..))
    · exact Kept.ite (State.turnOff_kept ..) ((((State.creditTurnOff_kept ..).trans (State.stopProgram_kept ..)).trans
          (State.enterOff_kept ..)).trans (State.coast_kept ..))

theorem State.progError_kept (s0) (n) (code) : Kept s0 (State.progError s0 n code) := by
  unfold State.progError
  exact ((State.noteError_kept ..).trans (State.report_kept ..)).trans (State.afterError_kept ..)

theorem State.enterSafe_kept (s0) (ch) (why) : Kept s0 (State.enterSafe s0 ch why) := by
  unfold State.enterSafe
  extract_lets +onlyGivenNames x1 x2
  refine Kept.ite ?_ ?_
  · exact .refl _
  · extract_lets +onlyGivenNames x3
    have h4 : Kept s0 x3 := State.tellClosed_kept ..
    refine Kept.ite ?_ ?_
    · extract_lets +onlyGivenNames x5
      have h6 : Kept s0 x5 := ((h4.trans (State.creditTurnOff_kept ..)).trans (State.dropOdet_kept ..)).trans
          (State.dropCdet_kept ..)
      exact h6.trans (State.intoSafe_kept ..)
    · refine Kept.ite ?_ ?_
      · extract_lets +onlyGivenNames x7
        have h8 : Kept s0 x7 := (h4.trans (State.turnOffUnknown_kept ..)).trans (State.setChSt_kept ..)
        exact h8.trans (State.unknownRec_kept ..)
      · exact Kept.ite (h4.trans (State.modValve_kept ..)) (Kept.ite ((h4.trans (State.dropCdet_kept ..)).trans
            (State.intoSafe_kept ..)) (h4.trans (State.startSafe_kept ..)))

theorem State.safeClr_kept (s0) (ch) : Kept s0 (State.safeClr s0 ch) := by
  unfold State.safeClr
  extract_lets +onlyGivenNames x1
  exact Kept.ite (State.enterOff_kept ..) (.refl _)

theorem State.showLatency_kept (s0) (n) : Kept s0 (State.showLatency s0 n) := by
  unfold State.showLatency
  exact (State.setFldI_kept ..).trans (State.setFldI_kept ..)

theorem State.judgeBand_kept (s0) (n) (open_) : Kept s0 (State.judgeBand s0 n open_) := by
  unfold State.judgeBand
  extract_lets +onlyGivenNames x1
  extract_lets +onlyGivenNames x2
  extract_lets +onlyGivenNames x3
  extract_lets +onlyGivenNames x4
  extract_lets +onlyGivenNames x5
  have h6 : Kept s0 x5 := State.setValve_kept ..
  exact Kept.ite ((h6.trans (State.raise_kept ..)).trans (State.report_kept ..)) h6

theorem State.learn_kept (s0) (n) (open_) (lat) : Kept s0 (State.learn s0 n open_ lat) := by
  unfold State.learn
  refine Kept.ite ?_ ?_
  · exact .refl _
  · extract_lets +onlyGivenNames x1
    extract_lets +onlyGivenNames x2 x3 x4 x5 x6 x7 x8 x9 x10
    have h11 : Kept s0 x10 := State.inc_kept ..
    extract_lets +onlyGivenNames x12 x13
    have h14 : Kept s0 x13 := by
      unfold x13
      refine Kept.ite ?_ ?_
      · refine Kept.trans ?_ (State.setFld_kept ..)
        unfold x8
        exact State.modValve_kept ..
      · refine Kept.ite ?_ ?_
        · refine Kept.ite ?_ ?_
          · refine Kept.trans ?_ (State.setFld_kept ..)
            unfold x8
            exact h11.trans (State.modValve_kept ..)
          · unfold x8
            exact h11.trans (State.modValve_kept ..)
        · refine Kept.trans ?_ (State.inc_kept ..)
          unfold x8
          exact State.modValve_kept ..
    exact ((h14.trans (State.showLatency_kept ..)).trans (State.mark_kept ..)).trans (State.judgeBand_kept ..)

theorem State.openResult_kept (s0) (n) (res) (lat) (start) : Kept s0 (State.openResult s0 n res lat start) := by
  unfold State.openResult
  extract_lets +onlyGivenNames x1
  have h2 : Kept s0 x1 := State.setFld_kept ..
  extract_lets +onlyGivenNames x3
  have h4 : Kept s0 x3 := h2.trans (State.modValve_kept ..)
  extract_lets +onlyGivenNames x5
  have h6 : Kept s0 x5 := h4.trans (State.modValve_kept ..)
  refine Kept.ite ?_ ?_
  · extract_lets +onlyGivenNames x7
    have h8 : Kept s0 x7 := h6.trans (State.setFld_kept ..)
    exact (h8.trans (State.creditOpen_kept ..)).trans (State.learn_kept ..)
  · extract_lets +onlyGivenNames x9
    have h10 : Kept s0 x9 := h6.trans (State.creditOpen_kept ..)
    exact Kept.ite ((h10.trans (State.inc_kept ..)).trans (State.report_kept ..)) h10

theorem State.closeResult_kept (s0) (n) (res) (lat) (start) : Kept s0 (State.closeResult s0 n res lat start) := by
  unfold State.closeResult
  extract_lets +onlyGivenNames x1
  have h2 : Kept s0 x1 := State.setFld_kept ..
  extract_lets +onlyGivenNames x3
  have h4 : Kept s0 x3 := h2.trans (State.modValve_kept ..)
  refine Kept.ite ?_ ?_
  · extract_lets +onlyGivenNames x5
    have h6 : Kept s0 x5 := h4.trans (State.setFld_kept ..)
    extract_lets +onlyGivenNames x7
    have h8 : Kept s0 x7 := Kept.ite h6 (h6.trans (State.creditClose_kept ..))
    exact h8.trans (State.learn_kept ..)
  · extract_lets +onlyGivenNames x9
    have h10 : Kept s0 x9 := Kept.ite h4 (h4.trans (State.creditClose_kept ..))
    exact Kept.ite ((h10.trans (State.inc_kept ..)).trans (State.report_kept ..)) h10

theorem State.feedOne_kept (s0) (n) (x) : Kept s0 (State.feedOne s0 n x) := by
  unfold State.feedOne
  extract_lets +onlyGivenNames x1
  extract_lets +onlyGivenNames x2
  have h3 : Kept s0 x2 := State.advCcTo_kept ..
  extract_lets +onlyGivenNames x4
  extract_lets +onlyGivenNames x5
  extract_lets +onlyGivenNames x6
  have h7 : Kept s0 x6 := h3.trans (State.setFldI_kept ..)
  extract_lets +onlyGivenNames x8
  have h9 : Kept s0 x8 := h7.trans (State.setFld_kept ..)
  extract_lets +onlyGivenNames x10
  extract_lets +onlyGivenNames x11
  extract_lets +onlyGivenNames x12
  extract_lets +onlyGivenNames x13
  extract_lets +onlyGivenNames x14
  extract_lets +onlyGivenNames x15
  exact h9.trans (State.setValve_kept ..)

theorem State.feedFrom_kept (s0) (n) (base) (xs) : Kept s0 (State.feedFrom s0 n base xs) := by
  unfold State.feedFrom
  extract_lets +onlyGivenNames x1
  have h2 : Kept s0 x1 := State.modValve_kept ..
  exact Kept.foldl h2 (fun a4 x5 h3 => h3.trans (State.feedOne_kept ..))

theorem State.feed_kept (s0) (n) (xs) : Kept s0 (State.feed s0 n xs) := by
  unfold State.feed
  exact State.feedFrom_kept ..

theorem State.maskPeriod_kept (s0) (n) (c0) (c1) : Kept s0 (State.maskPeriod s0 n c0 c1) := by
  unfold State.maskPeriod
  extract_lets +onlyGivenNames x1
  extract_lets +onlyGivenNames x2
  extract_lets +onlyGivenNames x3
  extract_lets +onlyGivenNames x4
  extract_lets +onlyGivenNames x5
  exact State.modValve_kept ..

theorem State.setDuty_kept (s0) (n) (c0) (c1) : Kept s0 (State.setDuty s0 n c0 c1) := by
  unfold State.setDuty
  exact (State.setFld_kept ..).trans (State.maskPeriod_kept ..)

theorem State.showTgt_kept (s0) (n) : Kept s0 (State.showTgt s0 n) := by
  unfold State.showTgt
  exact State.setFld_kept ..

theorem State.judgePeak_kept (s0) (n) : Kept s0 (State.judgePeak s0 n) := by
  unfold State.judgePeak
  extract_lets +onlyGivenNames x1
  extract_lets +onlyGivenNames x2
  extract_lets +onlyGivenNames x3
  extract_lets +onlyGivenNames x4
  extract_lets +onlyGivenNames x5
  extract_lets +onlyGivenNames x6
  exact Kept.ite (State.setValve_kept ..) (Kept.ite ((State.setValve_kept ..).trans (State.inc_kept ..))
      (State.setValve_kept ..))

end Sys2Proof.Machine
end

