-- ==== Sys2Proof/Laws/KeptControl.lean ====
section
/-! SUPPORT. `Kept` holds of the operations of `Machine/Control.lean`. -/

set_option Elab.async false

namespace Sys2Proof.Machine

open Sys2Proof

theorem State.modStg_kept (s0) (k) (f) : Kept s0 (State.modStg s0 k f) := by
  unfold State.modStg
  exact (Kept.same)

theorem State.setOut_kept (s0) (d) (raw) : Kept s0 (State.setOut s0 d raw) := by
  unfold State.setOut
  extract_lets +onlyGivenNames x1
  exact (Kept.same)

theorem State.driveSafe_kept (s0) (k) : Kept s0 (State.driveSafe s0 k) := by
  unfold State.driveSafe
  refine Kept.foldl ?_ (fun a2 x3 h1 => ?_)
  · exact .refl _
  · extract_lets +onlyGivenNames x4
    exact Kept.ite (h1.trans (State.setOut_kept ..)) h1

theorem State.setTrc_kept (s0) (b) (t) : Kept s0 (State.setTrc s0 b t) := by
  unfold State.setTrc
  exact (Kept.same)

theorem State.traceEvent_kept (s0) (m) : Kept s0 (State.traceEvent s0 m) := by
  unfold State.traceEvent
  exact Kept.foldl (.refl _) (fun a2 x3 h1 => Kept.ite (h1.trans (State.setTrc_kept ..)) h1)

theorem State.abortInj_kept (s0) : Kept s0 (State.abortInj s0) := by
  unfold State.abortInj
  exact Kept.ite ((State.setFlag_kept ..).trans (State.raise_kept ..)) (.refl _)

theorem State.leaveRun_kept (s0) (k) : Kept s0 (State.leaveRun s0 k) := by
  unfold State.leaveRun
  extract_lets +onlyGivenNames x1
  have h2 : Kept s0 x1 := Kept.ite (State.abortInj_kept ..) (.refl _)
  exact Kept.ite (h2.trans (State.setFld_kept ..)) h2

theorem State.stageOff_kept (s0) (k) : Kept s0 (State.stageOff s0 k) := by
  unfold State.stageOff
  exact Kept.ite (.refl _) (((State.leaveRun_kept ..).trans (State.setFld_kept ..)).trans (State.modStg_kept ..))

theorem State.holdStage_kept (s0) (k) : Kept s0 (State.holdStage s0 k) := by
  unfold State.holdStage
  extract_lets +onlyGivenNames x1
  have h2 : Kept s0 x1 := State.modStg_kept ..
  exact Kept.ite h2 (((h2.trans (State.leaveRun_kept ..)).trans (State.setFld_kept ..)).trans (State.traceEvent_kept ..))

theorem State.stagesForMode_kept (s0) : Kept s0 (State.stagesForMode s0) := by
  unfold State.stagesForMode
  extract_lets +onlyGivenNames x1
  have h2 : Kept s0 x1 := Kept.ite (.refl _) (State.abortInj_kept ..)
  exact Kept.foldl h2 (fun a4 x5 h3 => Kept.ite h3 (h3.trans (State.stageOff_kept ..)))

theorem State.poisonStage_kept (s0) (k) : Kept s0 (State.poisonStage s0 k) := by
  unfold State.poisonStage
  extract_lets +onlyGivenNames x1
  extract_lets +onlyGivenNames x2
  have h3 : Kept s0 x2 := ((State.raise_kept ..).trans (State.report_kept ..)).trans (State.holdStage_kept ..)
  exact Kept.ite (h3.trans (State.holdStage_kept ..)) h3

theorem State.midWrites_kept (s0) (all) : Kept s0 (State.midWrites s0 all) := by
  unfold State.midWrites
  exact Kept.trans (Kept.foldl (.refl _) (fun a x h => h.trans (State.sramWrite_kept ..))) .same

theorem State.beforeFetch_kept (s0) (a) : Kept s0 (State.beforeFetch s0 a) := by
  unfold State.beforeFetch
  exact Kept.ite ((State.midWrites_kept ..).trans .same) (.refl _)

theorem State.readWords_kept (v0) (s0) : KeptP s0 (State.readWords v0 s0) := by
  induction v0 generalizing s0
  · rw [State.readWords]
    exact KeptP.mk (.refl _)
  · rename_i x0 v0 ih
    rw [State.readWords]
    split
    rename_i y1 y2 y3 y4 y5
    have h6 : Kept s0 y4 := (State.beforeFetch_kept ..).trans (KeptQ.get y5 (State.sramRead_kept ..))
    refine Kept.ite ?_ ?_
    · exact KeptP.mk h6
    · split
      · rename_i y7 y8 y9 y10
        have h11 : Kept s0 y9 := KeptP.get y10 (KeptP.trans h6 (ih ..))
        exact KeptP.mk h11
      · rename_i y12 y13 y14
        have h15 : Kept s0 y13 := KeptP.get y14 (KeptP.trans h6 (ih ..))
        exact KeptP.mk h15

theorem State.satSig_kept (s0) (k) (x) : KeptP s0 (State.satSig s0 k x) := by
  unfold State.satSig
  extract_lets +onlyGivenNames x1
  exact KeptP.mk (Kept.ite (.refl _) ((State.inc_kept ..).trans (State.raise_kept ..)))

theorem State.injValue_kept (s0) (k) (m) : KeptP s0 (State.injValue s0 k m) := by
  unfold State.injValue
  extract_lets +onlyGivenNames x1 x2
  refine Kept.ite ?_ ?_
  · exact KeptP.mk (.refl _)
  · refine Kept.ite ?_ ?_
    · split
      rename_i y3 y4 y5 y6
      extract_lets +onlyGivenNames x7 x8 x9
      exact KeptP.mk ((Kept.same))
    · extract_lets +onlyGivenNames x10
      extract_lets +onlyGivenNames x11 x12
      split
      rename_i y13 y14 y15 y16
      have h17 : Kept s0 y15 := KeptP.get y16 (State.draw_kept ..)
      extract_lets +onlyGivenNames x18 x19 x20
      exact KeptP.mk (h17.trans .same)

theorem State.injStep_kept (s0) (k) : Kept s0 (State.injStep s0 k) := by
  unfold State.injStep
  refine Kept.ite ?_ ?_
  · extract_lets +onlyGivenNames x1
    have h2 : Kept s0 x1 := State.modStg_kept ..
    exact Kept.ite (h2.trans (State.setFld_kept ..)) h2
  · extract_lets +onlyGivenNames x3
    refine Kept.ite ?_ ?_
    · extract_lets +onlyGivenNames x4
      have h5 : Kept s0 x4 := ((State.setFlag_kept ..).trans (State.raise_kept ..)).trans (State.setFld_kept ..)
      extract_lets +onlyGivenNames x6
      have h7 : Kept s0 x6 := h5.trans (State.modStg_kept ..)
      exact h7.trans .same
    · split
      rename_i y8 y9 y10 y11
      have h12 : Kept s0 y10 := KeptP.get y11 (State.injValue_kept ..)
      extract_lets +onlyGivenNames x13
      have h14 : Kept s0 x13 := Kept.ite (h12.trans (State.traceEvent_kept ..)) h12
      extract_lets +onlyGivenNames x15 x16 x17
      have h18 : Kept s0 x17 := h14.trans .same
      exact ((h18.trans (State.inc_kept ..)).trans (State.setFldI_kept ..)).trans (State.modStg_kept ..)

theorem State.conditionY_kept (s0) (k) : Kept s0 (State.conditionY s0 k) := by
  unfold State.conditionY
  refine Kept.ite ?_ ?_
  · exact .refl _
  · extract_lets +onlyGivenNames x1
    refine Kept.ite ?_ ?_
    · exact ((State.raise_kept ..).trans (State.report_kept ..)).trans (State.holdStage_kept ..)
    · extract_lets +onlyGivenNames x2
      have h3 : Kept s0 x2 := State.injStep_kept ..
      refine Kept.foldl ?_ (fun a5 x6 h4 => ?_)
      · exact h3
      · extract_lets +onlyGivenNames x7
        extract_lets +onlyGivenNames x8 x9 x10
        have h11 : Kept s0 x10 := Kept.ite h4 (h4.trans (State.inc_kept ..))
        extract_lets +onlyGivenNames x12
        have h13 : Kept s0 x12 := h11.trans (State.setFldI_kept ..)
        split
        rename_i y14 y15 y16 y17
        have h18 : Kept s0 y16 := KeptP.get y17 (Kept.ite (KeptP.trans h13 (State.satSig_kept ..)) (KeptP.mk h13))
        exact h18.trans (State.modStg_kept ..)

theorem State.startStage_kept (s0) (k) : Kept s0 (State.startStage s0 k) := by
  unfold State.startStage
  extract_lets +onlyGivenNames x1
  have h2 : Kept s0 x1 := (State.leaveRun_kept ..).trans (State.setFld_kept ..)
  extract_lets +onlyGivenNames x3
  have h4 : Kept s0 x3 := h2.trans (State.modStg_kept ..)
  exact Kept.ite ((h4.trans .same).trans (State.setFld_kept ..)) h4

theorem State.turnStage_kept (s0) (k) : Kept s0 (State.turnStage s0 k) := by
  unfold State.turnStage
  extract_lets +onlyGivenNames x1 x2 x3
  refine Kept.ite ?_ ?_
  · exact (State.stageOff_kept ..).trans (State.modStg_kept ..)
  · refine Kept.ite ?_ ?_
    · exact Kept.ite (State.startStage_kept ..) (State.modStg_kept ..)
    · refine Kept.ite ?_ ?_
      · exact (State.stageOff_kept ..).trans (State.modStg_kept ..)
      · refine Kept.ite ?_ ?_
        · exact Kept.ite ((State.raise_kept ..).trans (State.modStg_kept ..)) (State.startStage_kept ..)
        · refine Kept.ite ?_ ?_
          · refine Kept.ite ?_ ?_
            · unfold x3
              exact (State.setFld_kept ..).trans (State.modStg_kept ..)
            · unfold x3
              exact (State.setFld_kept ..).trans (State.modStg_kept ..)
          · refine Kept.ite ?_ ?_
            · unfold x3
              exact (State.setFld_kept ..).trans (State.modStg_kept ..)
            · unfold x3
              exact (State.setFld_kept ..).trans (State.modStg_kept ..)

theorem State.setpoint_kept (s0) (k) : Kept s0 (State.setpoint s0 k) := by
  unfold State.setpoint
  extract_lets +onlyGivenNames x1
  refine Kept.ite ?_ ?_
  · exact .refl _
  · extract_lets +onlyGivenNames x2
    split
    · rename_i y3 y4 y5 y6 y7
      have h8 : Kept s0 y6 := KeptP.get y7 (State.readWords_kept ..)
      extract_lets +onlyGivenNames x9
      split
      rename_i y10 y11 y12 y13
      have h14 : Kept s0 y12 := KeptP.get y13 (Kept.ite (KeptP.trans h8 (State.satSig_kept ..)) (KeptP.mk h8))
      extract_lets +onlyGivenNames x15 x16 x17 x18 x19 x20
      have h21 : Kept s0 x20 := h14.trans (State.sramWrite_kept ..)
      extract_lets +onlyGivenNames x22
      split
      rename_i y23 y24 y25 y26
      have h27 : Kept s0 y25 := KeptP.get y26 (Kept.ite (KeptP.mk h21) (Kept.ite (KeptP.trans h21 (State.satSig_kept ..))
          (Kept.ite (KeptP.mk h21) (KeptP.trans h21 (State.satSig_kept ..)))))
      split
      rename_i y28 y29 y30 y31
      have h32 : Kept s0 y30 := KeptP.get y31 (Kept.ite (KeptP.trans h27 (State.satSig_kept ..)) (KeptP.mk h27))
      extract_lets +onlyGivenNames x33
      have h34 : Kept s0 x33 := h32.trans (State.setFldI_kept ..)
      split
      rename_i y35 y36 y37 y38
      have h39 : Kept s0 y37 := KeptP.get y38 (Kept.ite (KeptP.trans h34 (State.satSig_kept ..)) (KeptP.mk h34))
      exact h39.trans (State.modStg_kept ..)
    · rename_i y40 y41 y42 y43 y44
      have h45 : Kept s0 y42 := KeptP.get y44 (State.readWords_kept ..)
      exact h45.trans (State.poisonStage_kept ..)

theorem State.loadStates_kept (s0) (k) : Kept s0 (State.loadStates s0 k) := by
  unfold State.loadStates
  extract_lets +onlyGivenNames x1
  refine Kept.ite ?_ ?_
  · exact .refl _
  · extract_lets +onlyGivenNames x2
    split
    · rename_i y3 y4 y5 y6
      have h7 : Kept s0 y5 := KeptP.get y6 (State.readWords_kept ..)
      exact h7.trans (State.modStg_kept ..)
    · rename_i y8 y9 y10
      have h11 : Kept s0 y9 := KeptP.get y10 (State.readWords_kept ..)
      exact h11.trans (State.poisonStage_kept ..)

theorem State.rowSum_kept (s0) (k) (r) : KeptP s0 (State.rowSum s0 k r) := by
  unfold State.rowSum
  split
  · rename_i y1 y2 y3 y4
    have h5 : Kept s0 y3 := KeptP.get y4 (State.readWords_kept ..)
    exact KeptP.mk h5
  · rename_i y6 y7 y8
    have h9 : Kept s0 y7 := KeptP.get y8 (State.readWords_kept ..)
    exact KeptP.mk h9

theorem State.rowVal_kept (s0) (k) (sum) : KeptP s0 (State.rowVal s0 k sum) := by
  unfold State.rowVal
  exact State.satSig_kept ..

theorem State.presentOut_kept (s0) (k) (j) : KeptP s0 (State.presentOut s0 k j) := by
  unfold State.presentOut
  extract_lets +onlyGivenNames x1 x2
  refine Kept.ite ?_ ?_
  · exact KeptP.mk (.refl _)
  · refine Kept.ite ?_ ?_
    · refine Kept.ite ?_ ?_
      · exact KeptP.mk (.refl _)
      · split
        rename_i y3 y4 y5 y6
        have h7 : Kept s0 y5 := KeptP.get y6 (State.draw_kept ..)
        exact KeptP.mk h7
    · exact KeptP.mk (.refl _)

theorem State.adjustReads_kept (s0) (k) : KeptP s0 (State.adjustReads s0 k) := by
  unfold State.adjustReads
  refine KeptP.foldl ?_ (fun a2 x3 h1 => ?_)
  · exact KeptP.mk (.refl _)
  · extract_lets +onlyGivenNames x4
    refine Kept.ite ?_ ?_
    · exact h1
    · split
      · rename_i y5 y6 y7
        have h8 : Kept s0 y6 := KeptP.get y7 (KeptP.trans h1 (State.readWords_kept ..))
        exact KeptP.mk h8
      · rename_i y9 y10 y11 y12
        have h13 : Kept s0 y11 := KeptP.get y12 (KeptP.trans h1 (State.readWords_kept ..))
        refine Kept.ite ?_ ?_
        · exact KeptP.mk h13
        · split
          · rename_i y14 y15 y16
            have h17 : Kept s0 y15 := KeptP.get y16 (KeptP.trans h13 (State.readWords_kept ..))
            exact KeptP.mk h17
          · rename_i y18 y19 y20 y21
            have h22 : Kept s0 y20 := KeptP.get y21 (KeptP.trans h13 (State.readWords_kept ..))
            exact KeptP.mk h22

theorem State.adjustStates_kept (s0) (k) : Kept s0 (State.adjustStates s0 k) := by
  unfold State.adjustStates
  extract_lets +onlyGivenNames x1 x2 x3
  split
  · rename_i y4 y5 y6 y7
    exact .refl _
  · rename_i y8 y9 y10 y11 y12
    split
    rename_i y13 y14 y15 y16
    have h17 : Kept s0 y15 := KeptP.get y16 (State.presentOut_kept ..)
    unfold x3
    exact h17.trans (State.modStg_kept ..)
  · rename_i y18 y19 y20 y21 y22
    split
    rename_i y23 y24 y25 y26
    have h27 : Kept s0 y25 := KeptP.get y26 (State.presentOut_kept ..)
    unfold x3
    exact h27.trans (State.modStg_kept ..)
  · rename_i y28 y29 y30 y31 y32 y33
    split
    rename_i y34 y35 y36 y37
    have h38 : Kept s0 y36 := KeptP.get y37 (State.presentOut_kept ..)
    split
    rename_i y39 y40 y41 y42
    have h43 : Kept s0 y41 := KeptP.get y42 (KeptP.trans h38 (State.presentOut_kept ..))
    extract_lets +onlyGivenNames x44 x45 x46 x47 x48 x49 x50
    refine Kept.ite ?_ ?_
    · extract_lets +onlyGivenNames x51
      have h52 : Kept s0 x51 := by
        unfold x51
        unfold x3
        exact h43.trans (State.modStg_kept ..)
      unfold x3
      exact h52.trans (State.modStg_kept ..)
    · unfold x3
      exact (h43.trans (State.modStg_kept ..)).trans (State.modStg_kept ..)

theorem State.adjust_kept (s0) (k) : Kept s0 (State.adjust s0 k) := by
  unfold State.adjust
  split
  · rename_i y1 y2 y3
    have h4 : Kept s0 y2 := KeptP.get y3 (State.adjustReads_kept ..)
    exact h4.trans (State.adjustStates_kept ..)
  · rename_i y5 y6 y7
    have h8 : Kept s0 y6 := KeptP.get y7 (State.adjustReads_kept ..)
    exact h8.trans (State.poisonStage_kept ..)

theorem State.sendOut_kept (s0) (k) (j) (u) : Kept s0 (State.sendOut s0 k j u) := by
  unfold State.sendOut
  extract_lets +onlyGivenNames x1
  refine Kept.ite ?_ ?_
  · refine Kept.ite ?_ ?_
    · exact .refl _
    · extract_lets +onlyGivenNames x2
      have h3 : Kept s0 x2 := State.sramWrite_kept ..
      split
      rename_i y4 y5 y6 y7
      have h8 : Kept s0 y6 := KeptP.get y7 (Kept.ite (KeptP.trans h3 (State.satSig_kept ..)) (KeptP.mk h3))
      exact h8.trans (State.modStg_kept ..)
  · refine Kept.ite ?_ ?_
    · exact .refl _
    · extract_lets +onlyGivenNames x9
      refine Kept.ite ?_ ?_
      · extract_lets +onlyGivenNames x10
        refine Kept.ite ?_ ?_
        · split
          rename_i y11 y12 y13 y14
          have h15 : Kept s0 y13 := KeptP.get y14 (State.draw_kept ..)
          exact h15.trans (State.setOut_kept ..)
        · exact State.setOut_kept ..
      · exact State.setOut_kept ..

theorem State.computeOut_kept (s0) (k) (j) : Kept s0 (State.computeOut s0 k j) := by
  unfold State.computeOut
  refine Kept.ite ?_ ?_
  · exact .refl _
  · split
    · rename_i y1 y2 y3
      have h4 : Kept s0 y2 := KeptP.get y3 (State.rowSum_kept ..)
      exact h4.trans (State.poisonStage_kept ..)
    · rename_i y5 y6 y7 y8
      have h9 : Kept s0 y7 := KeptP.get y8 (State.rowSum_kept ..)
      split
      rename_i y10 y11 y12 y13
      have h14 : Kept s0 y12 := KeptP.get y13 (KeptP.trans h9 (State.rowVal_kept ..))
      split
      rename_i y15 y16 y17 y18
      have h19 : Kept s0 y17 := KeptP.get y18 (Kept.ite (KeptP.trans h14 (State.satSig_kept ..)) (KeptP.mk h14))
      extract_lets +onlyGivenNames x20 x21
      split
      rename_i y22 y23 y24 y25 y26
      have h27 : Kept s0 y25 := by
        refine KeptQ.get y26 ?_
        refine Kept.ite ?_ ?_
        · split
          rename_i y28 y29 y30 y31
          have h32 : Kept s0 y30 := KeptP.get y31 (KeptP.trans h19 (State.draw_kept ..))
          exact KeptQ.mk h32
        · exact Kept.ite (KeptQ.mk h19) (Kept.ite (KeptQ.mk h19) (KeptQ.mk h19))
      extract_lets +onlyGivenNames x33
      have h34 : Kept s0 x33 := (h27.trans (State.setFldI_kept ..)).trans (State.modStg_kept ..)
      extract_lets +onlyGivenNames x35
      have h36 : Kept s0 x35 := h34.trans (State.setFlag_kept ..)
      exact h36.trans (State.sendOut_kept ..)

theorem State.stageOutputs_kept (s0) (k) (p) : KeptP s0 (State.stageOutputs s0 k p) := by
  unfold State.stageOutputs
  extract_lets +onlyGivenNames x1
  refine Kept.ite ?_ ?_
  · refine KeptP.mk ?_
    refine Kept.ite ?_ ?_
    · refine Kept.trans ?_ (State.driveSafe_kept ..)
      exact .refl _
    · exact .refl _
  · extract_lets +onlyGivenNames x2
    have h3 : Kept s0 x2 := by
      unfold x2
      refine Kept.ite ?_ ?_
      · refine Kept.trans ?_ (State.adjust_kept ..)
        exact .refl _
      · exact .refl _
    refine KeptP.foldl ?_ (fun a5 x6 h4 => ?_)
    · refine KeptP.mk ?_
      exact h3
    · refine Kept.ite ?_ ?_
      · exact h4
      · extract_lets +onlyGivenNames x7 x8
        have h9 : Kept s0 x7 := by
          unfold x7
          refine Kept.trans ?_ (State.computeOut_kept ..)
          change KeptP _ _
          exact h4
        refine KeptP.mk ?_
        exact h9

theorem State.clampState_kept (s0) (k) (i) (x) (v4) : KeptP s0 (State.clampState s0 k i x v4) := by
  unfold State.clampState
  refine Kept.ite ?_ ?_
  · exact KeptP.mk (.refl _)
  · extract_lets +onlyGivenNames x1 x2
    split
    · rename_i y3 y4 y5 y6 y7
      have h8 : Kept s0 y6 := KeptP.get y7 (State.readWords_kept ..)
      extract_lets +onlyGivenNames x9 x10 x11
      have h12 : Kept s0 x11 := Kept.ite (h8.trans (State.inc_kept ..)) h8
      extract_lets +onlyGivenNames x13 x14
      exact KeptP.mk (Kept.ite h12 (h12.trans (State.inc_kept ..)))
    · rename_i y15 y16 y17 y18 y19
      have h20 : Kept s0 y17 := KeptP.get y19 (State.readWords_kept ..)
      exact KeptP.mk h20

theorem State.nextStates_kept (k) (v1) (s0) : KeptP s0 (State.nextStates k v1 s0) := by
  induction v1 generalizing k s0
  · rw [State.nextStates]
    exact KeptP.mk (.refl _)
  · rename_i x0 v1 ih
    rw [State.nextStates]
    split
    rename_i y1 y2 y3 y4
    have h5 : Kept s0 y3 := by
      refine KeptP.get y4 ?_
      refine Kept.ite ?_ ?_
      · exact KeptP.mk (.refl _)
      · split
        · rename_i y6 y7 y8
          have h9 : Kept s0 y7 := KeptP.get y8 (State.rowSum_kept ..)
          exact KeptP.mk h9
        · rename_i y10 y11 y12 y13
          have h14 : Kept s0 y12 := KeptP.get y13 (State.rowSum_kept ..)
          split
          rename_i y15 y16 y17 y18
          have h19 : Kept s0 y17 := KeptP.get y18 (KeptP.trans h14 (State.rowVal_kept ..))
          exact KeptP.trans h19 (State.clampState_kept ..)
    split
    · rename_i y20
      have h21 : Kept s0 y3 := by
        refine KeptP.get y4 ?_
        refine Kept.ite ?_ ?_
        · exact KeptP.mk (.refl _)
        · split
          · rename_i y22 y23 y24
            have h25 : Kept s0 y23 := KeptP.get y24 (State.rowSum_kept ..)
            exact KeptP.mk h25
          · rename_i y26 y27 y28 y29
            have h30 : Kept s0 y28 := KeptP.get y29 (State.rowSum_kept ..)
            split
            rename_i y31 y32 y33 y34
            have h35 : Kept s0 y33 := KeptP.get y34 (KeptP.trans h30 (State.rowVal_kept ..))
            exact KeptP.trans h35 (State.clampState_kept ..)
      exact KeptP.mk h5
    · rename_i y36 y37
      have h38 : Kept s0 y3 := by
        refine KeptP.get y4 ?_
        refine Kept.ite ?_ ?_
        · exact KeptP.mk (.refl _)
        · split
          · rename_i y39 y40 y41
            have h42 : Kept s0 y40 := KeptP.get y41 (State.rowSum_kept ..)
            exact KeptP.mk h42
          · rename_i y43 y44 y45 y46
            have h47 : Kept s0 y45 := KeptP.get y46 (State.rowSum_kept ..)
            split
            rename_i y48 y49 y50 y51
            have h52 : Kept s0 y50 := KeptP.get y51 (KeptP.trans h47 (State.rowVal_kept ..))
            exact KeptP.trans h52 (State.clampState_kept ..)
      split
      · rename_i y53 y54 y55 y56
        have h57 : Kept s0 y55 := KeptP.get y56 (KeptP.trans h5 (ih ..))
        exact KeptP.mk h57
      · rename_i y58 y59 y60
        have h61 : Kept s0 y59 := KeptP.get y60 (KeptP.trans h5 (ih ..))
        exact KeptP.mk h61

theorem State.updateStates_kept (s0) (k) : Kept s0 (State.updateStates s0 k) := by
  unfold State.updateStates
  refine Kept.ite ?_ ?_
  · exact .refl _
  · split
    · rename_i y1 y2 y3
      have h4 : Kept s0 y2 := KeptP.get y3 (State.nextStates_kept ..)
      exact h4.trans (State.poisonStage_kept ..)
    · rename_i y5 y6 y7 y8
      have h9 : Kept s0 y7 := KeptP.get y8 (State.nextStates_kept ..)
      exact Kept.foldl h9 (fun a11 x12 h10 => h10.trans (State.sramWrite_kept ..))

theorem State.feSafe_kept (s0) : Kept s0 (State.feSafe s0) := by
  unfold State.feSafe
  extract_lets +onlyGivenNames x1
  have h2 : Kept s0 x1 := by
    unfold x1
    refine Kept.foldl ?_ (fun a4 x5 h3 => ?_)
    · exact .refl _
    · extract_lets +onlyGivenNames x6
      exact Kept.ite (h3.trans (State.setOut_kept ..)) h3
  exact h2.trans (State.holdStage_kept ..)

theorem State.superviseLb_kept (s0) : Kept s0 (State.superviseLb s0) := by
  unfold State.superviseLb
  extract_lets +onlyGivenNames x1 x2
  have h3 : Kept s0 x2 := by
    unfold x2
    unfold x1
    exact (Kept.same)
  extract_lets +onlyGivenNames x4
  refine Kept.ite ?_ ?_
  · exact h3
  · refine Kept.ite ?_ ?_
    · exact h3.trans (State.setFld_kept ..)
    · extract_lets +onlyGivenNames x5
      refine Kept.ite ?_ ?_
      · extract_lets +onlyGivenNames x6
        refine Kept.ite ?_ ?_
        · extract_lets +onlyGivenNames x7
          have h8 : Kept s0 x7 := ((h3.trans (State.raise_kept ..)).trans (State.inc_kept ..)).trans (State.setFld_kept ..)
          extract_lets +onlyGivenNames x9
          have h10 : Kept s0 x9 := by
            unfold x9
            unfold x1
            exact ((h8.trans (State.report_kept ..)).trans (State.traceEvent_kept ..)).trans .same
          split
          · rename_i y11 y12
            exact h10.trans (State.holdStage_kept ..)
          · rename_i y13 y14
            exact h10.trans (State.feSafe_kept ..)
          · rename_i y15 y16 y17
            exact h10
        · exact h3.trans (State.setFld_kept ..)
      · exact h3.trans (State.setFld_kept ..)

theorem State.holdLa_kept (s0) : Kept s0 (State.holdLa s0) := by
  unfold State.holdLa
  extract_lets +onlyGivenNames x1
  extract_lets +onlyGivenNames x2
  have h3 : Kept s0 x2 := State.holdStage_kept ..
  exact Kept.ite (h3.trans (State.holdStage_kept ..)) h3

theorem State.hunting_kept (s0) (e) : KeptP s0 (State.hunting s0 e) := by
  unfold State.hunting
  extract_lets +onlyGivenNames x1
  refine Kept.ite ?_ ?_
  · exact KeptP.mk (.refl _)
  · extract_lets +onlyGivenNames x2
    extract_lets +onlyGivenNames x3 x4 x5 x6 x7 x8 x9 x10 x11 x12 x13 x14
    have h15 : Kept s0 x14 := (Kept.same)
    extract_lets +onlyGivenNames x16
    have h17 : Kept s0 x16 := h15.trans (State.setFld_kept ..)
    exact Kept.ite (KeptP.mk ((((h17.trans (State.raise_kept ..)).trans (State.inc_kept ..)).trans (State.report_kept
        ..)).trans (State.traceEvent_kept ..))) (KeptP.mk h17)

theorem State.hammer_kept (s0) (y) : KeptP s0 (State.hammer s0 y) := by
  unfold State.hammer
  extract_lets +onlyGivenNames x1 x2
  split
  · rename_i y3 y4
    refine KeptP.mk ?_
    unfold x2
    exact (Kept.same)
  · rename_i y5 y6 y7
    extract_lets +onlyGivenNames x8 x9 x10 x11 x12 x13 x14
    have h15 : Kept s0 x14 := by
      unfold x14
      unfold x2
      exact (Kept.same)
    exact Kept.ite (KeptP.mk ((((h15.trans (State.raise_kept ..)).trans (State.inc_kept ..)).trans (State.report_kept
        ..)).trans (State.traceEvent_kept ..))) (KeptP.mk h15)

theorem State.superviseLai_kept (s0) : Kept s0 (State.superviseLai s0) := by
  unfold State.superviseLai
  extract_lets +onlyGivenNames x1 x2 x3
  have h4 : Kept s0 x3 := (Kept.same)
  refine Kept.ite ?_ ?_
  · exact Kept.ite (h4.trans .same) h4
  · refine Kept.ite ?_ ?_
    · exact h4
    · split
      rename_i y5 y6 y7 y8
      have h9 : Kept s0 y7 := KeptP.get y8 (KeptP.trans h4 (State.hunting_kept ..))
      split
      rename_i y10 y11 y12 y13
      have h14 : Kept s0 y12 := KeptP.get y13 (KeptP.trans h9 (State.hammer_kept ..))
      exact Kept.ite (h14.trans (State.holdLa_kept ..)) h14

theorem State.traceRec_kept (s0) (typ) (b) (row) : Kept s0 (State.traceRec s0 typ b row) := by
  unfold State.traceRec
  exact State.ringDrop_kept ..

theorem State.traceFinish_kept (s0) (b) : Kept s0 (State.traceFinish s0 b) := by
  unfold State.traceFinish
  split
  rename_i y1 y2 y3 y4
  have h5 : Kept s0 y3 := KeptP.get y4 (State.draw_kept ..)
  exact ((h5.trans (State.setFld_kept ..)).trans (State.setTrc_kept ..)).trans (State.traceRec_kept ..)

theorem State.traceRow_kept (s0) (b) : Kept s0 (State.traceRow s0 b) := by
  unfold State.traceRow
  extract_lets +onlyGivenNames x1 x2 x3
  refine Kept.ite ?_ ?_
  · exact .refl _
  · extract_lets +onlyGivenNames x4 x5
    have h6 : Kept s0 x5 := Kept.foldl (.refl _) (fun a8 x9 h7 => h7.trans (State.sramWrite_kept ..))
    extract_lets +onlyGivenNames x10
    have h11 : Kept s0 x10 := h6.trans (State.setFld_kept ..)
    extract_lets +onlyGivenNames x12
    have h13 : Kept s0 x12 := h11.trans (State.setFld_kept ..)
    extract_lets +onlyGivenNames x14 x15
    refine Kept.ite ?_ ?_
    · extract_lets +onlyGivenNames x16
      refine Kept.ite ?_ ?_
      · extract_lets +onlyGivenNames x17
        extract_lets +onlyGivenNames x18
        have h19 : Kept s0 x18 := ((h13.trans (State.setFld_kept ..)).trans (State.setFld_kept ..)).trans
            (State.traceRec_kept ..)
        exact Kept.ite (h19.trans (State.traceFinish_kept ..)) (h19.trans (State.setTrc_kept ..))
      · exact h13.trans (State.setTrc_kept ..)
    · exact Kept.ite (h13.trans (State.traceFinish_kept ..)) (h13.trans (State.setTrc_kept ..))

theorem State.traceGap_kept (s0) : Kept s0 (State.traceGap s0) := by
  unfold State.traceGap
  refine Kept.foldl ?_ (fun a2 x3 h1 => ?_)
  · exact .refl _
  · extract_lets +onlyGivenNames x4
    refine Kept.ite ?_ ?_
    · extract_lets +onlyGivenNames x5
      extract_lets +onlyGivenNames x6
      have h7 : Kept s0 x6 := (h1.trans (State.traceRec_kept ..)).trans (State.setFld_kept ..)
      exact ((h7.trans (State.inc_kept ..)).trans (State.setFld_kept ..)).trans (State.setFld_kept ..)
    · exact h1

theorem State.traceResume_kept (s0) : Kept s0 (State.traceResume s0) := by
  unfold State.traceResume
  refine Kept.foldl ?_ (fun a2 x3 h1 => ?_)
  · exact .refl _
  · extract_lets +onlyGivenNames x4
    refine Kept.ite ?_ ?_
    · extract_lets +onlyGivenNames x5
      have h6 : Kept s0 x5 := (h1.trans (State.traceRec_kept ..)).trans (State.setFld_kept ..)
      exact h6.trans (State.setTrc_kept ..)
    · exact h1

theorem State.guardFields_kept (s0) (k) (fs) (v) : KeptP s0 (State.guardFields s0 k fs v) := by
  unfold State.guardFields
  refine Kept.ite ?_ ?_
  · exact KeptP.mk (.refl _)
  · extract_lets +onlyGivenNames x1
    extract_lets +onlyGivenNames x2
    exact KeptP.mk (Kept.ite (.refl _) (State.raise_kept ..))

theorem State.writeStageCfg_kept (s0) (k) (v) : Kept s0 (State.writeStageCfg s0 k v) := by
  unfold State.writeStageCfg
  split
  rename_i y1 y2 y3 y4
  have h5 : Kept s0 y3 := KeptP.get y4 (State.guardFields_kept ..)
  extract_lets +onlyGivenNames x6
  have h7 : Kept s0 x6 := h5.trans (State.setReg_kept ..)
  exact Kept.ite (h7.trans (State.modStg_kept ..)) h7

theorem State.writeGuarded_kept (s0) (k) (f) (v) : Kept s0 (State.writeGuarded s0 k f v) := by
  unfold State.writeGuarded
  split
  rename_i y1 y2 y3 y4
  have h5 : Kept s0 y3 := KeptP.get y4 (State.guardFields_kept ..)
  exact h5.trans (State.setReg_kept ..)

theorem State.traceArm_kept (s0) (b) : Kept s0 (State.traceArm s0 b) := by
  unfold State.traceArm
  extract_lets +onlyGivenNames x1
  have h2 : Kept s0 x1 := ((State.setFld_kept ..).trans (State.setFld_kept ..)).trans (State.setFld_kept ..)
  exact (h2.trans (State.setFld_kept ..)).trans (State.setTrc_kept ..)

theorem State.traceForce_kept (s0) (b) : Kept s0 (State.traceForce s0 b) := by
  unfold State.traceForce
  exact Kept.ite (State.setTrc_kept ..) (.refl _)

theorem State.traceStop_kept (s0) (b) : Kept s0 (State.traceStop s0 b) := by
  unfold State.traceStop
  exact Kept.ite (.refl _) (State.traceFinish_kept ..)

theorem State.writeTraceCtl_kept (s0) (b) (v) : Kept s0 (State.writeTraceCtl s0 b v) := by
  unfold State.writeTraceCtl
  extract_lets +onlyGivenNames x1
  have h2 : Kept s0 x1 := Kept.ite (State.traceArm_kept ..) (.refl _)
  extract_lets +onlyGivenNames x3
  have h4 : Kept s0 x3 := Kept.ite (h2.trans (State.traceForce_kept ..)) h2
  exact Kept.ite (h4.trans (State.traceStop_kept ..)) h4

theorem State.injGo_kept (s0) : Kept s0 (State.injGo s0) := by
  unfold State.injGo
  extract_lets +onlyGivenNames x1 x2
  refine Kept.ite ?_ ?_
  · extract_lets +onlyGivenNames x3
    extract_lets +onlyGivenNames x4 x5 x6
    have h7 : Kept s0 x6 := (Kept.same)
    exact (h7.trans (State.setFlag_kept ..)).trans (State.setFld_kept ..)
  · exact State.raise_kept ..

theorem State.injStop_kept (s0) : Kept s0 (State.injStop s0) := by
  unfold State.injStop
  exact Kept.ite ((State.setFlag_kept ..).trans (State.raise_kept ..)) (.refl _)

theorem State.writeInjCtl_kept (s0) (v) : Kept s0 (State.writeInjCtl s0 v) := by
  unfold State.writeInjCtl
  extract_lets +onlyGivenNames x1
  have h2 : Kept s0 x1 := Kept.ite (State.injGo_kept ..) (.refl _)
  exact Kept.ite (h2.trans (State.injStop_kept ..)) h2

theorem State.actTarget_kept (s0) (k) (v) : Kept s0 (State.actTarget s0 k v) := by
  unfold State.actTarget
  extract_lets +onlyGivenNames x1
  extract_lets +onlyGivenNames x2
  exact ((State.sramWrite_kept ..).trans (State.mark_kept ..)).trans (State.modStg_kept ..)

theorem State.actOut_kept (s0) (d) (v) : Kept s0 (State.actOut s0 d v) := by
  unfold State.actOut
  exact State.setOut_kept ..

theorem State.noteLatency_kept (s0) (products) : Kept s0 (State.noteLatency s0 products) := by
  unfold State.noteLatency
  refine Kept.ite ?_ ?_
  · exact .refl _
  · split
    rename_i y1 y2 y3 y4
    have h5 : Kept s0 y3 := KeptP.get y4 (Kept.ite (State.draw_kept ..) (KeptP.mk (.refl _)))
    extract_lets +onlyGivenNames x6 x7
    exact Kept.ite (h5.trans (State.update_kept ..)) h5

theorem State.controlSample_kept (s0) (ai) (vpw0) (vpw1) : Kept s0 (State.controlSample s0 ai vpw0 vpw1) := by
  unfold State.controlSample
  extract_lets +onlyGivenNames x1
  extract_lets +onlyGivenNames x2
  extract_lets +onlyGivenNames x3
  have h4 : Kept s0 x3 := (Kept.same)
  extract_lets +onlyGivenNames x5
  have h6 : Kept s0 x5 := (h4.trans (State.setFld_kept ..)).trans (State.setFld_kept ..)
  extract_lets +onlyGivenNames x7
  extract_lets +onlyGivenNames x8
  have h9 : Kept s0 x8 := Kept.foldl h6 (fun a11 x12 h10 => h10.trans (State.modStg_kept ..))
  extract_lets +onlyGivenNames x13
  have h14 : Kept s0 x13 := Kept.foldl h9 (fun a16 x17 h15 => h15.trans (State.turnStage_kept ..))
  extract_lets +onlyGivenNames x18
  have h19 : Kept s0 x18 := Kept.foldl h14 (fun a21 x22 h20 => h20.trans (State.conditionY_kept ..))
  extract_lets +onlyGivenNames x23
  have h24 : Kept s0 x23 := Kept.foldl h19 (fun a26 x27 h25 => h25.trans (State.setpoint_kept ..))
  extract_lets +onlyGivenNames x28
  have h29 : Kept s0 x28 := Kept.foldl h24 (fun a31 x32 h30 => h30.trans (State.loadStates_kept ..))
  split
  rename_i y33 y34 y35 y36
  have h37 : Kept s0 y35 := KeptP.get y36 (KeptP.foldl (KeptP.mk h29) (fun a39 x40 h38 => KeptP.trans h38
      (State.stageOutputs_kept ..)))
  extract_lets +onlyGivenNames x41
  have h42 : Kept s0 x41 := h37.trans (State.noteLatency_kept ..)
  extract_lets +onlyGivenNames x43
  have h44 : Kept s0 x43 := Kept.foldl h42 (fun a46 x47 h45 => h45.trans (State.updateStates_kept ..))
  extract_lets +onlyGivenNames x48
  have h49 : Kept s0 x48 := ((h44.trans (State.midWrites_kept ..)).trans (State.superviseLb_kept ..)).trans (State.superviseLai_kept ..)
  extract_lets +onlyGivenNames x50
  have h51 : Kept s0 x50 := Kept.foldl h49 (fun a53 x54 h52 => Kept.ite (h52.trans (State.setFld_kept ..)) h52)
  exact (h51.trans (State.traceRow_kept ..)).trans (State.traceRow_kept ..)

theorem State.nextSample_kept (s0) (ai) (vpw0) (vpw1) : Kept s0 (State.nextSample s0 ai vpw0 vpw1) := by
  unfold State.nextSample
  exact (State.takeInstant_kept ..).trans (State.controlSample_kept ..)

theorem execControlSample_kept (ai) (vpw0) (vpw1) (s0) : KeptN s0 (execControlSample ai vpw0 vpw1 s0) := by
  unfold execControlSample
  exact KeptN.clocked (Kept.ite (KeptN.ok (.refl _)) (KeptN.ok (State.nextSample_kept ..)))

theorem execFollowingError_kept (ai) (vpw0) (vpw1) (s0) : KeptN s0 (execFollowingError ai vpw0 vpw1 s0) := by
  unfold execFollowingError
  refine KeptN.clocked ?_
  refine Kept.ite ?_ ?_
  · exact KeptN.ok (.refl _)
  · extract_lets +onlyGivenNames x1
    have h2 : Kept s0 x1 := State.nextSample_kept ..
    exact Kept.ite (KeptN.ok h2) (KeptN.ok (.refl _))

theorem execTraceDone_kept (ai) (vpw0) (vpw1) (s0) : KeptN s0 (execTraceDone ai vpw0 vpw1 s0) := by
  unfold execTraceDone
  refine KeptN.clocked ?_
  refine Kept.ite ?_ ?_
  · exact KeptN.ok (.refl _)
  · extract_lets +onlyGivenNames x1
    have h2 : Kept s0 x1 := State.nextSample_kept ..
    exact Kept.ite (KeptN.ok h2) (KeptN.ok (.refl _))

theorem execInjectionEnd_kept (ai) (vpw0) (vpw1) (s0) : KeptN s0 (execInjectionEnd ai vpw0 vpw1 s0) := by
  unfold execInjectionEnd
  refine KeptN.clocked ?_
  refine Kept.ite ?_ ?_
  · exact KeptN.ok (.refl _)
  · extract_lets +onlyGivenNames x1
    have h2 : Kept s0 x1 := State.nextSample_kept ..
    exact Kept.ite (KeptN.ok h2) (KeptN.ok (.refl _))

theorem execPwPeriodEdge_kept (s0) : KeptN s0 (execPwPeriodEdge s0) := by
  unfold execPwPeriodEdge
  refine KeptN.clocked ?_
  refine Kept.ite ?_ ?_
  · exact KeptN.ok (.refl _)
  · extract_lets +onlyGivenNames x1
    have h2 : Kept s0 x1 := State.takeInstant_kept ..
    exact KeptN.ok (h2.trans .same)

theorem execPwOvercurrent_kept (k) (s0) : KeptN s0 (execPwOvercurrent k s0) := by
  unfold execPwOvercurrent
  exact KeptN.clocked (KeptN.ok ((Kept.same)))

end Sys2Proof.Machine
end

