-- ==== Sys2Proof/Laws/KeptLinkBase.lean ====
section
/-! SUPPORT. `Kept` holds of the operations of `Machine/LinkBase.lean`. -/

set_option Elab.async false

namespace Sys2Proof.Machine

open Sys2Proof

theorem State.setSess_kept (s0) (p) (x) : Kept s0 (State.setSess s0 p x) := by
  unfold State.setSess
  exact (Kept.same)

theorem State.dropItem_kept (s0) (q) (seq) : Kept s0 (State.dropItem s0 q seq) := by
  unfold State.dropItem
  extract_lets +onlyGivenNames x1
  extract_lets +onlyGivenNames x2
  extract_lets +onlyGivenNames x3
  extract_lets +onlyGivenNames x4
  have h5 : Kept s0 x4 := State.setQueue_kept ..
  exact h5.trans .same

theorem State.admitTx_kept (s0) (t) : Kept s0 (State.admitTx s0 t) := by
  unfold State.admitTx
  extract_lets +onlyGivenNames x1
  extract_lets +onlyGivenNames x2
  have h3 : Kept s0 x2 := State.setFld_kept ..
  extract_lets +onlyGivenNames x4
  extract_lets +onlyGivenNames x5
  have h6 : Kept s0 x5 := Kept.ite ((h3.trans .same).trans (State.setFld_kept ..)) h3
  exact h6.trans (State.pushItem_kept ..)

theorem State.offerTx_kept (s0) (t) : Kept s0 (State.offerTx s0 t) := by
  unfold State.offerTx
  exact Kept.ite (State.admitTx_kept ..) ((Kept.same))

theorem State.pushTx_kept (s0) (ring) (dst) (cls) (bc) (payload) : Kept s0 (State.pushTx s0 ring dst cls bc payload) := by
  unfold State.pushTx
  exact State.offerTx_kept ..

theorem State.retryTx_kept (s0) : Kept s0 (State.retryTx s0) := by
  unfold State.retryTx
  exact Kept.foldl ((Kept.same)) (fun a2 x3 h1 => h1.trans (State.offerTx_kept ..))

theorem State.chooseRateTo_kept (s0) (p) : Kept s0 (State.chooseRateTo s0 p) := by
  unfold State.chooseRateTo
  extract_lets +onlyGivenNames x1
  extract_lets +onlyGivenNames x2
  extract_lets +onlyGivenNames x3
  exact State.setFld_kept ..

theorem State.enterWindow_kept (s0) (p) (r) : Kept s0 (State.enterWindow s0 p r) := by
  unfold State.enterWindow
  extract_lets +onlyGivenNames x1
  extract_lets +onlyGivenNames x2
  extract_lets +onlyGivenNames x3
  extract_lets +onlyGivenNames x4
  have h5 : Kept s0 x4 := Kept.ite ((State.setFld_kept ..).trans (State.setFld_kept ..)) (Kept.ite ((State.setFld_kept
      ..).trans (State.setFld_kept ..)) (State.setFld_kept ..))
  extract_lets +onlyGivenNames x6
  extract_lets +onlyGivenNames x7
  exact h5.trans .same

theorem State.clearWindow_kept (s0) (p) : Kept s0 (State.clearWindow s0 p) := by
  unfold State.clearWindow
  extract_lets +onlyGivenNames x1
  have h2 : Kept s0 x1 := (State.setFld_kept ..).trans (State.setFld_kept ..)
  exact h2.trans .same

theorem State.busy_kept (s0) (a) (b) : Kept s0 (State.busy s0 a b) := by
  unfold State.busy
  exact (Kept.same)

theorem State.arrive_kept (s0) (f) : Kept s0 (State.arrive s0 f) := by
  unfold State.arrive
  extract_lets +onlyGivenNames x1
  have h2 : Kept s0 x1 := State.advCc_kept ..
  exact (h2.trans (State.busy_kept ..)).trans (State.completed_kept ..)

theorem State.emit_kept (s0) (f) (d) : Kept s0 (State.emit s0 f d) := by
  unfold State.emit
  exact ((Kept.same)).trans (State.busy_kept ..)

theorem State.ackFor_kept (s0) (f) (res) (adm) (retry) : Kept s0 (State.ackFor s0 f res adm retry) := by
  unfold State.ackFor
  refine Kept.ite ?_ ?_
  · exact .refl _
  · extract_lets +onlyGivenNames x1
    extract_lets +onlyGivenNames x2
    exact State.emit_kept ..

theorem State.crcErr_kept (s0) : Kept s0 (State.crcErr s0) := by
  unfold State.crcErr
  exact State.inc_kept ..

theorem State.checkAuth_kept (s0) (f) : KeptP s0 (State.checkAuth s0 f) := by
  unfold State.checkAuth
  refine Kept.ite ?_ ?_
  · exact KeptP.mk (.refl _)
  · refine Kept.ite ?_ ?_
    · exact KeptP.mk (State.crcErr_kept ..)
    · refine Kept.ite ?_ ?_
      · exact KeptP.mk (State.inc_kept ..)
      · refine Kept.ite ?_ ?_
        · exact KeptP.mk (.refl _)
        · split
          · rename_i y1 y2
            exact KeptP.mk (State.inc_kept ..)
          · rename_i y3 y4 y5
            exact Kept.ite (KeptP.mk (.refl _)) (KeptP.mk (State.inc_kept ..))

theorem State.rxChecks_kept (s0) (f) (form) (n) : KeptP s0 (State.rxChecks s0 f form n) := by
  unfold State.rxChecks
  split
  · rename_i y1 y2 y3
    have h4 : Kept s0 y2 := KeptP.get y3 (State.checkAuth_kept ..)
    exact KeptP.mk h4
  · rename_i y5 y6 y7
    have h8 : Kept s0 y6 := KeptP.get y7 (State.checkAuth_kept ..)
    extract_lets +onlyGivenNames x9
    refine Kept.ite ?_ ?_
    · extract_lets +onlyGivenNames x10
      have h11 : Kept s0 x10 := h8.trans (State.inc_kept ..)
      split
      · rename_i y12 y13 y14
        exact KeptP.mk (h11.trans (State.ackFor_kept ..))
      · rename_i y15 y16
        exact KeptP.mk (h11.trans (State.ackFor_kept ..))
    · refine Kept.ite ?_ ?_
      · exact KeptP.mk ((h8.trans (State.inc_kept ..)).trans (State.ackFor_kept ..))
      · refine Kept.ite ?_ ?_
        · extract_lets +onlyGivenNames x17
          have h18 : Kept s0 x17 := (h8.trans (State.inc_kept ..)).trans (State.enterWindow_kept ..)
          exact KeptP.mk (h18.trans (State.ackFor_kept ..))
        · refine Kept.ite ?_ ?_
          · extract_lets +onlyGivenNames x19
            have h20 : Kept s0 x19 := (h8.trans (State.inc_kept ..)).trans (State.inc_kept ..)
            exact KeptP.mk (h20.trans (State.ackFor_kept ..))
          · exact KeptP.mk h8

theorem State.accept_kept (s0) (f) (adm) (retry) : Kept s0 (State.accept s0 f adm retry) := by
  unfold State.accept
  exact (State.enterWindow_kept ..).trans (State.ackFor_kept ..)

theorem State.pushRx_kept (s0) (f) : Kept s0 (State.pushRx s0 f) := by
  unfold State.pushRx
  exact State.pushItem_kept ..

theorem State.setOuts_kept (s0) (os) : Kept s0 (State.setOuts s0 os) := by
  unfold State.setOuts
  exact (Kept.same)

theorem State.putOut_kept (s0) (o) : Kept s0 (State.putOut s0 o) := by
  unfold State.putOut
  exact State.setOuts_kept ..

theorem State.endOut_kept (s0) (o) : Kept s0 (State.endOut s0 o) := by
  unfold State.endOut
  exact (State.setOuts_kept ..).trans (State.dropItem_kept ..)

theorem State.resetCw_kept (s0) (ring) : Kept s0 (State.resetCw s0 ring) := by
  unfold State.resetCw
  exact (Kept.same)

theorem State.doubleCw_kept (s0) (ring) : Kept s0 (State.doubleCw s0 ring) := by
  unfold State.doubleCw
  extract_lets +onlyGivenNames x1
  exact (Kept.same)

theorem State.hostEnds_kept (s0) (seq) (res) (adm) (retry) : Kept s0 (State.hostEnds s0 seq res adm retry) := by
  unfold State.hostEnds
  refine Kept.ite ?_ ?_
  · extract_lets +onlyGivenNames x1
    extract_lets +onlyGivenNames x2
    have h3 : Kept s0 x2 := (Kept.same)
    exact (((h3.trans (State.setFld_kept ..)).trans (State.setFld_kept ..)).trans (State.setFld_kept ..)).trans
        (State.setFlag_kept ..)
  · exact .refl _

theorem State.rawEnds_kept (s0) (o) : Kept s0 (State.rawEnds s0 o) := by
  unfold State.rawEnds
  exact Kept.ite ((Kept.same)) (.refl _)

theorem State.epochFails_kept (s0) (o) : Kept s0 (State.epochFails s0 o) := by
  unfold State.epochFails
  exact Kept.ite ((Kept.same)) (.refl _)

theorem State.deliveryFails_kept (s0) (o) : Kept s0 (State.deliveryFails s0 o) := by
  unfold State.deliveryFails
  extract_lets +onlyGivenNames x1
  have h2 : Kept s0 x1 := (State.endOut_kept ..).trans (State.resetCw_kept ..)
  extract_lets +onlyGivenNames x3
  have h4 : Kept s0 x3 := (h2.trans (State.inc_kept ..)).trans (State.raise_kept ..)
  extract_lets +onlyGivenNames x5
  have h6 : Kept s0 x5 := h4.trans (State.errRec_kept ..)
  extract_lets +onlyGivenNames x7
  have h8 : Kept s0 x7 := Kept.ite (h6.trans (State.inc_kept ..)) h6
  exact (((h8.trans (State.hostEnds_kept ..)).trans (State.rawEnds_kept ..)).trans (State.epochFails_kept ..)).trans
      (State.report_kept ..)

theorem State.draw1_kept (s0) (q) : Kept s0 (State.draw1 s0 q) := by
  unfold State.draw1
  refine Kept.ite ?_ ?_
  · exact .refl _
  · split
    rename_i y1 y2 y3 y4
    have h5 : Kept s0 y3 := KeptP.get y4 (State.draw_kept ..)
    extract_lets +onlyGivenNames x6
    exact h5.trans .same

theorem State.contend_kept (s0) : Kept s0 (State.contend s0) := by
  unfold State.contend
  exact (State.draw1_kept ..).trans (State.draw1_kept ..)

theorem State.endBackoff_kept (s0) (q) : Kept s0 (State.endBackoff s0 q) := by
  unfold State.endBackoff
  exact (Kept.same)

end Sys2Proof.Machine
end

