-- ==== Sys2Proof/Laws/KeptPort.lean ====
section
/-! SUPPORT. `Kept` holds of the operations of `Machine/Port.lean`. -/

set_option Elab.async false

namespace Sys2Proof.Machine

open Sys2Proof

theorem State.flashTornProgram_kept (s0) (a) (bs) : Kept s0 (State.flashTornProgram s0 a bs) := by
  unfold State.flashTornProgram
  split
  rename_i y1 y2 y3 y4
  have h5 : Kept s0 y3 := KeptP.get y4 (State.draw_kept ..)
  exact h5.trans (State.flashProgram_kept ..)

theorem State.flashTornErase_kept (s0) (a) : Kept s0 (State.flashTornErase s0 a) := by
  unfold State.flashTornErase
  split
  rename_i y1 y2 y3 y4
  have h5 : Kept s0 y3 := KeptP.get y4 (State.draw_kept ..)
  extract_lets +onlyGivenNames x6
  extract_lets +onlyGivenNames x7
  exact (h5.trans (State.flashErase_kept ..)).trans (State.flashProgram_kept ..)

theorem State.setMov_kept (s0) (n) (x) : Kept s0 (State.setMov s0 n x) := by
  unfold State.setMov
  exact (Kept.same)

theorem State.nextJob_kept (s0) : Kept s0 (State.nextJob s0) := by
  unfold State.nextJob
  refine Kept.ite ?_ ?_
  · exact .refl _
  · extract_lets +onlyGivenNames x1 x2 x3
    refine Kept.ite ?_ ?_
    · unfold x3
      exact (Kept.same)
    · split
      · rename_i y4 y5 y6
        extract_lets +onlyGivenNames x7
        unfold x3
        exact (Kept.same)
      · rename_i y8 y9
        exact .refl _

theorem State.endTrans_kept (s0) (k) : Kept s0 (State.endTrans s0 k) := by
  unfold State.endTrans
  extract_lets +onlyGivenNames x1
  have h2 : Kept s0 x1 := State.inc_kept ..
  exact h2.trans .same

theorem State.countTrans_kept (s0) (k) (p) : Kept s0 (State.countTrans s0 k p) := by
  unfold State.countTrans
  split
  rename_i y1 y2 y3 y4
  have h5 : Kept s0 y3 := KeptP.get y4 (State.draw_kept ..)
  exact h5.trans (State.incBy_kept ..)

end Sys2Proof.Machine
end

