-- ==== Sys2Proof/Laws/KeptLedger.lean ====
section
/-! SUPPORT. `Kept` holds of the operations of `Machine/Ledger.lean`. -/

set_option Elab.async false

namespace Sys2Proof.Machine

open Sys2Proof

theorem State.setLed_kept (s0) (l) : Kept s0 (State.setLed s0 l) := by
  unfold State.setLed
  exact (Kept.same)

theorem State.ledStage_kept (s0) (k) : Kept s0 (State.ledStage s0 k) := by
  unfold State.ledStage
  extract_lets +onlyGivenNames x1
  exact (State.setFld_kept ..).trans (State.setLed_kept ..)

theorem State.startCommit_kept (s0) : Kept s0 (State.startCommit s0) := by
  unfold State.startCommit
  extract_lets +onlyGivenNames x1
  extract_lets +onlyGivenNames x2
  have h3 : Kept s0 x2 := State.setLed_kept ..
  exact (h3.trans (State.ledStage_kept ..)).trans (State.setFlag_kept ..)

theorem State.trigger_kept (s0) (r) : Kept s0 (State.trigger s0 r) := by
  unfold State.trigger
  extract_lets +onlyGivenNames x1
  extract_lets +onlyGivenNames x2
  have h3 : Kept s0 x2 := State.setLed_kept ..
  exact Kept.ite (h3.trans (State.startCommit_kept ..)) (h3.trans (State.setFlag_kept ..))

theorem State.msgAll_kept (s0) (ring) (payload) : Kept s0 (State.msgAll s0 ring payload) := by
  unfold State.msgAll
  exact Kept.foldl (.refl _) (fun a2 x3 h1 => h1.trans (State.pushTx_kept ..))

theorem State.sendRaw_kept (s0) (d) : Kept s0 (State.sendRaw s0 d) := by
  unfold State.sendRaw
  extract_lets +onlyGivenNames x1
  exact Kept.ite (State.setLed_kept ..) (State.pushTx_kept ..)

theorem State.applyCf_kept (s0) (cf) (day) : Kept s0 (State.applyCf s0 cf day) := by
  unfold State.applyCf
  extract_lets +onlyGivenNames x1
  have h2 : Kept s0 x1 := (State.setFld_kept ..).trans (State.setFld_kept ..)
  exact (h2.trans (State.setLed_kept ..)).trans (State.trigger_kept ..)

theorem State.accrue_kept (s0) (f) (ml) : KeptP s0 (State.accrue s0 f ml) := by
  unfold State.accrue
  extract_lets +onlyGivenNames x1
  exact Kept.ite (KeptP.mk (State.sramWrite_kept ..)) (KeptP.mk (State.sramWrite_kept ..))

theorem State.skipCredit_kept (s0) (n) : Kept s0 (State.skipCredit s0 n) := by
  unfold State.skipCredit
  exact Kept.ite (.refl _) (State.modValve_kept ..)

theorem State.meterChannel_kept (s0) (p) (stale) (n) : Kept s0 (State.meterChannel s0 p stale n) := by
  unfold State.meterChannel
  extract_lets +onlyGivenNames x1
  refine Kept.ite ?_ ?_
  · exact .refl _
  · refine Kept.ite ?_ ?_
    · exact State.skipCredit_kept ..
    · extract_lets +onlyGivenNames x2 x3 x4 x5 x6 x7 x8 x9
      have h10 : Kept s0 x9 := State.modValve_kept ..
      extract_lets +onlyGivenNames x11 x12 x13
      have h14 : Kept s0 x13 := h10.trans (State.setFld_kept ..)
      refine Kept.ite ?_ ?_
      · exact h14
      · split
        rename_i y15 y16 y17 y18
        have h19 : Kept s0 y17 := KeptP.get y18 (KeptP.trans h14 (State.accrue_kept ..))
        split
        rename_i y20 y21 y22 y23
        have h24 : Kept s0 y22 := KeptP.get y23 (Kept.ite (KeptP.trans h19 (State.accrue_kept ..)) (KeptP.mk h19))
        exact Kept.ite (h24.trans (State.setLed_kept ..)) h24

theorem State.reloadZone_kept (s0) (z) : Kept s0 (State.reloadZone s0 z) := by
  unfold State.reloadZone
  split
  rename_i y1 y2 y3 y4 y5
  extract_lets +onlyGivenNames x6
  have h7 : Kept s0 x6 := (State.sramWrite_kept ..).trans (State.sramWrite_kept ..)
  extract_lets +onlyGivenNames x8
  have h9 : Kept s0 x8 := h7.trans (State.sramWrite_kept ..)
  extract_lets +onlyGivenNames x10
  extract_lets +onlyGivenNames x11
  have h12 : Kept s0 x11 := h9.trans (State.setLed_kept ..)
  exact (h12.trans (State.report_kept ..)).trans (State.trigger_kept ..)

theorem State.checkZone_kept (s0) (z) : Kept s0 (State.checkZone s0 z) := by
  unfold State.checkZone
  split
  rename_i y1 y2 y3 y4 y5
  have h6 : Kept s0 y4 := KeptQ.get y5 (State.sramRead_kept ..)
  split
  rename_i y7 y8 y9 y10 y11
  have h12 : Kept s0 y10 := KeptQ.get y11 (KeptQ.trans h6 (State.sramRead_kept ..))
  split
  rename_i y13 y14 y15 y16 y17
  have h18 : Kept s0 y16 := KeptQ.get y17 (KeptQ.trans h12 (State.sramRead_kept ..))
  exact Kept.ite (h18.trans (State.reloadZone_kept ..)) h18

theorem State.setZoneBit_kept (s0) (f) (z) (b) : Kept s0 (State.setZoneBit s0 f z b) := by
  unfold State.setZoneBit
  exact State.setFld_kept ..

theorem State.wantHold_kept (s0) (cause) : Kept s0 (State.wantHold s0 cause) := by
  unfold State.wantHold
  exact (Kept.same)

theorem State.judgeZone_kept (s0) (z) : Kept s0 (State.judgeZone s0 z) := by
  unfold State.judgeZone
  extract_lets +onlyGivenNames x1
  extract_lets +onlyGivenNames x2
  extract_lets +onlyGivenNames x3
  have h4 : Kept s0 x3 := ((State.setZoneBit_kept ..).trans (State.report_kept ..)).trans (State.trigger_kept ..)
  extract_lets +onlyGivenNames x5
  have h6 : Kept s0 x5 := Kept.ite (Kept.ite (.refl _) (Kept.ite (h4.trans (State.wantHold_kept ..)) (Kept.ite h4
      (Kept.foldl h4 (fun a8 x9 h7 => Kept.ite (h7.trans (State.flush_kept ..)) h7))))) (State.setZoneBit_kept ..)
  extract_lets +onlyGivenNames x10
  exact Kept.ite (Kept.ite h6 ((h6.trans (State.setZoneBit_kept ..)).trans (State.report_kept ..))) (h6.trans
      (State.setZoneBit_kept ..))

theorem execMeteringUpdate_kept (s0) : KeptN s0 (execMeteringUpdate s0) := by
  unfold execMeteringUpdate
  refine KeptN.clocked ?_
  extract_lets +onlyGivenNames x1
  have h2 : Kept s0 x1 := State.takeInstant_kept ..
  split
  rename_i y3 y4 y5 y6
  extract_lets +onlyGivenNames x7
  have h8 : Kept s0 x7 := (h2.trans (State.setFld_kept ..)).trans (State.setFlag_kept ..)
  extract_lets +onlyGivenNames x9
  extract_lets +onlyGivenNames x10
  have h11 : Kept s0 x10 := h8.trans (State.setLed_kept ..)
  extract_lets +onlyGivenNames x12
  have h13 : Kept s0 x12 := Kept.foldl h11 (fun a15 x16 h14 => h14.trans (State.checkZone_kept ..))
  extract_lets +onlyGivenNames x17
  have h18 : Kept s0 x17 := Kept.foldl h13 (fun a20 x21 h19 => Kept.ite h19 (h19.trans (State.meterChannel_kept ..)))
  exact KeptN.ok (Kept.foldl h18 (fun a23 x24 h22 => h22.trans (State.judgeZone_kept ..)))

theorem State.judgeMachine_kept (s0) : Kept s0 (State.judgeMachine s0) := by
  unfold State.judgeMachine
  refine Kept.ite ?_ ?_
  · extract_lets +onlyGivenNames x1
    have h2 : Kept s0 x1 := ((State.setFlag_kept ..).trans (State.report_kept ..)).trans (State.trigger_kept ..)
    extract_lets +onlyGivenNames x3
    exact Kept.ite ((h2.trans (State.msgAll_kept ..)).trans (State.wantHold_kept ..)) h2
  · exact .refl _

theorem State.addMuse_kept (s0) (k) : Kept s0 (State.addMuse s0 k) := by
  unfold State.addMuse
  extract_lets +onlyGivenNames x1
  exact (State.setFld_kept ..).trans (State.setLed_kept ..)

theorem execFlowmeterPulse_kept (k) (gap) (s0) : KeptN s0 (execFlowmeterPulse k gap s0) := by
  unfold execFlowmeterPulse
  refine KeptN.clocked ?_
  extract_lets +onlyGivenNames x1
  have h2 : Kept s0 x1 := State.advCc_kept ..
  refine Kept.ite ?_ ?_
  · exact KeptN.ok h2
  · extract_lets +onlyGivenNames x3 x4 x5 x6
    have h7 : Kept s0 x6 := h2.trans .same
    refine Kept.ite ?_ ?_
    · extract_lets +onlyGivenNames x8
      have h9 : Kept s0 x8 := h7.trans (State.inc_kept ..)
      exact KeptN.ok ((Kept.ite ((h9.trans (State.addMuse_kept ..)).trans (State.judgeMachine_kept ..)) h9).trans
          (State.completed_kept ..))
    · exact KeptN.ok (h7.trans (State.completed_kept ..))

theorem execDayBoundary_kept (s0) : KeptN s0 (execDayBoundary s0) := by
  unfold execDayBoundary
  refine KeptN.clocked ?_
  refine Kept.ite ?_ ?_
  · exact KeptN.ok (.refl _)
  · extract_lets +onlyGivenNames x1
    extract_lets +onlyGivenNames x2 x3 x4
    have h5 : Kept s0 x4 := State.advTo_kept ..
    extract_lets +onlyGivenNames x6 x7
    have h8 : Kept s0 x7 := Kept.ite h5 (h5.trans (State.sendRaw_kept ..))
    extract_lets +onlyGivenNames x9 x10
    have h11 : Kept s0 x10 := (h8.trans (State.setFld_kept ..)).trans (State.setFld_kept ..)
    exact KeptN.ok (Kept.ite (h11.trans (State.setLed_kept ..)) h11)

theorem execReconciliation_kept (s0) : KeptN s0 (execReconciliation s0) := by
  unfold execReconciliation
  refine KeptN.clocked ?_
  split
  · rename_i y1 y2
    exact KeptN.ok (.refl _)
  · rename_i y3 y4 y5 y6 y7
    refine Kept.ite ?_ ?_
    · exact KeptN.ok (.refl _)
    · extract_lets +onlyGivenNames x8 x9 x10
      have h11 : Kept s0 x10 := Kept.ite (.refl _) (State.advCcTo_kept ..)
      extract_lets +onlyGivenNames x12 x13
      have h14 : Kept s0 x13 := h11.trans (State.setLed_kept ..)
      refine Kept.ite ?_ ?_
      · exact KeptN.ok (h14.trans (State.report_kept ..))
      · extract_lets +onlyGivenNames x15 x16
        refine Kept.ite ?_ ?_
        · exact KeptN.ok h14
        · refine Kept.ite ?_ ?_
          · exact KeptN.ok (h14.trans (State.report_kept ..))
          · extract_lets +onlyGivenNames x17
            exact KeptN.ok ((h14.trans (State.msgAll_kept ..)).trans (State.applyCf_kept ..))

theorem State.beginErase_kept (s0) : Kept s0 (State.beginErase s0) := by
  unfold State.beginErase
  exact (State.setLed_kept ..).trans (State.ledStage_kept ..)

theorem State.pageTimeout_kept (s0) : Kept s0 (State.pageTimeout s0) := by
  unfold State.pageTimeout
  exact ((State.raise_kept ..).trans (State.inc_kept ..)).trans (State.report_kept ..)

theorem State.commitFails_kept (s0) : Kept s0 (State.commitFails s0) := by
  unfold State.commitFails
  extract_lets +onlyGivenNames x1 x2
  have h3 : Kept s0 x2 := State.setLed_kept ..
  refine Kept.ite ?_ ?_
  · extract_lets +onlyGivenNames x4
    have h5 : Kept s0 x4 := ((h3.trans (State.raise_kept ..)).trans (State.inc_kept ..)).trans (State.report_kept ..)
    extract_lets +onlyGivenNames x6 x7
    have h8 : Kept s0 x7 := h5.trans (State.setLed_kept ..)
    extract_lets +onlyGivenNames x9
    have h10 : Kept s0 x9 := (h8.trans (State.ledStage_kept ..)).trans (State.setFlag_kept ..)
    exact Kept.ite (h10.trans (State.startCommit_kept ..)) (h10.trans (State.nextJob_kept ..))
  · exact (h3.trans (State.setLed_kept ..)).trans (State.beginErase_kept ..)

theorem State.publish_kept (s0) : Kept s0 (State.publish s0) := by
  unfold State.publish
  extract_lets +onlyGivenNames x1
  extract_lets +onlyGivenNames x2
  have h3 : Kept s0 x2 := ((State.setFld_kept ..).trans (State.setFld_kept ..)).trans (State.inc_kept ..)
  extract_lets +onlyGivenNames x4
  have h5 : Kept s0 x4 := h3.trans (State.setLed_kept ..)
  extract_lets +onlyGivenNames x6
  have h7 : Kept s0 x6 := h5.trans (State.ledStage_kept ..)
  exact Kept.ite (h7.trans (State.startCommit_kept ..)) (h7.trans (State.nextJob_kept ..))

theorem execCommitPeriodExpiry_kept (s0) : KeptN s0 (execCommitPeriodExpiry s0) := by
  unfold execCommitPeriodExpiry
  refine KeptN.clocked ?_
  refine Kept.ite ?_ ?_
  · exact KeptN.ok (.refl _)
  · extract_lets +onlyGivenNames x1
    have h2 : Kept s0 x1 := State.advCcTo_kept ..
    extract_lets +onlyGivenNames x3 x4
    have h5 : Kept s0 x4 := h2.trans (State.setLed_kept ..)
    exact KeptN.ok (h5.trans (State.trigger_kept ..))

theorem execCommitStart_kept (s0) : KeptN s0 (execCommitStart s0) := by
  unfold execCommitStart
  refine KeptN.clocked ?_
  refine Kept.ite ?_ ?_
  · exact KeptN.ok (.refl _)
  · extract_lets +onlyGivenNames x1
    have h2 : Kept s0 x1 := State.advCcTo_kept ..
    split
    rename_i y3 y4 y5 y6
    have h7 : Kept s0 y5 := KeptP.get y6 (Kept.ite (KeptP.trans h2 (State.draw_kept ..)) (KeptP.mk h2))
    exact KeptN.ok ((h7.trans (State.setLed_kept ..)).trans (State.beginErase_kept ..))

theorem execSectorEraseComplete_kept (s0) : KeptN s0 (execSectorEraseComplete s0) := by
  unfold execSectorEraseComplete
  exact KeptN.clocked (Kept.ite (KeptN.ok (((State.flashErase_kept ..).trans (State.countTrans_kept ..)).trans
      (State.ledStage_kept ..))) (KeptN.ok (.refl _)))

theorem execLedgerCapture_kept (s0) : KeptN s0 (execLedgerCapture s0) := by
  unfold execLedgerCapture
  refine KeptN.clocked ?_
  refine Kept.ite ?_ ?_
  · exact KeptN.ok (.refl _)
  · extract_lets +onlyGivenNames x1
    have h2 : Kept s0 x1 := State.takeInstant_kept ..
    refine Kept.ite ?_ ?_
    · exact KeptN.ok h2
    · extract_lets +onlyGivenNames x3
      have h4 : Kept s0 x3 := Kept.foldl h2 (fun a6 x7 h5 => h5.trans (State.checkZone_kept ..))
      extract_lets +onlyGivenNames x8 x9 x10
      have h11 : Kept s0 x10 := h4.trans (State.setLed_kept ..)
      exact KeptN.ok (h11.trans (State.ledStage_kept ..))

theorem State.stageItems_kept (s0) (body) : Kept s0 (State.stageItems s0 body) := by
  unfold State.stageItems
  exact Kept.foldl (.refl _) (fun a2 x3 h1 => h1.trans (State.pushItem_kept ..))

theorem execRecordSigned_kept (s0) : KeptN s0 (execRecordSigned s0) := by
  unfold execRecordSigned
  refine KeptN.clocked ?_
  refine Kept.ite ?_ ?_
  · exact KeptN.ok (.refl _)
  · extract_lets +onlyGivenNames x1
    extract_lets +onlyGivenNames x2
    exact Kept.ite (KeptN.ok (((State.setLed_kept ..).trans (State.stageItems_kept ..)).trans (State.ledStage_kept ..)))
        (KeptN.ok (.refl _))

theorem State.unstage_kept (s0) : KeptP s0 (State.unstage s0) := by
  unfold State.unstage
  split
  rename_i y1 y2 y3 y4 y5
  have h6 : Kept s0 y4 := by
    refine KeptQ.get y5 ?_
    refine KeptQ.foldl ?_ (fun a8 x9 h7 => ?_)
    · exact KeptQ.mk (.refl _)
    · refine Kept.ite ?_ ?_
      · exact h7
      · split
        rename_i y10 y11 y12 y13
        have h14 : Kept s0 y12 := KeptP.get y13 (KeptP.trans h7 (State.readItem_kept ..))
        extract_lets +onlyGivenNames x15
        exact Kept.ite (KeptQ.mk ((h14.trans (State.inc_kept ..)).trans (State.inc_kept ..))) (KeptQ.mk h14)
  exact KeptP.mk h6

theorem execRecordProgrammed_kept (s0) : KeptN s0 (execRecordProgrammed s0) := by
  unfold execRecordProgrammed
  refine KeptN.clocked ?_
  refine Kept.ite ?_ ?_
  · exact KeptN.ok (.refl _)
  · split
    rename_i y1 y2 y3 y4
    have h5 : Kept s0 y3 := KeptP.get y4 (State.unstage_kept ..)
    extract_lets +onlyGivenNames x6 x7 x8
    have h9 : Kept s0 x8 := (Kept.ite (h5.trans (State.flashTornProgram_kept ..)) (h5.trans (State.flashProgram_kept
        ..))).trans (State.countTrans_kept ..)
    exact KeptN.ok ((h9.trans (State.release_kept ..)).trans (State.ledStage_kept ..))

theorem execMarkerProgrammed_kept (s0) : KeptN s0 (execMarkerProgrammed s0) := by
  unfold execMarkerProgrammed
  exact KeptN.clocked (Kept.ite (KeptN.ok (.refl _)) (KeptN.ok (((State.flashProgram_kept ..).trans (State.countTrans_kept
      ..)).trans (State.ledStage_kept ..))))

theorem execReadbackCompare_kept (same) (s0) : KeptN s0 (execReadbackCompare same s0) := by
  unfold execReadbackCompare
  refine KeptN.clocked ?_
  extract_lets +onlyGivenNames x1
  refine Kept.ite ?_ ?_
  · exact KeptN.ok (.refl _)
  · extract_lets +onlyGivenNames x2
    have h3 : Kept s0 x2 := State.countTrans_kept ..
    exact Kept.ite (KeptN.ok (h3.trans (State.publish_kept ..))) (KeptN.ok (h3.trans (State.commitFails_kept ..)))

theorem State.tearCommit_kept (s0) (k) : Kept s0 (State.tearCommit s0 k) := by
  unfold State.tearCommit
  extract_lets +onlyGivenNames x1
  exact Kept.ite (State.flashTornErase_kept ..) (Kept.ite (State.flashTornProgram_kept ..) (Kept.ite
      (State.flashTornProgram_kept ..) (.refl _)))

theorem execCommitStepTimeout_kept (s0) : KeptN s0 (execCommitStepTimeout s0) := by
  unfold execCommitStepTimeout
  refine KeptN.clocked ?_
  extract_lets +onlyGivenNames x1
  refine Kept.ite ?_ ?_
  · extract_lets +onlyGivenNames x2
    have h3 : Kept s0 x2 := State.advCcTo_kept ..
    extract_lets +onlyGivenNames x4
    have h5 : Kept s0 x4 := (Kept.ite h3 (h3.trans (State.pageTimeout_kept ..))).trans (State.tearCommit_kept ..)
    exact KeptN.ok ((h5.trans (State.release_kept ..)).trans (State.commitFails_kept ..))
  · exact KeptN.ok (.refl _)

theorem State.readLedger_kept (s0) : KeptP s0 (State.readLedger s0) := by
  unfold State.readLedger
  extract_lets +onlyGivenNames x1
  exact KeptP.mk (State.update_kept ..)

end Sys2Proof.Machine
end

