-- ==== Sys2Proof/Laws/KeptPlan.lean ====
section
/-! SUPPORT. `Kept` holds of the operations of `Machine/Plan.lean`. -/

set_option Elab.async false

namespace Sys2Proof.Machine

open Sys2Proof

theorem State.planWords_kept (v0) (v1) (s0) : KeptP s0 (State.planWords v0 v1 s0) := by
  induction v0 generalizing v1 s0
  · rw [State.planWords]
    exact KeptP.mk (.refl _)
  · rename_i v0 ih
    rw [State.planWords]
    split
    rename_i y1 y2 y3 y4 y5
    have h6 : Kept s0 y4 := KeptQ.get y5 (State.sramRead_kept ..)
    refine Kept.ite ?_ ?_
    · exact KeptP.mk h6
    · split
      · rename_i y7 y8 y9 y10
        have h11 : Kept s0 y9 := KeptP.get y10 (KeptP.trans h6 (ih ..))
        exact KeptP.mk h11
      · rename_i y12 y13 y14
        have h15 : Kept s0 y13 := KeptP.get y14 (KeptP.trans h6 (ih ..))
        exact KeptP.mk h15

theorem State.checkBank_kept (s0) (b) : KeptP s0 (State.checkBank s0 b) := by
  unfold State.checkBank
  split
  · rename_i y1 y2 y3
    have h4 : Kept s0 y2 := KeptP.get y3 (State.planWords_kept ..)
    exact KeptP.mk h4
  · rename_i y5 y6 y7 y8
    have h9 : Kept s0 y7 := KeptP.get y8 (State.planWords_kept ..)
    extract_lets +onlyGivenNames x10 x11
    refine Kept.ite ?_ ?_
    · split
      · rename_i y12 y13 y14
        have h15 : Kept s0 y13 := KeptP.get y14 (KeptP.trans h9 (State.planWords_kept ..))
        exact KeptP.mk h15
      · rename_i y16 y17 y18 y19
        have h20 : Kept s0 y18 := KeptP.get y19 (KeptP.trans h9 (State.planWords_kept ..))
        exact KeptP.mk h20
    · exact KeptP.mk h9

theorem State.activate_kept (s0) (b) (valid) : Kept s0 (State.activate s0 b valid) := by
  unfold State.activate
  extract_lets +onlyGivenNames x1
  have h2 : Kept s0 x1 := (State.setFld_kept ..).trans (State.setFld_kept ..)
  exact h2.trans .same

theorem State.planPush_kept (s0) (n) (open_) (trig) (stamp) : Kept s0 (State.planPush s0 n open_ trig stamp) := by
  unfold State.planPush
  extract_lets +onlyGivenNames x1
  extract_lets +onlyGivenNames x2
  extract_lets +onlyGivenNames x3
  exact (Kept.same)

theorem State.planFlush_kept (v0) (s0) : Kept s0 (State.planFlush v0 s0) := by
  induction v0 generalizing s0
  · rw [State.planFlush]
    exact .refl _
  · rename_i v0 ih
    rw [State.planFlush]
    split
    · rename_i y1 y2
      exact .refl _
    · rename_i y3 y4 y5 y6 y7 y8 y9
      split
      rename_i y10 y11 y12 y13 y14
      have h15 : Kept s0 y13 := KeptQ.get y14 (State.submit_kept ..)
      exact Kept.ite ((h15.trans .same).trans (ih ..)) (h15.trans (State.inc_kept ..))

theorem State.mapPoison_kept (s0) : Kept s0 (State.mapPoison s0) := by
  unfold State.mapPoison
  exact (State.inc_kept ..).trans (State.report_kept ..)

theorem State.depthAt_kept (s0) (h) (c) (z) : KeptP s0 (State.depthAt s0 h c z) := by
  unfold State.depthAt
  split
  · rename_i y1 y2
    exact KeptP.mk (.refl _)
  · rename_i y3 y4 y5
    refine Kept.ite ?_ ?_
    · exact Kept.ite (KeptP.mk (.refl _)) (State.draw_kept ..)
    · split
      rename_i y6 y7 y8 y9 y10
      have h11 : Kept s0 y9 := KeptQ.get y10 (State.sramRead_kept ..)
      exact Kept.ite (KeptP.mk (h11.trans (State.mapPoison_kept ..))) (KeptP.mk h11)

theorem State.depths_kept (s0) (h) (c) : KeptP s0 (State.depths s0 h c) := by
  unfold State.depths
  refine KeptP.foldl ?_ (fun a2 x3 h1 => ?_)
  · exact KeptP.mk (.refl _)
  · split
    rename_i y4 y5 y6
    extract_lets +onlyGivenNames x7
    refine Kept.ite ?_ ?_
    · split
      rename_i y8 y9 y10 y11
      have h12 : Kept s0 y10 := KeptP.get y11 (KeptP.trans h1 (State.depthAt_kept ..))
      exact KeptP.mk h12
    · exact KeptP.mk h1

theorem State.pushHeld_kept (s0) (opensAt) : Kept s0 (State.pushHeld s0 opensAt) := by
  unfold State.pushHeld
  extract_lets +onlyGivenNames x1
  exact Kept.foldl ((Kept.same)) (fun a3 x4 h2 => Kept.ite h2 (h2.trans (State.planPush_kept ..)))

theorem State.expandCell_kept (s0) (h) (c) : Kept s0 (State.expandCell s0 h c) := by
  unfold State.expandCell
  extract_lets +onlyGivenNames x1
  split
  rename_i y2 y3 y4 y5
  have h6 : Kept s0 y4 := KeptP.get y5 (State.depths_kept ..)
  extract_lets +onlyGivenNames x7
  have h8 : Kept s0 x7 := Kept.ite (h6.trans (State.inc_kept ..)) h6
  extract_lets +onlyGivenNames x9
  extract_lets +onlyGivenNames x10
  extract_lets +onlyGivenNames x11
  extract_lets +onlyGivenNames x12
  extract_lets +onlyGivenNames x13
  extract_lets +onlyGivenNames x14
  have h15 : Kept s0 x14 := h8.trans (State.pushHeld_kept ..)
  extract_lets +onlyGivenNames x16
  extract_lets +onlyGivenNames x17
  have h18 : Kept s0 x17 := by
    unfold x17
    refine Kept.foldl ?_ (fun a20 x21 h19 => ?_)
    · exact h15
    · refine Kept.ite ?_ ?_
      · exact h19
      · extract_lets +onlyGivenNames x22
        extract_lets +onlyGivenNames x23
        have h24 : Kept s0 x23 := Kept.ite h19 (h19.trans (State.planPush_kept ..))
        exact Kept.ite h24 (h24.trans (State.planPush_kept ..))
  exact h18.trans .same

theorem State.swap_kept (s0) : Kept s0 (State.swap s0) := by
  unfold State.swap
  extract_lets +onlyGivenNames x1 x2
  split
  · rename_i y3 y4 y5
    have h6 : Kept s0 y4 := KeptP.get y5 (State.checkBank_kept ..)
    extract_lets +onlyGivenNames x7
    have h8 : Kept s0 x7 := ((h6.trans (State.activate_kept ..)).trans (State.raise_kept ..)).trans (State.update_kept ..)
    extract_lets +onlyGivenNames x9 x10 x11 x12
    have h13 : Kept s0 x12 := Kept.ite h8 (h8.trans (State.pushHeld_kept ..))
    exact h13.trans .same
  · rename_i y14 y15 y16
    have h17 : Kept s0 y15 := KeptP.get y16 (State.checkBank_kept ..)
    extract_lets +onlyGivenNames x18
    have h19 : Kept s0 x18 := ((h17.trans (State.update_kept ..)).trans (State.raise_kept ..)).trans (State.inc_kept ..)
    exact h19.trans (State.report_kept ..)

theorem State.readHeader_kept (s0) : KeptP s0 (State.readHeader s0) := by
  unfold State.readHeader
  extract_lets +onlyGivenNames x1 x2
  split
  rename_i y3 y4 y5 y6
  have h7 : Kept s0 y5 := by
    refine KeptP.get y6 ?_
    refine KeptP.foldl ?_ (fun a9 x10 h8 => ?_)
    · exact KeptP.mk (.refl _)
    · split
      rename_i y11 y12 y13 y14 y15
      have h16 : Kept s0 y14 := KeptQ.get y15 (KeptQ.trans h8 (State.sramRead_kept ..))
      exact KeptP.mk (Kept.ite (h16.trans (State.mapPoison_kept ..)) h16)
  refine Kept.ite ?_ ?_
  · refine KeptP.mk ?_
    extract_lets +onlyGivenNames x17
    have h18 : Kept s0 x17 := h7.trans (State.pushHeld_kept ..)
    exact h18.trans .same
  · exact KeptP.mk h7

theorem State.expandLoop_kept (v0) (s0) : Kept s0 (State.expandLoop v0 s0) := by
  induction v0 generalizing s0
  · rw [State.expandLoop]
    exact .refl _
  · rename_i v0 ih
    rw [State.expandLoop]
    refine Kept.ite ?_ ?_
    · exact .refl _
    · refine Kept.ite ?_ ?_
      · extract_lets +onlyGivenNames x1
        refine Kept.ite ?_ ?_
        · extract_lets +onlyGivenNames x2
          have h3 : Kept s0 x2 := State.swap_kept ..
          exact Kept.ite (h3.trans (ih ..)) h3
        · exact .refl _
      · extract_lets +onlyGivenNames x4 x5 x6
        refine Kept.ite ?_ ?_
        · exact Kept.ite ((State.swap_kept ..).trans (ih ..)) (.refl _)
        · refine Kept.ite ?_ ?_
          · exact .refl _
          · split
            · rename_i y7 y8 y9
              have h10 : Kept s0 y8 := KeptP.get y9 (State.readHeader_kept ..)
              exact h10.trans (State.planFlush_kept ..)
            · rename_i y11 y12 y13 y14
              have h15 : Kept s0 y13 := KeptP.get y14 (State.readHeader_kept ..)
              extract_lets +onlyGivenNames x16
              have h17 : Kept s0 x16 := h15.trans (State.expandCell_kept ..)
              exact (h17.trans (State.planFlush_kept ..)).trans (ih ..)

theorem State.uniformStart_kept (s0) (t) : Kept s0 (State.uniformStart s0 t) := by
  unfold State.uniformStart
  extract_lets +onlyGivenNames x1
  extract_lets +onlyGivenNames x2
  have h3 : Kept s0 x2 := by
    unfold x2
    refine Kept.foldl ?_ (fun a5 x6 h4 => ?_)
    · exact .refl _
    · refine Kept.ite ?_ ?_
      · extract_lets +onlyGivenNames x7
        extract_lets +onlyGivenNames x8
        have h9 : Kept s0 x8 := Kept.ite (h4.trans (State.planPush_kept ..)) h4
        exact Kept.ite (h9.trans (State.planPush_kept ..)) h9
      · exact h4
  exact h3.trans .same

theorem State.planStep_kept (s0) : Kept s0 (State.planStep s0) := by
  unfold State.planStep
  refine Kept.ite ?_ ?_
  · exact .refl _
  · extract_lets +onlyGivenNames x1
    have h2 : Kept s0 x1 := by
      unfold x1
      split
      · rename_i y3 y4 y5
        exact Kept.ite (State.uniformStart_kept ..) (.refl _)
      · rename_i y6 y7
        exact .refl _
    extract_lets +onlyGivenNames x8
    have h9 : Kept s0 x8 := h2.trans (State.planFlush_kept ..)
    exact Kept.ite (h9.trans (State.expandLoop_kept ..)) h9

theorem State.startPlan_kept (s0) (k) : Kept s0 (State.startPlan s0 k) := by
  unfold State.startPlan
  extract_lets +onlyGivenNames x1
  extract_lets +onlyGivenNames x2
  have h3 : Kept s0 x2 := (Kept.same)
  exact h3.trans .same

theorem State.writeMap_kept (s0) (v) : Kept s0 (State.writeMap s0 v) := by
  unfold State.writeMap
  extract_lets +onlyGivenNames x1
  have h2 : Kept s0 x1 := Kept.ite (State.setFlag_kept ..) (.refl _)
  extract_lets +onlyGivenNames x3
  have h4 : Kept s0 x3 := Kept.ite (h2.trans (State.setFlag_kept ..)) h2
  refine Kept.ite ?_ ?_
  · extract_lets +onlyGivenNames x5
    extract_lets +onlyGivenNames x6
    exact (h4.trans (State.setFlag_kept ..)).trans (State.setFld_kept ..)
  · exact h4.trans (State.setFlag_kept ..)

end Sys2Proof.Machine
end

