-- ==== Sys2Proof/Laws/KeptDrive.lean ====
section
/-! SUPPORT. `Kept` holds of the operations of `Machine/Drive.lean`. -/

set_option Elab.async false

namespace Sys2Proof.Machine

open Sys2Proof

theorem State.stepIntegrator_kept (s0) (n) : Kept s0 (State.stepIntegrator s0 n) := by
  unfold State.stepIntegrator
  extract_lets +onlyGivenNames x1 x2
  refine Kept.ite ?_ ?_
  · extract_lets +onlyGivenNames x3
    exact State.setValve_kept ..
  · exact .refl _

theorem State.judgeOpenLoad_kept (s0) (n) : Kept s0 (State.judgeOpenLoad s0 n) := by
  unfold State.judgeOpenLoad
  extract_lets +onlyGivenNames x1
  extract_lets +onlyGivenNames x2
  extract_lets +onlyGivenNames x3
  extract_lets +onlyGivenNames x4
  have h5 : Kept s0 x4 := State.setValve_kept ..
  exact Kept.ite ((h5.trans (State.raise_kept ..)).trans (State.report_kept ..)) h5

theorem State.stepTarget_kept (s0) (n) : Kept s0 (State.stepTarget s0 n) := by
  unfold State.stepTarget
  extract_lets +onlyGivenNames x1
  refine Kept.ite ?_ ?_
  · exact State.setValve_kept ..
  · refine Kept.ite ?_ ?_
    · exact .refl _
    · extract_lets +onlyGivenNames x2
      extract_lets +onlyGivenNames x3 x4
      exact State.setValve_kept ..

theorem State.reloadHold_kept (s0) (n) : Kept s0 (State.reloadHold s0 n) := by
  unfold State.reloadHold
  exact State.setFld_kept ..

theorem execCaptureEdge_kept (n) (ss) (s0) : KeptN s0 (execCaptureEdge n ss s0) := by
  unfold execCaptureEdge
  refine KeptN.clocked ?_
  refine Kept.ite ?_ ?_
  · exact KeptN.ok (.refl _)
  · extract_lets +onlyGivenNames x1 x2 x3
    have h4 : Kept s0 x3 := State.feedFrom_kept ..
    extract_lets +onlyGivenNames x5
    have h6 : Kept s0 x5 := h4.trans (State.advCcTo_kept ..)
    extract_lets +onlyGivenNames x7
    have h8 : Kept s0 x7 := (h6.trans (State.judgeOpenLoad_kept ..)).trans (State.stepIntegrator_kept ..)
    extract_lets +onlyGivenNames x9
    have h10 : Kept s0 x9 := h8.trans (State.reloadHold_kept ..)
    extract_lets +onlyGivenNames x11
    have h12 : Kept s0 x11 := h10.trans (State.modValve_kept ..)
    refine Kept.ite ?_ ?_
    · extract_lets +onlyGivenNames x13
      have h14 : Kept s0 x13 := ((h12.trans (State.stepTarget_kept ..)).trans (State.judgePeak_kept ..)).trans
          (State.showTgt_kept ..)
      exact KeptN.ok (h14.trans (State.setDuty_kept ..))
    · exact KeptN.ok (h12.trans (State.coastPeriod_kept ..))

theorem execOffStateOpenTest_kept (n) (high) (s0) : KeptN s0 (execOffStateOpenTest n high s0) := by
  unfold execOffStateOpenTest
  refine KeptN.clocked ?_
  refine Kept.ite ?_ ?_
  · exact KeptN.ok (.refl _)
  · extract_lets +onlyGivenNames x1
    extract_lets +onlyGivenNames x2
    have h3 : Kept s0 x2 := (State.advCcTo_kept ..).trans (State.advCc_kept ..)
    exact Kept.ite (KeptN.ok ((h3.trans (State.raise_kept ..)).trans (State.report_kept ..))) (KeptN.ok h3)

theorem execArmatureResult_kept (n) (ss) (s0) : KeptN s0 (execArmatureResult n ss s0) := by
  unfold execArmatureResult
  refine KeptN.clocked ?_
  extract_lets +onlyGivenNames x1
  refine Kept.ite ?_ ?_
  · exact KeptN.ok (.refl _)
  · extract_lets +onlyGivenNames x2
    have h3 : Kept s0 x2 := State.feed_kept ..
    split
    · rename_i y4 y5
      exact KeptN.ok h3
    · rename_i y6 y7 y8
      extract_lets +onlyGivenNames x9
      have h10 : Kept s0 x9 := Kept.ite (h3.trans (State.advCcTo_kept ..)) h3
      split
      rename_i y11 y12 y13 y14
      exact KeptN.ok ((h10.trans (State.openResult_kept ..)).trans (State.completed_kept ..))

theorem execCloseDetectionResult_kept (n) (ss) (s0) : KeptN s0 (execCloseDetectionResult n ss s0) := by
  unfold execCloseDetectionResult
  refine KeptN.clocked ?_
  extract_lets +onlyGivenNames x1
  refine Kept.ite ?_ ?_
  · exact KeptN.ok (.refl _)
  · extract_lets +onlyGivenNames x2
    have h3 : Kept s0 x2 := State.feed_kept ..
    split
    · rename_i y4 y5
      exact KeptN.ok h3
    · rename_i y6 y7 y8
      extract_lets +onlyGivenNames x9
      have h10 : Kept s0 x9 := Kept.ite (h3.trans (State.advCcTo_kept ..)) h3
      split
      rename_i y11 y12 y13 y14
      exact KeptN.ok ((h10.trans (State.closeResult_kept ..)).trans (State.completed_kept ..))

theorem execResistanceMeasurement_kept (n) (ss) (s0) : KeptN s0 (execResistanceMeasurement n ss s0) := by
  unfold execResistanceMeasurement
  refine KeptN.clocked ?_
  extract_lets +onlyGivenNames x1
  refine Kept.ite ?_ ?_
  · exact KeptN.ok (.refl _)
  · extract_lets +onlyGivenNames x2
    have h3 : Kept s0 x2 := State.feed_kept ..
    split
    · rename_i y4 y5
      exact KeptN.ok h3
    · rename_i y6 y7 y8
      extract_lets +onlyGivenNames x9
      have h10 : Kept s0 x9 := h3.trans (State.advCcTo_kept ..)
      extract_lets +onlyGivenNames x11
      have h12 : Kept s0 x11 := h10.trans (State.modValve_kept ..)
      split
      · rename_i y13 y14
        exact KeptN.ok (h12.trans (State.inc_kept ..))
      · rename_i y15 y16 y17
        extract_lets +onlyGivenNames x18 x19
        have h20 : Kept s0 x19 := h12.trans (State.setFld_kept ..)
        extract_lets +onlyGivenNames x21
        have h22 : Kept s0 x21 := h20.trans (State.modValve_kept ..)
        refine Kept.ite ?_ ?_
        · extract_lets +onlyGivenNames x23
          have h24 : Kept s0 x23 := (h22.trans (State.turnOffClock_kept ..)).trans (State.raise_kept ..)
          exact KeptN.ok (((h24.trans (State.turnOff_kept ..)).trans (State.tellClosed_kept ..)).trans (State.report_kept
              ..))
        · exact KeptN.ok h22

theorem execOvercurrentTrip_kept (n) (s0) : KeptN s0 (execOvercurrentTrip n s0) := by
  unfold execOvercurrentTrip
  refine KeptN.clocked ?_
  extract_lets +onlyGivenNames x1
  refine Kept.ite ?_ ?_
  · extract_lets +onlyGivenNames x2
    have h3 : Kept s0 x2 := ((State.turnOffClock_kept ..).trans (State.raise_kept ..)).trans (State.inc_kept ..)
    exact KeptN.ok (((h3.trans (State.turnOff_kept ..)).trans (State.tellClosed_kept ..)).trans (State.report_kept ..))
  · exact KeptN.ok (.refl _)

theorem State.groupValues_kept (s0) (g) (c) (xs) : Kept s0 (State.groupValues s0 g c xs) := by
  unfold State.groupValues
  extract_lets +onlyGivenNames x1
  have h2 : Kept s0 x1 := State.advCc_kept ..
  split
  · rename_i y3 y4 y5
    exact Kept.ite (h2.trans (State.setFld_kept ..)) (h2.trans (State.setFld_kept ..))
  · rename_i y6 y7
    exact h2

theorem State.groupTurnOff_kept (s0) (n) : Kept s0 (State.groupTurnOff s0 n) := by
  unfold State.groupTurnOff
  exact Kept.ite (.refl _) (Kept.ite ((State.turnOff_kept ..).trans (State.tellClosed_kept ..)) (.refl _))

theorem execGroupConditionAssert_kept (g) (c) (x) (s0) : KeptN s0 (execGroupConditionAssert g c x s0) := by
  unfold execGroupConditionAssert
  refine KeptN.clocked ?_
  extract_lets +onlyGivenNames x1
  have h2 : Kept s0 x1 := State.groupValues_kept ..
  extract_lets +onlyGivenNames x3
  refine Kept.ite ?_ ?_
  · exact KeptN.ok h2
  · extract_lets +onlyGivenNames x4
    have h5 : Kept s0 x4 := (h2.trans (State.turnOffClock_kept ..)).trans (State.setGroup_kept ..)
    extract_lets +onlyGivenNames x6
    have h7 : Kept s0 x6 := h5.trans (State.raise_kept ..)
    extract_lets +onlyGivenNames x8
    have h9 : Kept s0 x8 := Kept.foldl h7 (fun a11 x12 h10 => h10.trans (State.groupTurnOff_kept ..))
    exact KeptN.ok (h9.trans (State.report_kept ..))

theorem execGroupConditionEnd_kept (g) (c) (x) (s0) : KeptN s0 (execGroupConditionEnd g c x s0) := by
  unfold execGroupConditionEnd
  refine KeptN.clocked ?_
  extract_lets +onlyGivenNames x1
  have h2 : Kept s0 x1 := State.groupValues_kept ..
  exact Kept.ite (KeptN.ok ((h2.trans (State.setGroup_kept ..)).trans (State.completed_kept ..))) (KeptN.ok h2)

theorem execOffTimeEnd_kept (n) (s0) : KeptN s0 (execOffTimeEnd n s0) := by
  unfold execOffTimeEnd
  refine KeptN.clocked ?_
  extract_lets +onlyGivenNames x1
  split
  · rename_i y2 y3
    exact KeptN.ok (.refl _)
  · rename_i y4 y5 y6
    refine Kept.ite ?_ ?_
    · extract_lets +onlyGivenNames x7
      have h8 : Kept s0 x7 := State.advCcTo_kept ..
      exact KeptN.ok ((h8.trans (State.modValve_kept ..)).trans (State.completed_kept ..))
    · exact KeptN.ok (.refl _)

end Sys2Proof.Machine
end

