-- ==== Sys2Proof/Laws/KeptSched.lean ====
section
/-! SUPPORT. `Kept` holds of the operations of `Machine/Sched.lean`. -/

set_option Elab.async false

namespace Sys2Proof.Machine

open Sys2Proof

theorem State.issueOpen_kept (s0) (n) (d) : KeptP s0 (State.issueOpen s0 n d) := by
  unfold State.issueOpen
  refine Kept.ite ?_ ?_
  · exact KeptP.mk (.refl _)
  · extract_lets +onlyGivenNames x1
    have h2 : Kept s0 x1 := State.modValve_kept ..
    refine Kept.ite ?_ ?_
    · exact KeptP.mk h2
    · refine Kept.ite ?_ ?_
      · exact KeptP.mk ((h2.trans (State.modValve_kept ..)).trans (State.inc_kept ..))
      · extract_lets +onlyGivenNames x3
        have h4 : Kept s0 x3 := Kept.ite (h2.trans (State.setFldI_kept ..)) h2
        exact KeptP.mk (h4.trans (State.startOpen_kept ..))

theorem State.issueClose_kept (s0) (n) (d) : KeptP s0 (State.issueClose s0 n d) := by
  unfold State.issueClose
  extract_lets +onlyGivenNames x1
  refine Kept.ite ?_ ?_
  · exact KeptP.mk (.refl _)
  · refine Kept.ite ?_ ?_
    · exact KeptP.mk (.refl _)
    · refine Kept.ite ?_ ?_
      · exact Kept.ite (KeptP.mk (State.modValve_kept ..)) (KeptP.mk (.refl _))
      · refine Kept.ite ?_ ?_
        · extract_lets +onlyGivenNames x2
          have h3 : Kept s0 x2 := Kept.ite (State.setFldI_kept ..) (.refl _)
          exact KeptP.mk (h3.trans (State.startClose_kept ..))
        · exact KeptP.mk (.refl _)

theorem State.noteAll_kept (s0) (as) (r) : Kept s0 (State.noteAll s0 as r) := by
  unfold State.noteAll
  exact Kept.foldl (.refl _) (fun a2 x3 h1 => h1.trans (State.noteOutcome_kept ..))

theorem State.resolveClose_kept (s0) (n) (a) (more) (opens) : Kept s0 (State.resolveClose s0 n a more opens) := by
  unfold State.resolveClose
  split
  rename_i y1 y2 y3 y4
  have h5 : Kept s0 y3 := KeptP.get y4 (State.issueClose_kept ..)
  extract_lets +onlyGivenNames x6
  have h7 : Kept s0 x6 := (h5.trans (State.noteOutcome_kept ..)).trans (State.noteAll_kept ..)
  extract_lets +onlyGivenNames x8
  extract_lets +onlyGivenNames x9
  have h10 : Kept s0 x9 := Kept.ite (h7.trans (State.tellClosed_kept ..)) h7
  extract_lets +onlyGivenNames x11
  have h12 : Kept s0 x11 := by
    unfold x11
    split
    · rename_i y13 y14 y15
      exact (h10.trans (State.modValve_kept ..)).trans (State.noteOutcome_kept ..)
    · rename_i y16 y17
      exact h10
  extract_lets +onlyGivenNames x18
  have h19 : Kept s0 x18 := h12.trans (State.incBy_kept ..)
  exact h19.trans (State.noteAll_kept ..)

theorem State.resolveOpen_kept (s0) (n) (a) (more) : Kept s0 (State.resolveOpen s0 n a more) := by
  unfold State.resolveOpen
  refine Kept.ite ?_ ?_
  · exact (State.modValve_kept ..).trans (State.noteAll_kept ..)
  · split
    rename_i y1 y2 y3 y4
    have h5 : Kept s0 y3 := KeptP.get y4 (State.issueOpen_kept ..)
    exact (h5.trans (State.noteOutcome_kept ..)).trans (State.noteAll_kept ..)

theorem State.resolve_kept (s0) (n) (as) : Kept s0 (State.resolve s0 n as) := by
  unfold State.resolve
  extract_lets +onlyGivenNames x1 x2 x3
  have h4 : Kept s0 x3 := Kept.ite (.refl _) (State.setValve_kept ..)
  extract_lets +onlyGivenNames x5
  split
  · rename_i y6 y7 y8 y9
    exact h4.trans (State.resolveClose_kept ..)
  · rename_i y10 y11
    clear_value x5
    split
    · rename_i y12
      exact h4
    · rename_i y13 y14 y15
      exact h4.trans (State.resolveOpen_kept ..)

theorem State.testRecs_kept (q) (v1) (s0) : KeptR s0 (State.testRecs q v1 s0) := by
  induction v1 generalizing q s0
  · rw [State.testRecs]
    exact KeptR.mk (.refl _)
  · rename_i x0 v1 ih
    rw [State.testRecs]
    refine Kept.ite ?_ ?_
    · split
      rename_i y1 y2 y3 y4 y5 y6
      have h7 : Kept s0 y5 := KeptR.get y6 (ih ..)
      exact KeptR.mk h7
    · split
      rename_i y8 y9 y10 y11
      have h12 : Kept s0 y10 := KeptP.get y11 (State.readRec_kept ..)
      refine Kept.ite ?_ ?_
      · exact KeptR.mk h12
      · extract_lets +onlyGivenNames x13
        extract_lets +onlyGivenNames x14
        split
        rename_i y15 y16 y17 y18 y19 y20
        have h21 : Kept s0 y19 := KeptR.get y20 (KeptR.trans h12 (ih ..))
        exact Kept.ite (KeptR.mk h21) (KeptR.mk h21)

theorem State.takeFrom_kept (s0) (q) : KeptQ s0 (State.takeFrom s0 q) := by
  unfold State.takeFrom
  extract_lets +onlyGivenNames x1
  refine Kept.ite ?_ ?_
  · exact KeptQ.mk (.refl _)
  · split
    rename_i y2 y3 y4 y5 y6 y7
    have h8 : Kept s0 y6 := KeptR.get y7 (State.testRecs_kept ..)
    extract_lets +onlyGivenNames x9 x10 x11 x12
    have h13 : Kept s0 x12 := h8.trans (State.setQueue_kept ..)
    extract_lets +onlyGivenNames x14
    have h15 : Kept s0 x14 := h13.trans .same
    extract_lets +onlyGivenNames x16
    have h17 : Kept s0 x16 := h15.trans (State.incBy_kept ..)
    split
    · rename_i y18
      have h19 : Kept s0 y6 := KeptR.get y7 (State.testRecs_kept ..)
      exact KeptQ.mk h17
    · rename_i y20 y21
      have h22 : Kept s0 y6 := KeptR.get y7 (State.testRecs_kept ..)
      extract_lets +onlyGivenNames x23
      have h24 : Kept s0 x23 := (h17.trans (State.execRec_kept ..)).trans (State.reportAt_kept ..)
      extract_lets +onlyGivenNames x25
      have h26 : Kept s0 x25 := h24.trans .same
      exact Kept.ite (KeptQ.mk (h26.trans (State.flush_kept ..))) (KeptQ.mk (h26.trans (State.setQueue_kept ..)))

theorem State.performAct_kept (s0) (kind) (v) : KeptP s0 (State.performAct s0 kind v) := by
  unfold State.performAct
  exact Kept.ite (KeptP.mk (State.actTarget_kept ..)) (Kept.ite (KeptP.mk (State.actTarget_kept ..)) (Kept.ite (KeptP.mk
      (State.actTarget_kept ..)) (Kept.ite (KeptP.mk (.refl _)) (KeptP.mk (State.actOut_kept ..)))))

theorem State.resolveTarget_kept (s0) (kind) (rs) : Kept s0 (State.resolveTarget s0 kind rs) := by
  unfold State.resolveTarget
  split
  · rename_i y1
    exact .refl _
  · rename_i y2 y3 y4
    extract_lets +onlyGivenNames x5 x6
    have h7 : Kept s0 x6 := Kept.foldl (.refl _) (fun a9 x10 h8 => Kept.ite h8 ((h8.trans (State.inc_kept ..)).trans
        (State.execRec_kept ..)))
    split
    rename_i y11 y12 y13 y14
    have h15 : Kept s0 y13 := KeptP.get y14 (KeptP.trans h7 (State.performAct_kept ..))
    exact h15.trans (State.execRec_kept ..)

theorem State.waitingActs_kept (s0) (closeDue) (n) : KeptP s0 (State.waitingActs s0 closeDue n) := by
  unfold State.waitingActs
  extract_lets +onlyGivenNames x1 x2
  split
  · rename_i y3 y4 y5
    exact Kept.ite (KeptP.mk (.refl _)) (KeptP.mk (State.setValve_kept ..))
  · rename_i y6 y7
    exact KeptP.mk (.refl _)

theorem State.nopLeads_kept (s0) (n) (rs) : Kept s0 (State.nopLeads s0 n rs) := by
  unfold State.nopLeads
  exact Kept.foldl (.refl _) (fun a2 x3 h1 => Kept.ite (h1.trans (State.setFldI_kept ..)) h1)

theorem State.executeTick_kept (s0) (closeDue) (extra) : Kept s0 (State.executeTick s0 closeDue extra) := by
  unfold State.executeTick
  split
  rename_i y1 y2 y3 y4 y5
  have h6 : Kept s0 y4 := by
    refine KeptQ.get y5 ?_
    refine KeptQ.foldl ?_ (fun a8 x9 h7 => ?_)
    · exact KeptQ.mk (.refl _)
    · split
      rename_i y10 y11 y12 y13 y14
      have h15 : Kept s0 y13 := KeptQ.get y14 (KeptQ.trans h7 (State.takeFrom_kept ..))
      exact KeptQ.mk h15
  extract_lets +onlyGivenNames x16
  have h17 : Kept s0 x16 := by
    unfold x16
    refine Kept.foldl ?_ (fun a19 x20 h18 => ?_)
    · exact h6
    · split
      rename_i y21 y22 y23 y24
      have h25 : Kept s0 y23 := KeptP.get y24 (KeptP.trans h18 (State.waitingActs_kept ..))
      extract_lets +onlyGivenNames x26 x27 x28 x29
      exact ((h25.trans (State.nopLeads_kept ..)).trans (State.resolve_kept ..)).trans (State.nopLeads_kept ..)
  extract_lets +onlyGivenNames x30
  have h31 : Kept s0 x30 := Kept.foldl h17 (fun a33 x34 h32 => h32.trans (State.resolveTarget_kept ..))
  refine Kept.foldl ?_ (fun a36 x37 h35 => ?_)
  · exact h31
  · extract_lets +onlyGivenNames x38
    exact Kept.ite h35 (h35.trans (State.execRec_kept ..))

end Sys2Proof.Machine
end

