-- ==== Sys2Proof/Laws/KeptKeys.lean ====
section
/-! SUPPORT. `Kept` holds of the operations of `Machine/Keys.lean`. -/

set_option Elab.async false

namespace Sys2Proof.Machine

open Sys2Proof

theorem State.setKx_kept (s0) (xs) : Kept s0 (State.setKx s0 xs) := by
  unfold State.setKx
  exact ((Kept.same)).trans (State.setFlag_kept ..)

theorem State.putKx_kept (s0) (x) : Kept s0 (State.putKx s0 x) := by
  unfold State.putKx
  exact State.setKx_kept ..

theorem State.dropKx_kept (s0) (p) : Kept s0 (State.dropKx s0 p) := by
  unfold State.dropKx
  exact State.setKx_kept ..

theorem State.kxFail_kept (s0) (p) (why) : Kept s0 (State.kxFail s0 p why) := by
  unfold State.kxFail
  exact ((State.inc_kept ..).trans (State.setFld_kept ..)).trans (State.setFld_kept ..)

theorem State.engineWorks_kept (s0) (ms) : Kept s0 (State.engineWorks s0 ms) := by
  unfold State.engineWorks
  split
  rename_i y1 y2 y3 y4
  have h5 : Kept s0 y3 := KeptP.get y4 (State.draw_kept ..)
  exact h5.trans .same

theorem State.sendKeyx_kept (s0) (pl) : Kept s0 (State.sendKeyx s0 pl) := by
  unfold State.sendKeyx
  exact State.pushTx_kept ..

theorem State.startKx_kept (s0) (p) (fresh) : Kept s0 (State.startKx s0 p fresh) := by
  unfold State.startKx
  refine Kept.ite ?_ ?_
  · exact .refl _
  · refine Kept.ite ?_ ?_
    · exact State.kxFail_kept ..
    · extract_lets +onlyGivenNames x1
      split
      rename_i y2 y3 y4 y5
      have h6 : Kept s0 y4 := KeptP.get y5 (State.draw_kept ..)
      split
      rename_i y7 y8 y9 y10
      have h11 : Kept s0 y9 := KeptP.get y10 (KeptP.trans h6 (State.draw_kept ..))
      extract_lets +onlyGivenNames x12 x13 x14
      have h15 : Kept s0 x14 := h11.trans (State.putKx_kept ..)
      exact (h15.trans (State.engineWorks_kept ..)).trans (State.sendKeyx_kept ..)

theorem State.sendGkey_kept (s0) (g) (p) : Kept s0 (State.sendGkey s0 g p) := by
  unfold State.sendGkey
  split
  · rename_i y1 y2
    exact .refl _
  · rename_i y3 y4 y5
    exact State.pushTx_kept ..

theorem State.drawGroup_kept (s0) : Kept s0 (State.drawGroup s0) := by
  unfold State.drawGroup
  extract_lets +onlyGivenNames x1
  split
  rename_i y2 y3 y4 y5
  have h6 : Kept s0 y4 := KeptP.get y5 (State.draw_kept ..)
  extract_lets +onlyGivenNames x7
  extract_lets +onlyGivenNames x8
  extract_lets +onlyGivenNames x9
  extract_lets +onlyGivenNames x10
  have h11 : Kept s0 x10 := h6.trans .same
  exact Kept.foldl h11 (fun a13 x14 h12 => h12.trans (State.sendGkey_kept ..))

theorem State.useGroup_kept (s0) (g) : Kept s0 (State.useGroup s0 g) := by
  unfold State.useGroup
  extract_lets +onlyGivenNames x1
  extract_lets +onlyGivenNames x2
  have h3 : Kept s0 x2 := (Kept.same)
  exact (h3.trans (State.setFlag_kept ..)).trans (State.setFld_kept ..)

theorem State.failOuts_kept (s0) (p) : Kept s0 (State.failOuts s0 p) := by
  unfold State.failOuts
  split
  · rename_i y1 y2 y3
    exact State.deliveryFails_kept ..
  · rename_i y4 y5
    exact .refl _

theorem State.install_kept (s0) (p) (k) (fresh) : Kept s0 (State.install s0 p k fresh) := by
  unfold State.install
  extract_lets +onlyGivenNames x1 x2
  have h3 : Kept s0 x2 := State.setSess_kept ..
  extract_lets +onlyGivenNames x4
  have h5 : Kept s0 x4 := (h3.trans (State.setFlag_kept ..)).trans (State.setFld_kept ..)
  extract_lets +onlyGivenNames x6
  have h7 : Kept s0 x6 := h5.trans (State.inc_kept ..)
  extract_lets +onlyGivenNames x8
  have h9 : Kept s0 x8 := Kept.ite ((h7.trans (State.clearWindow_kept ..)).trans (State.failOuts_kept ..)) h7
  extract_lets +onlyGivenNames x10
  have h11 : Kept s0 x10 := h9.trans (State.dropKx_kept ..)
  refine Kept.ite ?_ ?_
  · split
    · rename_i y12 y13 y14 y15
      exact h11.trans (State.sendGkey_kept ..)
    · rename_i y16 y17 y18 y19 y20 y21
      exact h11.trans (State.sendGkey_kept ..)
    · rename_i y22 y23 y24 y25
      exact h11
  · exact h11

theorem State.kxSender_kept (s0) (f) : KeptP s0 (State.kxSender s0 f) := by
  unfold State.kxSender
  refine Kept.ite ?_ ?_
  · exact KeptP.mk (.refl _)
  · refine Kept.ite ?_ ?_
    · exact KeptP.mk (State.crcErr_kept ..)
    · refine Kept.ite ?_ ?_
      · exact KeptP.mk (State.inc_kept ..)
      · split
        · rename_i y1 y2
          exact KeptP.mk (State.inc_kept ..)
        · rename_i y3 y4 y5
          exact KeptP.mk (.refl _)

theorem State.forger_kept (s0) : Kept s0 (State.forger s0) := by
  unfold State.forger
  exact State.inc_kept ..

theorem State.formErr_kept (s0) : Kept s0 (State.formErr s0) := by
  unfold State.formErr
  exact State.inc_kept ..

theorem State.answerKx1_kept (s0) (f) : Kept s0 (State.answerKx1 s0 f) := by
  unfold State.answerKx1
  extract_lets +onlyGivenNames x1
  extract_lets +onlyGivenNames x2
  extract_lets +onlyGivenNames x3
  split
  rename_i y4 y5 y6 y7
  have h8 : Kept s0 y6 := KeptP.get y7 (State.draw_kept ..)
  split
  rename_i y9 y10 y11 y12
  have h13 : Kept s0 y11 := KeptP.get y12 (KeptP.trans h8 (State.draw_kept ..))
  extract_lets +onlyGivenNames x14
  extract_lets +onlyGivenNames x15
  extract_lets +onlyGivenNames x16
  extract_lets +onlyGivenNames x17
  have h18 : Kept s0 x17 := h13.trans (State.putKx_kept ..)
  exact h18.trans (State.sendKeyx_kept ..)

theorem State.workKx1_kept (s0) (e) (f) : Kept s0 (State.workKx1 s0 e f) := by
  unfold State.workKx1
  refine Kept.ite ?_ ?_
  · exact State.forger_kept ..
  · refine Kept.ite ?_ ?_
    · exact State.formErr_kept ..
    · refine Kept.ite ?_ ?_
      · exact .refl _
      · split
        · rename_i y1 y2 y3
          exact Kept.ite (.refl _) ((State.dropKx_kept ..).trans (State.answerKx1_kept ..))
        · rename_i y4 y5
          exact State.answerKx1_kept ..

theorem State.workKx2_kept (s0) (e) (f) : Kept s0 (State.workKx2 s0 e f) := by
  unfold State.workKx2
  refine Kept.ite ?_ ?_
  · exact State.forger_kept ..
  · refine Kept.ite ?_ ?_
    · exact State.formErr_kept ..
    · refine Kept.ite ?_ ?_
      · exact .refl _
      · split
        · rename_i y1 y2 y3
          refine Kept.ite ?_ ?_
          · exact State.formErr_kept ..
          · refine Kept.ite ?_ ?_
            · exact (State.forger_kept ..).trans (State.putKx_kept ..)
            · extract_lets +onlyGivenNames x4
              extract_lets +onlyGivenNames x5
              have h6 : Kept s0 x5 := State.putKx_kept ..
              exact h6.trans (State.sendKeyx_kept ..)
        · rename_i y7 y8
          exact State.formErr_kept ..

theorem State.confirmed_kept {s0 s : State} {f : Frame} {n : Nat} {done : Exchange → PairKey → State → State} (hs : Kept s0 s)
    (h : ∀ x k t, Kept s0 t → Kept s0 (done x k t)) : Kept s0 (s.confirmed f n done) := by
  unfold State.confirmed
  refine Kept.ite (hs.trans (State.forger_kept ..)) (Kept.ite (hs.trans (State.formErr_kept ..)) (Kept.ite hs ?_))
  split
  · split
    · exact Kept.ite (hs.trans (State.formErr_kept ..))
        (Kept.ite ((hs.trans (State.forger_kept ..)).trans (State.putKx_kept ..)) (h _ _ _ hs))
    · exact hs.trans (State.formErr_kept ..)
  · exact hs.trans (State.formErr_kept ..)

theorem State.workKx3_kept (s0) (f) : Kept s0 (State.workKx3 s0 f) := by
  unfold State.workKx3
  exact State.confirmed_kept (.refl _) (fun w3 k4 a1 h2 => (h2.trans (State.sendKeyx_kept ..)).trans (State.install_kept ..))

theorem State.workKx4_kept (s0) (f) : Kept s0 (State.workKx4 s0 f) := by
  unfold State.workKx4
  exact State.confirmed_kept (.refl _) (fun w3 k4 a1 h2 => h2.trans (State.install_kept ..))

theorem State.workKx_kept (s0) (e) (f) : Kept s0 (State.workKx s0 e f) := by
  unfold State.workKx
  split
  · rename_i y1 y2
    exact (State.workKx1_kept ..).trans (State.engineWorks_kept ..)
  · rename_i y3 y4
    exact (State.workKx2_kept ..).trans (State.engineWorks_kept ..)
  · rename_i y5 y6
    exact (State.workKx3_kept ..).trans (State.engineWorks_kept ..)
  · rename_i y7 y8
    exact (State.workKx4_kept ..).trans (State.engineWorks_kept ..)
  · rename_i y9 y10 y11 y12 y13
    exact .refl _

theorem State.serveFrom_kept (v0) (s0) : Kept s0 (State.serveFrom v0 s0) := by
  induction v0 generalizing s0
  · rw [State.serveFrom]
    exact .refl _
  · rename_i v0 ih
    rw [State.serveFrom]
    split
    · rename_i y1 y2
      exact .refl _
    · rename_i y3 y4 y5 y6
      refine Kept.ite ?_ ?_
      · extract_lets +onlyGivenNames x7 x8
        have h9 : Kept s0 x8 := (Kept.same)
        split
        · rename_i y10 y11 y12
          exact (h9.trans (State.workKx_kept ..)).trans (ih ..)
        · rename_i y13 y14
          exact h9.trans (ih ..)
      · exact .refl _

theorem State.serveKx_kept (s0) : Kept s0 (State.serveKx s0) := by
  unfold State.serveKx
  exact State.serveFrom_kept ..

theorem State.takeKx_kept (s0) (f) : Kept s0 (State.takeKx s0 f) := by
  unfold State.takeKx
  split
  · rename_i y1 y2 y3
    have h4 : Kept s0 y2 := KeptP.get y3 (State.kxSender_kept ..)
    exact h4
  · rename_i y5 y6 y7 y8
    have h9 : Kept s0 y7 := KeptP.get y8 (State.kxSender_kept ..)
    exact Kept.ite (h9.trans (State.inc_kept ..)) (Kept.ite (h9.trans (State.workKx_kept ..)) ((h9.trans .same).trans
        (State.serveKx_kept ..)))

theorem execKx1_kept (f) (s0) : KeptN s0 (execKx1 f s0) := by
  unfold execKx1
  exact KeptN.clocked (Kept.ite (KeptN.ok ((State.arrive_kept ..).trans (State.takeKx_kept ..))) (KeptN.ok (.refl _)))

theorem execKx2_kept (f) (s0) : KeptN s0 (execKx2 f s0) := by
  unfold execKx2
  exact KeptN.clocked (Kept.ite (KeptN.ok ((State.arrive_kept ..).trans (State.takeKx_kept ..))) (KeptN.ok (.refl _)))

theorem execKx3_kept (f) (s0) : KeptN s0 (execKx3 f s0) := by
  unfold execKx3
  exact KeptN.clocked (Kept.ite (KeptN.ok ((State.arrive_kept ..).trans (State.takeKx_kept ..))) (KeptN.ok (.refl _)))

theorem execKx4_kept (f) (s0) : KeptN s0 (execKx4 f s0) := by
  unfold execKx4
  exact KeptN.clocked (Kept.ite (KeptN.ok ((State.arrive_kept ..).trans (State.takeKx_kept ..))) (KeptN.ok (.refl _)))

theorem execGkey_kept (f) (s0) : KeptN s0 (execGkey f s0) := by
  unfold execGkey
  refine KeptN.clocked ?_
  refine Kept.ite ?_ ?_
  · exact KeptN.ok (.refl _)
  · extract_lets +onlyGivenNames x1
    have h2 : Kept s0 x1 := State.arrive_kept ..
    split
    · rename_i y3 y4 y5
      have h6 : Kept s0 y4 := KeptP.get y5 (KeptP.trans h2 (State.rxChecks_kept ..))
      extract_lets +onlyGivenNames x7
      split
      · rename_i y8 y9 y10
        exact KeptN.ok ((h6.trans (State.accept_kept ..)).trans (State.useGroup_kept ..))
      · rename_i y11 y12
        extract_lets +onlyGivenNames x13
        have h14 : Kept s0 x13 := h6.trans (State.enterWindow_kept ..)
        exact KeptN.ok ((h14.trans (State.kxFail_kept ..)).trans (State.ackFor_kept ..))
    · rename_i y15 y16 y17 y18 y19
      have h20 : Kept s0 y17 := KeptP.get y19 (KeptP.trans h2 (State.rxChecks_kept ..))
      exact KeptN.ok h20

theorem execKeyxAnswerTimeout_kept (q) (s0) : KeptN s0 (execKeyxAnswerTimeout q s0) := by
  unfold execKeyxAnswerTimeout
  refine KeptN.clocked ?_
  split
  · rename_i y1 y2
    exact KeptN.ok (.refl _)
  · rename_i y3 y4 y5
    extract_lets +onlyGivenNames x6
    have h7 : Kept s0 x6 := State.advCcTo_kept ..
    refine Kept.ite ?_ ?_
    · extract_lets +onlyGivenNames x8
      have h9 : Kept s0 x8 := (h7.trans (State.dropKx_kept ..)).trans (State.kxFail_kept ..)
      exact KeptN.ok (h9.trans .same)
    · extract_lets +onlyGivenNames x10
      have h11 : Kept s0 x10 := h7.trans (State.putKx_kept ..)
      split
      · rename_i y12 y13 y14
        exact KeptN.ok (h11.trans (State.sendKeyx_kept ..))
      · rename_i y15 y16 y17 y18 y19
        exact KeptN.ok (h11.trans (State.sendKeyx_kept ..))
      · rename_i y20 y21 y22 y23
        exact KeptN.ok (h11.trans (State.sendKeyx_kept ..))

theorem execKeyExchangeInitiate_kept (q) (s0) : KeptN s0 (execKeyExchangeInitiate q s0) := by
  unfold execKeyExchangeInitiate
  refine KeptN.clocked ?_
  extract_lets +onlyGivenNames x1
  extract_lets +onlyGivenNames x2
  exact Kept.ite (KeptN.ok (State.startKx_kept ..)) (KeptN.ok (.refl _))

theorem execRekeyPeriodExpiry_kept (q) (s0) : KeptN s0 (execRekeyPeriodExpiry q s0) := by
  unfold execRekeyPeriodExpiry
  refine KeptN.clocked ?_
  split
  · rename_i y1 y2 y3 y4 y5 y6
    exact Kept.ite (KeptN.ok ((State.advCcTo_kept ..).trans (State.startKx_kept ..))) (KeptN.ok (.refl _))
  · rename_i y7 y8 y9
    exact KeptN.ok (.refl _)

theorem execOldGenerationDiscard_kept (q) (s0) : KeptN s0 (execOldGenerationDiscard q s0) := by
  unfold execOldGenerationDiscard
  refine KeptN.clocked ?_
  extract_lets +onlyGivenNames x1
  exact Kept.ite (KeptN.ok ((State.advCcTo_kept ..).trans (State.setSess_kept ..))) (KeptN.ok (.refl _))

theorem execGroupKeySwitch_kept (s0) : KeptN s0 (execGroupKeySwitch s0) := by
  unfold execGroupKeySwitch
  refine KeptN.clocked ?_
  split
  · rename_i y1 y2
    exact KeptN.ok (.refl _)
  · rename_i y3 y4 y5
    extract_lets +onlyGivenNames x6 x7
    have h8 : Kept s0 x7 := Kept.ite (.refl _) (State.advCcTo_kept ..)
    exact KeptN.ok ((h8.trans .same).trans (State.useGroup_kept ..))

theorem execGroupKeyDiscard_kept (s0) : KeptN s0 (execGroupKeyDiscard s0) := by
  unfold execGroupKeyDiscard
  refine KeptN.clocked ?_
  split
  · rename_i y1 y2 y3 y4 y5
    extract_lets +onlyGivenNames x6
    have h7 : Kept s0 x6 := State.advCcTo_kept ..
    exact KeptN.ok (h7.trans .same)
  · rename_i y8 y9
    exact KeptN.ok (.refl _)

theorem execGroupRekeyPeriodExpiry_kept (s0) : KeptN s0 (execGroupRekeyPeriodExpiry s0) := by
  unfold execGroupRekeyPeriodExpiry
  refine KeptN.clocked ?_
  split
  · rename_i y1 y2 y3
    exact Kept.ite (KeptN.ok ((State.advCcTo_kept ..).trans (State.drawGroup_kept ..))) (KeptN.ok (.refl _))
  · rename_i y4 y5
    exact KeptN.ok (.refl _)

theorem State.writeKeyCmd_kept (s0) (v) : Kept s0 (State.writeKeyCmd s0 v) := by
  unfold State.writeKeyCmd
  extract_lets +onlyGivenNames x1
  have h2 : Kept s0 x1 := State.setFld_kept ..
  extract_lets +onlyGivenNames x3 x4
  have h5 : Kept s0 x4 := Kept.ite (h2.trans (State.startKx_kept ..)) h2
  extract_lets +onlyGivenNames x6
  have h7 : Kept s0 x6 := Kept.ite (h5.trans (State.drawGroup_kept ..)) h5
  refine Kept.ite ?_ ?_
  · split
    rename_i y8 y9 y10 y11
    have h12 : Kept s0 y10 := KeptP.get y11 (KeptP.trans h7 (State.draw_kept ..))
    exact h12.trans (State.pushTx_kept ..)
  · exact h7

end Sys2Proof.Machine
end

