-- ==== Sys2Proof/Laws/KeptGnss.lean ====
section
/-! SUPPORT. `Kept` holds of the operations of `Machine/Gnss.lean`. -/

set_option Elab.async false

namespace Sys2Proof.Machine

open Sys2Proof

theorem State.setGnb_kept (s0) (x) : Kept s0 (State.setGnb s0 x) := by
  unfold State.setGnb
  exact (Kept.same)

theorem State.setChan_kept (s0) (n) (x) : Kept s0 (State.setChan s0 n x) := by
  unfold State.setChan
  exact State.setGnb_kept ..

theorem State.freeChan_kept (s0) (n) : Kept s0 (State.freeChan s0 n) := by
  unfold State.freeChan
  exact (State.setReg_kept ..).trans (State.setChan_kept ..)

theorem State.gnssOff_kept (s0) : Kept s0 (State.gnssOff s0) := by
  unfold State.gnssOff
  extract_lets +onlyGivenNames x1
  have h2 : Kept s0 x1 := Kept.foldl (.refl _) (fun a4 x5 h3 => h3.trans (State.freeChan_kept ..))
  extract_lets +onlyGivenNames x6
  have h7 : Kept s0 x6 := h2.trans (State.setReg_kept ..)
  exact h7.trans (State.setGnb_kept ..)

theorem State.takeTenth_kept (s0) (c) : Kept s0 (State.takeTenth s0 c) := by
  unfold State.takeTenth
  extract_lets +onlyGivenNames x1
  extract_lets +onlyGivenNames x2
  extract_lets +onlyGivenNames x3
  extract_lets +onlyGivenNames x4
  extract_lets +onlyGivenNames x5
  have h6 : Kept s0 x5 := State.advTo_kept ..
  exact h6.trans .same

theorem State.antenna_kept (s0) (ua) : Kept s0 (State.antenna s0 ua) := by
  unfold State.antenna
  refine Kept.ite ?_ ?_
  · extract_lets +onlyGivenNames x1
    extract_lets +onlyGivenNames x2
    have h3 : Kept s0 x2 := State.setGnb_kept ..
    exact Kept.ite h3 ((h3.trans (State.setFlag_kept ..)).trans (State.report_kept ..))
  · exact Kept.ite (Kept.ite (.refl _) ((State.setFlag_kept ..).trans (State.report_kept ..))) (State.setFlag_kept ..)

theorem execAntennaFault_kept (ua) (s0) : KeptN s0 (execAntennaFault ua s0) := by
  unfold execAntennaFault
  exact KeptN.clocked (Kept.ite (KeptN.ok (State.antenna_kept ..)) (KeptN.ok (.refl _)))

theorem execAntennaBiasRetry_kept (ua) (s0) : KeptN s0 (execAntennaBiasRetry ua s0) := by
  unfold execAntennaBiasRetry
  refine KeptN.clocked ?_
  split
  · rename_i y1 y2
    exact KeptN.ok (.refl _)
  · rename_i y3 y4 y5
    extract_lets +onlyGivenNames x6 x7
    have h8 : Kept s0 x7 := (State.advCcTo_kept ..).trans (State.setGnb_kept ..)
    exact Kept.ite (KeptN.ok h8) (Kept.ite (KeptN.ok (h8.trans (State.antenna_kept ..))) (KeptN.ok ((h8.trans
        (State.setFlag_kept ..)).trans (State.antenna_kept ..))))

theorem execAntennaFaultEnd_kept (ua) (s0) : KeptN s0 (execAntennaFaultEnd ua s0) := by
  unfold execAntennaFaultEnd
  exact KeptN.clocked (Kept.ite (KeptN.ok (State.antenna_kept ..)) (KeptN.ok (.refl _)))

theorem State.showNotch_kept (s0) (k) (x) : Kept s0 (State.showNotch s0 k x) := by
  unfold State.showNotch
  exact ((State.setFlag_kept ..).trans (State.setFld_kept ..)).trans (State.setFldSat_kept ..)

theorem State.dropNotch_kept (s0) (k) : Kept s0 (State.dropNotch s0 k) := by
  unfold State.dropNotch
  exact (State.setReg_kept ..).trans (State.setGnb_kept ..)

theorem State.putNotch_kept (s0) (k) (x) : Kept s0 (State.putNotch s0 k x) := by
  unfold State.putNotch
  exact (State.setGnb_kept ..).trans (State.showNotch_kept ..)

theorem State.giveNotch_kept (s0) (k) (b) : Kept s0 (State.giveNotch s0 k b) := by
  unfold State.giveNotch
  exact State.putNotch_kept ..

theorem State.followNotch_kept (s0) (bs) (k) (x) : Kept s0 (State.followNotch s0 bs k x) := by
  unfold State.followNotch
  extract_lets +onlyGivenNames x1 x2 x3 x4 x5
  have h6 : Kept s0 x5 := State.putNotch_kept ..
  clear_value x4
  split
  · rename_i y7 y8
    exact Kept.ite (h6.trans (State.dropNotch_kept ..)) h6
  · rename_i y9
    exact h6

theorem State.serveBin_kept (s0) (b) : Kept s0 (State.serveBin s0 b) := by
  unfold State.serveBin
  extract_lets +onlyGivenNames x1
  refine Kept.ite ?_ ?_
  · exact .refl _
  · split
    · rename_i y2 y3 y4
      exact State.giveNotch_kept ..
    · rename_i y5 y6
      extract_lets +onlyGivenNames x7
      have h8 : Kept s0 x7 := Kept.ite (State.inc_kept ..) (.refl _)
      split
      · rename_i y9 y10 y11 y12
        exact Kept.ite (h8.trans (State.giveNotch_kept ..)) h8
      · rename_i y13 y14
        exact h8

theorem execSpectralMonitor_kept (bins) (s0) : KeptN s0 (execSpectralMonitor bins s0) := by
  unfold execSpectralMonitor
  refine KeptN.clocked ?_
  refine Kept.ite ?_ ?_
  · exact KeptN.ok (.refl _)
  · extract_lets +onlyGivenNames x1
    have h2 : Kept s0 x1 := State.takeInstant_kept ..
    extract_lets +onlyGivenNames x3 x4 x5 x6
    have h7 : Kept s0 x6 := h2.trans (State.setGnb_kept ..)
    refine Kept.ite ?_ ?_
    · extract_lets +onlyGivenNames x8
      have h9 : Kept s0 x8 := Kept.foldl h7 (fun a11 x12 h10 => h10.trans (State.followNotch_kept ..))
      exact KeptN.ok (Kept.foldl h9 (fun a14 x15 h13 => h13.trans (State.serveBin_kept ..)))
    · exact KeptN.ok (Kept.foldl h7 (fun a17 x18 h16 => h16.trans (State.dropNotch_kept ..)))

theorem execJamUpdate_kept (gcal) (g) (s0) : KeptN s0 (execJamUpdate gcal g s0) := by
  unfold execJamUpdate
  refine KeptN.clocked ?_
  refine Kept.ite ?_ ?_
  · exact KeptN.ok (.refl _)
  · extract_lets +onlyGivenNames x1
    have h2 : Kept s0 x1 := State.takeTenth_kept ..
    extract_lets +onlyGivenNames x3
    have h4 : Kept s0 x3 := h2.trans (State.setFld_kept ..)
    extract_lets +onlyGivenNames x5
    have h6 : Kept s0 x5 := h4.trans (State.setFld_kept ..)
    exact Kept.ite (KeptN.ok ((h6.trans (State.setGnb_kept ..)).trans (State.report_kept ..))) (KeptN.ok h6)

theorem State.showTracking_kept (s0) : Kept s0 (State.showTracking s0) := by
  unfold State.showTracking
  extract_lets +onlyGivenNames x1
  extract_lets +onlyGivenNames x2
  have h3 : Kept s0 x2 := State.setFld_kept ..
  exact Kept.ite (h3.trans (State.setFld_kept ..)) h3

theorem State.channelFor_kept (s0) (sv) (el) : KeptP s0 (State.channelFor s0 sv el) := by
  unfold State.channelFor
  extract_lets +onlyGivenNames x1 x2
  split
  · rename_i y3 y4 y5
    exact KeptP.mk (.refl _)
  · rename_i y6 y7
    extract_lets +onlyGivenNames x8
    refine Kept.ite ?_ ?_
    · exact KeptP.mk (.refl _)
    · extract_lets +onlyGivenNames x9
      refine Kept.ite ?_ ?_
      · split
        rename_i y10 y11 y12 y13
        have h14 : Kept s0 y12 := KeptP.get y13 (State.draw_kept ..)
        exact KeptP.mk h14
      · exact KeptP.mk (.refl _)

theorem State.releaseChans_kept (s0) : Kept s0 (State.releaseChans s0) := by
  unfold State.releaseChans
  exact Kept.foldl (.refl _) (fun a2 x3 h1 => Kept.ite (h1.trans (State.freeChan_kept ..)) h1)

theorem execAcquisitionDetection_kept (sv) (el) (cn0) (ratio) (confirm) (s0) : KeptN s0 (execAcquisitionDetection sv el cn0
    ratio confirm s0) := by
  unfold execAcquisitionDetection
  refine KeptN.clocked ?_
  refine Kept.ite ?_ ?_
  · exact KeptN.ok (.refl _)
  · split
    · rename_i y1 y2 y3
      have h4 : Kept s0 y2 := KeptP.get y3 (State.channelFor_kept ..)
      exact KeptN.ok h4
    · rename_i y5 y6 y7 y8
      have h9 : Kept s0 y7 := KeptP.get y8 (State.channelFor_kept ..)
      refine Kept.ite ?_ ?_
      · exact KeptN.ok h9
      · extract_lets +onlyGivenNames x10
        have h11 : Kept s0 x10 := (h9.trans (State.freeChan_kept ..)).trans (State.setChan_kept ..)
        extract_lets +onlyGivenNames x12
        have h13 : Kept s0 x12 := ((h11.trans (State.setFld_kept ..)).trans (State.setFld_kept ..)).trans (State.setFld_kept
            ..)
        exact KeptN.ok ((h13.trans (State.setFld_kept ..)).trans (State.showTracking_kept ..))

theorem execCycleSlip_kept (n) (ind) (s0) : KeptN s0 (execCycleSlip n ind s0) := by
  unfold execCycleSlip
  exact KeptN.clocked (Kept.ite (KeptN.ok ((State.setChan_kept ..).trans (State.completed_kept ..))) (KeptN.ok (.refl _)))

theorem execLossOfLock_kept (n) (cn0) (s0) : KeptN s0 (execLossOfLock n cn0 s0) := by
  unfold execLossOfLock
  refine KeptN.clocked ?_
  refine Kept.ite ?_ ?_
  · extract_lets +onlyGivenNames x1
    have h2 : Kept s0 x1 := ((State.setFld_kept ..).trans (State.setFld_kept ..)).trans (State.setFlag_kept ..)
    exact KeptN.ok ((h2.trans (State.showTracking_kept ..)).trans (State.completed_kept ..))
  · exact KeptN.ok (.refl _)

theorem State.takeSbas_kept (s0) (m) : Kept s0 (State.takeSbas s0 m) := by
  unfold State.takeSbas
  extract_lets +onlyGivenNames x1
  exact Kept.ite (.refl _) (Kept.ite (State.setGnb_kept ..) (Kept.ite (.refl _) (State.setGnb_kept ..)))

theorem State.giveBias_kept (s0) (m) (b) : Kept s0 (State.giveBias s0 m b) := by
  unfold State.giveBias
  exact Kept.ite ((State.discipline_kept ..).trans (State.setWrap_kept ..)) (.refl _)

theorem State.clockCheck_kept (s0) (m) (b) : Kept s0 (State.clockCheck s0 m b) := by
  unfold State.clockCheck
  extract_lets +onlyGivenNames x1
  have h2 : Kept s0 x1 := State.setFldSat_kept ..
  split
  · rename_i y3 y4
    extract_lets +onlyGivenNames x5 x6 x7
    have h8 : Kept s0 x7 := (h2.trans (State.setGnb_kept ..)).trans (State.setFld_kept ..)
    exact Kept.ite (((h8.trans (State.setGnb_kept ..)).trans (State.setFld_kept ..)).trans (State.giveBias_kept ..)) h8
  · rename_i y9 y10 y11
    extract_lets +onlyGivenNames x12 x13
    have h14 : Kept s0 x13 := h2.trans (State.setGnb_kept ..)
    refine Kept.ite ?_ ?_
    · exact ((h14.trans (State.setGnb_kept ..)).trans (State.setFld_kept ..)).trans (State.giveBias_kept ..)
    · extract_lets +onlyGivenNames x15
      have h16 : Kept s0 x15 := (h14.trans (State.setFld_kept ..)).trans (State.inc_kept ..)
      extract_lets +onlyGivenNames x17
      refine Kept.ite ?_ ?_
      · exact (h16.trans (State.setGnb_kept ..)).trans (State.giveBias_kept ..)
      · extract_lets +onlyGivenNames x18
        extract_lets +onlyGivenNames x19 x20 x21 x22
        have h23 : Kept s0 x22 := h16.trans (State.setGnb_kept ..)
        exact Kept.ite (h23.trans (State.report_kept ..)) h23

theorem State.takeAnchor_kept (s0) (e) (n) : Kept s0 (State.takeAnchor s0 e n) := by
  unfold State.takeAnchor
  extract_lets +onlyGivenNames x1
  exact (State.setGnb_kept ..).trans (State.inc_kept ..)

theorem State.travelFix_kept (s0) (e) (n) (ve) (vn) : Kept s0 (State.travelFix s0 e n ve vn) := by
  unfold State.travelFix
  refine Kept.ite ?_ ?_
  · exact .refl _
  · extract_lets +onlyGivenNames x1
    have h2 : Kept s0 x1 := Kept.ite (State.takeAnchor_kept ..) (.refl _)
    split
    · rename_i y3 y4
      exact h2
    · rename_i y5 y6 y7
      extract_lets +onlyGivenNames x8 x9 x10
      have h11 : Kept s0 x10 := ((h2.trans (State.setFld_kept ..)).trans (State.setFld_kept ..)).trans (State.setFldI_kept
          ..)
      exact h11.trans .same

theorem State.carryAnchor_kept (s0) (ms) (v2) : Kept s0 (State.carryAnchor s0 ms v2) := by
  unfold State.carryAnchor
  split
  · rename_i y1 y2 y3 y4 y5 y6
    extract_lets +onlyGivenNames x7
    split
    · rename_i y8 y9 y10
      split
      rename_i y11 y12 y13 y14
      exact State.setGnb_kept ..
    · rename_i y15 y16
      exact State.setGnb_kept ..
  · rename_i y17 y18 y19
    exact .refl _

theorem State.blend_kept (s0) : Kept s0 (State.blend s0) := by
  unfold State.blend
  split
  · rename_i y1 y2
    exact .refl _
  · rename_i y3 y4 y5
    refine Kept.ite ?_ ?_
    · exact .refl _
    · refine Kept.ite ?_ ?_
      · exact .refl _
      · extract_lets +onlyGivenNames x6 x7
        refine Kept.ite ?_ ?_
        · unfold x7
          exact ((State.setFld_kept ..).trans (State.update_kept ..)).trans (State.correct_kept ..)
        · extract_lets +onlyGivenNames x8
          have h9 : Kept s0 x8 := (State.inc_kept ..).trans (State.inc_kept ..)
          refine Kept.ite ?_ ?_
          · unfold x7
            exact (((h9.trans (State.inc_kept ..)).trans (State.setFld_kept ..)).trans (State.update_kept ..)).trans
                (State.correct_kept ..)
          · exact h9

theorem State.measureSat_kept (s0) (x) : Kept s0 (State.measureSat s0 x) := by
  unfold State.measureSat
  extract_lets +onlyGivenNames x1 x2
  refine Kept.ite ?_ ?_
  · exact .refl _
  · extract_lets +onlyGivenNames x3
    extract_lets +onlyGivenNames x4
    have h5 : Kept s0 x4 := Kept.ite (State.setGnb_kept ..) (.refl _)
    extract_lets +onlyGivenNames x6
    exact ((h5.trans (State.setFld_kept ..)).trans (State.setFld_kept ..)).trans (State.setFld_kept ..)

theorem State.showFix_kept (s0) (xs) (x) (excl) : Kept s0 (State.showFix s0 xs x excl) := by
  unfold State.showFix
  extract_lets +onlyGivenNames x1
  have h2 : Kept s0 x1 := Kept.foldl (.refl _) (fun a4 x5 h3 => h3.trans (State.setFlag_kept ..))
  extract_lets +onlyGivenNames x6
  exact ((h2.trans (State.setFld_kept ..)).trans (State.setFld_kept ..)).trans (State.setFlag_kept ..)

theorem State.invalidFix_kept (s0) : Kept s0 (State.invalidFix s0) := by
  unfold State.invalidFix
  exact State.setGnb_kept ..

theorem State.goodFix_kept (s0) (m) (ms) (xs) (x) : Kept s0 (State.goodFix s0 m ms xs x) := by
  unfold State.goodFix
  extract_lets +onlyGivenNames x1 x2
  have h3 : Kept s0 x2 := State.setGnb_kept ..
  refine Kept.ite ?_ ?_
  · exact h3.trans (State.invalidFix_kept ..)
  · extract_lets +onlyGivenNames x4
    extract_lets +onlyGivenNames x5
    split
    rename_i y6 y7 y8 y9
    extract_lets +onlyGivenNames x10
    split
    rename_i y11 y12 y13 y14
    extract_lets +onlyGivenNames x15
    have h16 : Kept s0 x15 := h3.trans (State.travelFix_kept ..)
    exact (Kept.ite (h16.trans (State.blend_kept ..)) h16).trans (State.clockCheck_kept ..)

theorem execFixEpoch_kept (m) (s0) : KeptN s0 (execFixEpoch m s0) := by
  unfold execFixEpoch
  refine KeptN.clocked ?_
  refine Kept.ite ?_ ?_
  · exact KeptN.ok (.refl _)
  · extract_lets +onlyGivenNames x1
    have h2 : Kept s0 x1 := State.takeTenth_kept ..
    extract_lets +onlyGivenNames x3
    have h4 : Kept s0 x3 := (Kept.foldl h2 (fun a6 x7 h5 => h5.trans (State.measureSat_kept ..))).trans
        (State.releaseChans_kept ..)
    extract_lets +onlyGivenNames x8
    have h9 : Kept s0 x8 := Kept.foldl h4 (fun a11 x12 h10 => h10.trans (State.takeSbas_kept ..))
    extract_lets +onlyGivenNames x13
    have h14 : Kept s0 x13 := (h9.trans (State.setFld_kept ..)).trans (State.showTracking_kept ..)
    extract_lets +onlyGivenNames x15 x16
    split
    · rename_i y17 y18
      exact KeptN.ok (h14.trans (State.invalidFix_kept ..))
    · rename_i y19 y20 y21
      extract_lets +onlyGivenNames x22 x23
      have h24 : Kept s0 x23 := h14.trans (State.carryAnchor_kept ..)
      extract_lets +onlyGivenNames x25 x26
      have h27 : Kept s0 x26 := h24.trans (State.setGnb_kept ..)
      split
      · rename_i y28 y29 y30 y31
        exact KeptN.ok ((h27.trans (State.showFix_kept ..)).trans (State.goodFix_kept ..))
      · rename_i y32 y33 y34 y35 y36
        extract_lets +onlyGivenNames x37 x38
        have h39 : Kept s0 x38 := h27.trans (State.setGnb_kept ..)
        exact KeptN.ok (((h39.trans (State.inc_kept ..)).trans (State.showFix_kept ..)).trans (State.goodFix_kept ..))
      · rename_i y40 y41
        extract_lets +onlyGivenNames x42
        have h43 : Kept s0 x42 := h27.trans (State.showFix_kept ..)
        extract_lets +onlyGivenNames x44
        have h45 : Kept s0 x44 := Kept.ite h43 (h43.trans (State.inc_kept ..))
        exact KeptN.ok (h45.trans (State.invalidFix_kept ..))

end Sys2Proof.Machine
end

