-- ==== Sys2Proof/Laws/KeptGeo.lean ====
section
/-! SUPPORT. `Kept` holds of the operations of `Machine/Geo.lean`. -/

set_option Elab.async false

namespace Sys2Proof.Machine

open Sys2Proof

theorem State.snapPlace_kept (s0) (n) : KeptP s0 (State.snapPlace s0 n) := by
  unfold State.snapPlace
  extract_lets +onlyGivenNames x1
  refine Kept.ite ?_ ?_
  · exact KeptP.mk (.refl _)
  · split
    rename_i y2 y3 y4 y5
    have h6 : Kept s0 y4 := KeptP.get y5 (State.draw_kept ..)
    exact KeptP.mk h6

theorem State.snapWrite_kept (s0) (off) (bs) : Kept s0 (State.snapWrite s0 off bs) := by
  unfold State.snapWrite
  split
  rename_i y1 y2 y3 y4
  split
  rename_i y5 y6 y7 y8
  extract_lets +onlyGivenNames x9
  exact State.setGnb_kept ..

theorem State.snapRead_kept (s0) (req) (k) : KeptQ s0 (State.snapRead s0 req k) := by
  unfold State.snapRead
  extract_lets +onlyGivenNames x1
  exact Kept.ite (KeptQ.mk (State.parityError_kept ..)) (KeptQ.mk (.refl _))

theorem State.putSeg_kept (s0) (peer) (loc) (seg) (cs) : Kept s0 (State.putSeg s0 peer loc seg cs) := by
  unfold State.putSeg
  extract_lets +onlyGivenNames x1 x2
  have h3 : Kept s0 x2 := State.pushItem_kept ..
  split
  · rename_i y4 y5 y6
    extract_lets +onlyGivenNames x7
    exact h3.trans (State.setGnb_kept ..)
  · rename_i y8 y9
    exact h3

theorem State.segOf_kept (s0) (x) (no) : KeptQ s0 (State.segOf s0 x no) := by
  unfold State.segOf
  refine Kept.ite ?_ ?_
  · exact KeptQ.mk (.refl _)
  · extract_lets +onlyGivenNames x1
    extract_lets +onlyGivenNames x2
    split
    rename_i y3 y4 y5 y6 y7
    have h8 : Kept s0 y6 := by
      refine KeptQ.get y7 ?_
      refine KeptQ.foldl ?_ (fun a10 x11 h9 => ?_)
      · exact KeptQ.mk (.refl _)
      · split
        rename_i y12 y13 y14 y15 y16
        have h17 : Kept s0 y15 := KeptQ.get y16 (KeptQ.trans h9 (State.snapRead_kept ..))
        exact KeptQ.mk h17
    extract_lets +onlyGivenNames x18 x19 x20
    exact KeptQ.mk h8

theorem State.shipOne_kept (s0) : KeptO s0 (State.shipOne s0) := by
  unfold State.shipOne
  split
  · rename_i y1 y2
    exact KeptO.none
  · rename_i y3 y4 y5
    refine Kept.ite ?_ ?_
    · extract_lets +onlyGivenNames x6
      extract_lets +onlyGivenNames x7 x8 x9 x10
      have h11 : Kept s0 x10 := State.setQueue_kept ..
      extract_lets +onlyGivenNames x12
      have h13 : Kept s0 x12 := h11.trans .same
      extract_lets +onlyGivenNames x14
      have h15 : Kept s0 x14 := h13.trans (State.setFld_kept ..)
      exact KeptO.some (Kept.foldl h15 (fun a17 x18 h16 => h16.trans (State.pushRec_kept ..)))
    · exact KeptO.none

theorem State.feedSeg_kept (s0) : KeptO s0 (State.feedSeg s0) := by
  unfold State.feedSeg
  split
  · rename_i y1 y2
    exact KeptO.none
  · rename_i y3 y4 y5
    extract_lets +onlyGivenNames x6 x7
    refine Kept.ite ?_ ?_
    · split
      rename_i y8 y9 y10 y11 y12
      have h13 : Kept s0 y11 := KeptQ.get y12 (State.segOf_kept ..)
      extract_lets +onlyGivenNames x14
      exact KeptO.some ((h13.trans (State.setGnb_kept ..)).trans (State.putSeg_kept ..))
    · exact KeptO.none

theorem State.pumpSnap_kept (v0) (s0) : Kept s0 (State.pumpSnap v0 s0) := by
  induction v0 generalizing s0
  · rw [State.pumpSnap]
    exact .refl _
  · rename_i v0 ih
    rw [State.pumpSnap]
    split
    · rename_i y1 y2 y3
      have h4 : Kept s0 y2 := KeptO.get y3 (State.feedSeg_kept ..)
      exact h4.trans (ih ..)
    · rename_i y5 y6
      split
      · rename_i y7 y8 y9
        have h10 : Kept s0 y8 := KeptO.get y9 (State.shipOne_kept ..)
        exact h10.trans (ih ..)
      · rename_i y11 y12
        exact .refl _

theorem State.pump_kept (s0) : Kept s0 (State.pump s0) := by
  unfold State.pump
  exact Kept.ite (.refl _) (State.pumpSnap_kept ..)

theorem State.dropWaiting_kept (s0) : Kept s0 (State.dropWaiting s0) := by
  unfold State.dropWaiting
  exact State.setGnb_kept ..

theorem State.snapRequest_kept (s0) (head) (loc) (peer) (id) (d) (v6) (tcap) : Kept s0 (State.snapRequest s0 head loc peer
    id d v6 tcap) := by
  unfold State.snapRequest
  extract_lets +onlyGivenNames x1 x2
  refine Kept.ite ?_ ?_
  · extract_lets +onlyGivenNames x3
    have h4 : Kept s0 x3 := State.dropWaiting_kept ..
    split
    · rename_i y5 y6 y7 y8
      have h9 : Kept s0 y7 := KeptP.get y8 (KeptP.trans h4 (State.snapPlace_kept ..))
      exact h9.trans (State.setGnb_kept ..)
    · rename_i y10 y11 y12
      have h13 : Kept s0 y11 := KeptP.get y12 (KeptP.trans h4 (State.snapPlace_kept ..))
      exact h13
  · extract_lets +onlyGivenNames x14
    have h15 : Kept s0 x14 := State.inc_kept ..
    extract_lets +onlyGivenNames x16 x17
    exact (h15.trans (State.setGnb_kept ..)).trans (State.pump_kept ..)

theorem State.writeSnapReq_kept (s0) (v) : Kept s0 (State.writeSnapReq s0 v) := by
  unfold State.writeSnapReq
  exact Kept.ite (State.snapRequest_kept ..) (.refl _)

theorem State.modSnaps_kept (s0) (p) (f) : Kept s0 (State.modSnaps s0 p f) := by
  unfold State.modSnaps
  exact State.setGnb_kept ..

theorem execFrontEndPowerUp_kept (s0) : KeptN s0 (execFrontEndPowerUp s0) := by
  unfold execFrontEndPowerUp
  refine KeptN.clocked ?_
  split
  · rename_i y1 y2
    exact KeptN.ok (.refl _)
  · rename_i y3 y4 y5
    refine Kept.ite ?_ ?_
    · extract_lets +onlyGivenNames x6
      have h7 : Kept s0 x6 := State.advTo_kept ..
      exact KeptN.ok (h7.trans (State.modSnaps_kept ..))
    · exact KeptN.ok (.refl _)

theorem execCaptureStart_kept (s0) : KeptN s0 (execCaptureStart s0) := by
  unfold execCaptureStart
  refine KeptN.clocked ?_
  split
  · rename_i y1 y2
    exact KeptN.ok (.refl _)
  · rename_i y3 y4 y5 y6
    refine Kept.ite ?_ ?_
    · exact KeptN.ok (.refl _)
    · extract_lets +onlyGivenNames x7
      have h8 : Kept s0 x7 := State.advTo_kept ..
      split
      rename_i y9 y10 y11 y12
      have h13 : Kept s0 y11 := KeptP.get y12 (KeptP.trans h8 (State.draw_kept ..))
      exact KeptN.ok (h13.trans (State.modSnaps_kept ..))

theorem execCaptureComplete_kept (samples) (s0) : KeptN s0 (execCaptureComplete samples s0) := by
  unfold execCaptureComplete
  refine KeptN.clocked ?_
  split
  · rename_i y1 y2
    exact KeptN.ok (.refl _)
  · rename_i y3 y4 y5
    extract_lets +onlyGivenNames x6
    have h7 : Kept s0 x6 := State.advCcTo_kept ..
    extract_lets +onlyGivenNames x8 x9
    have h10 : Kept s0 x9 := (h7.trans (State.snapWrite_kept ..)).trans (State.inc_kept ..)
    extract_lets +onlyGivenNames x11 x12
    exact KeptN.ok ((h10.trans (State.modSnaps_kept ..)).trans (State.pump_kept ..))

theorem State.dropItems_kept (s0) (q) (p) : Kept s0 (State.dropItems s0 q p) := by
  unfold State.dropItems
  extract_lets +onlyGivenNames x1
  extract_lets +onlyGivenNames x2
  extract_lets +onlyGivenNames x3
  have h4 : Kept s0 x3 := State.setQueue_kept ..
  exact h4.trans .same

theorem State.freeSnap_kept (s0) (x) : Kept s0 (State.freeSnap s0 x) := by
  unfold State.freeSnap
  extract_lets +onlyGivenNames x1 x2
  have h3 : Kept s0 x2 := State.setGnb_kept ..
  refine Kept.ite ?_ ?_
  · exact h3
  · extract_lets +onlyGivenNames x4
    extract_lets +onlyGivenNames x5 x6 x7
    exact (h3.trans (State.dropItems_kept ..)).trans (State.dropItems_kept ..)

theorem execSnapshotSpaceRelease_kept (s0) : KeptN s0 (execSnapshotSpaceRelease s0) := by
  unfold execSnapshotSpaceRelease
  refine KeptN.clocked ?_
  split
  · rename_i y1 y2
    exact KeptN.ok (.refl _)
  · rename_i y3 y4 y5
    extract_lets +onlyGivenNames x6
    have h7 : Kept s0 x6 := Kept.ite (.refl _) (State.advCcTo_kept ..)
    exact KeptN.ok (h7.trans (State.freeSnap_kept ..))

theorem State.snapAcked_kept (s0) (p) (id) (no) : Kept s0 (State.snapAcked s0 p id no) := by
  unfold State.snapAcked
  split
  · rename_i y1 y2
    exact .refl _
  · rename_i y3 y4 y5
    extract_lets +onlyGivenNames x6 x7 x8
    have h9 : Kept s0 x8 := State.setGnb_kept ..
    exact Kept.ite (h9.trans (State.freeSnap_kept ..)) h9

theorem State.abandonSnap_kept (s0) : Kept s0 (State.abandonSnap s0) := by
  unfold State.abandonSnap
  extract_lets +onlyGivenNames x1
  have h2 : Kept s0 x1 := State.gnssOff_kept ..
  exact h2.trans (State.setGnb_kept ..)

theorem State.resetGeo_kept (s0) : Kept s0 (State.resetGeo s0) := by
  unfold State.resetGeo
  extract_lets +onlyGivenNames x1
  exact State.setGnb_kept ..

theorem State.lapseReqs_kept (s0) : Kept s0 (State.lapseReqs s0) := by
  unfold State.lapseReqs
  exact State.setGnb_kept ..

theorem execSnapshotServiceTurn_kept (s0) : KeptN s0 (execSnapshotServiceTurn s0) := by
  unfold execSnapshotServiceTurn
  refine KeptN.clocked ?_
  extract_lets +onlyGivenNames x1
  refine Kept.ite ?_ ?_
  · exact KeptN.ok (.refl _)
  · split
    · rename_i y2 y3
      exact KeptN.ok (.refl _)
    · rename_i y4 y5 y6
      extract_lets +onlyGivenNames x7 x8
      have h9 : Kept s0 x8 := by
        unfold x8
        split
        · rename_i y10 y11 y12
          exact State.advCcTo_kept ..
        · rename_i y13 y14
          exact .refl _
      extract_lets +onlyGivenNames x15 x16
      have h17 : Kept s0 x16 := (h9.trans (State.setGnb_kept ..)).trans (State.lapseReqs_kept ..)
      extract_lets +onlyGivenNames x18
      refine Kept.ite ?_ ?_
      · exact KeptN.ok h17
      · split
        · rename_i y19 y20 y21
          have h22 : Kept s0 y20 := KeptP.get y21 (KeptP.trans h17 (State.snapPlace_kept ..))
          exact KeptN.ok h22
        · rename_i y23 y24 y25 y26
          have h27 : Kept s0 y25 := KeptP.get y26 (KeptP.trans h17 (State.snapPlace_kept ..))
          extract_lets +onlyGivenNames x28 x29
          split
          rename_i y30 y31 y32 y33
          have h34 : Kept s0 y32 := KeptP.get y33 (KeptP.trans h27 (State.draw_kept ..))
          extract_lets +onlyGivenNames x35
          split
          rename_i y36 y37 y38 y39
          have h40 : Kept s0 y38 := KeptP.get y39 (KeptP.trans h34 (State.draw_kept ..))
          extract_lets +onlyGivenNames x41 x42 x43
          have h44 : Kept s0 x43 := h40.trans (State.setGnb_kept ..)
          exact KeptN.ok (h44.trans (State.pushTx_kept ..))

theorem State.dropReq_kept (s0) (r) : Kept s0 (State.dropReq s0 r) := by
  unfold State.dropReq
  exact State.setGnb_kept ..

theorem State.putReq_kept (s0) (r) (v2) : Kept s0 (State.putReq s0 r v2) := by
  unfold State.putReq
  exact State.setGnb_kept ..

theorem State.judgeRecord_kept (s0) (r) : Kept s0 (State.judgeRecord s0 r) := by
  unfold State.judgeRecord
  refine Kept.ite ?_ ?_
  · extract_lets +onlyGivenNames x1
    exact Kept.ite (State.putReq_kept ..) (State.dropReq_kept ..)
  · exact .refl _

theorem State.snapSegment_kept (s0) (p) (pl) : Kept s0 (State.snapSegment s0 p pl) := by
  unfold State.snapSegment
  split
  · rename_i y1 y2
    exact .refl _
  · rename_i y3 y4 y5
    refine Kept.ite ?_ ?_
    · refine Kept.ite ?_ ?_
      · exact State.dropReq_kept ..
      · extract_lets +onlyGivenNames x6
        exact (State.putReq_kept ..).trans (State.judgeRecord_kept ..)
    · extract_lets +onlyGivenNames x7
      refine Kept.ite ?_ ?_
      · exact .refl _
      · extract_lets +onlyGivenNames x8
        extract_lets +onlyGivenNames x9
        have h10 : Kept s0 x9 := State.snapWrite_kept ..
        extract_lets +onlyGivenNames x11
        exact (h10.trans (State.putReq_kept ..)).trans (State.judgeRecord_kept ..)

theorem execReassemblyTimeout_kept (k) (s0) : KeptN s0 (execReassemblyTimeout k s0) := by
  unfold execReassemblyTimeout
  refine KeptN.clocked ?_
  split
  · rename_i y1 y2 y3
    exact KeptN.ok ((State.advCcTo_kept ..).trans (State.dropReq_kept ..))
  · rename_i y4 y5
    exact KeptN.ok (.refl _)

theorem State.zeroCal_kept (s0) : Kept s0 (State.zeroCal s0) := by
  unfold State.zeroCal
  refine Kept.ite ?_ ?_
  · exact .refl _
  · extract_lets +onlyGivenNames x1
    have h2 : Kept s0 x1 := State.update_kept ..
    refine Kept.ite ?_ ?_
    · split
      · rename_i y3 y4 y5
        split
        rename_i y6 y7 y8 y9
        split
        rename_i y10 y11 y12 y13
        have h14 : Kept s0 y12 := KeptP.get y13 (KeptP.trans h2 (State.draw_kept ..))
        exact h14.trans (State.update_kept ..)
      · rename_i y15 y16
        exact h2
    · split
      · rename_i y17 y18 y19
        extract_lets +onlyGivenNames x20
        exact (h2.trans (State.update_kept ..)).trans (State.setFld_kept ..)
      · rename_i y21 y22
        exact h2

theorem State.acceptTower_kept (s0) (k) (x) (kept) (ratio) (r) : Kept s0 (State.acceptTower s0 k x kept ratio r) := by
  unfold State.acceptTower
  extract_lets +onlyGivenNames x1
  have h2 : Kept s0 x1 := (State.setFldI_kept ..).trans (State.setFldI_kept ..)
  extract_lets +onlyGivenNames x3
  have h4 : Kept s0 x3 := (h2.trans (State.setFld_kept ..)).trans (State.setFld_kept ..)
  extract_lets +onlyGivenNames x5
  have h6 : Kept s0 x5 := (h4.trans (State.setFld_kept ..)).trans (State.inc_kept ..)
  extract_lets +onlyGivenNames x7
  extract_lets +onlyGivenNames x8
  have h9 : Kept s0 x8 := h6.trans (State.setGnb_kept ..)
  extract_lets +onlyGivenNames x10
  have h11 : Kept s0 x10 := (h9.trans (State.setFldSat_kept ..)).trans (State.zeroCal_kept ..)
  exact h11.trans (State.setFldSat_kept ..)

theorem State.rejectTower_kept (s0) (k) : Kept s0 (State.rejectTower s0 k) := by
  unfold State.rejectTower
  extract_lets +onlyGivenNames x1
  extract_lets +onlyGivenNames x2
  have h3 : Kept s0 x2 := Kept.ite (State.setGnb_kept ..) (.refl _)
  exact h3.trans (State.setFld_kept ..)

theorem execSnapshotProcessing_kept (x) (s0) : KeptN s0 (execSnapshotProcessing x s0) := by
  unfold execSnapshotProcessing
  refine KeptN.clocked ?_
  split
  · rename_i y1 y2
    exact KeptN.ok (.refl _)
  · rename_i y3 y4 y5
    refine Kept.ite ?_ ?_
    · exact KeptN.ok (.refl _)
    · extract_lets +onlyGivenNames x6 x7 x8
      have h9 : Kept s0 x8 := State.advCcTo_kept ..
      extract_lets +onlyGivenNames x10
      refine Kept.ite ?_ ?_
      · exact KeptN.ok ((h9.trans (State.dropReq_kept ..)).trans (State.inc_kept ..))
      · extract_lets +onlyGivenNames x11
        have h12 : Kept s0 x11 := h9.trans (State.advCcTo_kept ..)
        extract_lets +onlyGivenNames x13 x14
        have h15 : Kept s0 x14 := (h12.trans (State.dropReq_kept ..)).trans (State.setGnb_kept ..)
        extract_lets +onlyGivenNames x16 x17 x18 x19
        split
        · rename_i y20 y21 y22 y23
          exact KeptN.ok (h15.trans (State.acceptTower_kept ..))
        · rename_i y24 y25
          exact KeptN.ok (h15.trans (State.rejectTower_kept ..))

theorem execGeometryStale_kept (k) (s0) : KeptN s0 (execGeometryStale k s0) := by
  unfold execGeometryStale
  refine KeptN.clocked ?_
  extract_lets +onlyGivenNames x1
  refine Kept.ite ?_ ?_
  · exact KeptN.ok (.refl _)
  · extract_lets +onlyGivenNames x2
    extract_lets +onlyGivenNames x3
    have h4 : Kept s0 x3 := State.advCcTo_kept ..
    exact KeptN.ok ((h4.trans (State.setFld_kept ..)).trans (State.report_kept ..))

theorem execSpanOffsetSend_kept (k) (gap) (s0) : KeptN s0 (execSpanOffsetSend k gap s0) := by
  unfold execSpanOffsetSend
  refine KeptN.clocked ?_
  extract_lets +onlyGivenNames x1
  have h2 : Kept s0 x1 := State.advCc_kept ..
  exact Kept.ite (KeptN.ok (h2.trans (State.pushTx_kept ..))) (KeptN.ok h2)

end Sys2Proof.Machine
end

