-- ==== Sys2Proof/Laws/KeptHead.lean ====
section
/-! SUPPORT. `Kept` holds of the operations of `Machine/Head.lean`. -/

set_option Elab.async false

namespace Sys2Proof.Machine

open Sys2Proof

theorem State.storeEpoch_kept (s0) (e) : Kept s0 (State.storeEpoch s0 e) := by
  unfold State.storeEpoch
  exact ((Kept.same)).trans (State.setFld_kept ..)

theorem State.sendEpoch_kept (s0) (p) (rep) : Kept s0 (State.sendEpoch s0 p rep) := by
  unfold State.sendEpoch
  extract_lets +onlyGivenNames x1
  extract_lets +onlyGivenNames x2
  extract_lets +onlyGivenNames x3
  extract_lets +onlyGivenNames x4
  extract_lets +onlyGivenNames x5
  have h6 : Kept s0 x5 := Kept.foldl (.refl _) (fun a8 x9 h7 => h7.trans (State.pushTx_kept ..))
  extract_lets +onlyGivenNames x10
  exact h6.trans (State.pushTx_kept ..)

theorem execReplicationCapture_kept (s0) : KeptN s0 (execReplicationCapture s0) := by
  unfold execReplicationCapture
  refine KeptN.clocked ?_
  refine Kept.ite ?_ ?_
  · exact KeptN.ok (.refl _)
  · extract_lets +onlyGivenNames x1
    have h2 : Kept s0 x1 := State.takeInstant_kept ..
    split
    · rename_i y3 y4
      exact KeptN.ok h2
    · rename_i y5 y6 y7
      refine Kept.ite ?_ ?_
      · exact KeptN.ok h2
      · refine Kept.ite ?_ ?_
        · exact KeptN.ok (h2.trans (State.inc_kept ..))
        · extract_lets +onlyGivenNames x8
          extract_lets +onlyGivenNames x9 x10
          have h11 : Kept s0 x10 := h2.trans .same
          exact KeptN.ok (h11.trans (State.sendEpoch_kept ..))

theorem State.dropAsm_kept (s0) : Kept s0 (State.dropAsm s0) := by
  unfold State.dropAsm
  exact Kept.ite (((Kept.same)).trans (State.inc_kept ..)) (.refl _)

theorem State.epochData_kept (s0) (pl) : Kept s0 (State.epochData s0 pl) := by
  unfold State.epochData
  extract_lets +onlyGivenNames x1
  extract_lets +onlyGivenNames x2
  extract_lets +onlyGivenNames x3
  extract_lets +onlyGivenNames x4
  have h5 : Kept s0 x4 := by
    unfold x4
    split
    · rename_i y6 y7 y8
      exact Kept.ite (.refl _) (State.dropAsm_kept ..)
    · rename_i y9 y10
      exact .refl _
  extract_lets +onlyGivenNames x11
  exact h5.trans .same

theorem State.manifest_kept (s0) (pl) : KeptP s0 (State.manifest s0 pl) := by
  unfold State.manifest
  extract_lets +onlyGivenNames x1 x2 x3 x4 x5 x6
  refine Kept.ite ?_ ?_
  · extract_lets +onlyGivenNames x7 x8
    have h9 : Kept s0 x8 := (Kept.same)
    refine Kept.ite ?_ ?_
    · exact KeptP.mk h9
    · extract_lets +onlyGivenNames x10
      extract_lets +onlyGivenNames x11 x12
      exact KeptP.mk ((h9.trans .same).trans (State.setFld_kept ..))
  · exact KeptP.mk (State.dropAsm_kept ..)

theorem execEpochData_kept (f) (s0) : KeptN s0 (execEpochData f s0) := by
  unfold execEpochData
  refine KeptN.clocked ?_
  refine Kept.ite ?_ ?_
  · exact KeptN.ok (.refl _)
  · extract_lets +onlyGivenNames x1
    have h2 : Kept s0 x1 := State.arrive_kept ..
    split
    · rename_i y3 y4 y5
      have h6 : Kept s0 y4 := KeptP.get y5 (KeptP.trans h2 (State.rxChecks_kept ..))
      extract_lets +onlyGivenNames x7
      have h8 : Kept s0 x7 := h6.trans (State.accept_kept ..)
      exact KeptN.ok (Kept.ite (h8.trans (State.epochData_kept ..)) (Kept.ite (h8.trans (State.pushRx_kept ..)) h8))
    · rename_i y9 y10 y11 y12 y13
      have h14 : Kept s0 y11 := KeptP.get y13 (KeptP.trans h2 (State.rxChecks_kept ..))
      exact KeptN.ok h14

theorem execManifest_kept (f) (s0) : KeptN s0 (execManifest f s0) := by
  unfold execManifest
  refine KeptN.clocked ?_
  refine Kept.ite ?_ ?_
  · exact KeptN.ok (.refl _)
  · extract_lets +onlyGivenNames x1
    have h2 : Kept s0 x1 := State.arrive_kept ..
    split
    · rename_i y3 y4 y5
      have h6 : Kept s0 y4 := KeptP.get y5 (KeptP.trans h2 (State.rxChecks_kept ..))
      refine Kept.ite ?_ ?_
      · exact KeptN.ok ((h6.trans (State.pushRx_kept ..)).trans (State.accept_kept ..))
      · refine Kept.ite ?_ ?_
        · split
          rename_i y7 y8 y9 y10
          have h11 : Kept s0 y9 := KeptP.get y10 (KeptP.trans h6 (State.manifest_kept ..))
          exact KeptN.ok (h11.trans (State.accept_kept ..))
        · exact KeptN.ok (h6.trans (State.accept_kept ..))
    · rename_i y12 y13 y14 y15 y16
      have h17 : Kept s0 y14 := KeptP.get y16 (KeptP.trans h2 (State.rxChecks_kept ..))
      exact KeptN.ok h17

theorem State.applyMachine_kept (s0) (x) (b) : Kept s0 (State.applyMachine s0 x b) := by
  unfold State.applyMachine
  extract_lets +onlyGivenNames x1
  extract_lets +onlyGivenNames x2
  extract_lets +onlyGivenNames x3
  extract_lets +onlyGivenNames x4
  have h5 : Kept s0 x4 := ((State.setFld_kept ..).trans (State.setLed_kept ..)).trans (State.addMuse_kept ..)
  extract_lets +onlyGivenNames x6
  have h7 : Kept s0 x6 := ((h5.trans (State.setFld_kept ..)).trans (State.trigger_kept ..)).trans (State.judgeMachine_kept
      ..)
  exact Kept.ite (h7.trans (State.applyCf_kept ..)) h7

theorem State.applyTower_kept (s0) (b) : Kept s0 (State.applyTower s0 b) := by
  unfold State.applyTower
  extract_lets +onlyGivenNames x1
  extract_lets +onlyGivenNames x2
  have h3 : Kept s0 x2 := (State.setFld_kept ..).trans (State.setFld_kept ..)
  extract_lets +onlyGivenNames x4
  have h5 : Kept s0 x4 := (h3.trans (State.setFld_kept ..)).trans (State.setFld_kept ..)
  exact (h5.trans (State.setFld_kept ..)).trans (State.setFld_kept ..)

theorem State.applyEpoch_kept (s0) (x) : Kept s0 (State.applyEpoch s0 x) := by
  unfold State.applyEpoch
  extract_lets +onlyGivenNames x1
  have h2 : Kept s0 x1 := by
    unfold x1
    split
    · rename_i y3 y4 y5
      exact State.applyMachine_kept ..
    · rename_i y6 y7
      exact .refl _
  extract_lets +onlyGivenNames x8 x9
  have h10 : Kept s0 x9 := by
    unfold x9
    split
    · rename_i y11 y12 y13
      exact h2.trans (State.setLed_kept ..)
    · rename_i y14 y15
      exact h2
  extract_lets +onlyGivenNames x16
  have h17 : Kept s0 x16 := by
    unfold x16
    split
    · rename_i y18 y19 y20
      exact Kept.foldl h10 (fun a22 x23 h21 => h21.trans (State.applyTower_kept ..))
    · rename_i y24 y25
      exact h10
  extract_lets +onlyGivenNames x26
  have h27 : Kept s0 x26 := by
    unfold x26
    split
    · rename_i y28 y29 y30
      exact h17.trans (State.setFld_kept ..)
    · rename_i y31 y32
      exact h17
  extract_lets +onlyGivenNames x33
  have h34 : Kept s0 x33 := h27.trans (State.resetGeo_kept ..)
  split
  · rename_i y35 y36 y37 y38 y39
    extract_lets +onlyGivenNames x40
    have h41 : Kept s0 x40 := h34.trans (State.sramWrite_kept ..)
    exact h41.trans (State.sramWrite_kept ..)
  · rename_i y42 y43 y44
    exact h34

theorem State.takeover_kept (s0) : Kept s0 (State.takeover s0) := by
  unfold State.takeover
  extract_lets +onlyGivenNames x1
  extract_lets +onlyGivenNames x2
  extract_lets +onlyGivenNames x3
  have h4 : Kept s0 x3 := ((State.storeEpoch_kept ..).trans (State.setFld_kept ..)).trans (State.inc_kept ..)
  extract_lets +onlyGivenNames x5
  have h6 : Kept s0 x5 := (h4.trans (State.setFlag_kept ..)).trans (State.dropAsm_kept ..)
  extract_lets +onlyGivenNames x7
  extract_lets +onlyGivenNames x8
  have h9 : Kept s0 x8 := by
    unfold x8
    split
    · rename_i y10 y11 y12
      exact Kept.ite h6 (h6.trans (State.applyEpoch_kept ..))
    · rename_i y13 y14
      exact h6
  extract_lets +onlyGivenNames x15
  have h16 : Kept s0 x15 := Kept.ite (((h9.trans (State.setFld_kept ..)).trans (State.raise_kept ..)).trans
      (State.report_kept ..)) h9
  extract_lets +onlyGivenNames x17
  have h18 : Kept s0 x17 := Kept.ite (h16.trans (State.setFlag_kept ..)) h16
  exact h18.trans .same

theorem State.takeoverIfFit_kept (s0) : Kept s0 (State.takeoverIfFit s0) := by
  unfold State.takeoverIfFit
  exact Kept.ite (State.takeover_kept ..) (State.setFlag_kept ..)

theorem execFailoverTimeout_kept (s0) : KeptN s0 (execFailoverTimeout s0) := by
  unfold execFailoverTimeout
  refine KeptN.clocked ?_
  split
  · rename_i y1 y2
    exact KeptN.ok (.refl _)
  · rename_i y3 y4 y5
    exact Kept.ite (KeptN.ok ((State.advCcTo_kept ..).trans (State.takeoverIfFit_kept ..))) (KeptN.ok (.refl _))

theorem execArbitrationWaitExpiry_kept (s0) : KeptN s0 (execArbitrationWaitExpiry s0) := by
  unfold execArbitrationWaitExpiry
  refine KeptN.clocked ?_
  split
  · rename_i y1 y2
    exact KeptN.ok (.refl _)
  · rename_i y3 y4 y5
    exact KeptN.ok ((State.advCcTo_kept ..).trans (State.takeoverIfFit_kept ..))

theorem execPulseLatch_kept (s0) : KeptN s0 (execPulseLatch s0) := by
  unfold execPulseLatch
  refine KeptN.clocked ?_
  extract_lets +onlyGivenNames x1
  have h2 : Kept s0 x1 := State.takeInstant_kept ..
  refine Kept.ite ?_ ?_
  · extract_lets +onlyGivenNames x3
    exact KeptN.ok (h2.trans .same)
  · exact KeptN.ok h2

theorem State.dropEpochs_kept (s0) : Kept s0 (State.dropEpochs s0) := by
  unfold State.dropEpochs
  exact Kept.foldl ((Kept.same)) (fun a2 x3 h1 => Kept.ite (h1.trans (State.dropItem_kept ..)) h1)

theorem State.yieldTo_kept (s0) (e) : Kept s0 (State.yieldTo s0 e) := by
  unfold State.yieldTo
  extract_lets +onlyGivenNames x1
  have h2 : Kept s0 x1 := ((State.storeEpoch_kept ..).trans (State.setFld_kept ..)).trans (State.inc_kept ..)
  extract_lets +onlyGivenNames x3
  have h4 : Kept s0 x3 := (h2.trans (State.setFlag_kept ..)).trans (State.resetGeo_kept ..)
  extract_lets +onlyGivenNames x5
  extract_lets +onlyGivenNames x6
  extract_lets +onlyGivenNames x7
  have h8 : Kept s0 x7 := h4.trans .same
  exact (Kept.ite ((h8.trans (State.stageOff_kept ..)).trans (State.stageOff_kept ..)) h8).trans (State.dropEpochs_kept ..)

theorem State.maybeYield_kept (s0) (e) (a) : Kept s0 (State.maybeYield s0 e a) := by
  unfold State.maybeYield
  exact Kept.ite (State.yieldTo_kept ..) (.refl _)

theorem execFence_kept (f) (s0) : KeptN s0 (execFence f s0) := by
  unfold execFence
  refine KeptN.clocked ?_
  refine Kept.ite ?_ ?_
  · exact KeptN.ok (.refl _)
  · extract_lets +onlyGivenNames x1
    have h2 : Kept s0 x1 := State.arrive_kept ..
    split
    · rename_i y3 y4 y5
      have h6 : Kept s0 y4 := KeptP.get y5 (KeptP.trans h2 (State.rxChecks_kept ..))
      extract_lets +onlyGivenNames x7
      have h8 : Kept s0 x7 := h6.trans (State.accept_kept ..)
      exact KeptN.ok (Kept.ite (h8.trans (State.pushRx_kept ..)) (h8.trans (State.maybeYield_kept ..)))
    · rename_i y9 y10 y11 y12 y13
      have h14 : Kept s0 y11 := KeptP.get y13 (KeptP.trans h2 (State.rxChecks_kept ..))
      exact KeptN.ok h14

theorem execHandover_kept (f) (s0) : KeptN s0 (execHandover f s0) := by
  unfold execHandover
  refine KeptN.clocked ?_
  refine Kept.ite ?_ ?_
  · exact KeptN.ok (.refl _)
  · extract_lets +onlyGivenNames x1
    have h2 : Kept s0 x1 := State.arrive_kept ..
    split
    · rename_i y3 y4 y5
      have h6 : Kept s0 y4 := KeptP.get y5 (KeptP.trans h2 (State.rxChecks_kept ..))
      extract_lets +onlyGivenNames x7
      have h8 : Kept s0 x7 := h6.trans (State.accept_kept ..)
      exact Kept.ite (KeptN.ok (h8.trans (State.pushRx_kept ..))) (Kept.ite (KeptN.ok (h8.trans (State.takeover_kept ..)))
          (KeptN.ok (h8.trans (State.maybeYield_kept ..))))
    · rename_i y9 y10 y11 y12 y13
      have h14 : Kept s0 y11 := KeptP.get y13 (KeptP.trans h2 (State.rxChecks_kept ..))
      exact KeptN.ok h14

theorem State.writeHandover_kept (s0) (v) : Kept s0 (State.writeHandover s0 v) := by
  unfold State.writeHandover
  exact Kept.ite (.refl _) (Kept.ite ((Kept.same)) (State.raise_kept ..))

theorem State.manifestAcked_kept (s0) (p) (adm) : Kept s0 (State.manifestAcked s0 p adm) := by
  unfold State.manifestAcked
  split
  · rename_i y1 y2
    exact .refl _
  · rename_i y3 y4 y5 y6
    extract_lets +onlyGivenNames x7 x8
    have h9 : Kept s0 x8 := (Kept.same)
    extract_lets +onlyGivenNames x10
    have h11 : Kept s0 x10 := h9.trans (State.setFld_kept ..)
    refine Kept.ite ?_ ?_
    · extract_lets +onlyGivenNames x12
      extract_lets +onlyGivenNames x13
      have h14 : Kept s0 x13 := h11.trans .same
      exact h14.trans (State.pushTx_kept ..)
    · exact h11

theorem State.handoverAcked_kept (s0) : Kept s0 (State.handoverAcked s0) := by
  unfold State.handoverAcked
  exact Kept.ite (State.yieldTo_kept ..) (.refl _)

end Sys2Proof.Machine
end

