-- ==== Sys2Proof/Laws/KeptRx.lean ====
section
/-! SUPPORT. `Kept` holds of the operations of `Machine/Rx.lean`. -/

set_option Elab.async false

namespace Sys2Proof.Machine

open Sys2Proof

theorem State.takeRdata_kept (s0) (src) (pl) : Kept s0 (State.takeRdata s0 src pl) := by
  unfold State.takeRdata
  extract_lets +onlyGivenNames x1
  extract_lets +onlyGivenNames x2
  extract_lets +onlyGivenNames x3
  exact State.ringDrop_kept ..

theorem State.takeEnr_kept (s0) (pl) : Kept s0 (State.takeEnr s0 pl) := by
  unfold State.takeEnr
  extract_lets +onlyGivenNames x1
  extract_lets +onlyGivenNames x2
  exact State.ringDrop_kept ..

theorem State.takeErr_kept (s0) (src) (pl) : Kept s0 (State.takeErr s0 src pl) := by
  unfold State.takeErr
  extract_lets +onlyGivenNames x1
  have h2 : Kept s0 x1 := (State.raise_kept ..).trans (State.inc_kept ..)
  exact h2.trans (State.errRec_kept ..)

theorem State.newOffset_kept (s0) (x) : Kept s0 (State.newOffset s0 x) := by
  unfold State.newOffset
  extract_lets +onlyGivenNames x1
  exact Kept.ite (.refl _) ((State.setFld_kept ..).trans (State.correct_kept ..))

theorem State.takeProfile_kept (s0) (pl) : Kept s0 (State.takeProfile s0 pl) := by
  unfold State.takeProfile
  extract_lets +onlyGivenNames x1 x2
  refine Kept.ite ?_ ?_
  · exact State.inc_kept ..
  · refine Kept.ite ?_ ?_
    · exact .refl _
    · extract_lets +onlyGivenNames x3
      exact (Kept.same)

theorem State.takePressure_kept (s0) (src) (pl) : Kept s0 (State.takePressure s0 src pl) := by
  unfold State.takePressure
  exact Kept.ite (State.setLed_kept ..) (.refl _)

theorem State.takeRaw_kept (s0) (src) (pl) : Kept s0 (State.takeRaw s0 src pl) := by
  unfold State.takeRaw
  refine Kept.ite ?_ ?_
  · extract_lets +onlyGivenNames x1
    exact State.setLed_kept ..
  · exact .refl _

theorem State.takeMsg_kept (s0) (src) (pl) : Kept s0 (State.takeMsg s0 src pl) := by
  unfold State.takeMsg
  split
  · rename_i y1 y2
    exact Kept.ite ((State.newOffset_kept ..).trans (State.mark_kept ..)) (.refl _)
  · rename_i y3 y4
    exact State.takeProfile_kept ..
  · rename_i y5 y6
    exact State.takePressure_kept ..
  · rename_i y7 y8
    exact State.takeRaw_kept ..
  · rename_i y9 y10
    exact Kept.ite (State.applyCf_kept ..) (.refl _)
  · rename_i y11 y12
    exact Kept.ite (State.wantHold_kept ..) (.refl _)
  · rename_i y13 y14 y15 y16 y17 y18 y19
    exact .refl _

theorem State.takeEpoch_kept (s0) (src) (pl) : Kept s0 (State.takeEpoch s0 src pl) := by
  unfold State.takeEpoch
  split
  · rename_i y1 y2
    exact Kept.ite (State.epochData_kept ..) (.refl _)
  · rename_i y3 y4
    exact Kept.ite (State.manifest_kept ..) (.refl _)
  · rename_i y5 y6
    exact State.maybeYield_kept ..
  · rename_i y7 y8
    exact Kept.ite (State.takeover_kept ..) (State.maybeYield_kept ..)
  · rename_i y9 y10 y11 y12 y13
    exact .refl _

theorem State.rxEffect_kept (s0) (src) (cls) (pl) (v4) : Kept s0 (State.rxEffect s0 src cls pl v4) := by
  unfold State.rxEffect
  exact Kept.ite (State.takeRdata_kept ..) (Kept.ite (State.takeErr_kept ..) (Kept.ite (State.takeMsg_kept ..) (Kept.ite
      (Kept.ite (State.snapSegment_kept ..) (.refl _)) (Kept.ite (State.snapRequest_kept ..) (Kept.ite (State.takeEpoch_kept
      ..) (Kept.ite (State.takeEnr_kept ..) (.refl _)))))))

theorem State.drainRx_kept (v0) (s0) : Kept s0 (State.drainRx v0 s0) := by
  induction v0 generalizing s0
  · rw [State.drainRx]
    exact .refl _
  · rename_i v0 ih
    rw [State.drainRx]
    split
    · rename_i y1 y2
      exact .refl _
    · rename_i y3 y4 y5 y6
      extract_lets +onlyGivenNames x7
      refine Kept.ite ?_ ?_
      · exact .refl _
      · split
        rename_i y8 y9 y10 y11
        have h12 : Kept s0 y10 := KeptP.get y11 (State.readItem_kept ..)
        extract_lets +onlyGivenNames x13
        have h14 : Kept s0 x13 := h12.trans (State.release_kept ..)
        extract_lets +onlyGivenNames x15
        have h16 : Kept s0 x15 := Kept.ite ((h14.trans (State.inc_kept ..)).trans (State.reportAt_kept ..)) (h14.trans
            (State.rxEffect_kept ..))
        exact h16.trans (ih ..)

theorem State.flow_kept (s0) : Kept s0 (State.flow s0) := by
  unfold State.flow
  exact ((((State.drainRx_kept ..).trans (State.serveKx_kept ..)).trans (State.retryTx_kept ..)).trans (State.pump_kept
      ..)).trans (State.contend_kept ..)

end Sys2Proof.Machine
end

