-- ==== Sys2Proof/Laws/KeptModes.lean ====
section
/-! SUPPORT. `Kept` holds of the operations of `Machine/Modes.lean`. -/

set_option Elab.async false

namespace Sys2Proof.Machine

open Sys2Proof

theorem State.flushRange_kept (s0) (lo) (hi) : Kept s0 (State.flushRange s0 lo hi) := by
  unfold State.flushRange
  exact Kept.foldl (.refl _) (fun a2 x3 h1 => h1.trans (State.flush_kept ..))

theorem State.beginDormant_kept (s0) : Kept s0 (State.beginDormant s0) := by
  unfold State.beginDormant
  extract_lets +onlyGivenNames x1
  have h2 : Kept s0 x1 := Kept.foldl (.refl _) (fun a4 x5 h3 => Kept.ite (h3.trans (State.setMov_kept ..)) h3)
  extract_lets +onlyGivenNames x6
  have h7 : Kept s0 x6 := Kept.foldl h2 (fun a9 x10 h8 => Kept.ite (KeptP.trans h8 (State.issueClose_kept ..)) h8)
  extract_lets +onlyGivenNames x11
  have h12 : Kept s0 x11 := h7.trans (State.setFlag_kept ..)
  exact (h12.trans .same).trans (State.trigger_kept ..)

theorem State.enterMode_kept (s0) (m) (cause) : Kept s0 (State.enterMode s0 m cause) := by
  unfold State.enterMode
  extract_lets +onlyGivenNames x1
  refine Kept.ite ?_ ?_
  · exact .refl _
  · extract_lets +onlyGivenNames x2
    have h3 : Kept s0 x2 := ((State.setFld_kept ..).trans (State.setFld_kept ..)).trans (State.setFld_kept ..)
    extract_lets +onlyGivenNames x4
    have h5 : Kept s0 x4 := h3.trans (State.setFlag_kept ..)
    extract_lets +onlyGivenNames x6
    have h7 : Kept s0 x6 := Kept.ite h5 (h5.trans (State.flushRange_kept ..))
    extract_lets +onlyGivenNames x8
    have h9 : Kept s0 x8 := Kept.ite (h7.trans (State.flushRange_kept ..)) h7
    extract_lets +onlyGivenNames x10
    have h11 : Kept s0 x10 := h9.trans (State.stagesForMode_kept ..)
    extract_lets +onlyGivenNames x12
    have h13 : Kept s0 x12 := Kept.ite h11 (h11.trans (State.startPlan_kept ..))
    refine Kept.ite ?_ ?_
    · extract_lets +onlyGivenNames x14
      extract_lets +onlyGivenNames x15
      have h16 : Kept s0 x15 := h13.trans .same
      exact h16.trans (State.trigger_kept ..)
    · exact Kept.ite (h13.trans (State.beginDormant_kept ..)) h13

theorem State.applyCommand_kept (s0) (t) (cause) : Kept s0 (State.applyCommand s0 t cause) := by
  unfold State.applyCommand
  extract_lets +onlyGivenNames x1
  exact Kept.ite ((State.raise_kept ..).trans (State.setFld_kept ..)) (Kept.ite (State.enterMode_kept ..)
      (State.enterMode_kept ..))

theorem State.groupSafe_kept (s0) (g) (why) : Kept s0 (State.groupSafe s0 g why) := by
  unfold State.groupSafe
  exact Kept.foldl (.refl _) (fun a2 x3 h1 => Kept.ite h1 (h1.trans (State.enterSafe_kept ..)))

theorem State.safeAct_kept (s0) (d) : Kept s0 (State.safeAct s0 d) := by
  unfold State.safeAct
  exact Kept.ite (.refl _) (Kept.ite (State.groupSafe_kept ..) (Kept.ite (State.groupSafe_kept ..) (State.enterSafe_kept
      ..)))

theorem State.faultActs_kept (s0) : Kept s0 (State.faultActs s0) := by
  unfold State.faultActs
  extract_lets +onlyGivenNames x1
  extract_lets +onlyGivenNames x2
  extract_lets +onlyGivenNames x3
  have h4 : Kept s0 x3 := (Kept.same)
  extract_lets +onlyGivenNames x5
  have h6 : Kept s0 x5 := Kept.foldl h4 (fun a8 x9 h7 => h7.trans (State.safeAct_kept ..))
  exact h6.trans .same

theorem State.holdCauses_kept (s0) : Kept s0 (State.holdCauses s0) := by
  unfold State.holdCauses
  split
  · rename_i y1 y2
    exact .refl _
  · rename_i y3 y4 y5 y6
    exact ((Kept.same)).trans (State.enterMode_kept ..)

theorem State.limpCause_kept (s0) : Kept s0 (State.limpCause s0) := by
  unfold State.limpCause
  refine Kept.ite ?_ ?_
  · exact .refl _
  · extract_lets +onlyGivenNames x1
    extract_lets +onlyGivenNames x2
    have h3 : Kept s0 x2 := (Kept.same)
    extract_lets +onlyGivenNames x4
    exact Kept.ite (h3.trans (State.enterMode_kept ..)) (Kept.ite ((h3.trans (State.setFlag_kept ..)).trans
        (State.enterMode_kept ..)) h3)

theorem State.lostCause_kept (s0) : Kept s0 (State.lostCause s0) := by
  unfold State.lostCause
  refine Kept.ite ?_ ?_
  · exact .refl _
  · extract_lets +onlyGivenNames x1
    extract_lets +onlyGivenNames x2
    have h3 : Kept s0 x2 := (Kept.same)
    extract_lets +onlyGivenNames x4
    exact Kept.ite (h3.trans (State.enterMode_kept ..)) (Kept.ite (h3.trans (State.enterMode_kept ..)) h3)

theorem State.checkSchedule_kept (s0) : Kept s0 (State.checkSchedule s0) := by
  unfold State.checkSchedule
  refine Kept.ite ?_ ?_
  · extract_lets +onlyGivenNames x1
    have h2 : Kept s0 x1 := State.update_kept ..
    exact h2.trans .same
  · exact .refl _

theorem State.checkWake_kept (s0) : Kept s0 (State.checkWake s0) := by
  unfold State.checkWake
  refine Kept.ite ?_ ?_
  · extract_lets +onlyGivenNames x1
    have h2 : Kept s0 x1 := State.update_kept ..
    exact Kept.ite (h2.trans .same) h2
  · exact .refl _

theorem State.dormantCauses_kept (s0) : Kept s0 (State.dormantCauses s0) := by
  unfold State.dormantCauses
  exact Kept.ite (State.applyCommand_kept ..) (Kept.ite (((Kept.same)).trans (State.applyCommand_kept ..)) (.refl _))

theorem State.defPend_kept (s0) : Kept s0 (State.defPend s0) := by
  unfold State.defPend
  exact Kept.ite (State.enterMode_kept ..) (.refl _)

theorem State.commands_kept (s0) : Kept s0 (State.commands s0) := by
  unfold State.commands
  extract_lets +onlyGivenNames x1
  exact Kept.foldl ((Kept.same)) (fun a3 x4 h2 => h2.trans (State.applyCommand_kept ..))

theorem State.modeStep_kept (s0) : Kept s0 (State.modeStep s0) := by
  unfold State.modeStep
  extract_lets +onlyGivenNames x1
  have h2 : Kept s0 x1 := (State.checkSchedule_kept ..).trans (State.checkWake_kept ..)
  refine Kept.ite ?_ ?_
  · exact h2.trans (State.commands_kept ..)
  · refine Kept.ite ?_ ?_
    · exact h2.trans (State.commands_kept ..)
    · extract_lets +onlyGivenNames x3 x4 x5
      have h6 : Kept s0 x5 := Kept.ite ((h2.trans .same).trans (State.enterMode_kept ..)) h2
      extract_lets +onlyGivenNames x7
      have h8 : Kept s0 x7 := h6.trans (State.faultActs_kept ..)
      extract_lets +onlyGivenNames x9
      have h10 : Kept s0 x9 := ((((h8.trans (State.holdCauses_kept ..)).trans (State.limpCause_kept ..)).trans
          (State.lostCause_kept ..)).trans (State.dormantCauses_kept ..)).trans (State.defPend_kept ..)
      extract_lets +onlyGivenNames x11
      have h12 : Kept s0 x11 := h10.trans (State.commands_kept ..)
      clear_value x3
      split
      · rename_i y13 y14 y15 y16
        exact h12.trans .same
      · rename_i y17 y18 y19 y20
        exact h12

theorem State.outputsDown_kept (s0) : Kept s0 (State.outputsDown s0) := by
  unfold State.outputsDown
  extract_lets +onlyGivenNames x1
  have h2 : Kept s0 x1 := Kept.foldl (.refl _) (fun a4 x5 h3 => Kept.ite h3 (h3.trans (State.setOut_kept ..)))
  extract_lets +onlyGivenNames x6
  have h7 : Kept s0 x6 := Kept.foldl h2 (fun a9 x10 h8 => h8.trans (State.driveSafe_kept ..))
  exact (h7.trans (State.traceGap_kept ..)).trans (State.abandonSnap_kept ..)

theorem State.dormantStep_kept (s0) : Kept s0 (State.dormantStep s0) := by
  unfold State.dormantStep
  extract_lets +onlyGivenNames x1 x2
  have h3 : Kept s0 x2 := by
    unfold x2
    refine Kept.ite ?_ ?_
    · unfold x1
      exact (State.outputsDown_kept ..).trans .same
    · exact .refl _
  extract_lets +onlyGivenNames x4 x5
  have h6 : Kept s0 x5 := Kept.ite h3 (h3.trans (State.sendRaw_kept ..))
  extract_lets +onlyGivenNames x7 x8
  have h9 : Kept s0 x8 := by
    unfold x8
    refine Kept.ite ?_ ?_
    · unfold x1
      exact (h6.trans (State.setLed_kept ..)).trans .same
    · exact h3
  refine Kept.ite ?_ ?_
  · unfold x1
    exact h9.trans .same
  · exact h9

theorem State.wake_kept (s0) : Kept s0 (State.wake s0) := by
  unfold State.wake
  refine Kept.ite ?_ ?_
  · exact .refl _
  · refine Kept.ite ?_ ?_
    · extract_lets +onlyGivenNames x1
      have h2 : Kept s0 x1 := State.traceResume_kept ..
      extract_lets +onlyGivenNames x3
      have h4 : Kept s0 x3 := Kept.ite h2 (((h2.trans (State.setFlag_kept ..)).trans (State.setFld_kept ..)).trans
          (State.setFld_kept ..))
      extract_lets +onlyGivenNames x5 x6 x7
      have h8 : Kept s0 x7 := h4.trans .same
      extract_lets +onlyGivenNames x9
      have h10 : Kept s0 x9 := Kept.foldl h8 (fun a12 x13 h11 => h11.trans (State.skipCredit_kept ..))
      exact Kept.ite (h10.trans (State.startCommit_kept ..)) h10
    · exact (Kept.same)

theorem State.standstillActs_kept (s0) (rel) : KeptP s0 (State.standstillActs s0 rel) := by
  unfold State.standstillActs
  extract_lets +onlyGivenNames x1
  extract_lets +onlyGivenNames x2
  have h3 : Kept s0 x2 := by
    unfold x2
    refine Kept.ite ?_ ?_
    · refine Kept.foldl ?_ (fun a5 x6 h4 => ?_)
      · exact .refl _
      · split
        · rename_i y7 y8 y9
          exact (h4.trans (State.modValve_kept ..)).trans (State.noteOutcome_kept ..)
        · rename_i y10 y11
          exact h4
    · exact .refl _
  extract_lets +onlyGivenNames x12
  exact Kept.ite (KeptP.mk (h3.trans .same)) (Kept.ite (KeptP.mk h3) (KeptP.mk h3))

theorem State.judgeDir_kept (s0) : Kept s0 (State.judgeDir s0) := by
  unfold State.judgeDir
  exact Kept.ite ((State.flushRange_kept ..).trans (State.startPlan_kept ..)) (.refl _)

theorem State.injector_kept (s0) : KeptP s0 (State.injector s0) := by
  unfold State.injector
  extract_lets +onlyGivenNames x1
  extract_lets +onlyGivenNames x2
  extract_lets +onlyGivenNames x3
  extract_lets +onlyGivenNames x4
  extract_lets +onlyGivenNames x5
  have h6 : Kept s0 x5 := (Kept.same)
  exact Kept.ite (KeptP.mk h6) (KeptP.mk h6)

theorem State.endFlushes_kept (s0) : Kept s0 (State.endFlushes s0) := by
  unfold State.endFlushes
  exact Kept.foldl (.refl _) (fun a2 x3 h1 => Kept.ite (h1.trans (State.endFlush_kept ..)) h1)

theorem State.tick_kept (s0) : Kept s0 (State.tick s0) := by
  unfold State.tick
  extract_lets +onlyGivenNames x1
  have h2 : Kept s0 x1 := (State.settleAll_kept ..).trans (State.applyDue_kept ..)
  extract_lets +onlyGivenNames x3
  extract_lets +onlyGivenNames x4
  extract_lets +onlyGivenNames x5
  have h6 : Kept s0 x5 := h2.trans .same
  extract_lets +onlyGivenNames x7
  extract_lets +onlyGivenNames x8
  have h9 : Kept s0 x8 := Kept.foldl h6 (fun a11 x12 h10 => h10.trans (State.modValve_kept ..))
  extract_lets +onlyGivenNames x13
  have h14 : Kept s0 x13 := (h9.trans (State.sampleTravel_kept ..)).trans (State.endFlushes_kept ..)
  split
  rename_i y15 y16 y17 y18
  have h19 : Kept s0 y17 := KeptP.get y18 (KeptP.trans h14 (State.standstillActs_kept ..))
  extract_lets +onlyGivenNames x20
  have h21 : Kept s0 x20 := (h19.trans (State.judgeDir_kept ..)).trans (State.modeStep_kept ..)
  split
  rename_i y22 y23 y24 y25
  have h26 : Kept s0 y24 := KeptP.get y25 (KeptP.trans h21 (State.injector_kept ..))
  extract_lets +onlyGivenNames x27
  extract_lets +onlyGivenNames x28
  have h29 : Kept s0 x28 := h26.trans (State.executeTick_kept ..)
  extract_lets +onlyGivenNames x30
  have h31 : Kept s0 x30 := h29.trans (State.planStep_kept ..)
  exact (h31.trans (State.flow_kept ..)).trans (State.dormantStep_kept ..)

theorem State.nextTick_kept (s0) : Kept s0 (State.nextTick s0) := by
  unfold State.nextTick
  exact (State.takeInstant_kept ..).trans (State.tick_kept ..)

theorem execSchedulerTick_kept (s0) : KeptN s0 (execSchedulerTick s0) := by
  unfold execSchedulerTick
  exact KeptN.clocked (Kept.ite (KeptN.ok (.refl _)) (KeptN.ok (State.nextTick_kept ..)))

theorem execGraceClose_kept (s0) : KeptN s0 (execGraceClose s0) := by
  unfold execGraceClose
  refine KeptN.clocked ?_
  split
  · rename_i y1 y2 y3
    exact Kept.ite (KeptN.ok (.refl _)) (KeptN.ok ((State.advCcTo_kept ..).trans (State.nextTick_kept ..)))
  · rename_i y4 y5
    exact KeptN.ok (.refl _)

theorem execUniformPeriodStart_kept (s0) : KeptN s0 (execUniformPeriodStart s0) := by
  unfold execUniformPeriodStart
  refine KeptN.clocked ?_
  split
  · rename_i y1 y2 y3
    exact Kept.ite (KeptN.ok (.refl _)) (KeptN.ok ((State.advTo_kept ..).trans (State.nextTick_kept ..)))
  · rename_i y4 y5
    exact KeptN.ok (.refl _)

theorem execFlushComplete_kept (q) (s0) : KeptN s0 (execFlushComplete q s0) := by
  unfold execFlushComplete
  exact KeptN.clocked (KeptN.ok (State.endFlush_kept ..))

theorem execIdleTimeout_kept (s0) : KeptN s0 (execIdleTimeout s0) := by
  unfold execIdleTimeout
  exact KeptN.clocked (Kept.ite (KeptN.ok ((State.advCcTo_kept ..).trans (State.nextTick_kept ..))) (KeptN.ok (.refl _)))

theorem execScheduledDormancy_kept (s0) : KeptN s0 (execScheduledDormancy s0) := by
  unfold execScheduledDormancy
  exact KeptN.clocked (Kept.ite (KeptN.ok ((State.advTo_kept ..).trans (State.nextTick_kept ..))) (KeptN.ok (.refl _)))

theorem execWakeTime_kept (s0) : KeptN s0 (execWakeTime s0) := by
  unfold execWakeTime
  exact KeptN.clocked (Kept.ite (KeptN.ok (((State.advTo_kept ..).trans (State.update_kept ..)).trans (State.wake_kept ..)))
      (KeptN.ok (.refl _)))

theorem execProfilePublication_kept (s0) : KeptN s0 (execProfilePublication s0) := by
  unfold execProfilePublication
  refine KeptN.clocked ?_
  refine Kept.ite ?_ ?_
  · exact KeptN.ok (.refl _)
  · extract_lets +onlyGivenNames x1
    have h2 : Kept s0 x1 := State.takeInstant_kept ..
    extract_lets +onlyGivenNames x3 x4 x5
    have h6 : Kept s0 x5 := Kept.ite (Kept.foldl h2 (fun a8 x9 h7 => h7.trans (State.setFldI_kept ..))) h2
    extract_lets +onlyGivenNames x10 x11
    have h12 : Kept s0 x11 := Kept.ite (h6.trans (State.pushTx_kept ..)) h6
    extract_lets +onlyGivenNames x13 x14 x15
    have h16 : Kept s0 x15 := h12.trans (State.incBy_kept ..)
    exact KeptN.ok (h16.trans .same)

end Sys2Proof.Machine
end

