-- ==== Sys2Proof/Laws/KeptLink.lean ====
section
/-! SUPPORT. `Kept` holds of the operations of `Machine/Link.lean`. -/

set_option Elab.async false

namespace Sys2Proof.Machine

open Sys2Proof

theorem State.abortTx_kept (s0) (q) (x) : Kept s0 (State.abortTx s0 q x) := by
  unfold State.abortTx
  extract_lets +onlyGivenNames x1
  have h2 : Kept s0 x1 := by
    unfold x1
    split
    · rename_i y3 y4 y5
      exact Kept.ite (State.setOuts_kept ..) (.refl _)
    · rename_i y6 y7
      exact .refl _
  extract_lets +onlyGivenNames x8
  have h9 : Kept s0 x8 := ((h2.trans (State.dropItem_kept ..)).trans (State.inc_kept ..)).trans (State.report_kept ..)
  extract_lets +onlyGivenNames x10
  exact ((h9.trans (State.hostEnds_kept ..)).trans (State.rawEnds_kept ..)).trans (State.epochFails_kept ..)

theorem State.sendItem_kept (s0) (q) (x) : Kept s0 (State.sendItem s0 q x) := by
  unfold State.sendItem
  split
  rename_i y1 y2 y3 y4
  extract_lets +onlyGivenNames x5
  have h6 : Kept s0 x5 := Kept.ite (.refl _) (State.chooseRateTo_kept ..)
  extract_lets +onlyGivenNames x7 x8 x9 x10
  have h11 : Kept s0 x10 := h6.trans (State.emit_kept ..)
  refine Kept.ite ?_ ?_
  · exact h11.trans (State.dropItem_kept ..)
  · extract_lets +onlyGivenNames x12
    exact h11.trans (State.putOut_kept ..)

theorem State.sendHeld_kept (s0) : Kept s0 (State.sendHeld s0) := by
  unfold State.sendHeld
  split
  · rename_i y1 y2 y3
    extract_lets +onlyGivenNames x4 x5
    have h6 : Kept s0 x5 := State.setFld_kept ..
    extract_lets +onlyGivenNames x7
    exact (h6.trans .same).trans (State.emit_kept ..)
  · rename_i y8 y9
    exact .refl _

theorem State.sendFirst_kept (s0) (q) : Kept s0 (State.sendFirst s0 q) := by
  unfold State.sendFirst
  refine Kept.ite ?_ ?_
  · exact State.sendHeld_kept ..
  · split
    · rename_i y1 y2
      exact .refl _
    · rename_i y3 y4 y5
      split
      rename_i y6 y7 y8 y9
      have h10 : Kept s0 y8 := KeptP.get y9 (State.readItem_kept ..)
      extract_lets +onlyGivenNames x11
      exact Kept.ite (h10.trans (State.abortTx_kept ..)) (h10.trans (State.sendItem_kept ..))

theorem execFrameTransmit_kept (ring) (busy) (s0) : KeptN s0 (execFrameTransmit ring busy s0) := by
  unfold execFrameTransmit
  refine KeptN.clocked ?_
  extract_lets +onlyGivenNames x1 x2
  have h3 : Kept s0 x2 := Kept.ite (State.contend_kept ..) ((State.contend_kept ..).trans (State.busy_kept ..))
  split
  · rename_i y4 y5 y6
    exact KeptN.ok (Kept.ite ((((h3.trans (State.advCcTo_kept ..)).trans (State.endBackoff_kept ..)).trans
        (State.sendFirst_kept ..)).trans (State.flow_kept ..)) h3)
  · rename_i y7 y8
    exact KeptN.ok h3

theorem execAckWaitTimeout_kept (dst) (s0) : KeptN s0 (execAckWaitTimeout dst s0) := by
  unfold execAckWaitTimeout
  refine KeptN.clocked ?_
  split
  · rename_i y1 y2
    exact KeptN.ok (.refl _)
  · rename_i y3 y4 y5
    refine Kept.ite ?_ ?_
    · exact KeptN.ok (.refl _)
    · extract_lets +onlyGivenNames x6
      have h7 : Kept s0 x6 := State.advCcTo_kept ..
      extract_lets +onlyGivenNames x8
      have h9 : Kept s0 x8 := (h7.trans (State.inc_kept ..)).trans (State.doubleCw_kept ..)
      extract_lets +onlyGivenNames x10 x11 x12
      have h13 : Kept s0 x12 := h9.trans .same
      extract_lets +onlyGivenNames x14
      exact KeptN.ok (Kept.ite ((h13.trans (State.deliveryFails_kept ..)).trans (State.flow_kept ..)) ((h13.trans
          (State.putOut_kept ..)).trans (State.contend_kept ..)))

theorem execRetryWaitExpiry_kept (dst) (s0) : KeptN s0 (execRetryWaitExpiry dst s0) := by
  unfold execRetryWaitExpiry
  refine KeptN.clocked ?_
  split
  · rename_i y1 y2
    exact KeptN.ok (.refl _)
  · rename_i y3 y4 y5
    exact Kept.ite (KeptN.ok (((State.advCcTo_kept ..).trans (State.putOut_kept ..)).trans (State.contend_kept ..)))
        (KeptN.ok (.refl _))

theorem State.completes_kept (s0) (o) (res) (adm) (retry) : Kept s0 (State.completes s0 o res adm retry) := by
  unfold State.completes
  extract_lets +onlyGivenNames x1
  have h2 : Kept s0 x1 := ((State.endOut_kept ..).trans (State.resetCw_kept ..)).trans (State.inc_kept ..)
  extract_lets +onlyGivenNames x3
  have h4 : Kept s0 x3 := (h2.trans (State.hostEnds_kept ..)).trans (State.rawEnds_kept ..)
  extract_lets +onlyGivenNames x5
  exact Kept.ite (h4.trans (State.manifestAcked_kept ..)) (Kept.ite (Kept.ite (h4.trans (State.handoverAcked_kept ..)) h4)
      (Kept.ite (h4.trans .same) (Kept.ite (h4.trans (State.snapAcked_kept ..)) h4)))

theorem execAck_kept (f) (s0) : KeptN s0 (execAck f s0) := by
  unfold execAck
  refine KeptN.clocked ?_
  refine Kept.ite ?_ ?_
  · exact KeptN.ok (.refl _)
  · extract_lets +onlyGivenNames x1
    have h2 : Kept s0 x1 := State.arrive_kept ..
    split
    · rename_i y3 y4 y5
      have h6 : Kept s0 y4 := KeptP.get y5 (KeptP.trans h2 (State.checkAuth_kept ..))
      exact KeptN.ok h6
    · rename_i y7 y8 y9
      have h10 : Kept s0 y8 := KeptP.get y9 (KeptP.trans h2 (State.checkAuth_kept ..))
      refine Kept.ite ?_ ?_
      · exact KeptN.ok (h10.trans (State.inc_kept ..))
      · split
        · rename_i y11 y12 y13
          refine Kept.ite ?_ ?_
          · exact KeptN.ok (h10.trans (State.inc_kept ..))
          · extract_lets +onlyGivenNames x14
            extract_lets +onlyGivenNames x15 x16
            have h17 : Kept s0 x16 := h10.trans (State.setFld_kept ..)
            extract_lets +onlyGivenNames x18 x19
            have h20 : Kept s0 x19 := h17.trans .same
            extract_lets +onlyGivenNames x21
            have h22 : Kept s0 x21 := h20.trans (State.chooseRateTo_kept ..)
            exact Kept.ite (KeptN.ok ((h22.trans (State.doubleCw_kept ..)).trans (State.putOut_kept ..))) (KeptN.ok
                ((h22.trans (State.completes_kept ..)).trans (State.flow_kept ..)))
        · rename_i y23 y24
          exact KeptN.ok (h10.trans (State.inc_kept ..))

theorem execEnergySenseIgnore_kept (noise) (s0) : KeptN s0 (execEnergySenseIgnore noise s0) := by
  unfold execEnergySenseIgnore
  refine KeptN.clocked ?_
  refine Kept.ite ?_ ?_
  · exact KeptN.ok (.refl _)
  · extract_lets +onlyGivenNames x1
    have h2 : Kept s0 x1 := State.advCcTo_kept ..
    extract_lets +onlyGivenNames x3 x4
    have h5 : Kept s0 x4 := h2.trans .same
    exact KeptN.ok (((h5.trans (State.setFlag_kept ..)).trans (State.inc_kept ..)).trans (State.setFld_kept ..))

theorem execEnergySenseRestore_kept (noise) (s0) : KeptN s0 (execEnergySenseRestore noise s0) := by
  unfold execEnergySenseRestore
  refine KeptN.clocked ?_
  split
  · rename_i y1 y2 y3
    refine Kept.ite ?_ ?_
    · extract_lets +onlyGivenNames x4
      have h5 : Kept s0 x4 := State.advCcTo_kept ..
      extract_lets +onlyGivenNames x6 x7
      have h8 : Kept s0 x7 := h5.trans .same
      exact KeptN.ok ((h8.trans (State.setFlag_kept ..)).trans (State.setFld_kept ..))
    · exact KeptN.ok (.refl _)
  · rename_i y9 y10
    exact KeptN.ok (.refl _)

theorem State.receive_kept {s0 s : State} {f : Frame} {c : Nat} {t : Option Nat} {g : State → State} (hs : Kept s0 s)
    (h : ∀ t, Kept s0 t → Kept s0 (g t)) : Kept s0 (s.receive f c t g) := by
  unfold State.receive
  refine Kept.ite hs ?_
  split
  · rename_i e
    have ht := KeptP.get e (KeptP.trans (hs.trans (State.arrive_kept ..)) (State.rxChecks_kept ..))
    exact (h _ ((ht.trans (State.accept_kept ..)).trans (State.pushRx_kept ..))).trans (State.flow_kept ..)
  · rename_i e
    exact KeptP.get e (KeptP.trans (hs.trans (State.arrive_kept ..)) (State.rxChecks_kept ..))

theorem State.traffic_kept (s0) : Kept s0 (State.traffic s0) := by
  unfold State.traffic
  exact (Kept.same)

theorem execWrite_kept (f) (s0) : KeptN s0 (execWrite f s0) := by
  unfold execWrite
  refine KeptN.clocked ?_
  refine KeptN.ok ?_
  refine State.receive_kept ?_ (fun a1 h2 => ?_)
  · exact .refl _
  · extract_lets +onlyGivenNames x3
    have h4 : Kept s0 x3 := h2.trans (State.traffic_kept ..)
    exact Kept.ite (h4.trans (State.wake_kept ..)) h4

theorem execRead_kept (f) (s0) : KeptN s0 (execRead f s0) := by
  unfold execRead
  exact KeptN.clocked (KeptN.ok (State.receive_kept (.refl _) (fun a1 h2 => h2.trans (State.traffic_kept ..))))

theorem execRdata_kept (f) (s0) : KeptN s0 (execRdata f s0) := by
  unfold execRdata
  refine KeptN.clocked ?_
  refine KeptN.ok ?_
  refine State.receive_kept ?_ (fun a1 h2 => ?_)
  · exact .refl _
  · unfold id
    exact h2

theorem execErr_kept (f) (s0) : KeptN s0 (execErr f s0) := by
  unfold execErr
  refine KeptN.clocked ?_
  refine KeptN.ok ?_
  refine State.receive_kept ?_ (fun a1 h2 => ?_)
  · exact .refl _
  · unfold id
    exact h2

theorem execOffset_kept (f) (s0) : KeptN s0 (execOffset f s0) := by
  unfold execOffset
  refine KeptN.clocked ?_
  refine KeptN.ok ?_
  refine State.receive_kept ?_ (fun a1 h2 => ?_)
  · exact .refl _
  · unfold id
    exact h2

theorem execProfile_kept (f) (s0) : KeptN s0 (execProfile f s0) := by
  unfold execProfile
  refine KeptN.clocked ?_
  refine KeptN.ok ?_
  refine State.receive_kept ?_ (fun a1 h2 => ?_)
  · exact .refl _
  · unfold id
    exact h2

theorem execPressure_kept (f) (s0) : KeptN s0 (execPressure f s0) := by
  unfold execPressure
  refine KeptN.clocked ?_
  refine KeptN.ok ?_
  refine State.receive_kept ?_ (fun a1 h2 => ?_)
  · exact .refl _
  · unfold id
    exact h2

theorem execRawrep_kept (f) (s0) : KeptN s0 (execRawrep f s0) := by
  unfold execRawrep
  refine KeptN.clocked ?_
  refine KeptN.ok ?_
  refine State.receive_kept ?_ (fun a1 h2 => ?_)
  · exact .refl _
  · unfold id
    exact h2

theorem execCf_kept (f) (s0) : KeptN s0 (execCf f s0) := by
  unfold execCf
  refine KeptN.clocked ?_
  refine KeptN.ok ?_
  refine State.receive_kept ?_ (fun a1 h2 => ?_)
  · exact .refl _
  · unfold id
    exact h2

theorem execHoldcmd_kept (f) (s0) : KeptN s0 (execHoldcmd f s0) := by
  unfold execHoldcmd
  exact KeptN.clocked (KeptN.ok (State.receive_kept (.refl _) (fun a1 h2 => Kept.ite (h2.trans (State.wake_kept ..)) h2)))

theorem execSnapshotRequest_kept (f) (s0) : KeptN s0 (execSnapshotRequest f s0) := by
  unfold execSnapshotRequest
  refine KeptN.clocked ?_
  refine KeptN.ok ?_
  refine State.receive_kept ?_ (fun a1 h2 => ?_)
  · exact .refl _
  · unfold id
    exact h2

theorem execSnapshotSegment_kept (f) (s0) : KeptN s0 (execSnapshotSegment f s0) := by
  unfold execSnapshotSegment
  refine KeptN.clocked ?_
  refine KeptN.ok ?_
  refine State.receive_kept ?_ (fun a1 h2 => ?_)
  · exact .refl _
  · unfold id
    exact h2

theorem execPush_kept (f) (s0) : KeptN s0 (execPush f s0) := by
  unfold execPush
  refine KeptN.clocked ?_
  refine Kept.ite ?_ ?_
  · exact KeptN.ok (.refl _)
  · split
    · rename_i y1 y2 y3
      have h4 : Kept s0 y2 := KeptP.get y3 (KeptP.trans (State.arrive_kept ..) (State.rxChecks_kept ..))
      extract_lets +onlyGivenNames x5 x6
      refine Kept.ite ?_ ?_
      · exact KeptN.ok ((h4.trans (State.traffic_kept ..)).trans (State.accept_kept ..))
      · split
        rename_i y7 y8 y9 y10 y11
        have h12 : Kept s0 y10 := KeptQ.get y11 (KeptQ.trans (h4.trans (State.traffic_kept ..)) (State.submit_kept ..))
        exact KeptN.ok (h12.trans (State.accept_kept ..))
    · rename_i y13 y14 y15 y16 y17
      have h18 : Kept s0 y15 := KeptP.get y17 (KeptP.trans (State.arrive_kept ..) (State.rxChecks_kept ..))
      exact KeptN.ok h18

theorem State.beaconTravel_kept (s0) (pl) (off) : Kept s0 (State.beaconTravel s0 pl off) := by
  unfold State.beaconTravel
  extract_lets +onlyGivenNames x1 x2 x3 x4 x5
  have h6 : Kept s0 x5 := (Kept.same)
  refine Kept.ite ?_ ?_
  · extract_lets +onlyGivenNames x7
    clear_value x3
    split
    · rename_i y8 y9
      exact h6.trans (State.correct_kept ..)
    · rename_i y10
      split
      · rename_i y11 y12 y13
        exact h6.trans (State.correct_kept ..)
      · rename_i y14 y15
        exact h6
  · exact h6

theorem State.beaconHeads_kept (s0) (e) (a) : Kept s0 (State.beaconHeads s0 e a) := by
  unfold State.beaconHeads
  extract_lets +onlyGivenNames x1
  have h2 : Kept s0 x1 := (State.setFld_kept ..).trans (State.storeEpoch_kept ..)
  extract_lets +onlyGivenNames x3 x4
  have h5 : Kept s0 x4 := Kept.ite (h2.trans .same) (.refl _)
  refine Kept.ite ?_ ?_
  · extract_lets +onlyGivenNames x6
    have h7 : Kept s0 x6 := Kept.ite (h5.trans (State.setFld_kept ..)) h5
    exact h7.trans (State.setFlag_kept ..)
  · exact h5.trans (State.maybeYield_kept ..)

theorem State.fence_kept (s0) (a) : Kept s0 (State.fence s0 a) := by
  unfold State.fence
  refine Kept.ite ?_ ?_
  · extract_lets +onlyGivenNames x1
    extract_lets +onlyGivenNames x2
    have h3 : Kept s0 x2 := (Kept.same)
    exact h3.trans (State.pushTx_kept ..)
  · exact .refl _

theorem State.beaconTime_kept (s0) (pl) (off) : Kept s0 (State.beaconTime s0 pl off) := by
  unfold State.beaconTime
  refine Kept.ite ?_ ?_
  · extract_lets +onlyGivenNames x1
    extract_lets +onlyGivenNames x2 x3
    have h4 : Kept s0 x3 := (Kept.same)
    exact Kept.ite (h4.trans (State.applyDue_kept ..)) h4
  · exact .refl _

theorem State.takeBeacon_kept (s0) (f) : Kept s0 (State.takeBeacon s0 f) := by
  unfold State.takeBeacon
  extract_lets +onlyGivenNames x1 x2 x3 x4
  refine Kept.ite ?_ ?_
  · exact (Kept.ite (State.inc_kept ..) (.refl _)).trans (State.fence_kept ..)
  · refine Kept.ite ?_ ?_
    · exact State.inc_kept ..
    · extract_lets +onlyGivenNames x5
      extract_lets +onlyGivenNames x6
      have h7 : Kept s0 x6 := State.setFld_kept ..
      extract_lets +onlyGivenNames x8 x9
      have h10 : Kept s0 x9 := h7.trans .same
      extract_lets +onlyGivenNames x11
      have h12 : Kept s0 x11 := h10.trans (State.beaconHeads_kept ..)
      extract_lets +onlyGivenNames x13 x14
      have h15 : Kept s0 x14 := h12.trans .same
      extract_lets +onlyGivenNames x16
      have h17 : Kept s0 x16 := Kept.ite ((h15.trans (State.setFld_kept ..)).trans (State.setFld_kept ..)) h15
      extract_lets +onlyGivenNames x18
      have h19 : Kept s0 x18 := Kept.ite h17 (h17.trans (State.beaconTravel_kept ..))
      exact h19.trans (State.beaconTime_kept ..)

theorem execBeacon_kept (f) (s0) : KeptN s0 (execBeacon f s0) := by
  unfold execBeacon
  refine KeptN.clocked ?_
  refine Kept.ite ?_ ?_
  · exact KeptN.ok (.refl _)
  · split
    · rename_i y1 y2 y3
      have h4 : Kept s0 y2 := KeptP.get y3 (KeptP.trans (State.arrive_kept ..) (State.rxChecks_kept ..))
      exact KeptN.ok (((h4.trans (State.accept_kept ..)).trans (State.takeBeacon_kept ..)).trans (State.flow_kept ..))
    · rename_i y5 y6 y7 y8 y9
      have h10 : Kept s0 y7 := KeptP.get y9 (KeptP.trans (State.arrive_kept ..) (State.rxChecks_kept ..))
      exact KeptN.ok h10

theorem State.sendBeacon_kept (s0) (g) : Kept s0 (State.sendBeacon s0 g) := by
  unfold State.sendBeacon
  extract_lets +onlyGivenNames x1
  have h2 : Kept s0 x1 := (State.busy_kept ..).trans (State.advCc_kept ..)
  extract_lets +onlyGivenNames x3
  extract_lets +onlyGivenNames x4
  have h5 : Kept s0 x4 := h2.trans (State.setFld_kept ..)
  extract_lets +onlyGivenNames x6
  exact h5.trans (State.emit_kept ..)

theorem execBeaconTransmit_kept (wait) (s0) : KeptN s0 (execBeaconTransmit wait s0) := by
  unfold execBeaconTransmit
  refine KeptN.clocked ?_
  refine Kept.ite ?_ ?_
  · exact KeptN.ok (.refl _)
  · extract_lets +onlyGivenNames x1
    have h2 : Kept s0 x1 := State.takeInstant_kept ..
    extract_lets +onlyGivenNames x3 x4
    have h5 : Kept s0 x4 := Kept.ite h2 (h2.trans (State.busy_kept ..))
    extract_lets +onlyGivenNames x6
    have h7 : Kept s0 x6 := h5.trans (State.advCcTo_kept ..)
    refine Kept.ite ?_ ?_
    · exact KeptN.ok h7
    · extract_lets +onlyGivenNames x8
      have h9 : Kept s0 x8 := by
        unfold x8
        split
        · rename_i y10 y11 y12 y13
          exact h7.trans (State.sendBeacon_kept ..)
        · rename_i y14 y15
          exact h7
      exact Kept.ite (KeptN.ok ((h9.trans .same).trans (State.drawGroup_kept ..))) (KeptN.ok h9)

theorem execPressureBroadcast_kept (s0) : KeptN s0 (execPressureBroadcast s0) := by
  unfold execPressureBroadcast
  refine KeptN.clocked ?_
  refine Kept.ite ?_ ?_
  · exact KeptN.ok (.refl _)
  · extract_lets +onlyGivenNames x1
    have h2 : Kept s0 x1 := State.takeInstant_kept ..
    exact Kept.ite (KeptN.ok (h2.trans (State.pushTx_kept ..))) (KeptN.ok h2)

theorem State.writeHcmd_kept (s0) (v) : Kept s0 (State.writeHcmd s0 v) := by
  unfold State.writeHcmd
  extract_lets +onlyGivenNames x1
  have h2 : Kept s0 x1 := ((State.setFld_kept ..).trans (State.setFld_kept ..)).trans (State.setFld_kept ..)
  refine Kept.ite ?_ ?_
  · exact h2
  · extract_lets +onlyGivenNames x3 x4 x5 x6 x7
    refine Kept.ite ?_ ?_
    · unfold x6
      exact ((h2.trans (State.setFld_kept ..)).trans (State.setFld_kept ..)).trans (State.setFld_kept ..)
    · refine Kept.ite ?_ ?_
      · unfold x6
        exact ((h2.trans (State.setFld_kept ..)).trans (State.setFld_kept ..)).trans (State.setFld_kept ..)
      · exact (h2.trans (State.setFlag_kept ..)).trans (State.offerTx_kept ..)

theorem State.answerCertreq_kept (s0) (chal) : Kept s0 (State.answerCertreq s0 chal) := by
  unfold State.answerCertreq
  extract_lets +onlyGivenNames x1
  extract_lets +onlyGivenNames x2
  extract_lets +onlyGivenNames x3
  have h4 : Kept s0 x3 := by
    unfold x3
    refine Kept.foldl ?_ (fun a6 x7 h5 => ?_)
    · exact .refl _
    · unfold x2
      exact h5.trans .same
  extract_lets +onlyGivenNames x8
  unfold x2
  exact h4.trans .same

theorem execCertreq_kept (f) (s0) : KeptN s0 (execCertreq f s0) := by
  unfold execCertreq
  refine KeptN.clocked ?_
  refine Kept.ite ?_ ?_
  · exact KeptN.ok (.refl _)
  · extract_lets +onlyGivenNames x1
    have h2 : Kept s0 x1 := State.arrive_kept ..
    refine Kept.ite ?_ ?_
    · exact KeptN.ok h2
    · refine Kept.ite ?_ ?_
      · exact KeptN.ok (h2.trans (State.crcErr_kept ..))
      · refine Kept.ite ?_ ?_
        · exact KeptN.ok (h2.trans (State.forger_kept ..))
        · refine Kept.ite ?_ ?_
          · exact KeptN.ok (h2.trans (State.formErr_kept ..))
          · refine Kept.ite ?_ ?_
            · extract_lets +onlyGivenNames x3
              extract_lets +onlyGivenNames x4
              have h5 : Kept s0 x4 := h2.trans .same
              exact KeptN.ok ((h5.trans (State.answerCertreq_kept ..)).trans (State.contend_kept ..))
            · exact KeptN.ok h2

theorem State.receiveEnr_kept (s0) (f) (t) : Kept s0 (State.receiveEnr s0 f t) := by
  unfold State.receiveEnr
  refine Kept.ite ?_ ?_
  · exact .refl _
  · extract_lets +onlyGivenNames x1
    have h2 : Kept s0 x1 := State.arrive_kept ..
    exact Kept.ite h2 (Kept.ite (h2.trans (State.crcErr_kept ..)) (Kept.ite (h2.trans (State.forger_kept ..)) (Kept.ite
        (h2.trans (State.formErr_kept ..)) (Kept.ite h2 (Kept.ite (Kept.ite (h2.trans (State.pushRx_kept ..)) h2) (h2.trans
        (State.takeEnr_kept ..)))))))

theorem execCertseg_kept (f) (s0) : KeptN s0 (execCertseg f s0) := by
  unfold execCertseg
  exact KeptN.clocked (KeptN.ok (State.receiveEnr_kept ..))

theorem execProof_kept (f) (s0) : KeptN s0 (execProof f s0) := by
  unfold execProof
  exact KeptN.clocked (KeptN.ok (State.receiveEnr_kept ..))

theorem execHeldBootBandSwitch_kept (s0) : KeptN s0 (execHeldBootBandSwitch s0) := by
  unfold execHeldBootBandSwitch
  refine KeptN.clocked ?_
  refine Kept.ite ?_ ?_
  · exact KeptN.ok (.refl _)
  · extract_lets +onlyGivenNames x1
    have h2 : Kept s0 x1 := by
      unfold x1
      split
      · rename_i y3 y4 y5
        exact State.advCcTo_kept ..
      · rename_i y6 y7
        exact State.advCcTo_kept ..
    exact KeptN.ok (h2.trans .same)

theorem execFrameCheckFailure_kept (fc) (crc) (f) (s0) : KeptN s0 (execFrameCheckFailure fc crc f s0) := by
  unfold execFrameCheckFailure
  refine KeptN.clocked ?_
  extract_lets +onlyGivenNames x1
  have h2 : Kept s0 x1 := .refl _
  extract_lets +onlyGivenNames x3
  have h4 : Kept s0 x3 := State.arrive_kept ..
  refine Kept.ite ?_ ?_
  · exact KeptN.ok h2
  · refine Kept.ite ?_ ?_
    · exact KeptN.ok (h4.trans (State.inc_kept ..))
    · refine Kept.ite ?_ ?_
      · exact KeptN.ok (h4.trans (State.crcErr_kept ..))
      · refine Kept.ite ?_ ?_
        · exact Kept.ite (KeptN.ok (h4.trans (State.forger_kept ..))) (Kept.ite (KeptN.ok (h4.trans (State.formErr_kept
              ..))) (KeptN.ok h2))
        · refine Kept.ite ?_ ?_
          · split
            · rename_i y5 y6 y7
              have h8 : Kept s0 y6 := KeptP.get y7 (KeptP.trans h4 (State.kxSender_kept ..))
              exact KeptN.ok h8
            · rename_i y9 y10 y11 y12
              have h13 : Kept s0 y11 := KeptP.get y12 (KeptP.trans h4 (State.kxSender_kept ..))
              exact Kept.ite (KeptN.ok (h13.trans (State.forger_kept ..))) (Kept.ite (KeptN.ok (h13.trans
                  (State.formErr_kept ..))) (KeptN.ok h2))
          · split
            · rename_i y14 y15 y16
              have h17 : Kept s0 y15 := KeptP.get y16 (KeptP.trans h4 (State.rxChecks_kept ..))
              exact KeptN.ok h2
            · rename_i y18 y19 y20 y21 y22
              have h23 : Kept s0 y20 := KeptP.get y22 (KeptP.trans h4 (State.rxChecks_kept ..))
              exact KeptN.ok h23

end Sys2Proof.Machine
end

