-- ==== Sys2Proof/Laws/KeptReset.lean ====
section
/-! SUPPORT. `Kept` holds of the operations of `Machine/Reset.lean`. -/

set_option Elab.async false

namespace Sys2Proof.Machine

open Sys2Proof

theorem State.writeStores_kept (s0) : Kept s0 (State.writeStores s0) := by
  unfold State.writeStores
  exact Kept.foldl (s0.dropStores_kept _ _) fun t g h => Kept.foldl h fun t' p h' => h'.trans (State.setMemWord_kept ..)

theorem State.keepRegs_kept (s t : State) : Kept t (s.keepRegs t) := by
  unfold State.keepRegs
  refine ((Kept.foldl (.refl t) fun u n h => ?_).trans (State.setFlag_kept ..)).trans (State.setFld_kept ..)
  exact (((h.trans (State.setFld_kept ..)).trans (State.setFld_kept ..)).trans (State.setFld_kept ..)).trans (State.setFld_kept ..)

theorem State.bootStep_kept (s0) (k) : Kept s0 (State.bootStep s0 k) := by
  unfold State.bootStep
  extract_lets +onlyGivenNames x1
  have h2 : Kept s0 x1 := State.setFld_kept ..
  exact h2.trans .same

theorem State.beginIdent_kept (s0) : Kept s0 (State.beginIdent s0) := by
  unfold State.beginIdent
  extract_lets +onlyGivenNames x1
  have h2 : Kept s0 x1 := State.bootStep_kept ..
  split
  · rename_i y3 y4 y5
    exact ((h2.trans (State.setFlag_kept ..)).trans (State.setFld_kept ..)).trans (State.setFld_kept ..)
  · rename_i y6 y7
    exact h2

theorem State.tearPort_kept (s0) : Kept s0 (State.tearPort s0) := by
  unfold State.tearPort
  extract_lets +onlyGivenNames x1
  have h2 : Kept s0 x1 := State.tearCommit_kept ..
  split
  · rename_i y3 y4 y5
    exact Kept.ite (h2.trans (State.flashTornProgram_kept ..)) h2
  · rename_i y6 y7
    exact h2

theorem State.fresh_kept (s : State) (key : KeySt) (led : LedSt) :
    Kept s { flash := s.flash, free := s.free, pending := s.pending, key := key, led := led } := by
  refine ⟨rfl, fun h => ?_⟩
  rw [State.canonical_iff] at h ⊢
  exact ⟨rfl, rfl, h.2.2.1, rfl, Nat.two_pow_pos 39⟩

theorem State.memFrom_kept {s t : State} (q : Nat × Nat → Bool) (spent : List Rec) (h : Kept s t) :
    Kept s { t with mem := s.mem, chk := s.chk.filter q, spent := spent } := by
  refine ⟨h.1, fun hc => ?_⟩
  have ht := h.2 hc
  rw [State.canonical_iff] at hc ht ⊢
  exact ⟨hc.1, spWf_filter _ _ _ hc.2.1, ht.2.2⟩

theorem State.resetTo_kept (s0) (src) : Kept s0 (State.resetTo s0 src) := by
  unfold State.resetTo
  extract_lets +onlyGivenNames x1
  have h1 : Kept s0 x1 := State.tearPort_kept ..
  refine h1.trans ?_
  extract_lets +onlyGivenNames x2 x3 x4
  have h4 : Kept x1 x4 := x1.fresh_kept _ _
  extract_lets +onlyGivenNames x5
  have h5 : Kept x1 x5 := h4.trans .same
  extract_lets +onlyGivenNames x6
  have h6 : Kept x1 x6 := Kept.ite h4 (h5.trans (State.keepRegs_kept ..))
  extract_lets +onlyGivenNames x7
  have h7 : Kept x1 x7 := h6.trans (State.setFld_kept ..)
  extract_lets +onlyGivenNames x8
  have h8 : Kept x1 x8 := h7.trans .same
  refine Kept.ite h8 ?_
  exact ((State.memFrom_kept _ _ h8).trans (State.writeStores_kept ..)).trans (State.beginIdent_kept ..)

theorem execPowerOnReset_kept (s0) : KeptN s0 (execPowerOnReset s0) := by
  unfold execPowerOnReset
  exact KeptN.ok (State.resetTo_kept ..)

theorem execBrownoutReset_kept (s0) : KeptN s0 (execBrownoutReset s0) := by
  unfold execBrownoutReset
  exact KeptN.ok (State.resetTo_kept ..)

theorem execExternalReset_kept (s0) : KeptN s0 (execExternalReset s0) := by
  unfold execExternalReset
  exact KeptN.ok (State.resetTo_kept ..)

theorem execWatchdogReset_kept (s0) : KeptN s0 (execWatchdogReset s0) := by
  unfold execWatchdogReset
  exact KeptN.ok (State.resetTo_kept ..)

theorem execClockFailureReset_kept (s0) : KeptN s0 (execClockFailureReset s0) := by
  unfold execClockFailureReset
  exact KeptN.ok (State.resetTo_kept ..)

theorem execClockRecovery_kept (s0) : KeptN s0 (execClockRecovery s0) := by
  unfold execClockRecovery
  exact Kept.ite (KeptN.ok ((Kept.same))) (KeptN.ok (.refl _))

theorem State.holdBoot_kept (s0) (why) : Kept s0 (State.holdBoot s0 why) := by
  unfold State.holdBoot
  extract_lets +onlyGivenNames x1
  have h2 : Kept s0 x1 := ((State.setFld_kept ..).trans (State.setFld_kept ..)).trans (State.setFlag_kept ..)
  exact (h2.trans .same).trans (State.nextJob_kept ..)

theorem execMarchTestComplete_kept (rows) (bytes) (s0) : KeptN s0 (execMarchTestComplete rows bytes s0) := by
  unfold execMarchTestComplete
  refine KeptN.clocked ?_
  refine Kept.ite ?_ ?_
  · exact KeptN.ok (.refl _)
  · extract_lets +onlyGivenNames x1
    have h2 : Kept s0 x1 := State.advCcTo_kept ..
    extract_lets +onlyGivenNames x3 x4
    have h5 : Kept s0 x4 := h2.trans .same
    extract_lets +onlyGivenNames x6
    have h7 : Kept s0 x6 := (h5.trans (State.setFlag_kept ..)).trans (State.writeStores_kept ..)
    extract_lets +onlyGivenNames x8 x9 x10
    refine Kept.ite ?_ ?_
    · exact KeptN.ok (h7.trans (State.beginIdent_kept ..))
    · split
      rename_i y11 y12 y13 y14
      have h15 : Kept s0 y13 := KeptP.get y14 (Kept.ite (KeptP.trans h7 (State.draw_kept ..)) (KeptP.mk h7))
      extract_lets +onlyGivenNames x16
      have h17 : Kept s0 x16 := (h15.trans (State.setFlag_kept ..)).trans (State.setFld_kept ..)
      extract_lets +onlyGivenNames x18
      have h19 : Kept s0 x18 := (h17.trans (State.setFlag_kept ..)).trans (State.setFld_kept ..)
      exact KeptN.ok ((h19.trans (State.report_kept ..)).trans (State.holdBoot_kept ..))

theorem execFlashIdentification_kept (id) (s0) : KeptN s0 (execFlashIdentification id s0) := by
  unfold execFlashIdentification
  refine KeptN.clocked ?_
  refine Kept.ite ?_ ?_
  · exact KeptN.ok (.refl _)
  · extract_lets +onlyGivenNames x1
    have h2 : Kept s0 x1 := (State.advCc_kept ..).trans (State.inc_kept ..)
    extract_lets +onlyGivenNames x3
    have h4 : Kept s0 x3 := h2.trans (State.setFld_kept ..)
    extract_lets +onlyGivenNames x5
    exact Kept.ite (KeptN.ok (h4.trans (State.holdBoot_kept ..))) (Kept.ite (KeptN.ok (h4.trans (State.holdBoot_kept ..)))
        (KeptN.ok (h4.trans (State.bootStep_kept ..))))

end Sys2Proof.Machine
end

