-- ==== Sys2Proof/Laws/KeptHostIo.lean ====
section
/-! SUPPORT. `Kept` holds of the operations of `Machine/HostIo.lean`. -/

set_option Elab.async false

namespace Sys2Proof.Machine

open Sys2Proof

theorem State.writeWindow_kept (s0) (a) (v) : KeptP s0 (State.writeWindow s0 a v) := by
  unfold State.writeWindow
  refine Kept.ite ?_ ?_
  · extract_lets +onlyGivenNames x1
    exact Kept.ite (KeptP.mk (State.sramWrite_kept ..)) (KeptP.mk ((State.raise_kept ..).trans (State.inc_kept ..)))
  · exact Kept.ite (KeptP.mk (State.sramWrite_kept ..)) (KeptP.mk (.refl _))

theorem State.writeQueueCtl_kept (s0) (q) (v) : Kept s0 (State.writeQueueCtl s0 q v) := by
  unfold State.writeQueueCtl
  extract_lets +onlyGivenNames x1 x2 x3
  have h4 : Kept s0 x3 := State.setFlag_kept ..
  refine Kept.ite ?_ ?_
  · exact Kept.ite (((h4.trans (State.setFld_kept ..)).trans (State.dropPartials_kept ..)).trans (State.raise_kept ..)) h4
  · extract_lets +onlyGivenNames x5
    extract_lets +onlyGivenNames x6
    have h7 : Kept s0 x6 := Kept.ite (h4.trans (State.setQueue_kept ..)) (Kept.ite (h4.trans (State.setQueue_kept ..)) h4)
    exact Kept.ite (h7.trans (State.flush_kept ..)) (h7.trans (State.flow_kept ..))

theorem State.writeQueueCfg_kept (s0) (q) (v) : Kept s0 (State.writeQueueCfg s0 q v) := by
  unfold State.writeQueueCfg
  extract_lets +onlyGivenNames x1
  extract_lets +onlyGivenNames x2
  exact State.setReg_kept ..

theorem State.writeChannelCfg_kept (s0) (w) (n) (v) : KeptP s0 (State.writeChannelCfg s0 w n v) := by
  unfold State.writeChannelCfg
  extract_lets +onlyGivenNames x1 x2
  refine Kept.ite ?_ ?_
  · exact KeptP.mk (State.setReg_kept ..)
  · refine Kept.ite ?_ ?_
    · exact KeptP.mk (State.setReg_kept ..)
    · extract_lets +onlyGivenNames x3
      exact Kept.ite (KeptP.mk (State.setReg_kept ..)) (KeptP.mk ((State.setReg_kept ..).trans (State.raise_kept ..)))

theorem State.writeLearn_kept (s0) (n) (v) : Kept s0 (State.writeLearn s0 n v) := by
  unfold State.writeLearn
  extract_lets +onlyGivenNames x1
  extract_lets +onlyGivenNames x2
  have h3 : Kept s0 x2 := State.setReg_kept ..
  extract_lets +onlyGivenNames x4
  extract_lets +onlyGivenNames x5
  have h6 : Kept s0 x5 := Kept.ite h3 (((h3.trans (State.modValve_kept ..)).trans (State.setFld_kept ..)).trans
      (State.judgeBand_kept ..))
  exact Kept.ite h6 (((h6.trans (State.modValve_kept ..)).trans (State.setFld_kept ..)).trans (State.judgeBand_kept ..))

theorem State.writeEncCfg_kept (s0) (n) (v) : Kept s0 (State.writeEncCfg s0 n v) := by
  unfold State.writeEncCfg
  extract_lets +onlyGivenNames x1
  have h2 : Kept s0 x1 := State.setReg_kept ..
  exact Kept.ite ((h2.trans (State.setFlag_kept ..)).trans (State.setEnc_kept ..)) h2

theorem State.writeSourceCfg_kept (s0) (w) (k) (v) : KeptP s0 (State.writeSourceCfg s0 w k v) := by
  unfold State.writeSourceCfg
  extract_lets +onlyGivenNames x1
  extract_lets +onlyGivenNames x2
  exact Kept.ite (KeptP.mk ((State.setReg_kept ..).trans (State.raise_kept ..))) (KeptP.mk (State.setReg_kept ..))

theorem State.probe_kept {s0 s : State} {f : Fld} {op : State → State} (hs : Kept s0 s)
    (h : ∀ t, Kept s0 t → Kept s0 (op t)) : KeptP s0 (s.probe f op) := by
  unfold State.probe
  have ht := h _ (hs.trans (s.setFlag_kept f false))
  exact Kept.ite (P := KeptP s0) (KeptP.mk ht) (KeptP.mk (ht.trans (State.setFlag_kept ..)))

theorem State.writeGnssCfg_kept (s0) (v) : Kept s0 (State.writeGnssCfg s0 v) := by
  unfold State.writeGnssCfg
  extract_lets +onlyGivenNames x1
  extract_lets +onlyGivenNames x2
  have h3 : Kept s0 x2 := State.setReg_kept ..
  exact Kept.ite (h3.trans (State.gnssOff_kept ..)) h3

theorem State.writeBias_kept (s0) (v) : Kept s0 (State.writeBias s0 v) := by
  unfold State.writeBias
  extract_lets +onlyGivenNames x1
  exact Kept.ite (.refl _) ((State.setFld_kept ..).trans (State.correct_kept ..))

theorem State.writeDual_kept (s0) (m) (v) : Kept s0 (State.writeDual s0 m v) := by
  unfold State.writeDual
  extract_lets +onlyGivenNames x1
  extract_lets +onlyGivenNames x2
  extract_lets +onlyGivenNames x3
  have h4 : Kept s0 x3 := State.setReg_kept ..
  exact Kept.ite h4 (h4.trans .same)

theorem State.writeModCmd_kept (s0) (v) : Kept s0 (State.writeModCmd s0 v) := by
  unfold State.writeModCmd
  extract_lets +onlyGivenNames x1
  exact Kept.ite (Kept.ite (.refl _) (((Kept.same)).trans (State.wake_kept ..))) ((Kept.same))

theorem State.beginDesc_kept (s0) (n) (v2) (stop) : Kept s0 (State.beginDesc s0 n v2 stop) := by
  unfold State.beginDesc
  extract_lets +onlyGivenNames x1
  have h2 : Kept s0 x1 := (State.setFld_kept ..).trans (State.setFld_kept ..)
  extract_lets +onlyGivenNames x3
  exact (h2.trans (State.setMov_kept ..)).trans (State.nextJob_kept ..)

theorem State.writeMovCtl_kept (s0) (n) (v) : KeptP s0 (State.writeMovCtl s0 n v) := by
  unfold State.writeMovCtl
  extract_lets +onlyGivenNames x1
  extract_lets +onlyGivenNames x2
  extract_lets +onlyGivenNames x3
  have h4 : Kept s0 x3 := Kept.ite (.refl _) (Kept.ite (State.raise_kept ..) ((State.setFld_kept ..).trans
      (State.beginDesc_kept ..)))
  extract_lets +onlyGivenNames x5
  extract_lets +onlyGivenNames x6
  have h7 : Kept s0 x6 := Kept.ite (h4.trans (State.setMov_kept ..)) h4
  exact KeptP.mk h7

theorem State.writeMovWord_kept (s0) (n) (a) (v) : KeptP s0 (State.writeMovWord s0 n a v) := by
  unfold State.writeMovWord
  exact Kept.ite (KeptP.mk (State.raise_kept ..)) (KeptP.mk (State.setReg_kept ..))

theorem State.writeDiag_kept (s0) (v) : KeptP s0 (State.writeDiag s0 v) := by
  unfold State.writeDiag
  extract_lets +onlyGivenNames x1 x2 x3
  refine Kept.ite ?_ ?_
  · exact KeptP.mk (.refl _)
  · refine Kept.ite ?_ ?_
    · exact KeptP.mk (State.raise_kept ..)
    · extract_lets +onlyGivenNames x4
      extract_lets +onlyGivenNames x5
      have h6 : Kept s0 x5 := Kept.ite (State.sramPut_kept ..) (.refl _)
      extract_lets +onlyGivenNames x7
      have h8 : Kept s0 x7 := by
        unfold x7
        refine Kept.ite ?_ ?_
        · split
          rename_i y9 y10 y11 y12
          exact ((h6.trans (State.update_kept ..)).trans (State.update_kept ..)).trans (State.update_kept ..)
        · exact h6
      exact KeptP.mk h8

theorem State.writeRaw_kept (s0) (v) : KeptP s0 (State.writeRaw s0 v) := by
  unfold State.writeRaw
  refine Kept.ite ?_ ?_
  · exact KeptP.mk (.refl _)
  · extract_lets +onlyGivenNames x1
    exact Kept.ite (KeptP.mk ((State.raise_kept ..).trans (State.setFld_kept ..))) (KeptP.mk ((State.setFlag_kept ..).trans
        (State.nextJob_kept ..)))

theorem State.writeReg_kept (s0) (p) (r) (a) (v) (x) : KeptP s0 (State.writeReg s0 p r a v x) := by
  unfold State.writeReg
  extract_lets +onlyGivenNames x1 x2
  split
  · rename_i y3 y4
    exact State.probe_kept (.refl _) (fun a5 h6 => h6.trans (State.writeHandover_kept ..))
  · rename_i y7 y8
    unfold x2
    exact KeptP.mk (State.writeModCmd_kept ..)
  · rename_i y9 y10
    refine Kept.ite ?_ ?_
    · unfold x2
      exact KeptP.mk (State.resetTo_kept ..)
    · unfold x2
      exact KeptP.mk (.refl _)
  · rename_i y11 y12
    unfold x2
    exact KeptP.mk ((Kept.same))
  · rename_i y13 y14
    exact State.writeSourceCfg_kept ..
  · rename_i y15 y16
    unfold x2
    exact KeptP.mk (Kept.ite ((State.setReg_kept ..).trans (State.setFld_kept ..)) (State.setReg_kept ..))
  · rename_i y17 y18
    unfold x2
    refine KeptP.mk ?_
    extract_lets +onlyGivenNames x19
    have h20 : Kept s0 x19 := State.setReg_kept ..
    exact h20.trans .same
  · rename_i y21 y22
    unfold x2
    exact KeptP.mk (State.writeEncCfg_kept ..)
  · rename_i y23 y24
    unfold x2
    exact KeptP.mk (State.newOffset_kept ..)
  · rename_i y25 y26
    unfold x2
    exact KeptP.mk (State.writeBias_kept ..)
  · rename_i y27 y28
    unfold x2
    exact KeptP.mk (State.writeDual_kept ..)
  · rename_i y29 y30
    unfold x2
    exact KeptP.mk (State.writeMap_kept ..)
  · rename_i y31 y32
    unfold x2
    exact KeptP.mk (State.pushStart_kept ..)
  · rename_i y33 y34
    unfold x2
    exact KeptP.mk (State.pushCont_kept ..)
  · rename_i y35 y36
    unfold x2
    exact KeptP.mk (State.writeQueueCfg_kept ..)
  · rename_i y37 y38
    unfold x2
    exact KeptP.mk (State.writeQueueCtl_kept ..)
  · rename_i y39 y40
    exact State.writeChannelCfg_kept ..
  · rename_i y41 y42
    unfold x2
    exact KeptP.mk (Kept.ite (State.safeClr_kept ..) (.refl _))
  · rename_i y43 y44
    unfold x2
    exact KeptP.mk (State.writeLearn_kept ..)
  · rename_i y45 y46
    unfold x2
    exact KeptP.mk (((State.setReg_kept ..).trans (State.judgeBand_kept ..)).trans (State.judgeBand_kept ..))
  · rename_i y47 y48
    exact State.probe_kept (.refl _) (fun a49 h50 => h50.trans (State.writeStageCfg_kept ..))
  · rename_i y51 y52
    exact State.probe_kept (.refl _) (fun a53 h54 => h54.trans (State.writeGuarded_kept ..))
  · rename_i y55 y56
    exact State.probe_kept (.refl _) (fun a57 h58 => h58.trans (State.writeGuarded_kept ..))
  · rename_i y59 y60
    unfold x2
    exact KeptP.mk (State.writeTraceCtl_kept ..)
  · rename_i y61 y62
    exact State.probe_kept (.refl _) (fun a63 h64 => h64.trans (State.writeInjCtl_kept ..))
  · rename_i y65 y66
    unfold x2
    exact KeptP.mk (State.writeGnssCfg_kept ..)
  · rename_i y67 y68
    unfold x2
    exact KeptP.mk (Kept.ite (State.setGnb_kept ..) (.refl _))
  · rename_i y69 y70
    unfold x2
    exact KeptP.mk (State.writeSnapReq_kept ..)
  · rename_i y71 y72
    unfold x2
    exact KeptP.mk (State.setReg_kept ..)
  · rename_i y73 y74
    unfold x2
    exact KeptP.mk (State.writeHcmd_kept ..)
  · rename_i y75 y76
    exact State.writeMovCtl_kept ..
  · rename_i y77 y78
    exact State.writeMovWord_kept ..
  · rename_i y79 y80
    exact State.writeMovWord_kept ..
  · rename_i y81 y82
    exact State.writeMovWord_kept ..
  · rename_i y83 y84
    exact State.writeMovWord_kept ..
  · rename_i y85 y86
    exact State.writeDiag_kept ..
  · rename_i y87 y88
    exact KeptP.trans (State.setReg_kept ..) (State.writeRaw_kept ..)
  · rename_i y89 y90
    unfold x2
    exact KeptP.mk (Kept.ite (State.trigger_kept ..) (.refl _))
  · rename_i y91 y92
    unfold x2
    exact KeptP.mk ((State.sramWrite_kept ..).trans (State.trigger_kept ..))
  · rename_i y93 y94
    extract_lets +onlyGivenNames x95
    have h96 : Kept s0 x95 := State.setReg_kept ..
    unfold x2
    exact KeptP.mk (((Kept.ite (h96.trans (State.setFlag_kept ..)) h96).trans (State.trigger_kept ..)).trans
        (State.judgeMachine_kept ..))
  · rename_i y97 y98
    unfold x2
    exact KeptP.mk (State.writeKeyCmd_kept ..)
  · rename_i y99 y100 y101 y102 y103 y104 y105 y106 y107 y108 y109 y110 y111 y112 y113 y114 y115 y116 y117 y118 y119 y120
        y121 y122 y123 y124 y125 y126 y127 y128 y129 y130 y131 y132 y133 y134 y135 y136 y137 y138 y139 y140
    unfold x2
    exact KeptP.mk (Kept.ite (State.sramWrite_kept ..) (State.setReg_kept ..))

theorem State.hostWrite_kept (s0) (p) (a) (v) : KeptP s0 (State.hostWrite s0 p a v) := by
  unfold State.hostWrite
  refine Kept.ite ?_ ?_
  · exact KeptP.mk (.refl _)
  · split
    · rename_i y1 y2 y3
      refine Kept.ite ?_ ?_
      · exact KeptP.mk (.refl _)
      · extract_lets +onlyGivenNames x4
        have h5 : Kept s0 x4 := Kept.ite (Kept.foldl (.refl _) (fun a7 x8 h6 => h6.trans (State.settle_kept ..))) (.refl _)
        extract_lets +onlyGivenNames x9 x10 x11 x12
        have h13 : Kept s0 x12 := Kept.ite h5 (h5.trans (State.setReg_kept ..))
        split
        rename_i y14 y15 y16 y17
        have h18 : Kept s0 y16 := KeptP.get y17 (KeptP.trans h13 (State.writeReg_kept ..))
        exact KeptP.mk (Kept.ite (h18.trans (State.completed_kept ..)) h18)
    · rename_i y19 y20
      refine Kept.ite ?_ ?_
      · split
        rename_i y21 y22 y23 y24
        have h25 : Kept s0 y23 := KeptP.get y24 (State.writeWindow_kept ..)
        exact KeptP.mk (Kept.ite (h25.trans (State.completed_kept ..)) h25)
      · exact KeptP.mk (State.addrFault_kept ..)

theorem State.write_kept (s0) (p) (a) (v) : Kept s0 (State.write s0 p a v) := by
  unfold State.write
  exact State.hostWrite_kept ..

theorem State.popWord_kept (s0) (q) (req) : KeptP s0 (State.popWord s0 q req) := by
  unfold State.popWord
  split
  · rename_i y1 y2
    exact KeptP.mk (.refl _)
  · rename_i y3 y4 y5 y6
    extract_lets +onlyGivenNames x7
    split
    · rename_i y8 y9
      exact KeptP.mk ((State.release_kept ..).trans (State.setQueue_kept ..))
    · rename_i y10 y11 y12
      split
      rename_i y13 y14 y15 y16 y17
      have h18 : Kept s0 y16 := KeptQ.get y17 (State.sramRead_kept ..)
      refine Kept.ite ?_ ?_
      · extract_lets +onlyGivenNames x19
        have h20 : Kept s0 x19 := h18.trans (State.release_kept ..)
        exact KeptP.mk ((h20.trans (State.setQueue_kept ..)).trans (State.flow_kept ..))
      · exact KeptP.mk (h18.trans (State.setQueue_kept ..))

theorem State.hostRead_kept (s0) (p) (a) : KeptR s0 (State.hostRead s0 p a) := by
  unfold State.hostRead
  refine Kept.ite ?_ ?_
  · exact KeptR.mk (.refl _)
  · split
    · rename_i y1 y2 y3
      extract_lets +onlyGivenNames x4
      have h5 : Kept s0 x4 := Kept.ite (State.settleAll_kept ..) (.refl _)
      refine Kept.ite ?_ ?_
      · split
        rename_i y6 y7 y8 y9 y10
        have h11 : Kept s0 y9 := KeptQ.get y10 (KeptQ.trans h5 (State.sramRead_kept ..))
        exact KeptR.mk h11
      · split
        · rename_i y12 y13
          extract_lets +onlyGivenNames x14
          refine Kept.ite ?_ ?_
          · split
            · rename_i y15 y16 y17 y18 y19
              have h20 : Kept s0 y18 := KeptP.get y19 (KeptP.trans h5 (State.popWord_kept ..))
              exact KeptR.mk h20
            · rename_i y21 y22 y23
              have h24 : Kept s0 y22 := KeptP.get y23 (KeptP.trans h5 (State.popWord_kept ..))
              exact KeptR.mk h24
          · exact KeptR.mk h5
        · rename_i y25 y26
          split
          rename_i y27 y28 y29 y30
          have h31 : Kept s0 y29 := KeptP.get y30 (KeptP.trans h5 (State.readLedger_kept ..))
          exact KeptR.mk h31
        · rename_i y32 y33
          exact KeptR.mk (h5.trans (State.update_kept ..))
        · rename_i y34 y35 y36 y37
          exact KeptR.mk h5
    · rename_i y38 y39
      refine Kept.ite ?_ ?_
      · split
        rename_i y40 y41 y42 y43 y44
        have h45 : Kept s0 y43 := KeptQ.get y44 (State.sramRead_kept ..)
        exact KeptR.mk h45
      · exact KeptR.mk (State.addrFault_kept ..)

theorem State.readBy_kept (s0) (p) (a) : Kept s0 (State.readBy s0 p a) := by
  unfold State.readBy
  split
  rename_i y1 y2 y3 y4 y5 y6
  have h7 : Kept s0 y5 := KeptR.get y6 (State.hostRead_kept ..)
  exact Kept.ite (h7.trans (State.raise_kept ..)) h7

end Sys2Proof.Machine
end

