-- ==== Sys2Proof/Laws/KeptImage.lean ====
section
/-! SUPPORT. `Kept` holds of the operations of `Machine/Image.lean`. -/

set_option Elab.async false

namespace Sys2Proof.Machine

open Sys2Proof

theorem State.noteRec_kept (s0) (r) : Kept s0 (State.noteRec s0 r) := by
  unfold State.noteRec
  extract_lets +onlyGivenNames x1
  extract_lets +onlyGivenNames x2
  extract_lets +onlyGivenNames x3
  exact (Kept.same)

theorem State.putMask_kept (s0) (a) (m) (v) : Kept s0 (State.putMask s0 a m v) := by
  unfold State.putMask
  extract_lets +onlyGivenNames x1
  exact State.setReg_kept ..

theorem State.imgWrites_kept (s0) (v1) : KeptP s0 (State.imgWrites s0 v1) := by
  induction v1 generalizing s0
  · rw [State.imgWrites]
    exact KeptP.mk (.refl _)
  · rename_i x0 v1 ih
    rw [State.imgWrites]
    split
    · rename_i y1 y2 y3
      have h4 : Kept s0 y2 := KeptP.get y3 (State.hostWrite_kept ..)
      exact KeptP.mk h4
    · rename_i y5 y6 y7 y8 y9
      have h10 : Kept s0 y7 := KeptP.get y9 (State.hostWrite_kept ..)
      exact KeptP.trans h10 (ih ..)

theorem State.applyEnroll_kept (s0) : Kept s0 (State.applyEnroll s0) := by
  unfold State.applyEnroll
  exact ((Kept.same)).trans (State.setFld_kept ..)

theorem State.applyMap_kept (s0) (r) : Kept s0 (State.applyMap s0 r) := by
  unfold State.applyMap
  extract_lets +onlyGivenNames x1
  have h2 : Kept s0 x1 := Kept.foldl (.refl _) (fun a4 x5 h3 => h3.trans (State.sramWrite_kept ..))
  exact h2.trans .same

theorem State.applyRec_kept (s0) (r) : KeptP s0 (State.applyRec s0 r) := by
  unfold State.applyRec
  split
  · rename_i y1 y2
    exact KeptP.mk (State.applyEnroll_kept ..)
  · rename_i y3 y4
    exact KeptP.mk ((Kept.same))
  · rename_i y5 y6
    exact Kept.ite (State.imgWrites_kept ..) (KeptP.mk (.refl _))
  · rename_i y7 y8
    exact Kept.ite (State.imgWrites_kept ..) (KeptP.mk (.refl _))
  · rename_i y9 y10
    exact KeptP.mk (Kept.ite (Kept.foldl (.refl _) (fun a12 x13 h11 => h11.trans (State.putMask_kept ..))) (.refl _))
  · rename_i y14 y15
    exact KeptP.mk (Kept.ite (State.applyMap_kept ..) (.refl _))
  · rename_i y16 y17 y18 y19 y20 y21 y22
    exact KeptP.mk (.refl _)

theorem State.readTo_kept (s0) (n) : Kept s0 (State.readTo s0 n) := by
  unfold State.readTo
  exact State.advCcTo_kept ..

theorem State.refuseImage_kept (s0) (n) : Kept s0 (State.refuseImage s0 n) := by
  unfold State.refuseImage
  exact ((State.readTo_kept ..).trans (State.incBy_kept ..)).trans (State.holdBoot_kept ..)

theorem State.openPass_kept (s0) : Kept s0 (State.openPass s0) := by
  unfold State.openPass
  refine Kept.ite ?_ ?_
  · exact .refl _
  · refine Kept.ite ?_ ?_
    · exact State.refuseImage_kept ..
    · extract_lets +onlyGivenNames x1
      have h2 : Kept s0 x1 := State.readTo_kept ..
      exact h2.trans .same

theorem State.passRec_kept (s0) : Kept s0 (State.passRec s0) := by
  unfold State.passRec
  extract_lets +onlyGivenNames x1
  refine Kept.ite ?_ ?_
  · exact Kept.ite ((State.readTo_kept ..).trans (State.noteRec_kept ..)) (State.refuseImage_kept ..)
  · refine Kept.ite ?_ ?_
    · split
      · rename_i y2 y3 y4
        have h5 : Kept s0 y3 := KeptP.get y4 (KeptP.trans (State.readTo_kept ..) (State.applyRec_kept ..))
        exact h5.trans .same
      · rename_i y6 y7 y8
        have h9 : Kept s0 y7 := KeptP.get y8 (KeptP.trans (State.readTo_kept ..) (State.applyRec_kept ..))
        exact h9.trans (State.refuseImage_kept ..)
    · exact State.refuseImage_kept ..

theorem State.stepRec_kept (s0) (ts) : Kept s0 (State.stepRec s0 ts) := by
  unfold State.stepRec
  refine Kept.ite ?_ ?_
  · exact .refl _
  · extract_lets +onlyGivenNames x1
    have h2 : Kept s0 x1 := State.openPass_kept ..
    exact Kept.ite (h2.trans (State.passRec_kept ..)) h2

theorem State.restOf_kept (v0) (s0) : Kept s0 (State.restOf v0 s0) := by
  induction v0 generalizing s0
  · rw [State.restOf]
    exact .refl _
  · rename_i v0 ih
    rw [State.restOf]
    exact Kept.ite ((State.passRec_kept ..).trans (ih ..)) (.refl _)

theorem State.runPass_kept (s0) : Kept s0 (State.runPass s0) := by
  unfold State.runPass
  extract_lets +onlyGivenNames x1
  have h2 : Kept s0 x1 := State.openPass_kept ..
  exact h2.trans (State.restOf_kept ..)

theorem execOwnerRecord_kept (s0) : KeptN s0 (execOwnerRecord s0) := by
  unfold execOwnerRecord
  exact KeptN.clocked (KeptN.ok (State.stepRec_kept ..))

theorem execEnrollRecord_kept (s0) : KeptN s0 (execEnrollRecord s0) := by
  unfold execEnrollRecord
  exact KeptN.clocked (KeptN.ok (State.stepRec_kept ..))

theorem execXferRecord_kept (s0) : KeptN s0 (execXferRecord s0) := by
  unfold execXferRecord
  exact KeptN.clocked (KeptN.ok (State.stepRec_kept ..))

theorem execReleaseRecord_kept (s0) : KeptN s0 (execReleaseRecord s0) := by
  unfold execReleaseRecord
  exact KeptN.clocked (KeptN.ok (State.stepRec_kept ..))

theorem execScopeRecord_kept (s0) : KeptN s0 (execScopeRecord s0) := by
  unfold execScopeRecord
  exact KeptN.clocked (KeptN.ok (State.stepRec_kept ..))

theorem execRegsRecord_kept (s0) : KeptN s0 (execRegsRecord s0) := by
  unfold execRegsRecord
  exact KeptN.clocked (KeptN.ok (State.stepRec_kept ..))

theorem execWindowRecord_kept (s0) : KeptN s0 (execWindowRecord s0) := by
  unfold execWindowRecord
  exact KeptN.clocked (KeptN.ok (State.stepRec_kept ..))

theorem execLimitsRecord_kept (s0) : KeptN s0 (execLimitsRecord s0) := by
  unfold execLimitsRecord
  exact KeptN.clocked (KeptN.ok (State.stepRec_kept ..))

theorem execMapRecord_kept (s0) : KeptN s0 (execMapRecord s0) := by
  unfold execMapRecord
  exact KeptN.clocked (KeptN.ok (State.stepRec_kept ..))

theorem execPadRecord_kept (s0) : KeptN s0 (execPadRecord s0) := by
  unfold execPadRecord
  exact KeptN.clocked (KeptN.ok (State.stepRec_kept ..))

theorem execImagePass1_kept (s0) : KeptN s0 (execImagePass1 s0) := by
  unfold execImagePass1
  refine KeptN.clocked ?_
  refine Kept.ite ?_ ?_
  · exact KeptN.ok (.refl _)
  · extract_lets +onlyGivenNames x1
    have h2 : Kept s0 x1 := State.runPass_kept ..
    refine Kept.ite ?_ ?_
    · exact KeptN.ok h2
    · extract_lets +onlyGivenNames x3 x4
      refine Kept.ite ?_ ?_
      · exact KeptN.ok (h2.trans (State.refuseImage_kept ..))
      · extract_lets +onlyGivenNames x5
        have h6 : Kept s0 x5 := (h2.trans (State.readTo_kept ..)).trans (State.incBy_kept ..)
        exact KeptN.ok ((h6.trans .same).trans (State.bootStep_kept ..))

theorem execOwnerSignatureCheck_kept (s0) : KeptN s0 (execOwnerSignatureCheck s0) := by
  unfold execOwnerSignatureCheck
  refine KeptN.clocked ?_
  refine Kept.ite ?_ ?_
  · exact KeptN.ok (.refl _)
  · split
    rename_i y1 y2 y3 y4
    have h5 : Kept s0 y3 := KeptP.get y4 (State.draw_kept ..)
    extract_lets +onlyGivenNames x6
    have h7 : Kept s0 x6 := h5.trans (State.advCcTo_kept ..)
    extract_lets +onlyGivenNames x8
    refine Kept.ite ?_ ?_
    · exact KeptN.ok (h7.trans (State.holdBoot_kept ..))
    · split
      · rename_i y9 y10
        exact KeptN.ok (h7.trans (State.holdBoot_kept ..))
      · rename_i y11 y12 y13 y14
        refine Kept.ite ?_ ?_
        · extract_lets +onlyGivenNames x15
          extract_lets +onlyGivenNames x16
          have h17 : Kept s0 x16 := h7.trans .same
          exact KeptN.ok ((((h17.trans (State.setFlag_kept ..)).trans (State.setFld_kept ..)).trans (State.setFld_kept
              ..)).trans (State.holdBoot_kept ..))
        · exact Kept.ite (KeptN.ok (h7.trans (State.holdBoot_kept ..))) (KeptN.ok ((h7.trans .same).trans
              (State.bootStep_kept ..)))

theorem execImagePass2_kept (s0) : KeptN s0 (execImagePass2 s0) := by
  unfold execImagePass2
  refine KeptN.clocked ?_
  refine Kept.ite ?_ ?_
  · exact KeptN.ok (.refl _)
  · extract_lets +onlyGivenNames x1
    have h2 : Kept s0 x1 := State.runPass_kept ..
    refine Kept.ite ?_ ?_
    · exact KeptN.ok h2
    · extract_lets +onlyGivenNames x3 x4 x5 x6
      refine Kept.ite ?_ ?_
      · exact KeptN.ok (h2.trans (State.refuseImage_kept ..))
      · extract_lets +onlyGivenNames x7
        have h8 : Kept s0 x7 := (h2.trans (State.readTo_kept ..)).trans (State.incBy_kept ..)
        exact KeptN.ok (h8.trans (State.bootStep_kept ..))

end Sys2Proof.Machine
end

