-- ==== Sys2Proof/Laws/KeptBoot.lean ====
section
/-! SUPPORT. `Kept` holds of the operations of `Machine/Boot.lean`. -/

set_option Elab.async false

namespace Sys2Proof.Machine

open Sys2Proof

theorem State.loadRecord_kept (s0) (k) (b) : Kept s0 (State.loadRecord s0 k b) := by
  unfold State.loadRecord
  extract_lets +onlyGivenNames x1
  have h2 : Kept s0 x1 := by
    unfold x1
    refine Kept.foldl ?_ (fun a4 x5 h3 => ?_)
    · exact .refl _
    · split
      rename_i y6 y7 y8 y9 y10
      extract_lets +onlyGivenNames x11
      have h12 : Kept s0 x11 := (h3.trans (State.sramWrite_kept ..)).trans (State.sramWrite_kept ..)
      exact h12.trans (State.sramWrite_kept ..)
  extract_lets +onlyGivenNames x13
  have h14 : Kept s0 x13 := (h2.trans (State.setFld_kept ..)).trans (State.setFld_kept ..)
  extract_lets +onlyGivenNames x15
  have h16 : Kept s0 x15 := (h14.trans (State.setFld_kept ..)).trans (State.setFld_kept ..)
  extract_lets +onlyGivenNames x17
  have h18 : Kept s0 x17 := (h16.trans (State.setFld_kept ..)).trans (State.setFld_kept ..)
  exact h18.trans (State.setLed_kept ..)

theorem execLedgerScan_kept (s0) : KeptN s0 (execLedgerScan s0) := by
  unfold execLedgerScan
  refine KeptN.clocked ?_
  refine Kept.ite ?_ ?_
  · exact KeptN.ok (.refl _)
  · split
    rename_i y1 y2 y3 y4
    have h5 : Kept s0 y3 := KeptP.get y4 (State.draw_kept ..)
    extract_lets +onlyGivenNames x6
    have h7 : Kept s0 x6 := h5.trans (State.advCcTo_kept ..)
    extract_lets +onlyGivenNames x8
    have h9 : Kept s0 x8 := h7.trans (State.setFld_kept ..)
    extract_lets +onlyGivenNames x10 x11
    have h12 : Kept s0 x11 := (h9.trans (State.setFld_kept ..)).trans (State.setFld_kept ..)
    extract_lets +onlyGivenNames x13
    have h14 : Kept s0 x13 := Kept.foldl h12 (fun a16 x17 h15 => (h15.trans (State.sramWrite_kept ..)).trans
        (State.sramWrite_kept ..))
    extract_lets +onlyGivenNames x18 x19
    have h20 : Kept s0 x19 := h14.trans (State.setLed_kept ..)
    extract_lets +onlyGivenNames x21
    have h22 : Kept s0 x21 := h20.trans (State.setFld_kept ..)
    extract_lets +onlyGivenNames x23
    have h24 : Kept s0 x23 := by
      unfold x23
      split
      · rename_i y25 y26 y27 y28
        exact (h9.trans (State.loadRecord_kept ..)).trans (State.setFld_kept ..)
      · rename_i y29 y30
        exact Kept.ite h22 (h22.trans (State.report_kept ..))
    exact KeptN.ok (h24.trans (State.bootStep_kept ..))

theorem State.storeBinding_kept (s0) : Kept s0 (State.storeBinding s0) := by
  unfold State.storeBinding
  split
  · rename_i y1 y2
    exact .refl _
  · rename_i y3 y4 y5
    extract_lets +onlyGivenNames x6 x7
    have h8 : Kept s0 x7 := (Kept.same)
    exact ((h8.trans (State.setFlag_kept ..)).trans (State.setFld_kept ..)).trans (State.setFld_kept ..)

theorem State.chooseBank_kept (s0) : Kept s0 (State.chooseBank s0) := by
  unfold State.chooseBank
  refine Kept.ite ?_ ?_
  · split
    rename_i y1 y2 y3 y4
    have h5 : Kept s0 y3 := KeptP.get y4 (State.checkBank_kept ..)
    exact h5.trans (State.activate_kept ..)
  · refine Kept.ite ?_ ?_
    · exact State.activate_kept ..
    · split
      · rename_i y6 y7 y8
        have h9 : Kept s0 y7 := KeptP.get y8 (State.checkBank_kept ..)
        exact h9.trans (State.activate_kept ..)
      · rename_i y10 y11 y12
        have h13 : Kept s0 y11 := KeptP.get y12 (State.checkBank_kept ..)
        split
        · rename_i y14 y15 y16
          have h17 : Kept s0 y15 := KeptP.get y16 (KeptP.trans h13 (State.checkBank_kept ..))
          exact h17.trans (State.activate_kept ..)
        · rename_i y18 y19 y20
          have h21 : Kept s0 y19 := KeptP.get y20 (KeptP.trans h13 (State.checkBank_kept ..))
          exact h21.trans (State.activate_kept ..)

theorem State.openQueues_kept (s0) : Kept s0 (State.openQueues s0) := by
  unfold State.openQueues
  exact Kept.foldl (.refl _) (fun a2 x3 h1 => (h1.trans (State.update_kept ..)).trans (State.setQueue_kept ..))

theorem State.outputsUp_kept (s0) : Kept s0 (State.outputsUp s0) := by
  unfold State.outputsUp
  exact Kept.foldl (.refl _) (fun a2 x3 h1 => h1.trans (State.driveSafe_kept ..))

theorem State.leaveBoot_kept (s0) : Kept s0 (State.leaveBoot s0) := by
  unfold State.leaveBoot
  split
  rename_i y1 y2 y3 y4 y5
  extract_lets +onlyGivenNames x6
  have h7 : Kept s0 x6 := ((State.setFld_kept ..).trans (State.setFld_kept ..)).trans (State.setFld_kept ..)
  extract_lets +onlyGivenNames x8
  have h9 : Kept s0 x8 := (h7.trans (State.setFlag_kept ..)).trans (State.setFlag_kept ..)
  extract_lets +onlyGivenNames x10
  extract_lets +onlyGivenNames x11
  extract_lets +onlyGivenNames x12
  have h13 : Kept s0 x12 := h9.trans .same
  extract_lets +onlyGivenNames x14
  have h15 : Kept s0 x14 := (h13.trans (State.stagesForMode_kept ..)).trans (State.startPlan_kept ..)
  exact Kept.ite (h15.trans (State.beginDormant_kept ..)) h15

theorem State.adoptEntry_kept (s0) : Kept s0 (State.adoptEntry s0) := by
  unfold State.adoptEntry
  split
  · rename_i y1 y2 y3
    exact ((State.setFld_kept ..).trans (State.setFlag_kept ..)).trans (State.setFlag_kept ..)
  · rename_i y4 y5
    exact .refl _

theorem State.takeRole_kept (s0) : Kept s0 (State.takeRole s0) := by
  unfold State.takeRole
  extract_lets +onlyGivenNames x1
  have h2 : Kept s0 x1 := State.adoptEntry_kept ..
  extract_lets +onlyGivenNames x3
  have h4 : Kept s0 x3 := (h2.trans (State.setFld_kept ..)).trans (State.setFld_kept ..)
  refine Kept.ite ?_ ?_
  · exact h4
  · split
    · rename_i y5 y6
      exact h4.trans (State.takeover_kept ..)
    · rename_i y7 y8 y9
      extract_lets +onlyGivenNames x10
      exact (h4.trans .same).trans (State.startKx_kept ..)

theorem execEndOfBoot_kept (aiMode) (s0) : KeptN s0 (execEndOfBoot aiMode s0) := by
  unfold execEndOfBoot
  refine KeptN.clocked ?_
  refine Kept.ite ?_ ?_
  · exact KeptN.ok (.refl _)
  · split
    rename_i y1 y2 y3 y4
    have h5 : Kept s0 y3 := KeptP.get y4 (State.draw_kept ..)
    extract_lets +onlyGivenNames x6
    have h7 : Kept s0 x6 := h5.trans (State.advCcTo_kept ..)
    extract_lets +onlyGivenNames x8 x9
    have h10 : Kept s0 x9 := h7.trans (State.setFld_kept ..)
    extract_lets +onlyGivenNames x11 x12
    have h13 : Kept s0 x12 := h10.trans .same
    extract_lets +onlyGivenNames x14
    have h15 : Kept s0 x14 := ((((((h13.trans (State.trigger_kept ..)).trans (State.storeBinding_kept ..)).trans
        (State.chooseBank_kept ..)).trans (State.openQueues_kept ..)).trans (State.outputsUp_kept ..)).trans
        (State.leaveBoot_kept ..)).trans (State.takeRole_kept ..)
    exact KeptN.ok ((Kept.ite (h15.trans (State.startCommit_kept ..)) h15).trans (State.nextJob_kept ..))

end Sys2Proof.Machine
end

