-- ==== Sys2Proof/Laws/KeptCoil.lean ====
section
/-! SUPPORT. `Kept` holds of the operations of `Machine/Coil.lean`. -/

set_option Elab.async false

namespace Sys2Proof.Machine

open Sys2Proof

theorem State.thermalStep_kept (s0) (n) (tw) (tb) (dt) (p) : KeptQ s0 (State.thermalStep s0 n tw tb dt p) := by
  unfold State.thermalStep
  extract_lets +onlyGivenNames x1 x2 x3 x4
  refine Kept.ite ?_ ?_
  · split
    rename_i y5 y6 y7 y8
    have h9 : Kept s0 y7 := KeptP.get y8 (State.draw_kept ..)
    split
    rename_i y10 y11 y12 y13
    have h14 : Kept s0 y12 := KeptP.get y13 (KeptP.trans h9 (State.draw_kept ..))
    exact KeptQ.mk h14
  · extract_lets +onlyGivenNames x15
    exact KeptQ.mk (.refl _)

theorem State.overTemp_kept (s0) (n) : Kept s0 (State.overTemp s0 n) := by
  unfold State.overTemp
  extract_lets +onlyGivenNames x1
  extract_lets +onlyGivenNames x2
  have h3 : Kept s0 x2 := State.raise_kept ..
  extract_lets +onlyGivenNames x4
  have h5 : Kept s0 x4 := Kept.ite (Kept.ite (((h3.trans (State.tellClosed_kept ..)).trans (State.dropOdet_kept ..)).trans
      (State.startSafe_kept ..)) ((h3.trans (State.turnOff_kept ..)).trans (State.tellClosed_kept ..))) h3
  exact h5.trans (State.report_kept ..)

theorem State.judgeStage_kept (s0) (n) (tw) : Kept s0 (State.judgeStage s0 n tw) := by
  unfold State.judgeStage
  extract_lets +onlyGivenNames x1
  extract_lets +onlyGivenNames x2
  extract_lets +onlyGivenNames x3
  have h4 : Kept s0 x3 := State.setFld_kept ..
  exact Kept.ite (h4.trans (State.overTemp_kept ..)) h4

theorem State.modelOne_kept (s0) (n) : Kept s0 (State.modelOne s0 n) := by
  unfold State.modelOne
  extract_lets +onlyGivenNames x1 x2 x3
  have h4 : Kept s0 x3 := State.setValve_kept ..
  refine Kept.ite ?_ ?_
  · exact h4
  · split
    · rename_i y5 y6 y7 y8 y9 y10
      refine Kept.ite ?_ ?_
      · exact h4.trans (State.modValve_kept ..)
      · extract_lets +onlyGivenNames x11
        split
        rename_i y12 y13 y14 y15
        extract_lets +onlyGivenNames x16
        have h17 : Kept s0 x16 := h4.trans (State.setValve_kept ..)
        extract_lets +onlyGivenNames x18
        split
        rename_i y19 y20 y21 y22 y23
        have h24 : Kept s0 y22 := KeptQ.get y23 (KeptQ.trans h17 (State.thermalStep_kept ..))
        extract_lets +onlyGivenNames x25
        have h26 : Kept s0 x25 := h24.trans (State.modValve_kept ..)
        extract_lets +onlyGivenNames x27
        have h28 : Kept s0 x27 := h26.trans (State.setFldI_kept ..)
        extract_lets +onlyGivenNames x29
        have h30 : Kept s0 x29 := h28.trans (State.setFldI_kept ..)
        exact h30.trans (State.judgeStage_kept ..)
    · rename_i y31 y32 y33
      refine Kept.ite ?_ ?_
      · exact h4
      · extract_lets +onlyGivenNames x34
        have h35 : Kept s0 x34 := h4.trans (State.modValve_kept ..)
        extract_lets +onlyGivenNames x36
        have h37 : Kept s0 x36 := (h35.trans (State.setFldI_kept ..)).trans (State.setFldI_kept ..)
        exact Kept.ite (h37.trans (State.judgeStage_kept ..)) h37

theorem execModelUpdate_kept (s0) : KeptN s0 (execModelUpdate s0) := by
  unfold execModelUpdate
  refine KeptN.clocked ?_
  extract_lets +onlyGivenNames x1
  have h2 : Kept s0 x1 := State.takeInstant_kept ..
  exact KeptN.ok (Kept.foldl h2 (fun a4 x5 h3 => h3.trans (State.modelOne_kept ..)))

theorem execAmbientSensorWrite_kept (t) (s0) : KeptN s0 (execAmbientSensorWrite t s0) := by
  unfold execAmbientSensorWrite
  refine KeptN.clocked ?_
  extract_lets +onlyGivenNames x1
  have h2 : Kept s0 x1 := State.takeInstant_kept ..
  exact Kept.ite (KeptN.ok h2) (KeptN.ok (h2.trans (State.update_kept ..)))

end Sys2Proof.Machine
end

