-- ==== Sys2Proof/Laws/KeptHostCmds.lean ====
section
/-! SUPPORT. `Kept` holds of the operations of `Machine/HostCmds.lean`. -/

set_option Elab.async false

namespace Sys2Proof.Machine

open Sys2Proof

theorem execHostCommandReset_kept (p) (v) (s0) : KeptN s0 (execHostCommandReset p v s0) := by
  unfold execHostCommandReset
  exact KeptN.clocked (KeptN.ok (State.write_kept ..))

theorem State.command_kept (s0) (p) (t) : Kept s0 (State.command s0 p t) := by
  unfold State.command
  exact State.write_kept ..

theorem execBootCommand_kept (p) (s0) : KeptN s0 (execBootCommand p s0) := by
  unfold execBootCommand
  exact KeptN.clocked (KeptN.ok (State.command_kept ..))

theorem execDormantCommand_kept (p) (s0) : KeptN s0 (execDormantCommand p s0) := by
  unfold execDormantCommand
  exact KeptN.clocked (KeptN.ok (State.command_kept ..))

theorem execCommissionCommand_kept (p) (s0) : KeptN s0 (execCommissionCommand p s0) := by
  unfold execCommissionCommand
  exact KeptN.clocked (KeptN.ok (State.command_kept ..))

theorem execPrescribeCommand_kept (p) (s0) : KeptN s0 (execPrescribeCommand p s0) := by
  unfold execPrescribeCommand
  exact KeptN.clocked (KeptN.ok (State.command_kept ..))

theorem execUniformCommand_kept (p) (s0) : KeptN s0 (execUniformCommand p s0) := by
  unfold execUniformCommand
  exact KeptN.clocked (KeptN.ok (State.command_kept ..))

theorem execFertigateCommand_kept (p) (s0) : KeptN s0 (execFertigateCommand p s0) := by
  unfold execFertigateCommand
  exact KeptN.clocked (KeptN.ok (State.command_kept ..))

theorem execHoldCommand_kept (p) (s0) : KeptN s0 (execHoldCommand p s0) := by
  unfold execHoldCommand
  exact KeptN.clocked (KeptN.ok (State.command_kept ..))

theorem execLimpCommand_kept (p) (s0) : KeptN s0 (execLimpCommand p s0) := by
  unfold execLimpCommand
  exact KeptN.clocked (KeptN.ok (State.command_kept ..))

theorem execFaultClear_kept (v) (s0) : KeptN s0 (execFaultClear v s0) := by
  unfold execFaultClear
  refine KeptN.clocked ?_
  extract_lets +onlyGivenNames x1
  have h2 : Kept s0 x1 := State.write_kept ..
  exact KeptN.ok ((h2.trans (State.advTo_kept ..)).trans (State.evalPlainClears_kept ..))

theorem execFaultConfigWrite_kept (k) (v) (s0) : KeptN s0 (execFaultConfigWrite k v s0) := by
  unfold execFaultConfigWrite
  exact KeptN.clocked (KeptN.ok (State.write_kept ..))

theorem execPushStart_kept (p) (v) (s0) : KeptN s0 (execPushStart p v s0) := by
  unfold execPushStart
  exact KeptN.clocked (KeptN.ok (State.write_kept ..))

theorem execPushContinue_kept (p) (v) (s0) : KeptN s0 (execPushContinue p v s0) := by
  unfold execPushContinue
  exact KeptN.clocked (KeptN.ok (State.write_kept ..))

theorem execRingPop_kept (p) (s0) : KeptN s0 (execRingPop p s0) := by
  unfold execRingPop
  exact KeptN.clocked (KeptN.ok (State.readBy_kept ..))

theorem execQueueFlush_kept (q) (v) (s0) : KeptN s0 (execQueueFlush q v s0) := by
  unfold execQueueFlush
  exact KeptN.clocked (KeptN.ok (State.write_kept ..))

theorem execQueueDisable_kept (q) (v) (s0) : KeptN s0 (execQueueDisable q v s0) := by
  unfold execQueueDisable
  exact KeptN.clocked (KeptN.ok (State.write_kept ..))

theorem execQueueEnable_kept (q) (v) (s0) : KeptN s0 (execQueueEnable q v s0) := by
  unfold execQueueEnable
  exact KeptN.clocked (KeptN.ok (State.write_kept ..))

theorem execMapSwapArm_kept (v) (s0) : KeptN s0 (execMapSwapArm v s0) := by
  unfold execMapSwapArm
  exact KeptN.clocked (KeptN.ok (State.write_kept ..))

theorem execIndexArm_kept (n) (v) (s0) : KeptN s0 (execIndexArm n v s0) := by
  unfold execIndexArm
  exact KeptN.clocked (KeptN.ok (State.write_kept ..))

theorem execPrimarySourceWrite_kept (v) (s0) : KeptN s0 (execPrimarySourceWrite v s0) := by
  unfold execPrimarySourceWrite
  exact KeptN.clocked (KeptN.ok (State.write_kept ..))

theorem execTrvOffsetWrite_kept (v) (s0) : KeptN s0 (execTrvOffsetWrite v s0) := by
  unfold execTrvOffsetWrite
  exact KeptN.clocked (KeptN.ok (State.write_kept ..))

theorem execTrvBiasWrite_kept (v) (s0) : KeptN s0 (execTrvBiasWrite v s0) := by
  unfold execTrvBiasWrite
  exact KeptN.clocked (KeptN.ok (State.write_kept ..))

theorem execDualChannelConfigWrite_kept (m) (v) (s0) : KeptN s0 (execDualChannelConfigWrite m v s0) := by
  unfold execDualChannelConfigWrite
  exact KeptN.clocked (KeptN.ok (State.write_kept ..))

theorem execAnchorWrite_kept (v) (s0) : KeptN s0 (execAnchorWrite v s0) := by
  unfold execAnchorWrite
  exact KeptN.clocked (KeptN.ok (State.write_kept ..))

theorem execLocalSnapshotRequest_kept (v) (s0) : KeptN s0 (execLocalSnapshotRequest v s0) := by
  unfold execLocalSnapshotRequest
  exact KeptN.clocked (KeptN.ok (State.write_kept ..))

theorem execZerocal_kept (v) (s0) : KeptN s0 (execZerocal v s0) := by
  unfold execZerocal
  exact KeptN.clocked (KeptN.ok (State.write_kept ..))

theorem execLatencyEstimateWrite_kept (n) (v) (s0) : KeptN s0 (execLatencyEstimateWrite n v s0) := by
  unfold execLatencyEstimateWrite
  exact KeptN.clocked (KeptN.ok (State.write_kept ..))

theorem execLatencyBandWrite_kept (n) (v) (s0) : KeptN s0 (execLatencyBandWrite n v s0) := by
  unfold execLatencyBandWrite
  exact KeptN.clocked (KeptN.ok (State.write_kept ..))

theorem execSafeclr_kept (n) (v) (s0) : KeptN s0 (execSafeclr n v s0) := by
  unfold execSafeclr
  exact KeptN.clocked (KeptN.ok (State.write_kept ..))

theorem execPairWrite_kept (n) (v) (s0) : KeptN s0 (execPairWrite n v s0) := by
  unfold execPairWrite
  exact KeptN.clocked (KeptN.ok (State.write_kept ..))

theorem execShapeStoreWrite_kept (p) (g) (w) (v) (s0) : KeptN s0 (execShapeStoreWrite p g w v s0) := by
  unfold execShapeStoreWrite
  exact KeptN.clocked (KeptN.ok (State.write_kept ..))

theorem execFreeze_kept (k) (v) (s0) : KeptN s0 (execFreeze k v s0) := by
  unfold execFreeze
  exact KeptN.clocked (KeptN.ok (State.write_kept ..))

theorem execStageEnable_kept (k) (v) (s0) : KeptN s0 (execStageEnable k v s0) := by
  unfold execStageEnable
  exact KeptN.clocked (KeptN.ok (State.write_kept ..))

theorem execCoefficientWrite_kept (p) (k) (r) (c) (v) (s0) : KeptN s0 (execCoefficientWrite p k r c v s0) := by
  unfold execCoefficientWrite
  exact KeptN.clocked (KeptN.ok (State.write_kept ..))

theorem execStructureFieldWrite_kept (p) (a) (v) (s0) : KeptN s0 (execStructureFieldWrite p a v s0) := by
  unfold execStructureFieldWrite
  refine KeptN.clocked ?_
  split
  · rename_i y1 y2 y3
    exact Kept.ite (KeptN.ok (State.write_kept ..)) (KeptN.ok (.refl _))
  · rename_i y4 y5
    exact KeptN.ok (.refl _)

theorem execTraceArm_kept (b) (v) (s0) : KeptN s0 (execTraceArm b v s0) := by
  unfold execTraceArm
  exact KeptN.clocked (KeptN.ok (State.write_kept ..))

theorem execTraceForce_kept (b) (v) (s0) : KeptN s0 (execTraceForce b v s0) := by
  unfold execTraceForce
  exact KeptN.clocked (KeptN.ok (State.write_kept ..))

theorem execTraceStop_kept (b) (v) (s0) : KeptN s0 (execTraceStop b v s0) := by
  unfold execTraceStop
  exact KeptN.clocked (KeptN.ok (State.write_kept ..))

theorem execInjectionGo_kept (v) (s0) : KeptN s0 (execInjectionGo v s0) := by
  unfold execInjectionGo
  exact KeptN.clocked (KeptN.ok (State.write_kept ..))

theorem execInjectionStop_kept (v) (s0) : KeptN s0 (execInjectionStop v s0) := by
  unfold execInjectionStop
  exact KeptN.clocked (KeptN.ok (State.write_kept ..))

theorem execLimitWrite_kept (p) (a) (v) (s0) : KeptN s0 (execLimitWrite p a v s0) := by
  unfold execLimitWrite
  refine KeptN.clocked ?_
  split
  · rename_i y1 y2 y3
    exact Kept.ite (KeptN.ok (State.write_kept ..)) (KeptN.ok (.refl _))
  · rename_i y4 y5
    exact KeptN.ok (.refl _)

theorem execCommitRequest_kept (p) (v) (s0) : KeptN s0 (execCommitRequest p v s0) := by
  unfold execCommitRequest
  exact KeptN.clocked (KeptN.ok (State.write_kept ..))

theorem execLedgerRead_kept (p) (s0) : KeptN s0 (execLedgerRead p s0) := by
  unfold execLedgerRead
  exact KeptN.clocked (KeptN.ok (State.readBy_kept ..))

theorem execHostSend_kept (v) (s0) : KeptN s0 (execHostSend v s0) := by
  unfold execHostSend
  exact KeptN.clocked (KeptN.ok (State.write_kept ..))

theorem execCertreqCommand_kept (v) (s0) : KeptN s0 (execCertreqCommand v s0) := by
  unfold execCertreqCommand
  exact KeptN.clocked (KeptN.ok (State.write_kept ..))

theorem execRekeyCommand_kept (v) (s0) : KeptN s0 (execRekeyCommand v s0) := by
  unfold execRekeyCommand
  exact KeptN.clocked (KeptN.ok (State.write_kept ..))

theorem execGrekeyCommand_kept (v) (s0) : KeptN s0 (execGrekeyCommand v s0) := by
  unfold execGrekeyCommand
  exact KeptN.clocked (KeptN.ok (State.write_kept ..))

theorem execHandoverCommand_kept (v) (s0) : KeptN s0 (execHandoverCommand v s0) := by
  unfold execHandoverCommand
  exact KeptN.clocked (KeptN.ok (State.write_kept ..))

theorem execCertificateRead_kept (p) (s0) : KeptN s0 (execCertificateRead p s0) := by
  unfold execCertificateRead
  exact KeptN.clocked (KeptN.ok (State.readBy_kept ..))

theorem execDescriptorStart_kept (n) (v) (s0) : KeptN s0 (execDescriptorStart n v s0) := by
  unfold execDescriptorStart
  exact KeptN.clocked (KeptN.ok (State.write_kept ..))

theorem execChainStop_kept (n) (v) (s0) : KeptN s0 (execChainStop n v s0) := by
  unfold execChainStop
  exact KeptN.clocked (KeptN.ok (State.write_kept ..))

theorem execPatrolEnable_kept (v) (s0) : KeptN s0 (execPatrolEnable v s0) := by
  unfold execPatrolEnable
  exact KeptN.clocked (KeptN.ok (State.write_kept ..))

theorem execDiagnosticWrite_kept (v) (s0) : KeptN s0 (execDiagnosticWrite v s0) := by
  unfold execDiagnosticWrite
  exact KeptN.clocked (KeptN.ok (State.write_kept ..))

theorem execDiagnosticRead_kept (v) (s0) : KeptN s0 (execDiagnosticRead v s0) := by
  unfold execDiagnosticRead
  exact KeptN.clocked (KeptN.ok (State.write_kept ..))

theorem execRawTransferGo_kept (v) (s0) : KeptN s0 (execRawTransferGo v s0) := by
  unfold execRawTransferGo
  exact KeptN.clocked (KeptN.ok (State.write_kept ..))

theorem execRegisterWrite_kept (p) (a) (v) (s0) : KeptN s0 (execRegisterWrite p a v s0) := by
  unfold execRegisterWrite
  exact KeptN.clocked (KeptN.ok (State.write_kept ..))

end Sys2Proof.Machine
end

