-- ==== Sys2Proof/Laws/KeptLinkExec.lean ====
section
/-! SUPPORT. `Kept` holds of the operations of `Machine/LinkExec.lean`. -/

set_option Elab.async false

namespace Sys2Proof.Machine

open Sys2Proof

theorem State.sendErr_kept (s0) (dst) (oseq) (a) (code) (idx) : Kept s0 (State.sendErr s0 dst oseq a code idx) := by
  unfold State.sendErr
  exact State.pushTx_kept ..

theorem State.linkWriteOne_kept (s0) (x) (ws) (k) : Kept s0 (State.linkWriteOne s0 x ws k) := by
  unfold State.linkWriteOne
  refine Kept.ite ?_ ?_
  · exact .refl _
  · extract_lets +onlyGivenNames x1
    refine Kept.ite ?_ ?_
    · exact State.sendErr_kept ..
    · split
      rename_i y2 y3 y4 y5
      have h6 : Kept s0 y4 := KeptP.get y5 (State.hostWrite_kept ..)
      split
      · rename_i y7 y8 y9
        exact h6.trans (State.sendErr_kept ..)
      · rename_i y10 y11
        exact h6

theorem execLinkWriteExecution_kept (s0) : KeptN s0 (execLinkWriteExecution s0) := by
  unfold execLinkWriteExecution
  refine KeptN.clocked ?_
  split
  · rename_i y1 y2
    exact KeptN.ok (.refl _)
  · rename_i y3 y4 y5
    extract_lets +onlyGivenNames x6
    split
    rename_i y7 y8 y9 y10
    have h11 : Kept s0 y9 := KeptP.get y10 (State.readItem_kept ..)
    extract_lets +onlyGivenNames x12
    have h13 : Kept s0 x12 := h11.trans (State.release_kept ..)
    exact KeptN.ok ((Kept.foldl h13 (fun a15 x16 h14 => h14.trans (State.linkWriteOne_kept ..))).trans (State.flow_kept ..))

theorem State.linkReads_kept (s0) (x) : KeptQ s0 (State.linkReads s0 x) := by
  unfold State.linkReads
  refine KeptQ.foldl ?_ (fun a2 x3 h1 => ?_)
  · exact KeptQ.mk (.refl _)
  · split
    rename_i y4 y5 y6 y7 y8 y9
    have h10 : Kept s0 y8 := KeptR.get y9 (KeptR.trans h1 (State.hostRead_kept ..))
    exact KeptQ.mk h10

theorem execLinkReadExecution_kept (s0) : KeptN s0 (execLinkReadExecution s0) := by
  unfold execLinkReadExecution
  refine KeptN.clocked ?_
  split
  · rename_i y1 y2
    exact KeptN.ok (.refl _)
  · rename_i y3 y4 y5
    extract_lets +onlyGivenNames x6
    split
    rename_i y7 y8 y9 y10
    have h11 : Kept s0 y9 := KeptP.get y10 (State.readItem_kept ..)
    extract_lets +onlyGivenNames x12
    have h13 : Kept s0 x12 := h11.trans (State.release_kept ..)
    refine Kept.ite ?_ ?_
    · exact KeptN.ok (((h13.trans (State.inc_kept ..)).trans (State.reportAt_kept ..)).trans (State.flow_kept ..))
    · split
      rename_i y14 y15 y16 y17 y18
      have h19 : Kept s0 y17 := KeptQ.get y18 (KeptQ.trans h13 (State.linkReads_kept ..))
      exact Kept.ite (KeptN.ok (((h19.trans (State.inc_kept ..)).trans (State.report_kept ..)).trans (State.flow_kept ..)))
          (KeptN.ok ((h19.trans (State.pushTx_kept ..)).trans (State.flow_kept ..)))

end Sys2Proof.Machine
end

