-- ==== Sys2Proof/Laws/KeptMover.lean ====
section
/-! SUPPORT. `Kept` holds of the operations of `Machine/Mover.lean`. -/

set_option Elab.async false

namespace Sys2Proof.Machine

open Sys2Proof

theorem State.movEnd_kept (s0) (n) (r) (adm) : Kept s0 (State.movEnd s0 n r adm) := by
  unfold State.movEnd
  exact State.setMov_kept ..

theorem State.countPoison_kept (s0) (n) : Kept s0 (State.countPoison s0 n) := by
  unfold State.countPoison
  exact (State.inc_kept ..).trans (State.inc_kept ..)

theorem State.funnelIn_kept (s0) (n) (bs) : Kept s0 (State.funnelIn s0 n bs) := by
  unfold State.funnelIn
  extract_lets +onlyGivenNames x1
  exact State.setMov_kept ..

theorem State.funnelOut_kept (s0) (n) (k) : Kept s0 (State.funnelOut s0 n k) := by
  unfold State.funnelOut
  extract_lets +onlyGivenNames x1
  have h2 : Kept s0 x1 := State.setFld_kept ..
  exact h2.trans (State.setMov_kept ..)

theorem State.movTake_kept (s0) (n) (d) : KeptO s0 (State.movTake s0 n d) := by
  unfold State.movTake
  extract_lets +onlyGivenNames x1
  refine Kept.ite ?_ ?_
  · exact KeptO.none
  · refine Kept.ite ?_ ?_
    · extract_lets +onlyGivenNames x2
      split
      rename_i y3 y4 y5 y6 y7 y8
      have h9 : Kept s0 y7 := KeptR.get y8 (State.hostRead_kept ..)
      extract_lets +onlyGivenNames x10 x11
      exact KeptO.some ((Kept.ite (h9.trans (State.countPoison_kept ..)) h9).trans (State.funnelIn_kept ..))
    · refine Kept.ite ?_ ?_
      · split
        · rename_i y12 y13 y14 y15 y16
          have h17 : Kept s0 y15 := KeptP.get y16 (State.popWord_kept ..)
          exact KeptO.some ((Kept.ite (h17.trans (State.countPoison_kept ..)) h17).trans (State.funnelIn_kept ..))
        · rename_i y18 y19 y20
          have h21 : Kept s0 y19 := KeptP.get y20 (State.popWord_kept ..)
          exact KeptO.some (h21.trans (State.movEnd_kept ..))
      · refine Kept.ite ?_ ?_
        · split
          rename_i y22 y23 y24 y25 y26
          have h27 : Kept s0 y25 := KeptQ.get y26 (State.snapRead_kept ..)
          exact KeptO.some ((Kept.ite (h27.trans (State.countPoison_kept ..)) h27).trans (State.funnelIn_kept ..))
        · exact Kept.ite (KeptO.some (State.funnelIn_kept ..)) KeptO.none

theorem State.poisonWord_kept (s0) (a) : Kept s0 (State.poisonWord s0 a) := by
  unfold State.poisonWord
  split
  rename_i y1 y2 y3 y4
  exact State.sramPut_kept ..

theorem State.movWord_kept (s0) (n) (d) (a) (bs) : Kept s0 (State.movWord s0 n d a bs) := by
  unfold State.movWord
  split
  rename_i y1 y2 y3 y4
  have h5 : Kept s0 y3 := KeptP.get y4 (State.hostWrite_kept ..)
  exact Kept.ite (h5.trans (State.poisonWord_kept ..)) h5

theorem State.movNarrow_kept (s0) (d) (a) (i) (bs) : Kept s0 (State.movNarrow s0 d a i bs) := by
  unfold State.movNarrow
  split
  rename_i y1 y2 y3 y4
  extract_lets +onlyGivenNames x5
  split
  rename_i y6 y7 y8 y9
  extract_lets +onlyGivenNames x10
  refine Kept.ite ?_ ?_
  · split
    · rename_i y11 y12 y13
      have h14 : Kept s0 y12 := KeptP.get y13 (State.writeWindow_kept ..)
      exact State.sramPut_kept ..
    · rename_i y15 y16 y17 y18 y19
      have h20 : Kept s0 y17 := KeptP.get y19 (State.writeWindow_kept ..)
      exact h20
  · exact Kept.ite (State.sramPut_kept ..) (.refl _)

theorem State.movPush_kept (s0) (n) (w) (p) : Kept s0 (State.movPush s0 n w p) := by
  unfold State.movPush
  extract_lets +onlyGivenNames x1 x2
  refine Kept.ite ?_ ?_
  · unfold x2
    exact (((State.setAsm_kept ..).trans (State.setFld_kept ..)).trans (State.setFld_kept ..)).trans (State.movEnd_kept ..)
  · extract_lets +onlyGivenNames x3 x4
    refine Kept.ite ?_ ?_
    · split
      rename_i y5 y6 y7 y8 y9
      have h10 : Kept s0 y8 := KeptQ.get y9 (KeptQ.trans (State.setAsm_kept ..) (State.submit_kept ..))
      refine Kept.ite ?_ ?_
      · exact h10.trans (State.funnelOut_kept ..)
      · unfold x2
        exact ((h10.trans (State.setFld_kept ..)).trans (State.setFld_kept ..)).trans (State.movEnd_kept ..)
    · exact (State.setAsm_kept ..).trans (State.funnelOut_kept ..)

theorem State.movGive_kept (s0) (n) (d) (lim) : KeptO s0 (State.movGive s0 n d lim) := by
  unfold State.movGive
  extract_lets +onlyGivenNames x1 x2 x3
  refine Kept.ite ?_ ?_
  · exact KeptO.none
  · refine Kept.ite ?_ ?_
    · extract_lets +onlyGivenNames x4 x5
      refine Kept.ite ?_ ?_
      · exact KeptO.none
      · extract_lets +onlyGivenNames x6
        exact KeptO.some ((Kept.ite (State.movWord_kept ..) (State.movNarrow_kept ..)).trans (State.funnelOut_kept ..))
    · exact Kept.ite (Kept.ite KeptO.none (KeptO.some (State.movPush_kept ..))) KeptO.none

theorem State.movFlush_kept (v0) (s0) (v2) (v3) : Kept s0 (State.movFlush v0 s0 v2 v3) := by
  induction v0 generalizing s0 v2 v3
  · rw [State.movFlush]
    exact .refl _
  · rename_i v0 ih
    rw [State.movFlush]
    split
    · rename_i y1 y2 y3
      have h4 : Kept s0 y2 := KeptO.get y3 (State.movGive_kept ..)
      exact h4.trans (ih ..)
    · rename_i y5 y6
      exact .refl _

theorem State.movMove_kept (v0) (s0) (v2) (v3) : Kept s0 (State.movMove v0 s0 v2 v3) := by
  induction v0 generalizing s0 v2 v3
  · rw [State.movMove]
    exact .refl _
  · rename_i v0 ih
    rw [State.movMove]
    refine Kept.ite ?_ ?_
    · exact .refl _
    · split
      · rename_i y1 y2 y3
        have h4 : Kept s0 y2 := KeptO.get y3 (State.movGive_kept ..)
        exact h4.trans (ih ..)
      · rename_i y5 y6
        split
        · rename_i y7 y8 y9
          have h10 : Kept s0 y8 := KeptO.get y9 (State.movTake_kept ..)
          exact Kept.ite (h10.trans (State.movFlush_kept ..)) (h10.trans (ih ..))
        · rename_i y11 y12
          exact .refl _

theorem State.movRun_kept (s0) (n) : Kept s0 (State.movRun s0 n) := by
  unfold State.movRun
  extract_lets +onlyGivenNames x1
  exact Kept.ite (.refl _) (State.movMove_kept ..)

theorem State.movHalt_kept (s0) (n) (r) (a) : Kept s0 (State.movHalt s0 n r a) := by
  unfold State.movHalt
  extract_lets +onlyGivenNames x1
  have h2 : Kept s0 x1 := (State.setFld_kept ..).trans (State.raise_kept ..)
  exact Kept.ite h2 ((h2.trans (State.errRec_kept ..)).trans (State.report_kept ..))

theorem State.movResult_kept (s0) (n) (r) (adm) : Kept s0 (State.movResult s0 n r adm) := by
  unfold State.movResult
  extract_lets +onlyGivenNames x1
  exact State.setReg_kept ..

theorem State.movFetch_kept (s0) (n) (a) : Kept s0 (State.movFetch s0 n a) := by
  unfold State.movFetch
  refine Kept.ite ?_ ?_
  · exact (State.movResult_kept ..).trans (State.movHalt_kept ..)
  · split
    rename_i y1 y2 y3 y4
    have h5 : Kept s0 y3 := by
      refine KeptP.get y4 ?_
      refine KeptP.foldl ?_ (fun a7 x8 h6 => ?_)
      · exact KeptP.mk (.refl _)
      · split
        rename_i y9 y10 y11 y12 y13
        have h14 : Kept s0 y12 := KeptQ.get y13 (KeptQ.trans h6 (State.sramRead_kept ..))
        exact KeptP.mk (h14.trans (State.setReg_kept ..))
    exact Kept.ite ((h5.trans (State.movResult_kept ..)).trans (State.movHalt_kept ..)) (h5.trans (State.beginDesc_kept ..))

theorem State.movBoundary_kept (s0) (n) (r) (adm) : Kept s0 (State.movBoundary s0 n r adm) := by
  unfold State.movBoundary
  extract_lets +onlyGivenNames x1
  extract_lets +onlyGivenNames x2
  have h3 : Kept s0 x2 := State.movResult_kept ..
  extract_lets +onlyGivenNames x4
  have h5 : Kept s0 x4 := by
    unfold x4
    split
    · rename_i y6 y7 y8
      exact h3.trans (State.sramWrite_kept ..)
    · rename_i y9 y10
      exact h3
  extract_lets +onlyGivenNames x11
  have h12 : Kept s0 x11 := (h5.trans (State.inc_kept ..)).trans (State.raise_kept ..)
  extract_lets +onlyGivenNames x13
  exact Kept.ite (h12.trans (State.movHalt_kept ..)) (Kept.ite (h12.trans (State.setFld_kept ..)) (Kept.ite (h12.trans
      (State.setFld_kept ..)) (h12.trans (State.movFetch_kept ..))))

theorem execDescriptorBoundary_kept (n) (s0) : KeptN s0 (execDescriptorBoundary n s0) := by
  unfold execDescriptorBoundary
  refine KeptN.clocked ?_
  refine Kept.ite ?_ ?_
  · exact KeptN.ok (.refl _)
  · extract_lets +onlyGivenNames x1
    have h2 : Kept s0 x1 := State.movRun_kept ..
    refine Kept.ite ?_ ?_
    · exact KeptN.ok h2
    · split
      rename_i y3 y4 y5 y6
      exact KeptN.ok ((h2.trans (State.movBoundary_kept ..)).trans (State.nextJob_kept ..))

end Sys2Proof.Machine
end

