-- ==== Sys2Proof/Laws/KeptSeq.lean ====
section
/-! SUPPORT. `Kept` holds of the operations of `Machine/Seq.lean`. -/

set_option Elab.async false

namespace Sys2Proof.Machine

open Sys2Proof

theorem State.takeSlot_kept (s0) (n) : Kept s0 (State.takeSlot s0 n) := by
  unfold State.takeSlot
  extract_lets +onlyGivenNames x1
  exact (State.advCcTo_kept ..).trans (State.modValve_kept ..)

theorem State.showOp_kept (s0) (n) : Kept s0 (State.showOp s0 n) := by
  unfold State.showOp
  exact State.setFld_kept ..

theorem State.pcNext_kept (s0) (n) : KeptE s0 (State.pcNext s0 n) := by
  unfold State.pcNext
  extract_lets +onlyGivenNames x1
  refine Kept.ite ?_ ?_
  · refine KeptE.fail ?_
    exact .refl _
  · exact KeptE.go ((State.setFld_kept ..).trans (State.showOp_kept ..))

theorem Effect.settle_kept {s0 s : State} {n : Nat} {e : Effect} (hs : Kept s0 s) (h : KeptE s0 e) : Kept s0 (e.settle n s) := by
  unfold Effect.settle
  split
  · exact hs.trans (State.progError_kept ..)
  · exact KeptE.get rfl h
  · exact (KeptE.gone rfl h).trans (State.progError_kept ..)

theorem State.instr_kept {s0 s : State} {n : Nat} {p : Nat → Bool} {f : State → Word → Effect} (hs : Kept s0 s)
    (h : ∀ t w, Kept s0 t → KeptE s0 (f t w)) : Kept s0 (s.instr n p f) := by
  unfold State.instr
  refine Kept.ite ?_ hs
  have h1 : Kept s0 (s.takeSlot n) := hs.trans (State.takeSlot_kept ..)
  extract_lets +onlyGivenNames x1
  split
  rename_i w q t e
  have ht : Kept s0 t := KeptQ.get e (KeptQ.trans h1 (State.sramRead_kept ..))
  refine Kept.ite ((ht.trans (State.poisonStop_kept ..)).trans (State.completed_kept ..)) ?_
  extract_lets +onlyGivenNames x2 x3 x4
  have h3 : Kept s0 x3 := ht.trans (State.modValve_kept ..)
  have h4 : KeptE s0 x4 := by
    show KeptE s0 (match f x3 w with | .err c => _ | .go s' => _ | .fail c s' => _)
    split
    · exact KeptE.err
    · rename_i t' e'
      exact Kept.ite KeptE.err (KeptE.go (KeptE.get e' (h _ _ h3)))
    · rename_i c' t' e'
      exact KeptE.fail (KeptE.gone e' (h _ _ h3))
  exact (Effect.settle_kept h3 h4).trans (State.completed_kept ..)

theorem State.endEffect_kept (s0) (n) : KeptE s0 (State.endEffect s0 n) := by
  unfold State.endEffect
  extract_lets +onlyGivenNames x1 x2
  refine Kept.ite ?_ ?_
  · exact Kept.ite (KeptE.go (((State.stopProgram_kept ..).trans (State.setChSt_kept ..)).trans (State.coast_kept ..)))
        KeptE.err
  · extract_lets +onlyGivenNames x3
    have h4 : Kept s0 x3 := Kept.ite (State.creditClose_kept ..) (.refl _)
    exact Kept.ite (KeptE.go ((h4.trans (State.dropCdet_kept ..)).trans (State.intoSafe_kept ..))) (KeptE.go (((h4.trans
        (State.stopProgram_kept ..)).trans (State.enterOff_kept ..)).trans (State.coast_kept ..)))

theorem State.firstDrive_kept (s0) (n) : Kept s0 (State.firstDrive s0 n) := by
  unfold State.firstDrive
  extract_lets +onlyGivenNames x1
  refine Kept.ite ?_ ?_
  · exact .refl _
  · extract_lets +onlyGivenNames x2
    have h3 : Kept s0 x2 := State.modValve_kept ..
    refine Kept.ite ?_ ?_
    · extract_lets +onlyGivenNames x4
      have h5 : Kept s0 x4 := Kept.ite (h3.trans (State.inc_kept ..)) h3
      extract_lets +onlyGivenNames x6
      have h7 : Kept s0 x6 := h5.trans (State.modValve_kept ..)
      exact Kept.ite (h7.trans (State.modValve_kept ..)) h7
    · extract_lets +onlyGivenNames x8
      have h9 : Kept s0 x8 := h3.trans (State.creditHold_kept ..)
      exact Kept.ite (h9.trans (State.modValve_kept ..)) (Kept.ite h9 (h9.trans (State.creditClose_kept ..)))

theorem State.driveEffect_kept (s0) (n) (w) : KeptE s0 (State.driveEffect s0 n w) := by
  unfold State.driveEffect
  extract_lets +onlyGivenNames x1
  extract_lets +onlyGivenNames x2
  extract_lets +onlyGivenNames x3
  have h4 : Kept s0 x3 := State.firstDrive_kept ..
  extract_lets +onlyGivenNames x5
  extract_lets +onlyGivenNames x6
  have h7 : Kept s0 x6 := h4.trans (State.modValve_kept ..)
  extract_lets +onlyGivenNames x8
  extract_lets +onlyGivenNames x9
  have h10 : Kept s0 x9 := Kept.ite ((h7.trans (State.judgePeak_kept ..)).trans (State.setDuty_kept ..)) (h7.trans
      (State.maskPeriod_kept ..))
  exact KeptE.trans (h10.trans (State.showTgt_kept ..)) (State.pcNext_kept ..)

theorem State.holdEffect_kept (s0) (n) : KeptE s0 (State.holdEffect s0 n) := by
  unfold State.holdEffect
  extract_lets +onlyGivenNames x1
  extract_lets +onlyGivenNames x2
  extract_lets +onlyGivenNames x3
  have h4 : Kept s0 x3 := State.setChSt_kept ..
  extract_lets +onlyGivenNames x5
  have h6 : Kept s0 x5 := h4.trans (State.modValve_kept ..)
  exact KeptE.go ((h6.trans (State.showTgt_kept ..)).trans (State.setDuty_kept ..))

theorem State.waitEffect_kept (s0) (n) (w) : KeptE s0 (State.waitEffect s0 n w) := by
  unfold State.waitEffect
  extract_lets +onlyGivenNames x1
  exact Kept.ite KeptE.err (Kept.ite (KeptE.trans (State.setFlag_kept ..) (State.pcNext_kept ..)) (KeptE.go
      (State.modValve_kept ..)))

theorem State.decayEffect_kept (s0) (n) (w) : KeptE s0 (State.decayEffect s0 n w) := by
  unfold State.decayEffect
  extract_lets +onlyGivenNames x1
  extract_lets +onlyGivenNames x2
  have h3 : Kept s0 x2 := State.modValve_kept ..
  exact KeptE.trans (h3.trans (State.setFlag_kept ..)) (State.pcNext_kept ..)

theorem State.reverseEffect_kept (s0) (n) (w) : KeptE s0 (State.reverseEffect s0 n w) := by
  unfold State.reverseEffect
  exact Kept.ite KeptE.err (Kept.ite (State.pcNext_kept ..) (KeptE.go ((State.modValve_kept ..).trans (State.setFld_kept
      ..))))

theorem State.branchEffect_kept (s0) (n) (w) : KeptE s0 (State.branchEffect s0 n w) := by
  unfold State.branchEffect
  extract_lets +onlyGivenNames x1 x2 x3 x4
  refine Kept.ite ?_ ?_
  · exact KeptE.err
  · refine Kept.ite ?_ ?_
    · exact KeptE.err
    · extract_lets +onlyGivenNames x5
      exact Kept.ite (KeptE.go ((State.setFld_kept ..).trans (State.showOp_kept ..))) (State.pcNext_kept ..)

theorem execEndInstruction_kept (n) (s0) : KeptN s0 (execEndInstruction n s0) := by
  unfold execEndInstruction
  exact KeptN.clocked (KeptN.ok (State.instr_kept (.refl _) (fun a1 w3 h2 => KeptE.trans h2 (State.endEffect_kept ..))))

theorem execDriveInstruction_kept (n) (s0) : KeptN s0 (execDriveInstruction n s0) := by
  unfold execDriveInstruction
  exact KeptN.clocked (KeptN.ok (State.instr_kept (.refl _) (fun a1 w3 h2 => KeptE.trans h2 (State.driveEffect_kept ..))))

theorem execHoldInstruction_kept (n) (s0) : KeptN s0 (execHoldInstruction n s0) := by
  unfold execHoldInstruction
  exact KeptN.clocked (KeptN.ok (State.instr_kept (.refl _) (fun a1 w3 h2 => KeptE.trans h2 (State.holdEffect_kept ..))))

theorem execWaitInstruction_kept (n) (s0) : KeptN s0 (execWaitInstruction n s0) := by
  unfold execWaitInstruction
  exact KeptN.clocked (KeptN.ok (State.instr_kept (.refl _) (fun a1 w3 h2 => KeptE.trans h2 (State.waitEffect_kept ..))))

theorem execDecayInstruction_kept (n) (s0) : KeptN s0 (execDecayInstruction n s0) := by
  unfold execDecayInstruction
  exact KeptN.clocked (KeptN.ok (State.instr_kept (.refl _) (fun a1 w3 h2 => KeptE.trans h2 (State.decayEffect_kept ..))))

theorem execReverseInstruction_kept (n) (s0) : KeptN s0 (execReverseInstruction n s0) := by
  unfold execReverseInstruction
  exact KeptN.clocked (KeptN.ok (State.instr_kept (.refl _) (fun a1 w3 h2 => KeptE.trans h2 (State.reverseEffect_kept ..))))

theorem execBranchInstruction_kept (n) (s0) : KeptN s0 (execBranchInstruction n s0) := by
  unfold execBranchInstruction
  exact KeptN.clocked (KeptN.ok (State.instr_kept (.refl _) (fun a1 w3 h2 => KeptE.trans h2 (State.branchEffect_kept ..))))

theorem execReservedOpcode_kept (n) (s0) : KeptN s0 (execReservedOpcode n s0) := by
  unfold execReservedOpcode
  exact KeptN.clocked (KeptN.ok (State.instr_kept (.refl _) (fun a1 w3 h2 => KeptE.err)))

theorem State.goOn_kept (s0 : State) (n : Nat) : Kept s0 (s0.goOn n) :=
  (Effect.settle_kept (.refl _) (State.pcNext_kept ..)).trans (State.completed_kept ..)

theorem State.scan_kept (s0) (n) (stop) (v3) : Kept s0 (State.scan s0 n stop v3) := by
  induction v3 generalizing s0 n stop
  · rw [State.scan]
    exact .refl _
  · rename_i x0 v3 ih
    rw [State.scan]
    split
    · rename_i y1 y2 y3
      exact Kept.ite (.refl _) ((State.feedOne_kept ..).trans (ih ..))
    · rename_i y4 y5
      exact (State.feedOne_kept ..).trans (ih ..)

theorem State.scanFrom_kept (s0) (n) (stop) (xs) : Kept s0 (State.scanFrom s0 n stop xs) := by
  unfold State.scanFrom
  extract_lets +onlyGivenNames x1
  exact (State.modValve_kept ..).trans (State.scan_kept ..)

theorem execWaitEnd_kept (n) (ss) (s0) : KeptN s0 (execWaitEnd n ss s0) := by
  unfold execWaitEnd
  refine KeptN.clocked ?_
  extract_lets +onlyGivenNames x1
  refine Kept.ite ?_ ?_
  · exact KeptN.ok (.refl _)
  · extract_lets +onlyGivenNames x2
    have h3 : Kept s0 x2 := State.scanFrom_kept ..
    split
    · rename_i y4 y5 y6 y7 y8 y9
      extract_lets +onlyGivenNames x10 x11
      have h12 : Kept s0 x11 := h3.trans (State.advCcTo_kept ..)
      extract_lets +onlyGivenNames x13
      have h14 : Kept s0 x13 := h12.trans (State.modValve_kept ..)
      exact KeptN.ok ((h14.trans (State.setFlag_kept ..)).trans (State.goOn_kept ..))
    · rename_i y15 y16 y17
      exact KeptN.ok h3

theorem State.endReverse_kept (s0) (n) (c) : Kept s0 (State.endReverse s0 n c) := by
  unfold State.endReverse
  extract_lets +onlyGivenNames x1
  have h2 : Kept s0 x1 := State.advCcTo_kept ..
  extract_lets +onlyGivenNames x3
  have h4 : Kept s0 x3 := h2.trans (State.setFlag_kept ..)
  extract_lets +onlyGivenNames x5
  have h6 : Kept s0 x5 := h4.trans (State.modValve_kept ..)
  exact (h6.trans (State.setDuty_kept ..)).trans (State.goOn_kept ..)

theorem execReverseComplete_kept (n) (ss) (s0) : KeptN s0 (execReverseComplete n ss s0) := by
  unfold execReverseComplete
  refine KeptN.clocked ?_
  extract_lets +onlyGivenNames x1
  refine Kept.ite ?_ ?_
  · exact KeptN.ok (.refl _)
  · extract_lets +onlyGivenNames x2
    have h3 : Kept s0 x2 := State.scanFrom_kept ..
    split
    · rename_i y4 y5 y6
      exact KeptN.ok (h3.trans (State.endReverse_kept ..))
    · rename_i y7 y8
      exact KeptN.ok h3

theorem execReverseTimeout_kept (n) (ss) (s0) : KeptN s0 (execReverseTimeout n ss s0) := by
  unfold execReverseTimeout
  refine KeptN.clocked ?_
  extract_lets +onlyGivenNames x1
  refine Kept.ite ?_ ?_
  · exact KeptN.ok (.refl _)
  · extract_lets +onlyGivenNames x2
    have h3 : Kept s0 x2 := State.scanFrom_kept ..
    split
    · rename_i y4 y5 y6 y7
      exact KeptN.ok (h3.trans (State.endReverse_kept ..))
    · rename_i y8 y9 y10 y11 y12
      exact KeptN.ok (((h3.trans (State.advCcTo_kept ..)).trans (State.progError_kept ..)).trans (State.completed_kept ..))
    · rename_i y13 y14 y15 y16
      exact KeptN.ok h3

theorem execCloseProgramTimeout_kept (n) (s0) : KeptN s0 (execCloseProgramTimeout n s0) := by
  unfold execCloseProgramTimeout
  refine KeptN.clocked ?_
  extract_lets +onlyGivenNames x1
  exact Kept.ite (KeptN.ok ((State.advCcTo_kept ..).trans (State.progError_kept ..))) (KeptN.ok (.refl _))

end Sys2Proof.Machine
end

