-- ==== Sys2Proof/Laws/KeptSerial.lean ====
section
/-! SUPPORT. `Kept` holds of the operations of `Machine/Serial.lean`. -/

set_option Elab.async false

namespace Sys2Proof.Machine

open Sys2Proof

theorem State.rawFlash_kept (s0) (tx) (rx) : KeptP s0 (State.rawFlash s0 tx rx) := by
  unfold State.rawFlash
  extract_lets +onlyGivenNames x1 x2 x3 x4 x5
  refine Kept.ite ?_ ?_
  · refine KeptP.mk ?_
    unfold x4
    exact (Kept.same)
  · refine Kept.ite ?_ ?_
    · refine KeptP.mk ?_
      unfold x4
      exact (Kept.same)
    · refine Kept.ite ?_ ?_
      · exact KeptP.mk (.refl _)
      · refine Kept.ite ?_ ?_
        · exact KeptP.mk (.refl _)
        · refine Kept.ite ?_ ?_
          · refine KeptP.mk ?_
            unfold x4
            exact (Kept.foldl (.refl _) (fun a7 x8 h6 => h6.trans (State.flashProgram_kept ..))).trans .same
          · refine Kept.ite ?_ ?_
            · refine KeptP.mk ?_
              unfold x4
              exact (State.flashErase_kept ..).trans .same
            · exact KeptP.mk (.refl _)

theorem State.endRaw_kept (s0) (j) (rx) : Kept s0 (State.endRaw s0 j rx) := by
  unfold State.endRaw
  extract_lets +onlyGivenNames x1
  extract_lets +onlyGivenNames x2
  extract_lets +onlyGivenNames x3
  have h4 : Kept s0 x3 := State.advCcTo_kept ..
  extract_lets +onlyGivenNames x5
  extract_lets +onlyGivenNames x6
  extract_lets +onlyGivenNames x7
  split
  rename_i y8 y9 y10 y11
  have h12 : Kept s0 y10 := by
    refine KeptP.get y11 ?_
    refine Kept.ite ?_ ?_
    · split
      rename_i y13 y14 y15 y16
      have h17 : Kept s0 y15 := KeptP.get y16 (KeptP.trans h4 (State.rawFlash_kept ..))
      exact KeptP.mk h17
    · exact KeptP.mk h4
  extract_lets +onlyGivenNames x18
  have h19 : Kept s0 x18 := Kept.foldl h12 (fun a21 x22 h20 => h20.trans (State.setFld_kept ..))
  extract_lets +onlyGivenNames x23
  have h24 : Kept s0 x23 := (h19.trans (State.setFlag_kept ..)).trans (State.endTrans_kept ..)
  exact (h24.trans .same).trans (State.nextJob_kept ..)

theorem State.movFill_kept (v0) (s0) (v2) (v3) (v4) : Kept s0 (State.movFill v0 s0 v2 v3 v4) := by
  induction v0 generalizing s0 v2 v3 v4
  · rw [State.movFill]
    exact .refl _
  · rename_i v0 ih
    rw [State.movFill]
    refine Kept.ite ?_ ?_
    · exact .refl _
    · split
      · rename_i y1 y2 y3
        have h4 : Kept s0 y2 := KeptO.get y3 (State.movTake_kept ..)
        exact h4.trans (ih ..)
      · rename_i y5 y6
        exact .refl _

theorem State.portNext_kept (s0) : Kept s0 (State.portNext s0) := by
  unfold State.portNext
  exact ((Kept.same)).trans (State.nextJob_kept ..)

theorem State.movSend_kept (s0) (j) (d) : Kept s0 (State.movSend s0 j d) := by
  unfold State.movSend
  extract_lets +onlyGivenNames x1 x2 x3 x4
  have h5 : Kept s0 x4 := State.movFill_kept ..
  extract_lets +onlyGivenNames x6 x7 x8
  refine Kept.ite ?_ ?_
  · exact h5.trans (State.portNext_kept ..)
  · extract_lets +onlyGivenNames x9
    extract_lets +onlyGivenNames x10
    have h11 : Kept s0 x10 := Kept.ite (h5.trans (State.inc_kept ..)) h5
    extract_lets +onlyGivenNames x12
    have h13 : Kept s0 x12 := h11.trans (State.advCcTo_kept ..)
    extract_lets +onlyGivenNames x14
    have h15 : Kept s0 x14 := (h13.trans (State.endTrans_kept ..)).trans (State.funnelOut_kept ..)
    extract_lets +onlyGivenNames x16
    have h17 : Kept s0 x16 := Kept.ite (h15.trans (State.movEnd_kept ..)) h15
    exact Kept.ite (h17.trans .same) (h17.trans (State.portNext_kept ..))

theorem State.movReceive_kept (s0) (j) (d) (rx) : Kept s0 (State.movReceive s0 j d rx) := by
  unfold State.movReceive
  extract_lets +onlyGivenNames x1
  extract_lets +onlyGivenNames x2
  extract_lets +onlyGivenNames x3
  extract_lets +onlyGivenNames x4
  have h5 : Kept s0 x4 := State.advCcTo_kept ..
  extract_lets +onlyGivenNames x6
  extract_lets +onlyGivenNames x7
  have h8 : Kept s0 x7 := (h5.trans (State.endTrans_kept ..)).trans (State.funnelIn_kept ..)
  exact ((h8.trans .same).trans (State.movMove_kept ..)).trans (State.nextJob_kept ..)

theorem execPeripheralTransactionEnd_kept (rx) (s0) : KeptN s0 (execPeripheralTransactionEnd rx s0) := by
  unfold execPeripheralTransactionEnd
  refine KeptN.clocked ?_
  split
  · rename_i y1 y2
    exact KeptN.ok (.refl _)
  · rename_i y3 y4 y5
    refine Kept.ite ?_ ?_
    · exact KeptN.ok (.refl _)
    · refine Kept.ite ?_ ?_
      · exact KeptN.ok (State.endRaw_kept ..)
      · extract_lets +onlyGivenNames x6
        exact KeptN.ok (Kept.ite (State.movSend_kept ..) (State.movReceive_kept ..))

theorem execProgramPoll_kept (busy) (s0) : KeptN s0 (execProgramPoll busy s0) := by
  unfold execProgramPoll
  refine KeptN.clocked ?_
  split
  · rename_i y1 y2
    exact KeptN.ok (.refl _)
  · rename_i y3 y4 y5
    refine Kept.ite ?_ ?_
    · exact KeptN.ok (.refl _)
    · extract_lets +onlyGivenNames x6
      have h7 : Kept s0 x6 := State.advCcTo_kept ..
      extract_lets +onlyGivenNames x8
      have h9 : Kept s0 x8 := (h7.trans (State.advCc_kept ..)).trans (State.endTrans_kept ..)
      exact Kept.ite (KeptN.ok (h9.trans .same)) (KeptN.ok ((h9.trans (State.flashProgram_kept ..)).trans
          (State.portNext_kept ..)))

theorem execFlashProgramTimeout_kept (s0) : KeptN s0 (execFlashProgramTimeout s0) := by
  unfold execFlashProgramTimeout
  refine KeptN.clocked ?_
  split
  · rename_i y1 y2
    exact Kept.ite (KeptN.ok (((State.advCcTo_kept ..).trans (State.setLed_kept ..)).trans (State.pageTimeout_kept ..)))
        (KeptN.ok (.refl _))
  · rename_i y3 y4 y5
    refine Kept.ite ?_ ?_
    · exact KeptN.ok (.refl _)
    · extract_lets +onlyGivenNames x6
      have h7 : Kept s0 x6 := State.advCcTo_kept ..
      extract_lets +onlyGivenNames x8
      have h9 : Kept s0 x8 := h7.trans (State.incBy_kept ..)
      extract_lets +onlyGivenNames x10
      have h11 : Kept s0 x10 := h9.trans (State.pageTimeout_kept ..)
      exact KeptN.ok ((h11.trans (State.flashTornProgram_kept ..)).trans (State.portNext_kept ..))

theorem State.driveSdo_kept (s0) (x) (mode3) : Kept s0 (State.driveSdo s0 x mode3) := by
  unfold State.driveSdo
  extract_lets +onlyGivenNames x1
  have h2 : Kept s0 x1 := State.setFlag_kept ..
  exact h2.trans .same

theorem State.acceptFrame_kept (s0) (gap) (mode3) : Kept s0 (State.acceptFrame s0 gap mode3) := by
  unfold State.acceptFrame
  extract_lets +onlyGivenNames x1
  have h2 : Kept s0 x1 := State.advCc_kept ..
  extract_lets +onlyGivenNames x3
  have h4 : Kept s0 x3 := (h2.trans (State.driveSdo_kept ..)).trans (State.inc_kept ..)
  exact (h4.trans .same).trans (State.traffic_kept ..)

theorem State.setReply_kept (s0) (r) : Kept s0 (State.setReply s0 r) := by
  unfold State.setReply
  exact (Kept.same)

theorem State.busyReply_kept (s0) : KeptP s0 (State.busyReply s0) := by
  unfold State.busyReply
  split
  rename_i y1 y2 y3 y4
  have h5 : Kept s0 y3 := KeptP.get y4 (State.draw_kept ..)
  exact KeptP.mk h5

theorem State.busyFrame_kept (s0) (mode3) : Kept s0 (State.busyFrame s0 mode3) := by
  unfold State.busyFrame
  split
  rename_i y1 y2 y3 y4
  have h5 : Kept s0 y3 := KeptP.get y4 (State.busyReply_kept ..)
  extract_lets +onlyGivenNames x6
  have h7 : Kept s0 x6 := (h5.trans (State.driveSdo_kept ..)).trans (State.inc_kept ..)
  exact h7.trans .same

theorem execServiceNop_kept (gap) (mode3) (a) (_d) (s0) : KeptN s0 (execServiceNop gap mode3 a _d s0) := by
  unfold execServiceNop
  exact KeptN.clocked (KeptN.ok ((State.acceptFrame_kept ..).trans (State.setReply_kept ..)))

theorem execServiceRead_kept (gap) (mode3) (a) (_d) (s0) : KeptN s0 (execServiceRead gap mode3 a _d s0) := by
  unfold execServiceRead
  refine KeptN.clocked ?_
  refine Kept.ite ?_ ?_
  · exact KeptN.ok ((State.advCc_kept ..).trans (State.busyFrame_kept ..))
  · extract_lets +onlyGivenNames x1
    have h2 : Kept s0 x1 := State.acceptFrame_kept ..
    split
    rename_i y3 y4 y5 y6 y7 y8
    have h9 : Kept s0 y7 := KeptR.get y8 (KeptR.trans h2 (State.hostRead_kept ..))
    extract_lets +onlyGivenNames x10
    have h11 : Kept s0 x10 := Kept.ite (h9.trans (State.raise_kept ..)) h9
    exact KeptN.ok (h11.trans (State.setReply_kept ..))

theorem execServiceWrite_kept (gap) (mode3) (a) (d) (s0) : KeptN s0 (execServiceWrite gap mode3 a d s0) := by
  unfold execServiceWrite
  refine KeptN.clocked ?_
  refine Kept.ite ?_ ?_
  · exact KeptN.ok ((State.advCc_kept ..).trans (State.busyFrame_kept ..))
  · extract_lets +onlyGivenNames x1
    have h2 : Kept s0 x1 := State.acceptFrame_kept ..
    split
    rename_i y3 y4 y5 y6
    have h7 : Kept s0 y5 := KeptP.get y6 (KeptP.trans h2 (State.hostWrite_kept ..))
    exact Kept.ite (KeptN.ok h7) (KeptN.ok (h7.trans (State.setReply_kept ..)))

theorem execRefusedCommand_kept (gap) (mode3) (cmd) (a) (s0) : KeptN s0 (execRefusedCommand gap mode3 cmd a s0) := by
  unfold execRefusedCommand
  exact KeptN.clocked (Kept.ite (KeptN.ok (.refl _)) (KeptN.ok (((State.acceptFrame_kept ..).trans (State.inc_kept
      ..)).trans (State.setReply_kept ..))))

theorem execAbortedFrame_kept (gap) (mode3) (s0) : KeptN s0 (execAbortedFrame gap mode3 s0) := by
  unfold execAbortedFrame
  refine KeptN.clocked ?_
  extract_lets +onlyGivenNames x1
  have h2 : Kept s0 x1 := State.advCc_kept ..
  extract_lets +onlyGivenNames x3
  have h4 : Kept s0 x3 := (h2.trans (State.driveSdo_kept ..)).trans (State.inc_kept ..)
  exact KeptN.ok (h4.trans .same)

theorem execBusyFrame_kept (gap) (mode3) (len) (s0) : KeptN s0 (execBusyFrame gap mode3 len s0) := by
  unfold execBusyFrame
  refine KeptN.clocked ?_
  split
  · rename_i y1 y2
    exact KeptN.ok (.refl _)
  · rename_i y3 y4 y5
    exact Kept.ite (KeptN.ok ((State.advCc_kept ..).trans (State.busyFrame_kept ..))) (KeptN.ok (.refl _))

theorem execPatrolRead_kept (s0) : KeptN s0 (execPatrolRead s0) := by
  unfold execPatrolRead
  refine KeptN.clocked ?_
  refine Kept.ite ?_ ?_
  · exact KeptN.ok (.refl _)
  · extract_lets +onlyGivenNames x1
    extract_lets +onlyGivenNames x2
    have h3 : Kept s0 x2 := State.advCcTo_kept ..
    extract_lets +onlyGivenNames x4 x5
    have h6 : Kept s0 x5 := by
      unfold x5
      split
      · rename_i y7 y8 y9
        exact KeptQ.trans h3 (State.sramRead_kept ..)
      · rename_i y10 y11
        exact h3
    exact Kept.ite (KeptN.ok ((h6.trans (State.setFld_kept ..)).trans (State.inc_kept ..))) (KeptN.ok (h6.trans
        (State.setFld_kept ..)))

theorem execMsSample_kept (raw) (s0) : KeptN s0 (execMsSample raw s0) := by
  unfold execMsSample
  refine KeptN.clocked ?_
  extract_lets +onlyGivenNames x1
  have h2 : Kept s0 x1 := State.takeInstant_kept ..
  extract_lets +onlyGivenNames x3
  extract_lets +onlyGivenNames x4
  have h5 : Kept s0 x4 := h2.trans (State.msInstant_kept ..)
  exact Kept.ite (KeptN.ok (h5.trans (State.wake_kept ..))) (KeptN.ok h5)

theorem execDormantClockGating_kept (s0) : KeptN s0 (execDormantClockGating s0) := by
  unfold execDormantClockGating
  refine KeptN.clocked ?_
  refine Kept.ite ?_ ?_
  · exact KeptN.ok (.refl _)
  · extract_lets +onlyGivenNames x1
    have h2 : Kept s0 x1 := State.setFlag_kept ..
    extract_lets +onlyGivenNames x3 x4
    have h5 : Kept s0 x4 := h2.trans .same
    exact Kept.ite (KeptN.ok (h5.trans (State.wake_kept ..))) (KeptN.ok h5)

end Sys2Proof.Machine
end

