-- ==== Sys2Proof/Laws/Exec.lean ====
section
/-! SUPPORT. Every command goes on, leaves the queue of waiting commands and keeps the canonical form; a node held in reset
by a clock failure ignores all but six commands. -/

set_option Elab.async false

namespace Sys2Proof.Machine

open Sys2Proof

/-- Every command goes on, and `Kept` holds of the state it goes on in. -/
theorem exec_kept (c : Instr) (s : State) : KeptN s (exec c s) := by
  cases c with
  | powerOnReset => exact execPowerOnReset_kept s
  | brownoutReset => exact execBrownoutReset_kept s
  | externalReset => exact execExternalReset_kept s
  | watchdogReset => exact execWatchdogReset_kept s
  | hostCommandReset p v => exact execHostCommandReset_kept p v s
  | clockFailureReset => exact execClockFailureReset_kept s
  | marchTestComplete rows bytes => exact execMarchTestComplete_kept rows bytes s
  | flashIdentification id => exact execFlashIdentification_kept id s
  | heldBootBandSwitch => exact execHeldBootBandSwitch_kept s
  | imagePass1 => exact execImagePass1_kept s
  | ownerSignatureCheck => exact execOwnerSignatureCheck_kept s
  | imagePass2 => exact execImagePass2_kept s
  | ownerRecord => exact execOwnerRecord_kept s
  | enrollRecord => exact execEnrollRecord_kept s
  | xferRecord => exact execXferRecord_kept s
  | releaseRecord => exact execReleaseRecord_kept s
  | scopeRecord => exact execScopeRecord_kept s
  | regsRecord => exact execRegsRecord_kept s
  | windowRecord => exact execWindowRecord_kept s
  | limitsRecord => exact execLimitsRecord_kept s
  | mapRecord => exact execMapRecord_kept s
  | padRecord => exact execPadRecord_kept s
  | ledgerScan => exact execLedgerScan_kept s
  | endOfBoot aiMode => exact execEndOfBoot_kept aiMode s
  | schedulerTick => exact execSchedulerTick_kept s
  | profilePublication => exact execProfilePublication_kept s
  | graceClose => exact execGraceClose_kept s
  | uniformPeriodStart => exact execUniformPeriodStart_kept s
  | pushStart p v => exact execPushStart_kept p v s
  | pushContinue p v => exact execPushContinue_kept p v s
  | ringPop p => exact execRingPop_kept p s
  | queueFlush q v => exact execQueueFlush_kept q v s
  | queueDisable q v => exact execQueueDisable_kept q v s
  | queueEnable q v => exact execQueueEnable_kept q v s
  | flushComplete q => exact execFlushComplete_kept q s
  | mapSwapArm v => exact execMapSwapArm_kept v s
  | encoderEdge n a b gap => exact execEncoderEdge_kept n a b gap s
  | indexEdge n a b gap => exact execIndexEdge_kept n a b gap s
  | indexArm n v => exact execIndexArm_kept n v s
  | lineBreak n => exact execLineBreak_kept n s
  | sourceInvalid => exact execSourceInvalid_kept s
  | beaconLoss => exact execBeaconLoss_kept s
  | standstillAssert => exact execStandstillAssert_kept s
  | ssiReadStart n => exact execSsiReadStart_kept n s
  | ssiReadComplete n low data par => exact execSsiReadComplete_kept n low data par s
  | primarySourceWrite v => exact execPrimarySourceWrite_kept v s
  | trvOffsetWrite v => exact execTrvOffsetWrite_kept v s
  | trvBiasWrite v => exact execTrvBiasWrite_kept v s
  | msSample raw => exact execMsSample_kept raw s
  | dualChannelConfigWrite m v => exact execDualChannelConfigWrite_kept m v s
  | holdoverEntry => exact execHoldoverEntry_kept s
  | holdoverExpired => exact execHoldoverExpired_kept s
  | beacon f => exact execBeacon_kept f s
  | beaconTransmit wait => exact execBeaconTransmit_kept wait s
  | fixEpoch m => exact execFixEpoch_kept m s
  | anchorWrite v => exact execAnchorWrite_kept v s
  | antennaFault ua => exact execAntennaFault_kept ua s
  | antennaBiasRetry ua => exact execAntennaBiasRetry_kept ua s
  | spectralMonitor bins => exact execSpectralMonitor_kept bins s
  | jamUpdate gcal g => exact execJamUpdate_kept gcal g s
  | acquisitionDetection sv el cn0 ratio confirm => exact execAcquisitionDetection_kept sv el cn0 ratio confirm s
  | cycleSlip n ind => exact execCycleSlip_kept n ind s
  | lossOfLock n cn0 => exact execLossOfLock_kept n cn0 s
  | snapshotRequest f => exact execSnapshotRequest_kept f s
  | frontEndPowerUp => exact execFrontEndPowerUp_kept s
  | captureStart => exact execCaptureStart_kept s
  | captureComplete samples => exact execCaptureComplete_kept samples s
  | snapshotSpaceRelease => exact execSnapshotSpaceRelease_kept s
  | localSnapshotRequest v => exact execLocalSnapshotRequest_kept v s
  | snapshotServiceTurn => exact execSnapshotServiceTurn_kept s
  | snapshotSegment f => exact execSnapshotSegment_kept f s
  | reassemblyTimeout k => exact execReassemblyTimeout_kept k s
  | snapshotProcessing x => exact execSnapshotProcessing_kept x s
  | zerocal v => exact execZerocal_kept v s
  | geometryStale k => exact execGeometryStale_kept k s
  | spanOffsetSend k gap => exact execSpanOffsetSend_kept k gap s
  | offset f => exact execOffset_kept f s
  | captureEdge n ss => exact execCaptureEdge_kept n ss s
  | offStateOpenTest n high => exact execOffStateOpenTest_kept n high s
  | armatureResult n ss => exact execArmatureResult_kept n ss s
  | closeDetectionResult n ss => exact execCloseDetectionResult_kept n ss s
  | latencyEstimateWrite n v => exact execLatencyEstimateWrite_kept n v s
  | latencyBandWrite n v => exact execLatencyBandWrite_kept n v s
  | resistanceMeasurement n ss => exact execResistanceMeasurement_kept n ss s
  | overcurrentTrip n => exact execOvercurrentTrip_kept n s
  | groupConditionAssert g c x => exact execGroupConditionAssert_kept g c x s
  | groupConditionEnd g c x => exact execGroupConditionEnd_kept g c x s
  | offTimeEnd n => exact execOffTimeEnd_kept n s
  | safeclr n v => exact execSafeclr_kept n v s
  | pairWrite n v => exact execPairWrite_kept n v s
  | endInstruction n => exact execEndInstruction_kept n s
  | driveInstruction n => exact execDriveInstruction_kept n s
  | holdInstruction n => exact execHoldInstruction_kept n s
  | waitInstruction n => exact execWaitInstruction_kept n s
  | waitEnd n ss => exact execWaitEnd_kept n ss s
  | decayInstruction n => exact execDecayInstruction_kept n s
  | reverseInstruction n => exact execReverseInstruction_kept n s
  | reverseComplete n ss => exact execReverseComplete_kept n ss s
  | reverseTimeout n ss => exact execReverseTimeout_kept n ss s
  | branchInstruction n => exact execBranchInstruction_kept n s
  | closeProgramTimeout n => exact execCloseProgramTimeout_kept n s
  | shapeStoreWrite p g w v => exact execShapeStoreWrite_kept p g w v s
  | modelUpdate => exact execModelUpdate_kept s
  | ambientSensorWrite t => exact execAmbientSensorWrite_kept t s
  | controlSample ai vpw0 vpw1 => exact execControlSample_kept ai vpw0 vpw1 s
  | freeze k v => exact execFreeze_kept k v s
  | stageEnable k v => exact execStageEnable_kept k v s
  | coefficientWrite p k r c v => exact execCoefficientWrite_kept p k r c v s
  | structureFieldWrite p a v => exact execStructureFieldWrite_kept p a v s
  | followingError ai vpw0 vpw1 => exact execFollowingError_kept ai vpw0 vpw1 s
  | traceDone ai vpw0 vpw1 => exact execTraceDone_kept ai vpw0 vpw1 s
  | traceArm b v => exact execTraceArm_kept b v s
  | traceForce b v => exact execTraceForce_kept b v s
  | traceStop b v => exact execTraceStop_kept b v s
  | injectionGo v => exact execInjectionGo_kept v s
  | injectionStop v => exact execInjectionStop_kept v s
  | injectionEnd ai vpw0 vpw1 => exact execInjectionEnd_kept ai vpw0 vpw1 s
  | pwPeriodEdge => exact execPwPeriodEdge_kept s
  | pwOvercurrent k => exact execPwOvercurrent_kept k s
  | flowmeterPulse k gap => exact execFlowmeterPulse_kept k gap s
  | meteringUpdate => exact execMeteringUpdate_kept s
  | dayBoundary => exact execDayBoundary_kept s
  | reconciliation => exact execReconciliation_kept s
  | limitWrite p a v => exact execLimitWrite_kept p a v s
  | commitRequest p v => exact execCommitRequest_kept p v s
  | commitPeriodExpiry => exact execCommitPeriodExpiry_kept s
  | commitStart => exact execCommitStart_kept s
  | sectorEraseComplete => exact execSectorEraseComplete_kept s
  | ledgerCapture => exact execLedgerCapture_kept s
  | recordSigned => exact execRecordSigned_kept s
  | recordProgrammed => exact execRecordProgrammed_kept s
  | markerProgrammed => exact execMarkerProgrammed_kept s
  | readbackCompare same => exact execReadbackCompare_kept same s
  | commitStepTimeout => exact execCommitStepTimeout_kept s
  | ledgerRead p => exact execLedgerRead_kept p s
  | pressureBroadcast => exact execPressureBroadcast_kept s
  | frameTransmit ring gap => exact execFrameTransmit_kept ring gap s
  | ackWaitTimeout dst => exact execAckWaitTimeout_kept dst s
  | ack f => exact execAck_kept f s
  | retryWaitExpiry dst => exact execRetryWaitExpiry_kept dst s
  | energySenseIgnore noise => exact execEnergySenseIgnore_kept noise s
  | energySenseRestore noise => exact execEnergySenseRestore_kept noise s
  | write f => exact execWrite_kept f s
  | linkWriteExecution => exact execLinkWriteExecution_kept s
  | read f => exact execRead_kept f s
  | linkReadExecution => exact execLinkReadExecution_kept s
  | rdata f => exact execRdata_kept f s
  | push f => exact execPush_kept f s
  | err f => exact execErr_kept f s
  | profile f => exact execProfile_kept f s
  | pressure f => exact execPressure_kept f s
  | rawrep f => exact execRawrep_kept f s
  | cf f => exact execCf_kept f s
  | holdcmd f => exact execHoldcmd_kept f s
  | hostSend v => exact execHostSend_kept v s
  | certreq f => exact execCertreq_kept f s
  | certseg f => exact execCertseg_kept f s
  | proof f => exact execProof_kept f s
  | certreqCommand v => exact execCertreqCommand_kept v s
  | rekeyCommand v => exact execRekeyCommand_kept v s
  | grekeyCommand v => exact execGrekeyCommand_kept v s
  | keyExchangeInitiate q => exact execKeyExchangeInitiate_kept q s
  | rekeyPeriodExpiry q => exact execRekeyPeriodExpiry_kept q s
  | kx1 f => exact execKx1_kept f s
  | kx2 f => exact execKx2_kept f s
  | kx3 f => exact execKx3_kept f s
  | kx4 f => exact execKx4_kept f s
  | keyxAnswerTimeout q => exact execKeyxAnswerTimeout_kept q s
  | oldGenerationDiscard q => exact execOldGenerationDiscard_kept q s
  | gkey f => exact execGkey_kept f s
  | groupKeySwitch => exact execGroupKeySwitch_kept s
  | groupKeyDiscard => exact execGroupKeyDiscard_kept s
  | arbitrationWaitExpiry => exact execArbitrationWaitExpiry_kept s
  | replicationCapture => exact execReplicationCapture_kept s
  | epochData f => exact execEpochData_kept f s
  | manifest f => exact execManifest_kept f s
  | fence f => exact execFence_kept f s
  | handover f => exact execHandover_kept f s
  | handoverCommand v => exact execHandoverCommand_kept v s
  | pulseLatch => exact execPulseLatch_kept s
  | failoverTimeout => exact execFailoverTimeout_kept s
  | descriptorStart n v => exact execDescriptorStart_kept n v s
  | descriptorBoundary n => exact execDescriptorBoundary_kept n s
  | chainStop n v => exact execChainStop_kept n v s
  | patrolRead => exact execPatrolRead_kept s
  | patrolEnable v => exact execPatrolEnable_kept v s
  | diagnosticWrite v => exact execDiagnosticWrite_kept v s
  | diagnosticRead v => exact execDiagnosticRead_kept v s
  | rawTransferGo v => exact execRawTransferGo_kept v s
  | peripheralTransactionEnd rx => exact execPeripheralTransactionEnd_kept rx s
  | programPoll busy => exact execProgramPoll_kept busy s
  | flashProgramTimeout => exact execFlashProgramTimeout_kept s
  | serviceNop gap mode3 a d => exact execServiceNop_kept gap mode3 a d s
  | serviceRead gap mode3 a d => exact execServiceRead_kept gap mode3 a d s
  | serviceWrite gap mode3 a d => exact execServiceWrite_kept gap mode3 a d s
  | refusedCommand gap mode3 cmd a => exact execRefusedCommand_kept gap mode3 cmd a s
  | abortedFrame gap mode3 => exact execAbortedFrame_kept gap mode3 s
  | busyFrame gap mode3 len => exact execBusyFrame_kept gap mode3 len s
  | holdCommand p => exact execHoldCommand_kept p s
  | commissionCommand p => exact execCommissionCommand_kept p s
  | prescribeCommand p => exact execPrescribeCommand_kept p s
  | uniformCommand p => exact execUniformCommand_kept p s
  | fertigateCommand p => exact execFertigateCommand_kept p s
  | dormantCommand p => exact execDormantCommand_kept p s
  | dormantClockGating => exact execDormantClockGating_kept s
  | wakeTime => exact execWakeTime_kept s
  | idleTimeout => exact execIdleTimeout_kept s
  | scheduledDormancy => exact execScheduledDormancy_kept s
  | faultClear v => exact execFaultClear_kept v s
  | faultConfigWrite src v => exact execFaultConfigWrite_kept src v s
  | certificateRead p => exact execCertificateRead_kept p s
  | registerWrite p a v => exact execRegisterWrite_kept p a v s
  | clockRecovery => exact execClockRecovery_kept s
  | bootCommand p => exact execBootCommand_kept p s
  | limpCommand p => exact execLimpCommand_kept p s
  | frameCheckFailure fc crc f => exact execFrameCheckFailure_kept fc crc f s
  | lineBreakEnd n => exact execLineBreakEnd_kept n s
  | antennaFaultEnd ua => exact execAntennaFaultEnd_kept ua s
  | groupRekeyPeriodExpiry => exact execGroupRekeyPeriodExpiry_kept s
  | reservedOpcode n => exact execReservedOpcode_kept n s

end Sys2Proof.Machine
end

