-- ==== Sys2Proof/Tests/Slice0.lean ====
section
/-! SUPPORT. The model's own tests: ill-formed commands that WellFormed refuses, for every statement states and operands that meet
its hypotheses, and single steps whose results the spec gives. -/

set_option Elab.async false

namespace Sys2Proof.Tests

open Sys2Proof Sys2Proof.Machine

/-! ### Helpers -/

/-- The reset state in mode `m`, with the march test over. -/
def inMode (m : Nat) : State :=
  { State.reset.setFld F.MOD_STAT_MODE m with boot := { State.reset.boot with march := false } }

/-- In BOOT at step `k`. -/
def atStep (k : Nat) : State := (inMode modeBoot).setFld F.MOD_BOOT_STEP k

/-- The state that a command answers. -/
def after (c : Instr) (s : State) : State :=
  match exec c s with
  | .next t => t
  | _ => s

/-- A frame of class `c` from node 2 to node 0 with SYSID 0. -/
def frm (c : Fin 16) (pl : List Byte) : Frame :=
  { gap := 0, rate := 0, nbyte := Fin.ofNat 512 (22 + pl.length), sysid := 0, src := 2, dst := 0, bc := false, cls := c, seq := 1, keyid := 0, payload := pl, tag := 0, snr := 0 }

/-- The same as a broadcast. -/
def bfrm (c : Fin 16) (pl : List Byte) : Frame := { frm c pl with bc := true }

/-- A node at address 0 with the link on in HOLD, as span node, standby or active head. -/
def linkNode (role : Nat) : State := ((inMode modeHold).setFlag F.SLK_CFG_EN true).setFld F.SYS_ROLE_ROLE role

/-- A peak of ratio 0 at the centre of its search. -/
def noPeak : Peak := { ratio := 0, bin := 0, chip := 0 }

/-! ### WellFormed: what it refuses -/

theorem test_wf_class : (Instr.beacon (frm 2 [])).wf = false ∧ (Instr.beacon (frm 1 [])).wf = true := by decide +kernel
theorem test_wf_type : (Instr.kx1 (frm 12 [2])).wf = false ∧ (Instr.kx1 (frm 12 [1])).wf = true ∧
    (Instr.offset (frm 8 [])).wf = false := by decide +kernel
theorem test_wf_length : (Instr.write (frm 2 (List.replicate 241 0))).wf = false ∧
    (Instr.write (frm 2 (List.replicate 240 0))).wf = true := by decide +kernel
theorem test_wf_converters : (Instr.controlSample ⟨[], []⟩ 0 0).wf = false ∧
    (Instr.controlSample ⟨List.replicate 8 0, []⟩ 65536 0).wf = false ∧
    (Instr.controlSample ⟨List.replicate 8 0, []⟩ 65535 65535).wf = true := by decide +kernel
theorem test_wf_antenna : (Instr.antennaFault (2 ^ 32)).wf = false ∧ (Instr.antennaFaultEnd (2 ^ 32)).wf = false ∧
    (Instr.antennaFault 0).wf = true := by decide +kernel
theorem test_wf_elevation : (Instr.acquisitionDetection 1 91 0 noPeak noPeak).wf = false ∧
    (Instr.acquisitionDetection 1 90 0 noPeak noPeak).wf = true := by decide +kernel
theorem test_wf_ssi : (Instr.ssiReadComplete 0 false (2 ^ 40) false).wf = false ∧
    (Instr.ssiReadComplete 0 false 0 false).wf = true := by decide +kernel
theorem test_no_word_spells_a_command : decodeTableWord 16 0 = none ∧ State.reset.withFetchWord 16 0 = State.reset := by decide +kernel

/-! ### Hypotheses of the statements, met -/

theorem test_witness_EmptyQueueIdles : State.reset.pending = [] ∧ step State.reset = .next State.reset := ⟨by decide +kernel, rfl⟩
theorem test_witness_StepKeepsCanonicalForm : State.reset.canonical = true ∧ step State.reset = .next State.reset := ⟨by decide +kernel, rfl⟩
/-- A node held by a clock failure, and a command that is none of the six. -/
theorem test_witness_HeldResetIgnoresCommands :
    (after .clockFailureReset State.reset).boot.halted = true ∧ Instr.schedulerTick ≠ .powerOnReset ∧
    Instr.schedulerTick ≠ .brownoutReset ∧ Instr.schedulerTick ≠ .externalReset ∧ Instr.schedulerTick ≠ .watchdogReset ∧
    Instr.schedulerTick ≠ .clockFailureReset ∧ Instr.schedulerTick ≠ .clockRecovery := by decide +kernel
theorem test_witness_PowerOnResetRestoresRegisters : State.reset.led.stage = 0 ∧ State.reset.ser.job = none := by decide +kernel
theorem test_witness_OtherResetsKeepTemperatures : State.reset.boot.halted = false ∧ State.reset.led.stage = 0 ∧ State.reset.ser.job = none := by decide +kernel
theorem test_witness_ResetCommandAndRecovery : State.reset.boot.halted = false ∧ bitsOf (0xC35A#40).toNat 15 0 = 0xC35A ∧
    bitsOf (0#40).toNat 15 0 ≠ 0xC35A := by decide +kernel
/-- The march test runs; the identification is read in step 1, at the bounds of the capacity codes; a held node listens. -/
theorem test_witness_BootFirstSteps : State.reset.boot.halted = false ∧ State.reset.boot.march = true ∧
    ((atStep 1).boot.halted = false ∧ (atStep 1).modeNow = modeBoot ∧ (atStep 1).fld F.MOD_BOOT_STEP = 1) ∧
    ((0xEF4016#24).toNat % 256 < 0x17 ∧ (0xEF4020#24).toNat % 256 > 0x1F ∧ (0xFFFFFF#24).toNat % 256 > 0x1F) ∧
    (0x17 ≤ (0xEF4017#24).toNat % 256 ∧ (0xEF401F#24).toNat % 256 ≤ 0x1F) ∧
    (((atStep 7).setFlag F.MOD_STAT_HELD true).setFld F.MOD_BOOT_HOLDWHY 4).heldForLink = true := by decide +kernel

/-- An image of `n` bytes with record `rec` at byte `p`, after records of types `ts`, in boot step `k`. -/
def imageAt (k n p : Nat) (ts : List Nat) (rec : List Byte) : State :=
  let s := ((atStep k).flashProgram 6 (toBytes 4 n)).flashProgram p rec
  { s with boot := { s.boot with pos := p, types := ts } }

/-- A record of type `t` with body `b`. -/
def recOf (t : Nat) (b : List Byte) : List Byte := toBytes 1 t ++ [0] ++ toBytes 3 b.length ++ b

/-- A map of no cells, with its CRC. -/
def emptyMap : List Byte :=
  toBytes 3 8 ++ toBytes 5 (2 ^ 32) ++ toBytes 5 0 ++ toBytes 5 1 ++ toBytes 5 0 ++ toBytes 5 0xA1EE736E ++ toBytes 5 1 ++
    toBytes 5 0 ++ toBytes 5 0

/-- An image at each record type's place, with the row that takes it. -/
def images : List (State × Nat) :=
  [(imageAt 2 400 16 [] (recOf 1 (List.replicate 64 0)), 0x01),
    (imageAt 2 400 85 [1] (recOf 2 (toBytes 4 7 ++ [1] ++ List.replicate 73 0 ++ [1])), 0x02),
    (imageAt 2 16384 170 [2, 1] (recOf 3 (List.replicate 128 0)), 0x03),
    (imageAt 2 400 170 [2, 1] (recOf 4 [0]), 0x04), (imageAt 2 400 170 [2, 1] (recOf 5 (toBytes 8 1)), 0x05),
    (imageAt 2 400 170 [2, 1] (recOf 0x10 (toBytes 3 0x1780 ++ toBytes 2 1 ++ toBytes 5 0x11F)), 0x10),
    (imageAt 2 400 170 [2, 1] (recOf 0x11 (toBytes 3 0x4000 ++ toBytes 2 1 ++ toBytes 5 9)), 0x11),
    (imageAt 2 400 170 [2, 1] (recOf 0x12 (toBytes 1 1 ++ toBytes 3 0x1804 ++ toBytes 5 0x10000)), 0x12),
    (imageAt 2 400 170 [2, 1] (recOf 0x13 emptyMap), 0x13), (imageAt 2 400 170 [2, 1] (recOf 0x7E []), 0x7E)]

theorem test_witness_ImageRecordsPass : images.all (fun p =>
    let s := p.1
    !s.boot.halted && s.modeNow == modeBoot && decide (16 ≤ s.boot.pos) && decide (s.boot.pos < s.imgLen) &&
      (s.imgRec s.boot.pos).typ == p.2 && s.fld F.MOD_BOOT_STEP == 2 && s.recOk (s.imgRec s.boot.pos)) = true := by decide +kernel
/-- An OWNER record with no body, which pass 1 finds wrong. -/
theorem test_witness_ImageRecordFails : (let s := imageAt 2 400 16 [] (recOf 1 []);
    s.boot.halted = false ∧ s.modeNow = modeBoot ∧ 16 ≤ s.boot.pos ∧ s.boot.pos < s.imgLen ∧ (s.imgRec s.boot.pos).typ = 1 ∧
      s.fld F.MOD_BOOT_STEP = 2 ∧ s.recOk (s.imgRec s.boot.pos) = false) := by decide +kernel
/-- In pass 2 a record whose writes are all taken: a PAD, and one of a node that the image does not name. -/
theorem test_witness_ImageRecordsPass2 : [imageAt 4 400 170 [2, 1] (recOf 0x7E []),
      imageAt 4 400 170 [2, 1] (recOf 0x10 (toBytes 3 0x1780 ++ toBytes 2 1 ++ toBytes 5 0x11F))].all (fun s =>
    s.fld F.MOD_BOOT_STEP == 4 && decide ((s.imgRec s.boot.pos).next ≤ s.imgLen) &&
      ((s.readTo (s.imgRec s.boot.pos).next).applyRec (s.imgRec s.boot.pos)).1) = true := by decide +kernel

/-- Pass 1 with every record passed, step 3 with an image, and pass 2 with every record applied. -/
theorem test_witness_ImagePassesAdvanceBoot :
    (let s := imageAt 2 400 400 [2, 1] [];
      s.modeNow = modeBoot ∧ s.fld F.MOD_BOOT_STEP = 2 ∧ 16 ≤ s.boot.pos ∧ s.boot.pos = s.imgLen ∧ 2 ≤ s.boot.types.length ∧
        s.boot.own = none) ∧
    ((atStep 3).modeNow = modeBoot ∧ (atStep 3).fld F.MOD_BOOT_STEP = 3) ∧
    (let t := imageAt 4 16 16 [2, 1] [];
      let s : State := { t with boot := { t.boot with image := t.flashRead 0 80 } };
      s.fld F.MOD_BOOT_STEP = 4 ∧ s.boot.pos = s.imgLen ∧ s.boot.xfer = false ∧
        s.boot.image.take (s.boot.image.length - 64) = s.flashRead 0 s.imgLen) := by decide +kernel
/-- The binding of an unbound node admits any OWNER key. -/
theorem test_witness_ImageBinding (h : Nat) (hh : h = sha256 (((atStep 3).boot.image.drop 21).take 64)) :
    (atStep 3).bindCheck = some (some h, false) ∧ (atStep 3).boot.released = false := by subst hh; exact ⟨rfl, by decide +kernel⟩
theorem test_witness_LedgerScanAndEndOfBoot : (atStep 5).modeNow = modeBoot ∧ (atStep 5).fld F.MOD_BOOT_STEP = 5 ∧
    (atStep 6).modeNow = modeBoot ∧ (atStep 6).fld F.MOD_BOOT_STEP = 6 := by decide +kernel

/-- A node in HOLD with its clocks gated or not. -/
def dormant (d : Nat) (m : Nat) : State := { inMode m with mode := { (inMode m).mode with dorm := d } }

theorem test_witness_TicksComeAtTheirInstants : (inMode modeHold).boot.halted = false ∧ (inMode modeHold).canonical = true ∧
    (inMode modeHold).gated = false ∧ (dormant 2 modeDormant).gated = true ∧ (dormant 2 modeDormant).canonical = true := by decide +kernel
theorem test_witness_DueTicksComeWhenDue :
    (let s := (inMode modeUniform).setFlag F.TRV_STAT_STILL true;
      let s : State := { s with trv := { s.trv with stillFrom := some 0 } };
      s.canonical = true ∧ s.gated = false ∧ s.trv.stillFrom = some 0 ∧ s.still = true ∧ s.trv.graceDone = false) ∧
    (let t := inMode modeUniform;
      let s : State := { t with plan := { t.plan with uNext := some 64, kind := 2 } };
      s.canonical = true ∧ s.gated = false ∧ s.plan.uNext = some 64 ∧ s.plan.kind = 2 ∧ 0 < Machine.dist 64 s.now) ∧
    (let s := (inMode modeHold).setFld F.MOD_CFG_IDLETO 1;
      s.canonical = true ∧ s.gated = false ∧ s.modeNow = modeHold ∧ s.fld F.MOD_CFG_IDLETO ≠ 0) ∧
    (let s := ((inMode modeHold).setFlag F.MOD_WAKE_DEN true).setFld F.MOD_DORMAT_TIME 1;
      s.canonical = true ∧ s.gated = false ∧ s.flag F.MOD_WAKE_DEN = true ∧ 0 < Machine.dist (s.fld F.MOD_DORMAT_TIME) s.now) := by decide +kernel
theorem test_witness_WakeAndClockGating :
    (((inMode modeHold).setFlag F.MOD_WAKE_WEN true).flag F.MOD_WAKE_WEN = true ∧
      ((inMode modeHold).setFlag F.MOD_WAKE_WEN true).modeNow ≠ modeDormant) ∧
    (let s := (dormant 2 modeDormant).setFlag F.MOD_WAKE_WEN true;
      s.flag F.MOD_WAKE_WEN = true ∧ s.modeNow = modeDormant ∧ s.gated = true) ∧
    (let s := dormant 5 modeDormant;
      s.mode.dorm = 5 ∧ s.ser.job = none ∧ s.flag F.SER_PP_RAW_BUSY = false ∧ s.led.stage = 0 ∧
        (∀ n, n < 8 → n ≠ s.fld F.LDG_CFG_DCH → s.movRuns n = false) ∧ s.mode.waking = false) ∧
    (let t := dormant 5 modeDormant;
      let s : State := { t with mode := { t.mode with waking := true } };
      s.mode.dorm = 5 ∧ s.ser.job = none ∧ s.flag F.SER_PP_RAW_BUSY = false ∧ s.led.stage = 0 ∧
        (∀ n, n < 8 → n ≠ s.fld F.LDG_CFG_DCH → s.movRuns n = false) ∧ s.mode.waking = true ∧ s.modeNow = modeDormant) := by decide +kernel
theorem test_witness_ProfilePublicationFormsTheSum : (inMode modeHold).gated = false ∧
    (inMode modeHold).flag F.PLN_CFG_FFEN = false ∧ (dormant 2 modeDormant).gated = true := by decide +kernel

/-- A clean record of an event item of queue `q`: KIND `k`, stamped 0, in store row `r`. -/
def evRec (k q r : Nat) : Rec := { w0 := BitVec.ofNat 40 (k * 2 ^ 36 + q * 2 ^ 30), w1 := 0, w2 := 0, slot := r }
/-- A ring item of one record. -/
def ringRec (q r : Nat) : Rec := { w0 := BitVec.ofNat 40 (15 * 2 ^ 36 + q * 2 ^ 30 + 2 ^ 25), w1 := 0, w2 := 0, slot := r }

theorem test_witness_QueueControlFlushes :
    (let s := ((inMode modeHold).setQueue 0 { recs := [evRec 1 0 0], st := .run });
      s.boot.halted = false ∧ s.calm = true ∧ s.modeNow ≠ modeBoot ∧ (s.queue 0).recs ≠ []) ∧ State.reset.calm = true ∧
    (((inMode modeHold).setFld (F.VDA_CHn_STAT_STATE 0) stHold).chOpen 0 = true ∧ State.reset.modeNow = modeBoot) ∧
    (((inMode modeHold).setQueue 0 { st := .flush }).queue 0).st = .flush ∧
    (((inMode modeHold).setQueue 0 { st := .flush, toSafe := true }).queue 0).toSafe = true := by decide +kernel
theorem test_witness_QueueEnableAndMapSwap : (inMode modeHold).boot.halted = false ∧ (inMode modeHold).calm = true ∧
    (inMode modeHold).modeNow ≠ modeBoot ∧ ((inMode modeHold).queue 63).st = .off ∧
    (((inMode modeHold).setQueue 0 { st := .safe }).queue 0).st = .safe ∧ State.reset.modeNow = modeBoot := by decide +kernel
theorem test_witness_ModeCommandsWaitForTheTick : (inMode modeHold).gated = false ∧ (dormant 2 modeDormant).gated = true ∧
    (dormant 2 modeDormant).modeNow = modeDormant := by decide +kernel
theorem test_witness_RefusedModeCommandShowsWhy : (inMode modeBoot).refusal modeHold ≠ 0 ∧
    (inMode modeHold).refusal modeHold = 0 ∧ modeHold = (inMode modeHold).modeNow ∧
    (inMode modeHold).flag F.MOD_STAT_LIMPPEND = false := by decide +kernel

/-- A producer's assembly of words `ws`. -/
def assembling (ws : List Word) (d : Option Nat) : State :=
  let s := (((inMode modeCommission).setQueue 0 { st := .run }).setFld (F.EVS_Qn_CFG_LIMIT 0) 8)
  s.setAsm 1 { words := ws, dropQ := d }

theorem test_witness_ItemsAreAssembledPerProducer : Writer.prod (some .service) = (1, 1) ∧
    itemLen (0xF000000000#40) ≤ 1 ∧ ¬ itemLen (0#40) ≤ 1 ∧ ((assembling [] (some 3)).asm 1).dropQ = some 3 ∧
    ((assembling [] none).asm 1).dropQ = none ∧ ((assembling [] none).asm 1).words = [] ∧
    ((assembling [0] none).asm 1).words = [0] ∧ ([] : List Word).length + 2 < itemLen (0#40) ∧
    (let s := assembling [0x1000000000#40, 1] none;
      (s.asm 1).words = [0x1000000000#40, 1] ∧ itemLen (0x1000000000#40) ≤ ([1] : List Word).length + 2 ∧
        s.admitCode 1 (recQ 0x1000000000#40) [0x1000000000#40, 1, 0] = 0) ∧
    (let s := assembling [0x1000000040#40, 1] none;
      (s.asm 1).words = [0x1000000040#40, 1] ∧ s.admitCode 2 (recQ 0xC0000000#40) [0xC0000000#40, 1, 0] ≠ 0) := by decide +kernel

/-- The ring Q59 with a one-record item of which `k` words are read. -/
def ringed (k : Nat) : State :=
  (((inMode modeHold).setQueue 59 { recs := [ringRec 59 0], st := .run, popped := k }).setFld F.EVS_POPSEL_Q 59)

theorem test_witness_RingPopTakesWords : popRing (((inMode modeHold).setFld F.EVS_POPSEL_Q 0).fld F.EVS_POPSEL_Q) = false ∧
    (((inMode modeHold).setFld F.EVS_POPSEL_Q 59).items 59 = [] ∧ popRing 59 = true) ∧
    (∀ k, k = 0 ∨ k = 2 → (ringed k).fld F.EVS_POPSEL_Q = 59 ∧ (ringed k).items 59 = [[ringRec 59 0]] ∧
      [ringRec 59 0][((ringed k).queue 59).popped / 3]? = some (ringRec 59 0) ∧
      ((ringed k).sramData (0x10000 + 3 * 0 + ((ringed k).queue 59).popped % 3)).2 = 0) ∧
    3 * [ringRec 59 0].length > ((ringed 0).queue 59).popped + 1 ∧
    3 * [ringRec 59 0].length ≤ ((ringed 2).queue 59).popped + 1 := by
  refine ⟨by decide +kernel, by decide +kernel, ?_, by decide +kernel, by decide +kernel⟩
  rintro k (rfl | rfl) <;> decide +kernel
/-- FSV_STAT.CLRERR of hardware's own core clock: a host that writes 1 to it and one that does not leave the same state. -/
theorem test_witness_HardwareWinsInItsCoreClock :
    (let s : State := { inMode modeHold with core := { (inMode modeHold).core with hwAt := 0, hw := [(F.FSV_STAT_CLRERR.addr, 1)] } };
      s.boot.halted = false ∧ s.clk.cc = 0 ∧ inInputs F.FSV_STAT_CLRERR.addr = false ∧
      (regAt F.FSV_STAT_CLRERR.addr).any (fun r => bitOf (s.fresh F.FSV_STAT_CLRERR.addr &&& (r.rw ||| r.w1c)) 0 &&
        (List.range 40).all (fun i => bitOf (s.fresh F.FSV_STAT_CLRERR.addr &&& (r.rw ||| r.w1c)) i ||
          bitOf (1#40).toNat i == bitOf (0#40).toNat i)) = true) := by decide +kernel

/-! Travel, GNSS and the snapshots. -/

/-- A node in HOLD whose travel is found, with source `u` in use and `a` as ALT. -/
def travelling (u a : Nat) : State :=
  (((inMode modeHold).setFlag F.TRV_STAT_LOST false).setFld F.TRV_SRC_USING u).setFld F.TRV_SRC_ALT a

/-- ZQUAL `z`, with both levels high. -/
def indexed (z : Nat) : State :=
  let s := (inMode modeHold).setFld (F.TRV_ENn_CFG_ZQUAL 0) z
  s.setEnc 0 { s.encOf 0 with a := true, b := true, ra := true, rb := true }

theorem test_witness_EncoderCountsAndIndex : (inMode modeHold).boot.halted = false ∧ (inMode modeHold).calm = true ∧
    (∀ m, m < 4 → (inMode modeHold).filtDue m = none) ∧ (inMode modeHold).filtHold 0 ≤ 40 + 1 ∧ 0 + 1 < (inMode modeHold).filtHold 0 ∧
    countEdge 3 false false false true false ≠ none ∧ countEdge 0 false false false true true = none ∧
    (∀ z ∈ [0, 1, 2, 3], (indexed z).fld (F.TRV_ENn_CFG_ZQUAL 0) = z ∧
      ((indexed z).encOf 0).a = true ∧ ((indexed z).encOf 0).b = true ∧ (indexed z).filtDue 0 = none) := by decide +kernel

/-- A serial sensor input of 25 bits with a read in progress. -/
def reading (n : Nat) : State :=
  let s := (inMode modeHold).setFld (F.TRV_SSn_CFG_BITS n) 25
  s.setSs n { s.ssOf n with reading := some 32, lastRaw := some 7 }

theorem test_witness_LineBreakAndSerialReads : (inMode modeHold).gated = false ∧ ((inMode modeHold).ssOf 0).reading = none ∧
    ((inMode modeHold).setFlag (F.TRV_ENn_CFG_ELEC 0) false).flag (F.TRV_ENn_CFG_ELEC 0) = false ∧
    ((inMode modeHold).setFlag (F.TRV_ENn_CFG_ELEC 0) true).flag (F.TRV_ENn_CFG_ELEC 0) = true ∧
    (inMode modeHold).flag (F.TRV_ENn_CFG_BREAK 0) = false ∧
    ((reading 1).ssOf 1).reading = some 32 ∧ 2 ^ 25 - 1 < 2 ^ (reading 1).ssBits 1 := by decide +kernel

theorem test_witness_LossOfTheSourceInUse :
    ((travelling 0 15).flag F.TRV_STAT_LOST = false ∧ (travelling 0 15).usingInvalid = false ∧
      (travelling 7 15).fld F.TRV_SRC_USING = 7) ∧
    ((travelling 4 15).usingInvalid = true ∧ (travelling 4 15).alt = 15 ∧ (travelling 0 4).sourceValid 4 = false) ∧
    ((travelling 4 0).alt ≠ 15 ∧ (travelling 4 0).sourceValid (travelling 4 0).alt = true ∧
      (travelling 4 0).alt ≠ (travelling 4 0).fld F.TRV_SRC_USING) ∧
    (((travelling 0 15).setFlag F.TRV_STAT_STILL false).still = false ∧ (travelling 3 15).gated = false ∧
      (travelling 3 15).fld F.TRV_SRC_USING < 4 ∧ (((travelling 3 15).setFlag F.TRV_STAT_STILL false).settle 3 (travelling 3 15).clk.cc).still = false ∧
      4 ≤ (travelling 4 15).fld F.TRV_SRC_USING ∧ ((inMode modeHold).setFlag F.TRV_STAT_LOST true).flag F.TRV_STAT_LOST = true) := by decide +kernel

theorem test_witness_BiasWriteIsACorrection :
    (let s := (inMode modeHold).setFld F.TRV_JUMPTHR_THR 100;
      s.boot.halted = false ∧ s.calm = true ∧ ((List.range 4).foldl (fun u n => u.settle n u.clk.cc) s).calm = true ∧ Machine.dist (0#40).toNat (s.fld F.TRV_BIAS_BIAS) = 0 ∧ (Machine.dist (100#40).toNat (s.fld F.TRV_BIAS_BIAS)).natAbs ≤ s.fld F.TRV_JUMPTHR_THR ∧
        s.fld F.TRV_JUMPTHR_THR < (Machine.dist (101#40).toNat (s.fld F.TRV_BIAS_BIAS)).natAbs ∧
        (1#40).toNat ≠ s.fld F.TRV_OFFSET_OFFSET) := by decide +kernel
/-- An input that differs from its state for the third time, and one that agrees. -/
theorem test_witness_MagneticSwitchSample : (inMode modeHold).canonical = true ∧
    (let t := inMode modeHold;
      let s : State := { t with ms := { t.ms with runs := [(3, 2)] } };
      s.boot.halted = false ∧ spGet (fun _ => 0) s.ms.runs 3 ≥ 2 ∧
        bitOf ((8#8).toNat ^^^ s.fld F.TRV_MS_CFG_INV) 3 ≠ bitOf (s.fld F.TRV_MS_STAT_DEB) 3 ∧
        bitOf ((8#8).toNat ^^^ s.fld F.TRV_MS_CFG_INV) 2 = bitOf (s.fld F.TRV_MS_STAT_DEB) 2) := by decide +kernel
/-- Locked for ten minutes, and in holdover. -/
theorem test_witness_HoldoverFollowsLossOfInput :
    (let t := (inMode modeHold).setFld F.TBS_STAT_STATE 1;
      let s : State := { t with clk := { t.clk with lastDisc := some 0, lockRuns := [(secClocks 60, 5)] } };
      s.clk.lastDisc = some 0 ∧ s.fld F.TBS_STAT_STATE = 1 ∧
        (rateSum (secClocks 60) ((s.clk.cc - s.clk.runStart, s.fldI F.TBS_RATE_RATE) :: s.clk.lockRuns)).2 ≠ 0) ∧
    ((inMode modeHold).setFld F.TBS_STAT_STATE 2).fld F.TBS_STAT_STATE = 2 := by decide +kernel

/-- The group key of the tests. -/
def grpKey : GroupKey := { gen := 1, key := 5, at_ := 0 }
/-- The rings of the link, the host and the ledger run and admit 64 records each. -/
def ringsUp (s : State) : State :=
  [56, 57, 58, 59, 60, 63].foldl (fun s q => (s.setQueue q { st := .run }).setFld (F.EVS_Qn_CFG_LIMIT q) 64) s
/-- A node with the link on and the group key held. -/
def keyed (role : Nat) : State :=
  let s := ringsUp (linkNode role)
  { s with key := { s.key with grp := [grpKey] } }
/-- A frame with the tag that the key `k` gives it. -/
def tagged (k : Nat) (f : Frame) : Frame := { f with tag := BitVec.ofNat 64 (tagOf k { f with tag := 0 }) }
theorem tagged_tag (k : Nat) (f : Frame) : (tagged k f).tag.toNat = tagOf k (tagged k f) := by
  simp [tagged, tagOf, cmac64, headerBytes]
/-- A frame whose tag is right passes the checks of its key. -/
theorem auth_passes (s : State) (f : Frame) (k : Nat) (ht : f.tag.toNat = tagOf k f)
    (hk : (if f.bc then s.groupMac f.keyid else s.pairMac f.src f.keyid) = some k)
    (h : (s.linkOn && s.role != roleNone && !badLength f && f.sysid.toNat == s.fld F.SYS_SYSID_SYSID &&
      (f.bc || f.dst.val == s.addr)) = true) : s.checkAuth f = (true, s) := by
  simp only [Bool.and_eq_true, bne_iff_ne, beq_iff_eq, Bool.or_eq_true, Bool.not_eq_true'] at h
  obtain ⟨⟨⟨⟨h1, h2⟩, h5⟩, h3⟩, h4⟩ := h
  rw [State.checkAuth, if_neg (by simp [h1, h2]), if_neg (by simp [h5]), if_neg (by simp [h3]),
    if_neg (by rcases h4 with h | h <;> simp [h]), hk]
  simp [ht]
/-- A frame whose tag is right passes the checks that can be evaluated. -/
theorem rx_passes (s : State) (f : Frame) (form : Bool) (n k : Nat) (ht : f.tag.toNat = tagOf k f)
    (hk : (if f.bc then s.groupMac f.keyid else s.pairMac f.src f.keyid) = some k)
    (h : ((s.linkOn && s.role != roleNone && !badLength f && f.sysid.toNat == s.fld F.SYS_SYSID_SYSID &&
      (f.bc || f.dst.val == s.addr)) && s.seqState f.src f.seq.toNat != 1 && s.seqState f.src f.seq.toNat != 2 && form &&
      f.src.val != s.addr && (n == 0 || s.ringRoom 58 n)) = true) : s.rxChecks f form n = (.accepted, s) := by
  rw [Bool.and_eq_true, Bool.and_eq_true, Bool.and_eq_true, Bool.and_eq_true, Bool.and_eq_true] at h
  obtain ⟨⟨⟨⟨⟨h0, h5⟩, h6⟩, h7⟩, h9⟩, h10⟩ := h
  simp only [bne_iff_ne, beq_iff_eq, Bool.or_eq_true] at h5 h6 h7 h9 h10
  simp only [State.rxChecks, auth_passes s f k ht hk h0, h5, h6, if_false]
  rw [if_neg (by simp [h7, h9]), if_neg (by rcases h10 with h | h <;> simp [h])]
/-- A tagged frame is accepted somewhere. -/
theorem rx_accepts (s : State) (f : Frame) (form : Bool) (n : Nat)
    (hk : (if f.bc then s.groupMac f.keyid else s.pairMac f.src f.keyid) = some 5)
    (h : ((s.linkOn && s.role != roleNone && !badLength f && f.sysid.toNat == s.fld F.SYS_SYSID_SYSID &&
      (f.bc || f.dst.val == s.addr)) && s.seqState f.src f.seq.toNat != 1 && s.seqState f.src f.seq.toNat != 2 && form &&
      f.src.val != s.addr && (n == 0 || s.ringRoom 58 n)) = true) : ∃ u, s.rxChecks (tagged 5 f) form n = (.accepted, u) :=
  ⟨s, rx_passes s (tagged 5 f) form n 5 (tagged_tag 5 f) hk h⟩
def beaconFrm : Frame := tagged 5 { bfrm 1 (List.replicate 29 0) with keyid := 1 }

/-- The state in which the beacon of a head goes out, with `wait` clocks of a busy medium before it. -/
def beaconAt (wait : Nat) : State :=
  let u := (keyed roleActive).takeInstant clsBeaconTx (2 ^ 18) 0
  let v := if wait = 0 then u else u.busy u.clk.cc (u.clk.cc + wait)
  v.advCcTo (v.lnk.busyTo + v.gapCc)

theorem test_witness_BeaconsGiveTravelAndTime :
    (beaconFrm.cls.val = clsBeacon ∧ ∃ u, ((keyed roleSpan).arrive beaconFrm).rxChecks beaconFrm (formOf beaconFrm) 0 = (.accepted, u)) ∧
    ((keyed roleSpan).role = roleSpan ∧ (keyed roleSpan).hd.arb = none ∧ (keyed roleSpan).gated = false ∧
      (keyed roleSpan).fld F.SLK_BCN_EPOCH ≤ bytesAt (List.replicate 29 (0 : Byte)) 20 4 ∧
      ((keyed roleSpan).setFld F.SLK_BCN_EPOCH 1).fld F.SLK_BCN_EPOCH > bytesAt (List.replicate 29 (0 : Byte)) 20 4 ∧
      bitOf (bytesAt (List.replicate 29 (255 : Byte)) 28 1) 5 = true ∧ bitOf (bytesAt (List.replicate 29 (0 : Byte)) 28 1) 5 = false) ∧
    (let s : State := { keyed roleSpan with clk := { (keyed roleSpan).clk with due := some { off := 5, reft := 0, wrap := 0, leap := 18 } } };
      s.clk.due = some { off := 5, reft := 0, wrap := 0, leap := 18 }) ∧
    ((keyed roleActive).isHead = true ∧ (keyed roleActive).linkOn = true ∧ (keyed roleActive).modeNow ≠ modeDormant ∧
      (keyed roleActive).key.grp = grpKey :: [] ∧ (keyed roleActive).hd.first = false) ∧
    (∀ u, u = (keyed roleActive).takeInstant clsBeaconTx (2 ^ 18) 0 → Machine.dist (beaconAt 0).now u.now < (2 ^ 18 : Nat) ∧
      (2 ^ 18 : Nat) ≤ Machine.dist (beaconAt (2 ^ 26)).now u.now) ∧ (keyed roleSpan).isHead = false := by
  refine ⟨⟨by decide +kernel, _, rx_passes _ _ _ _ 5 (tagged_tag 5 _) (by decide +kernel) (by decide +kernel)⟩, ?_⟩
  refine ⟨by decide +kernel, by decide +kernel, by decide +kernel, ?_, by decide +kernel⟩
  rintro u rfl; decide +kernel

/-- A node in HOLD with the baseband in MODE `m`. -/
def gnss (m : Nat) : State := ((inMode modeHold).setFld F.GNB_CFG_MODE m).setFld F.GNB_CFG_BIAS 2

theorem test_witness_AntennaAndInterference : (gnss 1).boot.halted = false ∧ (gnss 1).biased = true ∧
    (let t := gnss 1;
      let s : State := { t with gnb := { t.gnb with antOff := some 0 } };
      s.gnb.antOff = some 0 ∧ s.gnssPowered = true ∧ s.fld F.GNB_CFG_BIAS = 2) ∧ (gnss 1).fld F.GNB_CFG_MODE ≠ 0 ∧
    ((gnss 1).setFlag F.GNB_NCFG_EN false).flag F.GNB_NCFG_EN = false ∧ (gnss 0).fld F.GNB_CFG_MODE = 0 ∧ ((gnss 1).setFld F.GNB_CFG_BIAS 0).biased = false := by decide +kernel
/-- Every channel holds satellite 1, channel `n` at elevation n + 5. -/
def crowded : State :=
  (List.range 48).foldl (fun s n => (s.setFld (F.GNB_CHk_SV n) 1).setFld (F.GNB_CHk_EL n) (n + 5)) ((gnss 1).setFld F.GNB_CFG_ELMASK 0)

theorem test_witness_SatellitesAreAcquiredAndLost : (gnss 1).tracking = true ∧
    (let s := (gnss 1).setFld (F.GNB_CHk_SV 3) 5;
      let s := s.setFld F.GNB_TRK_LOSSCN 20;
      let s := s.setFld (F.GNB_CHk_STATE 3) 2;
      s.detects 1 { noPeak with ratio := s.fld F.GNB_ACQ_ACQTHR } { noPeak with ratio := s.fld F.GNB_ACQ_ACQTHR } = true ∧
        (s.setFld F.GNB_ACQ_ACQTHR 2).detects 1 noPeak noPeak = false ∧
        s.svEnabled 1 = true ∧ s.fld F.GNB_CFG_ELMASK < 90 ∧ svSbas 1 = false ∧ (∀ n, n < 48 → s.chSv n ≠ 1) ∧ s.chSv 0 = 0 ∧
        2 ≤ s.chTrk 3 ∧ 19 < s.fld F.GNB_TRK_LOSSCN ∧ s.tracking = true) ∧
    (crowded.tracking = true ∧ crowded.svEnabled 2 = true ∧ (∀ n, n < 48 → crowded.chSv n ≠ 0 ∧ crowded.chSv n ≠ 2) ∧
      crowded.detects 2 { noPeak with ratio := 65535 } { noPeak with ratio := 65535 } = true ∧
      crowded.lowest (List.range 48) = some 0 ∧ crowded.fld (F.GNB_CHk_EL 0) < 6 ∧ 5 ≤ crowded.fld (F.GNB_CHk_EL 0)) := by
  decide +kernel

/-- Channels 0 to `k` − 1 hold GPS satellites with their data. -/
def fixing (k : Nat) : State :=
  (List.range k).foldl (fun s n => (((s.setFld (F.GNB_CHk_SV n) (n + 1)).setFld (F.GNB_CHk_STATE n) 3).setFld (F.GNB_CHk_CN0 n) 45).setFld (F.GNB_CHk_EL n) 90) ((gnss 1).setFld F.GNB_CFG_ELMASK 0)
/-- What channel `n` measures of a satellite 20,000 km from the antenna at the reference point of the reset state, in direction
(x, y, z)/1000, with `e` mm of error. -/
def sight (n : Fin 48) (x y z e : Int) : ChMeas :=
  { n := n, el := 90, cn0 := 45, nav := true, side := 0, sx := 6378137000 + 20000000 * x, sy := 20000000 * y, sz := 20000000 * z
    rho := 20000000000 + e, dph := 0, dop := 0 }
/-- The measurements of `k` channels, the last of them with error `e`. -/
def sights (k : Nat) (e : Int) : FixMeas :=
  { chans := [sight 0 1000 0 0 0, sight 1 600 800 0 0, sight 2 600 (-800) 0 0, sight 3 600 0 800 (if k = 4 then e else 0),
      sight 4 600 0 (-800) (if k = 5 then e else 0),
      sight 5 800 600 0 (if k = 6 then e else 0), sight 6 800 0 600 (if k = 7 then e else 0)].take k
    sbas := [], gps := 0, leap := 18 }
/-- `k` channels that track, one second after reset. -/
def fixAt (k : Nat) : State := (fixing k).advCc (secClocks 1)
/-- The state in which the fix of the measurements is formed. -/
def fixEp (k : Nat) (m : FixMeas) : State :=
  ((m.sbas.foldl State.takeSbas ((m.chans.foldl State.measureSat ((fixAt k).takeTenth clsFix)).releaseChans)).setFld
    F.GNB_STAT_STATE 2).showTracking
/-- The ranges of that fix. -/
def fixXs (k : Nat) (m : FixMeas) : List Ranged := ((fixEp k m).sats m).map (fixEp k m).ranged

/-- The three outcomes of the residual check, and one satellite too few. -/
theorem test_witness_FixEpochsAreChecked : (fixAt 6).tracking = true ∧ (gnss 0).tracking = false ∧
    fixOf (fixEp 3 (sights 3 0)).fixStart (fixXs 3 (sights 3 0)) (unknownsOf (fixXs 3 (sights 3 0))) = none ∧
    (∀ p, p = (7, (0 : Int), 0) ∨ p = (7, 100000, 1) ∨ p = (6, 100000, 2) → ∃ x,
      fixOf (fixEp p.1 (sights p.1 p.2.1)).fixStart (fixXs p.1 (sights p.1 p.2.1)) (unknownsOf (fixXs p.1 (sights p.1 p.2.1))) = some x ∧
      (match checkFix (fixEp p.1 (sights p.1 p.2.1)).fixStart (fixXs p.1 (sights p.1 p.2.1)) x with
        | .pass _ _ => 0 | .without _ _ _ => 1 | .fail => 2) = p.2.2) := by
  refine ⟨by decide +kernel, by decide +kernel, by decide +kernel, ?_⟩
  rintro p (rfl | rfl | rfl) <;> exact ⟨_, Option.eq_some_iff_get_eq.mpr ⟨by decide +kernel, rfl⟩, by decide +kernel⟩

/-- A snapshot of 2 ms in stage `k`, with space at 0. -/
def snapIn (k : Nat) : Snap := { id := 1, dur := 2, tcap := 2 ^ 20, peer := 0, loc := true, off := 0, stage := k, unacked := [0] }
def snapped (k : Nat) : State :=
  let s := (gnss 2).setFld F.TBS_STAT_STATE 1
  { s with gnb := { s.gnb with snaps := [snapIn k] } }

theorem test_witness_SnapshotsAreCaptured : (snapped 3).gnssPowered = true ∧
    (snapped 3).snapStatus true true (snapped 3).now (0x100000#40).toNat (durOf ((snapped 3).fld F.GNB_SNAPCFG_DUR)) = 0 ∧
    (snapped 3).snapStatus true true (snapped 3).now (0#40).toNat (durOf ((snapped 3).fld F.GNB_SNAPCFG_DUR)) = 1 ∧
    ((snapped 0).gnb.snaps.find? (fun x => x.stage = 0) = some (snapIn 0) ∧ (snapped 0).powersFor (snapIn 0) = true ∧
      ((snapped 0).setFld F.GNB_CFG_MODE 1).powersFor (snapIn 0) = false) ∧
    ((snapped 1).waiting = snapIn 1 :: [] ∧ (snapIn 1).loc = true ∧ (snapped 1).gnssPowered = true) ∧
    (snapped 2).gnb.snaps.find? (fun x => x.stage = 2) = some (snapIn 2) ∧
    ((snapped 3).gnb.snaps.find? (fun x => x.stage = 3) = some (snapIn 3) ∧ (snapIn 3).unacked ≠ []) := by decide +kernel

/-- The head serves towers 3 and 4, with a request to tower 3 whose header has come. -/
def geoServing (done : Option Nat) : State :=
  let s := (((linkNode roleActive).setFld F.GNB_CFG_MODE 3).setFlag (F.GNB_TWRk_CFG_EN 3) true).setFlag (F.GNB_TWRk_CFG_EN 4) true
  let s := s.setSess 3 { cur := some { gen := 1, mac := 1, wrap := 1 } }
  let r : GeoReq := { node := 3, id := 1, dur := 2, off := 0, at_ := 0, hdrCc := some 0, done := done }
  { s with gnb := { s.gnb with reqs := [r], accX := [(3, 0)], served := some 3 } }

theorem test_witness_GeometryServiceRuns :
    (geoServing none).serving = true ∧ nextServed (geoServing none).served (geoServing none).gnb.served = some 4 ∧
    ((geoServing none).sess 4).cur = none ∧
    ((geoServing none).gnb.reqs.find? (fun r => r.node = (3 : Fin 64).val && r.hdrCc.isSome && r.done.isNone)).isSome = true ∧
    (geoServing (some 0)).oldestRecord.isSome = true ∧ (geoServing none).flag (F.GNB_TWRk_CFG_EN (3 : Fin 64)) = true ∧
    ((geoServing none).fld (F.GNB_TWRk_N_STATUS (3 : Fin 64)) ≠ 1 ∧ (geoServing none).fld (F.GNB_TWRk_N_STATUS (3 : Fin 64)) ≠ 4) ∧
    (inMode modeHold).serving = false ∧ (geoServing none).calm = true ∧
    ((geoServing none).gnb.accX.find? (fun q => q.1 == (3 : Fin 64).val)).isSome = true ∧
    (3 : Fin 64).val ≠ (geoServing none).addr ∧ ((geoServing none).sess 3).cur.isSome = true := by decide +kernel

/-! Valve channels, programs and the control engine. -/

/-- Channel 0 in state `st`, with `v` beside its registers. -/
def valved (st : Nat) (v : ValveSt) : State := ((inMode modeHold).setFld (F.VDA_CHn_STAT_STATE 0) st).setValve 0 v

/-- An armature detection, with result `r`, and a resistance measurement whose sums cannot give a value. -/
def detecting (r : Option (Nat × Nat)) : ValveSt :=
  { odet := some { start := 0, peak := true, res := r }, cdet := some { start := 0, peak := false, res := r }
    meas := some { start := 0 } }

/-- A pull-in measured at 24 V, with a current that the first equation of R191 turns into a resistance. -/
def measuring : MeasSt := { start := 0, sums := [(1000, 10), (1500, 10), (1800, 10)], vs := List.replicate 30 24000 }

theorem test_witness_CaptureEdgesAndDetections : (inMode modeHold).gated = false ∧ (inMode modeHold).isOddOfPair 0 = false ∧
    (-256 : Int) ≤ ((inMode modeHold).valve 0).s ∧ (inMode modeHold).running 0 = false ∧
    ((inMode modeHold).setFlag (F.VDA_CHn_SEQ_RUNNING 0) true).running 0 = true ∧
    (let s := (inMode modeHold).setFlag (F.VDA_CHn_CFG_OFFDIAG 0) true;
      s.gated = false ∧ s.chSt 0 = stOff ∧ s.flag (F.VDA_CHn_CFG_OFFDIAG 0) = true) ∧
    (((inMode modeHold).setFld (F.VDA_CHn_CFG_PAIR 0) 1).isOddOfPair 1 = true ∧ (dormant 2 modeDormant).gated = true) ∧
    (((valved stPull (detecting none)).valve 0).odet.isSome = true ∧ ((valved stPull (detecting none)).valve 0).cdet.isSome = true ∧
      ((valved stPull (detecting none)).valve 0).meas.isSome = true ∧ ((valved stPull {}).valve 0).odet = none ∧
      ((valved stPull {}).valve 0).cdet = none ∧ ((valved stPull {}).valve 0).meas = none) ∧
    ((((valved stPull (detecting none)).feed 0 []).valve 0).odet = some { start := 0, peak := true } ∧
      (((valved stPull (detecting (some (1, 88)))).feed 0 []).valve 0).odet.isSome = true ∧
      (((valved stPull (detecting none)).feed 0 []).valve 0).cdet = some { start := 0, peak := false } ∧
      ({ start := 0, peak := true, res := some (1, 88) } : DetSt).final = (1, 88)) ∧
    ((((valved stPull (detecting none)).feed 0 []).valve 0).meas = some { start := 0 } ∧
      (valved stPull (detecting none)).measure 0 { start := 0 } = none) := by decide +kernel
theorem test_witness_ValidMeasurement :
    ((((inMode modeHold).setFld (F.VDA_CHn_DET_WSTART 0) 4095)).measure 0 measuring).isSome = true := by decide +kernel

theorem test_witness_OutputFaultsTurnChannelsOff : (inMode modeHold).govern 0 = 0 ∧ (inMode modeHold).running 0 = false ∧
    ((inMode modeHold).setFlag (F.VDA_CHn_SEQ_RUNNING 0) true).running 0 = true ∧
    (inMode modeHold).calm = true ∧ lastAll (condRun 0) ((inMode modeHold).condHigh 0 0) (List.replicate 20 0) = true ∧
    lastAll (condRun 0) ((inMode modeHold).condHigh 0 0) (List.replicate 20 60000) = false ∧
    lastAll ((inMode modeHold).endRun 2) ((inMode modeHold).condLow 0 2) [194] = true ∧
    lastAll ((inMode modeHold).endRun 2) ((inMode modeHold).condLow 0 2) [195] = false ∧
    lastAll ((dormant 2 modeDormant).endRun 0) ((dormant 2 modeDormant).condLow 0 0) (List.replicate 10 60000) = true ∧
    bitOf ((inMode modeHold).group 0).cond 0 = false ∧ bitOf ({ cond := 1 } : GroupSt).cond 0 = true ∧
    ((valved stPull {}).chSt 0 = stPull ∧ (valved stLatched {}).chSt 0 = stLatched ∧ (valved stPull {}).isOddOfPair 0 = false) ∧
    (((valved stOff { offFrom := some 0 }).valve 0).offFrom = some 0 ∧ (valved stOff {}).chSt 0 = stOff) ∧
    ((valved stSafe {}).chSt 0 = stSafe ∧ (valved stSafe {}).safeNamed 0 = false) ∧
    ((inMode modeHold).modeNow = modeHold ∧ (inMode modeHold).chSt 0 = stOff ∧ (inMode modeHold).chSt 1 = stOff ∧
      bitsOf (0x10#40).toNat 5 4 ≠ (inMode modeHold).fld (F.VDA_CHn_CFG_PAIR 0) ∧ (inMode modeUniform).modeNow ≠ modeHold ∧
      (inMode modeUniform).modeNow ≠ modeCommission) := by decide +kernel

theorem test_witness_CoilModelAndLatencyWrites : (inMode modeHold).canonical = true ∧ (inMode modeHold).gated = false ∧
    ((inMode modeHold).calm = true ∧ ((inMode modeHold).valve 0).tw = none ∧ (inMode modeHold).modeNow ≠ modeBoot) ∧
    (let s := (((((inMode modeHold).setValve 0 { tw := some 20, tb := some 20, qcnt := 1 }).setFld (F.VDA_CHn_TPAR_CW 0) 1).setFld
        (F.VDA_CHn_TPAR_CB 0) 1).setFld (F.VDA_CHn_TPAR_RWB 0) 1).setFld (F.VDA_CHn_TPAR_RBA 0) 1;
      (s.valve 0).tw = some 20 ∧ (s.valve 0).tb = some 20 ∧ (s.valve 0).qcnt ≠ 0 ∧ (s.valve 0).rmPend = none ∧
        s.fld (F.VDA_CHn_TPAR_CW 0) ≠ 0 ∧ s.fld (F.VDA_CHn_TPAR_CB 0) ≠ 0 ∧ s.fld (F.VDA_CHn_TPAR_RWB 0) ≠ 0 ∧
        s.fld (F.VDA_CHn_TPAR_RBA 0) ≠ 0 ∧ s.isOddOfPair 0 = false ∧ (s.setFlag (F.VDA_CHn_TH_EN 0) true).flag (F.VDA_CHn_TH_EN 0) = true ∧
        (s.setFlag (F.VDA_CHn_TH_EN 0) false).flag (F.VDA_CHn_TH_EN 0) = false) ∧
    (inMode modeHold).flag F.VDA_TAMB_SRC ≠ ((inMode modeHold).setFlag F.VDA_TAMB_SRC true).flag F.VDA_TAMB_SRC ∧
    (inMode modeHold).storeFree 0 = true ∧ (valved stPull {}).storeFree 0 = false := by decide +kernel

/-- Channel 0 runs a program of kind `k` that stands at the word `w` at program counter `pc`. -/
def prog (k pc : Nat) (w : Word) : State :=
  (((((inMode modeUniform).setFld (F.VDA_CHn_STAT_STATE 0) stPull).setMemWord (storeAddr 0 pc) w).setFld (F.VDA_CHn_SEQ_KIND 0) k).setFld
    (F.VDA_CHn_SEQ_PC 0) pc).setFlag (F.VDA_CHn_SEQ_RUNNING 0) true

/-- What the statements of the program instructions ask, for opcode `op`. -/
def progOk (s : State) (op : Nat) : Bool :=
  !s.boot.halted && s.ready 0 && !s.opBad 0 && s.opAt 0 == op && decide ((s.valve 0).icount < 4096)

/-- BRANCH: a reserved COND, a TARGET at 63, at 64 always and never taken, and never taken at word 1,023. -/
theorem test_witness_BranchLoadsTheTarget : progOk (prog kOpen 64 0x6700000040#40) 6 = true ∧
    progOk (prog kOpen 64 0x600000003F#40) 6 = true ∧ progOk (prog kOpen 64 0x6000000040#40) 6 = true ∧
    progOk (prog kOpen 1023 0x6100000040#40) 6 = true ∧
    (((prog kOpen 64 0x6000000040#40).setValve 0 { icount := 4096 }).ready 0 = true ∧
      4096 ≤ (((prog kOpen 64 0x6000000040#40).setValve 0 { icount := 4096 }).valve 0).icount) ∧ (prog kOpen 64 0x6100000040#40).flag (F.VDA_CHn_SEQ_WMET 0) = false ∧
    (bitsOf (0x6700000040#40).toNat 35 32 = 7 ∧ bitsOf (0x600000003F#40).toNat 9 0 = 63 ∧
      bitsOf (0x6100000040#40).toNat 35 32 = 1 ∧ bitsOf (0x6100000040#40).toNat 9 0 = 64) := by decide +kernel

theorem test_witness_ProgramInstructionsDoTheirEffect : progOk (prog kOpen 64 0x1000000064#40) 1 = true ∧
    ((prog kOpen 64 0x1000000064#40).valve 0).driven = none ∧ progOk (prog kOpen 64 0x2000000000#40) 2 = true ∧
    (progOk (prog kOpen 64 0x3C00000000#40) 3 = true ∧ bitsOf (0x3C00000000#40).toNat 35 33 = 6) ∧
    (let s := prog kOpen 64 0x3000000000#40;
      progOk s 3 = true ∧ s.waitMet 0 0x3000000000#40 { start := s.clk.cc } = true) ∧
    (let s := prog kOpen 64 0x3000000001#40;
      progOk s 3 = true ∧ s.waitMet 0 0x3000000001#40 { start := s.clk.cc } = false) ∧
    progOk (prog kOpen 64 0x4000000002#40) 4 = true ∧
    (progOk (prog kOpen 64 0#40) 0 = true ∧ (prog kOpen 64 0#40).isBridge 0 = false ∧
      (prog kOpen 64 0#40).fld (F.VDA_CHn_SEQ_KIND 0) = kOpen ∧ (prog kClose 64 0#40).fld (F.VDA_CHn_SEQ_KIND 0) ≠ kOpen) ∧
    (let s := (prog kOpen 64 0x3000000001#40).setValve 0 { wait := some { start := 0 } };
      (s.valve 0).wait.isSome = true ∧ ((s.scanFrom 0 (fun s => s.waitStop 0) []).valve 0).wait = some { start := 0 }) ∧
    (let s := (prog kOpen 64 0x3C00000000#40).setValve 0 { wait := some { start := 0 } };
      2 ≤ bitsOf (0x3C00000000#40).toNat 35 33 ∧
        (s.scanFrom 0 (fun s => s.waitStop 0) []).waitMet 0 0x3C00000000#40 { start := 0 } = false) ∧
    progOk (prog kOpen 1023 0x1000000064#40) 1 = true ∧ ((prog kOpen 64 0#40).valve 0).wait = none := by decide +kernel

/-- A bridge pair, and a single channel whose program turns polarity. -/
theorem test_witness_ProgramErrorsAndReversal : (prog kOpen 64 0#40).isBridge 0 = false ∧
    progOk (prog kOpen 64 0x7000000000#40) 7 = true ∧ progOk (prog kOpen 64 0xF000000000#40) 15 = true ∧
    progOk (prog kOpen 64 0x5000000001#40) 5 = true ∧
    (let s := (prog kOpen 64 0x5000000001#40).setFld (F.VDA_CHn_CFG_PAIR 0) 1;
      (s.isBridge 0 = true ∨ (s.setFld (F.VDA_CHn_CFG_PAIR 0) 2).isBridge 0 = true) ∧
        bitOf (0x5000000001#40).toNat 0 ≠ s.flag (F.VDA_CHn_SEQ_POL 0)) ∧
    (let s := (prog kOpen 64 0x5000000001#40).setValve 0 { revFrom := some 0 };
      let v := s.scanFrom 0 (fun s => s.revStop 0) [];
      (s.valve 0).revFrom = some 0 ∧ (v.fldI (F.VDA_CHn_CUR_CUR 0)).natAbs ≤ 50 ∧ v.nextSlot 0 < 0 + msClocks 20 ∧
        50 < (((s.setFld (F.VDA_CHn_CUR_CUR 0) 51).scanFrom 0 (fun s => s.revStop 0) []).fldI (F.VDA_CHn_CUR_CUR 0)).natAbs) ∧
    (let s : State := { prog kOpen 64 0#40 with chk := [(storeAddr 0 64, 32)] };
      s.ready 0 = true ∧ s.opBad 0 = true ∧ (inMode modeHold).ready 0 = false) ∧
    ((prog kClose 64 0#40).running 0 = true ∧ (prog kClose 64 0#40).fld (F.VDA_CHn_SEQ_KIND 0) ≠ kOpen) := by decide +kernel

/-- Stage `k` in state `st`. -/
def staged (k st : Nat) : State := (inMode modeCommission).setFld (F.CTL_x_STAT_STATE k) st

theorem test_witness_ControlSamplesRunAtStrobes : (dormant 2 modeDormant).gated = true ∧ (inMode modeHold).gated = false ∧
    (inMode modeHold).canonical = true ∧
    (let s := (inMode modeHold).setFld (F.CTL_x_UDk_DEST 0 0) 1;
      (∀ k, k < 3 → s.cst k = csOff ∧ s.flag (F.CTL_x_CFG_EN k) = false) ∧ s.destOf 0 0 = 1 ∧
        (∀ k, k < 3 → ∀ j, j < 2 → s.destOf k j = 1 → k = 0 ∧ j = 0)) ∧
    (let t := (((staged 2 csRun).setFld F.CTL_FE_CFG_FETIME 1).setFld F.CTL_FE_STAT_CNT 4).setFld F.CTL_FE_LIM_FELIM 9;
      let s : State := { t with ctl := { t.ctl with stages := [(2, { t.stg 2 with w := 1000 })] } };
      s.cst 2 = csRun ∧ s.fld F.CTL_FE_CFG_FETIME ≠ 0 ∧ s.mag F.CTL_FE_LIM_FELIM < ((s.stg 2).w - s.yPrim 2).natAbs ∧
        s.fld F.CTL_FE_CFG_FETIME * 4096 ≤ (s.fld F.CTL_FE_STAT_CNT + 1) * 1000) ∧
    State.reset.modeNow = modeBoot ∧ (inMode modeHold).modeNow ≠ modeBoot := by decide +kernel
/-- A sample under way, with coefficient writes to come and `n` fetches begun. -/
def fetching (m : List CoefWrite) (n : Nat) : State :=
  let s := staged 0 csRun
  { s with ctl := { s.ctl with mid := m, fetches := n } }

theorem test_witness_StageStructureIsTakenOnlyOff : ((staged 0 csOff).calm = true ∧ (staged 0 csRun).calm = true) ∧ (staged 0 csOff).cst 0 = csOff ∧ (staged 0 csRun).cst 0 ≠ csOff ∧
    (staged 0 csHeld).cst 0 = csHeld ∧ bitsOf (1#40).toNat (F.CTL_x_UDk_DEST 0 0).hi (F.CTL_x_UDk_DEST 0 0).lo ≠
      (staged 0 csRun).fld (F.CTL_x_UDk_DEST 0 0) ∧ regAt (0x3FFFFF#24).toNat = none ∧
    (let w : CoefWrite := { begun := 1, k := 0, r := 8, c := 0, v := 5 };
      (fetching [w] 1).ctl.mid = [w] ∧ w.begun ≤ (fetching [w] 1).ctl.fetches ∧ (fetching [w] 1).calm = true ∧
        (fetching [w, w] 0).ctl.mid = w :: [w] ∧ (fetching [w, w] 0).ctl.fetches < w.begun) := by decide +kernel

/-- R226: the write that completes in the core clock of the first fetch is used by the second and not by the first. -/
theorem test_coefficient_in_a_sample :
    (State.readWords [(F.CTL_x_Mr_c_w 0 8 0).addr, (F.CTL_x_Mr_c_w 0 8 1).addr]
      (fetching [{ begun := 1, k := 0, r := 8, c := 0, v := 5 }, { begun := 1, k := 0, r := 8, c := 1, v := 7 }] 0)).1 =
      some [0, 7] := by decide +kernel
/-- The condition of GO that the statement names, met and not met. -/
theorem test_witness_TraceAndInjectionControls :
    (let s := (staged 0 csRun).setFld F.CTL_INJ_CFG_STAGE 0;
      s.modeNow = modeCommission ∧ s.fld F.CTL_INJ_CFG_STAGE ≤ 2 ∧ s.cst (s.fld F.CTL_INJ_CFG_STAGE) = csRun ∧
        s.flag F.CTL_INJ_STAT_RUN = false ∧ s.fld F.CTL_INJ_CFG_TYPE ≠ 3 ∧ s.fld F.CTL_INJ_CFG_POINT ≤ 8) ∧
    (inMode modeHold).modeNow ≠ modeCommission ∧
    ((inMode modeHold).setFlag F.CTL_INJ_STAT_RUN true).flag F.CTL_INJ_STAT_RUN = true ∧
    ((inMode modeHold).setFld (F.CTL_TRCb_STAT_STATE 0) trArmed).fld (F.CTL_TRCb_STAT_STATE 0) = trArmed ∧
    ((inMode modeHold).setFld (F.CTL_TRCb_STAT_STATE 0) trDone).fld (F.CTL_TRCb_STAT_STATE 0) = trDone := by decide +kernel

/-- The head waits for the reports of day 5: `n` pulses, and a report of `raw` from itself; every node has reported, or
node 3 has not. -/
def reconciling (n raw : Nat) (nodes : Bool) : State :=
  let s := ((((linkNode roleActive).setFld F.LDG_MLPP_MLPP 65536).setFld F.LDG_REC_DMIN 1).setFld F.LDG_REC_CFMIN 900).setFld
    F.LDG_REC_CFMAX 1100
  let s : State := if nodes then s else { s with key := { s.key with entries := [{ certid := 1, pub := 1, addr := 3, headcap := false }] } }
  { s with led := { s.led with day := some (5, n, 0), reports := [{ node := 0, day := 5, raw := raw }] } }

theorem test_witness_MeteringAndReconciliation :
    (valved stPull { credits := [{ fromCc := 0, est := false }] }).gated = false ∧ (inMode modeHold).canonical = true ∧
    ((inMode modeHold).calm = true ∧ ((valved stPull {}).valve 0).credits = [] ∧ (inMode modeHold).led.day = none) ∧
    (let s := valved stPull { credits := [{ fromCc := 0, est := false }], unknown := true };
      (s.valve 0).unknown = true ∧ (s.valve 0).credits ≠ []) ∧
    ((valved stPull { credits := [{ fromCc := 0, est := false }] }).valve 0).credits ≠ [] ∧
    (inMode modeHold).fld F.TBS_STAT_STATE = 0 ∧
    (let s := (linkNode roleActive).setFld F.TBS_STAT_STATE 1;
      s.fld F.TBS_STAT_STATE ≠ 0 ∧ s.role ≠ roleNone ∧ s.gated = false ∧ s.isHead = true) ∧
    ((reconciling 1000000 1000000 true).led.day = some (5, 1000000, 0) ∧ (reconciling 1000000 1000000 true).isHead = true ∧
      (reconciling 1000000 1000000 true).gated = false) ∧
    (let s := reconciling 1000000 1000000 true;
      s.nodes.all (fun x => (s.led.reports.filter (fun r => r.day == 5)).any (fun r => r.node == x)) = true ∧ s.fld F.LDG_REC_DMIN * 10 ^ 6 ≤ 1000000 ∧
        s.fld F.LDG_REC_CFMIN * 1000000 * 2 ^ 16 ≤ 1000000 * s.fld F.LDG_MLPP_MLPP * 1000 ∧
        1000000 * s.fld F.LDG_MLPP_MLPP * 1000 ≤ s.fld F.LDG_REC_CFMAX * 1000000 * 2 ^ 16) ∧
    (reconciling 1 1 false).nodes.all (fun x =>
      ((reconciling 1 1 false).led.reports.filter (fun r => r.day == 5)).any (fun r => r.node == x)) = false ∧
    (inMode modeHold).led.stage = 0 := by decide +kernel

/-- Stage `k` of a commit, with no record yet. -/
def committing (k : Nat) : State :=
  let s := inMode modeHold
  { s with led := { s.led with stage := k } }

theorem test_witness_CommitStepsFollowTheTable : (committing 0).led.stage = 0 ∧ (committing 0).modeNow ≠ modeBoot ∧
    (committing 0).gated = false ∧ (committing 1).ser.job = none ∧ (committing 1).led.last = [] ∧ (committing 3).led.stage = 3 ∧
    (committing 3).canonical = true ∧ (committing 3).led.cur &&& 6 = 0 ∧ (committing 5).led.torn = false ∧
    (committing 7).flashRead ((committing 7).slotAddr (committing 7).led.slot) (committing 7).led.body.length =
      (committing 7).led.body ∧ (committing 7).led.retry = false ∧
    (let t := committing 7;
      let s : State := { t with led := { t.led with body := [1], retry := true, last := [1] } };
      s.flashRead (s.slotAddr s.led.slot) s.led.body.length ≠ s.led.body ∧ s.led.retry = true ∧ s.led.last ≠ []) ∧
    (let t := (committing 3).setFld (F.VDA_CHn_STAT_STATE 0) stPull;
      let s : State := { t with led := { t.led with cur := 2 } };
      s.led.cur &&& 6 ≠ 0 ∧ s.allQuiet = false) := by decide +kernel
/-- The staging ring has room for a signed record, whatever its signature. -/
theorem test_witness_RecordSigned (body : List Byte) (_h : body = (committing 4).led.body ++ nodeSign (committing 4).led.body) :
    (committing 4).led.stage = 4 ∧ ∃ n, n = ((chunksOf 450 body.length body).map (fun c => nrecFor c.length)).foldl (· + ·) 0 :=
  ⟨by decide +kernel, _, rfl⟩

/-! The link, keys and heads. -/

/-- A session key of generation 1. -/
def pairKey : PairKey := { gen := 1, mac := 5, wrap := 6 }
/-- Node 0 with the group key, a session with node 2 and both nodes' entries; node 2 is head-capable. -/
def peered (role : Nat) : State :=
  let s := (keyed role).setSess 2 { cur := some pairKey }
  { s with key := { s.key with entries := [{ certid := 1, pub := 1, addr := 2, headcap := true }, { certid := 2, pub := 2, addr := 3, headcap := false }] } }

/-- A unicast frame under the session's key, whose tag is right. -/
def sealed (c : Fin 16) (pl : List Byte) : Frame := tagged 5 { frm c pl with keyid := 1 }

/-- A window of node 2 in which SEQ `h` is the highest and only one received. -/
def windowed (h : Nat) : State := ((peered roleSpan).setFld (F.SLK_PEERp_LNK_HSEQ 2) h).setFld (F.SLK_PEERp_WIN_MAP 2) 1

/-- One frame of each row: its class and the shortest payload of its form. -/
def rowFrames : List (Fin 16 × List Byte) :=
  [(2, List.replicate 8 0), (3, List.replicate 3 0), (4, List.replicate 7 0), (9, List.replicate 12 0)]

theorem test_witness_ReceivedFramesAreChecked : (peered roleSpan).linkOn = true ∧ (peered roleSpan).role ≠ roleNone ∧
    (linkNode roleNone).role = roleNone ∧ (inMode modeHold).linkOn = false ∧
    ((frm 2 []).sysid.toNat = (peered roleSpan).fld F.SYS_SYSID_SYSID ∧ (frm 2 []).dst.val = (peered roleSpan).addr ∧
      ({ frm 2 [] with sysid := 1 } : Frame).sysid.toNat ≠ (peered roleSpan).fld F.SYS_SYSID_SYSID ∧
      ({ frm 2 [] with dst := 1 } : Frame).dst.val ≠ (peered roleSpan).addr) ∧
    (let f := frm 2 (List.replicate 8 0);
      (BitVec.ofNat 8 (fcChk f)).toNat = fcChk f ∧ (BitVec.ofNat 32 (crcOf f)).toNat = crcOf f ∧
        (BitVec.ofNat 8 (fcChk f + 1)).toNat ≠ fcChk f ∧ (BitVec.ofNat 32 (crcOf f + 1)).toNat ≠ crcOf f ∧ badLength f = false ∧
        badLength { f with nbyte := 29 } = true) ∧
    ((peered roleSpan).pairMac 2 0 = none ∧ (peered roleSpan).pairMac 2 1 = some 5 ∧ (peered roleSpan).groupMac 1 = some 5) ∧
    ((windowed 1).seqState 2 1 = 1 ∧ (windowed 33).seqState 2 1 = 2 ∧ (peered roleSpan).seqState 2 1 = 0) ∧
    (rowFrames.all (fun p => formOf (frm p.1 p.2) && !formOf (frm p.1 [1])) = true ∧ (frm 2 []).src.val ≠ (peered roleSpan).addr) ∧
    (q58Records (frm 2 (List.replicate 8 0)) ≠ 0 ∧ (peered roleSpan).ringRoom 58 2 = true ∧
      ((peered roleSpan).setFld (F.EVS_Qn_CFG_LIMIT 58) 0).ringRoom 58 2 = false) := by decide +kernel
/-- A tag that is right, and one that is not. -/
theorem test_witness_Tags (f : Frame) : (tagged 5 f).tag.toNat = tagOf 5 (tagged 5 f) ∧
    ∃ t : BitVec 64, ({ f with tag := t } : Frame).tag.toNat ≠ tagOf 5 { f with tag := t } := by
  refine ⟨tagged_tag 5 f, BitVec.ofNat 64 (tagOf 5 f + 1), ?_⟩
  have h : tagOf 5 { f with tag := BitVec.ofNat 64 (tagOf 5 f + 1) } = tagOf 5 f := rfl
  have hlt : tagOf 5 f < 2 ^ 64 := Nat.mod_lt _ (by decide +kernel)
  rw [h]; simp; omega

/-- A stream item of class `c` from node 2 at the front of Q58, or in a transmit ring for node 2. -/
def holding (q : Nat) (s : State) (c : Nat) (pl : List Byte) : State := s.pushItem q (streamWords q 2 c false 0 7 pl) []

theorem test_witness_AcceptedFramesHaveTheirEffect :
    (∃ u, ((peered roleSpan).arrive (sealed 5 (List.replicate 15 0))).rxChecks (sealed 5 (List.replicate 15 0))
      (formOf (sealed 5 (List.replicate 15 0))) 0 = (.accepted, u)) ∧
    (List.replicate 7 (0 : Byte)).length % 5 = 2 ∧
    ((peered roleSpan).ringRoom 63 ((4 + (7 - 2) / 5) / 3) = true ∧
      ((peered roleSpan).setFld (F.EVS_Qn_CFG_LIMIT 63) 0).ringRoom 63 ((4 + (7 - 2) / 5) / 3) = false) ∧
    ((peered roleSpan).fromHead 2 = false ∧
      (let t := peered roleSpan;
        let s : State := { t with lnk := { t.lnk with head := some 2 } };
        let p := add40 (s.nextInstant clsProfile (2 ^ 17) 0) (-(2 ^ 17 : Int));
        s.fromHead 2 = true ∧ Machine.dist (bytesAt (toBytes 6 (p - 1)) 1 5) p < 0 ∧ bytesAt (toBytes 6 p) 1 5 = p ∧
          0 ≤ Machine.dist (bytesAt (toBytes 6 (p + 1)) 1 5) p ∧ bytesAt (toBytes 6 (p + 1)) 1 5 ≠ p)) ∧
    ((peered roleSpan).isHead = false ∧ (peered roleActive).isHead = true ∧
      ((peered roleSpan).setFld F.LDG_PCFG_PNODE 2).fld F.LDG_PCFG_PNODE = 2) ∧
    ((peered roleSpan).rxHead clsWrite = none ∧ ((holding 58 (peered roleSpan) 2 (toBytes 8 0)).rxHead clsWrite).isSome = true ∧
      ((holding 58 (peered roleSpan) 3 [0, 0, 0]).rxHead clsRead).isSome = true) := by
  exact ⟨rx_accepts _ _ _ _ (by decide +kernel) (by decide +kernel), by decide +kernel⟩
/-- A push that its queue admits, and one that it does not. -/
theorem test_witness_PushAdmission :
    ((assembling [] none).setFlag F.SLK_CFG_EN true).admitCode 2 0
      [0x1000000040#40, 1, 0] = 0 ∧ (linkNode roleSpan).admitCode 2 0 [0x1000000000#40, 1, 0] ≠ 0 := by decide +kernel

/-- A frame for node 2 is outstanding in phase `k` with `m` misses. -/
def outstanding (k m : Nat) : State :=
  let s := peered roleSpan
  { s with lnk := { s.lnk with outs := [{ ring := 57, dst := 2, cls := 2, seq := 7, payload := [], phase := k, at_ := 0, misses := m }] } }

/-- A WRITE waits in Q57, and its ring is the only one that contends. -/
theorem test_witness_Access : (peered roleSpan).contend.winsAccess 57 = false ∧
    (let s := holding 57 (peered roleSpan) 2 (toBytes 8 0);
      s.contend.winsAccess 57 = true ∧ (s.contend.accessAt 57).isSome = true) := by decide +kernel
theorem test_witness_FramesAreSentAndAcknowledged : (peered roleSpan).heldForLink = false ∧ (peered roleSpan).calm = true ∧
    ((peered roleSpan).items 57).find? (fun i => (peered roleSpan).mayGo 57 (itemOf i)) = none ∧
    (((holding 57 (peered roleSpan) 2 (toBytes 8 0)).items 57).find?
      (fun i => (holding 57 (peered roleSpan) 2 (toBytes 8 0)).mayGo 57 (itemOf i))).isSome = true ∧
    ((outstanding 0 0).outTo (2 : Fin 64)).isSome = true ∧ 0 < ((outstanding 0 0).setFld F.SLK_CFG_RETRY 1).fld F.SLK_CFG_RETRY ∧
    (outstanding 0 15).fld F.SLK_CFG_RETRY ≤ 15 ∧ ((outstanding 2 0).outTo (2 : Fin 64)).isSome = true ∧
    (peered roleSpan).outTo (2 : Fin 64) = none ∧
    ((peered roleSpan).linkOn = true ∧ (peered roleSpan).flag F.SLK_STAT_CSIGN = false) ∧
    ((peered roleSpan).flag F.SLK_HSTAT_BUSY = false ∧
      ((peered roleSpan).setFlag F.SLK_HSTAT_BUSY true).flag F.SLK_HSTAT_BUSY = true ∧
      bitsOf (0#40).toNat 39 34 = (peered roleSpan).addr ∧ bitsOf (0x0882000000#40).toNat 39 34 ≠ (peered roleSpan).addr ∧
      bitsOf (0x0882000000#40).toNat 33 30 = 2 ∧ bitsOf (0x0882000000#40).toNat 29 22 = 8) ∧
    ((peered roleSpan).lnk.wait = [] ∧ (peered roleSpan).ringRoom 57 (nrecFor 8) = true ∧
      ((peered roleSpan).setFld (F.EVS_Qn_CFG_LIMIT 57) 0).ringRoom 57 (nrecFor 8) = false) ∧
    (dormant 2 modeDormant).gated = true ∧ (peered roleSpan).gated = false := by decide +kernel
theorem test_witness_AckChecks : ∃ f u, f.cls.val = clsAck ∧ ((outstanding 0 0).arrive f).checkAuth f = (true, u) ∧
    f.bc = false ∧ f.payload.length = 5 ∧ f.src.val ≠ (outstanding 0 0).addr ∧ f.seq.toNat = 7 ∧ bytesAt f.payload 0 1 = 1 := by
  refine ⟨tagged 5 { frm 0 [1, 0, 0, 9, 40] with keyid := 1, seq := 7 }, (outstanding 0 0).arrive _, by decide +kernel,
    auth_passes _ _ 5 (tagged_tag 5 _) (by decide +kernel) (by decide +kernel), by decide +kernel⟩

/-- An exchange with node 2, by `own` start, in stage `st` after `tr` messages. -/
def exchanging (role : Nat) (own : Bool) (st tr : Nat) (ks : Option PairKey) : State :=
  let s := peered role
  { s with key := { s.key with kx := [{ peer := 2, init := own, gen := 1, fresh := true, eph := 1, stage := st, at_ := 0, tries := tr, keys := ks }] } }

/-- A KEYX broadcast of TYPE `t` for node 0 with GEN 1. -/
def kxFrm (t : Byte) (rest : List Byte) : Frame := bfrm 12 ([t, 0, 1, 1] ++ rest)

theorem test_witness_PairKeysAreExchanged : (peered roleSpan).linkOn = true ∧ (peered roleSpan).gated = false ∧
    ((peered roleStandby).setSess 2 {}).role = roleStandby ∧ (((peered roleStandby).setSess 2 {}).sess (2 : Fin 64)).cur = none ∧
    (peered roleStandby).key.barred.find? (fun p => p.1 == 2) = none ∧ (peered roleSpan).exchange (2 : Fin 64) = none ∧
    (peered roleSpan).entryOf 5 = none ∧ ((peered roleSpan).entryOf (2 : Fin 64)).isSome = true ∧
    ((exchanging roleSpan true 1 1 none).exchange (2 : Fin 64)).isSome = true ∧
    (isKeyx (kxFrm 1 (List.replicate 144 0)) 1 = true ∧ (kxFrm 1 (List.replicate 144 0)).payload.length = 148 ∧
      tgtOf (kxFrm 1 (List.replicate 144 0)).payload = (peered roleSpan).addr ∧ (kxFrm 1 []).payload.length ≠ 148 ∧
      tgtOf ([1, 5] : List Byte) ≠ (peered roleSpan).addr ∧ (kxFrm 1 []).tag = 0 ∧ (frm 12 []).bc = false) ∧
    ((exchanging roleSpan true 1 1 none).addr < (kxFrm 1 []).src.val ∧
      (exchanging roleSpan false 2 1 (some pairKey)).entryOf (kxFrm 1 []).src = some { certid := 1, pub := 1, addr := 2, headcap := true }) ∧
    (isKeyx (kxFrm 2 (List.replicate 144 0)) 2 = true ∧ isKeyx (kxFrm 3 (List.replicate 8 0)) 3 = true ∧
      isKeyx (kxFrm 4 (List.replicate 8 0)) 4 = true ∧ (kxFrm 3 (List.replicate 8 0)).payload.length = 12) ∧
    (((peered roleSpan).arrive (kxFrm 1 [])).engineFree = true ∧ (peered roleSpan).key.work = [] ∧
      badLength (kxFrm 1 (List.replicate 144 0)) = false ∧
      (let s : State := { peered roleSpan with key := { (peered roleSpan).key with work := List.replicate 8 (kxFrm 3 []), engTo := 10 ^ 9 } };
        8 ≤ s.key.work.length ∧ (s.arrive (kxFrm 1 [])).engineFree = false)) ∧
    (((peered roleSpan).setSess 2 { cur := some pairKey, old := some pairKey }).sess (2 : Fin 64)).old = some pairKey ∧
    bitsOf (0x200#40).toNat 13 8 = (2 : Fin 64).val ∧ (peered roleSpan).addr < (2 : Fin 64).val ∧
    (peered roleSpan).fld F.KEY_CFG_REKEY ≠ ((peered roleSpan).setFld F.KEY_CFG_REKEY 0).fld F.KEY_CFG_REKEY := by decide +kernel
/-- A CONF that matches, and one that does not: eight bytes spell the number they are made of. -/
theorem bytesAt_conf (a b c d : Byte) (x : Nat) (h : x < 2 ^ 64) : bytesAt ([a, b, c, d] ++ toBytes 8 x) 4 8 = x := by
  simp [bytesAt, toBytes, ofBytes]; omega
theorem test_witness_Conf (k : PairKey) (n : Nat) (k1 k2 : List Byte) :
    (∃ r, bytesAt ([(3 : Byte), 0, 1, 1] ++ r) 4 8 = confOf k n k1 k2 ∧ r.length = 8) ∧
    ∃ r, bytesAt ([(3 : Byte), 0, 1, 1] ++ r) 4 8 ≠ confOf k n k1 k2 ∧ r.length = 8 := by
  have h : confOf k n k1 k2 < 2 ^ 64 := Nat.mod_lt _ (by decide +kernel)
  refine ⟨⟨toBytes 8 (confOf k n k1 k2), bytesAt_conf _ _ _ _ _ h, rfl⟩, toBytes 8 ((confOf k n k1 k2 + 1) % 2 ^ 64), ?_, rfl⟩
  rw [bytesAt_conf _ _ _ _ _ (Nat.mod_lt _ (by decide +kernel))]; omega
/-- The signature of a clause is right or wrong; whichever it is, one of the two clauses speaks of it. -/
theorem test_witness_Signature (pub : Nat) (t : List Byte) (s p : Nat) :
    ∃ good, good = (verifySig pub t s && ecOn (pointOf p)) := ⟨_, rfl⟩

/-- A node held in BOOT that listens to the link. -/
def heldNode (c : Option Nat) : State :=
  let s := ((atStep 7).setFlag F.MOD_STAT_HELD true).setFld F.MOD_BOOT_HOLDWHY 4
  { s with lnk := { s.lnk with certAt := c } }

theorem test_witness_GroupKeysAndEnrollment :
    (∃ u, ((peered roleSpan).arrive (sealed 12 ([5, 2] ++ List.replicate 24 0))).rxChecks (sealed 12 ([5, 2] ++ List.replicate 24 0)) true 0 = (.accepted, u)) ∧
    (isKeyx (sealed 12 ([5, 2] ++ List.replicate 24 0)) 5 = true ∧ ((peered roleSpan).sess (2 : Fin 64)).cur = some pairKey ∧
      pairKey.gen = (1 : Fin 4).val) ∧
    (let s := (peered roleSpan).setSess 2 { old := some pairKey };
      (s.sess 2).cur = none ∧ (s.sess 2).old = some pairKey) ∧
    ((peered roleActive).isHead = true ∧ (peered roleSpan).isHead = false ∧ (peered roleActive).key.next = none ∧
      ((peered roleActive).setFld F.KEY_CFG_REKEY 24).fld F.KEY_CFG_REKEY ≠ 0) ∧
    (let t := peered roleActive;
      let s : State := { t with key := { t.key with next := some grpKey, grp := [grpKey, grpKey, grpKey] } };
      s.key.next = some grpKey ∧ (∃ p ∈ s.sessionPeers, p ∉ s.key.acked) ∧ s.key.grp = grpKey :: grpKey :: [grpKey]) ∧
    (∀ p ∈ (keyed roleActive).sessionPeers, p ∈ (keyed roleActive).key.acked) ∧ (keyed roleActive).key.grp.length ≤ 1 ∧
    ((heldNode none).heldForLink = true ∧ (peered roleSpan).heldForLink = false ∧ formOf (bfrm 11 [1, 0]) = false ∧
      (bfrm 11 []).tag = 0 ∧ (heldNode (some 0)).lnk.certAt = some 0 ∧ (heldNode (some 0)).clk.cc < 0 + secClocks 10 ∧
      ¬ ((heldNode (some 0)).advCc (secClocks 10)).clk.cc < 0 + secClocks 10) ∧
    ((peered roleActive).setFlag F.KEY_CFG_ENRRX true).flag F.KEY_CFG_ENRRX = true ∧
    (peered roleSpan).flag F.KEY_CFG_ENRRX = false ∧ bitOf (0x204#40).toNat 0 = false ∧ bitOf (0x204#40).toNat 1 = false ∧
    (peered roleSpan).ringRoom 57 3 = true := by
  exact ⟨rx_accepts _ _ _ _ (by decide +kernel) (by decide +kernel), by decide +kernel⟩

/-- A standby that last heard a beacon at 0, fit to take over or not. -/
def standing (fit : Bool) : State :=
  let s := if fit then (peered roleStandby).setFld F.TBS_STAT_STATE 1 else peered roleStandby
  { s with hd := { s.hd with bcnCc := some 0, arb := some 0 } }

theorem test_witness_HeadsTakeOverAndYield :
    (∃ u, ((peered roleActive).arrive (sealed 10 [3, 0, 0, 0, 9])).rxChecks (sealed 10 [3, 0, 0, 0, 9]) true (nrecFor 5) = (.accepted, u)) ∧
    (∃ u, ((peered roleStandby).arrive (sealed 10 [4, 0, 0, 0, 9, 0, 0])).rxChecks (sealed 10 [4, 0, 0, 0, 9, 0, 0]) true (nrecFor 7) = (.accepted, u)) ∧
    ((standing true).role = roleStandby ∧ (standing true).hd.bcnCc = some 0 ∧
      (standing true).hd.arb = some 0 ∧ (standing true).fit = true ∧ (standing false).fit = false) ∧
    ((peered roleStandby).hd.bcnCc = none ∧ (peered roleStandby).hd.arb = none) ∧
    (isEpoch (sealed 10 [3, 0, 0, 0, 9]) 3 = true ∧ isEpoch (sealed 10 [4, 0, 0, 0, 9, 0, 0]) 4 = true) ∧
    ((peered roleActive).gated = false ∧ (peered roleActive).outranked 9 2 = true ∧
      ((peered roleActive).setFld F.SYS_HEAD_EPOCH_EPOCH 9).outranked 9 2 = false) ∧
    ((peered roleSpan).role ≠ roleActive ∧ (peered roleSpan).role ≠ roleStandby) ∧
    (let t := peered roleActive;
      let s : State := { t with hd := { t.hd with syncT := some 0 } };
      s.isHead = true ∧ s.synced = true ∧ t.synced = false) := by
  exact ⟨rx_accepts _ _ _ _ (by decide +kernel) (by decide +kernel), rx_accepts _ _ _ _ (by decide +kernel) (by decide +kernel),
    by decide +kernel⟩

/-- A standby that assembles epoch 9, REP 1, with the segments `ss`. -/
def assemblingEpoch (ss : List (Nat × List Byte)) : State :=
  let s := peered roleStandby
  { s with hd := { s.hd with asm := some { e := 9, rep := 1, segs := ss } } }
def manifestOf (n len crc : Nat) : List Byte :=
  [2] ++ toBytes 4 9 ++ toBytes 2 1 ++ toBytes 1 n ++ toBytes 2 len ++ toBytes 4 crc ++ toBytes 5 0 ++ toBytes 5 0 ++ [0]

theorem test_witness_EpochsAreReplicated : ((peered roleActive).otherHead = some 2 ∧ ((peered roleActive).sess 2).cur.isSome = true ∧
      (peered roleActive).hd.sending = none ∧ (keyed roleActive).otherHead = none) ∧
    (∃ u, ((peered roleStandby).arrive (sealed 10 ([1] ++ toBytes 4 9 ++ [0, 1, 1, 0]))).rxChecks (sealed 10 ([1] ++ toBytes 4 9 ++ [0, 1, 1, 0])) true (nrecFor 9) = (.accepted, u)) ∧
    (isEpoch (sealed 10 ([1] ++ toBytes 4 9 ++ [0, 1, 1, 0])) 1 = true ∧ bytesAt ([1] ++ toBytes 4 9 ++ [0, 1, 1, 0]) 1 4 = 9 ∧
      bytesAt ([1] ++ toBytes 4 9 ++ [0, 1, 1, 0]) 5 2 = 1) ∧
    (∃ u, ((assemblingEpoch []).arrive (sealed 10 (manifestOf 0 0 0))).rxChecks (sealed 10 (manifestOf 0 0 0)) true (nrecFor 25) = (.accepted, u)) ∧
    ((manifestOf 0 0 0).length = 25 + 5 * bytesAt (manifestOf 0 0 0) 24 1 ∧ crc32 [] = bytesAt (manifestOf 0 0 0) 10 4 ∧
      ((assemblingEpoch []).hd.asm.map (fun y => y.segs.map (·.1))) = some ((List.range 0).map (· + 1)) ∧
      (assemblingEpoch []).fld F.SYS_HEAD_EPOCH_EPOCH ≤ 9 ∧
      9 < ((assemblingEpoch []).setFld F.SYS_HEAD_EPOCH_EPOCH 10).fld F.SYS_HEAD_EPOCH_EPOCH ∧
      crc32 [] ≠ bytesAt (manifestOf 0 0 1) 10 4) := by
  exact ⟨by decide +kernel, rx_accepts _ _ _ _ (by decide +kernel) (by decide +kernel), by decide +kernel,
    rx_accepts _ _ _ _ (by decide +kernel) (by decide +kernel), by decide +kernel⟩

/-! The block mover, the memory, the ports and the registers. -/

/-- Channel 1 runs the descriptor `w0` to `w3`, written by the host, with `x` beside its registers. -/
def moving (w0 w1 w2 w3 : Word) (x : MovSt) : State :=
  (((((((inMode modeHold).setReg 0x1719 w0).setReg 0x171A w1).setReg 0x171B w2).setReg 0x171C w3).setFld (F.BMV_Dn_CTL_STATE 1) mvRun).setFld
    F.LDG_CFG_DCH 7).setMov 1 x

/-- FILL of the word at 30000h. -/
def filling (next : Nat) (st : Bool) : State :=
  moving 0x5000000005#40 0xAB#40 (BitVec.ofNat 40 (5 * 0x30000)) (BitVec.ofNat 40 (next * 2 ^ 16)) { stop := st }

theorem test_witness_DescriptorsStartAndEnd :
    ((atStep 7).movOwned (0 : Fin 8) = true ∧ (filling 0 false).movOwned (1 : Fin 8) = false ∧ (filling 0 false).movRuns (1 : Fin 8) = true ∧
      ((inMode modeHold).setFld F.LDG_CFG_DCH 7).movRuns (1 : Fin 8) = false) ∧
    ((filling 0 false).gated = false ∧ (filling 0 false).portBusyFor 1 = false ∧
      ((moving 0#40 0#40 0#40 0#40 { res := some (3, 0) }).movOf 1).res = some (3, 0)) ∧
    (let s := filling 0x38000 false;
      let d := s.desc 1;
      d.skind = kFill ∧ d.dkind = kMem ∧ d.len = 5 ∧ d.dadr = 5 * 0x30000 ∧ inMap 0x30000 = true ∧ s.inActiveBank 0x30000 = false ∧
        s.movOf 1 = { stop := false } ∧ s.fld (F.BMV_Dn_DONE_BYTES 1) = 0 ∧ d.next = 0x38000 ∧
        ∀ i, i < 4 → s.chkAt (d.next + i) = 0) ∧
    (((filling 0 false).desc 1).next = 0 ∧ ((filling 0x37FFF false).desc 1).next < 0x38000 ∧
      0x3FFFC < ((filling 0x3FFFD false).desc 1).next ∧ ((filling 0x3FFFC true).movOf 1).stop = true) := by decide +kernel

theorem test_witness_PatrolAndDiagnosticPath :
    ((inMode modeHold).setFlag F.MIN_CFG_PATEN false).flag F.MIN_CFG_PATEN = false ∧ State.reset.boot.march = true ∧
    (let s := (inMode modeHold).setFlag F.MIN_CFG_PATEN true;
      s.flag F.MIN_CFG_PATEN = true ∧ s.modeNow ≠ modeDormant ∧ s.boot.march = false ∧ s.fld F.MIN_PATPOS_ROW + 1 < sramRows ∧
        sramRows ≤ (s.setFld F.MIN_PATPOS_ROW (sramRows - 1)).fld F.MIN_PATPOS_ROW + 1 ∧
        rowAddr 0 = some 0x4000 ∧ (s.sramData 0x4000).2 = 0 ∧
        ({ s with chk := [(0x4000, 3)] } : State).sramData 0x4000 = (0, 3) ∧ ({ s with chk := [(0x4000, 32)] } : State).sramData 0x4000 = (0, 32)) ∧
    (inMode modeHold).calm = true ∧
    (let s := (inMode modeHold).setFld F.MIN_DADDR_ADDR 0x4000;
      inSram (s.fld F.MIN_DADDR_ADDR) = true ∧ s.modeNow = modeHold ∧ inSram ((inMode modeHold).fld F.MIN_DADDR_ADDR) = false ∧
        (inMode modeUniform).modeNow ≠ modeHold) := by decide +kernel

/-- The port carries `j` out of BOOT. -/
def porting (s : State) (j : PortJob) : State := { s with ser := { s.ser with job := some j } }

theorem test_witness_PortTransfersRunToTheirEnd :
    (bitsOf (0x400000#40).toNat 23 22 ≠ 0 ∧ bitsOf (0#40).toNat 23 22 = 0 ∧
      bitsOf (((inMode modeHold).setFld (F.SER_PP_TXk_TX 0) 0x03).fld (F.SER_PP_TXk_TX 0)) 7 0 = 0x03 ∧
      bitsOf (((inMode modeHold).setFld (F.SER_PP_TXk_TX 0) 0x02).fld (F.SER_PP_TXk_TX 0)) 7 0 = 0x02) ∧
    ((inMode modeHold).calm = true ∧ (inMode modeHold).flag F.SER_PP_RAW_BUSY = false ∧ (inMode modeHold).modeNow ≠ modeDormant ∧
      (inMode modeDormant).modeNow = modeDormant ∧ (inMode modeHold).ser.job = none ∧ (inMode modeHold).led.stage = 0 ∧
      (inMode modeHold).loaderRuns = false ∧ (inMode modeHold).gated = false ∧
      ((inMode modeHold).setFlag F.SER_PP_RAW_BUSY true).flag F.SER_PP_RAW_BUSY = true) ∧
    (let j : PortJob := { own := 3, sel := 1, start := 0 };
      (porting (inMode modeHold) j).ser.job = some j ∧ j.poll = false ∧ j.own = 3 ∧ j.sel < 4) ∧
    (let s := (inMode modeHold).setFld (F.SER_PP_TXk_TX 0) 6;
      let s := s.setFld F.SER_PP_RAW_UNITM1 7;
      s.rawBits = 8 ∧ s.fld F.SER_PP_RAW_NM1 + 1 = 1 ∧ s.fld (F.SER_PP_TXk_TX 0) % 256 = 6) ∧
    (let j : PortJob := { own := 4, ch := 1, sel := 0, start := 0 };
      let s := porting (moving 0x5100000005#40 0xAB#40 0x1000#40 0#40 {}) j;
      s.ser.job = some j ∧ s.movRuns 1 = true ∧ (s.movOf 1).res = none ∧ (s.movOf 1).funnel = [] ∧
        (s.movOf 1).taken = s.fld (F.BMV_Dn_DONE_BYTES 1) ∧ (s.movOf 1).taken < (s.desc 1).len ∧ (s.desc 1).dkind = kPort ∧
        (s.desc 1).skind = kFill) ∧
    (let s := moving 0x1000000005#40 0#40 (BitVec.ofNat 40 (5 * 0x30000)) 0#40 {};
      (s.desc 1).skind = kPort ∧ (s.desc 1).dkind = kMem ∧ (s.desc 1).len = 5 ∧ (s.desc 1).dadr = 5 * 0x30000 ∧
        s.inActiveBank 0x30000 = false) ∧
    (let j : PortJob := { own := 4, ch := 1, sel := 0, start := 0, poll := true, polls := 60, sent := [1] };
      (porting (inMode modeHold) j).ser.job = some j ∧ j.polls ≤ 60 ∧ j.poll = true) ∧
    ((committing 5).ser.job = none ∧ (committing 5).led.stage = 5 ∧ (committing 4).led.stage ≠ 5) := by decide +kernel

theorem test_witness_ServiceFramesAreAnswered : State.reset.marchBusy (0x4000#24).toNat = true ∧
    (inMode modeHold).marchBusy (0x4000#24).toNat = false ∧ (inMode modeHold).ser.reply = none ∧
    (inMap (0x30000#24).toNat = true ∧ (inMode modeHold).chkAt (0x30000#24).toNat = 0 ∧
      (inMode modeHold).inActiveBank (0x30000#24).toNat = false) ∧
    (regAt (0x3FFFFF#24).toNat = none ∧ inWindow (0x3FFFFF#24).toNat = false) ∧
    ((0x111#24).toNat = 0x111 ∧ bitsOf (0xC35A#40).toNat 15 0 = 0xC35A) ∧ (0x01#8) ≠ 0x00 ∧ (0x01#8) ≠ 0x3C ∧ (0x01#8) ≠ 0xC3 ∧
    ((inMode modeHold).ser.rel = none ∧
      (let t := inMode modeHold;
        let s : State := { t with ser := { t.ser with rel := some 0 } };
        s.ser.rel = some 0 ∧ s.clk.cc + 1 < 0 + usClocks 2 + 1 ∧ 0 + usClocks 2 + 1 ≤ s.clk.cc + (usClocks 2 + 1))) := by decide +kernel

/-- Source `srcGroupUv`, instance 0, latched, with its condition or without. -/
def latchedUv (c : Nat) : State :=
  let s := inMode modeHold
  { s with flt := { s.flt with latched := [(instKey srcGroupUv 0, true)] }, groups := [(0, { cond := c })] }

theorem test_witness_FaultsAreClearedAndConfigured : (latchedUv 1).flt.clears = [] ∧
    (inMode modeHold).calm = true ∧ (let t := latchedUv 1;
      let s : State := { t with flt := { t.flt with clears := [srcDual * 64], latched := [(instKey srcDual 0, true)] } };
      s.flt.clears = [srcDual * 64 + 0] ∧ s.isLatched srcDual 0 = true ∧ s.condition srcDual 0 ≠ some true ∧
        (latchedUv 1).isLatched srcDual 0 = false) ∧
    (inMode modeHold).isLatched srcGroupUv 0 = false ∧ (latchedUv 1).isLatched srcGroupUv 0 = true ∧
    (latchedUv 1).condition srcGroupUv 0 = some true ∧ (latchedUv 0).condition srcGroupUv 0 ≠ some true ∧
    bitsOf (BitVec.ofNat 40 (srcGroupUv * 64)).toNat 11 6 = srcGroupUv ∧ bitOf (0x1000#40).toNat 12 = true ∧
    (ringsUp (inMode modeHold)).ringRoom 59 2 = true ∧ (inMode modeHold).flt.latched = [] ∧
    (let s := (inMode modeHold).setFlag (F.FSV_SRCs_LIM_ACTLOCK 1) true;
      s.modeNow ≠ modeBoot ∧ s.flag (F.FSV_SRCs_LIM_ACTLOCK 1) = true ∧ 
        bitsOf (BitVec.ofNat 40 (2 ^ 13 * (7 - s.fld (F.FSV_SRCs_CFG_ACT 1)))).toNat 15 13 ≠ s.fld (F.FSV_SRCs_CFG_ACT 1)) := by decide +kernel

theorem test_witness_WritesFollowAccessCodes : (inSlk 0x1600 = true ∨ inKey 0x1600 = true) ∧
    (inSlk 0x30000 = false ∧ inKey 0x30000 = false) ∧ (regAt 0x3FFFFF = none ∧ inWindow 0x3FFFFF = false) ∧
    ((regAt F.TRV_MS_CFG_INV.addr).map (fun r => decide (r.rw ≠ 0))) = some true ∧
    ((regAt F.MOD_STAT_MODE.addr).map (fun r => decide (r.rw = 0 ∧ r.w1c = 0 ∧ r.wo = 0))) = some false ∧
    ((regAt F.TBS_STAT_STATE.addr).map (fun r => r.rw)) = some 0 ∧
    (inMap 0x30000 = true ∧ (inMode modeHold).inActiveBank 0x30000 = false ∧
      (let t := inMode modeHold;
        let s : State := { t with plan := { t.plan with active := true } };
        s.inActiveBank (bankBase (s.fld F.PLN_MAP_BANK)) = true)) ∧
    (inEvents 0x10000 = true ∧ inTrace 0x20000 = true ∧ inShape 0x4000 = true) ∧
    ((inMode modeHold).calm = true ∧ inInputs F.TRV_JUMPTHR_THR.addr = false ∧
      (regAt F.TRV_JUMPTHR_THR.addr).any (fun r => decide (r.rw ≠ 0))) ∧
    (inMode modeHold).storeFree 0 = true ∧ (valved stPull {}).storeFree 0 = false := by decide +kernel

/-! ### Single steps, with results worked out from the rules named -/

/-- R53, mode 0: A rises while B is low counts up, and the count wraps at 2^40. -/
theorem test_encoder_wraps : (after (.encoderEdge 0 true false 40) ((inMode modeHold).setFld (F.TRV_ENn_CNT_CNT 0) (2 ^ 40 - 1))).fld
    (F.TRV_ENn_CNT_CNT 0) = 0 := by decide +kernel
/-- R53: both levels change at once, a phase error, and nothing is counted. -/
theorem test_encoder_phase_error : (after (.encoderEdge 0 true true 40) (inMode modeHold)).fld (F.TRV_ENn_CFG_PHERR 0) = 1 ∧
    (after (.encoderEdge 0 true true 40) (inMode modeHold)).fld (F.TRV_ENn_CNT_CNT 0) = 0 := by decide +kernel
/-- R45, R68: a change above the threshold is applied at once and counted. -/
theorem test_bias_jump : (after (.trvBiasWrite 101) ((inMode modeHold).setFld F.TRV_JUMPTHR_THR 100)).fld F.TRV_CFG_JUMPS = 1 ∧
    (after (.trvBiasWrite 100) ((inMode modeHold).setFld F.TRV_JUMPTHR_THR 100)).fld F.TRV_CFG_JUMPS = 0 := by decide +kernel
/-- R85: a short is above 80 mA, an open antenna below 2 mA. -/
theorem test_antenna_limits : (after (.antennaFault 80001) (gnss 1)).flag F.GNB_STAT_ANTSHORT = true ∧
    (after (.antennaFault 80000) (gnss 1)).flag F.GNB_STAT_ANTSHORT = false ∧
    (after (.antennaFault 1999) (gnss 1)).flag F.GNB_STAT_ANTOPEN = true ∧
    (after (.antennaFault 2000) (gnss 1)).flag F.GNB_STAT_ANTOPEN = false := by decide +kernel
/-- R137: POP takes the words of an item in order, and the last one releases it. -/
theorem test_pop_releases : ((after (.ringPop .service) (ringed 2)).queue 59).recs = [] ∧
    ((after (.ringPop .service) (ringed 0)).queue 59).popped = 1 := by decide +kernel
/-- R125: the third word completes an item of one record. -/
theorem test_push_completes : ((after (.pushContinue .service 0) (assembling [0x1000000000#40, 1] none)).queue 0).recs.length = 1 := by
  decide +kernel
/-- R175: DRIVE's TARGET is limited to the pulse rating. -/
theorem test_drive_limited : ((after (.driveInstruction 0) (prog kOpen 64 0x100000FFFF#40)).valve 0).goal =
    (prog kOpen 64 0x100000FFFF#40).pulseRating 0 := by decide +kernel
/-- R180: BRANCH always, to word 65; and not taken it goes on at the next word. -/
theorem test_branch : (after (.branchInstruction 0) (prog kOpen 70 0x6000000041#40)).fld (F.VDA_CHn_SEQ_PC 0) = 65 ∧
    (after (.branchInstruction 0) (prog kOpen 70 0x6100000041#40)).fld (F.VDA_CHn_SEQ_PC 0) = 71 := by decide +kernel
/-- R182, R183: opcode 7h is program error 1, shown with the program counter. -/
theorem test_reserved_opcode : (after (.reservedOpcode 0) (prog kOpen 64 0x7000000000#40)).fld (F.VDA_CHn_SERR_ECODE 0) = 1 ∧
    (after (.reservedOpcode 0) (prog kOpen 64 0x7000000000#40)).fld (F.VDA_CHn_SERR_EPC 0) = 64 := by decide +kernel
/-- R161: an overcurrent ends the program; the group's other channels go on. -/
theorem test_overcurrent : (after (.overcurrentTrip 0) (prog kOpen 64 0x2000000000#40)).chSt 0 = stOff ∧
    (after (.overcurrentTrip 1) (prog kOpen 64 0x2000000000#40)).chSt 0 = stPull := by decide +kernel
/-- R186: a shape store in use takes no word. -/
theorem test_shape_store : (after (.shapeStoreWrite .service 0 5 7) (inMode modeHold)).memWord 0x4005 = 7 ∧
    (after (.shapeStoreWrite .service 0 5 7) (valved stPull {})).memWord 0x4005 = 0 := by decide +kernel
/-- R221, R226: the structure of a running stage stays, and CFGERR says so. -/
theorem test_structure_kept : (after (.structureFieldWrite .service 0x1014 1) (staged 0 csRun)).fld (F.CTL_x_UDk_DEST 0 0) = 0 ∧
    (after (.structureFieldWrite .service 0x1014 1) (staged 0 csRun)).flag (F.CTL_x_STAT_CFGERR 0) = true := by decide +kernel
/-- R239: GO outside COMMISSION starts nothing. -/
theorem test_injection_refused : (after (.injectionGo 1) (inMode modeHold)).flag F.CTL_INJ_STAT_INJERR = true ∧
    (after (.injectionGo 1) (inMode modeHold)).flag F.CTL_INJ_STAT_RUN = false := by decide +kernel
/-- R440: a pulse counts, but not in BOOT. -/
theorem test_pulse : ((after (.flowmeterPulse 0 5) (inMode modeHold)).fpOf 0).count = 1 ∧
    ((after (.flowmeterPulse 0 5) (inMode modeBoot)).fpOf 0).count = 0 := by decide +kernel
/-- R414: the read pointer of the ledger window goes on by 4 and wraps at 2,048. -/
theorem test_ledger_pointer : (after (.ledgerRead .service) ((inMode modeHold).setFld F.LDG_RDCTL_PTR 2044)).fld F.LDG_RDCTL_PTR = 0 := by
  decide +kernel
/-- R260: a request starts a commit, or waits while one runs. -/
theorem test_commit_request : (after (.commitRequest .service 1) (committing 0)).led.stage = 1 ∧
    (after (.commitRequest .service 1) (committing 4)).flag F.LDG_STAT_PEND = true := by decide +kernel
/-- R266: the marker clears bits only. -/
theorem test_marker : (after .markerProgrammed (committing 6)).flashByte ((committing 6).slotAddr (committing 6).led.slot + 4092) = 0x5A := by
  decide +kernel
/-- R289: a frame to the node itself is refused with RES 9. -/
theorem test_host_send_self : (after (.hostSend 0x0082000000) (peered roleSpan)).fld F.SLK_HSTAT_RES = 9 := by decide +kernel
/-- R282: after RETRY misses the delivery has failed. -/
theorem test_delivery_fails : (after (.ackWaitTimeout 2) (outstanding 0 15)).flag F.SLK_ERR_DELFAIL = true ∧
    (after (.ackWaitTimeout 2) ((outstanding 0 0).setFld F.SLK_CFG_RETRY 1)).fld F.SLK_CNTE_NOACK = 1 := by decide +kernel
/-- R302: ten seconds after an installation the old generation is gone. -/
theorem test_old_generation : ((after (.oldGenerationDiscard 2) ((peered roleSpan).setSess 2 { cur := some pairKey, old := some pairKey })).sess
    2).old = none := by decide +kernel
/-- R322: HANDOVER is for the active head. -/
theorem test_handover_refused : (after (.handoverCommand 1) (peered roleStandby)).flag F.SYS_HEAD_STAT_HOERR = true := by decide +kernel
/-- R317, R310: a fit standby takes over with an epoch one above those it knows. -/
theorem test_takeover : (after .failoverTimeout (standing true)).role = roleActive ∧
    (after .failoverTimeout (standing true)).fld F.SYS_HEAD_EPOCH_EPOCH = 1 := by decide +kernel
/-- R336: a NEXT outside the descriptor space halts the chain. -/
theorem test_bad_next : (after (.descriptorBoundary 1) (filling 0x37FFF false)).fld (F.BMV_Dn_CTL_STATE 1) = mvHalted ∧
    (after (.descriptorBoundary 1) (filling 0x37FFF false)).memWord 0x30000 = 0xABABABABAB := by decide +kernel
/-- R363: on P0 outside BOOT a program command is barred. -/
theorem test_raw_barred : (after (.rawTransferGo 0x0E0000) ((inMode modeHold).setFld (F.SER_PP_TXk_TX 0) 0x02)).fld F.SER_PP_STAT_RAWWHY = 2 := by
  decide +kernel
/-- R361: programming clears bits only. -/
theorem test_program_ands : (after (.programPoll false) ((porting (inMode modeHold) { own := 4, ch := 1, sel := 0, start := 0, poll := true, sent := [0x0F, 0x3C] }).flashProgram 1
    [0xF0])).flashByte 1 = 0x30 := by decide +kernel
/-- R368: a read of an unimplemented address shows UNIMP, and a refused command is a reply of its own kind. -/
theorem test_service_unimplemented : ((after (.serviceRead 9 true 0x3FFFFF 0) (inMode modeHold)).ser.reply.map (fun r => (r.kind, r.unimp))) =
    some (1, true) ∧ ((after (.refusedCommand 9 true 0x55 0) (inMode modeHold)).ser.reply.map (fun r => r.kind)) = some 3 := by decide +kernel
/-- R118: a word written to the prescription cache is read back. -/
theorem test_cache_word : (after (.serviceWrite 9 true 0x30000 0x123456789A) (inMode modeHold)).memWord 0x30000 = 0x123456789A := by decide +kernel
/-- R402: a clear of an instance whose condition holds leaves it latched. -/
theorem test_clear_refused : (after (.faultClear (BitVec.ofNat 40 (srcGroupUv * 64))) (latchedUv 1)).flag F.FSV_STAT_CLRERR = true ∧
    (after (.faultClear (BitVec.ofNat 40 (srcGroupUv * 64))) (latchedUv 0)).isLatched srcGroupUv 0 = false := by decide +kernel
/-- R274: the CRC of frames and records is that of IEEE 802.3; of "123456789" it is CBF4_3926h. -/
theorem test_crc32 : crc32 [0x31, 0x32, 0x33, 0x34, 0x35, 0x36, 0x37, 0x38, 0x39] = 0xCBF43926 := by decide +kernel
/-- R259, R274: SHA-256 of "abc" (FIPS 180-4), and AES-128-CMAC of no bytes (SP 800-38B, example 1). -/
theorem test_sha256 : sha256 [0x61, 0x62, 0x63] = 0xba7816bf8f01cfea414140de5dae2223b00361a396177a9cb410ff61f20015ad := by decide +kernel
theorem test_cmac : cmac 0x2b7e151628aed2a6abf7158809cf4f3c [] = 0xbb1d6929e95937287fa37d129b756746 := by decide +kernel
/-- R303: the AES key wrap of RFC 3394, 4.1, and back. -/
theorem test_key_wrap : keyWrap 0x000102030405060708090A0B0C0D0E0F 0x00112233445566778899AABBCCDDEEFF =
      0x1FA68B0A8112B447AEF34BD8FB5A7B829D3E862371D2CFE5 ∧
    keyUnwrap 0x000102030405060708090A0B0C0D0E0F 0x1FA68B0A8112B447AEF34BD8FB5A7B829D3E862371D2CFE5 =
      some 0x00112233445566778899AABBCCDDEEFF := by decide +kernel
/-- R259: the P-256 signature of "sample" with SHA-256 in RFC 6979, A.2.5, verifies under its public key. -/
theorem test_ecdsa : verifySig (0x60FED4BA255A9D31C961EB74C6356D68C049B8923B61FA6CE669622E60F29FB6 * 2 ^ 256 +
      0x7903FE1008B8BC99A41AE9E95628BC64F2F1B20C2D7E9F5177A3C294D4462299) [0x73, 0x61, 0x6D, 0x70, 0x6C, 0x65]
    (0xEFD48B2AACB6A8FD1140DD9CD45E81D69D2C877B56AAF991C34D0EA84EAF3716 * 2 ^ 256 +
      0xF7CB1C942D657C41D436C7A1B6E29F65F3E900DBB9AFF4064DC4AB2F843ACDA8) = true := by decide +kernel
/-- The front of the queue runs, and the rest waits. -/
theorem test_queue_order : (match step { inMode modeHold with pending := [.zerocal 0, .schedulerTick] } with
    | .next t => t.pending == [.schedulerTick] && t.flag F.GNB_GEOCFG_ZEROCAL
    | _ => false) = true := by decide +kernel

end Sys2Proof.Tests
end

section
/-! PROOF. Bits of words: how the masked sums and differences of the model read bit by bit. -/

namespace Sys2Proof.Machine

open Sys2Proof

theorem bitOf_eq_testBit (x i : Nat) : bitOf x i = x.testBit i := by
  rw [Nat.testBit_eq_decide_div_mod_eq]; rfl

/-- Numbers without a common bit add bit by bit. -/
theorem add_eq_lor_of_disjoint (x y : Nat) (h : x &&& y = 0) : x + y = x ||| y := by
  induction x using Nat.strongRecOn generalizing y with
  | ind x ih =>
    obtain rfl | hx := Nat.eq_zero_or_pos x
    · simp
    · have hhigh : x / 2 + y / 2 = (x ||| y) / 2 := by
        rw [Nat.or_div_two]
        exact ih (x / 2) (by omega) (y / 2) (by rw [← Nat.and_div_two, h])
      have hor := @Nat.or_mod_two_eq_one x y
      have hand := @Nat.and_mod_two_eq_one x y
      omega

/-- Taking from `x` the bits it shares with `m` leaves the bits of `x` outside `m`. -/
theorem sub_and_eq_ldiff (x m : Nat) : x - (x &&& m) = x.ldiff m := by
  have hdisj : x.ldiff m &&& (x &&& m) = 0 := by
    refine Nat.eq_of_testBit_eq fun i => ?_
    cases h : m.testBit i <;> simp [Nat.testBit_ldiff, h]
  have hsplit : x.ldiff m ||| (x &&& m) = x := by
    refine Nat.eq_of_testBit_eq fun i => ?_
    cases h : m.testBit i <;> simp [Nat.testBit_ldiff, h]
  have hsum := add_eq_lor_of_disjoint _ _ hdisj
  omega

/-- Bit `i` of `x` with the bits of the mask `m` taken from `y`. -/
theorem testBit_sub_and_add (x y m i : Nat) :
    (x - (x &&& m) + (y &&& m)).testBit i = if m.testBit i then y.testBit i else x.testBit i := by
  have hdisj : x.ldiff m &&& (y &&& m) = 0 := by
    refine Nat.eq_of_testBit_eq fun j => ?_
    cases h : m.testBit j <;> simp [Nat.testBit_ldiff, h]
  rw [sub_and_eq_ldiff, add_eq_lor_of_disjoint _ _ hdisj]
  cases h : m.testBit i <;> simp [Nat.testBit_ldiff, h]

/-- Words that agree in every bit outside `m` leave the same when their bits in `m` are taken out. -/
theorem ldiff_congr (v w : Word) (m : Nat) (h : ∀ i, i < 40 → m.testBit i = false → v.toNat.testBit i = w.toNat.testBit i) :
    v.toNat.ldiff m = w.toNat.ldiff m := by
  refine Nat.eq_of_testBit_eq fun i => ?_
  rw [Nat.testBit_ldiff, Nat.testBit_ldiff]
  cases hm : m.testBit i with
  | true => simp
  | false =>
    by_cases hi : i < 40
    · rw [h i hi hm]
    · rw [BitVec.testBit_toNat, BitVec.testBit_toNat, BitVec.getLsbD_of_ge _ _ (by omega), BitVec.getLsbD_of_ge _ _ (by omega)]

/-- The five bytes of a word, put together again, are the word. -/
theorem fiveBytes_join (v : Word) :
    (List.range 5).foldr (fun k x => (BitVec.ofNat 8 (v.toNat / 256 ^ k)).toNat + 256 * x) 0 = v.toNat := by
  have hv := v.isLt
  simp only [List.range, List.range.loop, List.foldr, BitVec.toNat_ofNat]
  omega

end Sys2Proof.Machine
end

section
/-! PROOF. What a report leaves: the relation `Reported A s t`, how it composes, and the operations it holds of, up to a report
(R393 to R398) and the fault of an access to an unimplemented address (R13). -/

namespace Sys2Proof.Machine

open Sys2Proof

/-- From `s` to `t` nothing changes but registers at the addresses `A`, the queues, the released records, the free values and
what fault supervision holds beside its registers. -/
def Reported (A : List Nat) (s t : State) : Prop :=
  (∃ g x y n f, t = { s with regs := g, queues := x, spent := y, free := n, flt := f }) ∧ ∀ i, i ∉ A → t.reg i = s.reg i

theorem Reported.refl (A : List Nat) (s : State) : Reported A s s := ⟨⟨_, _, _, _, _, rfl⟩, fun _ _ => rfl⟩

theorem Reported.trans {A : List Nat} {s t u : State} (h : Reported A s t) (h' : Reported A t u) : Reported A s u := by
  obtain ⟨⟨g, x, y, n, f, rfl⟩, hreg⟩ := h
  obtain ⟨⟨g', x', y', n', f', e⟩, hreg'⟩ := h'
  exact ⟨⟨g', x', y', n', f', e⟩, fun i hi => (hreg' i hi).trans (hreg i hi)⟩

theorem Reported.mem {A : List Nat} {s t : State} (h : Reported A s t) : t.mem = s.mem := by
  obtain ⟨⟨_, _, _, _, _, rfl⟩, _⟩ := h; rfl

theorem Reported.chk {A : List Nat} {s t : State} (h : Reported A s t) : t.chk = s.chk := by
  obtain ⟨⟨_, _, _, _, _, rfl⟩, _⟩ := h; rfl

theorem Reported.valves {A : List Nat} {s t : State} (h : Reported A s t) : t.valves = s.valves := by
  obtain ⟨⟨_, _, _, _, _, rfl⟩, _⟩ := h; rfl

theorem Reported.reg {A : List Nat} {s t : State} (h : Reported A s t) {i : Nat} (hi : i ∉ A) : t.reg i = s.reg i := h.2 i hi

theorem State.inc_reg (s : State) (f : Fld) {i : Nat} (h : i ≠ f.addr) : (s.inc f).reg i = s.reg i :=
  State.reg_setFld_ne s f _ h

theorem State.fld_inc_same (s : State) (f : Fld) (h : f.ok = true) : (s.inc f).fld f = satAdd f.width (s.fld f) 1 := by
  have hlt : satAdd f.width (s.fld f) 1 < 2 ^ f.width := by
    have := Nat.two_pow_pos f.width
    unfold satAdd
    split <;> omega
  exact (s.fld_setFld_same f _ h).trans (Nat.mod_eq_of_lt hlt)

theorem Reported.inc {A : List Nat} (s : State) {f : Fld} (h : f.addr ∈ A) : Reported A s (s.inc f) :=
  ⟨⟨_, _, _, _, _, rfl⟩, fun _ hi => s.inc_reg f fun e => hi (e ▸ h)⟩

theorem Reported.setFlt {A : List Nat} {s t : State} (f : FaultSt) (h : Reported A s t) : Reported A s { t with flt := f } := by
  obtain ⟨⟨g, x, y, n, f', rfl⟩, hreg⟩ := h
  exact ⟨⟨g, x, y, n, f, rfl⟩, hreg⟩

theorem Reported.mono {A B : List Nat} {s t : State} (h : Reported A s t) (hAB : A ⊆ B) : Reported B s t :=
  ⟨h.1, fun i hi => h.2 i fun hA => hi (hAB hA)⟩

theorem State.pushRec_reported (A : List Nat) (s : State) (q : Nat) (r : Rec) : Reported A s (s.pushRec q r) := by
  unfold State.pushRec State.draw State.setQueue
  exact ⟨⟨_, _, _, _, _, rfl⟩, fun _ _ => rfl⟩

theorem State.pushItem_reported (A : List Nat) (s : State) (q : Nat) (ws : List Word) (cs : List Nat) :
    Reported A s (s.pushItem q ws cs) := by
  unfold State.pushItem
  induction recsOf ws.length ws cs generalizing s with
  | nil => exact .refl A s
  | cons r rs ih => exact (s.pushRec_reported A q r).trans (ih _)

/-- An item goes into a ring that drops, or is counted there as dropped. -/
theorem State.ringDrop_reported {A : List Nat} (s : State) (q : Nat) (ws : List Word) (cs : List Nat)
    (h : (F.EVS_Qn_ERR_w q).addr ∈ A) : Reported A s (s.ringDrop q ws cs) := by
  unfold State.ringDrop
  split
  · exact s.pushItem_reported A q ws cs
  · exact .inc s h

/-- The registers that a report of source `src` may change: its counts, and the drops of the error ring. -/
def reportRegs (src : Nat) : List Nat := [(F.FSV_SRCs_STAT_w src).addr, (F.EVS_Qn_ERR_w 59).addr]

theorem State.faultRec_reported (s : State) (src inst ev addr : Nat) :
    Reported (reportRegs src) s (s.faultRec src inst ev addr) :=
  s.ringDrop_reported 59 _ _ (List.mem_cons_of_mem _ (List.mem_cons_self ..))

theorem State.reportAt_reported (s : State) (src inst addr : Nat) :
    Reported (reportRegs src) s (s.reportAt src inst addr) := by
  have hmem : (F.FSV_SRCs_STAT_w src).addr ∈ reportRegs src := List.mem_cons_self ..
  have hcount : Reported (reportRegs src) s (s.inc (F.FSV_SRCs_STAT_EVENTS src)) := .inc s hmem
  unfold State.reportAt
  dsimp only
  split
  · exact hcount.setFlt _
  · split
    · split
      · exact ((hcount.setFlt _).setFlt _).trans (State.faultRec_reported ..)
      · exact (((hcount.setFlt _).setFlt _).trans (State.faultRec_reported ..)).setFlt _
    · exact (hcount.setFlt _).trans (.inc _ hmem)

/-- An access to an unimplemented address (R13): it counts in ADDRF and is reported. -/
theorem State.addrFault_reported (s : State) :
    Reported (F.FSV_STAT_w.addr :: reportRegs srcAddress) s s.addrFault := by
  have hcount : Reported (F.FSV_STAT_w.addr :: reportRegs srcAddress) s (s.inc F.FSV_STAT_ADDRF) :=
    .inc s (f := F.FSV_STAT_ADDRF) (List.mem_cons_self ..)
  exact hcount.trans ((State.reportAt_reported _ srcAddress 0 _).mono (List.subset_cons_self ..))

theorem State.addrFault_count (s : State) : s.addrFault.fld F.FSV_STAT_ADDRF = satAdd 16 (s.fld F.FSV_STAT_ADDRF) 1 := by
  have hrep := (s.inc F.FSV_STAT_ADDRF).reportAt_reported srcAddress 0 (faultAddr srcAddress 0)
  calc s.addrFault.fld F.FSV_STAT_ADDRF = (s.inc F.FSV_STAT_ADDRF).fld F.FSV_STAT_ADDRF :=
        State.fld_of_reg _ (hrep.reg (by decide))
    _ = satAdd 16 (s.fld F.FSV_STAT_ADDRF) 1 := s.fld_inc_same _ (by decide)

end Sys2Proof.Machine
end

section
/-! PROOF. Host writes, one rule per kind of address (R10 to R14, R408 to R411): a block closed to the link, an unimplemented
address, a window, a register of RO fields, and a register that only keeps its fields. -/

namespace Sys2Proof.Machine

open Sys2Proof

/-! ### Which addresses are what -/

/-- No register of the index lies at or above 1A00h (Table 20-1). -/
theorem regAt_high {a : Nat} (h : 0x1A00 ≤ a) : regAt a = none := by
  have hpage : regPage (a / 256) = [] := by
    unfold regPage
    split
    case h_23 => rfl
    all_goals omega
  rw [regAt, hpage]; rfl

theorem inWindow_high {a : Nat} (h : inWindow a = true) : 0x1A00 ≤ a := by
  simp only [inWindow, inShape, inEvents, inTrace, inMap, Bool.or_eq_true, Bool.and_eq_true, decide_eq_true_eq] at h
  omega

theorem regAt_window {a : Nat} (h : inWindow a = true) : regAt a = none := regAt_high (inWindow_high h)

theorem sramReg_window {a : Nat} (h : inWindow a = true) : sramReg a = false := by
  rw [sramReg, regAt_window h]

theorem inWindow_of_regAt {a : Nat} {r : RegRow} (h : regAt a = some r) : inWindow a = false := by
  cases hw : inWindow a with
  | false => rfl
  | true => rw [regAt_window hw] at h; contradiction

theorem inEvents_of_regAt {a : Nat} {r : RegRow} (h : regAt a = some r) : inEvents a = false := by
  have hw := inWindow_of_regAt h
  simp only [inWindow, Bool.or_eq_false_iff] at hw
  obtain ⟨⟨⟨-, he⟩, -⟩, -⟩ := hw
  exact he

/-! ### The word that a write leaves -/

/-- The register after the W1C flags written 1 have cleared. -/
def RegRow.cleared (r : RegRow) (old v : Word) : Nat := old.toNat - (old.toNat &&& (v.toNat &&& r.w1c))

/-- The register after the writable fields have taken the bits written. -/
def RegRow.stored (r : RegRow) (old v : Word) : Word :=
  BitVec.ofNat 40 (r.cleared old v - (r.cleared old v &&& r.rw) + (v.toNat &&& r.rw))

/-- The access codes, bit by bit (R411). -/
theorem RegRow.getLsbD_stored (r : RegRow) (old v : Word) {i : Nat} (hi : i < 40) :
    (r.stored old v).getLsbD i = (if r.rw.testBit i then v.getLsbD i
      else if r.w1c.testBit i && v.getLsbD i then false else old.getLsbD i) := by
  rw [RegRow.stored, BitVec.getLsbD_ofNat, testBit_sub_and_add, RegRow.cleared, sub_and_eq_ldiff, Nat.testBit_ldiff,
    Nat.testBit_and, BitVec.testBit_toNat, BitVec.testBit_toNat]
  cases r.rw.testBit i <;> cases r.w1c.testBit i <;> cases v.getLsbD i <;> simp [hi]

/-! ### What a write meets -/

/-- Before a write of the travel inputs' registers their filters accept what is due. -/
def State.metAt (s : State) (a : Nat) : State :=
  if inInputs a then (List.range 4).foldl (fun u n => u.settle n u.clk.cc) s else s

theorem State.metAt_other (s : State) {a : Nat} (h : inInputs a = false) : s.metAt a = s := by simp [State.metAt, h]

/-- In a calm core clock hardware has updated no bit. -/
theorem State.fresh_calm {s : State} (h : s.calm = true) (a : Nat) : s.fresh a = 0 := by
  unfold State.fresh
  split
  · next hat =>
    simp only [State.calm, Bool.or_eq_true, decide_eq_true_eq, List.isEmpty_iff] at h
    obtain hne | hnil := h
    · exact absurd hat hne
    · rw [hnil]; rfl
  · rfl

theorem State.afterHardware_calm {s : State} (h : s.calm = true) (r : RegRow) (a : Nat) (v : Word) :
    s.afterHardware r a v = v := by
  simp [State.afterHardware, State.fresh_calm h]

/-- What a write brings to the bits that hardware has just updated does not count (R14). -/
theorem State.afterHardware_congr (s : State) (r : RegRow) (a : Nat) (v w : Word)
    (h : ∀ i, i < 40 → bitOf (s.fresh a &&& (r.rw ||| r.w1c)) i = false → bitOf v.toNat i = bitOf w.toNat i) :
    s.afterHardware r a v = s.afterHardware r a w := by
  simp only [bitOf_eq_testBit] at h
  have hout := ldiff_congr v w _ h
  unfold State.afterHardware
  dsimp only
  split
  · next h0 =>
    refine BitVec.eq_of_getLsbD_eq fun i hi => ?_
    rw [← BitVec.testBit_toNat, ← BitVec.testBit_toNat]
    exact h i hi (by rw [h0, Nat.zero_testBit])
  · rw [sub_and_eq_ldiff, sub_and_eq_ldiff, hout]

/-! ### The rules -/

/-- The writer is the link, and the block of the address is closed to it (R285, R408). -/
def closedTo (p : Writer) (a : Nat) : Bool := p = some .link && (inSlk a || inKey a)

theorem State.hostWrite_closed (s : State) {p : Writer} {a : Nat} (v : Word) (h : closedTo p a = true) :
    s.hostWrite p a v = (.barred, s) := if_pos h

theorem State.hostWrite_unimplemented (s : State) {p : Writer} {a : Nat} (v : Word) (hopen : closedTo p a = false)
    (hr : regAt a = none) (hw : inWindow a = false) : s.hostWrite p a v = (.unimplemented, s.addrFault) := by
  unfold closedTo at hopen
  simp [State.hostWrite, hopen, hr, hw]

theorem State.hostWrite_window (s : State) {p : Writer} {a : Nat} (v : Word) (hopen : closedTo p a = false)
    (hw : inWindow a = true) : s.hostWrite p a v = ((s.writeWindow a v).1,
      if (s.writeWindow a v).1.acted then (s.writeWindow a v).2.completed else (s.writeWindow a v).2) := by
  unfold closedTo at hopen
  simp [State.hostWrite, hopen, regAt_window hw, hw]

theorem State.hostWrite_readOnly (s : State) {p : Writer} {a : Nat} {r : RegRow} (v : Word) (hopen : closedTo p a = false)
    (hr : regAt a = some r) (hrw : r.rw = 0) (hw1c : r.w1c = 0) (hwo : r.wo = 0) :
    s.hostWrite p a v = (.readOnly, s) := by
  unfold closedTo at hopen
  simp [State.hostWrite, hopen, hr, hrw, hw1c, hwo]

/-- Two words that come to the same after hardware have the same outcome. -/
theorem State.hostWrite_congr (s : State) (p : Writer) {a : Nat} {r : RegRow} {v w : Word} (hr : regAt a = some r)
    (h : (s.metAt a).afterHardware r a v = (s.metAt a).afterHardware r a w) :
    s.hostWrite p a v = s.hostWrite p a w := by
  unfold State.metAt at h
  simp only [State.hostWrite, hr, h]

/-- The registers whose write does more than keep fields. -/
def effectRegs : List Reg :=
  [.SYS_HEAD_CTL, .MOD_CMD, .MOD_RSTCMD, .FSV_CLR, .FSV_SRCs_CFG, .TRV_CFG, .TRV_SRC, .TRV_ENn_CFG, .TRV_OFFSET, .TRV_BIAS,
    .TRV_DCm, .PLN_MAP, .EVS_PUSHS, .EVS_PUSHC, .EVS_Qn_CFG, .EVS_Qn_CTL, .VDA_CHn_CFG, .VDA_CHn_STAT, .VDA_CHn_LRN,
    .VDA_CHn_LBAND, .CTL_x_CFG, .CTL_x_MOj, .CTL_x_UDk, .CTL_TRCb_CTL, .CTL_INJ_CTL, .GNB_CFG, .GNB_ANCH, .GNB_SNAPREQ,
    .SLK_CFG, .SLK_HCMD, .BMV_Dn_CTL, .BMV_Dn_W0, .BMV_Dn_W1, .BMV_Dn_W2, .BMV_Dn_W3, .MIN_DCTL, .SER_PP_RAW, .LDG_CTL,
    .LDG_LIMz, .LDG_MLIMIT, .KEY_CMD]

/-- A word goes where its register is held: the register file, or SRAM. -/
def State.store (s : State) (a : Nat) (x : Word) : State := if sramReg a then s.sramWrite a x else s.setReg a x

/-- Any other register keeps its fields. -/
theorem State.writeReg_plain (s : State) (p : Writer) {r : RegRow} (a : Nat) (v x : Word) (h : r.reg ∉ effectRegs) :
    s.writeReg p r a v x = (.done, s.store a x) := by
  unfold State.writeReg
  split
  case h_42 => rfl
  all_goals next e => exact absurd (by rw [e]; decide) h

theorem State.store_cases (s : State) {a : Nat} (x : Word) {r : RegRow} (hr : regAt a = some r) :
    (sramReg a = true ∧ s.store a x = (s.setReg a x).setChk a 0) ∨ (sramReg a = false ∧ s.store a x = s.setReg a x) := by
  have he := inEvents_of_regAt hr
  cases hs : sramReg a
  · exact .inr ⟨rfl, by simp [State.store, hs]⟩
  · exact .inl ⟨rfl, by simp [State.store, hs, State.sramWrite, State.sramPut, he]⟩

/-- A register without an effect of its own, in a calm core clock. -/
theorem State.hostWrite_plain (s : State) {p : Writer} {a : Nat} {r : RegRow} (v : Word) (hopen : closedTo p a = false)
    (hr : regAt a = some r) (hcalm : s.calm = true) (hin : inInputs a = false) (hwr : r.rw ≠ 0 ∨ r.w1c ≠ 0 ∨ r.wo ≠ 0)
    (hplain : r.reg ∉ effectRegs) :
    s.hostWrite p a v = (.done, ((if r.w1c = 0 then s else s.setReg a (BitVec.ofNat 40 (r.cleared (s.reg a) v))).store a
      (r.stored (s.reg a) v)).completed) := by
  have hro : (r.rw = 0 && r.w1c = 0 && r.wo = 0) = false := by
    simp only [Bool.and_eq_false_iff, decide_eq_false_iff_not, or_assoc]; exact hwr
  unfold closedTo at hopen
  simp only [State.hostWrite, hopen, hr, hro, hin, Bool.false_eq_true, if_false, State.afterHardware_calm hcalm,
    State.writeReg_plain _ _ _ _ _ hplain]
  rfl

end Sys2Proof.Machine
end

section
/-! PROOF. Words of the windows (R118, R186, R342, R409). -/

namespace Sys2Proof.Machine

open Sys2Proof

/-- A word depends on its five bytes only. -/
theorem State.memWord_congr {s t : State} {a : Nat} (h : ∀ k, k < 5 → t.memByte (5 * a + k) = s.memByte (5 * a + k)) :
    t.memWord a = s.memWord a := by
  simp only [State.memWord, List.range, List.range.loop, List.foldr]
  rw [h 0 (by decide), h 1 (by decide), h 2 (by decide), h 3 (by decide), h 4 (by decide)]

theorem State.memWord_setMemWord_ne (s : State) {a b : Nat} (v : Word) (h : b ≠ a) :
    (s.setMemWord a v).memWord b = s.memWord b :=
  State.memWord_congr fun k hk => by rw [State.memByte_setMemWord, if_neg (by omega)]

theorem State.memWord_setMemWord_same (s : State) (a : Nat) (v : Word) : (s.setMemWord a v).memWord a = v := by
  have hbyte : ∀ k, k < 5 → (s.setMemWord a v).memByte (5 * a + k) = BitVec.ofNat 8 (v.toNat / 256 ^ k) := fun k hk => by
    rw [State.memByte_setMemWord, if_pos (by omega), Nat.add_sub_cancel_left]
  refine BitVec.eq_of_toNat_eq ?_
  rw [State.memWord, BitVec.toNat_ofNat]
  have hfold := fiveBytes_join v
  simp only [List.range, List.range.loop, List.foldr] at hfold ⊢
  rw [hbyte 0 (by decide), hbyte 1 (by decide), hbyte 2 (by decide), hbyte 3 (by decide), hbyte 4 (by decide), hfold]
  exact Nat.mod_eq_of_lt v.isLt

/-- A full write of a window word outside the event store: the word with clean check bits, and nothing else. -/
theorem State.sramWrite_window (s : State) {a : Nat} (v : Word) (hw : inWindow a = true) (he : inEvents a = false) :
    s.sramWrite a v = (s.setMemWord a v).setChk a 0 := by
  simp [State.sramWrite, State.sramPut, he, sramReg_window hw]

/-- What such a write leaves. -/
theorem State.sramWrite_window_facts (s : State) {a : Nat} (v : Word) (hw : inWindow a = true) (he : inEvents a = false) :
    (s.sramWrite a v).memWord a = v ∧ (s.sramWrite a v).chkAt a = 0 ∧
      (∀ b, b ≠ a → (s.sramWrite a v).memWord b = s.memWord b) ∧ (s.sramWrite a v).regs = s.regs ∧
      (s.sramWrite a v).queues = s.queues := by
  rw [s.sramWrite_window v hw he]
  obtain ⟨m, e⟩ := s.setMemWord_same a v
  refine ⟨s.memWord_setMemWord_same a v, ?_, fun b hb => s.memWord_setMemWord_ne v hb, ?_, ?_⟩
  · rw [State.chkAt_setChk, if_pos rfl]
  · rw [State.setChk_regs, e]
  · rw [State.setChk_queues, e]

theorem State.writeWindow_shape_free (s : State) {a : Nat} (v : Word) (h : inShape a = true)
    (hfree : s.storeFree ((a - 0x4000) / 0x400) = true) : s.writeWindow a v = (.done, s.sramWrite a v) := by
  simp [State.writeWindow, h, hfree]

/-- A store in use rejects the word (R186). -/
theorem State.writeWindow_shape_used (s : State) {a : Nat} (v : Word) (h : inShape a = true)
    (hused : s.storeFree ((a - 0x4000) / 0x400) = false) : s.writeWindow a v =
      (.flagged, (s.raise (F.VDA_Gg_SEQ_WRERR ((a - 0x4000) / 0x400))).inc (F.VDA_Gg_SEQ_WRREJ ((a - 0x4000) / 0x400))) := by
  simp [State.writeWindow, h, hused]

theorem State.writeWindow_map (s : State) {a : Nat} (v : Word) (h : inMap a = true) (hs : inShape a = false) :
    s.writeWindow a v = if s.inActiveBank a then (.silent, s) else (.done, s.sramWrite a v) := by
  cases hb : s.inActiveBank a <;> simp [State.writeWindow, h, hs, hb]

theorem State.writeWindow_other (s : State) {a : Nat} (v : Word) (hs : inShape a = false) (hm : inMap a = false) :
    s.writeWindow a v = (.silent, s) := by
  simp [State.writeWindow, hs, hm]

/-- The windows are apart. -/
theorem inMap_only {a : Nat} (h : inMap a = true) : inWindow a = true ∧ inShape a = false ∧ inEvents a = false := by
  simp only [inMap, inShape, inEvents, inWindow, inTrace, Bool.and_eq_true, Bool.or_eq_true, Bool.and_eq_false_iff,
    decide_eq_true_eq, decide_eq_false_iff_not] at h ⊢
  omega

theorem inShape_only {a : Nat} (h : inShape a = true) : inWindow a = true ∧ inEvents a = false := by
  simp only [inMap, inShape, inEvents, inWindow, inTrace, Bool.and_eq_true, Bool.or_eq_true, Bool.and_eq_false_iff,
    decide_eq_true_eq, decide_eq_false_iff_not] at h ⊢
  omega

theorem inEvents_or_inTrace_only {a : Nat} (h : inEvents a = true ∨ inTrace a = true) :
    inWindow a = true ∧ inShape a = false ∧ inMap a = false := by
  simp only [inMap, inShape, inEvents, inWindow, inTrace, Bool.and_eq_true, Bool.or_eq_true, Bool.and_eq_false_iff,
    decide_eq_true_eq, decide_eq_false_iff_not] at h ⊢
  omega

end Sys2Proof.Machine
end

section
/-! PROOF. The statements of chapter 0: the power-on reset (O7), hardware before the host in one core clock (O24), and the access
codes of host writes (O60). -/

namespace Sys2Proof.Proofs

open Sys2Proof Sys2Proof.Machine

/-! ### The power-on reset (R11, R372, R373) -/

/-- What power-on finds in a node that stood in `u`: the flash, the non-volatile identity, and, of the model's own, the free
values drawn and the waiting commands; everything else is as at reset. -/
def poweredOn (u : State) : State :=
  { flash := u.flash, free := u.free, pending := u.pending, key := { owner := u.key.owner, epoch := u.key.epoch }
    led := { first := some 1 } }

/-- A power-on reset: the flash tears what was cut off, RSTSRC takes the source, and the march test starts. -/
theorem resetTo_powerOn (s : State) :
    s.resetTo 1 = { (poweredOn s.tearPort).setFld F.MOD_RST_RSTSRC 1 with boot := { march := true } } := by
  simp [State.resetTo, poweredOn]

/-- Settles O7: the reset state's registers are all at their reset words, and the source is then written to MOD_RST. -/
theorem powerOnResetRestoresRegisters : Obligations.PowerOnResetRestoresRegisters := by
  unfold Obligations.PowerOnResetRestoresRegisters
  intro s
  obtain ⟨f, n, htear⟩ := s.tearPort_same
  have hkept : s.tearPort.key = s.key ∧ s.tearPort.pending = s.pending := by rw [htear]; exact ⟨rfl, rfl⟩
  obtain ⟨hkey, hpending⟩ := hkept
  refine ⟨_, congrArg Host.Outcome.next (resetTo_powerOn s), fun a ha => ?registers, ?source, rfl, rfl, rfl, rfl, rfl, rfl,
    rfl, ?identity, hpending, fun hled hjob => ?flash⟩
  case registers => exact State.reg_setFld_ne (poweredOn s.tearPort) F.MOD_RST_RSTSRC 1 ha
  case source => exact State.fld_setFld_same (poweredOn s.tearPort) F.MOD_RST_RSTSRC 1 (by decide)
  case identity => simp [poweredOn, hkey]
  case flash =>
    have hflash : s.tearPort.flash = s.flash := congrArg State.flash (s.tearPort_quiet hled hjob)
    exact hflash

/-! ### Register writes -/

theorem exec_registerWrite (s : State) (p : Path) (a : BitVec 24) (v : Word) (h : s.boot.halted = false) :
    exec (.registerWrite p a v) s = .next (s.hostWrite (some p) a.toNat v).2 := by
  show execRegisterWrite p a v s = _
  rw [execRegisterWrite, s.clocked_running _ h, State.write]

/-- Settles O24: the two words are the same once the bits that hardware has just updated are taken from them. -/
theorem hardwareWinsInItsCoreClock : Obligations.HardwareWinsInItsCoreClock := by
  unfold Obligations.HardwareWinsInItsCoreClock
  intro s p a r v w hrun hr hagree
  have hmet := (s.metAt a.toNat).afterHardware_congr r a.toNat v w (hagree _ rfl)
  rw [exec_registerWrite s p a v hrun, exec_registerWrite s p a w hrun, s.hostWrite_congr (some p) hr hmet]

/-- A write to an unimplemented address (R13, R408). -/
theorem hostWrite_unimplemented_facts (s : State) {p : Writer} {a : Nat} (v : Word) (hopen : closedTo p a = false)
    (hr : regAt a = none) (hw : inWindow a = false) :
    (s.hostWrite p a v).2.mem = s.mem ∧ (s.hostWrite p a v).2.chk = s.chk ∧ (s.hostWrite p a v).2.valves = s.valves ∧
      (s.hostWrite p a v).2.fld F.FSV_STAT_ADDRF = satAdd 16 (s.fld F.FSV_STAT_ADDRF) 1 ∧
      ∀ i, i ≠ F.FSV_STAT_w.addr → i ≠ (F.FSV_SRCs_STAT_w srcAddress).addr → i ≠ (F.EVS_Qn_ERR_w 59).addr →
        (s.hostWrite p a v).2.reg i = s.reg i := by
  rw [s.hostWrite_unimplemented v hopen hr hw]
  have hrep := s.addrFault_reported
  exact ⟨hrep.mem, hrep.chk, hrep.valves, s.addrFault_count, fun i h1 h2 h3 => hrep.reg (by simp [reportRegs, h1, h2, h3])⟩

/-- A write to a register without an effect of its own (R10 to R12, R411). -/
theorem hostWrite_plain_facts (s : State) {p : Writer} {a : Nat} {r : RegRow} (v : Word) (hopen : closedTo p a = false)
    (hr : regAt a = some r) (hcalm : s.calm = true) (hin : inInputs a = false) (hwr : r.rw ≠ 0 ∨ r.w1c ≠ 0 ∨ r.wo ≠ 0)
    (hplain : r.reg ∉ effectRegs) :
    (s.hostWrite p a v).2.mem = s.mem ∧ (s.hostWrite p a v).2.queues = s.queues ∧
      (s.hostWrite p a v).2.valves = s.valves ∧ (∀ i, i ≠ a → (s.hostWrite p a v).2.reg i = s.reg i) ∧
      (sramReg a = true → (s.hostWrite p a v).2.chkAt a = 0) ∧
      (s.hostWrite p a v).2.reg a = r.stored (s.reg a) v := by
  rw [s.hostWrite_plain v hopen hr hcalm hin hwr hplain]
  have hclear : ∃ g, (if r.w1c = 0 then s else s.setReg a (BitVec.ofNat 40 (r.cleared (s.reg a) v))) = { s with regs := g } ∧
      ∀ i, i ≠ a → State.reg { s with regs := g } i = s.reg i := by
    split
    · exact ⟨_, rfl, fun _ _ => rfl⟩
    · exact ⟨_, rfl, fun i hi => (s.reg_setReg a i _).trans (if_neg hi)⟩
  obtain ⟨g, hg, hreg⟩ := hclear
  rw [hg]
  obtain ⟨hs, e⟩ | ⟨hs, e⟩ := State.store_cases { s with regs := g } (r.stored (s.reg a) v) hr <;> rw [e]
  · refine ⟨rfl, rfl, rfl, fun i hi => ?_, fun _ => ?_, ?_⟩
    · simp [State.reg_setReg, hi, hreg i hi]
    · exact (State.chkAt_setChk _ a a 0).trans (if_pos rfl)
    · simp [State.reg_setReg]
  · refine ⟨rfl, rfl, rfl, fun i hi => ?_, fun h => ?_, ?_⟩
    · simp [State.reg_setReg, hi, hreg i hi]
    · rw [hs] at h; contradiction
    · simp [State.reg_setReg]

/-- A taken write of a window word outside the event store. -/
theorem hostWrite_window_taken (s : State) {p : Writer} {a : Nat} (v : Word) (hopen : closedTo p a = false)
    (hw : inWindow a = true) (he : inEvents a = false) (hdone : s.writeWindow a v = (.done, s.sramWrite a v)) :
    (s.hostWrite p a v).2.memWord a = v ∧ (s.hostWrite p a v).2.chkAt a = 0 ∧
      (∀ b, b ≠ a → (s.hostWrite p a v).2.memWord b = s.memWord b) ∧ (s.hostWrite p a v).2.regs = s.regs ∧
      (s.hostWrite p a v).2.queues = s.queues := by
  rw [s.hostWrite_window v hopen hw, hdone]
  exact s.sramWrite_window_facts v hw he

/-- A window write that sets no flag and is not taken leaves the state. -/
theorem hostWrite_window_silent (s : State) {p : Writer} {a : Nat} (v : Word) (hopen : closedTo p a = false)
    (hw : inWindow a = true) (h : s.writeWindow a v = (.silent, s)) : (s.hostWrite p a v).2 = s := by
  rw [s.hostWrite_window v hopen hw, h]; rfl

/-- A write to a shape store in use: WRERR and the count of rejected words (R186). -/
theorem hostWrite_shape_used (s : State) {p : Writer} {a : Nat} (v : Word) (hopen : closedTo p a = false)
    (hs : inShape a = true) {g : Nat} (hg : g = (a - 0x4000) / 0x400) (hused : s.storeFree g = false) :
    (s.hostWrite p a v).2.mem = s.mem ∧ (s.hostWrite p a v).2.flag (F.VDA_Gg_SEQ_WRERR g) = true ∧
      (s.hostWrite p a v).2.fld (F.VDA_Gg_SEQ_WRREJ g) =
        satAdd (F.VDA_Gg_SEQ_WRREJ g).width (s.fld (F.VDA_Gg_SEQ_WRREJ g)) 1 ∧
      ∀ i, i ≠ (F.VDA_Gg_SEQ_w g).addr → (s.hostWrite p a v).2.reg i = s.reg i := by
  subst hg
  rw [s.hostWrite_window v hopen (inShape_only hs).1, s.writeWindow_shape_used v hs hused]
  generalize (a - 0x4000) / 0x400 = g
  refine ⟨rfl, ?_, ?_, fun i hi => ?_⟩
  · calc ((s.raise (F.VDA_Gg_SEQ_WRERR g)).inc (F.VDA_Gg_SEQ_WRREJ g)).flag (F.VDA_Gg_SEQ_WRERR g)
        = (s.setFlag (F.VDA_Gg_SEQ_WRERR g) true).flag (F.VDA_Gg_SEQ_WRERR g) :=
          State.flag_setFld_disj _ (F.VDA_Gg_SEQ_WRREJ g) (F.VDA_Gg_SEQ_WRERR g) _ rfl (.inl (by decide : 8 < 24))
      _ = true := State.flag_setFlag_same _ _ _ rfl
  · have hrej : (s.raise (F.VDA_Gg_SEQ_WRERR g)).fld (F.VDA_Gg_SEQ_WRREJ g) = s.fld (F.VDA_Gg_SEQ_WRREJ g) :=
      s.fld_setFld_disj (F.VDA_Gg_SEQ_WRERR g) (F.VDA_Gg_SEQ_WRREJ g) _ rfl (.inr (by decide : 8 < 24))
    rw [← hrej]
    exact State.fld_inc_same _ _ rfl
  · exact (State.inc_reg _ (F.VDA_Gg_SEQ_WRREJ g) hi).trans (s.reg_setFld_ne (F.VDA_Gg_SEQ_WRERR g) _ hi)

/-- Settles O60, one rule of host writes for each clause. -/
theorem writesFollowAccessCodes : Obligations.WritesFollowAccessCodes := by
  unfold Obligations.WritesFollowAccessCodes
  rintro s p a v n hrun rfl
  rw [exec_registerWrite s p a v hrun]
  refine ⟨fun hp hblk => ?closed, fun hopen' => ?_⟩
  case closed =>
    have hclosed : closedTo (some p) a.toNat = true := by simpa [closedTo, hp] using hblk
    rw [s.hostWrite_closed v hclosed]
  have hopen : closedTo (some p) a.toNat = false := by
    obtain hp | ⟨hslk, hkey⟩ := hopen'
    · simp [closedTo, hp]
    · simp [closedTo, hslk, hkey]
  refine ⟨fun hr hw => ⟨_, rfl, hostWrite_unimplemented_facts s v hopen hr hw⟩, fun r hr hrw hw1c hwo => ?readOnly,
    fun r hr hcalm hin hwr hplain => ?plain, fun hm hfree => ?mapFree, fun hm hact => ?mapActive, fun h => ?other,
    fun hs g hg => ⟨fun hfree => ?shapeFree, fun hused => ⟨_, rfl, hostWrite_shape_used s v hopen hs hg hused⟩⟩⟩
  case readOnly => rw [s.hostWrite_readOnly v hopen hr hrw hw1c hwo]
  case plain =>
    obtain ⟨hmem, hq, hval, hreg, hchk, hword⟩ := hostWrite_plain_facts s v hopen hr hcalm hin hwr hplain
    exact ⟨_, rfl, hmem, hq, hval, hreg, hchk, fun i hi => by rw [hword]; exact r.getLsbD_stored _ v hi⟩
  case mapFree =>
    obtain ⟨hw, hs, he⟩ := inMap_only hm
    exact ⟨_, rfl, hostWrite_window_taken s v hopen hw he (by rw [s.writeWindow_map v hm hs, hfree]; rfl)⟩
  case mapActive =>
    obtain ⟨hw, hs, he⟩ := inMap_only hm
    rw [hostWrite_window_silent s v hopen hw (by rw [s.writeWindow_map v hm hs, hact]; rfl)]
  case other =>
    obtain ⟨hw, hs, hm⟩ := inEvents_or_inTrace_only h
    rw [hostWrite_window_silent s v hopen hw (s.writeWindow_other v hs hm)]
  case shapeFree =>
    obtain ⟨hw, he⟩ := inShape_only hs
    subst hg
    obtain ⟨hword, hchk, hrest, hregs, -⟩ := hostWrite_window_taken s v hopen hw he (s.writeWindow_shape_free v hs hfree)
    exact ⟨_, rfl, hword, hchk, hrest, hregs⟩

end Sys2Proof.Proofs
end

section
/-! PROOF. Steps and ticks: every step keeps the canonical form (O4), and when scheduler ticks start (O14). -/

namespace Sys2Proof.Proofs

open Sys2Proof Sys2Proof.Machine

/-- A step runs at most one command, and every command keeps the canonical form (`exec_kept`); the queue is no part of it. -/
theorem step_keeps_canonical {s t : State} (hcanon : s.canonical = true) (hstep : step s = .next t) :
    t.canonical = true := by
  unfold step at hstep
  split at hstep
  next => cases hstep; exact hcanon
  next c rest _ =>
    obtain ⟨u, hexec, -, hkeep⟩ := exec_kept c { s with pending := rest }
    rw [hexec] at hstep
    cases hstep
    exact hkeep hcanon

/-- Settles O4: canonical form is kept by every command, and so by every step. -/
theorem stepKeepsCanonicalForm : Obligations.StepKeepsCanonicalForm := by
  unfold Obligations.StepKeepsCanonicalForm
  intro s t hcanon hstep
  exact step_keeps_canonical hcanon hstep

theorem exec_schedulerTick (s : State) (hrun : s.boot.halted = false) :
    exec .schedulerTick s = .next (if s.gated then s else s.nextTick) := by
  show execSchedulerTick s = _
  rw [execSchedulerTick, s.clocked_running _ hrun]
  split <;> rfl

/-- Settles O14: the tick runs where the next instant of its class is taken, and taking it moves the clock alone. -/
theorem ticksComeAtTheirInstants : Obligations.TicksComeAtTheirInstants := by
  unfold Obligations.TicksComeAtTheirInstants
  intro s hrun hcanon
  have hexec := exec_schedulerTick s hrun
  refine ⟨fun hgate => ?running, fun hgate => ?gated⟩
  case running =>
    obtain ⟨-, -, -, -, hfrac⟩ := s.canonical_iff.1 hcanon
    obtain ⟨r, k, hclock, hmul, hlow, hhigh, hcc⟩ := s.tick_at hfrac
    refine ⟨s.takeInstant clsTick 32 0, r, k, ?_, hclock, hmul, hlow, hhigh, hcc, fun a ha => s.takeInstant_reg _ _ _ ha⟩
    rw [hexec, if_neg (by simp [hgate]), State.nextTick]
  case gated => rw [hexec, if_pos hgate]

end Sys2Proof.Proofs
end

section
/-! PROOF. HOLDOVER, its entry and its end (R42). -/

namespace Sys2Proof.Machine

open Sys2Proof

/-! ### Signed fields -/

theorem wrapW_lt (w : Nat) (x : Int) : wrapW w x < 2 ^ w := by
  have hpos : (0 : Int) < (2 ^ w : Nat) := by exact_mod_cast Nat.two_pow_pos w
  have h0 := Int.emod_nonneg x hpos.ne'
  have h1 := Int.emod_lt_of_pos x hpos
  unfold wrapW
  omega

/-- A signed field read after it is written. -/
theorem State.fldI_setFldI_same (s : State) (f : Fld) (x : Int) (h : f.ok = true) :
    (s.setFldI f x).fldI f = sx f.width (wrapW f.width x) := by
  rw [State.fldI, State.setFldI, State.fld_setFld_same s f _ h, Nat.mod_eq_of_lt (wrapW_lt _ _)]

theorem State.fldI_of_reg {s t : State} (f : Fld) (h : t.reg f.addr = s.reg f.addr) : t.fldI f = s.fldI f :=
  congrArg (sx f.width) (State.fld_of_reg f h)

theorem State.flag_of_reg {s t : State} (f : Fld) (h : t.reg f.addr = s.reg f.addr) : t.flag f = s.flag f :=
  congrArg (fun x => x % 2 == 1) (State.fld_of_reg f h)

/-! ### The end of the last LOCKED run -/

/-- The accounts of a LOCKED node take in the run that ends at `c`. -/
theorem State.closeRun_lockRuns (s : State) (c : Nat) (hlocked : s.fld F.TBS_STAT_STATE = 1) :
    (s.advCcTo c).closeRun.clk.lockRuns =
      (max s.clk.cc c - s.clk.runStart, s.fldI F.TBS_RATE_RATE) :: s.clk.lockRuns := by
  have hstate : (s.advCcTo c).fld F.TBS_STAT_STATE = 1 :=
    (State.fld_of_reg F.TBS_STAT_STATE (s.advCcTo_reg c (by decide))).trans hlocked
  have hrate : (s.advCcTo c).fldI F.TBS_RATE_RATE = s.fldI F.TBS_RATE_RATE :=
    State.fldI_of_reg F.TBS_RATE_RATE (s.advCcTo_reg c (by decide))
  have hruns : (s.advCcTo c).clk.runStart = s.clk.runStart ∧ (s.advCcTo c).clk.lockRuns = s.clk.lockRuns := by
    unfold State.advCcTo
    split <;> exact ⟨rfl, rfl⟩
  obtain ⟨hstart, hlist⟩ := hruns
  calc (s.advCcTo c).closeRun.clk.lockRuns
      = ((s.advCcTo c).clk.cc - (s.advCcTo c).clk.runStart, (s.advCcTo c).fldI F.TBS_RATE_RATE) ::
          (s.advCcTo c).clk.lockRuns := if_pos hstate
    _ = _ := by rw [s.advCcTo_cc, hstart, hrate, hlist]

/-! ### Entry -/

/-- The rate term frozen at the average of the sum `p.1` over the time `p.2`, and as it was where there is no time. -/
def State.freezeRate (s : State) (p : Int × Nat) : State :=
  if p.2 = 0 then s else s.setFldI F.TBS_RATE_RATE (freeRound 11 p.1 p.2)

/-- HOLDOVER begins now, with the rate term frozen at the average that `p` gives. -/
def State.holdOver (s : State) (p : Int × Nat) : State :=
  State.setFld { s.freezeRate p with clk := { (s.freezeRate p).clk with holdFrom := (s.freezeRate p).clk.cc } }
    F.TBS_STAT_STATE 2

theorem State.freezeRate_same (s : State) (p : Int × Nat) : ∃ r, s.freezeRate p = { s with regs := r } := by
  unfold State.freezeRate
  split <;> exact ⟨_, rfl⟩

theorem State.freezeRate_reg (s : State) (p : Int × Nat) {i : Nat} (h : i ≠ F.TBS_RATE_RATE.addr) :
    (s.freezeRate p).reg i = s.reg i := by
  unfold State.freezeRate
  split
  · rfl
  · exact s.reg_setFld_ne F.TBS_RATE_RATE _ h

theorem State.holdOver_same (s : State) (p : Int × Nat) :
    ∃ r, s.holdOver p = { s with regs := r, clk := { s.clk with holdFrom := s.clk.cc } } := by
  obtain ⟨r, e⟩ := s.freezeRate_same p
  rw [State.holdOver, e]
  exact ⟨_, rfl⟩

theorem State.holdOver_reg (s : State) (p : Int × Nat) {i : Nat} (hstat : i ≠ F.TBS_STAT_STATE.addr)
    (hrate : i ≠ F.TBS_RATE_RATE.addr) : (s.holdOver p).reg i = s.reg i :=
  (State.reg_setFld_ne _ F.TBS_STAT_STATE 2 hstat).trans (s.freezeRate_reg p hrate)

theorem State.holdOver_state (s : State) (p : Int × Nat) : (s.holdOver p).fld F.TBS_STAT_STATE = 2 :=
  State.fld_setFld_same _ F.TBS_STAT_STATE 2 (by decide)

theorem State.holdOver_rate (s : State) (p : Int × Nat) (hn : p.2 ≠ 0) :
    (s.holdOver p).fldI F.TBS_RATE_RATE = sx 24 (wrapW 24 (freeRound 11 p.1 p.2)) :=
  calc (s.holdOver p).fldI F.TBS_RATE_RATE = (s.freezeRate p).fldI F.TBS_RATE_RATE :=
        State.fldI_setFld_ne _ F.TBS_STAT_STATE F.TBS_RATE_RATE 2 (by decide)
    _ = (s.setFldI F.TBS_RATE_RATE (freeRound 11 p.1 p.2)).fldI F.TBS_RATE_RATE := by rw [State.freezeRate, if_neg hn]
    _ = _ := s.fldI_setFldI_same F.TBS_RATE_RATE _ (by decide)

/-! ### End -/

/-- HOLDOVER has lasted HOLDMAX: FREERUN, with HOLDEXP set and reported. -/
def State.expireHoldover (s : State) : State :=
  ((s.setFld F.TBS_STAT_STATE 0).raise F.TBS_STAT_HOLDEXP).report srcHoldExp 0

/-- The report changes no register of the timebase. -/
theorem State.expireHoldover_reported (s : State) :
    Reported (reportRegs srcHoldExp) ((s.setFld F.TBS_STAT_STATE 0).raise F.TBS_STAT_HOLDEXP) s.expireHoldover :=
  State.reportAt_reported _ srcHoldExp 0 _

theorem State.expireHoldover_parts (s : State) :
    s.expireHoldover.clk = s.clk ∧ s.expireHoldover.mem = s.mem ∧ s.expireHoldover.trv = s.trv := by
  obtain ⟨⟨g, x, y, n, f, e⟩, -⟩ := s.expireHoldover_reported
  rw [e]
  exact ⟨rfl, rfl, rfl⟩

theorem State.expireHoldover_state (s : State) : s.expireHoldover.fld F.TBS_STAT_STATE = 0 :=
  calc s.expireHoldover.fld F.TBS_STAT_STATE
      = ((s.setFld F.TBS_STAT_STATE 0).setFlag F.TBS_STAT_HOLDEXP true).fld F.TBS_STAT_STATE :=
        State.fld_of_reg _ (s.expireHoldover_reported.reg (by decide))
    _ = (s.setFld F.TBS_STAT_STATE 0).fld F.TBS_STAT_STATE := State.fld_setFld_disj _ _ _ _ (by decide) (by decide)
    _ = 0 := s.fld_setFld_same F.TBS_STAT_STATE 0 (by decide)

theorem State.expireHoldover_flag (s : State) : s.expireHoldover.flag F.TBS_STAT_HOLDEXP = true :=
  calc s.expireHoldover.flag F.TBS_STAT_HOLDEXP
      = ((s.setFld F.TBS_STAT_STATE 0).setFlag F.TBS_STAT_HOLDEXP true).flag F.TBS_STAT_HOLDEXP :=
        State.flag_of_reg _ (s.expireHoldover_reported.reg (by decide))
    _ = true := State.flag_setFlag_same _ _ _ (by decide)

theorem State.expireHoldover_rate (s : State) : s.expireHoldover.fld F.TBS_RATE_RATE = s.fld F.TBS_RATE_RATE :=
  calc s.expireHoldover.fld F.TBS_RATE_RATE
      = ((s.setFld F.TBS_STAT_STATE 0).setFlag F.TBS_STAT_HOLDEXP true).fld F.TBS_RATE_RATE :=
        State.fld_of_reg _ (s.expireHoldover_reported.reg (by decide))
    _ = (s.setFld F.TBS_STAT_STATE 0).fld F.TBS_RATE_RATE := State.fld_setFld_ne _ _ _ _ (by decide)
    _ = s.fld F.TBS_RATE_RATE := State.fld_setFld_ne _ _ _ _ (by decide)

end Sys2Proof.Machine

namespace Sys2Proof.Proofs

open Sys2Proof Sys2Proof.Machine

theorem exec_holdoverEntry (s u : State) {c : Nat} (hrun : s.boot.halted = false) (hlast : s.clk.lastDisc = some c)
    (hlocked : s.fld F.TBS_STAT_STATE = 1) (hu : u = (s.advCcTo (c + secClocks 1)).closeRun) :
    exec .holdoverEntry s = .next (u.holdOver (rateSum (secClocks 60) u.clk.lockRuns)) := by
  show execHoldoverEntry s = _
  rw [execHoldoverEntry, s.clocked_running _ hrun, hlast]
  refine (if_pos hlocked).trans ?_
  rw [← hu]
  generalize secClocks 60 = m
  rfl

theorem exec_holdoverExpired (s u : State) (hrun : s.boot.halted = false) (hhold : s.fld F.TBS_STAT_STATE = 2)
    (hu : u = s.advCcTo (s.clk.holdFrom + secClocks (clampN 10 3600 (s.fld F.TBS_CTRL_HOLDMAX)))) :
    exec .holdoverExpired s = .next u.expireHoldover := by
  show execHoldoverExpired s = _
  rw [execHoldoverExpired, s.clocked_running _ hrun, if_pos hhold, ← hu, State.expireHoldover]

/-- The entry to HOLDOVER at `c`, with the rate term's average taken over `m` core clocks. -/
theorem holdOver_facts (s u : State) (c m : Nat) (hlocked : s.fld F.TBS_STAT_STATE = 1) (hu : u = (s.advCcTo c).closeRun) :
    ∀ t, t = u.holdOver (rateSum m u.clk.lockRuns) → t.fld F.TBS_STAT_STATE = 2 ∧ c ≤ t.clk.cc ∧ t.clk.holdFrom = t.clk.cc ∧
      (∀ a n, rateSum m ((t.clk.cc - s.clk.runStart, s.fldI F.TBS_RATE_RATE) :: s.clk.lockRuns) = (a, n) → n ≠ 0 →
        t.fldI F.TBS_RATE_RATE = sx 24 (wrapW 24 (freeRound 11 a n))) ∧
      (∀ i, i ≠ 0x200 → i ≠ F.TBS_STAT_STATE.addr → i ≠ F.TBS_RATE_RATE.addr → t.reg i = s.reg i) ∧
      t.mem = s.mem ∧ t.queues = s.queues ∧ t.trv = s.trv := by
  rintro t rfl
  have hcc : u.clk.cc = max s.clk.cc c := hu ▸ s.advCcTo_cc c
  have hruns : u.clk.lockRuns = (u.clk.cc - s.clk.runStart, s.fldI F.TBS_RATE_RATE) :: s.clk.lockRuns := by
    rw [hcc, hu, s.closeRun_lockRuns c hlocked]
  have hreg : ∀ i, i ≠ 0x200 → u.reg i = s.reg i := fun i hi => hu ▸ s.advCcTo_reg c hi
  have hparts : u.mem = s.mem ∧ u.queues = s.queues ∧ u.trv = s.trv := by
    obtain ⟨r, k, hadv⟩ := s.advCcTo_same c
    rw [hu, State.closeRun, hadv]
    exact ⟨rfl, rfl, rfl⟩
  obtain ⟨r, hsame⟩ := u.holdOver_same (rateSum m u.clk.lockRuns)
  refine ⟨u.holdOver_state _, ?_, by rw [hsame], fun a n hsum hn => ?_, fun i hi hstat hrate => ?_, by rw [hsame]; exact hparts⟩
  · rw [hsame]
    exact hcc ▸ le_max_right _ _
  · have hp : rateSum m u.clk.lockRuns = (a, n) := by rw [hruns, ← hsum, hsame]
    rw [hp]
    exact u.holdOver_rate (a, n) hn
  · rw [u.holdOver_reg _ hstat hrate, hreg i hi]

/-- The end of HOLDOVER at `c`. -/
theorem expireHoldover_facts (s : State) (c : Nat) :
    ∀ t, t = (s.advCcTo c).expireHoldover → t.fld F.TBS_STAT_STATE = 0 ∧ t.flag F.TBS_STAT_HOLDEXP = true ∧
      t.fld F.TBS_RATE_RATE = s.fld F.TBS_RATE_RATE ∧ c ≤ t.clk.cc ∧ t.mem = s.mem ∧ t.trv = s.trv := by
  rintro t rfl
  obtain ⟨r, k, hadv⟩ := s.advCcTo_same c
  obtain ⟨hclk, hmem, htrv⟩ := (s.advCcTo c).expireHoldover_parts
  refine ⟨State.expireHoldover_state _, State.expireHoldover_flag _, ?_, ?_, by rw [hmem, hadv], by rw [htrv, hadv]⟩
  · exact (State.expireHoldover_rate _).trans (State.fld_of_reg F.TBS_RATE_RATE (s.advCcTo_reg c (by decide)))
  · rw [hclk, s.advCcTo_cc]
    exact le_max_right _ _

/-- Settles O30: HOLDOVER_ENTRY leaves `holdOver` of the node at the end of its last run, and HOLDOVER_EXPIRED leaves
`expireHoldover` of the node at its deadline. -/
theorem holdoverFollowsLossOfInput : Obligations.HoldoverFollowsLossOfInput := by
  unfold Obligations.HoldoverFollowsLossOfInput
  intro s hrun
  exact ⟨fun c hlast hlocked => ⟨_, exec_holdoverEntry s _ hrun hlast hlocked rfl, holdOver_facts s _ _ _ hlocked rfl _ rfl⟩,
    fun hhold => ⟨_, exec_holdoverExpired s _ hrun hhold rfl, expireHoldover_facts s _ _ rfl⟩⟩

end Sys2Proof.Proofs
end

section
/-! PROOF. The discipline of the timebase (R39 to R41, R47, R452): the relation `Retimed s t`, and the operations that a discipline
input is made of, one lemma for each. -/

namespace Sys2Proof.Machine

open Sys2Proof

/-- The registers that a discipline input may change: the timebase's, and the drops of the error ring, which takes the record
of a time step. -/
def timebaseRegs : List Nat :=
  [F.TBS_TIME_TIME.addr, F.TBS_STAT_STATE.addr, F.TBS_RATE_RATE.addr, F.TBS_OFFSET_OFFSET.addr, F.TBS_WRAP_WRAP.addr,
    F.TBS_LEAP_LEAP.addr, (F.EVS_Qn_ERR_w 59).addr]

/-- From `s` to `t` the core clock, the link, the head's state, what waits for the next tick, and the beacon's travel and
speed are as before, and so are the registers outside `timebaseRegs`; local stamps may have moved with system time. -/
structure Retimed (s t : State) : Prop where
  lnk : t.lnk = s.lnk
  hd : t.hd = s.hd
  cc : t.clk.cc = s.clk.cc
  due : t.clk.due = s.clk.due
  bcnCc : t.trv.bcnCc = s.trv.bcnCc
  bcn : t.trv.bcn.map (fun b => (b.x, b.v)) = s.trv.bcn.map (fun b => (b.x, b.v))
  reg : ∀ i, i ∉ timebaseRegs → t.reg i = s.reg i

theorem Retimed.refl (s : State) : Retimed s s := ⟨rfl, rfl, rfl, rfl, rfl, rfl, fun _ _ => rfl⟩

theorem Retimed.trans {s t u : State} (h : Retimed s t) (g : Retimed t u) : Retimed s u where
  lnk := g.lnk.trans h.lnk
  hd := g.hd.trans h.hd
  cc := g.cc.trans h.cc
  due := g.due.trans h.due
  bcnCc := g.bcnCc.trans h.bcnCc
  bcn := g.bcn.trans h.bcn
  reg := fun i hi => (g.reg i hi).trans (h.reg i hi)

theorem Retimed.setFld (s : State) (f : Fld) (v : Nat) (h : f.addr ∈ timebaseRegs) : Retimed s (s.setFld f v) :=
  ⟨rfl, rfl, rfl, rfl, rfl, rfl, fun _ hi => s.reg_setFld_ne f v fun e => hi (e ▸ h)⟩

theorem Retimed.reported {s t : State} {A : List Nat} (h : Reported A s t) (hA : A ⊆ timebaseRegs) : Retimed s t := by
  obtain ⟨⟨g, x, y, n, f, rfl⟩, hreg⟩ := h
  exact ⟨rfl, rfl, rfl, rfl, rfl, rfl, fun i hi => hreg i fun hi' => hi (hA hi')⟩

theorem State.closeRun_retimed (s : State) : Retimed s s.closeRun := ⟨rfl, rfl, rfl, rfl, rfl, rfl, fun _ _ => rfl⟩

theorem State.chooseFreq_retimed (s : State) (off : Rat) : Retimed s (s.chooseFreq off) :=
  ⟨rfl, rfl, rfl, rfl, rfl, rfl, fun _ _ => rfl⟩

theorem State.chooseRate_retimed (s : State) (off : Rat) (ms : Nat) : Retimed s (s.chooseRate off ms) := by
  obtain ⟨n, x, e⟩ : ∃ n x, s.chooseRate off ms = State.setFldI { s with free := n } F.TBS_RATE_RATE x := ⟨_, _, rfl⟩
  rw [e]
  exact Retimed.trans (t := { s with free := n }) ⟨rfl, rfl, rfl, rfl, rfl, rfl, fun _ _ => rfl⟩
    (.setFld _ F.TBS_RATE_RATE _ (by decide))

/-- The moves of local stamps with a step of time by `k` of system time `t` (R40). -/
theorem State.shift_retimed (s : State) (k : Int) (t : Nat) (p : PlanSt) (x : CtlSt) (g : GnbSt) (q : List (Nat × QueueSt)) :
    Retimed s { s with clk := s.clk.shift k t, trv := s.trv.shift k, plan := p, ctl := x, gnb := g, queues := q } := by
  refine ⟨rfl, rfl, rfl, rfl, rfl, ?_, fun _ _ => rfl⟩
  show (s.trv.bcn.map (Base.shift k)).map (fun b => (b.x, b.v)) = _
  rw [Option.map_map]
  rfl

theorem State.timeStep_retimed (s : State) (k : Int) : Retimed s (s.timeStep k) := by
  have hrecord : ∀ (u : State) (v : Nat), Retimed u (u.errRec 2 v u.now 0) := fun u v =>
    .reported (A := timebaseRegs) (u.ringDrop_reported 59 _ _ (by decide)) (List.Subset.refl _)
  unfold State.timeStep
  exact (Retimed.setFld s F.TBS_TIME_TIME _ (by decide)).trans ((State.shift_retimed _ _ _ _ _ _ _).trans
    ((Retimed.setFld _ F.TBS_STAT_STEPS _ (by decide)).trans (hrecord _ _)))

/-- The timebase is LOCKED to beacons or to the receiver, with `rest` of the offset left to slew. -/
def State.lockedBy (s : State) (beacons : Bool) (rest : Rat) : State :=
  let u := (s.setFld F.TBS_STAT_STATE 1).setFlag F.TBS_STAT_SRC beacons
  { u with clk := { u.clk with lastDisc := some u.clk.cc, lastOff := some (u.clk.cc, rest) } }

theorem State.lockedBy_retimed (s : State) (b : Bool) (r : Rat) : Retimed s (s.lockedBy b r) :=
  (Retimed.setFld s F.TBS_STAT_STATE 1 (by decide)).trans ((Retimed.setFld _ F.TBS_STAT_SRC (b2n b) (by decide)).trans
    ⟨rfl, rfl, rfl, rfl, rfl, rfl, fun _ _ => rfl⟩)

theorem State.lockedBy_state (s : State) (b : Bool) (r : Rat) : (s.lockedBy b r).fld F.TBS_STAT_STATE = 1 :=
  calc (s.lockedBy b r).fld F.TBS_STAT_STATE
      = (s.setFld F.TBS_STAT_STATE 1).fld F.TBS_STAT_STATE :=
        State.fld_setFld_disj _ F.TBS_STAT_SRC F.TBS_STAT_STATE _ (by decide) (by decide)
    _ = 1 := s.fld_setFld_same F.TBS_STAT_STATE 1 (by decide)

theorem State.lockedBy_src (s : State) (b : Bool) (r : Rat) : (s.lockedBy b r).flag F.TBS_STAT_SRC = b :=
  State.flag_setFlag_same _ F.TBS_STAT_SRC b (by decide)

/-- A discipline input ends with the timebase LOCKED, after what it does to the rate and to system time. -/
theorem State.discipline_locked (s : State) (off : Rat) (b : Bool) :
    ∃ u r, Retimed s u ∧ s.discipline off b = u.lockedBy b r := by
  have hjump : ∀ (v : State) (c : Bool) (k : Int), Retimed v (if c then v.timeStep k else v) := by
    intro v c k
    split
    · exact v.timeStep_retimed k
    · exact .refl v
  have hstart : Retimed s (((s.showOffset off).closeRun).chooseFreq off) :=
    (Retimed.setFld s F.TBS_OFFSET_OFFSET _ (by decide)).trans ((State.closeRun_retimed _).trans (State.chooseFreq_retimed _ off))
  exact ⟨_, _, (hstart.trans (hjump _ _ _)).trans (State.chooseRate_retimed _ _ _), rfl⟩

/-! ### What waits for the tick (R47) -/

/-- Setting the wrap count starts a new count of wraps and sets the leap seconds. -/
theorem State.setWrap_eq (s : State) (w t leap : Nat) : ∃ u x, u = (s.setFld F.TBS_WRAP_WRAP x).setFld F.TBS_LEAP_LEAP leap ∧
    s.setWrap w t leap = { u with clk := { u.clk with wraps := 0 } } := by
  unfold State.setWrap
  generalize ((w * mod40 + t : Nat) + dist s.now t) / (mod40 : Int) = x
  exact ⟨_, _, rfl, rfl⟩

theorem State.setWrap_retimed (s : State) (w t leap : Nat) : Retimed s (s.setWrap w t leap) := by
  obtain ⟨u, x, hu, e⟩ := s.setWrap_eq w t leap
  have hset : Retimed s u :=
    hu ▸ (Retimed.setFld s F.TBS_WRAP_WRAP x (by decide)).trans (.setFld _ F.TBS_LEAP_LEAP leap (by decide))
  rw [e]
  exact hset.trans ⟨rfl, rfl, rfl, rfl, rfl, rfl, fun _ _ => rfl⟩

theorem State.setWrap_lastDisc (s : State) (w t leap : Nat) : (s.setWrap w t leap).clk.lastDisc = s.clk.lastDisc := by
  obtain ⟨u, x, hu, e⟩ := s.setWrap_eq w t leap
  have hclk : u.clk = s.clk := by rw [hu]; rfl
  rw [e, hclk]

theorem State.setWrap_leap (s : State) (w t leap : Nat) : (s.setWrap w t leap).fld F.TBS_LEAP_LEAP = leap % 256 := by
  obtain ⟨u, x, hu, e⟩ := s.setWrap_eq w t leap
  have hset : u.fld F.TBS_LEAP_LEAP = leap % 256 := by rw [hu, State.fld_setFld_same _ _ _ (by decide)]; rfl
  rw [e, ← hset]
  rfl

theorem State.setWrap_stat (s : State) (w t leap : Nat) :
    (s.setWrap w t leap).reg F.TBS_STAT_STATE.addr = s.reg F.TBS_STAT_STATE.addr := by
  obtain ⟨u, x, hu, e⟩ := s.setWrap_eq w t leap
  have hset : u.reg F.TBS_STAT_STATE.addr = s.reg F.TBS_STAT_STATE.addr := by
    rw [hu, State.reg_setFld_ne _ _ _ (by decide), State.reg_setFld_ne _ _ _ (by decide)]
  rw [e, ← hset]
  rfl

/-- What waits for the tick disciplines the timebase as from beacons, and sets the wrap count and the leap seconds. -/
theorem State.applyDue_locked (s : State) {d : TimeDue} (h : s.clk.due = some d) :
    ∃ u r, Retimed { s with clk := { s.clk with due := none } } u ∧
      s.applyDue = (u.lockedBy true r).setWrap d.wrap d.reft d.leap := by
  obtain ⟨u, r, hu, e⟩ := State.discipline_locked { s with clk := { s.clk with due := none } } d.off true
  refine ⟨u, r, hu, ?_⟩
  rw [State.applyDue, h]
  exact congrArg (fun v => State.setWrap v d.wrap d.reft d.leap) e

theorem State.applyDue_retimed (s : State) {d : TimeDue} (h : s.clk.due = some d) :
    Retimed { s with clk := { s.clk with due := none } } s.applyDue := by
  obtain ⟨u, r, hu, e⟩ := s.applyDue_locked h
  rw [e]
  exact hu.trans ((u.lockedBy_retimed true r).trans (State.setWrap_retimed _ _ _ _))

theorem State.applyDue_lastDisc (s : State) {d : TimeDue} (h : s.clk.due = some d) :
    s.applyDue.clk.lastDisc = some s.clk.cc := by
  obtain ⟨u, r, hu, e⟩ := s.applyDue_locked h
  rw [e, State.setWrap_lastDisc]
  exact congrArg some hu.cc

theorem State.applyDue_facts (s : State) {d : TimeDue} (h : s.clk.due = some d) :
    s.applyDue.fld F.TBS_STAT_STATE = 1 ∧ s.applyDue.flag F.TBS_STAT_SRC = true ∧ s.applyDue.clk.due = none ∧
      s.applyDue.fld F.TBS_LEAP_LEAP = d.leap % 256 := by
  have hdue := (s.applyDue_retimed h).due
  obtain ⟨u, r, hu, e⟩ := s.applyDue_locked h
  have hstat := (u.lockedBy true r).setWrap_stat d.wrap d.reft d.leap
  rw [← e] at hstat
  refine ⟨?_, ?_, hdue, by rw [e]; exact State.setWrap_leap _ _ _ _⟩
  · exact (State.fld_of_reg F.TBS_STAT_STATE hstat).trans (u.lockedBy_state true r)
  · exact (congrArg (fun x => x % 2 == 1) (State.fld_of_reg F.TBS_STAT_SRC hstat)).trans (u.lockedBy_src true r)

end Sys2Proof.Machine
end

section
/-! PROOF. Beacons received (R41, R44, R47): what an accepted beacon leaves on a span node. -/

namespace Sys2Proof.Machine

open Sys2Proof

/-! ### Numbers in payloads -/

theorem ofBytes_lt (bs : List Byte) : ofBytes bs < 256 ^ bs.length := by
  induction bs using List.reverseRecOn with
  | nil => decide
  | append_singleton bs b ih =>
    have hb := b.isLt
    have hstep : ofBytes (bs ++ [b]) = ofBytes bs * 256 + b.toNat := List.foldl_append ..
    rw [hstep, List.length_append, List.length_singleton, Nat.pow_succ]
    omega

theorem bytesAt_lt (bs : List Byte) (off n : Nat) : bytesAt bs off n < 256 ^ n := by
  have hlen : ((bs.drop off).take n).length ≤ n := List.length_take_le n _
  calc bytesAt bs off n
      < 256 ^ ((bs.drop off).take n).length * 256 ^ (n - ((bs.drop off).take n).length) :=
        Nat.mul_lt_mul_of_pos_right (ofBytes_lt _) (Nat.pow_pos (by decide))
    _ = 256 ^ n := by rw [← Nat.pow_add, Nat.add_sub_cancel' hlen]

/-! ### The head that is heard -/

/-- The node hears a head of epoch `e` at address `a`: it shows the two, and its LA stage follows a head of a new epoch. -/
def State.hearHead (s : State) (e a : Nat) : State :=
  let u : State := { s.setFld F.SLK_BCN_EPOCH e with
    lnk := { s.lnk with head := some a }, hd := { s.hd with bcnCc := some s.clk.cc } }
  if e > s.fld F.SLK_BCN_EPOCH && u.flag F.SYS_HEAD_CFG_LAFOLLOW then
    (u.setFld F.CTL_EDDY_LANODE a).setFld F.LDG_PCFG_PNODE a else u

theorem State.hearHead_same (s : State) (e a : Nat) : ∃ g, s.hearHead e a =
    { s with regs := g, lnk := { s.lnk with head := some a }, hd := { s.hd with bcnCc := some s.clk.cc } } := by
  unfold State.hearHead
  dsimp only
  split <;> exact ⟨_, rfl⟩

theorem State.hearHead_reg (s : State) (e a : Nat) {i : Nat} (hl : i ≠ F.CTL_EDDY_LANODE.addr)
    (hp : i ≠ F.LDG_PCFG_PNODE.addr) : (s.hearHead e a).reg i = (s.setFld F.SLK_BCN_EPOCH e).reg i := by
  unfold State.hearHead
  dsimp only
  split
  · exact (State.reg_setFld_ne _ F.LDG_PCFG_PNODE a hp).trans (State.reg_setFld_ne _ F.CTL_EDDY_LANODE a hl)
  · rfl

theorem State.hearHead_epoch (s : State) {e : Nat} (a : Nat) (he : e < 2 ^ 32) :
    (s.hearHead e a).fld F.SLK_BCN_EPOCH = e :=
  calc (s.hearHead e a).fld F.SLK_BCN_EPOCH = (s.setFld F.SLK_BCN_EPOCH e).fld F.SLK_BCN_EPOCH :=
        State.fld_of_reg _ (s.hearHead_reg e a (by decide) (by decide))
    _ = e % 2 ^ 32 := s.fld_setFld_same _ e (by decide)
    _ = e := Nat.mod_eq_of_lt he

theorem State.hearHead_role (s : State) (e a : Nat) : (s.hearHead e a).role = s.role :=
  State.fld_of_reg F.SYS_ROLE_ROLE
    ((s.hearHead_reg e a (by decide) (by decide)).trans (s.reg_setFld_ne F.SLK_BCN_EPOCH e (by decide)))

/-- The rules of heads leave a span node that does not arbitrate. -/
theorem State.beaconHeads_span (s : State) (e a : Nat) (hrole : s.role = roleSpan) (harb : s.hd.arb = none) :
    s.beaconHeads e a = s := by
  simp [State.beaconHeads, harb, hrole, State.maybeYield, State.isHead, roleSpan, roleStandby, roleActive]

/-! ### Travel -/

/-- A correction of travel changes what is left to spread, and counts a jump. -/
theorem State.correct_same (s : State) (c : Int) : ∃ g r p h,
    s.correct c = { s with regs := g, trv := { s.trv with rem := r, part := p, held := h } } ∧
      ∀ i, i ≠ F.TRV_CFG_JUMPS.addr → (s.correct c).reg i = s.reg i := by
  unfold State.correct
  dsimp only
  split
  · exact ⟨_, _, _, _, rfl, fun _ _ => rfl⟩
  · exact ⟨_, _, _, _, rfl, fun i hi => s.inc_reg F.TRV_CFG_JUMPS hi⟩

/-- The base of travel that a beacon gives, with the corrected stamp `t` (R44). -/
def beaconBase (pl : List Byte) (t : Nat) : Base := { x := bytesAt pl 5 5, v := sx 40 (bytesAt pl 15 5), t := t }

/-- Travel from a beacon: a new base, and what is left of the correction to it. -/
theorem State.beaconTravel_same (s : State) (pl : List Byte) (off : Rat) : ∃ t g r p h,
    s.beaconTravel pl off = { s with
      regs := g, trv := { s.trv with bcn := some (beaconBase pl t), bcnCc := some s.clk.cc, rem := r, part := p, held := h } } ∧
      ∀ i, i ≠ F.TRV_CFG_JUMPS.addr → (s.beaconTravel pl off).reg i = s.reg i := by
  unfold State.beaconTravel
  dsimp only
  generalize add40 (bytesAt pl 10 5) (freeRound 50 off.num off.den) = t
  refine ⟨t, ?_⟩
  have hcorrect := State.correct_same { s with trv := { s.trv with bcn := some (beaconBase pl t), bcnCc := some s.clk.cc } }
  split
  · split
    · exact hcorrect _
    · split
      · exact hcorrect _
      · exact ⟨_, _, _, _, rfl, fun _ _ => rfl⟩
  · exact ⟨_, _, _, _, rfl, fun _ _ => rfl⟩

/-! ### Time -/

/-- What a beacon with the offset `off` leaves for the next tick (R41, R47). -/
def beaconDue (pl : List Byte) (off : Rat) : TimeDue :=
  { off := off * 10 ^ 9 / 2 ^ 20, reft := bytesAt pl 0 5, wrap := bytesAt pl 24 3, leap := bytesAt pl 27 1 }

/-- A discipline input comes now, and `d` waits for the next tick. -/
def State.awaitTick (s : State) (d : TimeDue) : State :=
  { s with clk := { s.clk with due := some d, lastDisc := some s.clk.cc } }

theorem State.beaconTime_span (s : State) (pl : List Byte) (off : Rat) (hrole : s.role = roleSpan) :
    s.beaconTime pl off = if s.gated then (s.awaitTick (beaconDue pl off)).applyDue else s.awaitTick (beaconDue pl off) := by
  have hdisc : s.beaconDisciplines = true := by simp [State.beaconDisciplines, hrole]
  exact if_pos hdisc

/-- Time from a beacon on a span node, with the clocks running or gated. -/
theorem State.beaconTime_facts (s : State) (pl : List Byte) (off : Rat) (hrole : s.role = roleSpan) :
    ∀ t, t = s.beaconTime pl off → t.lnk = s.lnk ∧ t.hd = s.hd ∧ t.clk.lastDisc = some s.clk.cc ∧
      t.trv.bcnCc = s.trv.bcnCc ∧ t.trv.bcn.map (fun b => (b.x, b.v)) = s.trv.bcn.map (fun b => (b.x, b.v)) ∧
      (∀ i, i ∉ timebaseRegs → t.reg i = s.reg i) ∧ (s.gated = false → t.clk.due = some (beaconDue pl off)) := by
  rintro t rfl
  rw [s.beaconTime_span pl off hrole]
  cases hgate : s.gated with
  | false => exact ⟨rfl, rfl, rfl, rfl, rfl, fun _ _ => rfl, fun _ => rfl⟩
  | true =>
    have hr := (s.awaitTick (beaconDue pl off)).applyDue_retimed rfl
    exact ⟨hr.lnk, hr.hd, (s.awaitTick (beaconDue pl off)).applyDue_lastDisc rfl, hr.bcnCc, hr.bcn, hr.reg,
      fun h => nomatch h⟩

/-! ### The beacon -/

/-- On a span node a beacon of a lower epoch than the highest seen only counts. -/
theorem State.takeBeacon_low (s : State) (f : Frame) (hrole : s.role = roleSpan)
    (hlow : bytesAt f.payload 20 4 < s.fld F.SLK_BCN_EPOCH) : s.takeBeacon f = s.inc F.SLK_BCN_BCNLOW := by
  have hhead : s.isHead = false := by simp [State.isHead, hrole, roleSpan, roleActive]
  simp [State.takeBeacon, hhead, hlow]

/-- On a span node another beacon names the head, gives travel unless its travel is lost, and gives time. -/
theorem State.takeBeacon_high (s : State) (f : Frame) (hrole : s.role = roleSpan) (harb : s.hd.arb = none)
    (hhigh : s.fld F.SLK_BCN_EPOCH ≤ bytesAt f.payload 20 4) : s.takeBeacon f =
      (if bitOf (bytesAt f.payload 28 1) 5 then s.hearHead (bytesAt f.payload 20 4) f.src.val
        else (s.hearHead (bytesAt f.payload 20 4) f.src.val).beaconTravel f.payload (s.beaconOffset f)).beaconTime
          f.payload (s.beaconOffset f) := by
  have hhead : s.isHead = false := by simp [State.isHead, hrole, roleSpan, roleActive]
  have hspan : (s.setFld F.SLK_BCN_EPOCH (bytesAt f.payload 20 4)).role = roleSpan :=
    (s.fld_setFld_ne F.SLK_BCN_EPOCH F.SYS_ROLE_ROLE _ (by decide)).trans hrole
  unfold State.takeBeacon
  dsimp only
  rw [hhead, Bool.false_and, if_neg Bool.false_ne_true, if_neg (Nat.not_lt.2 hhigh),
    State.beaconHeads_span _ _ _ (by exact hspan) (by exact harb)]
  rfl

/-- What a beacon of an epoch not below the highest seen leaves on a span node (R41, R44, R47): the travel stage changes travel
and the count of jumps, and the time stage leaves the place and the speed of the base. -/
theorem State.takeBeacon_facts (s : State) (f : Frame) (hrole : s.role = roleSpan) (harb : s.hd.arb = none)
    (hhigh : s.fld F.SLK_BCN_EPOCH ≤ bytesAt f.payload 20 4) :
    ∀ t, t = s.takeBeacon f → t.lnk.head = some f.src.val ∧ t.fld F.SLK_BCN_EPOCH = bytesAt f.payload 20 4 ∧
      t.hd.bcnCc = some s.clk.cc ∧ t.clk.lastDisc = some s.clk.cc ∧
      (s.gated = false → t.clk.due = some (beaconDue f.payload (s.beaconOffset f))) ∧
      (bitOf (bytesAt f.payload 28 1) 5 = true → t.trv.bcnCc = s.trv.bcnCc) ∧
      (bitOf (bytesAt f.payload 28 1) 5 = false → t.trv.bcnCc = some s.clk.cc ∧
        ∃ b, t.trv.bcn = some b ∧ b.x = bytesAt f.payload 5 5 ∧ b.v = sx 40 (bytesAt f.payload 15 5)) := by
  rintro t rfl
  rw [s.takeBeacon_high f hrole harb hhigh]
  generalize s.beaconOffset f = off
  have hepoch := s.hearHead_epoch f.src.val (bytesAt_lt f.payload 20 4)
  have hspan := (s.hearHead_role (bytesAt f.payload 20 4) f.src.val).trans hrole
  obtain ⟨g, hheard⟩ := s.hearHead_same (bytesAt f.payload 20 4) f.src.val
  generalize s.hearHead (bytesAt f.payload 20 4) f.src.val = u at *
  obtain ⟨b, g', r, p, h, htravel, hjump⟩ := u.beaconTravel_same f.payload off
  generalize u.beaconTravel f.payload off = w at *
  obtain ⟨v, hv, hvlost, hvgood⟩ : ∃ v, v = (if bitOf (bytesAt f.payload 28 1) 5 then u else w) ∧
      (bitOf (bytesAt f.payload 28 1) 5 = true → v = u) ∧ (bitOf (bytesAt f.payload 28 1) 5 = false → v = w) :=
    ⟨_, rfl, fun h => if_pos h, fun h => if_neg (by simp [h])⟩
  have hkept : v.lnk = u.lnk ∧ v.hd = u.hd ∧ v.clk = u.clk ∧ v.mode = u.mode ∧
      ∀ i, i ≠ F.TRV_CFG_JUMPS.addr → v.reg i = u.reg i := by
    cases hlost : bitOf (bytesAt f.payload 28 1) 5 with
    | true => rw [hvlost hlost]; exact ⟨rfl, rfl, rfl, rfl, fun _ _ => rfl⟩
    | false => rw [hvgood hlost]; exact ⟨by rw [htravel], by rw [htravel], by rw [htravel], by rw [htravel], hjump⟩
  obtain ⟨hlnk, hhd, hclk, hmode, hreg⟩ := hkept
  have hvspan : v.role = roleSpan := (State.fld_of_reg F.SYS_ROLE_ROLE (hreg _ (by decide))).trans hspan
  rw [← hv]
  obtain ⟨htlnk, hthd, htlast, htcc, htbcn, htreg, htdue⟩ := v.beaconTime_facts f.payload off hvspan _ rfl
  refine ⟨?head, ?epoch, ?headCc, ?last, fun hgate => htdue ?_, fun hlost => ?lost, fun hgood => ⟨?travelCc, ?base⟩⟩
  case head => rw [htlnk, hlnk, hheard]
  case epoch =>
    have hsame := (htreg F.SLK_BCN_EPOCH.addr (by decide)).trans (hreg _ (by decide))
    exact (State.fld_of_reg F.SLK_BCN_EPOCH hsame).trans hepoch
  case headCc => rw [hthd, hhd, hheard]
  case last => rw [htlast, hclk, hheard]
  case lost => rw [htcc, hvlost hlost, hheard]
  case travelCc => rw [htcc, hvgood hgood, htravel, hheard]
  case base =>
    have hb : v.trv.bcn = some (beaconBase f.payload b) := by rw [hvgood hgood, htravel]
    rw [hb] at htbcn
    obtain ⟨b', hb', hxv⟩ := Option.map_eq_some_iff.1 htbcn
    exact ⟨b', hb', congrArg Prod.fst hxv, congrArg Prod.snd hxv⟩
  · rw [State.gated, hmode, hheard]; exact hgate

end Sys2Proof.Machine
end

section
/-! PROOF. Beacons sent (R276, R278, R303): the frame that goes out, and what else changes. -/

namespace Sys2Proof.Machine

open Sys2Proof

/-- The payload of a beacon does not show the SEQ, nor how long the medium is busy. -/
theorem State.beaconBytes_setSeq (s : State) (n : Nat) (l : LnkSt) :
    (State.setFld { s with lnk := l } F.SLK_STAT_SEQ n).beaconBytes = s.beaconBytes := by
  have hfld : ∀ f : Fld, f.addr ≠ F.SLK_STAT_SEQ.addr → (State.setFld { s with lnk := l } F.SLK_STAT_SEQ n).fld f = s.fld f :=
    fun f hf => State.fld_setFld_ne { s with lnk := l } F.SLK_STAT_SEQ f n hf
  have hlost : (State.setFld { s with lnk := l } F.SLK_STAT_SEQ n).flag F.TRV_STAT_LOST = s.flag F.TRV_STAT_LOST :=
    State.flag_setFld_ne { s with lnk := l } F.SLK_STAT_SEQ F.TRV_STAT_LOST n (by decide)
  have hwrap : (State.setFld { s with lnk := l } F.SLK_STAT_SEQ n).wrapNow = s.wrapNow := by
    rw [State.wrapNow, State.wrapNow, hfld F.TBS_WRAP_WRAP (by decide)]; rfl
  unfold State.beaconBytes State.now State.travel
  rw [hwrap, hlost, hfld F.TBS_STAT_STATE (by decide), hfld F.TBS_TIME_TIME (by decide), hfld F.TRV_COUNT_COUNT (by decide),
    hfld F.TRV_SPEED_SPEED (by decide), hfld F.SYS_HEAD_EPOCH_EPOCH (by decide), hfld F.TBS_LEAP_LEAP (by decide)]
  rfl

/-- A beacon that goes out: the frame, under group key `g`, of the state at its reference instant. -/
theorem State.sendBeacon_sent (s : State) (g : GroupKey) : ∃ f : Frame, (s.sendBeacon g).lnk.sent = some f ∧ f.cls = 1 ∧
    f.bc = true ∧ f.seq = BitVec.ofNat 16 s.nextSeq ∧ f.payload = (s.advCc s.preamble).beaconBytes ∧
    f.tag = BitVec.ofNat 64 (tagOf g.key { f with tag := 0 }) := by
  obtain ⟨l, hl⟩ : ∃ l, (s.busy s.clk.cc (s.clk.cc + s.preamble)).advCc s.preamble = { s.advCc s.preamble with lnk := l } :=
    ⟨_, rfl⟩
  have hseq : ((s.busy s.clk.cc (s.clk.cc + s.preamble)).advCc s.preamble).nextSeq = s.nextSeq :=
    State.fld_of_reg F.SLK_STAT_SEQ ((State.advCc_reg _ _ (by decide)).trans rfl)
  unfold State.sendBeacon
  dsimp only
  rw [hseq, hl]
  exact ⟨_, rfl, rfl, rfl, rfl, State.beaconBytes_setSeq _ _ _, rfl⟩

theorem State.sendBeacon_same (s : State) (g : GroupKey) :
    ∃ r k l, s.sendBeacon g = { s with regs := r, clk := k, lnk := l } := ⟨_, _, _, rfl⟩

/-! ### What a takeover adds -/

/-- A frame handed to a ring changes queues and what waits for them. -/
theorem State.offerTx_same (s : State) (t : TxWait) : ∃ g q x n f w h,
    s.offerTx t = { s with regs := g, queues := q, spent := x, free := n, flt := f, lnk := { s.lnk with wait := w, host := h } } := by
  unfold State.offerTx
  split
  · unfold State.admitTx
    dsimp only
    split
    · obtain ⟨⟨g, q, x, n, f, e⟩, -⟩ := State.pushItem_reported [] (State.setFld _ _ _) _ _ _
      rw [e]; exact ⟨_, _, _, _, _, _, _, rfl⟩
    · obtain ⟨⟨g, q, x, n, f, e⟩, -⟩ := State.pushItem_reported [] (State.setFld _ _ _) _ _ _
      rw [e]; exact ⟨_, _, _, _, _, _, _, rfl⟩
  · exact ⟨_, _, _, _, _, _, _, rfl⟩

theorem State.sendGkey_parts (s : State) (g : GroupKey) (p : Nat) :
    (s.sendGkey g p).lnk.sent = s.lnk.sent ∧ (s.sendGkey g p).mem = s.mem ∧ (s.sendGkey g p).trv = s.trv := by
  unfold State.sendGkey
  split
  · exact ⟨rfl, rfl, rfl⟩
  · obtain ⟨g, q, x, n, f, w, h, e⟩ := s.offerTx_same
      { ring := 57, dst := p, cls := clsKeyx, bc := false,
        payload := toBytes 1 5 ++ toBytes 1 g.gen ++ toBytes 24 (keyWrap _ g.key) }
    rw [State.pushTx, e]; exact ⟨rfl, rfl, rfl⟩

/-- Drawing a group generation and sending it leaves the frame on the cable, memory and travel. -/
theorem State.drawGroup_parts (s : State) :
    s.drawGroup.lnk.sent = s.lnk.sent ∧ s.drawGroup.mem = s.mem ∧ s.drawGroup.trv = s.trv := by
  unfold State.drawGroup
  exact ⟨foldl_same (fun u : State => u.lnk.sent) _ (fun u p => (u.sendGkey_parts _ p).1) _ _,
    foldl_same State.mem _ (fun u p => (u.sendGkey_parts _ p).2.1) _ _,
    foldl_same State.trv _ (fun u p => (u.sendGkey_parts _ p).2.2) _ _⟩

end Sys2Proof.Machine
end

section
/-! PROOF. Beacons (O31): BEACON and BEACON_TRANSMIT by what reception, the tick and transmission leave. -/

namespace Sys2Proof.Proofs

open Sys2Proof Sys2Proof.Machine

theorem exec_beacon (s u : State) (f : Frame) (hrun : s.boot.halted = false) (hcls : f.cls.val = clsBeacon)
    (hrx : (s.arrive f).rxChecks f (formOf f) 0 = (.accepted, u)) :
    exec (.beacon f) s = .next ((u.accept f 0 0).takeBeacon f).flow := by
  show execBeacon f s = _
  rw [execBeacon, s.clocked_running _ hrun, if_neg (not_not_intro hcls), hrx]

/-- A node that is no active head, or whose link is off, or that is DORMANT, sends no beacon. -/
theorem exec_beaconTransmit_idle (s : State) (wait : Nat) (hrun : s.boot.halted = false)
    (h : s.isHead = false ∨ s.linkOn = false ∨ s.modeNow = modeDormant) : exec (.beaconTransmit wait) s = .next s := by
  show execBeaconTransmit wait s = _
  rw [execBeaconTransmit, s.clocked_running _ hrun]
  exact if_pos (by simpa [or_assoc] using h)

/-- The end of a beacon's turn: after the first beacon of a takeover a group generation is drawn. -/
def endTurn (s : State) : State := if s.hd.first then ({ s with hd := { s.hd with first := false } } : State).drawGroup else s

theorem endTurn_parts (s : State) :
    (endTurn s).lnk.sent = s.lnk.sent ∧ (endTurn s).mem = s.mem ∧ (endTurn s).trv = s.trv ∧
      (s.hd.first = false → endTurn s = s) := by
  unfold endTurn
  cases hfirst : s.hd.first with
  | true =>
    obtain ⟨hsent, hmem, htrv⟩ := State.drawGroup_parts { s with hd := { s.hd with first := false } }
    exact ⟨hsent, hmem, htrv, fun h => nomatch h⟩
  | false => exact ⟨rfl, rfl, rfl, fun _ => rfl⟩

/-- The beacon under the present group key, where one is held. -/
def beaconOut (s : State) : State :=
  match s.key.grp with
  | g :: _ => s.sendBeacon g
  | [] => s

theorem beaconOut_keyed (s : State) {g : GroupKey} {gs : List GroupKey} (h : s.key.grp = g :: gs) :
    beaconOut s = s.sendBeacon g := by rw [beaconOut, h]

/-- The active head's turn: `u` is the instant, `v` the medium as found, `w` the end of the gap after it was busy. -/
theorem exec_beaconTransmit_head (s u v w : State) (wait : Nat) (hrun : s.boot.halted = false) (hhead : s.isHead = true)
    (hlink : s.linkOn = true) (hmode : s.modeNow ≠ modeDormant) (hu : u = s.takeInstant clsBeaconTx (2 ^ 18) 0)
    (hv : v = (if wait = 0 then u else u.busy u.clk.cc (u.clk.cc + wait))) (hw : w = v.advCcTo (v.lnk.busyTo + v.gapCc)) :
    exec (.beaconTransmit wait) s = if Machine.dist w.now u.now ≥ (2 ^ 18 : Nat) then .next w
      else .next (endTurn (beaconOut w)) := by
  have hgo : ¬ (!s.isHead || !s.linkOn || decide (s.modeNow = modeDormant)) = true := by simp [hhead, hlink, hmode]
  show execBeaconTransmit wait s = _
  rw [execBeaconTransmit, s.clocked_running _ hrun, if_neg hgo, ← hu]
  dsimp only
  rw [← hv, ← hw]
  unfold endTurn beaconOut
  split
  · rfl
  · cases w.key.grp <;> dsimp only <;> split <;> rfl

/-- The turn up to the end of the gap moves the clock and the medium alone. -/
theorem beaconGap_same (s u v w : State) (wait : Nat) (hu : u = s.takeInstant clsBeaconTx (2 ^ 18) 0)
    (hv : v = (if wait = 0 then u else u.busy u.clk.cc (u.clk.cc + wait))) (hw : w = v.advCcTo (v.lnk.busyTo + v.gapCc)) :
    (∃ r k l, w = { s with regs := r, clk := k, lnk := l }) ∧ w.nextSeq = s.nextSeq := by
  obtain ⟨r, k, hinst⟩ := s.takeInstant_same clsBeaconTx (2 ^ 18) 0
  have hinstreg := s.takeInstant_reg clsBeaconTx (2 ^ 18) 0 (i := F.SLK_STAT_SEQ.addr) (by decide)
  rw [← hu] at hinst hinstreg
  have hmedium : ∃ l, v = { u with lnk := l } := by rw [hv]; split <;> exact ⟨_, rfl⟩
  obtain ⟨l, hl⟩ := hmedium
  have hgapreg := v.advCcTo_reg (v.lnk.busyTo + v.gapCc) (i := F.SLK_STAT_SEQ.addr) (by decide)
  obtain ⟨r', k', hgap⟩ := v.advCcTo_same (v.lnk.busyTo + v.gapCc)
  rw [← hw] at hgap hgapreg
  refine ⟨⟨r', k', l, by rw [hgap, hl, hinst]⟩, State.fld_of_reg F.SLK_STAT_SEQ ?_⟩
  calc w.reg F.SLK_STAT_SEQ.addr = v.reg F.SLK_STAT_SEQ.addr := hgapreg
    _ = u.reg F.SLK_STAT_SEQ.addr := by rw [hl]; rfl
    _ = s.reg F.SLK_STAT_SEQ.addr := hinstreg

/-- Settles O31: reception by `takeBeacon_low` and `takeBeacon_facts`, the tick by `applyDue_facts`, and transmission by
`sendBeacon_sent` in the state at the end of the gap. -/
theorem beaconsGiveTravelAndTime : Obligations.BeaconsGiveTravelAndTime := by
  unfold Obligations.BeaconsGiveTravelAndTime
  refine ⟨exec_beacon, ?received, fun s d hd => s.applyDue_facts hd, ?sent⟩
  case received =>
    rintro s t f pl hrole harb rfl ht
    exact ⟨fun hlow => ht.trans (s.takeBeacon_low f hrole hlow), fun hhigh => s.takeBeacon_facts f hrole harb hhigh t ht⟩
  case sent =>
    intro s u v w wait hrun
    refine ⟨fun hhead hlink hmode hu hv hw => ?_, exec_beaconTransmit_idle s wait hrun⟩
    have hexec := exec_beaconTransmit_head s u v w wait hrun hhead hlink hmode hu hv hw
    obtain ⟨⟨r, k, l, hsame⟩, hseq⟩ := beaconGap_same s u v w wait hu hv hw
    refine ⟨fun g gs hgrp hin => ?inTime, fun hlate => by rw [hexec, if_pos hlate]⟩
    case inTime =>
      have hkey : w.key.grp = g :: gs := by rw [hsame]; exact hgrp
      rw [if_neg (by omega), beaconOut_keyed w hkey] at hexec
      obtain ⟨f, hsent, hcls, hbc, hfseq, hpl, htag⟩ := w.sendBeacon_sent g
      obtain ⟨r', k', l', hbeacon⟩ := w.sendBeacon_same g
      obtain ⟨htsent, htmem, httrv, hlast⟩ := endTurn_parts (w.sendBeacon g)
      refine ⟨_, f, hexec, htsent.trans hsent, hcls, hbc, hseq ▸ hfseq, hpl, htag, ?_, ?_, fun hfirst => ?_⟩
      · rw [htmem, hbeacon, hsame]
      · rw [httrv, hbeacon, hsame]
      · rw [hlast (by rw [hbeacon, hsame]; exact hfirst), hbeacon, hsame]

end Sys2Proof.Proofs
end

section
/-! PROOF. Writes of registers with an effect of their own (R10 to R14, R411), and differences of 40-bit counts (R33). -/

namespace Sys2Proof.Machine

open Sys2Proof

/-! ### Differences of 40-bit counts -/

theorem dist_eq_zero {a b : Nat} (ha : a < 2 ^ 40) (hb : b < 2 ^ 40) (h : dist a b = 0) : a = b := by
  obtain ⟨hcases, -⟩ := dist_cases a b ha hb
  omega

/-- d may be formed from the signed readings. -/
theorem sx_wrap40_sub_sx (a b : Nat) : sx 40 (wrap40 (sx 40 a - sx 40 b)) = dist a b := by
  have hwrap : wrap40 (sx 40 a - sx 40 b) = wrap40 ((a : Int) - b) := by
    unfold wrap40 wrapW sx
    split <;> split <;> omega
  rw [hwrap, dist]

/-! ### Fields of a word that a write leaves -/

/-- Words that agree in the bits [hi:lo] agree in the field. -/
theorem bitsOf_congr {x y hi lo : Nat} (h : ∀ i, lo ≤ i → i ≤ hi → x.testBit i = y.testBit i) : bitsOf x hi lo = bitsOf y hi lo := by
  refine Nat.eq_of_testBit_eq fun i => ?_
  rw [testBit_bitsOf, testBit_bitsOf]
  by_cases hi' : i < hi + 1 - lo
  · rw [h (i + lo) (by omega) (by omega)]
  · simp [hi']

/-- Every bit of the field is in the mask `m`. -/
def Fld.within (f : Fld) (m : Nat) : Bool := (List.range 40).all fun i => !(f.lo ≤ i && i ≤ f.hi) || m.testBit i

theorem Fld.testBit_of_within {f : Fld} {m i : Nat} (hok : f.ok = true) (h : f.within m = true) (hlo : f.lo ≤ i)
    (hhi : i ≤ f.hi) : m.testBit i = true := by
  simp only [Fld.ok, Bool.and_eq_true, decide_eq_true_eq] at hok
  have hbit := List.all_eq_true.1 h i (List.mem_range.2 (by omega))
  simpa [hlo, hhi] using hbit

/-- A writable field takes its bits of the word written. -/
theorem RegRow.bitsOf_stored_rw (r : RegRow) (old v : Word) {f : Fld} (hok : f.ok = true) (h : f.within r.rw = true) :
    bitsOf (r.stored old v).toNat f.hi f.lo = bitsOf v.toNat f.hi f.lo := by
  refine bitsOf_congr fun i hlo hhi => ?_
  have hi : i < 40 := by simp [Fld.ok] at hok; omega
  rw [BitVec.testBit_toNat, BitVec.testBit_toNat, r.getLsbD_stored old v hi, if_pos (Fld.testBit_of_within hok h hlo hhi)]

/-- A field that a write neither sets nor clears keeps its bits. -/
theorem RegRow.bitsOf_stored_kept (r : RegRow) (old v : Word) {f : Fld} (hok : f.ok = true)
    (h : f.within (2 ^ 40 - 1 - (r.rw ||| r.w1c)) = true) (hmask : r.rw ||| r.w1c < 2 ^ 40) :
    bitsOf (r.stored old v).toNat f.hi f.lo = bitsOf old.toNat f.hi f.lo := by
  refine bitsOf_congr fun i hlo hhi => ?_
  have hi : i < 40 := by simp [Fld.ok] at hok; omega
  have hout : (r.rw ||| r.w1c).testBit i = false := by
    have hbit := Fld.testBit_of_within hok h hlo hhi
    rw [show 2 ^ 40 - 1 - (r.rw ||| r.w1c) = 2 ^ 40 - ((r.rw ||| r.w1c) + 1) by omega, Nat.testBit_two_pow_sub_succ hmask] at hbit
    simpa [hi] using hbit
  rw [Nat.testBit_or, Bool.or_eq_false_iff] at hout
  rw [BitVec.testBit_toNat, BitVec.testBit_toNat, r.getLsbD_stored old v hi, hout.1, hout.2]
  simp

/-- A one-bit field is a bit of its word. -/
theorem bitsOf_mod_two (x hi lo : Nat) (h : lo ≤ hi) : (bitsOf x hi lo % 2 == 1) = bitOf x lo := by
  have hdvd : 2 ∣ 2 ^ (hi + 1 - lo) := ⟨2 ^ (hi - lo), by rw [← Nat.pow_succ']; congr 1; omega⟩
  rw [bitsOf, bitOf, Nat.mod_mod_of_dvd _ hdvd]

/-! ### The rule -/

theorem State.metAt_inputs (s : State) {a : Nat} (h : inInputs a = true) :
    s.metAt a = (List.range 4).foldl (fun u n => u.settle n u.clk.cc) s := if_pos h

/-- The state that meets a write of register `a`: the inputs' filters have accepted what is due, and the flags written 1 have
cleared. -/
def State.clearedBy (s : State) (r : RegRow) (a : Nat) (v : Word) : State :=
  if r.w1c = 0 then s.metAt a else (s.metAt a).setReg a (BitVec.ofNat 40 (r.cleared ((s.metAt a).reg a) v))

theorem State.clearedBy_noFlags (s : State) {r : RegRow} {a : Nat} (v : Word) (h : r.w1c = 0) : s.clearedBy r a v = s.metAt a :=
  if_pos h

/-- A write of a register that has a writable bit, where hardware has updated none in this core clock: the effect of the
register on the word left. -/
theorem State.hostWrite_calm (s : State) {p : Writer} {a : Nat} {r : RegRow} (v : Word) (hopen : closedTo p a = false)
    (hr : regAt a = some r) (hcalm : (s.metAt a).calm = true) (hrw : r.rw ≠ 0) :
    s.hostWrite p a v =
      (((s.clearedBy r a v).writeReg p r a v (r.stored ((s.metAt a).reg a) v)).1,
        if ((s.clearedBy r a v).writeReg p r a v (r.stored ((s.metAt a).reg a) v)).1.acted
        then ((s.clearedBy r a v).writeReg p r a v (r.stored ((s.metAt a).reg a) v)).2.completed
        else ((s.clearedBy r a v).writeReg p r a v (r.stored ((s.metAt a).reg a) v)).2) := by
  have hhard := State.afterHardware_calm hcalm r a v
  unfold State.metAt at hhard
  unfold closedTo at hopen
  simp only [State.hostWrite, hopen, hr, hrw, hhard, Bool.false_eq_true, if_false, decide_false, Bool.false_and]
  rfl

end Sys2Proof.Machine
end

section
/-! PROOF. Corrections of travel (R45, R46), and the writes of the travel registers (O28). -/

namespace Sys2Proof.Machine

open Sys2Proof

/-! ### A correction -/

/-- Up to the threshold a correction is left to be spread. -/
theorem State.correct_small (s : State) {c : Int} (h : c.natAbs ≤ s.fld F.TRV_JUMPTHR_THR) :
    s.correct c = { s with trv := { s.trv with rem := c * 8192, part := c, held := s.trv.held || decide (s.trv.rem ≠ 0) } } :=
  if_pos h

/-- Above it a correction is applied at once and counted. -/
theorem State.correct_large (s : State) {c : Int} (h : s.fld F.TRV_JUMPTHR_THR < c.natAbs) :
    s.correct c = { s.inc F.TRV_CFG_JUMPS with trv := { s.trv with rem := 0, part := 0, held := true } } :=
  if_neg (by omega)

theorem State.correct_large_count (s : State) {c : Int} (h : s.fld F.TRV_JUMPTHR_THR < c.natAbs) :
    (s.correct c).fld F.TRV_CFG_JUMPS = satAdd F.TRV_CFG_JUMPS.width (s.fld F.TRV_CFG_JUMPS) 1 := by
  have hregs : (s.correct c).regs = (s.inc F.TRV_CFG_JUMPS).regs := by rw [s.correct_large h]
  rw [State.fld_of_regs hregs, s.fld_inc_same _ (by decide)]

theorem State.correct_reg (s : State) (c : Int) {i : Nat} (h : i ≠ F.TRV_CFG_JUMPS.addr) : (s.correct c).reg i = s.reg i := by
  obtain ⟨_, _, _, _, -, hreg⟩ := s.correct_same c
  exact hreg i h

/-! ### A register whose change is a correction -/

/-- Register field `f` takes `x`; the change `c` is a correction, and no change is none. -/
def State.shiftField (s : State) (f : Fld) (x : Nat) (c : Int) : State := if c = 0 then s else (s.setFld f x).correct c

theorem State.writeBias_eq (s : State) (v : Word) :
    s.writeBias v = s.shiftField F.TRV_BIAS_BIAS v.toNat (dist v.toNat (s.fld F.TRV_BIAS_BIAS)) := rfl

theorem State.newOffset_eq (s : State) (x : Nat) :
    s.newOffset x = s.shiftField F.TRV_OFFSET_OFFSET x (dist x (s.fld F.TRV_OFFSET_OFFSET)) := by
  rw [← sx_wrap40_sub_sx]; rfl

/-- The field is a whole register. -/
structure Fld.Whole (f : Fld) : Prop where
  hi : f.hi = 39
  lo : f.lo = 0

theorem Fld.Whole.ok {f : Fld} (h : f.Whole) : f.ok = true := by simp [Fld.ok, h.hi, h.lo]

theorem State.fld_setFld_whole (s : State) {f : Fld} (x : Nat) (hf : f.Whole) (hx : x < 2 ^ 40) : (s.setFld f x).fld f = x := by
  rw [State.fld_setFld_same s f x hf.ok, Fld.width, hf.hi, hf.lo]
  exact Nat.mod_eq_of_lt hx

theorem State.fld_whole_lt (s : State) {f : Fld} (hf : f.Whole) : s.fld f < 2 ^ 40 := by
  have h := s.fld_lt f
  rwa [Fld.width, hf.hi, hf.lo] at h

theorem State.shiftField_zero (s : State) (f : Fld) (x : Nat) : s.shiftField f x 0 = s := if_pos rfl

theorem State.shiftField_ne (s : State) (f : Fld) (x : Nat) {c : Int} (h : c ≠ 0) :
    s.shiftField f x c = (s.setFld f x).correct c := if_neg h

/-- The field holds the value written, whether it changes or not. -/
theorem State.shiftField_value (s : State) {f : Fld} {x : Nat} (hf : f.Whole) (hj : f.addr ≠ F.TRV_CFG_JUMPS.addr)
    (hx : x < 2 ^ 40) : (s.shiftField f x (dist x (s.fld f))).fld f = x := by
  by_cases h : dist x (s.fld f) = 0
  · rw [h, s.shiftField_zero, dist_eq_zero hx (s.fld_whole_lt hf) h]
  · rw [s.shiftField_ne f x h, State.fld_of_reg f (State.correct_reg _ _ hj), s.fld_setFld_whole x hf hx]

theorem State.shiftField_reg (s : State) (f : Fld) (x : Nat) (c : Int) {i : Nat} (hf : i ≠ f.addr)
    (hj : i ≠ F.TRV_CFG_JUMPS.addr) : (s.shiftField f x c).reg i = s.reg i := by
  unfold State.shiftField
  split
  · rfl
  · rw [State.correct_reg _ _ hj, State.reg_setFld_ne s f x hf]

theorem State.shiftField_parts (s : State) (f : Fld) (x : Nat) (c : Int) :
    (s.shiftField f x c).mem = s.mem ∧ (s.shiftField f x c).queues = s.queues := by
  unfold State.shiftField
  split
  · exact ⟨rfl, rfl⟩
  · obtain ⟨g, r, p, h, e, -⟩ := (s.setFld f x).correct_same c
    rw [e]
    exact ⟨rfl, rfl⟩

/-- A change up to the threshold is spread over 8,192 ticks, and JUMPS stays. -/
theorem State.shiftField_small (s : State) {f : Fld} (x : Nat) {c : Int} (hj : F.TRV_CFG_JUMPS.addr ≠ f.addr)
    (ht : F.TRV_JUMPTHR_THR.addr ≠ f.addr) (h0 : c ≠ 0) (h : c.natAbs ≤ s.fld F.TRV_JUMPTHR_THR) :
    (s.shiftField f x c).trv =
        { s.trv with rem := c * 8192, part := c, held := s.trv.held || decide (s.trv.rem ≠ 0) } ∧
      (s.shiftField f x c).fld F.TRV_CFG_JUMPS = s.fld F.TRV_CFG_JUMPS := by
  rw [s.shiftField_ne f x h0, State.correct_small _ (by rwa [State.fld_setFld_ne s f _ x ht])]
  exact ⟨rfl, s.fld_setFld_ne f F.TRV_CFG_JUMPS x hj⟩

/-- A change above the threshold is applied at once and counted. -/
theorem State.shiftField_large (s : State) {f : Fld} (x : Nat) {c : Int} (hj : F.TRV_CFG_JUMPS.addr ≠ f.addr)
    (ht : F.TRV_JUMPTHR_THR.addr ≠ f.addr) (h : s.fld F.TRV_JUMPTHR_THR < c.natAbs) :
    (s.shiftField f x c).trv = { s.trv with rem := 0, part := 0, held := true } ∧
      (s.shiftField f x c).fld F.TRV_CFG_JUMPS = satAdd F.TRV_CFG_JUMPS.width (s.fld F.TRV_CFG_JUMPS) 1 := by
  have h0 : c ≠ 0 := by rintro rfl; simp at h
  have hthr : (s.setFld f x).fld F.TRV_JUMPTHR_THR < c.natAbs := by rwa [State.fld_setFld_ne s f _ x ht]
  rw [s.shiftField_ne f x h0]
  refine ⟨by rw [State.correct_large _ hthr]; rfl, ?_⟩
  rw [State.correct_large_count _ hthr, s.fld_setFld_ne f _ x hj]

end Sys2Proof.Machine

namespace Sys2Proof.Proofs

open Sys2Proof Sys2Proof.Machine

/-! ### The commands -/

/-- The row of TRV_BIAS. -/
def biasRow : RegRow := ⟨.TRV_BIAS, 0x226, 1, 1, 0, 0x0, 0xffffffffff, 0x0, 0x0⟩

theorem exec_trvBiasWrite (s : State) (v : Word) (hrun : s.boot.halted = false) (hcalm : (s.metAt 0x226).calm = true) :
    exec (.trvBiasWrite v) s = .next ((s.metAt 0x226).writeBias v).completed := by
  show execTrvBiasWrite v s = _
  rw [execTrvBiasWrite, s.clocked_running _ hrun, State.write,
    s.hostWrite_calm (r := biasRow) v rfl (by decide) hcalm (by decide), s.clearedBy_noFlags v rfl]
  generalize s.metAt 0x226 = u
  rfl

/-- The row of TRV_OFFSET. -/
def offsetRow : RegRow := ⟨.TRV_OFFSET, 0x212, 1, 1, 0, 0x0, 0xffffffffff, 0x0, 0x0⟩

theorem exec_trvOffsetWrite (s : State) (v : Word) (hrun : s.boot.halted = false) (hcalm : s.calm = true) :
    exec (.trvOffsetWrite v) s = .next (s.newOffset v.toNat).completed := by
  have hmet : s.metAt 0x212 = s := s.metAt_other (by decide)
  show execTrvOffsetWrite v s = _
  rw [execTrvOffsetWrite, s.clocked_running _ hrun, State.write,
    s.hostWrite_calm (r := offsetRow) v rfl (by decide) (hmet.symm ▸ hcalm) (by decide), s.clearedBy_noFlags v rfl, hmet]
  rfl

/-- The row of TRV_SRC. -/
def srcRow : RegRow := ⟨.TRV_SRC, 0x220, 1, 1, 0, 0xef7, 0x1ff, 0x0, 0x0⟩

/-- TRV_SRC takes the word `x`, and PRI waits for the next tick. -/
def sourceWritten (u : State) (x : Word) : State := { u.setReg 0x220 x with trv := { u.trv with priPend := true } }

theorem exec_primarySourceWrite (s : State) (v : Word) (hrun : s.boot.halted = false) (hcalm : (s.metAt 0x220).calm = true) :
    exec (.primarySourceWrite v) s =
      .next (sourceWritten (s.metAt 0x220) (srcRow.stored ((s.metAt 0x220).reg 0x220) v)).completed := by
  show execPrimarySourceWrite v s = _
  rw [execPrimarySourceWrite, s.clocked_running _ hrun, State.write,
    s.hostWrite_calm (r := srcRow) v rfl (by decide) hcalm (by decide), s.clearedBy_noFlags v rfl]
  generalize s.metAt 0x220 = u
  generalize srcRow.stored (u.reg 0x220) v = x
  rfl

/-- The row of TRV_DCm. -/
def dualRow : RegRow := ⟨.TRV_DCm, 0x260, 1, 4, 0, 0x190, 0xffff, 0x0, 0x0⟩

theorem exec_dualChannelConfigWrite (s : State) (m : Fin 4) (v : Word) (hrun : s.boot.halted = false) (hcalm : s.calm = true) :
    exec (.dualChannelConfigWrite m v) s =
      .next (s.writeDual m (dualRow.stored (s.reg (F.TRV_DCm_w m).addr) v)).completed := by
  have hrow : regAt (0x260 + m) = some dualRow := by revert m; decide
  have hmet : s.metAt (0x260 + m) = s := s.metAt_other (by simp [inInputs]; omega)
  have hidx : dualRow.idx (0x260 + m) = m := by simp [RegRow.idx, dualRow]
  show execDualChannelConfigWrite m v s = _
  rw [execDualChannelConfigWrite, s.clocked_running _ hrun, State.write, s.hostWrite_calm v rfl hrow (hmet.symm ▸ hcalm) (by decide),
    s.clearedBy_noFlags v rfl, hmet]
  show Host.Outcome.next (State.writeDual s (dualRow.idx (0x260 + m)) _).completed = _
  rw [hidx]
  rfl

end Sys2Proof.Proofs
end

section
/-! PROOF. The travel writes as corrections (O28). -/

namespace Sys2Proof.Proofs

open Sys2Proof Sys2Proof.Machine

/-! ### What they leave -/

/-- A write of a bias or an offset, where `f` is the whole register written (R45, R46, R68). -/
theorem shiftField_facts (u : State) {f : Fld} {x : Nat} (hf : f.Whole) (hj : f.addr ≠ F.TRV_CFG_JUMPS.addr)
    (ht : f.addr ≠ F.TRV_JUMPTHR_THR.addr) (hx : x < 2 ^ 40) :
    ∀ t, t = (u.shiftField f x (Machine.dist x (u.fld f))).completed → t.fld f = x ∧
      (∀ c, c = Machine.dist x (u.fld f) →
        (c = 0 → t.regs = u.regs ∧ t.trv = u.trv) ∧
        (c ≠ 0 → c.natAbs ≤ u.fld F.TRV_JUMPTHR_THR →
          t.trv = { u.trv with rem := c * 8192, part := c, held := u.trv.held || decide (u.trv.rem ≠ 0) } ∧
          t.fld F.TRV_CFG_JUMPS = u.fld F.TRV_CFG_JUMPS) ∧
        (u.fld F.TRV_JUMPTHR_THR < c.natAbs → t.trv = { u.trv with rem := 0, part := 0, held := true } ∧
          t.fld F.TRV_CFG_JUMPS = satAdd F.TRV_CFG_JUMPS.width (u.fld F.TRV_CFG_JUMPS) 1)) ∧
      (∀ i, i ≠ f.addr → i ≠ F.TRV_CFG_JUMPS.addr → t.reg i = u.reg i) ∧ t.mem = u.mem ∧ t.queues = u.queues := by
  rintro t rfl
  refine ⟨u.shiftField_value hf hj hx, ?_, fun i hi hij => u.shiftField_reg f x _ hi hij, u.shiftField_parts f x _⟩
  rintro c rfl
  refine ⟨fun h0 => ?_, fun h0 h => u.shiftField_small x hj.symm ht.symm h0 h, fun h => u.shiftField_large x hj.symm ht.symm h⟩
  rw [h0, u.shiftField_zero]
  exact ⟨rfl, rfl⟩

/-- PRI, ALT and BLEND are taken, and USING stays (R67). -/
theorem sourceWritten_facts (u : State) (v : Word) :
    ∀ t, t = (sourceWritten u (srcRow.stored (u.reg 0x220) v)).completed → t.trv = { u.trv with priPend := true } ∧
      t.fld F.TRV_SRC_PRI = bitsOf v.toNat 3 0 ∧ t.fld F.TRV_SRC_ALT = bitsOf v.toNat 7 4 ∧
      t.flag F.TRV_SRC_BLEND = bitOf v.toNat 8 ∧ t.fld F.TRV_SRC_USING = u.fld F.TRV_SRC_USING ∧
      ∀ i, i ≠ F.TRV_SRC_PRI.addr → t.reg i = u.reg i := by
  rintro t rfl
  have hreg : ∀ i, (sourceWritten u (srcRow.stored (u.reg 0x220) v)).completed.reg i =
      if i = 0x220 then srcRow.stored (u.reg 0x220) v else u.reg i := fun i => u.reg_setReg 0x220 i _
  have hfld : ∀ f : Fld, f.addr = 0x220 → (sourceWritten u (srcRow.stored (u.reg 0x220) v)).completed.fld f =
      bitsOf (srcRow.stored (u.reg 0x220) v).toNat f.hi f.lo := fun f hf => by rw [State.fld, hreg, if_pos hf]
  refine ⟨rfl, ?pri, ?alt, ?blend, ?inUse, fun i hi => (hreg i).trans (if_neg hi)⟩
  case pri => exact (hfld F.TRV_SRC_PRI rfl).trans (srcRow.bitsOf_stored_rw (f := F.TRV_SRC_PRI) _ v (by decide) (by decide))
  case alt => exact (hfld F.TRV_SRC_ALT rfl).trans (srcRow.bitsOf_stored_rw (f := F.TRV_SRC_ALT) _ v (by decide) (by decide))
  case blend =>
    rw [State.flag, hfld F.TRV_SRC_BLEND rfl, srcRow.bitsOf_stored_rw (f := F.TRV_SRC_BLEND) _ v (by decide) (by decide)]
    exact bitsOf_mod_two _ _ _ (by decide)
  case inUse =>
    exact (hfld F.TRV_SRC_USING rfl).trans
      (srcRow.bitsOf_stored_kept (f := F.TRV_SRC_USING) _ v (by decide) (by decide) (by decide))

theorem writeDual_reg (s : State) (m i : Nat) (x : Word) :
    (s.writeDual m x).reg i = if i = (F.TRV_DCm_w m).addr then x else s.reg i := by
  rw [← s.reg_setReg (F.TRV_DCm_w m).addr i x]
  unfold State.writeDual
  dsimp only
  split <;> rfl

/-- A changed EN or ANTI starts the comparison afresh (R453). -/
theorem writeDual_restart (s : State) (m : Nat) (x : Word)
    (h : (s.writeDual m x).flag (F.TRV_DCm_EN m) ≠ s.flag (F.TRV_DCm_EN m) ∨
      (s.writeDual m x).flag (F.TRV_DCm_ANTI m) ≠ s.flag (F.TRV_DCm_ANTI m)) :
    spGet (fun _ => false) (s.writeDual m x).ms.restart m = true := by
  unfold State.writeDual at h ⊢
  dsimp only at h ⊢
  split at h
  · next hsame => simp only [Prod.mk.injEq] at hsame; exact absurd h (by simp [hsame])
  · next hdiff => rw [if_neg hdiff]; exact (spGet_spSet _ _ _ _ _).trans (if_pos rfl)

/-- EN, ANTI and T of TRV_DCm are taken. -/
theorem writeDual_facts (s : State) (m : Fin 4) (v : Word) :
    ∀ t, t = (s.writeDual m (dualRow.stored (s.reg (F.TRV_DCm_w m).addr) v)).completed →
      (t.flag (F.TRV_DCm_EN m) ≠ s.flag (F.TRV_DCm_EN m) ∨ t.flag (F.TRV_DCm_ANTI m) ≠ s.flag (F.TRV_DCm_ANTI m) →
        spGet (fun _ => false) t.ms.restart m = true) ∧
      t.flag (F.TRV_DCm_EN m) = bitOf v.toNat (F.TRV_DCm_EN m).lo ∧ t.flag (F.TRV_DCm_ANTI m) = bitOf v.toNat (F.TRV_DCm_ANTI m).lo ∧
      t.fld (F.TRV_DCm_T m) = bitsOf v.toNat (F.TRV_DCm_T m).hi (F.TRV_DCm_T m).lo ∧
      ∀ i, i ≠ (F.TRV_DCm_T m).addr → t.reg i = s.reg i := by
  rintro t rfl
  have hfld : ∀ f : Fld, f.addr = (F.TRV_DCm_w m).addr → f.ok = true → f.within dualRow.rw = true →
      (s.writeDual m (dualRow.stored (s.reg (F.TRV_DCm_w m).addr) v)).completed.fld f = bitsOf v.toNat f.hi f.lo := by
    intro f hf hok hrw
    rw [State.completed_fld, State.fld, writeDual_reg, if_pos hf, dualRow.bitsOf_stored_rw _ v hok hrw]
  refine ⟨writeDual_restart s m _, ?en, ?anti, ?time, fun i hi => (writeDual_reg s m i _).trans (if_neg hi)⟩
  case en => rw [State.flag, hfld (F.TRV_DCm_EN m) rfl rfl (by rfl)]; exact bitsOf_mod_two _ _ _ (Nat.le_refl _)
  case anti => rw [State.flag, hfld (F.TRV_DCm_ANTI m) rfl rfl (by rfl)]; exact bitsOf_mod_two _ _ _ (Nat.le_refl _)
  case time => exact hfld (F.TRV_DCm_T m) rfl rfl (by rfl)

/-- Settles O28: the bias and the offset are registers whose change is a correction (`shiftField_facts`), and the other two
writes keep the fields of their rows. -/
theorem biasWriteIsACorrection : Obligations.BiasWriteIsACorrection := by
  unfold Obligations.BiasWriteIsACorrection
  intro s v hrun hcalm
  refine ⟨fun u hu hucalm => ⟨?bias, ?source⟩, ?offset, fun m => ?dual⟩
  case bias =>
    have hmet : s.metAt 0x226 = u := by rw [hu, s.metAt_inputs (by decide)]
    have hexec := exec_trvBiasWrite s v hrun (hmet.symm ▸ hucalm)
    rw [hmet, State.writeBias_eq] at hexec
    exact ⟨_, hexec, shiftField_facts u ⟨rfl, rfl⟩ (by decide) (by decide) v.isLt _ rfl⟩
  case source =>
    have hmet : s.metAt 0x220 = u := by rw [hu, s.metAt_inputs (by decide)]
    have hexec := exec_primarySourceWrite s v hrun (hmet.symm ▸ hucalm)
    rw [hmet] at hexec
    exact ⟨_, hexec, sourceWritten_facts u v _ rfl⟩
  case offset =>
    have hexec := exec_trvOffsetWrite s v hrun hcalm
    rw [State.newOffset_eq] at hexec
    obtain ⟨hvalue, hc, -, hmem, hqueues⟩ :=
      shiftField_facts s (f := F.TRV_OFFSET_OFFSET) ⟨rfl, rfl⟩ (by decide) (by decide) v.isLt _ rfl
    refine ⟨_, hexec, hvalue, fun c e => ?_, hmem, hqueues⟩
    obtain ⟨hzero, hsmall, hlarge⟩ := hc c e
    exact ⟨hzero, fun h0 h => (hsmall h0 h).1, hlarge⟩
  case dual => exact ⟨_, exec_dualChannelConfigWrite s m v hrun hcalm, writeDual_facts s m v _ rfl⟩

end Sys2Proof.Proofs
end

section
/-! PROOF. Encoder inputs (R50 to R58): what the operations of one input leave of the others, of memory and of the flash, and what
the filter accepts. -/

namespace Sys2Proof.Machine

open Sys2Proof

/-! ### The other inputs -/

/-- From `s` to `t` nothing changes of memory, of the flash, and of the encoder inputs other than `n`. -/
structure OnlyInput (n : Nat) (s t : State) : Prop where
  mem : t.mem = s.mem
  flash : t.flash = s.flash
  enc : ∀ m, m ≠ n → t.encOf m = s.encOf m

theorem OnlyInput.refl (n : Nat) (s : State) : OnlyInput n s s := ⟨rfl, rfl, fun _ _ => rfl⟩

theorem OnlyInput.trans {n : Nat} {s t u : State} (h : OnlyInput n s t) (g : OnlyInput n t u) : OnlyInput n s u :=
  ⟨g.mem.trans h.mem, g.flash.trans h.flash, fun m hm => (g.enc m hm).trans (h.enc m hm)⟩

/-- What leaves memory, the flash and the inputs changes no other input. -/
theorem OnlyInput.of_same {n : Nat} {s t : State} (hm : t.mem = s.mem := by rfl) (hf : t.flash = s.flash := by rfl)
    (he : t.trv.enc = s.trv.enc := by rfl) : OnlyInput n s t :=
  ⟨hm, hf, fun m _ => by rw [State.encOf, he, ← State.encOf]⟩

theorem State.setEnc_onlyInput (s : State) (n : Nat) (e : EncSt) : OnlyInput n s (s.setEnc n e) :=
  ⟨rfl, rfl, fun m hm => (s.encOf_setEnc n m e).trans (if_neg hm)⟩

theorem Reported.onlyInput {A : List Nat} {s t : State} (h : Reported A s t) (n : Nat) : OnlyInput n s t := by
  obtain ⟨⟨g, x, y, k, f, rfl⟩, -⟩ := h
  exact .of_same

theorem State.correct_onlyInput (s : State) (c : Int) (n : Nat) : OnlyInput n s (s.correct c) := by
  obtain ⟨g, r, p, h, e, -⟩ := s.correct_same c
  rw [e]
  exact .of_same

/-- A release of standstill clears STILL and notes it. -/
theorem State.releaseStill_same (s : State) : ∃ g f r, s.releaseStill = { s with regs := g, trv := { s.trv with stillFrom := f, released := r } } ∧
    ∀ i, i ≠ F.TRV_STAT_STILL.addr → s.releaseStill.reg i = s.reg i := by
  unfold State.releaseStill
  split
  · exact ⟨_, _, _, rfl, fun i hi => s.reg_setFld_ne F.TRV_STAT_STILL _ hi⟩
  · exact ⟨_, _, _, rfl, fun _ _ => rfl⟩

theorem State.advCcTo_onlyInput (s : State) (c n : Nat) : OnlyInput n s (s.advCcTo c) := by
  obtain ⟨r, k, e⟩ := s.advCcTo_same c
  rw [e]
  exact .of_same

/-! ### One counted edge (R53, R73, R75) -/

/-- The count and the stamps of one edge of encoder `n` in direction `d` at core clock `c`, with the stamps kept `es`. -/
def State.stampEdge (s : State) (c n : Nat) (d : Int) (es : List (Nat × Int)) : State :=
  (s.setFldI (F.TRV_ENn_CNT_CNT n) (s.fldI (F.TRV_ENn_CNT_CNT n) + d)).setEnc n
    { s.encOf n with tally := (s.encOf n).tally + d, edges := es, dirn := d, lastEdge := some c }

/-- The release of standstill by an edge at core clock `c`, with the speed of its period (R75). -/
def State.releaseAt (s : State) (c n : Nat) : State :=
  let u := s.releaseStill.setFldI F.TRV_SPEED_SPEED (satS 40 (s.releaseStill.sourceSpeed c n))
  if satS 40 (s.releaseStill.sourceSpeed c n) = 0 then u
  else u.setFlag F.TRV_STAT_DIR (satS 40 (s.releaseStill.sourceSpeed c n) < 0)

/-- An edge counts, and may release standstill. -/
theorem State.countOne_eq (s : State) (c n : Nat) (d : Int) : ∃ (es : List (Nat × Int)) (release : Bool),
    s.countOne c n d = if release then (s.stampEdge c n d es).releaseAt c n else s.stampEdge c n d es := ⟨_, _, rfl⟩

/-- A release leaves all but standstill, its note and the registers of the travel status and speed. -/
theorem State.releaseAt_same (s : State) (c n : Nat) : ∃ g f r,
    s.releaseAt c n = { s with regs := g, trv := { s.trv with stillFrom := f, released := r } } ∧
    ∀ i, i ≠ F.TRV_STAT_STILL.addr → i ≠ F.TRV_SPEED_SPEED.addr → (s.releaseAt c n).reg i = s.reg i := by
  obtain ⟨g, f, r, e, hreg⟩ := s.releaseStill_same
  unfold State.releaseAt
  dsimp only
  generalize satS 40 (s.releaseStill.sourceSpeed c n) = v
  generalize s.releaseStill = u at *
  subst e
  split
  · exact ⟨_, _, _, rfl, fun i hi hs => (State.reg_setFld_ne _ F.TRV_SPEED_SPEED _ hs).trans (hreg i hi)⟩
  · exact ⟨_, _, _, rfl, fun i hi hs => (State.reg_setFld_ne _ F.TRV_STAT_DIR _ hi).trans
      ((State.reg_setFld_ne _ F.TRV_SPEED_SPEED _ hs).trans (hreg i hi))⟩

/-- What one counted edge leaves: the inputs as `stampEdge` has them, and its registers but for status and speed. -/
theorem State.countOne_same (s : State) (c n : Nat) (d : Int) : ∃ es, (s.countOne c n d).trv.enc = (s.stampEdge c n d es).trv.enc ∧
    (s.countOne c n d).mem = s.mem ∧ (s.countOne c n d).flash = s.flash ∧
    ∀ i, i ≠ F.TRV_STAT_STILL.addr → i ≠ F.TRV_SPEED_SPEED.addr →
      (s.countOne c n d).reg i = (s.stampEdge c n d es).reg i := by
  obtain ⟨es, release, e⟩ := s.countOne_eq c n d
  cases release with
  | false =>
    rw [if_neg Bool.false_ne_true] at e
    exact ⟨es, by rw [e], by rw [e]; rfl, by rw [e]; rfl, fun _ _ _ => by rw [e]⟩
  | true =>
    rw [if_pos rfl] at e
    obtain ⟨g, f, r, e', hreg⟩ := (s.stampEdge c n d es).releaseAt_same c n
    rw [← e] at e' hreg
    exact ⟨es, by rw [e'], by rw [e']; rfl, by rw [e']; rfl, hreg⟩

theorem State.countOne_onlyInput (s : State) (c n : Nat) (d : Int) : OnlyInput n s (s.countOne c n d) := by
  obtain ⟨es, henc, hmem, hflash, -⟩ := s.countOne_same c n d
  have hstamp : OnlyInput n s (s.stampEdge c n d es) :=
    OnlyInput.trans (t := s.setFldI (F.TRV_ENn_CNT_CNT n) _) .of_same (State.setEnc_onlyInput _ n _)
  exact ⟨hmem, hflash, fun m hm => by rw [State.encOf, henc, ← State.encOf]; exact hstamp.enc m hm⟩

/-- Everything of the input but the tally and the stamps stays. -/
theorem State.countOne_enc (s : State) (c n : Nat) (d : Int) : ∃ es, (s.countOne c n d).encOf n =
    { s.encOf n with tally := (s.encOf n).tally + d, edges := es, dirn := d, lastEdge := some c } := by
  obtain ⟨es, henc, -⟩ := s.countOne_same c n d
  refine ⟨es, ?_⟩
  rw [State.encOf, henc, ← State.encOf]
  exact (State.encOf_setEnc _ n n _).trans (if_pos rfl)

/-- The count is 40 bits: counting adds modulo 2^40. -/
theorem wrapW_sx_add (x : Nat) (d : Int) : wrapW 40 (sx 40 x + d) = add40 x d := by
  unfold add40 wrap40 wrapW sx
  split <;> omega

theorem Fld.whole_count (n : Nat) : (F.TRV_ENn_CNT_CNT n).Whole := ⟨rfl, rfl⟩

theorem State.stampEdge_count (s : State) (c n : Nat) (d : Int) (es : List (Nat × Int)) :
    (s.stampEdge c n d es).fld (F.TRV_ENn_CNT_CNT n) = add40 (s.fld (F.TRV_ENn_CNT_CNT n)) d := by
  rw [← wrapW_sx_add]
  exact s.fld_setFld_whole _ (Fld.whole_count n) (wrapW_lt 40 _)

theorem State.countOne_count (s : State) (c n : Nat) (d : Int) :
    (s.countOne c n d).fld (F.TRV_ENn_CNT_CNT n) = add40 (s.fld (F.TRV_ENn_CNT_CNT n)) d := by
  obtain ⟨es, -, -, -, hreg⟩ := s.countOne_same c n d
  have h1 : 0x231 + 8 * n ≠ 0x224 := by omega
  have h2 : 0x231 + 8 * n ≠ 0x221 := by omega
  rw [State.fld_of_reg _ (hreg _ h1 h2), s.stampEdge_count]

theorem State.countOne_reg (s : State) (c n : Nat) (d : Int) {i : Nat} (hc : i ≠ (F.TRV_ENn_CNT_CNT n).addr)
    (ht : i ≠ F.TRV_STAT_STILL.addr) (hs : i ≠ F.TRV_SPEED_SPEED.addr) : (s.countOne c n d).reg i = s.reg i := by
  obtain ⟨es, -, -, -, hreg⟩ := s.countOne_same c n d
  exact (hreg i ht hs).trans (s.reg_setFld_ne (F.TRV_ENn_CNT_CNT n) _ hc)

end Sys2Proof.Machine
end

section
/-! PROOF. New levels and index edges of an encoder input (R52 to R58). -/

namespace Sys2Proof.Machine

open Sys2Proof

/-! ### New levels -/

/-- The levels behind the filter of encoder `n`. -/
def State.setLevels (s : State) (n : Nat) (a b : Bool) : State := s.setEnc n { s.encOf n with a := a, b := b }

theorem State.setLevels_enc (s : State) (n : Nat) (a b : Bool) :
    (s.setLevels n a b).encOf n = { s.encOf n with a := a, b := b } := (s.encOf_setEnc n n _).trans (if_pos rfl)

/-- The change of count that Table 3-2 gives for new levels of encoder `n`; none for a phase error. -/
def State.edgeOf (s : State) (n : Nat) (a b : Bool) : Option Int :=
  countEdge (s.fld (F.TRV_ENn_CFG_MODE n)) (s.flag (F.TRV_ENn_CFG_INV n)) (s.encOf n).a (s.encOf n).b a b

/-- Two changes of level at once are a phase error: counted and reported. -/
theorem State.encLevels_phaseError (s : State) (c n : Nat) (a b : Bool) (h : s.edgeOf n a b = none) :
    Reported (reportRegs srcPhase) ((s.setLevels n a b).inc (F.TRV_ENn_CFG_PHERR n)) (s.encLevels c n a b) := by
  have heq : s.encLevels c n a b = ((s.setLevels n a b).inc (F.TRV_ENn_CFG_PHERR n)).report srcPhase n := by
    unfold State.edgeOf at h
    simp only [State.encLevels, h]
    rfl
  exact heq ▸ State.reportAt_reported _ srcPhase n _

/-- Other new levels count what Table 3-2 gives for them. -/
theorem State.encLevels_counted (s : State) (c n : Nat) (a b : Bool) {d : Int} (h : s.edgeOf n a b = some d) :
    s.encLevels c n a b = if d = 0 then s.setLevels n a b else (s.setLevels n a b).countOne c n d := by
  unfold State.edgeOf at h
  simp only [State.encLevels, h]
  rfl

/-- The registers of an encoder input are none that a report of a phase error changes. -/
theorem not_mem_reportRegs_srcPhase {i : Nat} (hlo : 0x1C1 < i) (hhi : i < 0x72F) : i ∉ reportRegs srcPhase := by
  simp [reportRegs, srcPhase, F.FSV_SRCs_STAT_w, F.EVS_Qn_ERR_w]
  omega

theorem Reported.encOf {A : List Nat} {s t : State} (h : Reported A s t) (m : Nat) : t.encOf m = s.encOf m := by
  obtain ⟨⟨g, x, y, k, f, rfl⟩, -⟩ := h
  rfl

theorem State.encLevels_onlyInput (s : State) (c n : Nat) (a b : Bool) : OnlyInput n s (s.encLevels c n a b) := by
  have hlevels : OnlyInput n s (s.setLevels n a b) := s.setEnc_onlyInput n _
  cases h : s.edgeOf n a b with
  | none =>
    have hcounted : OnlyInput n (s.setLevels n a b) ((s.setLevels n a b).inc (F.TRV_ENn_CFG_PHERR n)) := .of_same
    exact hlevels.trans (hcounted.trans ((s.encLevels_phaseError c n a b h).onlyInput n))
  | some d =>
    rw [s.encLevels_counted c n a b h]
    split
    · exact hlevels
    · exact hlevels.trans (State.countOne_onlyInput _ c n d)

/-- The new levels are behind the filter, and the lines and Z are as before. -/
theorem State.encLevels_enc (s : State) (c n : Nat) (a b : Bool) :
    ((s.encLevels c n a b).encOf n).a = a ∧ ((s.encLevels c n a b).encOf n).b = b ∧
      ((s.encLevels c n a b).encOf n).ra = (s.encOf n).ra ∧ ((s.encLevels c n a b).encOf n).rb = (s.encOf n).rb ∧
      ((s.encLevels c n a b).encOf n).zAt = (s.encOf n).zAt := by
  have hlevels := s.setLevels_enc n a b
  cases h : s.edgeOf n a b with
  | none =>
    have henc : (s.encLevels c n a b).encOf n = (s.setLevels n a b).encOf n := (s.encLevels_phaseError c n a b h).encOf n
    rw [henc, hlevels]
    exact ⟨rfl, rfl, rfl, rfl, rfl⟩
  | some d =>
    rw [s.encLevels_counted c n a b h]
    split
    · rw [hlevels]; exact ⟨rfl, rfl, rfl, rfl, rfl⟩
    · obtain ⟨es, e⟩ := (s.setLevels n a b).countOne_enc c n d
      rw [e, hlevels]
      exact ⟨rfl, rfl, rfl, rfl, rfl⟩

/-- New levels leave the registers but TRV_ENn_CFG and TRV_ENn_CNT of their encoder, among those of the inputs that follow
TRV_BLSTAT. -/
theorem State.encLevels_reg (s : State) (c n : Nat) (a b : Bool) {i : Nat} (hlo : 0x227 < i) (hhi : i < 0x72F)
    (hcfg : i ≠ 0x230 + 8 * n) (hcnt : i ≠ 0x231 + 8 * n) : (s.encLevels c n a b).reg i = s.reg i := by
  cases h : s.edgeOf n a b with
  | none =>
    rw [(s.encLevels_phaseError c n a b h).reg (not_mem_reportRegs_srcPhase (by omega) hhi)]
    exact State.inc_reg _ (F.TRV_ENn_CFG_PHERR n) hcfg
  | some d =>
    rw [s.encLevels_counted c n a b h]
    split
    · rfl
    · exact State.countOne_reg _ c n d hcnt (by show i ≠ 0x224; omega) (by show i ≠ 0x221; omega)

/-- In TRV_ENn_CFG only the count of phase errors changes. -/
theorem State.encLevels_cfg (s : State) (c : Nat) {n : Nat} (hn : n < 4) (a b : Bool) {f : Fld} (hf : f.addr = 0x230 + 8 * n)
    (hhi : f.hi < 14) : (s.encLevels c n a b).fld f = s.fld f := by
  cases h : s.edgeOf n a b with
  | none =>
    have hreport := (s.encLevels_phaseError c n a b h).reg (i := f.addr) (not_mem_reportRegs_srcPhase (by omega) (by omega))
    exact (State.fld_of_reg f hreport).trans (State.fld_setFld_disj _ (F.TRV_ENn_CFG_PHERR n) f _ rfl (.inl hhi))
  | some d =>
    rw [s.encLevels_counted c n a b h]
    split
    · rfl
    · exact State.fld_of_reg f (State.countOne_reg (s.setLevels n a b) c n d (by show f.addr ≠ 0x231 + 8 * n; omega)
        (by show f.addr ≠ 0x224; omega) (by show f.addr ≠ 0x221; omega))

theorem add40_zero {x : Nat} (h : x < 2 ^ 40) : add40 x 0 = x := by
  unfold add40 wrap40 wrapW
  omega

/-- The count after new levels: a phase error leaves it. -/
theorem State.encLevels_count (s : State) (c : Nat) {n : Nat} (hn : n < 4) (a b : Bool) :
    (s.encLevels c n a b).fld (F.TRV_ENn_CNT_CNT n) = add40 (s.fld (F.TRV_ENn_CNT_CNT n)) ((s.edgeOf n a b).getD 0) := by
  have hzero := add40_zero (s.fld_whole_lt (Fld.whole_count n))
  cases h : s.edgeOf n a b with
  | none =>
    have hreport := (s.encLevels_phaseError c n a b h).reg (i := 0x231 + 8 * n)
      (not_mem_reportRegs_srcPhase (by omega) (by omega))
    have hne : 0x231 + 8 * n ≠ 0x230 + 8 * n := by omega
    calc (s.encLevels c n a b).fld (F.TRV_ENn_CNT_CNT n)
        = ((s.setLevels n a b).inc (F.TRV_ENn_CFG_PHERR n)).fld (F.TRV_ENn_CNT_CNT n) := State.fld_of_reg _ hreport
      _ = s.fld (F.TRV_ENn_CNT_CNT n) := State.fld_of_reg _ (State.inc_reg (s.setLevels n a b) (F.TRV_ENn_CFG_PHERR n) hne)
      _ = _ := hzero.symm
  | some d =>
    rw [s.encLevels_counted c n a b h]
    split
    · next hd => subst hd; exact hzero.symm
    · exact State.countOne_count _ c n d

theorem State.encLevels_tally (s : State) (c n : Nat) (a b : Bool) {d : Int} (h : s.edgeOf n a b = some d) :
    ((s.encLevels c n a b).encOf n).tally = (s.encOf n).tally + d := by
  have hlevels := s.setLevels_enc n a b
  rw [s.encLevels_counted c n a b h]
  split
  · next hd => rw [hlevels, hd]; exact (Int.add_zero _).symm
  · obtain ⟨es, e⟩ := (s.setLevels n a b).countOne_enc c n d
    rw [e, hlevels]

theorem State.encLevels_phaseErrors (s : State) (c : Nat) {n : Nat} (hn : n < 4) (a b : Bool) (h : s.edgeOf n a b = none) :
    (s.encLevels c n a b).fld (F.TRV_ENn_CFG_PHERR n) = satAdd 16 (s.fld (F.TRV_ENn_CFG_PHERR n)) 1 := by
  have hreport := (s.encLevels_phaseError c n a b h).reg (i := 0x230 + 8 * n)
    (not_mem_reportRegs_srcPhase (by omega) (by omega))
  exact (State.fld_of_reg (F.TRV_ENn_CFG_PHERR n) hreport).trans
    ((s.setLevels n a b).fld_inc_same (F.TRV_ENn_CFG_PHERR n) rfl)

/-- Levels that stay count nothing. -/
theorem countEdge_same (mode : Nat) (inv a b : Bool) : countEdge mode inv a b a b = some 0 := by
  unfold countEdge
  cases a <;> simp

/-! ### Index edges (R55 to R58) -/

/-- ZQUAL lets an index edge through at the present levels. -/
def State.qualified (s : State) (n : Nat) : Bool :=
  let z := s.fld (F.TRV_ENn_CFG_ZQUAL n)
  z = 0 || z = 3 || ((s.encOf n).a && (z = 1 || (s.encOf n).b))

/-- The count is latched in IDX. -/
def State.latchIndex (s : State) (n : Nat) : State := s.setFld (F.TRV_ENn_IDX_IDX n) (s.fld (F.TRV_ENn_CNT_CNT n))

/-- The armed input takes PRESET, ARM clears and IDXTAKEN sets. -/
def State.takePreset (s : State) (n : Nat) : State :=
  ((s.setFld (F.TRV_ENn_CNT_CNT n) (s.fld (F.TRV_ENn_PRESET_PRESET n))).update (F.TRV_ENn_CFG_ARM n) 0).raise
    (F.TRV_ENn_CFG_IDXTAKEN n)

/-- A qualified index edge latches the count; the armed input takes PRESET, whose change of travel is a correction for the source
in use. -/
theorem State.indexTaken_eq (s : State) (n : Nat) : ∃ (used : Bool) (c : Int), s.indexTaken n =
    if s.qualified n then
      if (s.latchIndex n).flag (F.TRV_ENn_CFG_ARM n) then
        if used then ((s.latchIndex n).takePreset n).correct c else (s.latchIndex n).takePreset n
      else s.latchIndex n
    else s := ⟨_, _, rfl⟩

theorem State.latchIndex_arm (s : State) (n : Nat) : (s.latchIndex n).flag (F.TRV_ENn_CFG_ARM n) = s.flag (F.TRV_ENn_CFG_ARM n) :=
  s.flag_setFld_ne (F.TRV_ENn_IDX_IDX n) (F.TRV_ENn_CFG_ARM n) _ (by show 0x230 + 8 * n ≠ 0x234 + 8 * n; omega)

/-- An index edge leaves the levels, memory and the flash. -/
theorem State.indexTaken_same (s : State) (n : Nat) :
    (s.indexTaken n).trv.enc = s.trv.enc ∧ (s.indexTaken n).mem = s.mem ∧ (s.indexTaken n).flash = s.flash := by
  obtain ⟨used, c, e⟩ := s.indexTaken_eq n
  rw [e]
  split
  · split
    · split
      · obtain ⟨g, r, p, h, hcorrect, -⟩ := ((s.latchIndex n).takePreset n).correct_same c
        rw [hcorrect]
        exact ⟨rfl, rfl, rfl⟩
      · exact ⟨rfl, rfl, rfl⟩
    · exact ⟨rfl, rfl, rfl⟩
  · exact ⟨rfl, rfl, rfl⟩

theorem State.indexTaken_encOf (s : State) (n m : Nat) : (s.indexTaken n).encOf m = s.encOf m := by
  obtain ⟨henc, -⟩ := s.indexTaken_same n
  rw [State.encOf, henc, ← State.encOf]

/-- The registers after a qualified index edge on an input that is not armed. -/
theorem State.indexTaken_unarmed (s : State) (n : Nat) (hq : s.qualified n = true) (ha : s.flag (F.TRV_ENn_CFG_ARM n) = false) :
    s.indexTaken n = s.latchIndex n := by
  obtain ⟨used, c, e⟩ := s.indexTaken_eq n
  rw [e, if_pos hq, s.latchIndex_arm, ha, if_neg Bool.false_ne_true]

/-- The registers after a qualified index edge on an armed input, but for the count of jumps. -/
theorem State.indexTaken_armed (s : State) (n : Nat) (hq : s.qualified n = true) (ha : s.flag (F.TRV_ENn_CFG_ARM n) = true) {i : Nat}
    (hi : i ≠ F.TRV_CFG_JUMPS.addr) : (s.indexTaken n).reg i = ((s.latchIndex n).takePreset n).reg i := by
  obtain ⟨used, c, e⟩ := s.indexTaken_eq n
  rw [e, if_pos hq, s.latchIndex_arm, ha, if_pos rfl]
  split
  · exact State.correct_reg _ c hi
  · rfl

end Sys2Proof.Machine
end

section
/-! PROOF. What a qualified index edge shows and leaves (R55 to R58). -/

namespace Sys2Proof.Machine

open Sys2Proof

theorem Fld.whole_index (n : Nat) : (F.TRV_ENn_IDX_IDX n).Whole := ⟨rfl, rfl⟩
theorem Fld.whole_preset (n : Nat) : (F.TRV_ENn_PRESET_PRESET n).Whole := ⟨rfl, rfl⟩

theorem State.latchIndex_index (s : State) (n : Nat) :
    (s.latchIndex n).fld (F.TRV_ENn_IDX_IDX n) = s.fld (F.TRV_ENn_CNT_CNT n) :=
  s.fld_setFld_whole _ (Fld.whole_index n) (s.fld_whole_lt (Fld.whole_count n))

theorem State.latchIndex_reg (s : State) (n : Nat) {i : Nat} (hi : i ≠ 0x234 + 8 * n) : (s.latchIndex n).reg i = s.reg i :=
  s.reg_setFld_ne (F.TRV_ENn_IDX_IDX n) _ hi

theorem State.raise_reg_ne (s : State) (f : Fld) {i : Nat} (h : i ≠ f.addr) : (s.raise f).reg i = s.reg i :=
  ((s.setFlag f true).mark_reg f i).trans (s.reg_setFld_ne f _ h)

theorem State.update_reg_ne (s : State) (f : Fld) (v : Nat) {i : Nat} (h : i ≠ f.addr) : (s.update f v).reg i = s.reg i :=
  ((s.setFld f v).mark_reg f i).trans (s.reg_setFld_ne f _ h)

theorem State.raise_fld_disj (s : State) (f g : Fld) (h : f.ok = true) (hd : g.hi < f.lo ∨ f.hi < g.lo) :
    (s.raise f).fld g = s.fld g :=
  ((s.setFlag f true).mark_fld f g).trans (s.fld_setFld_disj f g _ h hd)

theorem State.update_fld_disj (s : State) (f g : Fld) (v : Nat) (h : f.ok = true) (hd : g.hi < f.lo ∨ f.hi < g.lo) :
    (s.update f v).fld g = s.fld g :=
  ((s.setFld f v).mark_fld f g).trans (s.fld_setFld_disj f g _ h hd)

/-- The registers between the latch of the count and the flags of TRV_ENn_CFG. -/
theorem State.takePreset_reg (s : State) (n : Nat) {i : Nat} (hcfg : i ≠ 0x230 + 8 * n) :
    (s.takePreset n).reg i = (s.setFld (F.TRV_ENn_CNT_CNT n) (s.fld (F.TRV_ENn_PRESET_PRESET n))).reg i :=
  (State.raise_reg_ne _ (F.TRV_ENn_CFG_IDXTAKEN n) hcfg).trans (State.update_reg_ne _ (F.TRV_ENn_CFG_ARM n) 0 hcfg)

theorem State.takePreset_count (s : State) (n : Nat) :
    (s.takePreset n).fld (F.TRV_ENn_CNT_CNT n) = s.fld (F.TRV_ENn_PRESET_PRESET n) := by
  have hne : 0x231 + 8 * n ≠ 0x230 + 8 * n := by omega
  exact (State.fld_of_reg (F.TRV_ENn_CNT_CNT n) (s.takePreset_reg n hne)).trans
    (s.fld_setFld_whole _ (Fld.whole_count n) (s.fld_whole_lt (Fld.whole_preset n)))

theorem State.takePreset_index (s : State) (n : Nat) :
    (s.takePreset n).fld (F.TRV_ENn_IDX_IDX n) = s.fld (F.TRV_ENn_IDX_IDX n) := by
  have hcfg : 0x234 + 8 * n ≠ 0x230 + 8 * n := by omega
  have hcnt : 0x234 + 8 * n ≠ 0x231 + 8 * n := by omega
  exact (State.fld_of_reg (F.TRV_ENn_IDX_IDX n) (s.takePreset_reg n hcfg)).trans
    (s.fld_setFld_ne (F.TRV_ENn_CNT_CNT n) (F.TRV_ENn_IDX_IDX n) _ hcnt)

theorem State.takePreset_arm (s : State) (n : Nat) : (s.takePreset n).flag (F.TRV_ENn_CFG_ARM n) = false := by
  have hzero : (s.takePreset n).fld (F.TRV_ENn_CFG_ARM n) = 0 :=
    (State.raise_fld_disj _ (F.TRV_ENn_CFG_IDXTAKEN n) (F.TRV_ENn_CFG_ARM n) rfl (.inl (by decide : 11 < 12))).trans
      ((State.mark_fld _ _ _).trans (State.fld_setFld_same _ (F.TRV_ENn_CFG_ARM n) 0 rfl))
  rw [State.flag, hzero]
  rfl

theorem State.takePreset_taken (s : State) (n : Nat) : (s.takePreset n).flag (F.TRV_ENn_CFG_IDXTAKEN n) = true :=
  (State.mark_flag _ _ _).trans (State.flag_setFlag_same _ (F.TRV_ENn_CFG_IDXTAKEN n) true rfl)

/-- In TRV_ENn_CFG only ARM and IDXTAKEN change. -/
theorem State.takePreset_cfg (s : State) (n : Nat) {f : Fld} (hf : f.addr = 0x230 + 8 * n) (hhi : f.hi < 11) :
    (s.takePreset n).fld f = s.fld f :=
  (State.raise_fld_disj _ (F.TRV_ENn_CFG_IDXTAKEN n) f rfl (.inl (by show f.hi < 12; omega))).trans
    ((State.update_fld_disj _ (F.TRV_ENn_CFG_ARM n) f 0 rfl (.inl hhi)).trans
      (s.fld_setFld_ne (F.TRV_ENn_CNT_CNT n) f _ (by show f.addr ≠ 0x231 + 8 * n; omega)))

/-- What a qualified index edge shows: the count before it, and PRESET in the count of an armed input (R55, R57). -/
theorem State.indexTaken_facts (s : State) (n : Nat) (hq : s.qualified n = true) :
    (s.indexTaken n).fld (F.TRV_ENn_IDX_IDX n) = s.fld (F.TRV_ENn_CNT_CNT n) ∧
      (s.indexTaken n).flag (F.TRV_ENn_CFG_ARM n) = false ∧
      (s.flag (F.TRV_ENn_CFG_ARM n) = true → (s.indexTaken n).flag (F.TRV_ENn_CFG_IDXTAKEN n) = true) ∧
      (s.indexTaken n).fld (F.TRV_ENn_CNT_CNT n) =
        (if s.flag (F.TRV_ENn_CFG_ARM n) then s.fld (F.TRV_ENn_PRESET_PRESET n) else s.fld (F.TRV_ENn_CNT_CNT n)) ∧
      ∀ f : Fld, f.addr = 0x230 + 8 * n → f.hi < 11 → (s.indexTaken n).fld f = s.fld f := by
  have hcfg : ∀ f : Fld, f.addr = 0x230 + 8 * n → (s.latchIndex n).fld f = s.fld f := fun f hf =>
    State.fld_of_reg f (s.latchIndex_reg n (by omega))
  have hpreset : (s.latchIndex n).fld (F.TRV_ENn_PRESET_PRESET n) = s.fld (F.TRV_ENn_PRESET_PRESET n) :=
    State.fld_of_reg _ (s.latchIndex_reg n (by show 0x233 + 8 * n ≠ _; omega))
  cases ha : s.flag (F.TRV_ENn_CFG_ARM n) with
  | false =>
    rw [s.indexTaken_unarmed n hq ha]
    exact ⟨s.latchIndex_index n, (s.latchIndex_arm n).trans ha, fun h => absurd h Bool.false_ne_true,
      State.fld_of_reg (F.TRV_ENn_CNT_CNT n) (s.latchIndex_reg n (by show 0x231 + 8 * n ≠ _; omega)), fun f hf _ => hcfg f hf⟩
  | true =>
    have hreg := fun f : Fld => s.indexTaken_armed n hq ha (i := f.addr)
    refine ⟨?index, ?arm, fun _ => ?taken, ?count, fun f hf hhi => ?cfg⟩
    case index =>
      exact (State.fld_of_reg _ (hreg (F.TRV_ENn_IDX_IDX n) (by show 0x234 + 8 * n ≠ 0x210; omega))).trans
        ((State.takePreset_index _ n).trans (s.latchIndex_index n))
    case arm =>
      exact (State.flag_of_reg _ (hreg (F.TRV_ENn_CFG_ARM n) (by show 0x230 + 8 * n ≠ 0x210; omega))).trans (State.takePreset_arm _ n)
    case taken =>
      exact (State.flag_of_reg _ (hreg (F.TRV_ENn_CFG_IDXTAKEN n) (by show 0x230 + 8 * n ≠ 0x210; omega))).trans
        (State.takePreset_taken _ n)
    case count =>
      rw [State.fld_of_reg _ (hreg (F.TRV_ENn_CNT_CNT n) (by show 0x231 + 8 * n ≠ 0x210; omega)), State.takePreset_count, hpreset]
      rfl
    case cfg =>
      rw [State.fld_of_reg f (hreg f (by show f.addr ≠ 0x210; omega)), State.takePreset_cfg _ n hf hhi, hcfg f hf]

end Sys2Proof.Machine
end

section
/-! PROOF. What the filter of an encoder input accepts, and when (R50). -/

namespace Sys2Proof.Machine

open Sys2Proof

/-! ### Nothing is due -/

/-- The filter agrees with the lines. -/
structure EncSt.Settled (e : EncSt) : Prop where
  a : e.ra = e.a
  b : e.rb = e.b
  z : e.zAt = none

/-- A fold whose every step gives something gives nothing of the empty list only. -/
theorem foldl_eq_none {f : Option Nat → Nat → Option Nat} (hf : ∀ m d, f m d ≠ none) {l : List Nat}
    (h : l.foldl f none = none) : l = [] := by
  obtain rfl | ⟨l, x, rfl⟩ := l.eq_nil_or_concat'
  · rfl
  · rw [List.foldl_append] at h
    exact absurd h (hf _ x)

theorem State.settled_of_filtDue {s : State} {n : Nat} (h : s.filtDue n = none) : (s.encOf n).Settled := by
  have hnil := foldl_eq_none (fun m d => by cases m <;> exact Option.some_ne_none _) h
  simp only [List.append_eq_nil_iff, Option.toList_eq_nil_iff, ite_eq_right_iff, reduceCtorEq, imp_false, bne_iff_ne, ne_eq,
    not_not, Option.map_eq_none_iff] at hnil
  obtain ⟨⟨ha, hb⟩, hz⟩ := hnil
  exact ⟨ha, hb, hz⟩

theorem State.filtDue_of_settled {s : State} {n : Nat} (h : (s.encOf n).Settled) : s.filtDue n = none := by
  obtain ⟨ha, hb, hz⟩ := h
  simp [State.filtDue, ha, hb, hz]

/-- One turn of `settle`. -/
def State.settleNext (s : State) (n lim : Nat) : State :=
  match s.filtDue n with
  | some c => if c ≤ lim then s.settleOne n c else s
  | none => s

theorem State.settle_eq (s : State) (n lim : Nat) :
    s.settle n lim = ((s.settleNext n lim).settleNext n lim).settleNext n lim := by
  show (List.range 3).foldl (fun u _ => u.settleNext n lim) s = _
  simp [List.range_succ]

theorem State.settle_idle {s : State} {n : Nat} (lim : Nat) (h : s.filtDue n = none) : s.settle n lim = s := by
  have hnext : s.settleNext n lim = s := by rw [State.settleNext, h]
  rw [s.settle_eq, hnext, hnext, hnext]

/-! ### What a level that falls due changes -/

/-- Z is taken where it is due. -/
def State.settleIndex (s : State) (n c : Nat) : State :=
  match (s.encOf n).zAt with
  | some z => if z + s.filtHold n ≤ c then (s.setEnc n { s.encOf n with zAt := none }).indexTaken n else s
  | none => s

theorem State.settleOne_eq (s : State) (n c : Nat) : s.settleOne n c = (s.settleIndex n c).encLevels c n
    (if (s.encOf n).raAt + s.filtHold n ≤ c then (s.encOf n).ra else (s.encOf n).a)
    (if (s.encOf n).rbAt + s.filtHold n ≤ c then (s.encOf n).rb else (s.encOf n).b) := rfl

theorem State.indexTaken_onlyInput (s : State) (n m : Nat) : OnlyInput m s (s.indexTaken n) := by
  obtain ⟨henc, hmem, hflash⟩ := s.indexTaken_same n
  exact .of_same hmem hflash henc

theorem State.settleIndex_onlyInput (s : State) (n c : Nat) : OnlyInput n s (s.settleIndex n c) := by
  unfold State.settleIndex
  split
  · split
    · exact (s.setEnc_onlyInput n _).trans (State.indexTaken_onlyInput _ n n)
    · exact .refl n s
  · exact .refl n s

theorem State.settleOne_onlyInput (s : State) (n c : Nat) : OnlyInput n s (s.settleOne n c) := by
  rw [s.settleOne_eq]
  exact (s.settleIndex_onlyInput n c).trans (State.encLevels_onlyInput _ c n _ _)

theorem State.settleNext_onlyInput (s : State) (n lim : Nat) : OnlyInput n s (s.settleNext n lim) := by
  unfold State.settleNext
  split
  · split
    · exact s.settleOne_onlyInput n _
    · exact .refl n s
  · exact .refl n s

theorem State.settle_onlyInput (s : State) (n lim : Nat) : OnlyInput n s (s.settle n lim) := by
  rw [s.settle_eq]
  exact (s.settleNext_onlyInput n lim).trans ((State.settleNext_onlyInput _ n lim).trans (State.settleNext_onlyInput _ n lim))

/-! ### Lines that hold -/

/-- The lines of the input have taken the levels `a` and `b` at core clock `c`, where they differ from those behind the filter,
and Z has risen there if it has. -/
structure EncSt.EdgeAt (e : EncSt) (c : Nat) (a b : Bool) : Prop where
  ra : e.ra = a
  rb : e.rb = b
  raAt : a ≠ e.a → e.raAt = c
  rbAt : b ≠ e.b → e.rbAt = c
  zAt : e.zAt = none ∨ e.zAt = some c

/-- Such lines fall due after the hold time, and not at all if nothing changed. -/
theorem State.filtDue_edge {s : State} {n c : Nat} {a b : Bool} (h : (s.encOf n).EdgeAt c a b) :
    s.filtDue n = if a = (s.encOf n).a ∧ b = (s.encOf n).b ∧ (s.encOf n).zAt = none then none else some (c + s.filtHold n) := by
  obtain ⟨rfl, rfl, hraAt, hrbAt, hz⟩ := h
  by_cases ha : (s.encOf n).ra = (s.encOf n).a <;> by_cases hb : (s.encOf n).rb = (s.encOf n).b <;>
    obtain hz | hz := hz <;> simp_all [State.filtDue]

/-- When they fall due, the filter takes Z and then both levels. -/
theorem State.settleOne_edge {s : State} {n c : Nat} {a b : Bool} (h : (s.encOf n).EdgeAt c a b) :
    s.settleOne n (c + s.filtHold n) = (s.settleIndex n (c + s.filtHold n)).encLevels (c + s.filtHold n) n a b := by
  obtain ⟨rfl, rfl, hraAt, hrbAt, -⟩ := h
  have ha : (if (s.encOf n).raAt + s.filtHold n ≤ c + s.filtHold n then (s.encOf n).ra else (s.encOf n).a) = (s.encOf n).ra := by
    by_cases heq : (s.encOf n).ra = (s.encOf n).a
    · simp [heq]
    · rw [if_pos (by rw [hraAt heq])]
  have hb : (if (s.encOf n).rbAt + s.filtHold n ≤ c + s.filtHold n then (s.encOf n).rb else (s.encOf n).b) = (s.encOf n).rb := by
    by_cases heq : (s.encOf n).rb = (s.encOf n).b
    · simp [heq]
    · rw [if_pos (by rw [hrbAt heq])]
  rw [s.settleOne_eq, ha, hb]

end Sys2Proof.Machine
end

section
/-! PROOF. Time passing while the lines of an encoder input hold (R50). -/

namespace Sys2Proof.Machine

open Sys2Proof

/-! ### Time under the filter -/

/-- One turn of `filterFor`. -/
def State.filterNext (s : State) (n lim : Nat) : State :=
  match s.filtDue n with
  | some c => if c ≤ lim then (s.advCcTo c).settleOne n c |>.completed else s
  | none => s

theorem State.filterFor_eq (s : State) (n dt : Nat) : s.filterFor n dt =
    (((s.filterNext n (s.clk.cc + dt)).filterNext n (s.clk.cc + dt)).filterNext n (s.clk.cc + dt)).advCcTo (s.clk.cc + dt) := by
  have hfold : s.filterFor n dt =
      ((List.range 3).foldl (fun u _ => u.filterNext n (s.clk.cc + dt)) s).advCcTo (s.clk.cc + dt) := by
    unfold State.filterFor
    rfl
  rw [hfold]
  simp [List.range_succ]

/-- With nothing due in its time the clock runs. -/
theorem State.filterFor_idle {s : State} {n dt : Nat} (h : ∀ c, s.filtDue n = some c → s.clk.cc + dt < c) :
    s.filterFor n dt = s.advCcTo (s.clk.cc + dt) := by
  have hnext : s.filterNext n (s.clk.cc + dt) = s := by
    unfold State.filterNext
    split
    · next c hc => exact if_neg (Nat.not_le.2 (h c hc))
    · rfl
  rw [s.filterFor_eq, hnext, hnext, hnext]

/-- With one level due in its time, after which nothing is, the filter accepts it at its clock. -/
theorem State.filterFor_once {s t : State} {n dt c : Nat} (hdue : s.filtDue n = some c) (hc : c ≤ s.clk.cc + dt)
    (ht : t = ((s.advCcTo c).settleOne n c).completed) (hafter : t.filtDue n = none) :
    s.filterFor n dt = t.advCcTo (s.clk.cc + dt) := by
  have hfirst : s.filterNext n (s.clk.cc + dt) = t := by rw [State.filterNext, hdue, ht]; exact if_pos hc
  have hrest : t.filterNext n (s.clk.cc + dt) = t := by rw [State.filterNext, hafter]
  rw [s.filterFor_eq, hfirst, hrest, hrest]

/-! ### An edge that holds -/

/-- Z rises in this core clock. -/
def State.zRises (s : State) (n : Nat) : State := s.setEnc n { s.encOf n with zAt := some s.clk.cc }

theorem State.advCcTo_encOf (s : State) (c n : Nat) : (s.advCcTo c).encOf n = s.encOf n := by
  obtain ⟨r, k, e⟩ := s.advCcTo_same c
  rw [e]
  rfl

/-- A field of the travel registers does not change with time. -/
theorem State.advCcTo_fld (s : State) (c : Nat) (f : Fld) (h : f.addr ≠ 0x200) : (s.advCcTo c).fld f = s.fld f :=
  State.fld_of_reg f (s.advCcTo_reg c h)

theorem State.advCcTo_filtHold (s : State) (c n : Nat) : (s.advCcTo c).filtHold n = s.filtHold n := by
  rw [State.filtHold, State.filtHold, s.advCcTo_fld c _ (by show 0x230 + 8 * n ≠ 0x200; omega)]

/-- Z is taken, at its time or before. -/
theorem State.settleIndex_enc (s : State) (n : Nat) {c : Nat} {a b : Bool} (h : (s.encOf n).EdgeAt c a b) :
    (s.settleIndex n (c + s.filtHold n)).encOf n = { s.encOf n with zAt := none } := by
  obtain ⟨-, -, -, -, hz⟩ := h
  unfold State.settleIndex
  obtain hz | hz := hz
  · rw [hz]
    show s.encOf n = _
    rw [← hz]
  · rw [hz]
    dsimp only
    rw [if_pos (Nat.le_refl _), State.indexTaken_encOf, State.encOf_setEnc, if_pos rfl]

/-- Once an edge has been accepted the filter agrees with the lines. -/
theorem State.settleOne_settled {s : State} {n c : Nat} {a b : Bool} (h : (s.encOf n).EdgeAt c a b) :
    ((s.settleOne n (c + s.filtHold n)).encOf n).Settled := by
  have henc := s.settleIndex_enc n h
  rw [State.settleOne_edge h]
  obtain ⟨ha, hb, hra, hrb, hz⟩ := (s.settleIndex n (c + s.filtHold n)).encLevels_enc (c + s.filtHold n) n a b
  rw [henc] at hra hrb hz
  exact ⟨by rw [ha, hra]; exact h.ra, by rw [hb, hrb]; exact h.rb, hz⟩

/-- The input `u` at the clock at which the edge of core clock `c` is accepted. -/
def State.accepted (u : State) (n c : Nat) (a b : Bool) : State :=
  (((u.advCcTo (c + u.filtHold n)).settleIndex n (c + u.filtHold n)).encLevels (c + u.filtHold n) n a b).completed

theorem State.accepted_levels (u : State) (n c : Nat) (a b : Bool) (hz : (u.encOf n).zAt = none) :
    u.accepted n c a b = ((u.advCcTo (c + u.filtHold n)).encLevels (c + u.filtHold n) n a b).completed := by
  rw [State.accepted, State.settleIndex, State.advCcTo_encOf, hz]

/-- The input `u` when Z of core clock `c` is accepted. -/
def State.atIndex (u : State) (n c : Nat) : State :=
  (u.advCcTo (c + u.filtHold n)).setEnc n { u.encOf n with zAt := none }

theorem State.atIndex_enc (u : State) (n c : Nat) : (u.atIndex n c).encOf n = { u.encOf n with zAt := none } :=
  (State.encOf_setEnc _ n n _).trans (if_pos rfl)

theorem State.atIndex_fld (u : State) (n c : Nat) (f : Fld) (h : f.addr ≠ 0x200) : (u.atIndex n c).fld f = u.fld f :=
  u.advCcTo_fld _ f h

theorem State.accepted_index (u : State) (n c : Nat) (a b : Bool) (hz : (u.encOf n).zAt = some c) :
    u.accepted n c a b = (((u.atIndex n c).indexTaken n).encLevels (c + u.filtHold n) n a b).completed := by
  rw [State.accepted, State.settleIndex, State.advCcTo_encOf, hz, State.advCcTo_filtHold]
  dsimp only
  rw [if_pos (Nat.le_refl _), State.atIndex]

/-- An edge that changes something and holds for the filter time is accepted, and nothing else in that time. -/
theorem State.filterFor_accepts {u : State} {n dt : Nat} {a b : Bool} (h : (u.encOf n).EdgeAt u.clk.cc a b)
    (hnew : ¬ (a = (u.encOf n).a ∧ b = (u.encOf n).b ∧ (u.encOf n).zAt = none)) (hheld : u.filtHold n ≤ dt) :
    u.filterFor n dt = (u.accepted n u.clk.cc a b).advCcTo (u.clk.cc + dt) := by
  have hdue := State.filtDue_edge h
  rw [if_neg hnew] at hdue
  have hadv : ((u.advCcTo (u.clk.cc + u.filtHold n)).encOf n).EdgeAt u.clk.cc a b := by rwa [State.advCcTo_encOf]
  have haccept := State.settleOne_edge hadv
  have hsettled := State.settleOne_settled hadv
  rw [State.advCcTo_filtHold] at haccept hsettled
  refine State.filterFor_once hdue (by omega) (by rw [haccept]; rfl) (State.filtDue_of_settled ?_)
  rw [haccept] at hsettled
  exact hsettled

end Sys2Proof.Machine
end

section
/-! PROOF. Encoder inputs (O25): INDEX_ARM, ENCODER_EDGE and INDEX_EDGE. -/

namespace Sys2Proof.Proofs

open Sys2Proof Sys2Proof.Machine

/-! ### INDEX_ARM -/

/-- The row of TRV_ENn_CFG. -/
def encoderRow : RegRow := ⟨.TRV_ENn_CFG, 0x230, 8, 4, 0, 0x30, 0xfff, 0x1000, 0x0⟩

theorem metAt_settled (s : State) {a : Nat} (hin : inInputs a = true) (h : ∀ m, m < 4 → s.filtDue m = none) : s.metAt a = s := by
  rw [s.metAt_inputs hin]
  simp [List.range_succ, State.settle_idle _ (h 0 (by decide)), State.settle_idle _ (h 1 (by decide)),
    State.settle_idle _ (h 2 (by decide)), State.settle_idle _ (h 3 (by decide))]

theorem exec_indexArm (s : State) (n : Fin 4) (v : Word) (hrun : s.boot.halted = false) (hcalm : s.calm = true)
    (hdue : ∀ m, m < 4 → s.filtDue m = none) : exec (.indexArm n v) s =
      .next ((s.setReg (0x230 + 8 * n) (BitVec.ofNat 40 (encoderRow.cleared (s.reg (0x230 + 8 * n)) v))).writeEncCfg n
        (encoderRow.stored (s.reg (0x230 + 8 * n)) v)).completed := by
  have hrow : regAt (0x230 + 8 * n) = some encoderRow := by revert n; decide
  have hmet : s.metAt (0x230 + 8 * n) = s := metAt_settled s (by revert n; decide) hdue
  have hidx : encoderRow.idx (0x230 + 8 * n) = n := by simp [RegRow.idx, encoderRow]
  have hclear : s.clearedBy encoderRow (0x230 + 8 * n) v =
      s.setReg (0x230 + 8 * n) (BitVec.ofNat 40 (encoderRow.cleared (s.reg (0x230 + 8 * n)) v)) := by
    rw [State.clearedBy, if_neg (by decide), hmet]
  show execIndexArm n v s = _
  rw [execIndexArm, s.clocked_running _ hrun, State.write, s.hostWrite_calm v rfl hrow (hmet.symm ▸ hcalm) (by decide), hclear, hmet]
  generalize encoderRow.stored (s.reg (0x230 + 8 * n)) v = x
  generalize s.setReg (0x230 + 8 * n) _ = u
  have hwrite : u.writeReg (some .service) encoderRow (0x230 + 8 * n) v x =
      (.done, u.writeEncCfg (encoderRow.idx (0x230 + 8 * n)) x) := rfl
  rw [hwrite, hidx]
  rfl

/-- A write of TRV_ENn_CFG: the register takes the word, but for BREAK in 24 V mode, and no other encoder changes. -/
theorem writeEncCfg_facts (s : State) (n : Nat) (x : Word) :
    OnlyInput n s (s.writeEncCfg n x) ∧ (∀ i, i ≠ 0x230 + 8 * n → (s.writeEncCfg n x).reg i = s.reg i) ∧
      ∀ f : Fld, f.addr = 0x230 + 8 * n → f.hi < 13 → (s.writeEncCfg n x).fld f = bitsOf x.toNat f.hi f.lo := by
  have hreg : ∀ i, (s.setReg (0x230 + 8 * n) x).reg i = if i = 0x230 + 8 * n then x else s.reg i := fun i =>
    s.reg_setReg (0x230 + 8 * n) i x
  have hfld : ∀ f : Fld, f.addr = 0x230 + 8 * n → (s.setReg (0x230 + 8 * n) x).fld f = bitsOf x.toNat f.hi f.lo := fun f hf => by
    rw [State.fld, hreg, if_pos hf]
  have hset : OnlyInput n s (s.setReg (0x230 + 8 * n) x) := .of_same
  unfold State.writeEncCfg
  dsimp only
  split
  · refine ⟨hset.trans (OnlyInput.trans (t := State.setFlag _ (F.TRV_ENn_CFG_BREAK n) false) .of_same (State.setEnc_onlyInput _ n _)),
      fun i hi => ?_, fun f hf hhi => ?_⟩
    · exact (State.reg_setFld_ne _ (F.TRV_ENn_CFG_BREAK n) _ hi).trans ((hreg i).trans (if_neg hi))
    · exact (State.fld_setFld_disj _ (F.TRV_ENn_CFG_BREAK n) f _ rfl (.inl hhi)).trans (hfld f hf)
  · exact ⟨hset, fun i hi => (hreg i).trans (if_neg hi), fun f hf _ => hfld f hf⟩

/-- INDEX_ARM sets ARM, and leaves every other register and input. -/
theorem indexArm_facts (s : State) (n : Nat) (v y : Word) :
    ∀ t, t = ((s.setReg (0x230 + 8 * n) y).writeEncCfg n (encoderRow.stored (s.reg (0x230 + 8 * n)) v)).completed →
      t.flag (F.TRV_ENn_CFG_ARM n) = bitOf v.toNat 11 ∧ t.fld (F.TRV_ENn_CNT_CNT n) = s.fld (F.TRV_ENn_CNT_CNT n) ∧
      (∀ m, m ≠ n → t.encOf m = s.encOf m) ∧ t.mem = s.mem ∧ t.flash = s.flash ∧
      ∀ i, i ≠ (F.TRV_ENn_CFG_ARM n).addr → t.reg i = s.reg i := by
  rintro t rfl
  obtain ⟨honly, hreg, hfld⟩ :=
    writeEncCfg_facts (s.setReg (0x230 + 8 * n) y) n (encoderRow.stored (s.reg (0x230 + 8 * n)) v)
  have hset : OnlyInput n s (s.setReg (0x230 + 8 * n) y) := .of_same
  have hsame := hset.trans honly
  have hother : ∀ i, i ≠ 0x230 + 8 * n → State.reg _ i = s.reg i := fun i hi =>
    (hreg i hi).trans ((s.reg_setReg _ i y).trans (if_neg hi))
  refine ⟨?arm, ?count, hsame.enc, hsame.mem, hsame.flash, hother⟩
  case arm =>
    rw [State.completed_flag, State.flag, hfld (F.TRV_ENn_CFG_ARM n) rfl (by decide : 11 < 13),
      encoderRow.bitsOf_stored_rw (f := F.TRV_ENn_CFG_ARM n) _ v rfl (by rfl)]
    exact bitsOf_mod_two _ 11 11 (Nat.le_refl _)
  case count => exact State.fld_of_reg (F.TRV_ENn_CNT_CNT n) (hother _ (by show 0x231 + 8 * n ≠ _; omega))

/-! ### Edges -/

theorem exec_encoderEdge (s : State) (n : Fin 4) (a b : Bool) (gap : Nat) (hrun : s.boot.halted = false)
    (hdue : s.filtDue n = none) : exec (.encoderEdge n a b gap) s = .next ((s.lines n a b).filterFor n (gap + 1)) := by
  show execEncoderEdge n a b gap s = _
  rw [execEncoderEdge, s.clocked_running _ hrun, State.settle_idle _ hdue]

theorem exec_indexEdge (s : State) (n : Fin 4) (a b : Bool) (gap : Nat) (hrun : s.boot.halted = false)
    (hdue : s.filtDue n = none) :
    exec (.indexEdge n a b gap) s = .next (((s.lines n a b).zRises n).filterFor n (gap + 1)) := by
  show execIndexEdge n a b gap s = _
  rw [execIndexEdge, s.clocked_running _ hrun, State.settle_idle _ hdue]
  rfl

end Sys2Proof.Proofs
end

section
/-! PROOF. Levels that an encoder input holds, or does not (R50 to R56), and O25. -/

namespace Sys2Proof.Machine

open Sys2Proof

theorem State.flag_of_fld {s t : State} (f : Fld) (h : t.fld f = s.fld f) : t.flag f = s.flag f := by
  rw [State.flag, State.flag, h]

theorem State.filterNext_onlyInput (s : State) (n lim : Nat) : OnlyInput n s (s.filterNext n lim) := by
  unfold State.filterNext
  split
  · split
    · exact ((s.advCcTo_onlyInput _ n).trans (State.settleOne_onlyInput _ n _)).trans .of_same
    · exact .refl n s
  · exact .refl n s

theorem State.filterFor_onlyInput (s : State) (n dt : Nat) : OnlyInput n s (s.filterFor n dt) := by
  rw [s.filterFor_eq]
  exact (((s.filterNext_onlyInput n _).trans (State.filterNext_onlyInput _ n _)).trans (State.filterNext_onlyInput _ n _)).trans
    (State.advCcTo_onlyInput _ _ n)

/-- Inputs with the same levels and settings count the same. -/
theorem State.edgeOf_congr {s t : State} {n : Nat} (hmode : t.fld (F.TRV_ENn_CFG_MODE n) = s.fld (F.TRV_ENn_CFG_MODE n))
    (hinv : t.fld (F.TRV_ENn_CFG_INV n) = s.fld (F.TRV_ENn_CFG_INV n)) (ha : (t.encOf n).a = (s.encOf n).a)
    (hb : (t.encOf n).b = (s.encOf n).b) (a b : Bool) : t.edgeOf n a b = s.edgeOf n a b := by
  rw [State.edgeOf, State.edgeOf, hmode, State.flag_of_fld _ hinv, ha, hb]

/-! ### The lines -/

theorem State.lines_onlyInput (s : State) (n : Nat) (a b : Bool) : OnlyInput n s (s.lines n a b) := s.setEnc_onlyInput n _

theorem State.lines_enc (s : State) (n : Nat) (a b : Bool) : (s.lines n a b).encOf n = { s.encOf n with
    ra := a, rb := b, raAt := if a == (s.encOf n).ra then (s.encOf n).raAt else s.clk.cc,
    rbAt := if b == (s.encOf n).rb then (s.encOf n).rbAt else s.clk.cc } := (s.encOf_setEnc n n _).trans (if_pos rfl)

/-- On a settled input the lines make an edge of this core clock. -/
theorem State.lines_edgeAt (s : State) (n : Nat) (a b : Bool) (h : (s.encOf n).Settled) :
    ((s.lines n a b).encOf n).EdgeAt (s.lines n a b).clk.cc a b := by
  rw [s.lines_enc]
  refine ⟨rfl, rfl, fun hne => if_neg ?_, fun hne => if_neg ?_, .inl h.z⟩
  · rw [h.a, beq_iff_eq]; exact hne
  · rw [h.b, beq_iff_eq]; exact hne

theorem State.zRises_enc (s : State) (n : Nat) : (s.zRises n).encOf n = { s.encOf n with zAt := some s.clk.cc } :=
  (s.encOf_setEnc n n _).trans (if_pos rfl)

theorem State.zRises_edgeAt (s : State) (n : Nat) {a b : Bool} (h : (s.encOf n).EdgeAt s.clk.cc a b) :
    ((s.zRises n).encOf n).EdgeAt (s.zRises n).clk.cc a b := by
  rw [s.zRises_enc]
  exact ⟨h.ra, h.rb, h.raAt, h.rbAt, .inr rfl⟩

end Sys2Proof.Machine

namespace Sys2Proof.Proofs

open Sys2Proof Sys2Proof.Machine

/-- An edge that is shorter than the filter time leaves levels and count. -/
theorem encoderEdge_short (s : State) (n : Nat) (a b : Bool) (gap : Nat) (hset : (s.encOf n).Settled)
    (hshort : gap + 1 < s.filtHold n) :
    ∀ t, t = (s.lines n a b).filterFor n (gap + 1) → (t.encOf n).a = (s.encOf n).a ∧ (t.encOf n).b = (s.encOf n).b ∧
      t.fld (F.TRV_ENn_CNT_CNT n) = s.fld (F.TRV_ENn_CNT_CNT n) ∧ (t.encOf n).tally = (s.encOf n).tally := by
  intro t ht
  have hdue := State.filtDue_edge (s.lines_edgeAt n a b hset)
  have hlate : ∀ c, (s.lines n a b).filtDue n = some c → (s.lines n a b).clk.cc + (gap + 1) < c := by
    intro c hc
    rw [hdue] at hc
    split at hc
    · contradiction
    · cases hc
      exact Nat.add_lt_add_left hshort _
  rw [State.filterFor_idle hlate] at ht
  rw [ht, State.advCcTo_encOf, s.lines_enc,
    State.advCcTo_fld _ _ _ (by show 0x231 + 8 * n ≠ 0x200; omega)]
  exact ⟨rfl, rfl, rfl, rfl⟩

/-- From `s` to `t` the filter of encoder `n` has taken the levels `a` and `b`, and counted what Table 3-2 gives for them. -/
structure Counted (n : Nat) (a b : Bool) (s t : State) : Prop where
  levelA : (t.encOf n).a = a
  levelB : (t.encOf n).b = b
  count : t.fld (F.TRV_ENn_CNT_CNT n) = add40 (s.fld (F.TRV_ENn_CNT_CNT n)) ((s.edgeOf n a b).getD 0)
  tally : ∀ d, s.edgeOf n a b = some d → (t.encOf n).tally = (s.encOf n).tally + d
  errors : s.edgeOf n a b = none → t.fld (F.TRV_ENn_CFG_PHERR n) = satAdd 16 (s.fld (F.TRV_ENn_CFG_PHERR n)) 1

theorem encLevels_counts (s : State) (c : Nat) {n : Nat} (hn : n < 4) (a b : Bool) : Counted n a b s (s.encLevels c n a b) := by
  obtain ⟨ha, hb, -⟩ := s.encLevels_enc c n a b
  exact ⟨ha, hb, s.encLevels_count c hn a b, fun _ h => s.encLevels_tally c n a b h, s.encLevels_phaseErrors c hn a b⟩

/-- Levels that are those behind the filter count nothing. -/
theorem encoderEdge_unchanged (s : State) {n : Nat} (hn : n < 4) (dt : Nat) (hset : (s.encOf n).Settled) :
    Counted n (s.encOf n).a (s.encOf n).b s ((s.lines n (s.encOf n).a (s.encOf n).b).filterFor n dt) := by
  have hsame : s.edgeOf n (s.encOf n).a (s.encOf n).b = some 0 := countEdge_same _ _ _ _
  have hdue : (s.lines n (s.encOf n).a (s.encOf n).b).filtDue n = none := by
    rw [State.filtDue_edge (s.lines_edgeAt n _ _ hset), s.lines_enc, if_pos ⟨rfl, rfl, hset.z⟩]
  have hcnt : (F.TRV_ENn_CNT_CNT n).addr ≠ 0x200 := by show 0x231 + 8 * n ≠ 0x200; omega
  rw [State.filterFor_idle (fun c hc => by rw [hdue] at hc; contradiction)]
  refine ⟨?_, ?_, ?_, fun d hd => ?_, fun h => ?_⟩
  · rw [State.advCcTo_encOf, s.lines_enc]
  · rw [State.advCcTo_encOf, s.lines_enc]
  · rw [State.advCcTo_fld _ _ _ hcnt, hsame]
    exact (add40_zero (s.fld_whole_lt (Fld.whole_count n))).symm
  · rw [hsame] at hd
    cases hd
    rw [State.advCcTo_encOf, s.lines_enc]
    exact (Int.add_zero _).symm
  · rw [hsame] at h
    contradiction

/-- New levels that are held are accepted at the end of the filter time. -/
theorem encoderEdge_changed (s : State) {n : Nat} (hn : n < 4) (a b : Bool) (dt : Nat) (hset : (s.encOf n).Settled)
    (hnew : ¬ (a = (s.encOf n).a ∧ b = (s.encOf n).b)) (hheld : s.filtHold n ≤ dt) :
    Counted n a b s ((s.lines n a b).filterFor n dt) := by
  obtain ⟨u, hu⟩ : ∃ u, u = s.lines n a b := ⟨_, rfl⟩
  have henc := s.lines_enc n a b
  have hedge := s.lines_edgeAt n a b hset
  rw [← hu] at henc hedge ⊢
  have hz : (u.encOf n).zAt = none := by rw [henc]; exact hset.z
  have hnew' : ¬ (a = (u.encOf n).a ∧ b = (u.encOf n).b ∧ (u.encOf n).zAt = none) := by
    rw [henc]
    exact fun ⟨ha, hb, _⟩ => hnew ⟨ha, hb⟩
  have hhold : u.filtHold n = s.filtHold n := by rw [hu]; rfl
  rw [State.filterFor_accepts hedge hnew' (hhold ▸ hheld), u.accepted_levels n _ a b hz]
  generalize u.clk.cc + u.filtHold n = c
  generalize u.clk.cc + dt = lim
  have hcnt : (F.TRV_ENn_CNT_CNT n).addr ≠ 0x200 := by show 0x231 + 8 * n ≠ 0x200; omega
  have hcfg : 0x230 + 8 * n ≠ 0x200 := by omega
  have hfld : ∀ f : Fld, f.addr ≠ 0x200 → (u.advCcTo c).fld f = s.fld f := fun f hf =>
    (u.advCcTo_fld c f hf).trans (by rw [hu]; rfl)
  have hwenc : (u.advCcTo c).encOf n = u.encOf n := u.advCcTo_encOf c n
  have hedgeOf : (u.advCcTo c).edgeOf n a b = s.edgeOf n a b :=
    State.edgeOf_congr (hfld _ hcfg) (hfld _ hcfg) (by rw [hwenc, henc]) (by rw [hwenc, henc]) a b
  obtain ⟨ha, hb, hcount, htally, herrors⟩ := encLevels_counts (u.advCcTo c) c hn a b
  rw [hedgeOf] at hcount htally herrors
  refine ⟨?_, ?_, ?_, fun d hd => ?_, fun he => ?_⟩
  · rw [State.advCcTo_encOf]; exact ha
  · rw [State.advCcTo_encOf]; exact hb
  · rw [State.advCcTo_fld _ _ _ hcnt, ← hfld _ hcnt]; exact hcount
  · rw [State.advCcTo_encOf]
    refine (htally d hd).trans ?_
    rw [hwenc, henc]
  · rw [State.advCcTo_fld _ _ _ hcfg, ← hfld _ hcfg]; exact herrors he

/-- An edge that is held takes the levels, and counts what Table 3-2 gives for them. -/
theorem encoderEdge_held (s : State) {n : Nat} (hn : n < 4) (a b : Bool) (dt : Nat) (hset : (s.encOf n).Settled)
    (hheld : s.filtHold n ≤ dt) : Counted n a b s ((s.lines n a b).filterFor n dt) := by
  by_cases hold : a = (s.encOf n).a ∧ b = (s.encOf n).b
  · obtain ⟨rfl, rfl⟩ := hold
    exact encoderEdge_unchanged s hn dt hset
  · exact encoderEdge_changed s hn a b dt hset hold hheld

/-- From `s` to `t` a qualified index edge of encoder `n` has latched the count, and preset it on an armed input, before the levels
`a` and `b` of its core clock counted. -/
structure Indexed (n : Nat) (a b : Bool) (s t : State) : Prop where
  index : t.fld (F.TRV_ENn_IDX_IDX n) = s.fld (F.TRV_ENn_CNT_CNT n)
  arm : t.flag (F.TRV_ENn_CFG_ARM n) = false
  taken : s.flag (F.TRV_ENn_CFG_ARM n) = true → t.flag (F.TRV_ENn_CFG_IDXTAKEN n) = true
  count : t.fld (F.TRV_ENn_CNT_CNT n) = add40
    (if s.flag (F.TRV_ENn_CFG_ARM n) then s.fld (F.TRV_ENn_PRESET_PRESET n) else s.fld (F.TRV_ENn_CNT_CNT n))
    ((s.edgeOf n a b).getD 0)

/-- Z first, with the levels before, and then the levels (R56). -/
theorem indexTaken_encLevels (x : State) (c : Nat) {n : Nat} (hn : n < 4) (a b : Bool) (hq : x.qualified n = true) :
    Indexed n a b x ((x.indexTaken n).encLevels c n a b) := by
  obtain ⟨hindex, hclear, htaken, hcount, hkept⟩ := x.indexTaken_facts n hq
  have hedgeOf : (x.indexTaken n).edgeOf n a b = x.edgeOf n a b :=
    State.edgeOf_congr (hkept (F.TRV_ENn_CFG_MODE n) rfl (by decide : 1 < 11)) (hkept (F.TRV_ENn_CFG_INV n) rfl (by decide : 8 < 11))
      (by rw [State.indexTaken_encOf]) (by rw [State.indexTaken_encOf]) a b
  have hcfg : ∀ f : Fld, f.addr = 0x230 + 8 * n → f.hi < 14 →
      ((x.indexTaken n).encLevels c n a b).flag f = (x.indexTaken n).flag f := fun f hf hhi =>
    State.flag_of_fld f (State.encLevels_cfg _ c hn a b hf hhi)
  have hidx : ((x.indexTaken n).encLevels c n a b).reg (0x234 + 8 * n) = (x.indexTaken n).reg (0x234 + 8 * n) :=
    State.encLevels_reg _ c n a b (by omega) (by omega) (by omega) (by omega)
  refine ⟨(State.fld_of_reg (F.TRV_ENn_IDX_IDX n) hidx).trans hindex, ?_, fun h => ?_, ?_⟩
  · rw [hcfg (F.TRV_ENn_CFG_ARM n) rfl (by decide : 11 < 14), hclear]
  · rw [hcfg (F.TRV_ENn_CFG_IDXTAKEN n) rfl (by decide : 12 < 14), htaken h]
  · rw [State.encLevels_count _ c hn, hedgeOf, hcount]

/-- A qualified index edge that is held latches the count before the edge of its core clock, and presets an armed input. -/
theorem indexEdge_held (s : State) {n : Nat} (hn : n < 4) (a b : Bool) (dt : Nat) (hset : (s.encOf n).Settled)
    (hq : s.qualified n = true) (hheld : s.filtHold n ≤ dt) :
    Indexed n a b s (((s.lines n a b).zRises n).filterFor n dt) := by
  obtain ⟨u, hu⟩ : ∃ u, u = (s.lines n a b).zRises n := ⟨_, rfl⟩
  have henc := (s.lines n a b).zRises_enc n
  have hedge := State.zRises_edgeAt _ n (s.lines_edgeAt n a b hset)
  rw [s.lines_enc] at henc
  rw [← hu] at henc hedge ⊢
  have hz : (u.encOf n).zAt = some u.clk.cc := by rw [henc, hu]; rfl
  have hnew : ¬ (a = (u.encOf n).a ∧ b = (u.encOf n).b ∧ (u.encOf n).zAt = none) := by
    rw [hz]
    exact fun ⟨_, _, h⟩ => nomatch h
  have hhold : u.filtHold n = s.filtHold n := by rw [hu]; rfl
  rw [State.filterFor_accepts hedge hnew (hhold ▸ hheld), u.accepted_index n _ a b hz]
  generalize u.clk.cc + u.filtHold n = c
  generalize u.clk.cc + dt = lim
  have hxenc := u.atIndex_enc n u.clk.cc
  have hfld : ∀ f : Fld, f.addr ≠ 0x200 → (u.atIndex n u.clk.cc).fld f = s.fld f := fun f hf =>
    (u.atIndex_fld n _ f hf).trans (by rw [hu]; rfl)
  generalize u.atIndex n u.clk.cc = x at *
  have ha : (x.encOf n).a = (s.encOf n).a := by rw [hxenc, henc]
  have hb : (x.encOf n).b = (s.encOf n).b := by rw [hxenc, henc]
  have hcfg : 0x230 + 8 * n ≠ 0x200 := by omega
  have hcnt : (F.TRV_ENn_CNT_CNT n).addr ≠ 0x200 := by show 0x231 + 8 * n ≠ 0x200; omega
  have hidx : (F.TRV_ENn_IDX_IDX n).addr ≠ 0x200 := by show 0x234 + 8 * n ≠ 0x200; omega
  have hpre : (F.TRV_ENn_PRESET_PRESET n).addr ≠ 0x200 := by show 0x233 + 8 * n ≠ 0x200; omega
  have harm : x.flag (F.TRV_ENn_CFG_ARM n) = s.flag (F.TRV_ENn_CFG_ARM n) := State.flag_of_fld _ (hfld _ hcfg)
  have hedgeOf : x.edgeOf n a b = s.edgeOf n a b := State.edgeOf_congr (hfld _ hcfg) (hfld _ hcfg) ha hb a b
  have hxq : x.qualified n = true := by rw [State.qualified, hfld _ hcfg, ha, hb]; exact hq
  obtain ⟨hindex, hclear, htaken, hcount⟩ := indexTaken_encLevels x c hn a b hxq
  rw [harm] at htaken
  rw [harm, hedgeOf, hfld _ hcnt, hfld _ hpre] at hcount
  refine ⟨?_, ?_, fun h => ?_, ?_⟩
  · exact (State.advCcTo_fld _ lim _ hidx).trans (hindex.trans (hfld _ hcnt))
  · exact (State.flag_of_fld _ (State.advCcTo_fld _ lim (F.TRV_ENn_CFG_ARM n) hcfg)).trans hclear
  · exact (State.flag_of_fld _ (State.advCcTo_fld _ lim (F.TRV_ENn_CFG_IDXTAKEN n) hcfg)).trans (htaken h)
  · exact (State.advCcTo_fld _ lim _ hcnt).trans hcount

/-- Settles O25: the filter accepts one edge of a settled input (`filterFor_accepts`), and what it does to the count is
`encoderEdge_held` and `indexEdge_held`. -/
theorem encoderCountsAndIndex : Obligations.EncoderCountsAndIndex := by
  unfold Obligations.EncoderCountsAndIndex
  intro s n a b gap v hrun
  refine ⟨fun hcalm hdue => ?arm, fun hdue => ?edge, fun z hz hqual hdue hheld => ?index⟩
  case arm => exact ⟨_, exec_indexArm s n v hrun hcalm hdue, indexArm_facts s n v _ _ rfl⟩
  case edge =>
    have hset := State.settled_of_filtDue hdue
    obtain ⟨hmem, hflash, henc⟩ := (s.lines_onlyInput n a b).trans (State.filterFor_onlyInput _ n (gap + 1))
    refine ⟨_, exec_encoderEdge s n a b gap hrun hdue, henc, hmem, hflash, fun hshort => ?_, fun hheld => ?_⟩
    · exact encoderEdge_short s n a b gap hset hshort _ rfl
    · obtain ⟨ha, hb, hcount, htally, herr⟩ := encoderEdge_held s n.isLt a b (gap + 1) hset hheld
      refine ⟨ha, hb, ?_⟩
      unfold State.edgeOf at hcount htally herr
      split
      · next he =>
        rw [he] at hcount
        exact ⟨hcount.trans (add40_zero (s.fld_whole_lt (Fld.whole_count n))), herr he⟩
      · next d he =>
        rw [he] at hcount
        exact ⟨hcount, htally d he⟩
  case index =>
    have hset := State.settled_of_filtDue hdue
    have hq : s.qualified n = true := by
      subst hz
      simpa [State.qualified, or_assoc] using hqual
    obtain ⟨hmem, hflash, henc⟩ := ((s.lines_onlyInput n a b).trans (State.setEnc_onlyInput _ n _)).trans
      (State.filterFor_onlyInput _ n (gap + 1))
    obtain ⟨hindex, hclear, htaken, hcount⟩ := indexEdge_held s n.isLt a b (gap + 1) hset hq hheld
    exact ⟨_, exec_indexEdge s n a b gap hrun hdue, hindex, hclear, htaken, hcount, henc, hmem, hflash⟩

end Sys2Proof.Proofs
end

section
/-! PROOF. Line breaks and serial reads (O26): LINE_BREAK, LINE_BREAK_END, SSI_READ_START and SSI_READ_COMPLETE. -/

namespace Sys2Proof.Machine

open Sys2Proof

/-! ### Line breaks (R51) -/

/-- BREAK of input `n` is set or cleared, with the core clock from which it has been set. -/
def State.showBreak (s : State) (n : Nat) (b : Bool) (c : Option Nat) : State :=
  ((s.setFlag (F.TRV_ENn_CFG_BREAK n) b).setEnc n { s.encOf n with brkFrom := c }).completed

theorem State.showBreak_facts (s : State) (n : Nat) (b : Bool) (c : Option Nat) :
    ∀ t, t = s.showBreak n b c → t.flag (F.TRV_ENn_CFG_BREAK n) = b ∧ (t.encOf n).brkFrom = c ∧
      ∀ i, i ≠ (F.TRV_ENn_CFG_BREAK n).addr → t.reg i = s.reg i := by
  rintro t rfl
  have henc : (s.showBreak n b c).encOf n = { s.encOf n with brkFrom := c } := (State.encOf_setEnc _ n n _).trans (if_pos rfl)
  exact ⟨s.flag_setFlag_same (F.TRV_ENn_CFG_BREAK n) b rfl, by rw [henc], fun i hi => s.reg_setFld_ne (F.TRV_ENn_CFG_BREAK n) _ hi⟩

/-! ### The start of a serial read (R59) -/

theorem State.ssOf_setSs_same (s : State) (n : Nat) (e : SsSt) : (s.setSs n e).ssOf n = e := (s.ssOf_setSs n n e).trans (if_pos rfl)

theorem State.advCcTo_ssOf (s : State) (c n : Nat) : (s.advCcTo c).ssOf n = s.ssOf n := by
  obtain ⟨r, k, e⟩ := s.advCcTo_same c
  rw [e]
  rfl

theorem State.advTo_ssOf (s : State) (t n : Nat) : (s.advTo t).ssOf n = s.ssOf n := by
  obtain ⟨r, k, e⟩ := s.advTo_same t
  rw [e]
  rfl

theorem State.advTo_cc_le (s : State) (t : Nat) : s.clk.cc ≤ (s.advTo t).clk.cc := by
  unfold State.advTo
  split
  · exact Nat.le_add_right _ _
  · exact Nat.le_refl _

/-- Time passes until 25 µs after the last frame. -/
def State.afterFrame (s : State) (n : Nat) : State :=
  match (s.ssOf n).ended with
  | some c => s.advCcTo (c + usClocks 25)
  | none => s

theorem State.afterFrame_ssOf (s : State) (n m : Nat) : (s.afterFrame n).ssOf m = s.ssOf m := by
  unfold State.afterFrame
  split
  · exact s.advCcTo_ssOf _ m
  · rfl

theorem State.afterFrame_reg (s : State) (n : Nat) {i : Nat} (h : i ≠ 0x200) : (s.afterFrame n).reg i = s.reg i := by
  unfold State.afterFrame
  split
  · exact s.advCcTo_reg _ h
  · rfl

theorem State.afterFrame_cc (s : State) {n c : Nat} (h : (s.ssOf n).ended = some c) :
    c + usClocks 25 ≤ (s.afterFrame n).clk.cc := by
  rw [State.afterFrame, h]
  exact (s.advCcTo_cc _).symm ▸ Nat.le_max_right _ _

/-- A read of input `n` starts at system time `t`. -/
def State.startRead (s : State) (n t : Nat) : State :=
  (s.advTo t).setSs n { (s.advTo t).ssOf n with reading := some t, startCc := (s.advTo t).clk.cc, lastStart := some t }

/-- The first read starts at a tick. -/
theorem State.ssStart_first (s : State) {n : Nat} (h : (s.ssOf n).lastStart = none) : s.ssStart n % 32 = 0 := by
  have hdvd : 32 ∣ mod40 := by decide
  rw [State.ssStart, h]
  dsimp only
  rw [Nat.mod_mod_of_dvd _ hdvd]
  omega

/-- A later read starts a whole number of periods after the last. -/
theorem State.ssStart_later (s : State) {n l : Nat} (h : (s.ssOf n).lastStart = some l) :
    ∃ j : Nat, 1 ≤ j ∧ s.ssStart n = add40 l (32 * s.ssPer n * j : Nat) := by
  rw [State.ssStart, h]
  exact ⟨_, Nat.le_max_left 1 _, rfl⟩

/-- What the start of a read leaves, at the end `u` of the pause after the last frame. -/
theorem State.startRead_facts (s u : State) (n : Nat) (hu : u = s.afterFrame n) :
    ∀ t k, k = u.ssStart n → t = u.startRead n k → (t.ssOf n).reading = some k ∧ (t.ssOf n).startCc = t.clk.cc ∧
      (t.ssOf n).lastStart = some k ∧ (t.ssOf n).good = (s.ssOf n).good ∧
      (∀ l, (s.ssOf n).lastStart = some l → ∃ j : Nat, 1 ≤ j ∧ k = add40 l (32 * s.ssPer n * j : Nat)) ∧
      ((s.ssOf n).lastStart = none → k % 32 = 0) ∧ (∀ c, (s.ssOf n).ended = some c → c + usClocks 25 ≤ t.clk.cc) ∧
      ∀ i, i ≠ 0x200 → t.reg i = s.reg i := by
  rintro t k rfl rfl
  have huss : u.ssOf n = s.ssOf n := hu ▸ s.afterFrame_ssOf n n
  have hper : u.ssPer n = s.ssPer n := by
    have hreg : u.reg (0x250 + 8 * n) = s.reg (0x250 + 8 * n) := hu ▸ s.afterFrame_reg n (by omega)
    rw [State.ssPer, State.ssPer, State.fld_of_reg (F.TRV_SSn_CFG_PER n) hreg]
  have hss : (u.startRead n (u.ssStart n)).ssOf n = { s.ssOf n with
      reading := some (u.ssStart n), startCc := (u.advTo (u.ssStart n)).clk.cc, lastStart := some (u.ssStart n) } := by
    rw [State.startRead, State.ssOf_setSs_same, State.advTo_ssOf, huss]
  refine ⟨by rw [hss], by rw [hss]; rfl, by rw [hss], by rw [hss], fun l hl => ?_, fun h0 => ?_, fun c hc => ?_, fun i hi => ?_⟩
  · rw [← hper]
    exact u.ssStart_later (huss ▸ hl)
  · exact u.ssStart_first (huss ▸ h0)
  · exact (hu ▸ s.afterFrame_cc hc).trans (u.advTo_cc_le _)
  · exact (u.advTo_reg _ hi).trans (hu ▸ s.afterFrame_reg n hi)

/-! ### The end of a serial read (R61) -/

/-- The end of a frame in time. -/
def State.frameEnd (s : State) (n : Nat) : State :=
  s.advCcTo ((s.ssOf n).startCc + usClocks (((s.ssBits n + (if s.fld (F.TRV_SSn_CFG_PAR n) = 1 || s.fld (F.TRV_SSn_CFG_PAR n) = 2 then 1 else 0)) *
    (s.fld (F.TRV_SSn_CFG_CLK n) + 1) + 1) / 2))

/-- What the input carries at the end of a frame. -/
def State.frameEnded (s : State) (n : Nat) : SsSt := { s.ssOf n with ended := some (s.frameEnd n).clk.cc }

/-- The value that the data bits `d` of a frame carry. -/
def State.frameRaw (s : State) (n d : Nat) : Nat := if s.flag (F.TRV_SSn_CFG_CODE n) then grayToBin (s.ssBits n) d else d

/-- Whether a value jumps from the last good one. -/
def State.frameJumps (s : State) (n raw : Nat) : Bool :=
  match (s.ssOf n).lastRaw with
  | some x => s.fld (F.TRV_SSn_JUMPMAX_JUMPMAX n) ≠ 0 &&
      (sx (s.ssBits n) (wrapW (s.ssBits n) ((raw : Int) - x))).natAbs > s.fld (F.TRV_SSn_JUMPMAX_JUMPMAX n)
  | none => false

/-- Whether a frame is in error. -/
def State.frameBad (s : State) (n : Nat) (low par : Bool) (d : Nat) : Bool :=
  low || parityBad (s.fld (F.TRV_SSn_CFG_PAR n)) (s.ssBits n) d par || s.frameJumps n (s.frameRaw n d)

/-- A good value with the sign of INV. -/
def State.signed (s : State) (n : Nat) (x : Int) : Int := if s.flag (F.TRV_SSn_CFG_INV n) then -x else x

/-- The good reads kept for the speed estimate, with the new value. -/
def State.readsWith (s : State) (n raw : Nat) : List (Nat × Int) :=
  let e := s.ssOf n
  let tally : Int := match e.lastRaw, e.reads with
    | some x, (_, t) :: _ => t + s.signed n (sx (s.ssBits n) (wrapW (s.ssBits n) ((raw : Int) - x)))
    | _, _ => s.signed n raw
  ((e.startCc, tally) :: e.reads).take 256

/-- VALID takes `b` where a run of three reads is complete. -/
def State.judgeRun (s : State) (n run : Nat) (b : Bool) : State :=
  if run + 1 ≥ 3 then s.setFlag (F.TRV_SSn_CFG_VALID n) b else s

theorem State.judgeRun_ssOf (s : State) (n run m : Nat) (b : Bool) : (s.judgeRun n run b).ssOf m = s.ssOf m := by
  unfold State.judgeRun
  split <;> rfl

theorem State.judgeRun_val (s : State) (n run : Nat) (b : Bool) :
    (s.judgeRun n run b).fld (F.TRV_SSn_VAL_VAL n) = s.fld (F.TRV_SSn_VAL_VAL n) := by
  unfold State.judgeRun
  split
  · exact s.fld_setFld_ne (F.TRV_SSn_CFG_VALID n) _ _ (by show 0x251 + 8 * n ≠ 0x250 + 8 * n; omega)
  · rfl

theorem State.judgeRun_errors (s : State) (n run : Nat) (b : Bool) :
    (s.judgeRun n run b).fld (F.TRV_SSn_CFG_ERRCNT n) = s.fld (F.TRV_SSn_CFG_ERRCNT n) := by
  unfold State.judgeRun
  split
  · exact s.fld_setFld_disj (F.TRV_SSn_CFG_VALID n) (F.TRV_SSn_CFG_ERRCNT n) _ rfl (.inr (by decide : 20 < 21))
  · rfl

theorem State.judgeRun_valid (s : State) (n run : Nat) (b : Bool) : (s.judgeRun n run b).flag (F.TRV_SSn_CFG_VALID n) =
    if run + 1 ≥ 3 then b else s.flag (F.TRV_SSn_CFG_VALID n) := by
  unfold State.judgeRun
  split
  · exact s.flag_setFlag_same (F.TRV_SSn_CFG_VALID n) b rfl
  · rfl

theorem State.completed_ssOf (s : State) (n : Nat) : s.completed.ssOf n = s.ssOf n := rfl

/-- A read in error at the end `u` of the frame: it counts, and the third in a row clears VALID. -/
def State.badRead (u : State) (n : Nat) (e : SsSt) : State :=
  (((u.inc (F.TRV_SSn_CFG_ERRCNT n)).setSs n { e with reading := none, bad := e.bad + 1, good := 0 }).judgeRun n e.bad
    false).completed

/-- A good read at the end `u` of the frame: VAL takes it, and the third in a row sets VALID. -/
def State.goodRead (u : State) (n : Nat) (e : SsSt) (raw : Nat) (x : Int) (reads : List (Nat × Int)) : State :=
  (((u.setFldI (F.TRV_SSn_VAL_VAL n) x).setSs n { e with
    reading := none, good := e.good + 1, bad := 0, lastRaw := some raw, val := x, reads := reads }).judgeRun n e.good true).completed

theorem State.badRead_facts (u : State) (n : Nat) (e : SsSt) :
    ∀ t, t = u.badRead n e → (t.ssOf n).reading = none ∧ t.fld (F.TRV_SSn_VAL_VAL n) = u.fld (F.TRV_SSn_VAL_VAL n) ∧
      t.fld (F.TRV_SSn_CFG_ERRCNT n) = satAdd 16 (u.fld (F.TRV_SSn_CFG_ERRCNT n)) 1 ∧
      t.flag (F.TRV_SSn_CFG_VALID n) = (u.flag (F.TRV_SSn_CFG_VALID n) && decide (e.bad + 1 < 3)) := by
  rintro t rfl
  have hcount : (u.inc (F.TRV_SSn_CFG_ERRCNT n)).fld (F.TRV_SSn_CFG_ERRCNT n) = satAdd 16 (u.fld (F.TRV_SSn_CFG_ERRCNT n)) 1 :=
    u.fld_inc_same (F.TRV_SSn_CFG_ERRCNT n) rfl
  have hval : (u.inc (F.TRV_SSn_CFG_ERRCNT n)).fld (F.TRV_SSn_VAL_VAL n) = u.fld (F.TRV_SSn_VAL_VAL n) :=
    u.fld_setFld_ne (F.TRV_SSn_CFG_ERRCNT n) _ _ (by show 0x251 + 8 * n ≠ 0x250 + 8 * n; omega)
  have hvalid : (u.inc (F.TRV_SSn_CFG_ERRCNT n)).flag (F.TRV_SSn_CFG_VALID n) = u.flag (F.TRV_SSn_CFG_VALID n) :=
    u.flag_setFld_disj (F.TRV_SSn_CFG_ERRCNT n) _ _ rfl (.inl (by decide : 20 < 21))
  unfold State.badRead
  refine ⟨?_, ?_, ?_, ?_⟩
  · rw [State.completed_ssOf, State.judgeRun_ssOf, State.ssOf_setSs_same]
  · rw [State.completed_fld, State.judgeRun_val, State.setSs_fld, hval]
  · rw [State.completed_fld, State.judgeRun_errors, State.setSs_fld, hcount]
  · rw [State.completed_flag, State.judgeRun_valid, State.setSs_flag, hvalid]
    by_cases h : e.bad + 1 < 3
    · rw [if_neg (Nat.not_le.2 h), decide_eq_true h, Bool.and_true]
    · rw [if_pos (Nat.not_lt.1 h), decide_eq_false h, Bool.and_false]

theorem State.goodRead_facts (u : State) (n : Nat) (e : SsSt) (raw : Nat) (x : Int) (reads : List (Nat × Int)) :
    ∀ t, t = u.goodRead n e raw x reads → (t.ssOf n).reading = none ∧ t.fld (F.TRV_SSn_VAL_VAL n) = wrap40 x ∧
      t.fld (F.TRV_SSn_CFG_ERRCNT n) = u.fld (F.TRV_SSn_CFG_ERRCNT n) ∧
      t.flag (F.TRV_SSn_CFG_VALID n) = (u.flag (F.TRV_SSn_CFG_VALID n) || decide (3 ≤ e.good + 1)) := by
  rintro t rfl
  have hcfg : 0x250 + 8 * n ≠ (F.TRV_SSn_VAL_VAL n).addr := by show _ ≠ 0x251 + 8 * n; omega
  have hval : (u.setFldI (F.TRV_SSn_VAL_VAL n) x).fld (F.TRV_SSn_VAL_VAL n) = wrap40 x :=
    u.fld_setFld_whole (f := F.TRV_SSn_VAL_VAL n) _ ⟨rfl, rfl⟩ (wrapW_lt 40 x)
  have hcount : (u.setFldI (F.TRV_SSn_VAL_VAL n) x).fld (F.TRV_SSn_CFG_ERRCNT n) = u.fld (F.TRV_SSn_CFG_ERRCNT n) :=
    u.fld_setFld_ne (F.TRV_SSn_VAL_VAL n) _ _ hcfg
  have hvalid : (u.setFldI (F.TRV_SSn_VAL_VAL n) x).flag (F.TRV_SSn_CFG_VALID n) = u.flag (F.TRV_SSn_CFG_VALID n) :=
    u.flag_setFld_ne (F.TRV_SSn_VAL_VAL n) _ _ hcfg
  unfold State.goodRead
  refine ⟨?_, ?_, ?_, ?_⟩
  · rw [State.completed_ssOf, State.judgeRun_ssOf, State.ssOf_setSs_same]
  · rw [State.completed_fld, State.judgeRun_val, State.setSs_fld, hval]
  · rw [State.completed_fld, State.judgeRun_errors, State.setSs_fld, hcount]
  · rw [State.completed_flag, State.judgeRun_valid, State.setSs_flag, hvalid]
    by_cases h : 3 ≤ e.good + 1
    · rw [if_pos h, decide_eq_true h, Bool.or_true]
    · rw [if_neg h, decide_eq_false h, Bool.or_false]

end Sys2Proof.Machine

namespace Sys2Proof.Proofs

open Sys2Proof Sys2Proof.Machine

theorem exec_lineBreak_sets (s : State) (n : Fin 4) (hrun : s.boot.halted = false) (helec : s.flag (F.TRV_ENn_CFG_ELEC n) = false)
    (hbrk : s.flag (F.TRV_ENn_CFG_BREAK n) = false) : exec (.lineBreak n) s = .next (s.showBreak n true (some s.clk.cc)) := by
  show execLineBreak n s = _
  rw [execLineBreak, s.clocked_running _ hrun, helec, hbrk]
  rfl

theorem exec_lineBreak_idle (s : State) (n : Fin 4) (hrun : s.boot.halted = false)
    (h : s.flag (F.TRV_ENn_CFG_ELEC n) = true ∨ s.flag (F.TRV_ENn_CFG_BREAK n) = true) : exec (.lineBreak n) s = .next s := by
  show execLineBreak n s = _
  rw [execLineBreak, s.clocked_running _ hrun]
  exact if_pos (Bool.or_eq_true_iff.2 h)

theorem exec_lineBreakEnd (s : State) (n : Fin 4) (hrun : s.boot.halted = false) :
    exec (.lineBreakEnd n) s = .next (s.showBreak n false none) := by
  show execLineBreakEnd n s = _
  rw [execLineBreakEnd, s.clocked_running _ hrun]
  rfl

theorem exec_ssiReadStart (s : State) (n : Fin 2) (hrun : s.boot.halted = false) (hgate : s.gated = false)
    (hidle : (s.ssOf n).reading = none) :
    exec (.ssiReadStart n) s = .next ((s.afterFrame n).startRead n ((s.afterFrame n).ssStart n)) := by
  show execSsiReadStart n s = _
  rw [execSsiReadStart, s.clocked_running _ hrun]
  exact if_neg (by rw [hgate, hidle]; decide)

theorem exec_ssiReadComplete (s : State) (n : Fin 2) (low par : Bool) {d r : Nat} (hrun : s.boot.halted = false)
    (hgate : s.gated = false) (hread : (s.ssOf n).reading = some r) (hd : d < 2 ^ s.ssBits n) :
    exec (.ssiReadComplete n low d par) s = .next (if s.frameBad n low par d then (s.frameEnd n).badRead n (s.frameEnded n)
      else (s.frameEnd n).goodRead n (s.frameEnded n) (s.frameRaw n d) (s.signed n (s.frameRaw n d)) (s.readsWith n (s.frameRaw n d))) := by
  have hend : ∀ f : Fld, f.addr ≠ 0x200 → (s.frameEnd n).fld f = s.fld f := fun f hf => s.advCcTo_fld _ f hf
  have hcfg : 0x250 + 8 * n.val ≠ 0x200 := by omega
  have hcode := State.flag_of_fld (F.TRV_SSn_CFG_CODE n) (hend _ hcfg)
  have hinv := State.flag_of_fld (F.TRV_SSn_CFG_INV n) (hend _ hcfg)
  have hjump : (s.frameEnd n).fld (F.TRV_SSn_JUMPMAX_JUMPMAX n) = s.fld (F.TRV_SSn_JUMPMAX_JUMPMAX n) :=
    hend _ (by show 0x254 + 8 * n.val ≠ 0x200; omega)
  unfold State.frameEnd at hcode hinv hjump
  show execSsiReadComplete n low d par s = _
  rw [execSsiReadComplete, s.clocked_running _ hrun]
  dsimp only
  rw [hread]
  dsimp only
  rw [hgate, if_neg Bool.false_ne_true, hcode, hinv, hjump, Nat.mod_eq_of_lt hd]
  by_cases hbad : s.frameBad n low par d = true
  · rw [if_pos hbad]
    exact (if_pos hbad).trans rfl
  · rw [if_neg hbad]
    exact (if_neg hbad).trans rfl

/-- What the end of a read leaves. -/
theorem readEnd_facts (s : State) (n : Fin 2) (low par : Bool) (d : Nat) :
    ∀ t, t = (if s.frameBad n low par d then (s.frameEnd n).badRead n (s.frameEnded n)
      else (s.frameEnd n).goodRead n (s.frameEnded n) (s.frameRaw n d) (s.signed n (s.frameRaw n d)) (s.readsWith n (s.frameRaw n d))) →
      (t.ssOf n).reading = none ∧
      (s.frameBad n low par d = true → t.fld (F.TRV_SSn_VAL_VAL n) = s.fld (F.TRV_SSn_VAL_VAL n) ∧
        t.fld (F.TRV_SSn_CFG_ERRCNT n) = satAdd 16 (s.fld (F.TRV_SSn_CFG_ERRCNT n)) 1 ∧
        t.flag (F.TRV_SSn_CFG_VALID n) = (s.flag (F.TRV_SSn_CFG_VALID n) && decide ((s.ssOf n).bad + 1 < 3))) ∧
      (s.frameBad n low par d = false → t.fld (F.TRV_SSn_VAL_VAL n) =
          wrap40 (s.signed n (s.frameRaw n d)) ∧
        t.fld (F.TRV_SSn_CFG_ERRCNT n) = s.fld (F.TRV_SSn_CFG_ERRCNT n) ∧
        t.flag (F.TRV_SSn_CFG_VALID n) = (s.flag (F.TRV_SSn_CFG_VALID n) || decide (3 ≤ (s.ssOf n).good + 1))) := by
  intro t ht
  have hend : ∀ f : Fld, f.addr ≠ 0x200 → (s.frameEnd n).fld f = s.fld f := fun f hf => s.advCcTo_fld _ f hf
  have hcfg : 0x250 + 8 * n.val ≠ 0x200 := by omega
  have hval : (F.TRV_SSn_VAL_VAL n).addr ≠ 0x200 := by show 0x251 + 8 * n.val ≠ 0x200; omega
  have hvalid := State.flag_of_fld (F.TRV_SSn_CFG_VALID n) (hend _ hcfg)
  cases hb : s.frameBad n low par d with
  | true =>
    rw [hb, if_pos rfl] at ht
    obtain ⟨hread, hv, hcount, hflag⟩ := State.badRead_facts _ _ _ t ht
    rw [hend _ hval] at hv
    rw [hend _ hcfg] at hcount
    rw [hvalid] at hflag
    exact ⟨hread, fun _ => ⟨hv, hcount, hflag⟩, fun h => nomatch h⟩
  | false =>
    rw [hb, if_neg Bool.false_ne_true] at ht
    obtain ⟨hread, hv, hcount, hflag⟩ := State.goodRead_facts _ _ _ _ _ _ t ht
    rw [hend _ hcfg] at hcount
    rw [hvalid] at hflag
    exact ⟨hread, fun h => absurd h Bool.false_ne_true, fun _ => ⟨hv, hcount, hflag⟩⟩

/-- Settles O26: `showBreak`, `startRead`, and a frame that is good or not. -/
theorem lineBreakAndSerialReads : Obligations.LineBreakAndSerialReads := by
  unfold Obligations.LineBreakAndSerialReads
  intro s hrun
  refine ⟨fun n helec hbrk => ⟨_, exec_lineBreak_sets s n hrun helec hbrk, s.showBreak_facts n _ _ _ rfl⟩,
    fun n h => exec_lineBreak_idle s n hrun h, fun n => ⟨_, exec_lineBreakEnd s n hrun, s.showBreak_facts n _ _ _ rfl⟩,
    fun n hgate hidle => ⟨_, _, exec_ssiReadStart s n hrun hgate hidle, s.startRead_facts _ n rfl _ _ rfl rfl⟩,
    fun n low par d r hgate hread hd => ?_⟩
  obtain ⟨hdone, hwhenBad, hwhenGood⟩ := readEnd_facts s n low par d _ rfl
  refine ⟨_, exec_ssiReadComplete s n low par hrun hgate hread hd, hdone, ?_⟩
  rintro raw bad rfl hb
  have hb' : bad = s.frameBad n low par d := hb
  rw [hb']
  exact ⟨hwhenBad, hwhenGood⟩

end Sys2Proof.Proofs
end

section
/-! PROOF. The magnetic-switch sample (O29): its instant, the debounce of the inputs, and the registers that the clears and the
dual-channel inputs leave (R77 to R80, R402). -/

namespace Sys2Proof.Machine

open Sys2Proof

/-! ### 1 ms instants -/

/-- The next 1 ms instant: a multiple of 1,024 tb, not before now. -/
theorem State.nextInstant_ms (s : State) (k : Nat) : s.nextInstant k 1024 0 % 1024 = 0 ∧ s.nextInstant k 1024 0 < 2 ^ 40 ∧
    0 ≤ dist (s.nextInstant k 1024 0) s.now := by
  have hn := s.now_lt
  have hfirst : (s.now + (0 + 1024 - s.now % 1024) % 1024) % mod40 < 2 ^ 40 := Nat.mod_lt _ (by decide)
  have hsecond : ((s.now + (0 + 1024 - s.now % 1024) % 1024) % mod40 + 1024) % mod40 < 2 ^ 40 := Nat.mod_lt _ (by decide)
  have hdist1 := dist_cases _ s.now hfirst hn
  have hdist2 := dist_cases _ s.now hsecond hn
  unfold State.nextInstant
  dsimp only
  split
  · generalize dist (((s.now + (0 + 1024 - s.now % 1024) % 1024) % mod40 + 1024) % mod40) s.now = d at *
    unfold mod40 at *
    omega
  · generalize dist ((s.now + (0 + 1024 - s.now % 1024) % 1024) % mod40) s.now = d at *
    unfold mod40 at *
    omega

theorem State.frac_lt_of_canonical (s : State) (h : s.canonical = true) : s.clk.frac < tbUnit := by
  obtain ⟨-, -, -, -, hfrac⟩ := s.canonical_iff.1 h
  exact hfrac

/-- Time stops at an instant that is not before now. -/
theorem State.advTo_now_of_le (s : State) {c : Nat} (hfrac : s.clk.frac < tbUnit) (hc : c < 2 ^ 40) (h : 0 ≤ dist c s.now) :
    (s.advTo c).now = c := by
  by_cases hpos : 0 < dist c s.now
  · rw [s.advTo_now c hfrac hpos]
    exact Nat.mod_eq_of_lt hc
  · have hzero : dist c s.now = 0 := by omega
    rw [State.advTo, if_neg hpos]
    exact (dist_eq_zero hc s.now_lt hzero).symm

theorem State.takeInstant_ms_now (s : State) (k : Nat) (hfrac : s.clk.frac < tbUnit) : (s.takeInstant k 1024 0).now % 1024 = 0 := by
  obtain ⟨hmul, hlt, hdist⟩ := s.nextInstant_ms k
  have hnow : (s.takeInstant k 1024 0).now = s.nextInstant k 1024 0 := s.advTo_now_of_le hfrac hlt hdist
  rw [hnow, hmul]

/-! ### Debounce (R77) -/

/-- The debounced state after a sample of level `x`, with the run `r` of differing samples before it. -/
def debounced (x d : Bool) (r : Nat) : Bool := if x == d then d else if r ≥ 2 then !d else d

/-- The run after it. -/
def debounceRun (x d : Bool) (r : Nat) : Nat := if x == d then 0 else if r ≥ 2 then 0 else r + 1

/-- The run of differing samples of input `k`. -/
def State.msRun (s : State) (k : Nat) : Nat := spGet (fun _ => 0) s.ms.runs k

/-- The debounced state of input `k`. -/
def State.msDeb (s : State) (k : Nat) : Bool := bitOf (s.fld F.TRV_MS_STAT_DEB) k

/-- The run of input `k` becomes `r`. -/
def State.setRun (s : State) (k r : Nat) : State := { s with ms := { s.ms with runs := spSet (fun _ => 0) s.ms.runs k r } }

theorem State.setRun_run (s : State) (k r j : Nat) : (s.setRun k r).msRun j = if j = k then r else s.msRun j :=
  spGet_spSet _ _ _ _ _

/-- The debounced state of input `k` becomes `x`. -/
def State.setDeb (s : State) (k : Nat) (x : Bool) : State :=
  s.setFld F.TRV_MS_STAT_DEB (setBits (s.fld F.TRV_MS_STAT_DEB) k k (b2n x))

theorem State.setDeb_deb (s : State) {k j : Nat} (x : Bool) (hj : j < 8) :
    (s.setDeb k x).msDeb j = if j = k then x else s.msDeb j := by
  have hfld : (s.setDeb k x).fld F.TRV_MS_STAT_DEB = setBits (s.fld F.TRV_MS_STAT_DEB) k k (b2n x) % 2 ^ 8 :=
    s.fld_setFld_same F.TRV_MS_STAT_DEB _ (by decide)
  rw [State.msDeb, hfld, bitOf_eq_testBit, Nat.testBit_mod_two_pow, testBit_setBits _ _ _ _ _ (Nat.le_refl k), decide_eq_true hj,
    Bool.true_and]
  by_cases h : j = k
  · subst h
    rw [if_pos ⟨Nat.le_refl _, Nat.le_refl _⟩, if_pos rfl, Nat.sub_self]
    cases x <;> rfl
  · rw [if_neg (by omega), if_neg h, State.msDeb, bitOf_eq_testBit]

/-- A sample of one input, by what it shows. -/
theorem State.msDebounce_eq (s : State) (lv k : Nat) : s.msDebounce lv k =
    if bitOf lv k == s.msDeb k then s.setRun k 0
    else if s.msRun k + 1 ≥ 3 then (s.setDeb k (bitOf lv k)).setRun k 0 else s.setRun k (s.msRun k + 1) := rfl

/-- A sample of one input changes its run, and the debounced states. -/
theorem State.msDebounce_same (s : State) (lv k : Nat) : (∃ g r, s.msDebounce lv k = { s with
    regs := g, ms := { s.ms with runs := r } }) ∧ (∀ i, i ≠ F.TRV_MS_STAT_DEB.addr → (s.msDebounce lv k).reg i = s.reg i) ∧
      (s.msDebounce lv k).fld F.TRV_MS_STAT_RAW = s.fld F.TRV_MS_STAT_RAW := by
  rw [s.msDebounce_eq]
  split
  · exact ⟨⟨_, _, rfl⟩, fun _ _ => rfl, rfl⟩
  · split
    · exact ⟨⟨_, _, rfl⟩, fun i hi => s.reg_setFld_ne F.TRV_MS_STAT_DEB _ hi,
        s.fld_setFld_disj F.TRV_MS_STAT_DEB F.TRV_MS_STAT_RAW _ (by decide) (by decide)⟩
    · exact ⟨⟨_, _, rfl⟩, fun _ _ => rfl, rfl⟩

/-- What it leaves of each input. -/
theorem State.msDebounce_input (s : State) (lv k : Nat) {j : Nat} (hj : j < 8) :
    (s.msDebounce lv k).msDeb j = (if j = k then debounced (bitOf lv k) (s.msDeb k) (s.msRun k) else s.msDeb j) ∧
      (s.msDebounce lv k).msRun j = (if j = k then debounceRun (bitOf lv k) (s.msDeb k) (s.msRun k) else s.msRun j) := by
  have hrun : ∀ (u : State) (r : Nat), (u.setRun k r).msDeb j = u.msDeb j := fun _ _ => rfl
  rw [s.msDebounce_eq]
  unfold debounced debounceRun
  by_cases hsame : (bitOf lv k == s.msDeb k) = true
  · rw [if_pos hsame, if_pos hsame, if_pos hsame, hrun, State.setRun_run]
    refine ⟨?_, rfl⟩
    split
    · next h => rw [h]
    · rfl
  · have hx : bitOf lv k = !s.msDeb k := by
      cases h : bitOf lv k <;> cases h' : s.msDeb k <;> simp_all
    rw [if_neg hsame, if_neg hsame, if_neg hsame]
    by_cases hthird : s.msRun k ≥ 2
    · rw [if_pos (by omega), if_pos hthird, if_pos hthird, hrun, State.setRun_run, s.setDeb_deb _ hj, hx]
      exact ⟨rfl, rfl⟩
    · rw [if_neg (by omega), if_neg hthird, if_neg hthird, hrun, State.setRun_run]
      refine ⟨?_, rfl⟩
      split
      · next h => rw [h]
      · rfl

/-- Samples of the inputs `l`. -/
def State.sampleInputs (s : State) (lv : Nat) (l : List Nat) : State := l.foldl (fun u k => u.msDebounce lv k) s

theorem State.sampleInputs_same (s : State) (lv : Nat) (l : List Nat) : (∃ g r, s.sampleInputs lv l = { s with
    regs := g, ms := { s.ms with runs := r } }) ∧ (∀ i, i ≠ F.TRV_MS_STAT_DEB.addr → (s.sampleInputs lv l).reg i = s.reg i) ∧
      (s.sampleInputs lv l).fld F.TRV_MS_STAT_RAW = s.fld F.TRV_MS_STAT_RAW := by
  induction l generalizing s with
  | nil => exact ⟨⟨_, _, rfl⟩, fun _ _ => rfl, rfl⟩
  | cons k l ih =>
    obtain ⟨⟨g, r, e⟩, hreg, hraw⟩ := s.msDebounce_same lv k
    obtain ⟨⟨g', r', e'⟩, hreg', hraw'⟩ := ih (s.msDebounce lv k)
    refine ⟨⟨g', r', ?_⟩, fun i hi => (hreg' i hi).trans (hreg i hi), hraw'.trans hraw⟩
    rw [e] at e'
    exact (congrArg (fun u => State.sampleInputs u lv l) e).trans e'

/-- Each input is sampled by itself. -/
theorem State.sampleInputs_input (s : State) (lv : Nat) {l : List Nat} (hl : l.Nodup) {j : Nat} (hj : j < 8) :
    (s.sampleInputs lv l).msDeb j = (if j ∈ l then debounced (bitOf lv j) (s.msDeb j) (s.msRun j) else s.msDeb j) ∧
      (s.sampleInputs lv l).msRun j = (if j ∈ l then debounceRun (bitOf lv j) (s.msDeb j) (s.msRun j) else s.msRun j) := by
  induction l generalizing s with
  | nil => exact ⟨rfl, rfl⟩
  | cons k l ih =>
    obtain ⟨hk, hl'⟩ := List.nodup_cons.1 hl
    obtain ⟨hdeb, hrun⟩ := s.msDebounce_input lv k hj
    obtain ⟨hdeb', hrun'⟩ := ih (s.msDebounce lv k) hl'
    rw [hdeb, hrun] at hdeb' hrun'
    by_cases h : j = k
    · subst h
      rw [if_neg hk, if_pos rfl] at hdeb' hrun'
      rw [if_pos (List.mem_cons_self ..), if_pos (List.mem_cons_self ..)]
      exact ⟨hdeb', hrun'⟩
    · rw [if_neg h, if_neg h] at hdeb' hrun'
      simp only [List.mem_cons, h, false_or]
      exact ⟨hdeb', hrun'⟩

/-- The raw levels shown, and every input sampled. -/
def State.sampleSwitches (s : State) (raw : Nat) : State :=
  (s.setFld F.TRV_MS_STAT_RAW raw).sampleInputs (raw ^^^ s.fld F.TRV_MS_CFG_INV) (List.range 8)

/-- What the sample shows (R77). -/
theorem State.sampleSwitches_facts (s : State) (raw : BitVec 8) :
    ∀ v, v = s.sampleSwitches raw.toNat → v.fld F.TRV_MS_STAT_RAW = raw.toNat ∧ v.mem = s.mem ∧ v.queues = s.queues ∧
      v.trv = s.trv ∧ (∀ i, i ≠ F.TRV_MS_STAT_RAW.addr → v.reg i = s.reg i) ∧
      ∀ i, i < 8 → v.msDeb i = debounced (bitOf (raw.toNat ^^^ s.fld F.TRV_MS_CFG_INV) i) (s.msDeb i) (s.msRun i) ∧
        v.msRun i = debounceRun (bitOf (raw.toNat ^^^ s.fld F.TRV_MS_CFG_INV) i) (s.msDeb i) (s.msRun i) := by
  rintro v rfl
  obtain ⟨⟨g, r, e⟩, hreg, hraw⟩ := (s.setFld F.TRV_MS_STAT_RAW raw.toNat).sampleInputs_same
    (raw.toNat ^^^ s.fld F.TRV_MS_CFG_INV) (List.range 8)
  have hshown : (s.setFld F.TRV_MS_STAT_RAW raw.toNat).fld F.TRV_MS_STAT_RAW = raw.toNat :=
    (s.fld_setFld_same F.TRV_MS_STAT_RAW _ (by decide)).trans (Nat.mod_eq_of_lt raw.isLt)
  have hdeb : ∀ i, (s.setFld F.TRV_MS_STAT_RAW raw.toNat).msDeb i = s.msDeb i := fun i =>
    congrArg (fun x => bitOf x i) (s.fld_setFld_disj F.TRV_MS_STAT_RAW F.TRV_MS_STAT_DEB _ (by decide) (by decide))
  unfold State.sampleSwitches
  refine ⟨hraw.trans hshown, by rw [e]; rfl, by rw [e]; rfl, by rw [e]; rfl,
    fun i hi => (hreg i hi).trans (s.reg_setFld_ne F.TRV_MS_STAT_RAW _ hi), fun i hi => ?_⟩
  obtain ⟨hd, hr⟩ := (s.setFld F.TRV_MS_STAT_RAW raw.toNat).sampleInputs_input (raw.toNat ^^^ s.fld F.TRV_MS_CFG_INV)
    List.nodup_range hi
  rw [if_pos (List.mem_range.2 hi), hdeb] at hd hr
  exact ⟨hd, hr⟩

/-! ### Registers of the mode block -/

/-- Registers of the mode block other than MOD_STAT: clears and dual-channel inputs leave them. -/
structure ModeReg (i : Nat) : Prop where
  lt : i < 0x120
  stat : i ≠ 0x100

theorem ModeReg.not_mem_reportRegs {i : Nat} (h : ModeReg i) (src : Nat) : i ∉ reportRegs src := by
  have hlt := h.lt
  simp [reportRegs, F.FSV_SRCs_STAT_w, F.EVS_Qn_ERR_w]
  omega

/-- The latch of a fault instance is undone, with its CLEARED record. -/
def State.unlatch (s : State) (src inst : Nat) : State :=
  ({ s with flt := { s.flt with
      latched := spSet (fun _ => false) s.flt.latched (instKey src inst) false
      hist := spSet (fun _ => []) s.flt.hist (instKey src inst) [] } } : State).faultRec src inst evCleared (faultAddr src inst)

/-- A dual-channel input's LAST is cleared with its latch. -/
def State.dropLast (s : State) (src inst : Nat) : State :=
  if src = srcDual then s.setFlag (F.TRV_DCm_LAST inst) false else s

/-- LIMPPEND is cleared once no latched fault asks for LIMP. -/
def State.dropLimp (s : State) : State := if s.limpLatched then s else s.setFlag F.MOD_STAT_LIMPPEND false

theorem State.clearOne_eq (s : State) (src inst : Nat) : s.clearOne src inst =
    if !s.isLatched src inst then s
    else if s.condition src inst = some true then s.raise F.FSV_STAT_CLRERR
    else ((s.unlatch src inst).dropLast src inst).dropLimp := rfl

theorem State.unlatch_reg (s : State) (src inst : Nat) {i : Nat} (h : ModeReg i) : (s.unlatch src inst).reg i = s.reg i :=
  (State.faultRec_reported _ src inst evCleared _).reg (h.not_mem_reportRegs src)

theorem State.dropLast_reg (s : State) (src inst : Nat) {i : Nat} (h : ModeReg i) : (s.dropLast src inst).reg i = s.reg i := by
  have hlt := h.lt
  unfold State.dropLast
  split
  · exact s.reg_setFld_ne (F.TRV_DCm_LAST inst) _ (show i ≠ 0x260 + inst by omega)
  · rfl

theorem State.dropLimp_reg (s : State) {i : Nat} (h : ModeReg i) : s.dropLimp.reg i = s.reg i := by
  unfold State.dropLimp
  split
  · rfl
  · exact s.reg_setFld_ne F.MOD_STAT_LIMPPEND _ h.stat

theorem State.clearOne_reg (s : State) (src inst : Nat) {i : Nat} (h : ModeReg i) : (s.clearOne src inst).reg i = s.reg i := by
  have hlt := h.lt
  rw [s.clearOne_eq]
  split
  · rfl
  · split
    · exact s.raise_reg_ne F.FSV_STAT_CLRERR (show i ≠ 0x120 by omega)
    · rw [State.dropLimp_reg _ h, State.dropLast_reg _ src inst h, s.unlatch_reg src inst h]

theorem State.evalClear_reg (s : State) (w : Nat) {i : Nat} (h : ModeReg i) : (s.evalClear w).reg i = s.reg i := by
  unfold State.evalClear
  rw [foldl_same (fun x : State => x.reg i) (fun (x : State) (p : Nat × Nat) => x.clearOne p.1 p.2)
    (fun x p => x.clearOne_reg p.1 p.2 h)]

theorem State.evalClears_reg (s : State) {i : Nat} (h : ModeReg i) : s.evalClears.reg i = s.reg i := by
  unfold State.evalClears
  dsimp only
  rw [foldl_same (fun x : State => x.reg i) (fun x w => x.evalClear w) (fun x w => x.evalClear_reg w h)]
  rfl

/-! ### Dual-channel inputs (R78 to R80) -/

/-- The wish for a fresh start of comparison `m` is taken. -/
def State.dcTakeRestart (s : State) (m : Nat) : State :=
  { s with ms := { s.ms with restart := spSet (fun _ => false) s.ms.restart m false } }

/-- No disagreement is being timed. -/
def State.dcFresh (s : State) (m : Nat) : State := (s.setFld (F.TRV_DCm_D m) 0).setHit m false

/-- One more sample of a disagreement. -/
def State.dcTimed (s : State) (m : Nat) : State := s.setFld (F.TRV_DCm_D m) (satAdd 14 (s.fld (F.TRV_DCm_D m)) 1)

/-- A disagreement that has reached T. -/
def State.dcLatch (s : State) (m : Nat) : State := ((s.setFlag (F.TRV_DCm_LAST m) true).setHit m true).report srcDual m

/-- A sample of channels that disagree. -/
def State.dcDiffer (s : State) (m : Nat) : State :=
  if satAdd 14 (s.fld (F.TRV_DCm_D m)) 1 ≥ (s.dcTimed m).dcT m && !(s.dcTimed m).dcHit m then (s.dcTimed m).dcLatch m
  else s.dcTimed m

/-- A disagreement that ended before T. -/
def State.dcTransient (s : State) (m : Nat) : State := (s.inc (F.TRV_DCm_TRANS m)).report srcDualTrans m

/-- A sample of channels that agree. -/
def State.dcAgree (s : State) (m : Nat) : State :=
  if s.fld (F.TRV_DCm_D m) ≠ 0 && !s.dcHit m then (s.dcFresh m).dcTransient m else s.dcFresh m

/-- One sample of the comparison of an input that is enabled. -/
def State.dcCompared (s : State) (m : Nat) (dis : Bool) : State := if dis then s.dcDiffer m else s.dcAgree m

/-- VAL after a sample. -/
def State.dcShow (s : State) (m : Nat) (dis : Bool) : State :=
  s.setFlag (F.TRV_DCm_VAL m) (!dis && !s.flag (F.TRV_DCm_LAST m) && bitOf (s.fld F.TRV_MS_STAT_DEB) (2 * m))

/-- One sample of an input that is enabled. -/
def State.dcEnabled (s : State) (m : Nat) : State := (s.dcCompared m (s.dcDisagree m)).dcShow m (s.dcDisagree m)

/-- A sample of an input that is not enabled. -/
def State.dcDisabled (s : State) (m : Nat) : State :=
  ((s.setFld (F.TRV_DCm_D m) 0).setFlag (F.TRV_DCm_VAL m) false).setHit m false

theorem State.dcSample_eq (s : State) (m : Nat) : s.dcSample m =
    if !(s.dcTakeRestart m).flag (F.TRV_DCm_EN m) then (s.dcTakeRestart m).dcDisabled m
    else (if spGet (fun _ => false) s.ms.restart m then (s.dcTakeRestart m).dcFresh m else s.dcTakeRestart m).dcEnabled m := rfl

theorem State.dcTakeRestart_reg (s : State) (m i : Nat) : (s.dcTakeRestart m).reg i = s.reg i := rfl

section
variable (s : State) (m : Nat) {i : Nat} (h : ModeReg i)
include h

theorem ModeReg.ne_dual : i ≠ 0x260 + m := by
  have hlt := h.lt
  omega

theorem State.dcFresh_reg : (s.dcFresh m).reg i = s.reg i := s.reg_setFld_ne (F.TRV_DCm_D m) 0 (h.ne_dual m)

theorem State.dcTimed_reg : (s.dcTimed m).reg i = s.reg i := s.reg_setFld_ne (F.TRV_DCm_D m) _ (h.ne_dual m)

theorem State.report_modeReg (src : Nat) : (s.report src m).reg i = s.reg i :=
  (s.reportAt_reported src m _).reg (h.not_mem_reportRegs src)

theorem State.dcLatch_reg : (s.dcLatch m).reg i = s.reg i := by
  unfold State.dcLatch
  rw [State.report_modeReg _ m h]
  exact s.reg_setFld_ne (F.TRV_DCm_LAST m) _ (h.ne_dual m)

theorem State.dcTransient_reg : (s.dcTransient m).reg i = s.reg i := by
  unfold State.dcTransient
  rw [State.report_modeReg _ m h]
  exact s.reg_setFld_ne (F.TRV_DCm_TRANS m) _ (h.ne_dual m)

theorem State.dcCompared_reg (dis : Bool) : (s.dcCompared m dis).reg i = s.reg i := by
  unfold State.dcCompared State.dcDiffer State.dcAgree
  split
  · split
    · rw [State.dcLatch_reg _ m h, s.dcTimed_reg m h]
    · exact s.dcTimed_reg m h
  · split
    · rw [State.dcTransient_reg _ m h, s.dcFresh_reg m h]
    · exact s.dcFresh_reg m h

theorem State.dcShow_reg (dis : Bool) : (s.dcShow m dis).reg i = s.reg i :=
  s.reg_setFld_ne (F.TRV_DCm_VAL m) _ (h.ne_dual m)

theorem State.dcEnabled_reg : (s.dcEnabled m).reg i = s.reg i := by
  unfold State.dcEnabled
  rw [State.dcShow_reg _ m h, s.dcCompared_reg m h]

theorem State.dcDisabled_reg : (s.dcDisabled m).reg i = s.reg i := by
  have hval : ∀ u : State, (u.setFlag (F.TRV_DCm_VAL m) false).reg i = u.reg i := fun u =>
    u.reg_setFld_ne (F.TRV_DCm_VAL m) _ (h.ne_dual m)
  have hhit : ∀ u : State, (u.setHit m false).reg i = u.reg i := fun _ => rfl
  unfold State.dcDisabled
  rw [hhit, hval, s.reg_setFld_ne (F.TRV_DCm_D m) 0 (h.ne_dual m)]

/-- A dual-channel input changes its own register and those of its reports. -/
theorem State.dcSample_reg : (s.dcSample m).reg i = s.reg i := by
  rw [s.dcSample_eq]
  split
  · rw [State.dcDisabled_reg _ m h, s.dcTakeRestart_reg m i]
  · rw [State.dcEnabled_reg _ m h]
    split
    · rw [State.dcFresh_reg _ m h, s.dcTakeRestart_reg m i]
    · exact s.dcTakeRestart_reg m i

end

/-! ### MS_SAMPLE -/

/-- The clears and the four dual-channel inputs after the sample of the switches. -/
def State.judgeSwitches (v : State) : State := (List.range 4).foldl (fun s m => s.dcSample m) v.evalClears

theorem State.judgeSwitches_reg (v : State) {i : Nat} (h : ModeReg i) : v.judgeSwitches.reg i = v.reg i := by
  unfold State.judgeSwitches
  rw [foldl_same (fun x : State => x.reg i) (fun x m => x.dcSample m) (fun x m => x.dcSample_reg m h), v.evalClears_reg h]

/-- The state at the next 1 ms instant. -/
def State.toMs (s : State) : State := s.takeInstant clsMs 1024 0

theorem State.toMs_reg (s : State) {i : Nat} (h : i ≠ 0x200) : s.toMs.reg i = s.reg i := s.takeInstant_reg clsMs 1024 0 h

theorem State.toMs_fld (s : State) (f : Fld) (h : f.addr ≠ 0x200) : s.toMs.fld f = s.fld f :=
  State.fld_of_reg f (s.toMs_reg h)

theorem State.msInstant_eq (s : State) (raw : Nat) : s.msInstant raw = (s.sampleSwitches raw).judgeSwitches := by
  have hinv : (s.setFld F.TRV_MS_STAT_RAW raw).fld F.TRV_MS_CFG_INV = s.fld F.TRV_MS_CFG_INV :=
    s.fld_setFld_ne F.TRV_MS_STAT_RAW F.TRV_MS_CFG_INV raw (by decide)
  unfold State.msInstant State.sampleSwitches
  dsimp only
  rw [hinv]
  rfl

end Sys2Proof.Machine

namespace Sys2Proof.Proofs

open Sys2Proof Sys2Proof.Machine

theorem exec_msSample (s : State) (raw : BitVec 8) (hrun : s.boot.halted = false) {u w : State} (hu : u = s.toMs)
    (hw : w = (u.sampleSwitches raw.toNat).judgeSwitches) : exec (.msSample raw) s =
      .next (if (u.fld F.TRV_MS_STAT_DEB ^^^ w.fld F.TRV_MS_STAT_DEB) &&& w.fld F.MOD_WAKE_MSMASK ≠ 0 then w.wake else w) := by
  have harm : exec (.msSample raw) s = execMsSample raw s := by rfl
  have hinst : u.msInstant raw.toNat = w := (u.msInstant_eq _).trans hw.symm
  rw [harm, execMsSample, s.clocked_running _ hrun]
  unfold State.toMs at hu
  dsimp only
  rw [← hu, hinst]
  split <;> rfl

/-- Settles O29: the instant comes first, each input is debounced by itself, and MSMASK is read after registers that the clears
and the comparisons leave. -/
theorem magneticSwitchSample : Obligations.MagneticSwitchSample := by
  unfold Obligations.MagneticSwitchSample
  intro s raw hrun hcanon
  obtain ⟨r, k, hsame⟩ := s.takeInstant_same clsMs 1024 0
  obtain ⟨hraw, hmem, hqueues, htrv, hreg, hinput⟩ := s.toMs.sampleSwitches_facts raw _ rfl
  have hfrac : s.clk.frac < tbUnit := s.frac_lt_of_canonical hcanon
  have hparts : s.toMs.mem = s.mem ∧ s.toMs.queues = s.queues ∧ s.toMs.trv = s.trv ∧ s.toMs.ms = s.ms := by
    rw [State.toMs, hsame]
    exact ⟨rfl, rfl, rfl, rfl⟩
  obtain ⟨hmem', hqueues', htrv', hms⟩ := hparts
  have hdeb : s.toMs.fld F.TRV_MS_STAT_DEB = s.fld F.TRV_MS_STAT_DEB := s.toMs_fld _ (by decide)
  have hinv : s.toMs.fld F.TRV_MS_CFG_INV = s.fld F.TRV_MS_CFG_INV := s.toMs_fld _ (by decide)
  refine ⟨s.toMs, s.toMs.sampleSwitches raw.toNat, r, k, hsame, s.takeInstant_ms_now clsMs hfrac, fun i hi => s.toMs_reg hi,
    hraw, hmem.trans hmem', hqueues.trans hqueues', htrv.trans htrv', fun i h hi => (hreg i hi).trans (s.toMs_reg h),
    fun i hi => ?_, fun w hw => ?_⟩
  · obtain ⟨hd, hr⟩ := hinput i hi
    unfold debounced State.msRun State.msDeb at hd
    unfold debounceRun State.msRun State.msDeb at hr
    rw [hdeb, hinv, hms] at hd hr
    refine ⟨fun heq => ?_, fun hne => ?_⟩
    · rw [if_pos (beq_iff_eq.2 heq)] at hd hr
      exact ⟨hd, hr⟩
    · rw [if_neg (fun h => hne (beq_iff_eq.1 h))] at hd hr
      exact ⟨hd, hr⟩
  · have hmask : w.fld F.MOD_WAKE_MSMASK = s.fld F.MOD_WAKE_MSMASK := by
      have hmode : ModeReg F.MOD_WAKE_MSMASK.addr := ⟨by decide, by decide⟩
      have hw' : w = (s.toMs.sampleSwitches raw.toNat).judgeSwitches := hw
      refine State.fld_of_reg _ ?_
      rw [hw', State.judgeSwitches_reg _ hmode, hreg _ (by decide), s.toMs_reg (by decide)]
    rw [exec_msSample s raw hrun rfl hw, hdeb, hmask]

end Sys2Proof.Proofs
end

section
/-! PROOF. The loss of the source in use, and standstill (O27): a node that acts on an invalid source, and SOURCE_INVALID,
BEACON_LOSS and STANDSTILL_ASSERT (R21, R65, R67, R75, R76). -/

namespace Sys2Proof.Machine

open Sys2Proof

/-! ### The next scheduler tick -/

theorem State.toTick_now (s : State) (hfrac : s.clk.frac < tbUnit) : s.toTick.now % 32 = 0 := by
  obtain ⟨hmul, hlt, hdist, -⟩ := State.nextInstant_facts s
  have hnow : s.toTick.now = s.nextInstant clsTick 32 0 := s.advTo_now_of_le hfrac hlt hdist
  rw [hnow, hmul]

/-! ### Loss of travel (R65) -/

/-- The registers of a loss: LOST, with speed, acceleration and STILL reading 0. -/
def State.showLost (s : State) : State :=
  (((s.setFlag F.TRV_STAT_LOST true).setFld F.TRV_SPEED_SPEED 0).setFld F.TRV_ACCEL_ACCEL 0).setFlag F.TRV_STAT_STILL false

/-- The mode change that a loss asks for. -/
def State.askLost (s : State) : State :=
  { s with trv := { s.trv with stillFrom := none }, mode := { s.mode with lost := true } }

theorem State.setLost_eq (s : State) : s.setLost = s.showLost.askLost.report srcTravelLost 0 := rfl

theorem State.setLost_reported (s : State) : Reported (reportRegs srcTravelLost) s.showLost.askLost s.setLost := by
  rw [s.setLost_eq]
  exact State.reportAt_reported _ _ _ _

theorem State.askLost_fld (s : State) (f : Fld) : s.askLost.fld f = s.fld f := rfl

theorem State.setLost_fld (s : State) (f : Fld) (h : f.addr ∉ reportRegs srcTravelLost) : s.setLost.fld f = s.showLost.fld f := by
  rw [State.fld_of_reg f (s.setLost_reported.reg h), State.askLost_fld]

theorem State.showLost_lost (s : State) : s.showLost.flag F.TRV_STAT_LOST = true := by
  unfold State.showLost State.setFlag
  rw [State.flag_of_fld F.TRV_STAT_LOST (State.fld_setFld_disj _ F.TRV_STAT_STILL F.TRV_STAT_LOST _ (by decide) (by decide)),
    State.flag_of_fld F.TRV_STAT_LOST (State.fld_setFld_ne _ F.TRV_ACCEL_ACCEL F.TRV_STAT_LOST _ (by decide)),
    State.flag_of_fld F.TRV_STAT_LOST (State.fld_setFld_ne _ F.TRV_SPEED_SPEED F.TRV_STAT_LOST _ (by decide))]
  exact s.flag_setFlag_same F.TRV_STAT_LOST true (by decide)

theorem State.showLost_still (s : State) : s.showLost.flag F.TRV_STAT_STILL = false :=
  State.flag_setFlag_same _ F.TRV_STAT_STILL false (by decide)

theorem State.showLost_speed (s : State) : s.showLost.fld F.TRV_SPEED_SPEED = 0 := by
  unfold State.showLost State.setFlag
  rw [State.fld_setFld_ne _ F.TRV_STAT_STILL F.TRV_SPEED_SPEED _ (by decide),
    State.fld_setFld_ne _ F.TRV_ACCEL_ACCEL F.TRV_SPEED_SPEED _ (by decide),
    State.fld_setFld_same _ F.TRV_SPEED_SPEED 0 (by decide)]
  rfl

theorem State.showLost_accel (s : State) : s.showLost.fld F.TRV_ACCEL_ACCEL = 0 := by
  unfold State.showLost State.setFlag
  rw [State.fld_setFld_ne _ F.TRV_STAT_STILL F.TRV_ACCEL_ACCEL _ (by decide),
    State.fld_setFld_same _ F.TRV_ACCEL_ACCEL 0 (by decide)]
  rfl

/-- A loss, as the registers and the mode show it. -/
theorem State.setLost_facts (s : State) : ∀ t, t = s.setLost → t.flag F.TRV_STAT_LOST = true ∧ t.fld F.TRV_SPEED_SPEED = 0 ∧
    t.fld F.TRV_ACCEL_ACCEL = 0 ∧ t.flag F.TRV_STAT_STILL = false ∧ t.mode.lost = true := by
  intro t ht
  have hmode : s.setLost.mode = s.showLost.askLost.mode := by
    obtain ⟨⟨g, q, y, k, f, e⟩, -⟩ := s.setLost_reported
    rw [e]
  rw [ht, State.flag_of_fld F.TRV_STAT_LOST (s.setLost_fld _ (by decide)), s.setLost_fld _ (by decide), s.setLost_fld _ (by decide),
    State.flag_of_fld F.TRV_STAT_STILL (s.setLost_fld _ (by decide)), hmode]
  exact ⟨s.showLost_lost, s.showLost_speed, s.showLost_accel, s.showLost_still, rfl⟩

theorem State.actInvalid_lost (s : State) (h : s.alt = 15 ∨ s.sourceValid s.alt = false) : s.actInvalid = s.setLost := by
  have hserve : (s.alt ≠ 15 && s.sourceValid s.alt) = false := by
    rcases h with h | h <;> simp [h]
  rw [State.actInvalid, hserve]
  rfl

/-! ### The switch to the alternative (R67) -/

/-- The position of a source depends on the inputs' registers, the serial sensors, and the bases of GNSS and beacons. -/
theorem State.sourcePos_congr {s t : State} (hss : t.trv.ss = s.trv.ss) (hfix : t.trv.fix = s.trv.fix)
    (hbase : t.trv.fixBase = s.trv.fixBase) (hbcn : t.trv.bcn = s.trv.bcn)
    (hreg : ∀ i, 0x230 < i → i < 0x25C → t.reg i = s.reg i) (c n : Nat) : t.sourcePos c n = s.sourcePos c n := by
  have hfld : ∀ f : Fld, 0x230 < f.addr → f.addr < 0x25C → t.fld f = s.fld f := fun f hlo hhi => State.fld_of_reg f (hreg _ hlo hhi)
  unfold State.sourcePos State.fldI
  split
  · rw [hfld (F.TRV_ENn_CNT_CNT c) (show 0x230 < 0x231 + 8 * c by omega) (show 0x231 + 8 * c < 0x25C by omega),
      hfld (F.TRV_ENn_K_MANT c) (show 0x230 < 0x232 + 8 * c by omega) (show 0x232 + 8 * c < 0x25C by omega),
      hfld (F.TRV_ENn_K_EXP c) (show 0x230 < 0x232 + 8 * c by omega) (show 0x232 + 8 * c < 0x25C by omega)]
  · split
    · have hsensor : t.ssOf (c - 4) = s.ssOf (c - 4) := by unfold State.ssOf; rw [hss]
      rw [hsensor,
        hfld (F.TRV_SSn_K_MANT (c - 4)) (show 0x230 < 0x252 + 8 * (c - 4) by omega) (show 0x252 + 8 * (c - 4) < 0x25C by omega),
        hfld (F.TRV_SSn_K_EXP (c - 4)) (show 0x230 < 0x252 + 8 * (c - 4) by omega) (show 0x252 + 8 * (c - 4) < 0x25C by omega),
        hfld (F.TRV_SSn_ZERO_ZERO (c - 4)) (show 0x230 < 0x253 + 8 * (c - 4) by omega) (show 0x253 + 8 * (c - 4) < 0x25C by omega)]
    · rw [hfix, hbase, hbcn]

/-- Travel of the last tick, carried forward at its speed. -/
def State.carriedTravel (s : State) : Nat :=
  wrap40 ((s.travel : Int) + roundAway (s.fldI F.TRV_SPEED_SPEED * dist s.now s.trv.lastTick) (2 ^ 28))

/-- Source `c` is in use, with ALTACT as given. -/
def State.useSource (s : State) (c : Nat) (alt : Bool) : State :=
  (({ s with trv := { s.trv with rem := 0, part := 0 } } : State).setFld F.TRV_SRC_USING c).setFlag F.TRV_STAT_ALTACT alt

/-- The bias by which source `c` reads `want`. -/
def State.biasFor (s : State) (c want : Nat) : State :=
  match s.rawTravel c s.now with
  | some x => s.update F.TRV_BIAS_BIAS (wrap40 (s.fldI F.TRV_BIAS_BIAS + dist want x))
  | none => s

/-- Source `c` was taken at this core clock; an encoder keeps its last edge as the start of its standstill time. -/
def State.stampSource (s : State) (c : Nat) : State :=
  if c < 4 then s else { s with trv := { s.trv with srcFrom := s.clk.cc } }

theorem State.switchTo_eq (s : State) (c : Nat) (alt : Bool) :
    s.switchTo c alt = (((s.useSource c alt).biasFor c s.carriedTravel).stampSource c).inc F.TRV_STAT_SWITCHES := by
  rfl

/-- Positions and the span offset are the same in both states. -/
structure SameSources (s t : State) : Prop where
  ss : t.trv.ss = s.trv.ss
  fix : t.trv.fix = s.trv.fix
  base : t.trv.fixBase = s.trv.fixBase
  bcn : t.trv.bcn = s.trv.bcn
  reg : ∀ i, 0x230 < i → i < 0x25C → t.reg i = s.reg i
  offset : t.reg 0x212 = s.reg 0x212

theorem SameSources.trans {s t u : State} (h : SameSources s t) (g : SameSources t u) : SameSources s u :=
  ⟨g.ss.trans h.ss, g.fix.trans h.fix, g.base.trans h.base, g.bcn.trans h.bcn,
    fun i hlo hhi => (g.reg i hlo hhi).trans (h.reg i hlo hhi), g.offset.trans h.offset⟩

theorem SameSources.rawTravel {s t : State} (h : SameSources s t) (c n : Nat) : t.rawTravel c n =
    (s.sourcePos c n).map fun p => wrap40 (p + t.fldI F.TRV_BIAS_BIAS + s.fldI F.TRV_OFFSET_OFFSET) := by
  have hoffset : t.fldI F.TRV_OFFSET_OFFSET = s.fldI F.TRV_OFFSET_OFFSET :=
    congrArg (sx _) (State.fld_of_reg F.TRV_OFFSET_OFFSET h.offset)
  rw [State.rawTravel, State.sourcePos_congr h.ss h.fix h.base h.bcn h.reg, hoffset]

theorem State.useSource_reg (s : State) (c : Nat) (alt : Bool) {i : Nat} (h220 : i ≠ 0x220) (h224 : i ≠ 0x224) :
    (s.useSource c alt).reg i = s.reg i :=
  (State.reg_setFld_ne _ F.TRV_STAT_ALTACT _ h224).trans (State.reg_setFld_ne _ F.TRV_SRC_USING c h220)

theorem State.useSource_sources (s : State) (c : Nat) (alt : Bool) : SameSources s (s.useSource c alt) :=
  ⟨rfl, rfl, rfl, rfl, fun _ hlo _ => s.useSource_reg c alt (by omega) (by omega), s.useSource_reg c alt (by decide) (by decide)⟩

theorem State.useSource_using (s : State) {c : Nat} (alt : Bool) (hc : c < 16) : (s.useSource c alt).fld F.TRV_SRC_USING = c := by
  unfold State.useSource State.setFlag
  rw [State.fld_setFld_ne _ F.TRV_STAT_ALTACT F.TRV_SRC_USING _ (by decide),
    State.fld_setFld_same _ F.TRV_SRC_USING c (by decide)]
  exact Nat.mod_eq_of_lt hc

theorem State.useSource_altact (s : State) (c : Nat) (alt : Bool) : (s.useSource c alt).flag F.TRV_STAT_ALTACT = alt :=
  State.flag_setFlag_same _ F.TRV_STAT_ALTACT alt (by decide)

theorem State.biasFor_reg (s : State) (c want : Nat) {i : Nat} (h : i ≠ 0x226) : (s.biasFor c want).reg i = s.reg i := by
  unfold State.biasFor
  split
  · exact s.update_reg_ne F.TRV_BIAS_BIAS _ h
  · rfl

theorem State.biasFor_sources (s : State) (c want : Nat) : SameSources s (s.biasFor c want) := by
  have htrv : (s.biasFor c want).trv = s.trv := by
    unfold State.biasFor
    split <;> rfl
  exact ⟨by rw [htrv], by rw [htrv], by rw [htrv], by rw [htrv], fun _ hlo _ => s.biasFor_reg c want (by omega),
    s.biasFor_reg c want (by decide)⟩

theorem wrap40_lt (x : Int) : wrap40 x < 2 ^ 40 := wrapW_lt 40 x

theorem State.biasFor_bias (s : State) {c want x : Nat} (h : s.rawTravel c s.now = some x) :
    (s.biasFor c want).fld F.TRV_BIAS_BIAS = wrap40 (s.fldI F.TRV_BIAS_BIAS + dist want x) := by
  unfold State.biasFor
  rw [h]
  dsimp only
  unfold State.update
  rw [State.mark_fld, s.fld_setFld_whole _ ⟨rfl, rfl⟩ (wrap40_lt _)]

theorem State.stampSource_reg (s : State) (c i : Nat) : (s.stampSource c).reg i = s.reg i := by
  unfold State.stampSource
  split <;> rfl

theorem State.stampSource_sources (s : State) (c : Nat) : SameSources s (s.stampSource c) := by
  unfold State.stampSource
  split <;> exact ⟨rfl, rfl, rfl, rfl, fun _ _ _ => rfl, rfl⟩

theorem State.countSwitch_sources (s : State) : SameSources s (s.inc F.TRV_STAT_SWITCHES) :=
  ⟨rfl, rfl, rfl, rfl, fun i hlo _ => s.inc_reg F.TRV_STAT_SWITCHES (show i ≠ 0x224 by omega),
    s.inc_reg F.TRV_STAT_SWITCHES (by decide)⟩

theorem State.switchTo_sources (s : State) (c : Nat) (alt : Bool) : SameSources s (s.switchTo c alt) := by
  rw [s.switchTo_eq]
  exact (((s.useSource_sources c alt).trans (State.biasFor_sources _ c _)).trans (State.stampSource_sources _ c)).trans
    (State.countSwitch_sources _)

theorem State.switchTo_using (s : State) {c : Nat} (alt : Bool) (hc : c < 16) : (s.switchTo c alt).fld F.TRV_SRC_USING = c := by
  rw [s.switchTo_eq, State.fld_of_reg F.TRV_SRC_USING (State.inc_reg _ F.TRV_STAT_SWITCHES (by decide)),
    State.fld_of_reg F.TRV_SRC_USING (State.stampSource_reg _ c _),
    State.fld_of_reg F.TRV_SRC_USING (State.biasFor_reg _ c _ (by decide)), s.useSource_using alt hc]

theorem State.switchTo_altact (s : State) (c : Nat) (alt : Bool) : (s.switchTo c alt).flag F.TRV_STAT_ALTACT = alt := by
  rw [s.switchTo_eq, State.inc, State.incBy,
    State.flag_of_fld F.TRV_STAT_ALTACT (State.fld_setFld_disj _ F.TRV_STAT_SWITCHES F.TRV_STAT_ALTACT _ (by decide) (by decide)),
    State.flag_of_reg F.TRV_STAT_ALTACT (State.stampSource_reg _ c _),
    State.flag_of_reg F.TRV_STAT_ALTACT (State.biasFor_reg _ c _ (by decide)), s.useSource_altact]

/-- The bias that lets `x`, formed with bias `b`, read `want`. -/
theorem wrap40_rebias (p b o : Int) {want : Nat} (hwant : want < 2 ^ 40) :
    wrap40 (p + sx 40 (wrap40 (b + dist want (wrap40 (p + b + o)))) + o) = want := by
  unfold dist wrap40 wrapW sx
  omega

/-- After the switch the source reads the travel of the last tick, carried forward. -/
theorem State.switchTo_rawTravel (s : State) {c x : Nat} (alt : Bool) (h : s.rawTravel c s.now = some x) :
    (s.switchTo c alt).rawTravel c s.now = some s.carriedTravel := by
  have hnow : (s.useSource c alt).now = s.now := State.fld_of_reg F.TBS_TIME_TIME (s.useSource_reg c alt (by decide) (by decide))
  have hbias : (s.useSource c alt).fldI F.TRV_BIAS_BIAS = s.fldI F.TRV_BIAS_BIAS :=
    congrArg (sx _) (State.fld_of_reg F.TRV_BIAS_BIAS (s.useSource_reg c alt (by decide) (by decide)))
  have htaken : (s.useSource c alt).rawTravel c (s.useSource c alt).now = some x := by
    rw [hnow, (s.useSource_sources c alt).rawTravel, hbias]
    exact h
  have hset : (s.switchTo c alt).fld F.TRV_BIAS_BIAS = wrap40 (s.fldI F.TRV_BIAS_BIAS + dist s.carriedTravel x) := by
    rw [s.switchTo_eq, State.fld_of_reg F.TRV_BIAS_BIAS (State.inc_reg _ F.TRV_STAT_SWITCHES (by decide)),
      State.fld_of_reg F.TRV_BIAS_BIAS (State.stampSource_reg _ c _), State.biasFor_bias _ htaken, hbias]
  obtain ⟨p, hp, hx⟩ := Option.map_eq_some_iff.1 h
  rw [(s.switchTo_sources c alt).rawTravel, hp, State.fldI, hset, ← hx]
  exact congrArg some (wrap40_rebias p _ _ (wrap40_lt _))

theorem State.actInvalid_serves (s : State) (halt : s.alt ≠ 15) (hvalid : s.sourceValid s.alt = true)
    (hother : s.alt ≠ s.fld F.TRV_SRC_USING) : s.actInvalid = s.switchTo s.alt true := by
  unfold State.actInvalid
  rw [if_pos (by simp [halt, hvalid]), if_neg hother]

/-- The alternative, a source or 15 for none, fits in USING. -/
theorem State.alt_lt (s : State) : s.alt < 16 := by
  unfold State.alt
  dsimp only
  split <;> omega

/-! ### The end of the cause (R65) -/

/-- Time passes to the end of the cause: 10 ms of a line break, or 1.0 s without a fix. -/
def State.causeEnd (s : State) : State :=
  if s.fld F.TRV_SRC_USING < 4 then
    match (s.encOf (s.fld F.TRV_SRC_USING)).brkFrom with
    | some b => s.advCcTo (b + msClocks 10)
    | none => s
  else if s.fld F.TRV_SRC_USING = 6 then
    match s.trv.fixCc with
    | some c => s.advCcTo (c + secClocks 1)
    | none => s
  else s

theorem State.causeEnd_advCcTo (s : State) : ∃ c, s.causeEnd = s.advCcTo c := by
  have hidle : s.advCcTo 0 = s := if_neg (by omega)
  unfold State.causeEnd
  split
  · split
    · exact ⟨_, rfl⟩
    · exact ⟨0, hidle.symm⟩
  · split
    · split
      · exact ⟨_, rfl⟩
      · exact ⟨0, hidle.symm⟩
    · exact ⟨0, hidle.symm⟩

theorem State.causeEnd_break (s : State) {b : Nat} (h : s.fld F.TRV_SRC_USING < 4)
    (hb : (s.encOf (s.fld F.TRV_SRC_USING)).brkFrom = some b) : b + msClocks 10 ≤ s.causeEnd.clk.cc := by
  have heq : s.causeEnd = s.advCcTo (b + msClocks 10) := by
    unfold State.causeEnd
    rw [if_pos h, hb]
  rw [heq, s.advCcTo_cc]
  exact Nat.le_max_right _ _

theorem State.causeEnd_fix (s : State) {c : Nat} (h : s.fld F.TRV_SRC_USING = 6) (hc : s.trv.fixCc = some c) :
    c + secClocks 1 ≤ s.causeEnd.clk.cc := by
  have heq : s.causeEnd = s.advCcTo (c + secClocks 1) := by
    unfold State.causeEnd
    rw [if_neg (by omega), if_pos h, hc]
  rw [heq, s.advCcTo_cc]
  exact Nat.le_max_right _ _

/-! ### Standstill (R75) -/

/-- The registers of a standstill that asserts. -/
def State.showStill (s : State) : State :=
  ((s.setFlag F.TRV_STAT_STILL true).setFld F.TRV_SPEED_SPEED 0).setFld F.TRV_ACCEL_ACCEL 0

/-- Standstill has been asserted from this core clock. -/
def State.stampStill (s : State) : State :=
  { s with trv := { s.trv with stillFrom := some s.clk.cc, graceDone := false } }

theorem State.assertStill_eq (s : State) (h : s.still = false) : s.assertStill = s.showStill.stampStill := by
  unfold State.assertStill
  rw [if_neg (by rw [h]; decide)]
  rfl

theorem State.stampStill_fld (s : State) (f : Fld) : s.stampStill.fld f = s.fld f := rfl
theorem State.stampStill_flag (s : State) (f : Fld) : s.stampStill.flag f = s.flag f := rfl

theorem State.stampStill_parts (s : State) : s.stampStill.trv.stillFrom = some s.clk.cc ∧ s.stampStill.clk = s.clk ∧
    s.stampStill.mem = s.mem ∧ s.stampStill.queues = s.queues := ⟨rfl, rfl, rfl, rfl⟩

theorem State.showStill_parts (s : State) : s.showStill.clk = s.clk ∧ s.showStill.mem = s.mem ∧ s.showStill.queues = s.queues :=
  ⟨rfl, rfl, rfl⟩

theorem State.assertStill_facts (s : State) (h : s.still = false) : ∀ t, t = s.assertStill → t.flag F.TRV_STAT_STILL = true ∧
    t.fld F.TRV_SPEED_SPEED = 0 ∧ t.fld F.TRV_ACCEL_ACCEL = 0 ∧ t.trv.stillFrom = some t.clk.cc ∧ t.clk = s.clk ∧
      t.mem = s.mem ∧ t.queues = s.queues := by
  intro t ht
  obtain ⟨hfrom, hclk, hmem, hqueues⟩ := s.showStill.stampStill_parts
  obtain ⟨hclk', hmem', hqueues'⟩ := s.showStill_parts
  rw [ht, s.assertStill_eq h, State.stampStill_flag, State.stampStill_fld, State.stampStill_fld, hfrom, hclk, hmem, hqueues]
  refine ⟨?still, ?speed, ?accel, rfl, hclk', hmem', hqueues'⟩
  case still =>
    unfold State.showStill
    rw [State.flag_of_fld F.TRV_STAT_STILL (State.fld_setFld_ne _ F.TRV_ACCEL_ACCEL F.TRV_STAT_STILL _ (by decide)),
      State.flag_of_fld F.TRV_STAT_STILL (State.fld_setFld_ne _ F.TRV_SPEED_SPEED F.TRV_STAT_STILL _ (by decide))]
    exact s.flag_setFlag_same F.TRV_STAT_STILL true (by decide)
  case speed =>
    unfold State.showStill
    rw [State.fld_setFld_ne _ F.TRV_ACCEL_ACCEL F.TRV_SPEED_SPEED _ (by decide),
      State.fld_setFld_same _ F.TRV_SPEED_SPEED 0 (by decide)]
    rfl
  case accel =>
    unfold State.showStill
    rw [State.fld_setFld_same _ F.TRV_ACCEL_ACCEL 0 (by decide)]
    rfl

/-- Standstill asserts STILLTO after the last edge that the filter has passed. -/
theorem State.encoderStill_facts (u : State) (n : Nat) (h : u.still = false) :
    ∀ t, t = (u.advCcTo (u.stillDue n)).assertStill → t.flag F.TRV_STAT_STILL = true ∧ t.fld F.TRV_SPEED_SPEED = 0 ∧
      t.fld F.TRV_ACCEL_ACCEL = 0 ∧ t.trv.stillFrom = some t.clk.cc ∧ u.stillDue n ≤ t.clk.cc ∧ t.mem = u.mem ∧
        t.queues = u.queues := by
  intro t ht
  have hstill : (u.advCcTo (u.stillDue n)).still = false :=
    (State.flag_of_fld F.TRV_STAT_STILL (u.advCcTo_fld _ F.TRV_STAT_STILL (by decide))).trans h
  obtain ⟨hflag, hspeed, haccel, hfrom, hclk, hmem, hqueues⟩ := State.assertStill_facts _ hstill t ht
  obtain ⟨r, k, e⟩ := u.advCcTo_same (u.stillDue n)
  refine ⟨hflag, hspeed, haccel, hfrom, ?_, hmem.trans (by rw [e]), hqueues.trans (by rw [e])⟩
  rw [hclk, u.advCcTo_cc]
  exact Nat.le_max_right _ _

end Sys2Proof.Machine

namespace Sys2Proof.Proofs

open Sys2Proof Sys2Proof.Machine

/-! ### The commands -/

theorem exec_sourceInvalid (s : State) (hrun : s.boot.halted = false) : exec .sourceInvalid s =
    .next (if s.flag F.TRV_STAT_LOST || s.gated then s
      else if s.causeEnd.usingInvalid then s.causeEnd.toTick.actInvalid else s.causeEnd) := by
  have harm : exec .sourceInvalid s = execSourceInvalid s := by rfl
  rw [harm, execSourceInvalid, s.clocked_running _ hrun]
  dsimp only
  split <;> rfl

theorem exec_beaconLoss (s : State) (hrun : s.boot.halted = false) : exec .beaconLoss s =
    .next (if s.flag F.TRV_STAT_LOST || s.fld F.TRV_SRC_USING ≠ 7 || s.gated then s
      else (s.advCcTo (max (s.trv.bcnCc.getD 0) s.trv.srcFrom + secClocks 2)).toTick.actInvalid) := by
  have harm : exec .beaconLoss s = execBeaconLoss s := by rfl
  rw [harm, execBeaconLoss, s.clocked_running _ hrun]
  split <;> rfl

theorem exec_standstillAssert (s : State) (hrun : s.boot.halted = false) : exec .standstillAssert s =
    .next (if s.flag F.TRV_STAT_LOST || s.still || s.gated then s
      else if s.fld F.TRV_SRC_USING < 4 then
        if (s.settle (s.fld F.TRV_SRC_USING) s.clk.cc).still then s.settle (s.fld F.TRV_SRC_USING) s.clk.cc
        else ((s.settle (s.fld F.TRV_SRC_USING) s.clk.cc).advCcTo
          ((s.settle (s.fld F.TRV_SRC_USING) s.clk.cc).stillDue (s.fld F.TRV_SRC_USING))).assertStill
      else s.judgeStill) := by
  have harm : exec .standstillAssert s = execStandstillAssert s := by rfl
  rw [harm, execStandstillAssert, s.clocked_running _ hrun]
  dsimp only
  split
  · rfl
  · split <;> rfl

/-! ### The obligation -/

/-- Settles O27: each command lets time pass by one advance of the clock, and the node then acts on the source in use. -/
theorem lossOfTheSourceInUse : Obligations.LossOfTheSourceInUse := by
  unfold Obligations.LossOfTheSourceInUse
  intro s hrun
  refine ⟨?invalid, ?beacons, ?tick, ?lost, ?serves, ?encoder, ?judged, ?idle⟩
  case invalid =>
    intro hlost hgated
    obtain ⟨c, hc⟩ := s.causeEnd_advCcTo
    obtain ⟨r, k, hsame⟩ := s.advCcTo_same c
    refine ⟨s.causeEnd, r, k, hc.trans hsame, fun i hi => by rw [hc, s.advCcTo_reg c hi], fun _ => s.causeEnd_break,
      fun _ => s.causeEnd_fix, ?_⟩
    rw [exec_sourceInvalid s hrun, hlost, hgated, if_neg (by decide)]
  case beacons =>
    intro hlost hgated husing
    obtain ⟨r, k, hsame⟩ := s.advCcTo_same (max (s.trv.bcnCc.getD 0) s.trv.srcFrom + secClocks 2)
    refine ⟨_, r, k, hsame, fun i hi => s.advCcTo_reg _ hi, ?_, ?_⟩
    · rw [s.advCcTo_cc]
      exact Nat.le_max_right _ _
    · rw [exec_beaconLoss s hrun, hlost, hgated, husing, if_neg (by decide)]
  case tick => exact fun hcanon => ⟨s.toTick_now (s.frac_lt_of_canonical hcanon), s.advTo_same _⟩
  case lost => exact fun h => s.setLost_facts _ (s.actInvalid_lost h)
  case serves =>
    intro halt hvalid hother
    rw [s.actInvalid_serves halt hvalid hother]
    exact ⟨s.switchTo_using true s.alt_lt, s.switchTo_altact _ true, fun _ hx => s.switchTo_rawTravel true hx⟩
  case encoder =>
    intro hlost hstill hgated husing u hu hawake
    obtain ⟨hflag, hspeed, haccel, hfrom, hcc, hmem, hqueues⟩ := u.encoderStill_facts (s.fld F.TRV_SRC_USING) hawake _ rfl
    refine ⟨_, ?_, hflag, hspeed, haccel, hfrom, hcc, hmem.trans ?_, hqueues⟩
    · rw [exec_standstillAssert s hrun, hlost, hstill, hgated, if_neg (by decide), if_pos husing, ← hu, hawake, if_neg (by decide)]
    · rw [hu, (s.settle_onlyInput _ _).mem]
  case judged =>
    intro hlost hstill hgated husing
    rw [exec_standstillAssert s hrun, hlost, hstill, hgated, if_neg (by decide), if_neg (by omega)]
  case idle =>
    intro h
    have hlost : (s.flag F.TRV_STAT_LOST || s.gated) = true := by rcases h with h | h <;> simp [h]
    simp only [List.forall_mem_cons, List.not_mem_nil, false_imp_iff, implies_true, and_true]
    refine ⟨?_, ?_, ?_⟩
    · rw [exec_sourceInvalid s hrun, if_pos hlost]
    · rw [exec_beaconLoss s hrun, if_pos (by rcases h with h | h <;> simp [h])]
    · rw [exec_standstillAssert s hrun, if_pos (by rcases h with h | h <;> simp [h])]

end Sys2Proof.Proofs
end

section
/-! PROOF. The GNSS baseband's commands: the relation `Baseband A s t`, how it composes, and the operations it holds of (chapter 4). -/

namespace Sys2Proof.Machine

open Sys2Proof

/-- From `s` to `t` nothing changes but registers at the addresses in `A`, the clock, the baseband beside its registers, and the
free values. -/
def Baseband (A : Nat → Prop) (s t : State) : Prop :=
  (∃ g k x n, t = { s with regs := g, clk := k, gnb := x, free := n }) ∧ ∀ i, ¬ A i → t.reg i = s.reg i

namespace Baseband

variable {A B : Nat → Prop} {s t u : State}

theorem refl (A : Nat → Prop) (s : State) : Baseband A s s := ⟨⟨_, _, _, _, rfl⟩, fun _ _ => rfl⟩

theorem trans (h : Baseband A s t) (g : Baseband A t u) : Baseband A s u := by
  obtain ⟨⟨_, _, _, _, rfl⟩, hreg⟩ := h
  obtain ⟨⟨r, k, x, n, e⟩, hreg'⟩ := g
  exact ⟨⟨r, k, x, n, e⟩, fun i hi => (hreg' i hi).trans (hreg i hi)⟩

theorem mono (h : Baseband A s t) (hAB : ∀ i, A i → B i) : Baseband B s t := ⟨h.1, fun i hi => h.2 i fun hA => hi (hAB i hA)⟩

theorem ite {c : Prop} [Decidable c] (h : Baseband A s t) (g : Baseband A s u) : Baseband A s (if c then t else u) := by
  split
  · exact h
  · exact g

/-- A loop of such steps is such a step. -/
theorem foldl {α : Type} {f : State → α → State} {l : List α} (h : ∀ v, ∀ x ∈ l, Baseband A v (f v x)) (s : State) :
    Baseband A s (l.foldl f s) := by
  induction l generalizing s with
  | nil => exact .refl A s
  | cons x l ih => exact (h s x List.mem_cons_self).trans (ih (fun v y hy => h v y (List.mem_cons_of_mem x hy)) (f s x))

theorem setReg (s : State) {a : Nat} (v : Word) (h : A a) : Baseband A s (s.setReg a v) :=
  ⟨⟨_, _, _, _, rfl⟩, fun i hi => (s.reg_setReg a i v).trans (if_neg fun (e : i = a) => hi (e ▸ h))⟩

theorem setFld (s : State) {f : Fld} (v : Nat) (h : A f.addr) : Baseband A s (s.setFld f v) := setReg s _ h

theorem setGnb (s : State) (x : GnbSt) : Baseband A s (s.setGnb x) := ⟨⟨_, _, _, _, rfl⟩, fun _ _ => rfl⟩

theorem advTo (s : State) (c : Nat) (h : A 0x200) : Baseband A s (s.advTo c) := by
  obtain ⟨g, k, e⟩ := s.advTo_same c
  exact ⟨⟨g, k, _, _, e⟩, fun i hi => s.advTo_reg c fun (e : i = 0x200) => hi (e ▸ h)⟩

theorem advCcTo (s : State) (c : Nat) (h : A 0x200) : Baseband A s (s.advCcTo c) := by
  obtain ⟨g, k, e⟩ := s.advCcTo_same c
  exact ⟨⟨g, k, _, _, e⟩, fun i hi => s.advCcTo_reg c fun (e : i = 0x200) => hi (e ▸ h)⟩

theorem draw (s : State) (n : Nat) : Baseband A s (s.draw n).2 := ⟨⟨_, _, _, _, rfl⟩, fun _ _ => rfl⟩

theorem reg (h : Baseband A s t) {i : Nat} (hi : ¬ A i) : t.reg i = s.reg i := h.2 i hi

theorem fld (h : Baseband A s t) (f : Fld) (hf : ¬ A f.addr) : t.fld f = s.fld f := State.fld_of_reg f (h.reg hf)

theorem flag (h : Baseband A s t) (f : Fld) (hf : ¬ A f.addr) : t.flag f = s.flag f := State.flag_of_reg f (h.reg hf)

theorem mem (h : Baseband A s t) : t.mem = s.mem := by obtain ⟨⟨_, _, _, _, rfl⟩, -⟩ := h; rfl

theorem trv (h : Baseband A s t) : t.trv = s.trv := by obtain ⟨⟨_, _, _, _, rfl⟩, -⟩ := h; rfl

theorem queues (h : Baseband A s t) : t.queues = s.queues := by obtain ⟨⟨_, _, _, _, rfl⟩, -⟩ := h; rfl

end Baseband

/-! ### What the baseband's own part leaves -/

@[simp] theorem State.setGnb_reg (s : State) (x : GnbSt) (i : Nat) : (s.setGnb x).reg i = s.reg i := rfl
@[simp] theorem State.setGnb_fld (s : State) (x : GnbSt) (f : Fld) : (s.setGnb x).fld f = s.fld f := rfl
@[simp] theorem State.setGnb_flag (s : State) (x : GnbSt) (f : Fld) : (s.setGnb x).flag f = s.flag f := rfl
@[simp] theorem State.setGnb_gnb (s : State) (x : GnbSt) : (s.setGnb x).gnb = x := rfl
@[simp] theorem State.setGnb_clk (s : State) (x : GnbSt) : (s.setGnb x).clk = s.clk := rfl
@[simp] theorem State.setGnb_mem (s : State) (x : GnbSt) : (s.setGnb x).mem = s.mem := rfl
@[simp] theorem State.setGnb_trv (s : State) (x : GnbSt) : (s.setGnb x).trv = s.trv := rfl
@[simp] theorem State.setGnb_queues (s : State) (x : GnbSt) : (s.setGnb x).queues = s.queues := rfl

/-! ### Entries of sparse data -/

theorem mem_spPut_self {α : Type} (m : List (Nat × α)) (k : Nat) (v : α) : (k, v) ∈ spPut m k v := by
  induction m with
  | nil => exact List.mem_singleton_self _
  | cons p m ih =>
    rw [spPut]
    split
    · exact List.mem_cons_self
    · split
      · exact List.mem_cons_self
      · exact List.mem_cons_of_mem p ih

theorem mem_spPut {α : Type} {m : List (Nat × α)} {k : Nat} {v : α} {p : Nat × α} (h : p ∈ spPut m k v) : p = (k, v) ∨ p ∈ m := by
  induction m with
  | nil => exact .inl (List.mem_singleton.1 h)
  | cons q m ih =>
    rw [spPut] at h
    split at h
    · exact (List.mem_cons.1 h).imp id (List.mem_cons_of_mem q)
    · split at h
      · exact List.mem_cons.1 h
      · obtain h | h := List.mem_cons.1 h
        · exact .inr (h ▸ List.mem_cons_self)
        · exact (ih h).imp id (List.mem_cons_of_mem q)

theorem mem_spDel {α : Type} {m : List (Nat × α)} {k : Nat} {p : Nat × α} : p ∈ spDel m k ↔ p ∈ m ∧ p.1 ≠ k := by
  induction m with
  | nil => simp [spDel]
  | cons q m ih =>
    rw [spDel, List.mem_cons]
    split
    · next hq => rw [ih]; exact ⟨fun ⟨h, g⟩ => ⟨.inr h, g⟩, fun ⟨h, g⟩ => ⟨h.resolve_left fun e => g (e ▸ hq), g⟩⟩
    · next hq =>
      rw [List.mem_cons, ih]
      exact ⟨fun h => h.elim (fun e => ⟨.inl e, e ▸ hq⟩) (fun ⟨h, g⟩ => ⟨.inr h, g⟩), fun ⟨h, g⟩ => h.imp id fun h => ⟨h, g⟩⟩

/-! ### What a report leaves -/

theorem Reported.gnb {A : List Nat} {s t : State} (h : Reported A s t) : t.gnb = s.gnb := by
  obtain ⟨⟨_, _, _, _, _, rfl⟩, _⟩ := h; rfl

theorem Reported.trv {A : List Nat} {s t : State} (h : Reported A s t) : t.trv = s.trv := by
  obtain ⟨⟨_, _, _, _, _, rfl⟩, _⟩ := h; rfl

theorem Reported.clk {A : List Nat} {s t : State} (h : Reported A s t) : t.clk = s.clk := by
  obtain ⟨⟨_, _, _, _, _, rfl⟩, _⟩ := h; rfl

theorem State.report_reported (s : State) (src inst : Nat) : Reported (reportRegs src) s (s.report src inst) :=
  s.reportAt_reported src inst _

/-! ### Instants -/

theorem State.takeTenth_same (s : State) (c : Nat) : ∃ g k, s.takeTenth c = { s with regs := g, clk := k } := by
  unfold State.takeTenth
  extract_lets o ks ts t u
  obtain ⟨g, k, e⟩ := s.advTo_same t
  have hu : u = { s with regs := g, clk := k } := e
  rw [hu]
  exact ⟨_, _, rfl⟩

theorem State.takeTenth_reg (s : State) (c : Nat) {i : Nat} (h : i ≠ 0x200) : (s.takeTenth c).reg i = s.reg i := by
  unfold State.takeTenth
  exact s.advTo_reg _ h

theorem State.takeTenth_baseband {A : Nat → Prop} (s : State) (c : Nat) (h : A 0x200) : Baseband A s (s.takeTenth c) := by
  obtain ⟨g, k, e⟩ := s.takeTenth_same c
  exact ⟨⟨g, k, _, _, e⟩, fun i hi => s.takeTenth_reg c fun (e : i = 0x200) => hi (e ▸ h)⟩

end Sys2Proof.Machine
end

section
/-! PROOF. What a fix shows and holds, and what the clock check, GNSS travel and the blend leave of it (R69, R93 to R101). -/

namespace Sys2Proof.Machine

open Sys2Proof

/-- From `s` to `t` the fix stays: the core clock of the last one, the position, the satellites excluded, the counts of the
residual check, and what GNB_STAT shows above STATE. -/
structure KeepsFix (s t : State) : Prop where
  lastFix : t.gnb.lastFix = s.gnb.lastFix
  pos : t.gnb.pos = s.gnb.pos
  excl : t.gnb.excl = s.gnb.excl
  raim : t.reg 0x1404 = s.reg 0x1404
  stat : ∀ f : Fld, f.addr = 0x1401 → 2 < f.lo → t.fld f = s.fld f

namespace KeepsFix

variable {s t u : State}

theorem refl (s : State) : KeepsFix s s := ⟨rfl, rfl, rfl, rfl, fun _ _ _ => rfl⟩

theorem trans (h : KeepsFix s t) (g : KeepsFix t u) : KeepsFix s u where
  lastFix := g.lastFix.trans h.lastFix
  pos := g.pos.trans h.pos
  excl := g.excl.trans h.excl
  raim := g.raim.trans h.raim
  stat := fun f hf hlo => (g.stat f hf hlo).trans (h.stat f hf hlo)

theorem ite {c : Prop} [Decidable c] (h : KeepsFix s t) (g : KeepsFix s u) : KeepsFix s (if c then t else u) := by
  split
  · exact h
  · exact g

theorem of_same (hgnb : t.gnb = s.gnb) (hraim : t.reg 0x1404 = s.reg 0x1404) (hstat : t.reg 0x1401 = s.reg 0x1401) :
    KeepsFix s t :=
  ⟨by rw [hgnb], by rw [hgnb], by rw [hgnb], hraim, fun f hf _ => State.fld_of_reg f (by rw [hf]; exact hstat)⟩

theorem of_regs (hgnb : t.gnb = s.gnb) (hregs : t.regs = s.regs) : KeepsFix s t :=
  of_same hgnb (congrArg (fun g => spGet resetWord g 0x1404) hregs) (congrArg (fun g => spGet resetWord g 0x1401) hregs)

theorem setFld (s : State) {f : Fld} (v : Nat) (hstat : 0x1401 ≠ f.addr) (hraim : 0x1404 ≠ f.addr) : KeepsFix s (s.setFld f v) :=
  of_same rfl (s.reg_setFld_ne f v hraim) (s.reg_setFld_ne f v hstat)

theorem setState (s : State) (v : Nat) : KeepsFix s (s.setFld F.GNB_STAT_STATE v) :=
  ⟨rfl, rfl, rfl, s.reg_setFld_ne _ v (by decide),
    fun f _ hlo => s.fld_setFld_disj F.GNB_STAT_STATE f v (by decide) (.inr hlo)⟩

theorem setGnb (s : State) {x : GnbSt} (hl : x.lastFix = s.gnb.lastFix := by rfl) (hp : x.pos = s.gnb.pos := by rfl)
    (he : x.excl = s.gnb.excl := by rfl) : KeepsFix s (s.setGnb x) := ⟨hl, hp, he, rfl, fun _ _ _ => rfl⟩

theorem reported {A : List Nat} (h : Reported A s t) (hstat : 0x1401 ∉ A) (hraim : 0x1404 ∉ A) : KeepsFix s t :=
  of_same h.gnb (h.reg hraim) (h.reg hstat)

end KeepsFix

/-! ### The discipline of the timebase -/

theorem State.timeStep_gnb (s : State) (k : Int) : (s.timeStep k).gnb = s.gnb.shift k :=
  Reported.gnb (State.ringDrop_reported (A := timebaseRegs) _ 59 _ _ (by decide))

theorem State.discipline_gnb (s : State) (off : Rat) (b : Bool) :
    (s.discipline off b).gnb = s.gnb ∨ ∃ k, (s.discipline off b).gnb = s.gnb.shift k := by
  have hjump : ∀ (c : Prop) [Decidable c] (v : State) (k : Int),
      (if c then v.timeStep k else v).gnb = v.gnb ∨ (if c then v.timeStep k else v).gnb = v.gnb.shift k := by
    intro c _ v k
    split
    · exact .inr (v.timeStep_gnb k)
    · exact .inl rfl
  exact (hjump _ ((s.showOffset off).closeRun.chooseFreq off) _).imp id fun h => ⟨_, h⟩

/-- A discipline input moves the stamps of the snapshots only. -/
theorem State.discipline_keepsFix (s : State) (off : Rat) (b : Bool) : KeepsFix s (s.discipline off b) := by
  obtain ⟨u, r, hu, e⟩ := s.discipline_locked off b
  have hreg : ∀ i, i ∉ timebaseRegs → (s.discipline off b).reg i = s.reg i := e ▸ (hu.trans (u.lockedBy_retimed b r)).reg
  have hgnb := s.discipline_gnb off b
  generalize s.discipline off b = t at hreg hgnb
  refine ⟨?_, ?_, ?_, hreg _ (by decide), fun f hf _ => State.fld_of_reg f (hreg _ (by rw [hf]; decide))⟩ <;>
    obtain hgnb | ⟨k, hgnb⟩ := hgnb <;> rw [hgnb] <;> rfl

theorem State.setWrap_keepsFix (s : State) (w t leap : Nat) : KeepsFix s (s.setWrap w t leap) := by
  obtain ⟨u, x, hu, e⟩ := s.setWrap_eq w t leap
  have hset : KeepsFix s u := hu ▸ (KeepsFix.setFld s x (by decide) (by decide)).trans (.setFld _ leap (by decide) (by decide))
  rw [e]
  exact hset.trans (.of_regs rfl rfl)

theorem State.giveBias_keepsFix (s : State) (m : FixMeas) (b : Int) : KeepsFix s (s.giveBias m b) :=
  .ite ((s.discipline_keepsFix b false).trans (State.setWrap_keepsFix _ _ _ _)) (.refl s)

/-- The clock check changes STATE, its counters and the timebase. -/
theorem State.clockCheck_keepsFix (s : State) (m : FixMeas) (b : Int) : KeepsFix s (s.clockCheck m b) := by
  have hshow : KeepsFix s (s.setFldSat F.GNB_CLKRES_BIAS b) := .setFld s _ (by decide) (by decide)
  have hgive : ∀ (v : State) (x : GnbSt), x.lastFix = v.gnb.lastFix → x.pos = v.gnb.pos → x.excl = v.gnb.excl →
      KeepsFix v (((v.setGnb x).setFld F.GNB_STAT_STATE 4).giveBias m b) := fun v x hl hp he =>
    ((KeepsFix.setGnb v hl hp he).trans (.setState _ 4)).trans (State.giveBias_keepsFix _ m b)
  unfold State.clockCheck
  extract_lets +onlyGivenNames u
  refine hshow.trans ?_
  split
  · extract_lets +onlyGivenNames r _ v
    have hrun : KeepsFix u v := (KeepsFix.setGnb u).trans (.setState _ 3)
    exact .ite (hrun.trans (hgive _ _ rfl rfl rfl)) hrun
  · extract_lets +onlyGivenNames _ v _ w fits
    have hrun : KeepsFix u v := .setGnb u
    have hfail : KeepsFix u w :=
      (hrun.trans (.setState _ 3)).trans (KeepsFix.setFld _ (f := F.GNB_CLK_CLKFAIL) _ (by decide) (by decide))
    refine .ite (hrun.trans (hgive _ _ rfl rfl rfl)) (.ite ?_ ?_)
    · exact (hfail.trans (.setGnb w)).trans (State.giveBias_keepsFix _ m b)
    · extract_lets +onlyGivenNames k run full _ x
      have hheld : KeepsFix u x := hfail.trans (.setGnb w)
      refine .ite (hheld.trans ?_) hheld
      exact .reported (x.report_reported srcGnssClk 0) (by decide) (by decide)

/-! ### GNSS travel and the blend -/

theorem State.takeAnchor_keepsFix (s : State) (e n : Int) : KeepsFix s (s.takeAnchor e n) := by
  unfold State.takeAnchor
  extract_lets +onlyGivenNames a
  exact KeepsFix.trans (.setGnb s) (KeepsFix.setFld _ (f := F.GNB_ANCH_ANCHORS) _ (by decide) (by decide))

/-- The anchor that a valid fix at `e`, `n` finds or takes. -/
def State.anchored (s : State) (e n : Int) : State := if s.gnb.anchor.isNone || s.gnb.reanchor then s.takeAnchor e n else s

/-- GNSS travel `g` at speed `v`, with what the anchor's travel held of bias and offset, is shown and held as a source. -/
def State.giveTravel (s : State) (g : Nat) (v b : Int) : State :=
  let u := ((s.setFld F.GNB_GTRAV_TRAV g).setFld F.GNB_GFIXT_TIME s.now).setFldI F.GNB_GSPEED_SPEED v
  { u with trv := { u.trv with fix := some { x := g, v := v, t := u.now }, fixBase := b, fixCc := some u.clk.cc } }

theorem State.travelFix_cases (s : State) (e n ve vn : Int) : s.travelFix e n ve vn = s ∨
    s.travelFix e n ve vn = s.anchored e n ∨ ∃ g v b, s.travelFix e n ve vn = (s.anchored e n).giveTravel g v b := by
  unfold State.travelFix
  split
  · exact .inl rfl
  · extract_lets +onlyGivenNames u
    have hu : u = s.anchored e n := rfl
    clear_value u
    subst hu
    refine .inr ?_
    split
    · exact .inl rfl
    · exact .inr ⟨_, _, _, rfl⟩

theorem State.giveTravel_keepsFix (s : State) (g : Nat) (v b : Int) : KeepsFix s (s.giveTravel g v b) := by
  have hset : ∀ (u : State) (f : Fld) (x : Nat), 0x1404 < f.addr → KeepsFix u (u.setFld f x) := fun u f x hf =>
    .setFld u x (by omega) (by omega)
  unfold State.giveTravel
  extract_lets +onlyGivenNames u
  have hshow : KeepsFix s u := ((hset s F.GNB_GTRAV_TRAV g (by decide)).trans (hset _ F.GNB_GFIXT_TIME s.now (by decide))).trans
    (hset _ F.GNB_GSPEED_SPEED (wrapW 40 v) (by decide))
  clear_value u
  exact hshow.trans (.of_regs rfl rfl)

theorem State.travelFix_keepsFix (s : State) (e n ve vn : Int) : KeepsFix s (s.travelFix e n ve vn) := by
  have hanchor : KeepsFix s (s.anchored e n) := .ite (s.takeAnchor_keepsFix e n) (.refl s)
  obtain h | h | ⟨g, v, b, h⟩ := s.travelFix_cases e n ve vn <;> rw [h]
  · exact .refl s
  · exact hanchor
  · exact hanchor.trans (State.giveTravel_keepsFix _ g v b)

theorem State.correct_keepsFix (s : State) (c : Int) : KeepsFix s (s.correct c) := by
  obtain ⟨g, r, p, h, e, -⟩ := s.correct_same c
  exact .of_same (by rw [e]) (s.correct_reg c (by decide)) (s.correct_reg c (by decide))

theorem State.blend_keepsFix (s : State) : KeepsFix s s.blend := by
  have hgive : ∀ (v : State) (c : Int),
      KeepsFix v ((v.update F.TRV_BIAS_BIAS (wrap40 (v.fldI F.TRV_BIAS_BIAS + c))).correct c) := by
    intro v c
    generalize wrap40 (v.fldI F.TRV_BIAS_BIAS + c) = x
    have hbias : ∀ i, i ≠ F.TRV_BIAS_BIAS.addr → (v.update F.TRV_BIAS_BIAS x).reg i = v.reg i :=
      fun i hi => v.update_reg_ne F.TRV_BIAS_BIAS x hi
    have hupdate : KeepsFix v (v.update F.TRV_BIAS_BIAS x) := .of_same rfl (hbias _ (by decide)) (hbias _ (by decide))
    exact hupdate.trans (State.correct_keepsFix _ c)
  have hset : ∀ (v : State) (f : Fld) (x : Nat), f.addr < 0x1400 → KeepsFix v (v.setFld f x) := fun v f x hf =>
    .setFld v x (by omega) (by omega)
  unfold State.blend
  split
  · exact .refl s
  · refine .ite (.refl s) (.ite (.refl s) ?_)
    extract_lets +onlyGivenNames e give
    refine .ite ((hset s F.TRV_BLSTAT_CONSEC 0 (by decide)).trans (hgive _ _)) ?_
    extract_lets +onlyGivenNames u
    have hrej : KeepsFix s u := (hset s F.TRV_BLSTAT_REJ _ (by decide)).trans (hset _ F.TRV_BLSTAT_CONSEC _ (by decide))
    exact .ite (((hrej.trans (hset u F.TRV_BLSTAT_RESEED _ (by decide))).trans (hset _ F.TRV_BLSTAT_CONSEC _ (by decide))).trans
      (hgive _ _)) hrej

end Sys2Proof.Machine
end

section
/-! PROOF. Fix epochs (O34): what the measurements, the solution and the residual check leave (R89, R93 to R95). -/

namespace Sys2Proof.Machine

open Sys2Proof

/-! ### The measurements of an epoch -/

/-- What measuring may write: system time, GNB_STAT and the channels' registers. -/
def MeasRegs (i : Nat) : Prop := i = 0x200 ∨ i = 0x1401 ∨ 0x1440 ≤ i ∧ i < 0x1470

theorem State.freeChan_baseband {A : Nat → Prop} (s : State) (n : Nat) (h : A (0x1440 + n)) : Baseband A s (s.freeChan n) :=
  (Baseband.setReg s 0 h).trans (.setGnb _ _)

theorem State.showTracking_baseband {A : Nat → Prop} (s : State) (h : A 0x1401) : Baseband A s s.showTracking := by
  have hshow : Baseband A s (s.setFld F.GNB_STAT_NTRK ((List.range 48).filter (fun n => s.chTrk n ≥ 3)).length) := .setFld s _ h
  exact .ite (hshow.trans (.setFld _ _ h)) hshow

theorem State.releaseChans_baseband (s : State) : Baseband MeasRegs s s.releaseChans :=
  .foldl (fun v n hn => .ite (v.freeChan_baseband n (.inr (.inr ⟨by omega, by have := List.mem_range.1 hn; omega⟩))) (.refl _ v)) s

theorem State.takeSbas_baseband {A : Nat → Prop} (s : State) (m : SbasMsg) : Baseband A s (s.takeSbas m) :=
  .ite (.refl A s) (.ite (.setGnb s _) (.ite (.refl A s) (.setGnb s _)))

theorem State.measureSat_baseband (s : State) (x : ChMeas) : Baseband MeasRegs s (s.measureSat x) := by
  have hch : MeasRegs (0x1440 + x.n.val) := .inr (.inr ⟨by omega, by omega⟩)
  unfold State.measureSat
  extract_lets +onlyGivenNames n sv
  refine .ite (.refl _ s) ?_
  extract_lets +onlyGivenNames _ u st
  have hnav : Baseband MeasRegs s u := .ite (.setGnb s _) (.refl _ s)
  exact ((hnav.trans (.setFld u _ hch)).trans (.setFld _ _ hch)).trans (.setFld _ _ hch)

/-- The node at the fix epoch, with the channels measured. -/
def State.measured (s : State) (m : FixMeas) : State :=
  ((m.sbas.foldl State.takeSbas ((m.chans.foldl State.measureSat (s.takeTenth clsFix)).releaseChans)).setFld
    F.GNB_STAT_STATE 2).showTracking

theorem State.measured_baseband (s : State) (m : FixMeas) : Baseband MeasRegs s (s.measured m) := by
  have htime : Baseband MeasRegs s (s.takeTenth clsFix) := s.takeTenth_baseband clsFix (.inl rfl)
  have hchans := htime.trans (Baseband.foldl (fun v x _ => v.measureSat_baseband x) (l := m.chans) _)
  have hsbas := (hchans.trans (State.releaseChans_baseband _)).trans
    (Baseband.foldl (fun v x _ => v.takeSbas_baseband x) (l := m.sbas) _)
  exact (hsbas.trans (.setFld _ _ (.inr (.inl rfl)))).trans (State.showTracking_baseband _ (.inr (.inl rfl)))

/-! ### The solution -/

theorem State.carryAnchor_same (s : State) (ms : List ChMeas) (p : Vec) : ∃ x, s.carryAnchor ms p = s.setGnb x := by
  unfold State.carryAnchor
  split
  · extract_lets clean
    split <;> exact ⟨_, rfl⟩
  · exact ⟨_, rfl⟩

/-- A solution at `p` has been found: the anchor is carried on, and this is the last epoch with a fix. -/
def State.solved (s : State) (ms : List ChMeas) (p : Vec) : State :=
  (s.carryAnchor ms p).setGnb { (s.carryAnchor ms p).gnb with lastFix := some (s.carryAnchor ms p).clk.cc }

theorem State.solved_same (s : State) (ms : List ChMeas) (p : Vec) :
    ∃ x, s.solved ms p = s.setGnb x ∧ x.lastFix = some s.clk.cc := by
  obtain ⟨x, e⟩ := s.carryAnchor_same ms p
  rw [State.solved, e]
  exact ⟨_, rfl, rfl⟩

/-! ### What a fix shows -/

/-- USED of every channel. -/
def State.showUsed (s : State) (xs : List Ranged) : State :=
  (List.range 48).foldl (fun s n => s.setFlag (F.GNB_CHk_USED n) (xs.any (fun p => p.n == n))) s

theorem State.showUsed_same (s : State) (xs : List Ranged) : (∃ g, s.showUsed xs = { s with regs := g }) ∧
    ∀ i, i < 0x1440 → (s.showUsed xs).reg i = s.reg i := by
  unfold State.showUsed
  generalize List.range 48 = l
  induction l generalizing s with
  | nil => exact ⟨⟨_, rfl⟩, fun _ _ => rfl⟩
  | cons n l ih =>
    obtain ⟨⟨g, e⟩, hreg⟩ := ih (s.setFlag (F.GNB_CHk_USED n) (xs.any (fun p => p.n == n)))
    have hne : ∀ i, i < 0x1440 → i ≠ 0x1440 + n := fun i hi => by omega
    exact ⟨⟨g, e⟩, fun i hi => (hreg i hi).trans (s.reg_setFld_ne (F.GNB_CHk_USED n) _ (hne i hi))⟩

theorem State.frame_congr {s t : State} (h : ∀ i, 0x140D ≤ i → i ≤ 0x140F → t.reg i = s.reg i) : t.frame = s.frame := by
  unfold State.frame
  rw [State.fldI_of_reg F.GNB_REFLAT_LAT (h _ (by decide) (by decide)), State.fldI_of_reg F.GNB_REFLON_LON (h _ (by decide) (by decide)),
    State.fldI_of_reg F.GNB_REFHGT_HGT (h _ (by decide) (by decide))]

theorem State.showFix_eq (s : State) (xs : List Ranged) (x : Sol) (b : Bool) : s.showFix xs x b =
    (((s.showUsed xs).setFld F.GNB_STAT_NSV (min 63 xs.length)).setFld F.GNB_STAT_HDOP
      (min 255 (hdopOf (s.showUsed xs).frame xs x (unknownsOf xs)))).setFlag F.GNB_STAT_EXCL b := rfl

theorem State.showFix_same (s : State) (xs : List Ranged) (x : Sol) (b : Bool) : (∃ g, s.showFix xs x b = { s with regs := g }) ∧
    ∀ i, i < 0x1440 → i ≠ 0x1401 → (s.showFix xs x b).reg i = s.reg i := by
  obtain ⟨⟨g, e⟩, hreg⟩ := s.showUsed_same xs
  refine ⟨?_, fun i hi hne => ?_⟩
  · rw [s.showFix_eq, e]
    exact ⟨_, rfl⟩
  · rw [s.showFix_eq, State.setFlag, State.reg_setFld_ne _ _ _ hne, State.reg_setFld_ne _ _ _ hne, State.reg_setFld_ne _ _ _ hne, hreg i hi]

/-- NSV, HDOP and EXCL of a fix. -/
theorem State.showFix_facts (s : State) (xs : List Ranged) (x : Sol) (b : Bool) :
    (s.showFix xs x b).fld F.GNB_STAT_NSV = min 63 xs.length ∧
      (s.showFix xs x b).fld F.GNB_STAT_HDOP = min 255 (hdopOf s.frame xs x (unknownsOf xs)) ∧
      (s.showFix xs x b).flag F.GNB_STAT_EXCL = b := by
  have hframe : (s.showUsed xs).frame = s.frame :=
    State.frame_congr fun i _ hi => (s.showUsed_same xs).2 i (by omega)
  have hnsv : min 63 xs.length < 2 ^ 6 := by omega
  rw [s.showFix_eq, hframe]
  generalize hdopOf s.frame xs x (unknownsOf xs) = h
  have hhdop : min 255 h < 2 ^ 8 := by omega
  refine ⟨?_, ?_, State.flag_setFlag_same _ F.GNB_STAT_EXCL b (by decide)⟩
  · rw [State.setFlag, State.fld_setFld_disj _ F.GNB_STAT_EXCL F.GNB_STAT_NSV _ (by decide) (by decide),
      State.fld_setFld_disj _ F.GNB_STAT_HDOP F.GNB_STAT_NSV _ (by decide) (by decide), State.fld_setFld_same _ _ _ (by decide)]
    exact Nat.mod_eq_of_lt hnsv
  · rw [State.setFlag, State.fld_setFld_disj _ F.GNB_STAT_EXCL F.GNB_STAT_HDOP _ (by decide) (by decide),
      State.fld_setFld_same _ _ _ (by decide)]
    exact Nat.mod_eq_of_lt hhdop

/-! ### A passing fix -/

/-- The position of a solution in mm. -/
def Sol.posMm (x : Sol) : Int × Int × Int := (x.pos.x / 2 ^ 20, x.pos.y / 2 ^ 20, x.pos.z / 2 ^ 20)

/-- The position of a solution is kept. -/
def State.placed (s : State) (x : Sol) : State := s.setGnb { s.gnb with pos := some x.posMm }

theorem State.invalidFix_keepsFix (s : State) : KeepsFix s s.invalidFix := .setGnb s

theorem State.goodFix_jammed (s : State) (m : FixMeas) (ms : List ChMeas) (xs : List Ranged) (x : Sol) (h : s.jammed = true) :
    s.goodFix m ms xs x = (s.placed x).invalidFix := if_pos h

/-- A passing fix keeps its position, and what it shows and excludes stays. -/
theorem State.goodFix_keepsFix (s : State) (m : FixMeas) (ms : List ChMeas) (xs : List Ranged) (x : Sol) :
    KeepsFix (s.placed x) (s.goodFix m ms xs x) := by
  have hclock : ∀ (v : State) (b : Int), KeepsFix v ((if v.flag F.GNB_CFG_TRAVEN then v.blend else v).clockCheck m b) :=
    fun v b => (KeepsFix.ite v.blend_keepsFix (.refl v)).trans (State.clockCheck_keepsFix _ m b)
  unfold State.goodFix
  extract_lets +onlyGivenNames _ u
  have hu : u = s.placed x := rfl
  clear_value u
  subst hu
  refine .ite (State.invalidFix_keepsFix _) ?_
  extract_lets +onlyGivenNames f d
  split
  extract_lets +onlyGivenNames v
  split
  exact (State.travelFix_keepsFix _ _ _ _ _).trans (hclock _ _)

end Sys2Proof.Machine
end

section
/-! PROOF. FIX_EPOCH (O34). -/

namespace Sys2Proof.Proofs

open Sys2Proof Sys2Proof.Machine

/-- The node after a solution `x` of the satellites `xs` and its residual check `c`. -/
def afterCheck (m : FixMeas) (ms : List ChMeas) (xs : List Ranged) (x : Sol) (v : State) : Check → State
  | .pass ys y => (v.showFix ys y false).goodFix m ms ys y
  | .without n ys y =>
    let w := v.setGnb { v.gnb with excl := spPut v.gnb.excl (v.chSv n) (v.clk.cc + secClocks (v.fld F.GNB_RAIM_EXCLHOLD)) }
    ((w.inc F.GNB_RAIM_EXCLCNT).showFix ys y true).goodFix m ms ys y
  | .fail =>
    let w := v.showFix xs x false
    (if xs.length - unknownsOf xs < 1 then w else w.inc F.GNB_RAIM_FAILCNT).invalidFix

theorem exec_fixEpoch_idle (s : State) (m : FixMeas) (hrun : s.boot.halted = false) (htrack : s.tracking = false) :
    exec (.fixEpoch m) s = .next s := by
  show execFixEpoch m s = _
  rw [execFixEpoch, s.clocked_running _ hrun, htrack]
  rfl

/-- A node that tracks measures, solves and checks. -/
theorem exec_fixEpoch_some (s : State) (m : FixMeas) (hrun : s.boot.halted = false) (htrack : s.tracking = true) {u : State}
    {xs : List Ranged} {x : Sol} (hu : u = s.measured m) (hxs : xs = (u.sats m).map u.ranged)
    (hfix : fixOf u.fixStart xs (unknownsOf xs) = some x) :
    exec (.fixEpoch m) s = .next (afterCheck m (u.sats m) xs x (u.solved (u.sats m) x.pos) (checkFix u.fixStart xs x)) := by
  show execFixEpoch m s = _
  rw [execFixEpoch, s.clocked_running _ hrun, if_neg (by simp [htrack])]
  extract_lets +onlyGivenNames a b c v ms ys
  have hv : v = u := hu.symm
  have hms : ms = u.sats m := by rw [← hv]
  have hys : ys = xs := by rw [hxs, ← hv]
  clear_value ys ms v
  subst hv hms hys
  rw [hfix]
  dsimp only
  cases checkFix v.fixStart ys x <;> rfl

theorem exec_fixEpoch_none (s : State) (m : FixMeas) (hrun : s.boot.halted = false) (htrack : s.tracking = true) {u : State}
    {xs : List Ranged} (hu : u = s.measured m) (hxs : xs = (u.sats m).map u.ranged)
    (hfix : fixOf u.fixStart xs (unknownsOf xs) = none) : exec (.fixEpoch m) s = .next u.invalidFix := by
  show execFixEpoch m s = _
  rw [execFixEpoch, s.clocked_running _ hrun, if_neg (by simp [htrack])]
  extract_lets +onlyGivenNames a b c v ms ys
  have hv : v = u := hu.symm
  have hys : ys = xs := by rw [hxs, ← hv]
  clear_value ys ms v
  subst hv hys
  rw [hfix]

/-! ### What the outcomes leave -/

/-- A fix that is used, from the state `w` in which its residuals have passed. -/
theorem usedFix_facts (w : State) (m : FixMeas) (ms : List ChMeas) (ys : List Ranged) (y : Sol) (b : Bool) :
    ∀ t, t = (w.showFix ys y b).goodFix m ms ys y →
      t.gnb.pos = some y.posMm ∧ t.fld F.GNB_STAT_NSV = min 63 ys.length ∧
      t.fld F.GNB_STAT_HDOP = min 255 (hdopOf w.frame ys y (unknownsOf ys)) ∧ t.flag F.GNB_STAT_EXCL = b ∧
      (w.jammed = true → t.trv = w.trv) ∧ t.gnb.lastFix = w.gnb.lastFix ∧ t.gnb.excl = w.gnb.excl ∧ t.reg 0x1404 = w.reg 0x1404 := by
  rintro t rfl
  obtain ⟨hlast, hpos, hexcl, hraim, hstat⟩ := (w.showFix ys y b).goodFix_keepsFix m ms ys y
  obtain ⟨hnsv, hhdop, hflag⟩ := w.showFix_facts ys y b
  obtain ⟨⟨g, hsame⟩, hreg⟩ := w.showFix_same ys y b
  have hgnb : (w.showFix ys y b).gnb = w.gnb := by rw [hsame]
  have hshown : ∀ f : Fld, f.addr = 0x1401 → 2 < f.lo →
      ((w.showFix ys y b).goodFix m ms ys y).fld f = (w.showFix ys y b).fld f :=
    fun f hf hlo => (hstat f hf hlo).trans (State.setGnb_fld _ _ f)
  refine ⟨hpos, ?_, ?_, ?_, fun hjam => ?_, ?_, ?_, ?_⟩
  · rw [hshown _ rfl (by decide), hnsv]
  · rw [hshown _ rfl (by decide), hhdop]
  · rw [State.flag_of_fld F.GNB_STAT_EXCL (hshown _ rfl (by decide)), hflag]
  · have hjam' : (w.showFix ys y b).jammed = true := by
      rw [State.jammed, State.fld_of_reg F.GNB_JAM_JAM (hreg _ (by decide) (by decide)),
        State.fld_of_reg F.GNB_JAM_JAMSTOP (hreg _ (by decide) (by decide))]
      exact hjam
    rw [State.goodFix_jammed _ m ms ys y hjam', hsame]
    rfl
  · rw [hlast, State.placed, State.setGnb_gnb, hgnb]
  · rw [hexcl, State.placed, State.setGnb_gnb, hgnb]
  · rw [hraim, State.placed, State.setGnb_reg, hreg 0x1404 (by decide) (by decide)]

/-- A fix that fails its check, from the state `v` of the solution. -/
theorem failedFix_facts (v : State) (xs : List Ranged) (x : Sol) (m : FixMeas) (ms : List ChMeas) :
    ∀ t, t = afterCheck m ms xs x v .fail → t.trv = v.trv ∧ t.gnb.clkRun = [] ∧ t.gnb.lastFix = v.gnb.lastFix ∧
      t.fld F.GNB_RAIM_FAILCNT = satAdd F.GNB_RAIM_FAILCNT.width (v.fld F.GNB_RAIM_FAILCNT)
        (if 1 ≤ xs.length - unknownsOf xs then 1 else 0) := by
  rintro t rfl
  obtain ⟨⟨g, hsame⟩, hreg⟩ := v.showFix_same xs x false
  have hcnt : (v.showFix xs x false).fld F.GNB_RAIM_FAILCNT = v.fld F.GNB_RAIM_FAILCNT :=
    State.fld_of_reg _ (hreg _ (by decide) (by decide))
  have hlt := v.fld_lt F.GNB_RAIM_FAILCNT
  rw [afterCheck]
  generalize v.showFix xs x false = w at hsame hcnt
  by_cases hdof : 1 ≤ xs.length - unknownsOf xs
  · rw [if_neg (by omega), if_pos hdof, ← hcnt, hsame]
    exact ⟨rfl, rfl, rfl, State.fld_inc_same _ F.GNB_RAIM_FAILCNT (by decide)⟩
  · rw [if_pos (by omega), if_neg hdof, ← hcnt, hsame]
    rw [hsame] at hcnt
    rw [← hcnt] at hlt
    exact ⟨rfl, rfl, rfl, (if_pos hlt).symm⟩

/-- A fix that passes without channel `n`, from the state `v` of the solution. -/
theorem leftOutFix_facts (v : State) (xs : List Ranged) (x : Sol) (m : FixMeas) (ms : List ChMeas) (n : Nat) (ys : List Ranged)
    (y : Sol) : ∀ t, t = afterCheck m ms xs x v (.without n ys y) →
      t.gnb.pos = some y.posMm ∧ t.fld F.GNB_STAT_NSV = min 63 ys.length ∧ t.flag F.GNB_STAT_EXCL = true ∧
      (v.jammed = true → t.trv = v.trv) ∧ t.gnb.lastFix = v.gnb.lastFix ∧
      (v.chSv n, v.clk.cc + secClocks (v.fld F.GNB_RAIM_EXCLHOLD)) ∈ t.gnb.excl ∧
      t.fld F.GNB_RAIM_EXCLCNT = satAdd F.GNB_RAIM_EXCLCNT.width (v.fld F.GNB_RAIM_EXCLCNT) 1 := by
  intro t ht
  rw [afterCheck] at ht
  generalize hw : v.setGnb _ = w at ht
  have hcount := w.fld_inc_same F.GNB_RAIM_EXCLCNT (by decide)
  obtain ⟨hpos, hnsv, -, hexcl, hjam, hlast, hheld, hraim⟩ := usedFix_facts (w.inc F.GNB_RAIM_EXCLCNT) m ms ys y true t ht
  rw [← hw] at hcount hlast hheld hraim hjam
  refine ⟨hpos, hnsv, hexcl, fun h => hjam ?_, hlast, ?_, (State.fld_of_reg _ hraim).trans hcount⟩
  · rw [State.jammed, State.inc, State.incBy, State.fld_setFld_ne _ _ F.GNB_JAM_JAM _ (by decide),
      State.fld_setFld_ne _ _ F.GNB_JAM_JAMSTOP _ (by decide)]
    exact h
  · rw [hheld]
    exact mem_spPut_self _ _ _

/-- Settles O34: the channels measured change the baseband only, and the outcome of the residual check decides between a fix that
is used and one that is not. -/
theorem fixEpochsAreChecked : Obligations.FixEpochsAreChecked := by
  unfold Obligations.FixEpochsAreChecked
  refine ⟨exec_fixEpoch_idle, fun s u m xs hrun htrack hu hxs => ⟨exec_fixEpoch_none s m hrun htrack hu hxs, fun x hfix => ?_⟩⟩
  have hmeas : Baseband MeasRegs s u := hu ▸ s.measured_baseband m
  have hraim : u.reg 0x1404 = s.reg 0x1404 := hmeas.reg (by unfold MeasRegs; omega)
  refine ⟨_, exec_fixEpoch_some s m hrun htrack hu hxs hfix, ?_⟩
  obtain ⟨z, hsolved, hlast⟩ := u.solved_same (u.sats m) x.pos
  rw [hsolved]
  generalize checkFix u.fixStart xs x = c
  have hfail := failedFix_facts (u.setGnb z) xs x m (u.sats m)
  have hpass := fun ys y => usedFix_facts (u.setGnb z) m (u.sats m) ys y false
  have hout := fun n ys y => leftOutFix_facts (u.setGnb z) xs x m (u.sats m) n ys y
  cases c with
  | pass ys y =>
    obtain ⟨hpos, hnsv, hhdop, hexcl, hjam, hkept, -, -⟩ := hpass ys y _ rfl
    refine ⟨hkept.trans hlast, ?_, fun _ _ _ e => (nomatch e), fun e => (nomatch e)⟩
    rintro _ _ ⟨⟩
    exact ⟨hpos, hnsv, hhdop, hexcl, fun h => (hjam h).trans hmeas.trv⟩
  | without n ys y =>
    obtain ⟨hpos, hnsv, hexcl, hjam, hkept, hmem, hcnt⟩ := hout n ys y _ rfl
    refine ⟨hkept.trans hlast, fun _ _ e => (nomatch e), ?_, fun e => (nomatch e)⟩
    rintro _ _ _ ⟨⟩
    refine ⟨hpos, hnsv, hexcl, fun h => (hjam h).trans hmeas.trv, hmem, hcnt.trans ?_⟩
    exact congrArg (fun k => satAdd _ k 1) (State.fld_of_reg F.GNB_RAIM_EXCLCNT hraim)
  | fail =>
    obtain ⟨htrv, hrun', hkept, hcnt⟩ := hfail _ rfl
    refine ⟨hkept.trans hlast, fun _ _ e => (nomatch e), fun _ _ _ e => (nomatch e), fun _ => ⟨htrv.trans hmeas.trv, hrun', hcnt.trans ?_⟩⟩
    exact congrArg (fun k => satAdd _ k _) (State.fld_of_reg F.GNB_RAIM_FAILCNT hraim)

end Sys2Proof.Proofs
end

section
/-! PROOF. The antenna (R85): what its current leaves, and the registers of GNB_STAT that a report leaves. -/

namespace Sys2Proof.Machine

open Sys2Proof

/-! ### A flag that is set and reported once -/

/-- Flag `f` is set; where it was not, that is reported. -/
def State.flagOnce (s : State) (f : Fld) (src : Nat) : State := if s.flag f then s else (s.setFlag f true).report src 0

theorem State.flagOnce_reported (s : State) (f : Fld) (src : Nat) : Reported (f.addr :: reportRegs src) s (s.flagOnce f src) := by
  unfold State.flagOnce
  split
  · exact .refl _ s
  · have hset : Reported (f.addr :: reportRegs src) s (s.setFlag f true) :=
      ⟨⟨_, _, _, _, _, rfl⟩, fun i hi => s.reg_setFld_ne f _ fun e => hi (e ▸ List.mem_cons_self)⟩
    exact hset.trans ((State.report_reported _ src 0).mono (List.subset_cons_self _ _))

theorem State.flagOnce_flag (s : State) {f : Fld} {src : Nat} (hok : f.ok = true) (hf : f.addr ∉ reportRegs src) :
    (s.flagOnce f src).flag f = true := by
  unfold State.flagOnce
  split
  · assumption
  · rw [State.flag_of_reg f (Reported.reg (State.report_reported _ src 0) hf)]
    exact s.flag_setFlag_same f true hok

/-- Another flag of the register stays. -/
theorem State.flagOnce_disj (s : State) {f g : Fld} {src : Nat} (hok : f.ok = true) (hg : g.addr ∉ reportRegs src)
    (hd : g.hi < f.lo ∨ f.hi < g.lo) : (s.flagOnce f src).flag g = s.flag g := by
  unfold State.flagOnce
  split
  · rfl
  · rw [State.flag_of_reg g (Reported.reg (State.report_reported _ src 0) hg)]
    exact s.flag_setFld_disj f g _ hok hd

/-! ### The bias current -/

/-- A short removes the bias. -/
def State.unbias (s : State) : State := s.setGnb { s.gnb with antOff := some s.clk.cc }

theorem State.antenna_short (s : State) {ua : Nat} (h : 80000 < ua) :
    s.antenna ua = s.unbias.flagOnce F.GNB_STAT_ANTSHORT srcAntenna := if_pos h

theorem State.antenna_open (s : State) {ua : Nat} (h : ua < 2000) :
    s.antenna ua = s.flagOnce F.GNB_STAT_ANTOPEN srcAntenna := by
  rw [State.antenna, if_neg (by omega), if_pos h]
  rfl

theorem State.antenna_good (s : State) {ua : Nat} (hlo : 2000 ≤ ua) (hhi : ua ≤ 80000) :
    s.antenna ua = s.setFlag F.GNB_STAT_ANTOPEN false := by
  rw [State.antenna, if_neg (by omega), if_neg (by omega)]

theorem State.antenna_short_facts (s : State) {ua : Nat} (h : 80000 < ua) : ∀ t, t = s.antenna ua →
    t.flag F.GNB_STAT_ANTSHORT = true ∧ t.gnb.antOff = some s.clk.cc ∧ t.clk = s.clk ∧ t.mem = s.mem := by
  rintro t rfl
  have hrep := s.unbias.flagOnce_reported F.GNB_STAT_ANTSHORT srcAntenna
  rw [s.antenna_short h, hrep.gnb, hrep.clk, hrep.mem]
  exact ⟨State.flagOnce_flag _ (by decide) (by decide), rfl, rfl, rfl⟩

/-- Up to 80 mA the flag of an open antenna follows the current, and that of a short stays. -/
theorem State.antenna_unshorted_facts (s : State) {ua : Nat} (h : ua ≤ 80000) : ∀ t, t = s.antenna ua →
    t.flag F.GNB_STAT_ANTOPEN = decide (ua < 2000) ∧ t.flag F.GNB_STAT_ANTSHORT = s.flag F.GNB_STAT_ANTSHORT ∧ t.gnb = s.gnb ∧
      t.clk = s.clk ∧ t.mem = s.mem := by
  rintro t rfl
  by_cases hopen : ua < 2000
  · have hrep := s.flagOnce_reported F.GNB_STAT_ANTOPEN srcAntenna
    rw [s.antenna_open hopen, hrep.gnb, hrep.clk, hrep.mem, decide_eq_true hopen]
    exact ⟨s.flagOnce_flag (by decide) (by decide), s.flagOnce_disj (by decide) (by decide) (by decide), rfl, rfl, rfl⟩
  · rw [s.antenna_good (by omega) h, decide_eq_false hopen]
    exact ⟨s.flag_setFlag_same _ _ (by decide), s.flag_setFld_disj _ _ _ (by decide) (by decide), rfl, rfl, rfl⟩

/-- The bias is applied again 10 s after `c`. -/
def State.rebias (s : State) (c : Nat) : State := (s.advCcTo (c + secClocks 10)).setGnb { s.gnb with antOff := none }

theorem State.rebias_baseband (s : State) (c : Nat) : Baseband (· = 0x200) s (s.rebias c) :=
  (Baseband.advCcTo s _ (by rfl)).trans (.setGnb _ _)

theorem State.rebias_cc (s : State) (c : Nat) : c + secClocks 10 ≤ (s.rebias c).clk.cc := by
  rw [State.rebias, State.setGnb_clk, s.advCcTo_cc]
  exact Nat.le_max_right _ _

theorem State.gnssPowered_congr {s t : State} (h : t.reg F.MOD_STAT_MODE.addr = s.reg F.MOD_STAT_MODE.addr) :
    t.gnssPowered = s.gnssPowered := by
  unfold State.gnssPowered State.modeNow
  rw [State.fld_of_reg F.MOD_STAT_MODE h]

theorem State.rebias_biased (s : State) (c : Nat) (hpow : s.gnssPowered = true)
    (hbias : s.fld F.GNB_CFG_BIAS = 1 ∨ s.fld F.GNB_CFG_BIAS = 2) : (s.rebias c).biased = true := by
  have h := s.rebias_baseband c
  have hnone : (s.rebias c).gnb.antOff = none := rfl
  unfold State.biased
  rw [h.fld F.GNB_CFG_BIAS (by decide), State.gnssPowered_congr (h.reg (by decide)), hpow, hnone]
  simpa using hbias

end Sys2Proof.Machine
end

section
/-! PROOF. Interference (R87): the counts of the bins, and the notches that a spectrum leaves. -/

namespace Sys2Proof.Machine

open Sys2Proof

/-! ### The counts -/

/-- The counts after a spectrum with the bins `high` above THR; a bin's count is `g` of the bin. -/
theorem spGet_foldl_spPut {α : Type} (d g : Nat → α) (high : List SpecBin) (m : List (Nat × α)) (n : Nat) :
    spGet d (high.foldl (fun m b => spPut m b.bin.val (g b.bin.val)) m) n =
      if high.any (fun b => b.bin.val == n) then g n else spGet d m n := by
  induction high generalizing m with
  | nil => rfl
  | cons b high ih =>
    rw [List.foldl_cons, ih, List.any_cons]
    by_cases hb : b.bin.val = n
    · subst hb
      simp [spGet_spPut_same]
    · rw [spGet_spPut_ne d m _ (Ne.symm hb)]
      simp [hb]

/-! ### The notches -/

/-- Bin `b` is bin `a` or a neighbour of it. -/
def Near (a b : Nat) : Prop := b = a ∨ b = (a + 1) % 256 ∨ (b + 1) % 256 = a

/-- A notch `p` follows one of the notches `ns`, or stands in a bin with a count of 10 or more among `runs`. -/
def Founded (ns : List (Nat × Notch)) (runs : List (Nat × Nat)) (p : Nat × Notch) : Prop :=
  (∃ q ∈ ns, q.1 = p.1 ∧ Near q.2.bin p.2.bin) ∨ 10 ≤ spGet (fun _ => 0) runs p.2.bin

/-- The counts are `runs`, and every notch in use is `Founded` on them and on the notches `ns` before the spectrum. -/
structure Notched (ns : List (Nat × Notch)) (runs : List (Nat × Nat)) (s : State) : Prop where
  bins : s.gnb.bins = runs
  notch : ∀ p ∈ s.gnb.notch, Founded ns runs p

section

variable {ns : List (Nat × Notch)} {runs : List (Nat × Nat)}

theorem Notched.putNotch {s : State} (h : Notched ns runs s) {k : Nat} {x : Notch} (hx : Founded ns runs (k, x)) :
    Notched ns runs (s.putNotch k x) := by
  refine ⟨h.bins, fun p hp => ?_⟩
  obtain rfl | hp := mem_spPut (show p ∈ spPut s.gnb.notch k x from hp)
  · exact hx
  · exact h.notch p hp

theorem Notched.dropNotch {s : State} (h : Notched ns runs s) (k : Nat) : Notched ns runs (s.dropNotch k) :=
  ⟨h.bins, fun p hp => h.notch p (mem_spDel.1 (show p ∈ spDel s.gnb.notch k from hp)).1⟩

theorem mem_of_strongest {l : List SpecBin} {b : SpecBin} (h : strongest l = some b) : b ∈ l := by
  induction l generalizing b with
  | nil => exact nomatch h
  | cons c l ih =>
    rw [strongest] at h
    split at h
    · cases h
      exact List.mem_cons_self
    · next e heq =>
      split at h <;> cases h
      · exact List.mem_cons_of_mem c (ih heq)
      · exact List.mem_cons_self

theorem nearBin_iff (n : Nat) (b : SpecBin) : nearBin n b = true ↔ Near n b.bin.val := by
  simp [nearBin, Near, or_assoc]

/-- A notch goes where its interferer is strongest, in its bin or a neighbour. -/
theorem Notched.followNotch {s : State} (h : Notched ns runs s) (bs : List SpecBin) {k : Nat} {x : Notch} (hx : (k, x) ∈ ns) :
    Notched ns runs (s.followNotch bs k x) := by
  unfold State.followNotch
  extract_lets +onlyGivenNames thr taken y low u
  have hnear : Near x.bin y.bin := by
    unfold y
    split
    · next b hb => exact (nearBin_iff _ _).1 (Bool.and_eq_true_iff.1 (List.mem_filter.1 (mem_of_strongest hb)).2).1
    · exact .inl rfl
  have hput : Notched ns runs u := h.putNotch (.inl ⟨_, hx, rfl, hnear⟩)
  clear_value u low
  split
  · split
    · exact hput.dropNotch k
    · exact hput
  · exact hput

/-- A notch is given to a bin with a count of 10 or more. -/
theorem Notched.serveBin {s : State} (h : Notched ns runs s) (b : SpecBin) : Notched ns runs (s.serveBin b) := by
  unfold State.serveBin
  extract_lets +onlyGivenNames run
  split
  · exact h
  · next hrun =>
    have hten : 10 ≤ spGet (fun _ => 0) runs b.bin.val := by
      rw [← h.bins]
      simp only [Bool.or_eq_true, decide_eq_true_eq, not_or] at hrun
      exact Nat.not_lt.1 hrun.1
    have hgive : ∀ (v : State) (k : Nat), Notched ns runs v → Notched ns runs (v.giveNotch k b) :=
      fun v k hv => hv.putNotch (.inr hten)
    split
    · exact hgive s _ h
    · extract_lets +onlyGivenNames v
      have hv : Notched ns runs v := by
        unfold v
        split
        · exact ⟨h.bins, h.notch⟩
        · exact h
      split
      · split
        · exact hgive v _ hv
        · exact hv
      · exact hv

theorem Notched.foldl {α : Type} {f : State → α → State} {l : List α} (hf : ∀ v, ∀ x ∈ l, Notched ns runs v → Notched ns runs (f v x))
    {s : State} (h : Notched ns runs s) : Notched ns runs (l.foldl f s) := by
  induction l generalizing s with
  | nil => exact h
  | cons x l ih => exact ih (fun v y hy => hf v y (List.mem_cons_of_mem x hy)) (hf s x List.mem_cons_self h)

end

/-- Notches that are dropped are gone. -/
theorem State.mem_dropNotches {s : State} {l : List (Nat × Notch)} {p : Nat × Notch}
    (h : p ∈ (l.foldl (fun s q => s.dropNotch q.1) s).gnb.notch) : p ∈ s.gnb.notch ∧ ∀ q ∈ l, p.1 ≠ q.1 := by
  induction l generalizing s with
  | nil => exact ⟨h, fun _ hq => nomatch hq⟩
  | cons q l ih =>
    obtain ⟨hp, hl⟩ := ih h
    obtain ⟨hmem, hne⟩ := mem_spDel.1 (show p ∈ spDel s.gnb.notch q.1 from hp)
    exact ⟨hmem, List.forall_mem_cons.2 ⟨hne, hl⟩⟩

/-! ### What a spectrum leaves of the rest -/

theorem State.putNotch_baseband (s : State) (k : Nat) (x : Notch) : Baseband (fun _ => True) s (s.putNotch k x) :=
  (((Baseband.setGnb s _).trans (.setFld _ _ trivial)).trans (.setFld _ _ trivial)).trans (.setFld _ (f := F.GNB_NOTCHk_FREQ k) _ trivial)

theorem State.dropNotch_baseband (s : State) (k : Nat) : Baseband (fun _ => True) s (s.dropNotch k) :=
  (Baseband.setReg s _ trivial).trans (.setGnb _ _)

theorem State.followNotch_baseband (s : State) (bs : List SpecBin) (k : Nat) (x : Notch) :
    Baseband (fun _ => True) s (s.followNotch bs k x) := by
  unfold State.followNotch
  extract_lets +onlyGivenNames thr taken y low u
  have hput : Baseband (fun _ => True) s u := s.putNotch_baseband k _
  clear_value u low
  split
  · exact .ite (hput.trans (u.dropNotch_baseband k)) hput
  · exact hput

theorem State.serveBin_baseband (s : State) (b : SpecBin) : Baseband (fun _ => True) s (s.serveBin b) := by
  unfold State.serveBin
  extract_lets +onlyGivenNames run
  refine .ite (.refl _ s) ?_
  split
  · exact s.putNotch_baseband _ _
  · extract_lets +onlyGivenNames v
    have hv : Baseband (fun _ => True) s v := .ite (.setFld s (f := F.GNB_NCFG_OVF) _ trivial) (.refl _ s)
    split
    · exact .ite (hv.trans (v.putNotch_baseband _ _)) hv
    · exact hv

end Sys2Proof.Machine
end

section
/-! PROOF. The antenna and interference commands (O32): ANTENNA_FAULT, ANTENNA_FAULT_END, ANTENNA_BIAS_RETRY, SPECTRAL_MONITOR and
JAM_UPDATE (R85, R87, R88). -/

namespace Sys2Proof.Proofs

open Sys2Proof Sys2Proof.Machine

/-! ### The antenna -/

theorem exec_antennaFault (s : State) (ua : Nat) (hrun : s.boot.halted = false) : exec (.antennaFault ua) s =
    .next (if s.biased && (ua < 2000 || ua > 80000) then s.antenna ua else s) := by
  show execAntennaFault ua s = _
  rw [execAntennaFault, s.clocked_running _ hrun]
  split <;> rfl

theorem exec_antennaFaultEnd (s : State) (ua : Nat) (hrun : s.boot.halted = false) : exec (.antennaFaultEnd ua) s =
    .next (if s.biased && 2000 ≤ ua && ua ≤ 80000 then s.antenna ua else s) := by
  show execAntennaFaultEnd ua s = _
  rw [execAntennaFaultEnd, s.clocked_running _ hrun]
  split <;> rfl

/-- The bias is applied again, and the current judged: up to 80 mA the short is over. -/
theorem exec_antennaBiasRetry (s : State) (ua : Nat) {c : Nat} (hrun : s.boot.halted = false) (hoff : s.gnb.antOff = some c)
    (hbiased : (s.rebias c).biased = true) : exec (.antennaBiasRetry ua) s =
      .next (if ua > 80000 then (s.rebias c).antenna ua else ((s.rebias c).setFlag F.GNB_STAT_ANTSHORT false).antenna ua) := by
  show execAntennaBiasRetry ua s = _
  rw [execAntennaBiasRetry, s.clocked_running _ hrun, hoff]
  change (if !(s.rebias c).biased then ok (s.rebias c) else if ua > 80000 then ok ((s.rebias c).antenna ua)
    else ok (((s.rebias c).setFlag F.GNB_STAT_ANTSHORT false).antenna ua)) = _
  rw [hbiased, if_neg (by decide)]
  split <;> rfl

theorem antennaFault_facts (s : State) (ua : Nat) (hrun : s.boot.halted = false) (hbiased : s.biased = true) :
    (80000 < ua → ∃ t : State, exec (.antennaFault ua) s = .next t ∧ t.flag F.GNB_STAT_ANTSHORT = true ∧
        t.gnb.antOff = some s.clk.cc ∧ t.mem = s.mem) ∧
      (ua < 2000 → ∃ t : State, exec (.antennaFault ua) s = .next t ∧ t.flag F.GNB_STAT_ANTOPEN = true ∧
        t.gnb = s.gnb ∧ t.mem = s.mem) ∧
      (2000 ≤ ua → ua ≤ 80000 → exec (.antennaFaultEnd ua) s = .next (s.setFlag F.GNB_STAT_ANTOPEN false)) := by
  rw [exec_antennaFault s ua hrun, exec_antennaFaultEnd s ua hrun, hbiased]
  refine ⟨fun h => ⟨_, rfl, ?_⟩, fun h => ⟨_, rfl, ?_⟩, fun hlo hhi => ?_⟩
  · rw [if_pos (by simp [h])]
    obtain ⟨hflag, hoff, -, hmem⟩ := s.antenna_short_facts h _ rfl
    exact ⟨hflag, hoff, hmem⟩
  · rw [if_pos (by simp [h])]
    obtain ⟨hflag, -, hgnb, -, hmem⟩ := s.antenna_unshorted_facts (show ua ≤ 80000 by omega) _ rfl
    exact ⟨hflag.trans (decide_eq_true h), hgnb, hmem⟩
  · rw [if_pos (by simp [hlo, hhi]), s.antenna_good hlo hhi]

theorem antennaBiasRetry_facts (s : State) (ua : Nat) {c : Nat} (hrun : s.boot.halted = false) (hoff : s.gnb.antOff = some c)
    (hpow : s.gnssPowered = true) (hbias : s.fld F.GNB_CFG_BIAS = 1 ∨ s.fld F.GNB_CFG_BIAS = 2) :
    ∃ t : State, exec (.antennaBiasRetry ua) s = .next t ∧ c + secClocks 10 ≤ t.clk.cc ∧
      (80000 < ua → t.gnb.antOff = some t.clk.cc ∧ t.flag F.GNB_STAT_ANTSHORT = true) ∧
      (ua ≤ 80000 → t.gnb.antOff = none ∧ t.flag F.GNB_STAT_ANTSHORT = false ∧ t.flag F.GNB_STAT_ANTOPEN = decide (ua < 2000)) := by
  refine ⟨_, exec_antennaBiasRetry s ua hrun hoff (s.rebias_biased c hpow hbias), ?_⟩
  have hcc := s.rebias_cc c
  by_cases h : 80000 < ua
  · obtain ⟨hflag, hoff', hclk, -⟩ := (s.rebias c).antenna_short_facts h _ rfl
    rw [if_pos h, hclk, hoff']
    exact ⟨hcc, fun _ => ⟨rfl, hflag⟩, fun h' => absurd h (by omega)⟩
  · obtain ⟨hopen, hshort, hgnb, hclk, -⟩ :=
      State.antenna_unshorted_facts ((s.rebias c).setFlag F.GNB_STAT_ANTSHORT false) (Nat.not_lt.1 h) _ rfl
    have hnone : (s.rebias c).gnb.antOff = none := rfl
    rw [if_neg h, hclk, hgnb, hshort, hopen, State.setFlag_clk, State.setFlag_gnb, hnone]
    exact ⟨hcc, fun h' => absurd h' h, fun _ => ⟨rfl, State.flag_setFlag_same _ _ _ (by decide), rfl⟩⟩

/-! ### The spectrum -/

/-- Whether the baseband runs in one of the modes of GNB_CFG. -/
def Active (s : State) : Prop := s.gnssPowered = true ∧ s.fld F.GNB_CFG_MODE ≠ 0

theorem active_iff (s : State) : (!s.gnssPowered || decide (s.fld F.GNB_CFG_MODE = 0)) = false ↔ Active s := by
  simp [Active]

/-- The spectrum `bins` of the next 1 ms instant is counted. -/
def countBins (s : State) (bins : List SpecBin) : State :=
  let u := s.takeInstant clsSpectral 1024 0
  let high := bins.filter (fun b => b.pwr > 8 * u.fld F.GNB_NCFG_THR)
  u.setGnb { u.gnb with
    bins := high.foldl (fun m b => spPut m b.bin.val (min 11 (spGet (fun _ => 0) u.gnb.bins b.bin.val + 1))) [] }

/-- The notches of `v` follow their interferers, and the bins `high` are served, the strongest first. -/
def followBins (v : State) (bins high : List SpecBin) : State :=
  (high.foldl (fun m b => insBin b m) []).foldl State.serveBin (v.gnb.notch.foldl (fun s p => s.followNotch bins p.1 p.2) v)

theorem exec_spectralMonitor (s : State) (bins : List SpecBin) (hrun : s.boot.halted = false) (hact : Active s) : ∃ high : List SpecBin,
    exec (.spectralMonitor bins) s = .next (if (countBins s bins).flag F.GNB_NCFG_EN then followBins (countBins s bins) bins high
      else (countBins s bins).gnb.notch.foldl (fun s p => s.dropNotch p.1) (countBins s bins)) := by
  refine ⟨bins.filter (fun b => b.pwr > 8 * (s.takeInstant clsSpectral 1024 0).fld F.GNB_NCFG_THR), ?_⟩
  show execSpectralMonitor bins s = _
  rw [execSpectralMonitor, s.clocked_running _ hrun, if_neg (by rw [(active_iff s).2 hact]; decide)]
  extract_lets +onlyGivenNames u high runs _ v
  have hv : v = countBins s bins := rfl
  rw [← hv]
  clear_value v
  split <;> rfl

theorem countBins_facts (s : State) (bins : List SpecBin) : Baseband (· = 0x200) s (countBins s bins) ∧
    (countBins s bins).gnb.notch = s.gnb.notch ∧ ∀ n, spGet (fun _ => 0) (countBins s bins).gnb.bins n =
      if bins.any (fun b => b.bin.val == n && b.pwr > 8 * s.fld F.GNB_NCFG_THR) then min 11 (spGet (fun _ => 0) s.gnb.bins n + 1)
      else 0 := by
  obtain ⟨g, k, hsame⟩ := s.takeInstant_same clsSpectral 1024 0
  have hinst : Baseband (· = 0x200) s (s.takeInstant clsSpectral 1024 0) :=
    ⟨⟨g, k, _, _, hsame⟩, fun i hi => s.takeInstant_reg _ _ _ hi⟩
  have hthr := hinst.fld F.GNB_NCFG_THR (by decide)
  have hgnb : (s.takeInstant clsSpectral 1024 0).gnb = s.gnb := by rw [hsame]
  unfold countBins
  dsimp only
  rw [hthr]
  generalize s.takeInstant clsSpectral 1024 0 = u at hinst hgnb
  rw [State.setGnb_gnb, hgnb]
  refine ⟨hinst.trans (.setGnb u _), rfl, fun n => ?_⟩
  dsimp only
  rw [spGet_foldl_spPut (fun _ => 0) (fun k => min 11 (spGet (fun _ => 0) s.gnb.bins k + 1)), List.any_filter]
  simp only [Bool.and_comm, spGet]

/-- What a spectrum leaves. -/
theorem spectralMonitor_facts (s : State) (bins : List SpecBin) (hrun : s.boot.halted = false) (hact : Active s) :
    ∃ t : State, exec (.spectralMonitor bins) s = .next t ∧ t.queues = s.queues ∧ t.mem = s.mem ∧
      (∀ n, spGet (fun _ => 0) t.gnb.bins n =
        if bins.any (fun b => b.bin.val == n && b.pwr > 8 * s.fld F.GNB_NCFG_THR) then min 11 (spGet (fun _ => 0) s.gnb.bins n + 1)
        else 0) ∧
      (s.flag F.GNB_NCFG_EN = false → t.gnb.notch = []) ∧ ∀ p ∈ t.gnb.notch, Founded s.gnb.notch t.gnb.bins p := by
  obtain ⟨high, hexec⟩ := exec_spectralMonitor s bins hrun hact
  obtain ⟨hcount, hnotch, hbins⟩ := countBins_facts s bins
  have hen : (countBins s bins).flag F.GNB_NCFG_EN = s.flag F.GNB_NCFG_EN := hcount.flag _ (by decide)
  generalize countBins s bins = v at hexec hcount hnotch hbins hen
  have hstart : Notched s.gnb.notch v.gnb.bins v :=
    ⟨rfl, fun p hp => .inl ⟨p, hnotch ▸ hp, rfl, .inl rfl⟩⟩
  have hv : Baseband (fun _ => True) s v := hcount.mono fun _ _ => trivial
  rw [hen] at hexec
  refine ⟨_, hexec, ?_⟩
  cases s.flag F.GNB_NCFG_EN with
  | true =>
    have hafter : Notched s.gnb.notch v.gnb.bins (followBins v bins high) :=
      .foldl (fun u b _ hu => hu.serveBin b) (.foldl (fun u p hp hu => hu.followNotch bins (hnotch ▸ hp)) hstart)
    have hall : Baseband (fun _ => True) s (followBins v bins high) :=
      (hv.trans (.foldl (fun u p _ => u.followNotch_baseband bins p.1 p.2) v)).trans (.foldl (fun u b _ => u.serveBin_baseband b) _)
    rw [if_pos rfl, hafter.bins]
    exact ⟨hall.queues, hall.mem, hbins, fun h => (nomatch h), hafter.notch⟩
  | false =>
    have hafter : Notched s.gnb.notch v.gnb.bins (v.gnb.notch.foldl (fun s p => s.dropNotch p.1) v) :=
      .foldl (fun u p _ hu => hu.dropNotch p.1) hstart
    have hall : Baseband (fun _ => True) s (v.gnb.notch.foldl (fun s p => s.dropNotch p.1) v) :=
      hv.trans (.foldl (fun u p _ => u.dropNotch_baseband p.1) v)
    rw [if_neg (by decide), hafter.bins]
    refine ⟨hall.queues, hall.mem, hbins, fun _ => List.eq_nil_iff_forall_not_mem.2 fun p hp => ?_, hafter.notch⟩
    obtain ⟨hmem, hne⟩ := State.mem_dropNotches hp
    exact hne p hmem rfl

/-! ### The jamming level -/

/-- JAM and AGC at the next 100 ms instant. -/
def showJam (s : State) (gcal g : Int) : State :=
  ((s.takeTenth clsJam).setFld F.GNB_JAM_JAM (clampI 0 255 (roundAway (8 * (gcal - g)) 256)).toNat).setFld F.GNB_JAM_AGC
    (clampI 0 255 (freeRound 61 (4 * g) 256)).toNat

theorem exec_jamUpdate (s : State) (gcal g : Int) (hrun : s.boot.halted = false) (hact : Active s) : ∃ t : State,
    exec (.jamUpdate gcal g) s = .next t ∧ (t = showJam s gcal g ∨
      ∃ x, t = ((showJam s gcal g).setGnb x).report srcInterf 0) := by
  show ∃ t : State, execJamUpdate gcal g s = .next t ∧ _
  rw [execJamUpdate, s.clocked_running _ hrun, if_neg (by rw [(active_iff s).2 hact]; decide)]
  extract_lets +onlyGivenNames u v w
  have hw : w = showJam s gcal g := rfl
  rw [← hw]
  clear_value w
  split
  · exact ⟨_, rfl, .inr ⟨_, rfl⟩⟩
  · exact ⟨_, rfl, .inl rfl⟩

theorem clampI_toNat_lt (x : Int) : (clampI 0 255 x).toNat < 2 ^ 8 := by
  unfold clampI
  split
  · decide
  · split <;> omega

theorem showJam_facts (s : State) (gcal g : Int) : (showJam s gcal g).fld F.GNB_JAM_JAM =
      (clampI 0 255 (roundAway (8 * (gcal - g)) 256)).toNat ∧
    (showJam s gcal g).fld F.GNB_JAM_JAMWARN = s.fld F.GNB_JAM_JAMWARN ∧ (showJam s gcal g).mem = s.mem ∧
    (showJam s gcal g).trv = s.trv := by
  have hinst : Baseband (· = 0x200) s (s.takeTenth clsJam) := s.takeTenth_baseband clsJam rfl
  refine ⟨?_, ?_, hinst.mem, hinst.trv⟩
  · rw [showJam, State.fld_setFld_disj _ F.GNB_JAM_AGC F.GNB_JAM_JAM _ (by decide) (by decide),
      State.fld_setFld_same _ _ _ (by decide)]
    exact Nat.mod_eq_of_lt (clampI_toNat_lt _)
  · rw [showJam, State.fld_setFld_disj _ F.GNB_JAM_AGC F.GNB_JAM_JAMWARN _ (by decide) (by decide),
      State.fld_setFld_disj _ F.GNB_JAM_JAM F.GNB_JAM_JAMWARN _ (by decide) (by decide), hinst.fld _ (by decide)]

theorem jamUpdate_facts (s : State) (gcal g : Int) (hrun : s.boot.halted = false) (hact : Active s) :
    ∃ t : State, exec (.jamUpdate gcal g) s = .next t ∧
      t.fld F.GNB_JAM_JAM = (clampI 0 255 (roundAway (8 * (gcal - g)) 256)).toNat ∧
      t.fld F.GNB_JAM_JAMWARN = s.fld F.GNB_JAM_JAMWARN ∧ t.mem = s.mem ∧ t.trv = s.trv := by
  obtain ⟨t, hexec, ht⟩ := exec_jamUpdate s gcal g hrun hact
  refine ⟨t, hexec, ?_⟩
  obtain rfl | ⟨x, rfl⟩ := ht
  · exact showJam_facts s gcal g
  · have hrep := ((showJam s gcal g).setGnb x).report_reported srcInterf 0
    rw [State.fld_of_reg F.GNB_JAM_JAM (hrep.reg (by decide)), State.fld_of_reg F.GNB_JAM_JAMWARN (hrep.reg (by decide)),
      hrep.mem, hrep.trv, State.setGnb_fld, State.setGnb_fld, State.setGnb_mem, State.setGnb_trv]
    exact showJam_facts s gcal g

/-! ### The obligation -/

/-- With the baseband off, or in MODE 00b, neither command does anything. -/
theorem exec_inactive (s : State) (bins : List SpecBin) (gcal g : Int) (hrun : s.boot.halted = false)
    (h : s.gnssPowered = false ∨ s.fld F.GNB_CFG_MODE = 0) :
    exec (.spectralMonitor bins) s = .next s ∧ exec (.jamUpdate gcal g) s = .next s := by
  have hoff : (!s.gnssPowered || decide (s.fld F.GNB_CFG_MODE = 0)) = true := by
    rcases h with h | h <;> simp [h]
  constructor
  · show execSpectralMonitor bins s = _
    rw [execSpectralMonitor, s.clocked_running _ hrun, if_pos hoff]
  · show execJamUpdate gcal g s = _
    rw [execJamUpdate, s.clocked_running _ hrun, if_pos hoff]

/-- Settles O32: each command judges the antenna, counts a spectrum or shows the level, and the notches that a spectrum leaves
follow the notches before it or stand in bins that are counted. -/
theorem antennaAndInterference : Obligations.AntennaAndInterference := by
  unfold Obligations.AntennaAndInterference
  intro s hrun
  refine ⟨fun ua hbiased => antennaFault_facts s ua hrun hbiased, fun ua hbiased => ?unbiased,
    fun hoff bins gcal g => exec_inactive s bins gcal g hrun hoff,
    fun ua c hoff hpow hbias => antennaBiasRetry_facts s ua hrun hoff hpow hbias, fun hpow hmode => ⟨fun bins => ?spectrum,
    fun gcal g => jamUpdate_facts s gcal g hrun ⟨hpow, hmode⟩⟩⟩
  case unbiased =>
    rw [exec_antennaFault s ua hrun, exec_antennaFaultEnd s ua hrun, hbiased]
    exact ⟨rfl, rfl⟩
  case spectrum => exact spectralMonitor_facts s bins hrun ⟨hpow, hmode⟩

end Sys2Proof.Proofs
end

section
/-! PROOF. Tracking channels (R84, R90, R92): the channel that a satellite gets, and what a hand-over and a loss of lock leave. -/

namespace Sys2Proof.Machine

open Sys2Proof

/-! ### Fields of a channel -/

/-- A write of a field leaves a field that shares no bit with it; the condition computes. -/
theorem State.fld_setFld_apart (s : State) (f g : Fld) (v : Nat) (h : f.ok = true)
    (hd : decide (g.hi < f.lo ∨ f.hi < g.lo) = true) : (s.setFld f v).fld g = s.fld g :=
  s.fld_setFld_disj f g v h (of_decide_eq_true hd)

theorem chan_addr_ne {n : Nat} : 0x1440 + n ≠ 0x1401 := by omega

theorem State.showTracking_chan (s : State) (n : Nat) (f : Fld) (hf : f.addr = 0x1440 + n) : s.showTracking.fld f = s.fld f :=
  (s.showTracking_baseband (A := (· = 0x1401)) rfl).fld f (by rw [hf]; exact chan_addr_ne)

theorem svEnabled_lt {s : State} {sv : Nat} (h : s.svEnabled sv = true) : 0 < sv ∧ sv < 256 := by
  simp only [State.svEnabled, svGps, svGal, svSbas, Bool.or_eq_true, Bool.and_eq_true, decide_eq_true_eq] at h
  omega

/-! ### Which channel -/

/-- A fold that keeps its choice or takes the element at hand chooses an element. -/
theorem mem_of_foldl_choice {f : Option Nat → Nat → Option Nat} (hf : ∀ a n, f a n = a ∨ f a n = some n) {l : List Nat}
    {a : Option Nat} {m : Nat} (h : l.foldl f a = some m) : a = some m ∨ m ∈ l := by
  induction l generalizing a with
  | nil => exact .inl h
  | cons n l ih =>
    obtain h | h := ih h
    · obtain e | e := hf a n
      · exact .inl (e.symm.trans h)
      · exact .inr (Option.some.inj (e.symm.trans h) ▸ List.mem_cons_self)
    · exact .inr (List.mem_cons_of_mem n h)

theorem State.lowest_mem (s : State) {ns : List Nat} {m : Nat} (h : s.lowest ns = some m) : m ∈ ns := by
  refine (mem_of_foldl_choice (fun a n => ?_) h).resolve_left (fun e => nomatch e)
  cases a with
  | none => exact .inr rfl
  | some k =>
    dsimp only
    split
    · exact .inr rfl
    · exact .inl rfl

theorem State.noChannel {s : State} {sv : Nat} (h : ∀ n, n < 48 → s.chSv n ≠ sv) :
    (List.range 48).find? (fun n => s.chSv n == sv) = none :=
  List.find?_eq_none.2 fun n hn => by simpa using h n (List.mem_range.1 hn)

/-- With a channel free, a satellite that is no fourth SBAS satellite gets a free one, which one being the node's own choice. -/
theorem State.channelFor_free (s : State) {sv el : Nat} (hno : ∀ n, n < 48 → s.chSv n ≠ sv) (hfree : ∃ n, n < 48 ∧ s.chSv n = 0)
    (hsbas : svSbas sv = true → ((List.range 48).filter (fun n => svSbas (s.chSv n))).length < 3) :
    ∃ n k, s.channelFor sv el = (some n, { s with free := k }) ∧ n < 48 ∧ s.chSv n = 0 := by
  have hsb : (svSbas sv && decide (((List.range 48).filter (fun n => svSbas (s.chSv n))).length ≥ 3)) = false := by
    cases hc : svSbas sv with
    | false => rfl
    | true => simpa using hsbas hc
  obtain ⟨m, hm, hm0⟩ := hfree
  have hmem : m ∈ (List.range 48).filter (fun n => s.chSv n == 0) :=
    List.mem_filter.2 ⟨List.mem_range.2 hm, beq_iff_eq.2 hm0⟩
  have hpos : 0 < ((List.range 48).filter (fun n => s.chSv n == 0)).length := List.length_pos_of_mem hmem
  rw [State.channelFor, State.noChannel hno]
  dsimp only
  rw [hsb, if_neg (by decide), if_pos (by omega), State.draw]
  have hget := List.getElem?_eq_getElem (Nat.mod_lt (Config.freeNat s.free) hpos)
  refine ⟨_, _, Prod.ext hget rfl, ?_⟩
  have hin := List.mem_filter.1 (List.getElem_mem (Nat.mod_lt (Config.freeNat s.free) hpos))
  exact ⟨List.mem_range.1 hin.1, beq_iff_eq.1 hin.2⟩

/-- With no channel free, a satellite other than SBAS gets that of the lowest one when it stands higher. -/
theorem State.channelFor_lowest (s : State) {sv el m : Nat} (hno : ∀ n, n < 48 → s.chSv n ≠ sv) (hfull : ∀ n, n < 48 → s.chSv n ≠ 0)
    (hsbas : svSbas sv = false) (hlow : s.lowest (List.range 48) = some m) :
    s.channelFor sv el = (if s.fld (F.GNB_CHk_EL m) < el then some m else none, s) := by
  have hnil : (List.range 48).filter (fun n => s.chSv n == 0) = [] :=
    List.filter_eq_nil_iff.2 fun n hn => by simpa using hfull n (List.mem_range.1 hn)
  rw [State.channelFor, State.noChannel hno]
  dsimp only
  rw [hsbas, hnil, Bool.false_and, if_neg (by decide), if_neg (by decide), hlow]
  by_cases h : s.fld (F.GNB_CHk_EL m) < el <;> simp [Option.filter, h]

/-! ### Hand-over -/

/-- Channel `n` takes satellite `sv` from acquisition, in state 2. -/
def State.handOver (s : State) (n sv el cn0 : Nat) : State :=
  let u := (s.freeChan n).setChan n { handed := s.clk.cc }
  (((u.setFld (F.GNB_CHk_SV n) sv).setFld (F.GNB_CHk_EL n) el).setFld (F.GNB_CHk_CN0 n) (min 63 cn0)).setFld (F.GNB_CHk_STATE n) 2

theorem State.handOver_baseband (s : State) (n sv el cn0 : Nat) : Baseband (· = 0x1440 + n) s (s.handOver n sv el cn0) :=
  (((((s.freeChan_baseband n (by rfl)).trans (.setGnb _ _)).trans (.setFld _ _ (by rfl))).trans (.setFld _ _ (by rfl))).trans
    (.setFld _ _ (by rfl))).trans (.setFld _ _ (by rfl))

theorem State.handOver_facts (s : State) (n sv el cn0 : Nat) (hsv : sv < 256) (hel : el ≤ 90) : 
    (s.handOver n sv el cn0).chSv n = sv ∧ (s.handOver n sv el cn0).chTrk n = 2 ∧
      (s.handOver n sv el cn0).fld (F.GNB_CHk_CN0 n) = min 63 cn0 ∧ (s.handOver n sv el cn0).fld (F.GNB_CHk_EL n) = el := by
  have hcn : min 63 cn0 % 2 ^ 6 = min 63 cn0 := Nat.mod_eq_of_lt (by omega)
  have hel' : el % 2 ^ 7 = el := Nat.mod_eq_of_lt (by omega)
  unfold State.handOver State.chSv State.chTrk
  dsimp only
  refine ⟨?_, State.fld_setFld_same _ (F.GNB_CHk_STATE n) 2 rfl, ?_, ?_⟩
  · rw [State.fld_setFld_apart _ (F.GNB_CHk_STATE n) _ _ rfl rfl, State.fld_setFld_apart _ (F.GNB_CHk_CN0 n) _ _ rfl rfl, State.fld_setFld_apart _ (F.GNB_CHk_EL n) _ _ rfl rfl,
      State.fld_setFld_same _ _ _ rfl]
    exact Nat.mod_eq_of_lt hsv
  · rw [State.fld_setFld_apart _ (F.GNB_CHk_STATE n) _ _ rfl rfl, State.fld_setFld_same _ _ _ rfl]
    exact hcn
  · rw [State.fld_setFld_apart _ (F.GNB_CHk_STATE n) _ _ rfl rfl, State.fld_setFld_apart _ (F.GNB_CHk_CN0 n) _ _ rfl rfl, State.fld_setFld_same _ _ _ rfl]
    exact hel'

/-! ### Loss of lock -/

/-- Channel `n` goes back to aided acquisition with C/N0 `x`, and out of the fix. -/
def State.loseLock (s : State) (n x : Nat) : State :=
  ((s.setFld (F.GNB_CHk_STATE n) 1).setFld (F.GNB_CHk_CN0 n) x).setFlag (F.GNB_CHk_USED n) false

theorem State.loseLock_baseband (s : State) (n x : Nat) : Baseband (· = 0x1440 + n) s (s.loseLock n x) :=
  ((Baseband.setFld s _ (by rfl)).trans (.setFld _ _ (by rfl))).trans (.setFld _ _ (by rfl))

theorem State.loseLock_facts (s : State) (n : Nat) {x : Nat} (hx : x < 64) :
    (s.loseLock n x).chTrk n = 1 ∧ (s.loseLock n x).chSv n = s.chSv n ∧ (s.loseLock n x).fld (F.GNB_CHk_CN0 n) = x ∧
      (s.loseLock n x).fld (F.GNB_CHk_USED n) = 0 := by
  unfold State.loseLock State.chSv State.chTrk State.setFlag
  refine ⟨?_, ?_, ?_, State.fld_setFld_same _ (F.GNB_CHk_USED n) 0 rfl⟩
  · rw [State.fld_setFld_apart _ (F.GNB_CHk_USED n) _ _ rfl rfl, State.fld_setFld_apart _ (F.GNB_CHk_CN0 n) _ _ rfl rfl, State.fld_setFld_same _ _ _ rfl]
    rfl
  · rw [State.fld_setFld_apart _ (F.GNB_CHk_USED n) _ _ rfl rfl, State.fld_setFld_apart _ (F.GNB_CHk_CN0 n) _ _ rfl rfl, State.fld_setFld_apart _ (F.GNB_CHk_STATE n) _ _ rfl rfl]
  · rw [State.fld_setFld_apart _ (F.GNB_CHk_USED n) _ _ rfl rfl, State.fld_setFld_same _ _ _ rfl]
    exact Nat.mod_eq_of_lt hx

end Sys2Proof.Machine
end

section
/-! PROOF. Acquisition and tracking (O33): ACQUISITION_DETECTION, CYCLE_SLIP, LOSS_OF_LOCK and ANCHOR_WRITE (R84, R90, R92, R99). -/

namespace Sys2Proof.Machine

open Sys2Proof

/-! ### Writes that only trigger an action -/

/-- A write of a register that holds no writable bit and no flag triggers its action, whatever hardware does in this core clock. -/
theorem State.hostWrite_trigger (s : State) {p : Writer} {a : Nat} {r : RegRow} (v : Word) (hopen : closedTo p a = false)
    (hr : regAt a = some r) (hin : inInputs a = false) (hrw : r.rw = 0) (hw1c : r.w1c = 0) (hwo : r.wo ≠ 0) :
    s.hostWrite p a v = ((s.writeReg p r a v (r.stored (s.reg a) v)).1,
      if (s.writeReg p r a v (r.stored (s.reg a) v)).1.acted then (s.writeReg p r a v (r.stored (s.reg a) v)).2.completed
      else (s.writeReg p r a v (r.stored (s.reg a) v)).2) := by
  have hhard : s.afterHardware r a v = v := if_pos (by rw [hrw, hw1c]; exact Nat.and_zero _)
  have hwritable : (decide (r.rw = 0) && decide (r.w1c = 0) && decide (r.wo = 0)) = false := by simp [hwo]
  unfold closedTo at hopen
  simp only [State.hostWrite, hopen, hr, hwritable, hin, hhard, Bool.false_eq_true, if_false]
  rw [if_pos hw1c]
  rfl

end Sys2Proof.Machine

namespace Sys2Proof.Proofs

open Sys2Proof Sys2Proof.Machine

/-! ### ACQUISITION_DETECTION -/

section

variable (s : State) {sv el cn0 : Nat} {p q : Peak} (hrun : s.boot.halted = false)

include hrun

/-- A detection that is not confirmed, enabled or above the mask. -/
theorem exec_acquisition_void (h : s.detects sv p q = false ∨ s.svEnabled sv = false ∨ el ≤ s.fld F.GNB_CFG_ELMASK ∨ 90 < el) :
    exec (.acquisitionDetection sv el cn0 p q) s = .next s := by
  show execAcquisitionDetection sv el cn0 p q s = _
  rw [execAcquisitionDetection, s.clocked_running _ hrun, if_pos (by rcases h with h | h | h | h <;> simp [h])]

variable (htrack : s.tracking = true) (hdet : s.detects sv p q = true) (hen : s.svEnabled sv = true)
  (hlo : s.fld F.GNB_CFG_ELMASK < el) (hhi : el ≤ 90)

include htrack hdet hen hlo hhi

/-- A confirmed detection for which no channel is found. -/
theorem exec_acquisition_none (h : s.channelFor sv el = (none, s)) :
    exec (.acquisitionDetection sv el cn0 p q) s = .next s := by
  show execAcquisitionDetection sv el cn0 p q s = _
  rw [execAcquisitionDetection, s.clocked_running _ hrun, htrack, hdet, hen, if_neg (by simp; omega), h]

/-- A confirmed detection that takes channel `n` from another satellite, or from none. -/
theorem exec_acquisition_some {n k : Nat} (h : s.channelFor sv el = (some n, { s with free := k })) (hne : s.chSv n ≠ sv) :
    exec (.acquisitionDetection sv el cn0 p q) s =
      .next (({ s with free := k } : State).handOver n sv el cn0).showTracking := by
  have hne' : ¬ (({ s with free := k } : State).chSv n = sv && decide (({ s with free := k } : State).chTrk n ≥ 2)) = true := by
    rw [Bool.and_eq_true, decide_eq_true_eq]
    exact fun e => hne e.1
  show execAcquisitionDetection sv el cn0 p q s = _
  rw [execAcquisitionDetection, s.clocked_running _ hrun, htrack, hdet, hen, if_neg (by simp; omega), h]
  exact if_neg hne'

end

/-- What a hand-over leaves. -/
theorem handedOver_facts (s : State) {sv el cn0 n : Nat} (k : Nat) (hsv : sv < 256) (hel : el ≤ 90) :
    ∀ t, t = (({ s with free := k } : State).handOver n sv el cn0).showTracking →
      t.chSv n = sv ∧ t.chTrk n = 2 ∧ t.fld (F.GNB_CHk_CN0 n) = min 63 cn0 ∧ t.fld (F.GNB_CHk_EL n) = el ∧
      (∀ m, m ≠ n → t.reg (F.GNB_CHk_w m).addr = s.reg (F.GNB_CHk_w m).addr) ∧ t.mem = s.mem ∧ t.trv = s.trv := by
  rintro t rfl
  have hhand := State.handOver_baseband { s with free := k } n sv el cn0
  obtain ⟨hsv', htrk, hcn, hel'⟩ := State.handOver_facts { s with free := k } n sv el cn0 hsv hel
  generalize State.handOver { s with free := k } n sv el cn0 = u at *
  have hshow := u.showTracking_baseband (A := (· = 0x1401)) rfl
  refine ⟨?_, ?_, ?_, ?_, fun m hm => ?_, hshow.mem.trans hhand.mem, hshow.trv.trans hhand.trv⟩
  · exact (u.showTracking_chan n (F.GNB_CHk_SV n) rfl).trans hsv'
  · exact (u.showTracking_chan n (F.GNB_CHk_STATE n) rfl).trans htrk
  · exact (u.showTracking_chan n (F.GNB_CHk_CN0 n) rfl).trans hcn
  · exact (u.showTracking_chan n (F.GNB_CHk_EL n) rfl).trans hel'
  · have hne : 0x1440 + m ≠ 0x1440 + n := by omega
    exact (hshow.reg (i := 0x1440 + m) chan_addr_ne).trans (hhand.reg hne)

/-! ### CYCLE_SLIP and LOSS_OF_LOCK -/

theorem exec_cycleSlip (s : State) (n : Fin 48) (x : Nat) (hrun : s.boot.halted = false) (htrack : s.tracking = true)
    (htrk : 2 ≤ s.chTrk n) : exec (.cycleSlip n x) s =
      .next (if x < 600 then (s.setChan n { s.chan n with slip := some s.clk.cc }).completed else s) := by
  show execCycleSlip n x s = _
  rw [execCycleSlip, s.clocked_running _ hrun, htrack]
  by_cases h : x < 600
  · rw [if_pos h, if_pos (by simp [htrk, h])]
  · rw [if_neg h, if_neg (by simp; omega)]

theorem exec_lossOfLock (s : State) (n : Fin 48) {x : Nat} (hrun : s.boot.halted = false) (htrack : s.tracking = true)
    (htrk : 2 ≤ s.chTrk n) (hx : x < s.fld F.GNB_TRK_LOSSCN) :
    exec (.lossOfLock n x) s = .next (s.loseLock n x).showTracking.completed := by
  show execLossOfLock n x s = _
  rw [execLossOfLock, s.clocked_running _ hrun, htrack, if_pos (by simp [htrk, hx])]
  rfl

/-- What a loss of lock leaves. -/
theorem lossOfLock_facts (s : State) (n : Nat) {x : Nat} (hx : x < s.fld F.GNB_TRK_LOSSCN) :
    ∀ t, t = (s.loseLock n x).showTracking.completed → t.chTrk n = 1 ∧ t.chSv n = s.chSv n ∧ t.fld (F.GNB_CHk_CN0 n) = x ∧
      t.flag (F.GNB_CHk_USED n) = false ∧ t.mem = s.mem ∧ t.trv = s.trv ∧
      ∀ i, i ≠ (F.GNB_CHk_w n).addr → i ≠ F.GNB_STAT_w.addr → t.reg i = s.reg i := by
  rintro t rfl
  have hwidth : s.fld F.GNB_TRK_LOSSCN < 2 ^ 6 := s.fld_lt F.GNB_TRK_LOSSCN
  have hlose := s.loseLock_baseband n x
  obtain ⟨htrk, hsv, hcn, hused⟩ := s.loseLock_facts n (show x < 64 by omega)
  generalize s.loseLock n x = u at *
  have hshow := u.showTracking_baseband (A := (· = 0x1401)) rfl
  refine ⟨?_, ?_, ?_, ?_, hshow.mem.trans hlose.mem, hshow.trv.trans hlose.trv, fun i hch hstat => ?_⟩
  · exact (u.showTracking_chan n (F.GNB_CHk_STATE n) rfl).trans htrk
  · exact (u.showTracking_chan n (F.GNB_CHk_SV n) rfl).trans hsv
  · exact (u.showTracking_chan n (F.GNB_CHk_CN0 n) rfl).trans hcn
  · rw [State.completed_flag, State.flag, u.showTracking_chan n (F.GNB_CHk_USED n) rfl, hused]
    rfl
  · exact (hshow.reg hstat).trans (hlose.reg hch)

/-! ### ANCHOR_WRITE -/

/-- The row of GNB_ANCH. -/
def anchorRow : RegRow := ⟨.GNB_ANCH, 0x1415, 1, 1, 0, 0x0, 0x0, 0x0, 0x10000⟩

theorem exec_anchorWrite (s : State) (v : Word) (hrun : s.boot.halted = false) :
    exec (.anchorWrite v) s = .next (s.setGnb { s.gnb with reanchor := true }).completed := by
  have hbit : bitOf (bitAs v 16 true).toNat 16 = true := by
    have hlt : setBits v.toNat 16 16 1 < 2 ^ 40 := setBits_lt _ _ _ _ v.isLt (by decide) (by decide)
    have hnat : (bitAs v 16 true).toNat = setBits v.toNat 16 16 1 := (BitVec.toNat_ofNat _ _).trans (Nat.mod_eq_of_lt hlt)
    rw [bitOf_eq_testBit, hnat, testBit_setBits _ _ _ _ _ (by decide)]
    rfl
  have hreg : ∀ x, s.writeReg (some .service) anchorRow 0x1415 (bitAs v 16 true) x =
      (.done, s.setGnb { s.gnb with reanchor := true }) := fun x => congrArg (Prod.mk Wr.done) (if_pos hbit)
  show execAnchorWrite v s = _
  rw [execAnchorWrite, s.clocked_running _ hrun, State.write,
    s.hostWrite_trigger (r := anchorRow) _ rfl (by decide) rfl rfl rfl (by decide), hreg]
  rfl

/-! ### The obligation -/

/-- Settles O33: the channel of a confirmed detection is free, or that of the lowest satellite, and the hand-over writes that
channel only; so does a loss of lock. -/
theorem satellitesAreAcquiredAndLost : Obligations.SatellitesAreAcquiredAndLost := by
  unfold Obligations.SatellitesAreAcquiredAndLost
  intro s hrun
  refine ⟨fun sv el cn0 p q htrack => ⟨fun hdet hen hlo hhi hno => ⟨fun hfree hsbas => ?free, fun m hfull hsbas hlow => ?lowest⟩,
    exec_acquisition_void s hrun⟩, fun n x htrack htrk => ⟨fun hx => ?slip, fun hx => ?sound, fun hx => ?lost⟩,
    fun v => exec_anchorWrite s v hrun⟩
  case free =>
    obtain ⟨hsv0, hsv⟩ := svEnabled_lt hen
    obtain ⟨n, k, hch, hn, hn0⟩ := s.channelFor_free hno hfree hsbas
    obtain ⟨hsv', htrk, hcn, hel, hreg, hmem, htrv⟩ := handedOver_facts s (cn0 := cn0) (n := n) k hsv hhi _ rfl
    exact ⟨_, n, exec_acquisition_some s hrun htrack hdet hen hlo hhi hch (hno n hn), hn, hn0, hsv', htrk, hcn, hel,
      fun m _ hm => hreg m hm, hmem, htrv⟩
  case lowest =>
    obtain ⟨hsv0, hsv⟩ := svEnabled_lt hen
    have hm := List.mem_range.1 (s.lowest_mem hlow)
    have hch := s.channelFor_lowest (el := el) hno hfull hsbas hlow
    refine ⟨fun h => ?_, fun h => ?_⟩
    · rw [if_pos h] at hch
      obtain ⟨hsv', htrk, -, hel, -⟩ := handedOver_facts s (cn0 := cn0) (n := m) s.free hsv hhi _ rfl
      exact ⟨_, exec_acquisition_some s hrun htrack hdet hen hlo hhi hch (hno m hm), hsv', htrk, hel⟩
    · rw [if_neg (Nat.not_lt.2 h)] at hch
      exact exec_acquisition_none s hrun htrack hdet hen hlo hhi hch
  case slip => rw [exec_cycleSlip s n x hrun htrack htrk, if_pos hx]
  case sound => rw [exec_cycleSlip s n x hrun htrack htrk, if_neg (Nat.not_lt.2 hx)]
  case lost => exact ⟨_, exec_lossOfLock s n hrun htrack htrk hx, lossOfLock_facts s n hx _ rfl⟩

end Sys2Proof.Proofs
end

section
/-! PROOF. The snapshot buffer and the snapshots of a node (R103 to R108): where space is found, what a capture writes, and what the
stages of a snapshot leave. -/

namespace Sys2Proof.Machine

open Sys2Proof

/-! ### Bytes written to the buffer -/

theorem spGet_of_forall_ne {α : Type} (d : Nat → α) {m : List (Nat × α)} {k : Nat} (h : ∀ p ∈ m, p.1 ≠ k) : spGet d m k = d k := by
  induction m with
  | nil => rfl
  | cons p m ih =>
    obtain ⟨hp, hm⟩ := List.forall_mem_cons.1 h
    rw [spGet, if_neg hp, ih hm]

theorem spGet_append_of_forall_ne {α : Type} (d : Nat → α) {l : List (Nat × α)} (m : List (Nat × α)) {k : Nat}
    (h : ∀ p ∈ l, p.1 ≠ k) : spGet d (l ++ m) k = spGet d m k := by
  induction l with
  | nil => rfl
  | cons p l ih =>
    obtain ⟨hp, hl⟩ := List.forall_mem_cons.1 h
    rw [List.cons_append, spGet, if_neg hp, ih hl]

/-- The bytes `bs` from `off` as sparse data. -/
def cellsAt (off : Nat) (bs : List Byte) : List (Nat × Byte) := ((List.range' off bs.length).zip bs).filter (fun p => p.2 ≠ 0)

theorem cellsAt_cons (off : Nat) (b : Byte) (bs : List Byte) :
    cellsAt off (b :: bs) = if b = 0 then cellsAt (off + 1) bs else (off, b) :: cellsAt (off + 1) bs := by
  unfold cellsAt
  rw [List.length_cons, List.range'_succ, List.zip_cons_cons, List.filter_cons]
  by_cases h : b = 0 <;> simp [h]

theorem le_of_mem_cellsAt {off : Nat} {bs : List Byte} {p : Nat × Byte} (h : p ∈ cellsAt off bs) : off ≤ p.1 := by
  have hp : (p.1, p.2) ∈ (List.range' off bs.length).zip bs := (List.mem_filter.1 h).1
  exact (List.mem_range'_1.1 (List.of_mem_zip hp).1).1

/-- Before data that lies behind them the bytes read as they are. -/
theorem spGet_cellsAt (bs : List Byte) (m : List (Nat × Byte)) {off i : Nat} (hi : i < bs.length)
    (hm : ∀ p ∈ m, off + bs.length ≤ p.1) : spGet (fun _ => 0#8) (cellsAt off bs ++ m) (off + i) = bs.getD i 0 := by
  induction bs generalizing off i with
  | nil => exact absurd hi (Nat.not_lt_zero i)
  | cons b bs ih =>
    rw [List.length_cons] at hi hm
    have hrest : ∀ p ∈ cellsAt (off + 1) bs ++ m, off < p.1 := fun p hp =>
      (List.mem_append.1 hp).elim (fun h => le_of_mem_cellsAt h) fun h => by have := hm p h; omega
    rw [cellsAt_cons]
    cases i with
    | zero =>
      split
      · next h0 => rw [spGet_of_forall_ne _ fun p hp => by have := hrest p hp; omega, h0]; rfl
      · rw [List.cons_append, spGet, if_pos (Nat.add_zero off).symm]; rfl
    | succ i =>
      have hnext := ih (off := off + 1) (i := i) (by omega) fun p hp => by have := hm p hp; omega
      rw [show off + (i + 1) = off + 1 + i by omega, List.getD_cons_succ, ← hnext]
      split
      · rfl
      · rw [List.cons_append, spGet, if_neg (by omega)]

theorem State.snapWrite_buf (s : State) (off : Nat) (bs : List Byte) : (s.snapWrite off bs).gnb.buf =
    s.gnb.buf.filter (fun p => p.1 < off) ++ cellsAt off bs ++
      (s.gnb.buf.filter (fun p => off ≤ p.1)).filter (fun p => off + bs.length ≤ p.1) := by
  unfold cellsAt
  rw [List.range'_eq_map_range]
  rfl

/-- A byte of the buffer after a run of bytes is written over it. -/
theorem State.snapWrite_get (s : State) (off : Nat) (bs : List Byte) {i : Nat} (hi : i < bs.length) :
    spGet (fun _ => 0#8) (s.snapWrite off bs).gnb.buf (off + i) = bs.getD i 0 := by
  rw [s.snapWrite_buf, List.append_assoc, spGet_append_of_forall_ne]
  · exact spGet_cellsAt bs _ hi fun p hp => by simpa using (List.mem_filter.1 hp).2
  · intro p hp
    have hlt : p.1 < off := by simpa using (List.mem_filter.1 hp).2
    omega

theorem State.snapWrite_same (s : State) (off : Nat) (bs : List Byte) :
    ∃ x, s.snapWrite off bs = s.setGnb x ∧ x.snaps = s.gnb.snaps := ⟨_, rfl, rfl⟩

theorem padTo_length (n : Nat) (bs : List Byte) : (padTo n bs).length = n := by
  rw [padTo, List.length_append, List.length_take, List.length_replicate]
  omega

/-! ### Space -/

theorem State.snapPlace_some (s : State) {n : Nat} (h : s.snapGaps.any (fun g => n ≤ g.2) = true) :
    ∃ off k, s.snapPlace n = (some off, { s with free := k }) := by
  obtain ⟨g, hg, hn⟩ := List.any_eq_true.1 h
  have hmem : g ∈ s.snapGaps.filter (fun g => n ≤ g.2) := List.mem_filter.2 ⟨hg, hn⟩
  have hpos : 0 < (s.snapGaps.filter (fun g => n ≤ g.2)).length := List.length_pos_of_mem hmem
  rw [State.snapPlace, if_neg (List.ne_nil_of_mem hmem), State.draw]
  dsimp only
  rw [List.getElem?_eq_getElem (Nat.mod_lt (Config.freeNat s.free) hpos)]
  exact ⟨_, _, rfl⟩

/-- A request that Table 4-5 accepts finds space. -/
theorem State.snapStatus_room {s : State} {head loc : Bool} {at_ tcap dur : Nat} (h : s.snapStatus head loc at_ tcap dur = 0) :
    s.dropWaiting.snapGaps.any (fun g => snapLen dur ≤ g.2) = true := by
  by_contra hroom
  have hfull : (s.gnb.snaps.any (fun x => x.stage = 2) || !(s.dropWaiting.snapGaps.any (fun g => snapLen dur ≤ g.2))) = true := by
    simp [Bool.eq_false_iff.2 hroom]
  unfold State.snapStatus at h
  rw [if_pos hfull] at h
  split_ifs at h

/-! ### Stages -/

theorem State.modSnaps_snaps (s : State) (p : Snap → Bool) (f : Snap → Snap) :
    (s.modSnaps p f).gnb.snaps = s.gnb.snaps.map (fun x => if p x then f x else x) := rfl

theorem State.mem_modSnaps {s : State} {p : Snap → Bool} {f : Snap → Snap} {y : Snap} (h : y ∈ (s.modSnaps p f).gnb.snaps) :
    (∃ x, y = f x) ∨ p y = false := by
  obtain ⟨x, -, rfl⟩ := List.mem_map.1 (show y ∈ s.gnb.snaps.map _ from h)
  by_cases hp : p x = true
  · exact .inl ⟨x, if_pos hp⟩
  · exact .inr (by simp [hp])

theorem State.mem_modSnaps_of_mem {s : State} {p : Snap → Bool} (f : Snap → Snap) {x : Snap} (h : x ∈ s.gnb.snaps) (hp : p x = true) :
    f x ∈ (s.modSnaps p f).gnb.snaps := List.mem_map.2 ⟨x, h, if_pos hp⟩

/-! ### The end of a snapshot -/

theorem State.dropItems_same (s : State) (q : Nat) (p : List Rec → Bool) :
    ∃ x y, s.dropItems q p = { s with queues := x, spent := y } := ⟨_, _, rfl⟩

theorem State.freeSnap_facts (s : State) (x : Snap) : (s.freeSnap x).gnb.snaps = s.gnb.snaps.filter (fun y => y ≠ x) ∧
    (s.freeSnap x).clk = s.clk ∧ ∀ i, (s.freeSnap x).reg i = s.reg i := by
  unfold State.freeSnap
  extract_lets +onlyGivenNames _ u its here sent there
  split
  · exact ⟨rfl, rfl, fun _ => rfl⟩
  · clear_value here there
    obtain ⟨x₁, y₁, e₁⟩ := u.dropItems_same 62 here
    obtain ⟨x₂, y₂, e₂⟩ := (u.dropItems 62 here).dropItems_same 57 there
    rw [e₂, e₁]
    exact ⟨rfl, rfl, fun _ => rfl⟩

end Sys2Proof.Machine
end

section
/-! PROOF. Snapshots (O35): LOCAL_SNAPSHOT_REQUEST, FRONT_END_POWER_UP, CAPTURE_START, CAPTURE_COMPLETE and SNAPSHOT_SPACE_RELEASE
(R103 to R105, R107, R117). -/

namespace Sys2Proof.Proofs

open Sys2Proof Sys2Proof.Machine

/-! ### LOCAL_SNAPSHOT_REQUEST -/

/-- The row of GNB_SNAPREQ. -/
def snapReqRow : RegRow := ⟨.GNB_SNAPREQ, 0x141a, 1, 1, 0, 0x0, 0x0, 0x0, 0xffffffffff⟩

theorem exec_localSnapshotRequest (s : State) (v : Word) (hrun : s.boot.halted = false) :
    exec (.localSnapshotRequest v) s = .next (s.writeSnapReq v).completed := by
  show execLocalSnapshotRequest v s = _
  rw [execLocalSnapshotRequest, s.clocked_running _ hrun, State.write,
    s.hostWrite_trigger (r := snapReqRow) v rfl (by decide) rfl rfl rfl (by decide)]
  rfl

theorem writeSnapReq_on (s : State) (v : Word) (hpow : s.gnssPowered = true) :
    s.writeSnapReq v = s.snapRequest true true 0 0 (s.fld F.GNB_SNAPCFG_DUR) s.now v.toNat := if_pos hpow

theorem writeSnapReq_off (s : State) (v : Word) (hpow : s.gnssPowered = false) : s.writeSnapReq v = s :=
  if_neg (by rw [hpow]; decide)

/-- A request that is accepted: one snapshot waits, and nothing else of the node's registers and queues changes. -/
theorem snapRequest_accepted (s : State) {head loc : Bool} {peer id d at_ tcap : Nat}
    (h : s.snapStatus head loc at_ tcap (durOf d) = 0) : ∀ t, t = s.snapRequest head loc peer id d at_ tcap →
      (∃ x, t.waiting = [x] ∧ x.tcap = tcap ∧ x.dur = durOf d ∧ x.stage = 0 ∧ x.loc = loc) ∧ t.regs = s.regs ∧ t.queues = s.queues := by
  rintro t rfl
  obtain ⟨off, k, hplace⟩ := State.snapPlace_some s.dropWaiting (State.snapStatus_room h)
  unfold State.snapRequest
  dsimp only
  rw [if_pos h, hplace]
  refine ⟨⟨{ id := id, dur := durOf d, tcap := tcap, peer := peer, loc := loc, off := off }, ?_, rfl, rfl, rfl, rfl⟩, rfl, rfl⟩
  show List.filter _ (List.filter _ s.gnb.snaps ++ [_]) = _
  have hold : List.filter (fun x : Snap => decide (x.stage < 2)) (s.gnb.snaps.filter (fun x => x.stage ≥ 2)) = [] :=
    List.filter_eq_nil_iff.2 fun x hx => by
      have hstage : 2 ≤ x.stage := of_decide_eq_true (List.mem_filter.1 hx).2
      simpa using hstage.not_gt
  rw [List.filter_append, hold]
  rfl

/-- A request that is refused counts, and its answer goes on its way. -/
theorem snapRequest_refused (s : State) {head loc : Bool} {peer id d at_ tcap : Nat}
    (h : s.snapStatus head loc at_ tcap (durOf d) ≠ 0) : ∃ u : State, s.snapRequest head loc peer id d at_ tcap = u.pump ∧
      u.fld F.GNB_SNAPSTAT_REFUSED = satAdd 15 (s.fld F.GNB_SNAPSTAT_REFUSED) 1 ∧ u.queues = s.queues ∧ u.waiting = s.waiting := by
  unfold State.snapRequest
  dsimp only
  rw [if_neg h]
  refine ⟨_, rfl, ?_, rfl, ?_⟩
  · rw [State.setGnb_fld]
    exact s.fld_inc_same F.GNB_SNAPSTAT_REFUSED (by decide)
  · show List.filter _ (s.gnb.snaps ++ [_]) = _
    rw [List.filter_append]
    exact List.append_nil _

theorem localSnapshotRequest_facts (s : State) (v : Word) (hrun : s.boot.halted = false) (hpow : s.gnssPowered = true) :
    ∃ t : State, exec (.localSnapshotRequest v) s = .next t ∧
      (s.snapStatus true true s.now v.toNat (durOf (s.fld F.GNB_SNAPCFG_DUR)) = 0 →
        ∃ x, t.waiting = [x] ∧ x.tcap = v.toNat ∧ x.dur = durOf (s.fld F.GNB_SNAPCFG_DUR) ∧ x.stage = 0 ∧ x.loc = true ∧
          t.regs = s.regs ∧ t.queues = s.queues) ∧
      (s.snapStatus true true s.now v.toNat (durOf (s.fld F.GNB_SNAPCFG_DUR)) ≠ 0 → ∃ u : State, t = u.pump.completed ∧
        u.fld F.GNB_SNAPSTAT_REFUSED = satAdd 15 (s.fld F.GNB_SNAPSTAT_REFUSED) 1 ∧ u.queues = s.queues ∧
        u.waiting = s.waiting) := by
  refine ⟨_, exec_localSnapshotRequest s v hrun, fun h => ?_, fun h => ?_⟩
  · rw [writeSnapReq_on s v hpow]
    obtain ⟨⟨x, hwait, htcap, hdur, hstage, hloc⟩, hregs, hqueues⟩ :=
      snapRequest_accepted s (peer := 0) (id := 0) h _ rfl
    exact ⟨x, hwait, htcap, hdur, hstage, hloc, hregs, hqueues⟩
  · obtain ⟨u, hu, hcnt, hqueues, hwait⟩ := snapRequest_refused s (peer := 0) (id := 0) h
    rw [writeSnapReq_on s v hpow, hu]
    exact ⟨u, rfl, hcnt, hqueues, hwait⟩

/-! ### FRONT_END_POWER_UP -/

/-- The front end powers up 30 ms before T_cap of `x`. -/
def powerUp (s : State) (x : Snap) : State :=
  (s.advTo (add40 x.tcap (-(msTb 30 : Nat)))).modSnaps (fun y => y.stage = 0) (fun y => { y with stage := 1 })

theorem exec_frontEndPowerUp (s : State) {x : Snap} (hrun : s.boot.halted = false)
    (hx : s.gnb.snaps.find? (fun x => x.stage = 0) = some x) :
    exec .frontEndPowerUp s = .next (if s.powersFor x then powerUp s x else s) := by
  show execFrontEndPowerUp s = _
  rw [execFrontEndPowerUp, s.clocked_running _ hrun, hx]
  dsimp only
  split <;> rfl

theorem powerUp_facts (s : State) (x : Snap) : (∀ y ∈ (powerUp s x).gnb.snaps, y.stage ≠ 0) ∧
    (powerUp s x).gnb.snaps.length = s.gnb.snaps.length ∧ ∀ i, i ≠ 0x200 → (powerUp s x).reg i = s.reg i := by
  obtain ⟨g, k, hsame⟩ := s.advTo_same (add40 x.tcap (-(msTb 30 : Nat)))
  refine ⟨fun y hy => ?_, ?_, fun i hi => s.advTo_reg _ hi⟩
  · obtain ⟨z, rfl⟩ | hne := State.mem_modSnaps hy
    · exact Nat.one_ne_zero
    · simpa using hne
  · rw [powerUp, State.modSnaps_snaps, List.length_map, hsame]

/-! ### CAPTURE_START -/

/-- The capture that waits starts at `u`, `fr` being where the sample falls within its tb. -/
def startCapture (u : State) (fr : Nat) : State :=
  u.modSnaps (fun y => y.stage < 2) (fun y => { y with
    stage := 2, at_ := u.clk.cc, times := u.hdrTimes u.now fr, tail := u.hdrTail, tboff := u.hdrOff })

theorem exec_captureStart (s : State) {x : Snap} {xs : List Snap} (hrun : s.boot.halted = false) (hx : s.waiting = x :: xs)
    (hon : (if x.loc then s.gnssPowered else s.snapping) = true) :
    exec .captureStart s = .next (startCapture ((s.advTo x.tcap).draw 16794).2 ((s.advTo x.tcap).draw 16794).1) := by
  show execCaptureStart s = _
  rw [execCaptureStart, s.clocked_running _ hrun, hx]
  dsimp only
  rw [hon, if_neg (by decide)]
  rfl

theorem startCapture_facts (s : State) {x : Snap} (hmem : x ∈ s.waiting) (c n fr : Nat) :
    ∀ t, t = startCapture ((s.advTo c).draw n).2 fr → t.waiting = [] ∧ t.gnb.snaps.length = s.gnb.snaps.length ∧
      (∃ y ∈ t.gnb.snaps, y.stage = 2 ∧ y.id = x.id ∧ y.tcap = x.tcap ∧ y.off = x.off ∧ y.at_ = t.clk.cc) ∧
      ∀ i, i ≠ 0x200 → t.reg i = s.reg i := by
  rintro t rfl
  obtain ⟨hin, hstage⟩ := List.mem_filter.1 hmem
  have hu : Baseband (· = 0x200) s ((s.advTo c).draw n).2 := (Baseband.advTo s c (by rfl)).trans (.draw _ n)
  have hsnaps : ((s.advTo c).draw n).2.gnb.snaps = s.gnb.snaps := by
    obtain ⟨g, k, hsame⟩ := s.advTo_same c
    rw [hsame]
    rfl
  generalize ((s.advTo c).draw n).2 = u at hu hsnaps
  refine ⟨List.filter_eq_nil_iff.2 fun y hy => ?_, ?_, ⟨_, State.mem_modSnaps_of_mem _ (hsnaps ▸ hin) hstage, rfl, rfl, rfl, rfl, rfl⟩,
    fun i hi => hu.reg hi⟩
  · obtain ⟨z, rfl⟩ | hne := State.mem_modSnaps hy
    · exact Bool.false_ne_true
    · exact Bool.eq_false_iff.1 hne
  · rw [startCapture, State.modSnaps_snaps, List.length_map, hsnaps]

/-! ### CAPTURE_COMPLETE -/

/-- The bytes that the samples of a capture of `n` bytes leave in the buffer. -/
def captured (n : Nat) (q : List (BitVec 8 × BitVec 8)) : List Byte := padTo n (quantize (q.take n))

/-- At core clock `c` the bytes `bs` of a capture are in the buffer at `off`, and it is counted. -/
def storeCapture (s : State) (c off : Nat) (bs : List Byte) : State := ((s.advCcTo c).snapWrite off bs).inc F.GNB_SNAPSTAT_CAPTURES

/-- The capture is over, with `h` as its header, and all its segments wait. -/
def endCapture (v : State) (dur : Nat) (h : List Byte) : State :=
  v.modSnaps (fun y => y.stage = 2) (fun y => { y with
    stage := 3, todo := List.range (nSeg dur + 1), unacked := List.range (nSeg dur + 1), hdr := h })

theorem exec_captureComplete (s : State) {x : Snap} (q : List (BitVec 8 × BitVec 8)) (hrun : s.boot.halted = false)
    (hx : s.gnb.snaps.find? (fun x => x.stage = 2) = some x) : ∃ h,
    exec (.captureComplete q) s = .next (endCapture (storeCapture s (x.at_ + msClocks x.dur) x.off (captured (snapLen x.dur) q)) x.dur h).pump := by
  show ∃ h, execCaptureComplete q s = _
  rw [execCaptureComplete, s.clocked_running _ hrun, hx]
  exact ⟨_, rfl⟩

theorem storeCapture_facts (s : State) (c off : Nat) (bs : List Byte) : ∀ v, v = storeCapture s c off bs →
    c ≤ v.clk.cc ∧ v.queues = s.queues ∧ v.gnb.snaps = s.gnb.snaps ∧
      v.fld F.GNB_SNAPSTAT_CAPTURES = satAdd 16 (s.fld F.GNB_SNAPSTAT_CAPTURES) 1 ∧
      ∀ i, i < bs.length → spGet (fun _ => 0#8) v.gnb.buf (off + i) = bs.getD i 0 := by
  rintro v rfl
  unfold storeCapture
  have htime : Baseband (· = 0x200) s (s.advCcTo c) := .advCcTo s c (by rfl)
  have hcc : c ≤ (s.advCcTo c).clk.cc := (s.advCcTo_cc c).symm ▸ le_max_right s.clk.cc c
  have hsnaps : (s.advCcTo c).gnb.snaps = s.gnb.snaps := by
    obtain ⟨g, k, hsame⟩ := s.advCcTo_same c
    rw [hsame]
  generalize s.advCcTo c = u at htime hcc hsnaps
  have hget := fun i hi => u.snapWrite_get off bs (i := i) hi
  obtain ⟨z, hwrite, hz⟩ := u.snapWrite_same off bs
  rw [hwrite, State.setGnb_gnb] at hget
  rw [hwrite, State.inc_clk, State.setGnb_clk, State.inc_queues, State.setGnb_queues, State.inc_gnb, State.setGnb_gnb,
    State.fld_inc_same _ F.GNB_SNAPSTAT_CAPTURES (by decide), State.setGnb_fld, htime.fld F.GNB_SNAPSTAT_CAPTURES (by decide)]
  exact ⟨hcc, htime.queues, hz.trans hsnaps, rfl, hget⟩

theorem endCapture_facts (v : State) {x : Snap} (h : List Byte) (hmem : x ∈ v.gnb.snaps) (hstage : x.stage = 2) :
    ∀ u, u = endCapture v x.dur h → (∃ g, u = v.setGnb g ∧ g.buf = v.gnb.buf) ∧ (∀ y ∈ u.gnb.snaps, y.stage ≠ 2) ∧
      ∃ y ∈ u.gnb.snaps, y.id = x.id ∧ y.stage = 3 ∧ y.todo = List.range (nSeg x.dur + 1) ∧ y.unacked = y.todo := by
  rintro u rfl
  refine ⟨⟨_, rfl, rfl⟩, fun y hy => ?_, _, State.mem_modSnaps_of_mem _ hmem (decide_eq_true hstage), rfl, rfl, rfl, rfl⟩
  obtain ⟨z, rfl⟩ | hne := State.mem_modSnaps hy
  · exact (by decide : (3 : Nat) ≠ 2)
  · exact of_decide_eq_false hne

theorem captureComplete_facts (s : State) {x : Snap} (h : List Byte) (c n : Nat) (q : List (BitVec 8 × BitVec 8))
    (hmem : x ∈ s.gnb.snaps) (hstage : x.stage = 2) : ∀ u, u = endCapture (storeCapture s c x.off (captured n q)) x.dur h →
      c ≤ u.clk.cc ∧ u.queues = s.queues ∧ u.fld F.GNB_SNAPSTAT_CAPTURES = satAdd 16 (s.fld F.GNB_SNAPSTAT_CAPTURES) 1 ∧
        (∀ y ∈ u.gnb.snaps, y.stage ≠ 2) ∧
        (∀ i, i < n → spGet (fun _ => 0#8) u.gnb.buf (x.off + i) = (captured n q).getD i 0#8) ∧
        ∃ y ∈ u.gnb.snaps, y.id = x.id ∧ y.stage = 3 ∧ y.todo = List.range (nSeg x.dur + 1) ∧ y.unacked = y.todo := by
  intro u hu
  obtain ⟨hcc, hqueues, hsnaps, hcnt, hbuf⟩ := storeCapture_facts s c x.off (captured n q) _ rfl
  generalize storeCapture s c x.off (captured n q) = v at *
  obtain ⟨⟨g, rfl, hg⟩, hover, hended⟩ := endCapture_facts v h (hsnaps ▸ hmem) hstage u hu
  refine ⟨hcc, hqueues, hcnt, hover, fun i hi => ?_, hended⟩
  rw [State.setGnb_gnb, hg]
  exact hbuf i (hi.trans_eq (padTo_length _ _).symm)

/-! ### SNAPSHOT_SPACE_RELEASE -/

theorem exec_snapshotSpaceRelease (s : State) {x : Snap} (hrun : s.boot.halted = false)
    (hx : s.gnb.snaps.find? (fun x => x.stage = 3) = some x) :
    exec .snapshotSpaceRelease s = .next (State.freeSnap (if x.unacked = [] then s else s.advCcTo (x.at_ + secClocks 120)) x) := by
  show execSnapshotSpaceRelease s = _
  rw [execSnapshotSpaceRelease, s.clocked_running _ hrun, hx]

theorem snapshotSpaceRelease_facts (s : State) (x : Snap) (c : Nat) :
    ∀ t, t = State.freeSnap (if x.unacked = [] then s else s.advCcTo c) x →
      t.gnb.snaps = s.gnb.snaps.filter (fun y => y ≠ x) ∧ (x.unacked ≠ [] → c ≤ t.clk.cc) ∧ ∀ i, i ≠ 0x200 → t.reg i = s.reg i := by
  rintro t rfl
  by_cases h : x.unacked = []
  · obtain ⟨hsnaps, -, hreg⟩ := s.freeSnap_facts x
    rw [if_pos h]
    exact ⟨hsnaps, fun hne => absurd h hne, fun i _ => hreg i⟩
  · obtain ⟨hsnaps, hclk, hreg⟩ := (s.advCcTo c).freeSnap_facts x
    obtain ⟨g, k, hsame⟩ := s.advCcTo_same c
    rw [if_neg h, hsnaps, hclk, s.advCcTo_cc]
    exact ⟨by rw [hsame], fun _ => Nat.le_max_right _ _, fun i hi => (hreg i).trans (s.advCcTo_reg c hi)⟩

/-! ### The obligation -/

/-- Settles O35: each command leaves what its stage of a snapshot leaves, and CAPTURE_COMPLETE the state from which segments
move. -/
theorem snapshotsAreCaptured : Obligations.SnapshotsAreCaptured := by
  unfold Obligations.SnapshotsAreCaptured
  intro s hrun
  refine ⟨fun v hpow => localSnapshotRequest_facts s v hrun hpow, fun v hpow => ?off, fun x hx hpow => ?idle, fun x hx hpow => ?power,
    fun x xs hx hon => ⟨_, exec_captureStart s hrun hx hon, startCapture_facts s (hx ▸ List.mem_cons_self) _ _ _ _ rfl⟩,
    fun x q hx => ?complete, fun x hx => ?release⟩
  case off => rw [exec_localSnapshotRequest s v hrun, writeSnapReq_off s v hpow]
  case idle => rw [exec_frontEndPowerUp s hrun hx, hpow, if_neg (by decide)]
  case power =>
    rw [exec_frontEndPowerUp s hrun hx, if_pos hpow]
    exact ⟨_, rfl, powerUp_facts s x⟩
  case complete =>
    obtain ⟨h, hexec⟩ := exec_captureComplete s q hrun hx
    generalize x.at_ + msClocks x.dur = c at hexec ⊢
    exact ⟨_, hexec, captureComplete_facts s h c _ q (List.mem_of_find?_eq_some hx) (by simpa using List.find?_some hx) _ rfl⟩
  case release =>
    have hexec := exec_snapshotSpaceRelease s hrun hx
    generalize x.at_ + secClocks 120 = c at hexec ⊢
    exact ⟨_, hexec, snapshotSpaceRelease_facts s x c _ rfl⟩

end Sys2Proof.Proofs
end

section
/-! PROOF. EVS_POP (O23): the words of a ring item in order, and its release after the last (R137, R414). -/

namespace Sys2Proof.Machine

open Sys2Proof

/-! ### A word read clean -/

/-- A word whose check bits are clean is read as it stands, and the read changes nothing (R343). -/
theorem State.sramRead_clean (s : State) {a : Nat} (req : Nat) (h : (s.sramData a).2 = 0) :
    s.sramRead a req = ((s.sramData a).1, false, s) := if_pos h

/-! ### The words of an item -/

/-- The head item of ring `q`, of `n` records, is released, and no word of the next one is read yet. -/
def State.takeItem (s : State) (q n : Nat) : State :=
  (s.release q n).setQueue q { (s.release q n).queue q with popped := 0 }

theorem State.queue_release (s : State) (q n i : Nat) :
    (s.release q n).queue i = if i = q then { s.queue q with recs := (s.queue q).recs.drop n } else s.queue i :=
  s.queue_setQueue q i _

theorem State.takeItem_facts (s : State) (q n : Nat) : ∀ u, u = s.takeItem q n →
    (u.queue q).recs = (s.queue q).recs.drop n ∧ (u.queue q).popped = 0 ∧ u.regs = s.regs ∧ u.mem = s.mem ∧
      ∀ k, k ≠ q → u.queue k = s.queue k := by
  rintro u rfl
  have hqueue := (s.release q n).queue_setQueue q
  unfold State.takeItem
  refine ⟨by rw [hqueue, if_pos rfl, s.queue_release, if_pos rfl], by rw [hqueue, if_pos rfl], rfl, rfl, fun k hk => ?_⟩
  rw [hqueue, if_neg hk, s.queue_release, if_neg hk]

theorem State.popWord_empty (s : State) {q : Nat} (req : Nat) (h : s.items q = []) : s.popWord q req = (none, s) := by
  rw [State.popWord, h]

section
variable (s : State) {q : Nat} (req : Nat) {r : List Rec} {rs : List (List Rec)} {x : Rec}
  (hitem : s.items q = r :: rs) (hword : r[(s.queue q).popped / 3]? = some x)
  (hclean : (s.sramData (0x10000 + 3 * x.slot + (s.queue q).popped % 3)).2 = 0)
include hitem hword hclean

/-- Before the last word of the head item only the count of words read changes. -/
theorem State.popWord_middle (hmore : (s.queue q).popped + 1 < 3 * r.length) :
    ∃ w, s.popWord q req = (some (w, false), s.setQueue q { s.queue q with popped := (s.queue q).popped + 1 }) := by
  simp only [State.popWord, hitem, hword, s.sramRead_clean req hclean]
  exact ⟨_, if_neg (by omega)⟩

/-- The last word releases the item. -/
theorem State.popWord_last (hlast : 3 * r.length ≤ (s.queue q).popped + 1) :
    ∃ w, s.popWord q req = (some (w, false), (s.takeItem q r.length).flow) := by
  simp only [State.popWord, hitem, hword, s.sramRead_clean req hclean]
  exact ⟨_, if_pos hlast⟩

end

/-! ### A read of EVS_POP -/

/-- The row of EVS_POP. -/
def popRow : RegRow := ⟨.EVS_POP, 0x607, 1, 1, 0, 0x0, 0x0, 0x0, 0x0⟩

theorem regAt_pop : regAt 0x607 = some popRow := by decide

theorem pop_outside : inKey 0x607 = false ∧ sramReg 0x607 = false ∧ inInputs 0x607 = false := by decide

/-- With a ring named that the host may not consume, a read does nothing. -/
theorem State.readBy_pop_other (s : State) (p : Path) (h : popRing (s.fld F.EVS_POPSEL_Q) = false) : s.readBy p 0x607 = s := by
  obtain ⟨hkey, hsram, hin⟩ := pop_outside
  simp [State.readBy, State.hostRead, regAt_pop, hkey, hsram, hin, popRow, h]

/-- Otherwise it leaves what taking a word leaves, if the word is not delivered poisoned. -/
theorem State.readBy_pop (s : State) (p : Path) {o : Option (Word × Bool)} {t : State}
    (hring : popRing (s.fld F.EVS_POPSEL_Q) = true) (hpop : s.popWord (s.fld F.EVS_POPSEL_Q) (pathReq p) = (o, t))
    (hclean : ∀ w, o ≠ some (w, true)) : s.readBy p 0x607 = t := by
  obtain ⟨hkey, hsram, hin⟩ := pop_outside
  simp only [State.readBy, State.hostRead, regAt_pop, hkey, hsram, hin, popRow, Bool.and_false, Bool.false_eq_true, if_false]
  rw [if_pos hring, hpop]
  cases o with
  | none => simp
  | some x =>
    obtain ⟨w, pois⟩ := x
    cases pois with
    | false => simp
    | true => exact absurd rfl (hclean w)

end Sys2Proof.Machine

namespace Sys2Proof.Proofs

open Sys2Proof Sys2Proof.Machine

theorem exec_ringPop (s : State) (p : Path) (hrun : s.boot.halted = false) :
    exec (.ringPop p) s = .next (s.readBy p 0x607) :=
  s.clocked_running (fun s => ok (s.readBy p 0x607)) hrun

/-- Settles O23: a read takes a word, which is the last one of its item or not. -/
theorem ringPopTakesWords : Obligations.RingPopTakesWords := by
  unfold Obligations.RingPopTakesWords
  rintro s p hrun q rfl
  rw [exec_ringPop s p hrun]
  refine ⟨fun hnone => ?nothing, fun r rs x hring hitem hword hclean => ⟨fun hmore => ?middle, fun hlast => ?last⟩⟩
  case nothing =>
    cases hring : popRing (s.fld F.EVS_POPSEL_Q) with
    | false => rw [s.readBy_pop_other p hring]
    | true =>
      have hempty := hnone.resolve_left (by rw [hring]; decide)
      rw [s.readBy_pop p hring (s.popWord_empty _ hempty) (fun _ => nofun)]
  case middle =>
    obtain ⟨w, hpop⟩ := s.popWord_middle (pathReq p) hitem hword hclean hmore
    rw [s.readBy_pop p hring hpop (by simp)]
  case last =>
    obtain ⟨w, hpop⟩ := s.popWord_last (pathReq p) hitem hword hclean hlast
    rw [s.readBy_pop p hring hpop (by simp)]
    exact ⟨_, rfl, s.takeItem_facts _ _ _ rfl⟩

end Sys2Proof.Proofs
end

section
/-! PROOF. The writes that act on queues and on the map swap: the bit that names the command, and a write whose effect is its
register's own (R10 to R14, R411). -/

namespace Sys2Proof.Machine

open Sys2Proof

/-! ### The bit that names a command -/

theorem bitOf_bitAs (v : Word) (b : Bool) (j : Nat) {i : Nat} (hi : i < 40) :
    bitOf (bitAs v i b).toNat j = if j = i then b else bitOf v.toNat j := by
  have hlt : setBits v.toNat i i (b2n b) < 2 ^ 40 := setBits_lt _ _ _ _ v.isLt (Nat.le_refl i) hi
  have hnat : (bitAs v i b).toNat = setBits v.toNat i i (b2n b) := (BitVec.toNat_ofNat _ _).trans (Nat.mod_eq_of_lt hlt)
  rw [bitOf_eq_testBit, bitOf_eq_testBit, hnat, testBit_setBits _ _ _ _ _ (Nat.le_refl i)]
  by_cases h : j = i
  · subst h
    rw [if_pos ⟨Nat.le_refl j, Nat.le_refl j⟩, if_pos rfl, Nat.sub_self]
    cases b <;> rfl
  · rw [if_neg (by omega), if_neg h]

/-! ### A write whose effect is its register's own -/

/-- In a calm core clock, a write that its register takes has the effect of the register, on the flags written 1 cleared. -/
theorem State.write_calm (s : State) {p : Path} {a : Nat} {r : RegRow} {v : Word} {f : State → State}
    (hopen : closedTo (some p) a = false) (hr : regAt a = some r) (hcalm : s.calm = true) (hin : inInputs a = false)
    (hrw : r.rw ≠ 0) (heff : ∀ u x, State.writeReg u (some p) r a v x = (.done, f u)) :
    s.write p a v = (f (s.clearedBy r a v)).completed := by
  rw [State.write, s.hostWrite_calm v hopen hr ((s.metAt_other hin).symm ▸ hcalm) hrw, heff]
  rfl

/-- The flags written 1 clear in their register alone. -/
theorem State.clearedBy_setReg (s : State) {r : RegRow} {a : Nat} (v : Word) (hin : inInputs a = false) (h : r.w1c ≠ 0) :
    ∃ y, s.clearedBy r a v = s.setReg a y := by
  rw [State.clearedBy, if_neg h, s.metAt_other hin]
  exact ⟨_, rfl⟩

/-! ### One register -/

/-- From `s` to `t` nothing changes but register `a`. -/
def RegOnly (a : Nat) (s t : State) : Prop := (∃ g, t = { s with regs := g }) ∧ ∀ i, i ≠ a → t.reg i = s.reg i

theorem RegOnly.trans {a : Nat} {s t u : State} (h : RegOnly a s t) (h' : RegOnly a t u) : RegOnly a s u := by
  obtain ⟨⟨g, rfl⟩, hreg⟩ := h
  obtain ⟨⟨g', e⟩, hreg'⟩ := h'
  exact ⟨⟨g', e⟩, fun i hi => (hreg' i hi).trans (hreg i hi)⟩

section
variable {a : Nat} {s t : State} (h : RegOnly a s t)
include h

theorem RegOnly.mem : t.mem = s.mem := by obtain ⟨⟨_, rfl⟩, -⟩ := h; rfl

theorem RegOnly.flash : t.flash = s.flash := by obtain ⟨⟨_, rfl⟩, -⟩ := h; rfl

theorem RegOnly.queues : t.queues = s.queues := by obtain ⟨⟨_, rfl⟩, -⟩ := h; rfl

theorem RegOnly.queue (q : Nat) : t.queue q = s.queue q := by rw [State.queue, State.queue, h.queues]

theorem RegOnly.fld (f : Fld) (hf : f.addr ≠ a) : t.fld f = s.fld f := State.fld_of_reg f (h.2 _ hf)

theorem RegOnly.modeNow (ha : 0x100 ≠ a) : t.modeNow = s.modeNow := h.fld F.MOD_STAT_MODE ha

end

theorem State.setReg_regOnly (s : State) (a : Nat) (y : Word) : RegOnly a s (s.setReg a y) :=
  ⟨⟨_, rfl⟩, fun i hi => (s.reg_setReg a i y).trans (if_neg hi)⟩

theorem State.setFld_regOnly (s : State) (f : Fld) (x : Nat) : RegOnly f.addr s (s.setFld f x) := s.setReg_regOnly _ _

/-- A flag that hardware sets reads 1. -/
theorem State.raise_flag_same (s : State) (f : Fld) (h : f.ok = true) : (s.raise f).flag f = true :=
  ((s.setFlag f true).mark_flag f f).trans (s.flag_setFlag_same f true h)

end Sys2Proof.Machine
end

section
/-! PROOF. What a flush leaves (R135), and its end (R136, R138). -/

namespace Sys2Proof.Machine

open Sys2Proof

/-! ### Partial items -/

/-- From `s` to `t` nothing changes but assembly and, of the registers, bits from 16 up. -/
def DropsWords (s t : State) : Prop :=
  (∃ g a, t = { s with regs := g, asms := a }) ∧ ∀ f : Fld, f.hi < 16 → t.fld f = s.fld f

theorem DropsWords.trans {s t u : State} (h : DropsWords s t) (h' : DropsWords t u) : DropsWords s u := by
  obtain ⟨⟨g, a, rfl⟩, hfld⟩ := h
  obtain ⟨⟨g', a', e⟩, hfld'⟩ := h'
  exact ⟨⟨g', a', e⟩, fun f hf => (hfld' f hf).trans (hfld f hf)⟩

theorem DropsWords.flag {s t : State} (h : DropsWords s t) (f : Fld) (hf : f.hi < 16) : t.flag f = s.flag f := by
  rw [State.flag, State.flag, h.2 f hf]

theorem State.setDropw_dropsWords (s : State) (q x : Nat) : DropsWords s (s.setFld (F.EVS_Qn_CTL_DROPW q) x) :=
  ⟨⟨_, _, rfl⟩, fun f hf => s.fld_setFld_disj (F.EVS_Qn_CTL_DROPW q) f x rfl (.inl hf)⟩

/-- The words of partial items are counted in DROPW, and the rest of them will be dropped. -/
theorem State.dropPartials_dropsWords (s : State) (q : Nat) : DropsWords s (s.dropPartials q) := by
  unfold State.dropPartials
  generalize s.asms = l
  induction l generalizing s with
  | nil => exact ⟨⟨_, _, rfl⟩, fun _ _ => rfl⟩
  | cons p l ih =>
    rw [List.foldl_cons]
    split
    · obtain ⟨hsame, hfld⟩ := s.setDropw_dropsWords q
        (satAdd (F.EVS_Qn_CTL_DROPW q).width (s.fld (F.EVS_Qn_CTL_DROPW q)) p.2.words.length)
      refine DropsWords.trans ⟨⟨_, _, rfl⟩, fun f hf => ?_⟩ (ih _)
      exact (State.setAsm_fld _ _ _ f).trans (hfld f hf)
    · exact ih s

/-! ### Outcomes -/

/-- From `s` to `t` changes what a report may change, of the registers only the count of items that the trace ring Q61
dropped, and of the queues only Q61. -/
def Noted (s t : State) : Prop :=
  Reported [(F.EVS_Qn_ERR_w 61).addr] s t ∧ ∀ p, p ≠ 61 → t.queue p = s.queue p

theorem Noted.refl (s : State) : Noted s s := ⟨.refl _ s, fun _ _ => rfl⟩

theorem Noted.trans {s t u : State} (h : Noted s t) (h' : Noted t u) : Noted s u :=
  ⟨h.1.trans h'.1, fun p hp => (h'.2 p hp).trans (h.2 p hp)⟩

theorem Noted.flash {s t : State} (h : Noted s t) : t.flash = s.flash := by
  obtain ⟨⟨⟨_, _, _, _, _, rfl⟩, -⟩, -⟩ := h; rfl

theorem Noted.flag {s t : State} (h : Noted s t) (f : Fld) (hf : f.addr ≠ 0x643 + 4 * 61) : t.flag f = s.flag f :=
  State.flag_of_reg f (h.1.reg (by simpa [F.EVS_Qn_ERR_w] using hf))

theorem State.queue_pushItem_ne (s : State) {q p : Nat} (ws : List Word) (cs : List Nat) (h : p ≠ q) :
    (s.pushItem q ws cs).queue p = s.queue p := by
  unfold State.pushItem
  induction recsOf ws.length ws cs generalizing s with
  | nil => rfl
  | cons r rs ih => exact (ih _).trans ((State.queue_setQueue _ q p _).trans (if_neg h))

theorem State.execRec_noted (s : State) (o q n : Nat) : Noted s (s.execRec o q n) := by
  unfold State.execRec
  split
  · refine ⟨s.ringDrop_reported 61 _ _ (List.mem_singleton.2 rfl), fun p hp => ?_⟩
    unfold State.ringDrop
    split
    · exact s.queue_pushItem_ne _ _ hp
    · rfl
  · exact .refl s

theorem State.noteOutcome_noted (s : State) (d : Deferred) (r : Nat) : Noted s (s.noteOutcome d r) := by
  have hdraw : Noted s (s.draw 65536).2 := ⟨⟨⟨_, _, _, _, _, rfl⟩, fun _ _ => rfl⟩, fun _ _ => rfl⟩
  unfold State.noteOutcome
  split
  · exact s.execRec_noted _ _ _
  · split
    · exact .refl s
    · exact hdraw.trans (State.execRec_noted _ _ _ _)

/-! ### A flush -/

/-- The queue is empty and in FLUSH; a queue in SAFE will be so again. -/
def State.emptied (s : State) (q : Nat) (toSafe : Bool) : State :=
  let x := s.queue q
  let s : State := { s with spent := x.recs.reverse ++ s.spent }
  s.setQueue q { x with
    recs := [], popped := 0, st := .flush, flushBy := (s.now / 32 * 32 + 128) % mod40
    toSafe := toSafe || x.st == .safe || (x.st == .flush && x.toSafe) }

/-- FLUSH reads 1, and partial items are dropped. -/
def State.flushed (s : State) (q : Nat) (toSafe : Bool) : State :=
  (((s.emptied q toSafe).setFlag (F.EVS_Qn_CTL_FLUSH q) true).setFld (F.EVS_Qn_CTL_DROPW q) 0).dropPartials q

/-- The channel of a flushed valve queue: no deferred open, S_n closed, and a close due if it is open. -/
def ValveSt.flushed (openNow : Bool) (v : ValveSt) : ValveSt :=
  { v with deferred := none, closeDue := v.closeDue || openNow, sn := false }

theorem State.flush_other (s : State) {q : Nat} (openNow toSafe : Bool) (hq : 48 ≤ q) :
    s.flush q openNow toSafe = s.flushed q toSafe := by
  have hvalve : ¬ q < 48 := Nat.not_lt.2 hq
  unfold State.flush
  simp only [hvalve, if_false]
  split <;> rfl

/-- On a valve queue the outcome of a deferred open is noted, and the channel follows. -/
theorem State.flush_valve (s : State) {q : Nat} (openNow toSafe : Bool) (hq : q < 48) :
    ∃ w, Noted (s.flushed q toSafe) w ∧ s.flush q openNow toSafe = w.modValve q (ValveSt.flushed openNow) := by
  unfold State.flush
  simp only [hq, if_true]
  split
  · exact ⟨_, State.noteOutcome_noted _ _ _, rfl⟩
  · exact ⟨_, .refl _, rfl⟩

theorem State.emptied_queue (s : State) (q : Nat) (toSafe : Bool) :
    ((s.emptied q toSafe).queue q).recs = [] ∧ ((s.emptied q toSafe).queue q).st = .flush ∧
      ∀ p, p ≠ q → (s.emptied q toSafe).queue p = s.queue p := by
  unfold State.emptied
  refine ⟨?_, ?_, fun p hp => (State.queue_setQueue _ q p _).trans (if_neg hp)⟩ <;> rw [State.queue_setQueue, if_pos rfl]

/-- Nothing but assembly and the registers changes while partial items are dropped. -/
theorem State.flushed_same (s : State) (q : Nat) (toSafe : Bool) :
    ∃ g a, s.flushed q toSafe = { s.emptied q toSafe with regs := g, asms := a } := by
  obtain ⟨⟨g, a, hsame⟩, -⟩ := State.dropPartials_dropsWords
    (((s.emptied q toSafe).setFlag (F.EVS_Qn_CTL_FLUSH q) true).setFld (F.EVS_Qn_CTL_DROPW q) 0) q
  exact ⟨g, a, hsame⟩

theorem State.flushed_flags (s : State) (q : Nat) (toSafe : Bool) :
    (s.flushed q toSafe).flag (F.EVS_Qn_CTL_FLUSH q) = true ∧
      (s.flushed q toSafe).flag (F.EVS_Qn_CTL_EN q) = s.flag (F.EVS_Qn_CTL_EN q) := by
  generalize hu : (s.emptied q toSafe).setFlag (F.EVS_Qn_CTL_FLUSH q) true = u
  have hdrop : DropsWords u (s.flushed q toSafe) := by
    rw [State.flushed, hu]
    exact (u.setDropw_dropsWords q 0).trans (State.dropPartials_dropsWords _ q)
  rw [hdrop.flag (F.EVS_Qn_CTL_FLUSH q) (by decide : 0 < 16), hdrop.flag (F.EVS_Qn_CTL_EN q) (by decide : 2 < 16), ← hu]
  exact ⟨State.flag_setFlag_same _ (F.EVS_Qn_CTL_FLUSH q) true rfl,
    State.flag_setFld_disj _ (F.EVS_Qn_CTL_FLUSH q) (F.EVS_Qn_CTL_EN q) _ rfl (.inr (by decide : 0 < 2))⟩

/-- What a flush of queue `q` in `s` leaves in `t` (R135): EN reads `en`, and the channel was open if `openNow`. -/
def FlushLeaves (q : Nat) (en openNow : Bool) (s t : State) : Prop :=
  (t.queue q).recs = [] ∧ (t.queue q).st = .flush ∧ t.flag (F.EVS_Qn_CTL_FLUSH q) = true ∧ t.flag (F.EVS_Qn_CTL_EN q) = en ∧
    (∀ p, p ≠ q → p ≠ 61 → (t.queue p).recs = (s.queue p).recs) ∧
    (q < 48 → (t.valve q).sn = false ∧ (t.valve q).deferred = none ∧ (openNow = true → (t.valve q).closeDue = true)) ∧
    t.mem = s.mem ∧ t.flash = s.flash

theorem State.flush_leaves (s : State) (q : Nat) (openNow toSafe : Bool) :
    FlushLeaves q (s.flag (F.EVS_Qn_CTL_EN q)) openNow s (s.flush q openNow toSafe) := by
  obtain ⟨hrecs, hst, hothers⟩ := s.emptied_queue q toSafe
  obtain ⟨hflush, hen⟩ := s.flushed_flags q toSafe
  obtain ⟨g, a, hsame⟩ := s.flushed_same q toSafe
  have hqueue : ∀ p, (s.flushed q toSafe).queue p = (s.emptied q toSafe).queue p := fun p => by rw [hsame]; rfl
  have hmem : (s.flushed q toSafe).mem = s.mem ∧ (s.flushed q toSafe).flash = s.flash := by rw [hsame]; exact ⟨rfl, rfl⟩
  by_cases hq : q < 48
  · obtain ⟨w, hnoted, hw⟩ := s.flush_valve openNow toSafe hq
    have hwqueue : ∀ p, p ≠ 61 → w.queue p = (s.emptied q toSafe).queue p := fun p hp =>
      (hnoted.2 p hp).trans (hqueue p)
    have hvalve : (w.modValve q (ValveSt.flushed openNow)).valve q = ValveSt.flushed openNow (w.valve q) :=
      (w.valve_modValve q q _).trans (if_pos rfl)
    rw [hw, FlushLeaves, hvalve]
    simp only [State.modValve_flag, State.modValve_mem, State.modValve_flash]
    refine ⟨?_, ?_, ?_, ?_, fun p hp hp61 => ?_, fun _ => ⟨rfl, rfl, fun ho => ?_⟩, ?_, ?_⟩
    · exact (congrArg QueueSt.recs (hwqueue q (by omega))).trans hrecs
    · exact (congrArg QueueSt.st (hwqueue q (by omega))).trans hst
    · exact (hnoted.flag (F.EVS_Qn_CTL_FLUSH q) (by show 0x642 + 4 * q ≠ _; omega)).trans hflush
    · exact (hnoted.flag (F.EVS_Qn_CTL_EN q) (by show 0x642 + 4 * q ≠ _; omega)).trans hen
    · exact congrArg QueueSt.recs ((hwqueue p hp61).trans (hothers p hp))
    · simp [ValveSt.flushed, ho]
    · exact hnoted.1.mem.trans hmem.1
    · exact hnoted.flash.trans hmem.2
  · rw [s.flush_other openNow toSafe (by omega)]
    exact ⟨(congrArg QueueSt.recs (hqueue q)).trans hrecs, (congrArg QueueSt.st (hqueue q)).trans hst, hflush, hen,
      fun p hp _ => congrArg QueueSt.recs ((hqueue p).trans (hothers p hp)), fun h => absurd h hq, hmem.1, hmem.2⟩

/-! ### The end of a flush -/

/-- The end of a flush: SAFE for a queue that was so, else as EN says, and FLUSH and FLDONE show it. -/
theorem State.endFlush_facts (s : State) (q : Nat) (h : (s.queue q).st = .flush) : ∀ t, t = s.endFlush q →
    (t.queue q).st = (if (s.queue q).toSafe then .safe else if s.flag (F.EVS_Qn_CTL_EN q) then .run else .off) ∧
      t.flag (F.EVS_Qn_CTL_FLUSH q) = false ∧ t.flag (F.EVS_Qn_CTL_FLDONE q) = true ∧
      (t.queue q).recs = (s.queue q).recs ∧ t.mem = s.mem ∧ t.flash = s.flash ∧
      ∀ a, a ≠ (F.EVS_Qn_CTL_FLUSH q).addr → t.reg a = s.reg a := by
  rintro t rfl
  have hqueue : ∀ x : QueueSt, (((s.setQueue q x).update (F.EVS_Qn_CTL_FLUSH q) 0).raise (F.EVS_Qn_CTL_FLDONE q)).queue q = x :=
    fun x => (s.queue_setQueue q q x).trans (if_pos rfl)
  have hzero : ∀ u : State, ((u.update (F.EVS_Qn_CTL_FLUSH q) 0).raise (F.EVS_Qn_CTL_FLDONE q)).fld (F.EVS_Qn_CTL_FLUSH q) = 0 :=
    fun u => (State.raise_fld_disj _ (F.EVS_Qn_CTL_FLDONE q) (F.EVS_Qn_CTL_FLUSH q) rfl (.inl (by decide : 0 < 1))).trans
      ((State.mark_fld _ _ _).trans (u.fld_setFld_same (F.EVS_Qn_CTL_FLUSH q) 0 rfl))
  unfold State.endFlush
  simp only [h, if_true]
  refine ⟨by rw [hqueue], by rw [State.flag, hzero]; rfl, ?_, by rw [hqueue], rfl, rfl, fun a ha => ?_⟩
  · exact State.raise_flag_same _ (F.EVS_Qn_CTL_FLDONE q) rfl
  · exact (State.raise_reg_ne _ (F.EVS_Qn_CTL_FLDONE q) ha).trans (State.update_reg_ne _ (F.EVS_Qn_CTL_FLUSH q) 0 ha)

end Sys2Proof.Machine
end

section
/-! PROOF. What a write of EVS_Qn_CTL (R135, R136, R138) and of PLN_MAP (R140) does. -/

namespace Sys2Proof.Machine

open Sys2Proof

/-! ### EVS_Qn_CTL -/

theorem State.chOpen_of_fld {s t : State} {n : Nat} (h : t.fld (F.VDA_CHn_STAT_STATE n) = s.fld (F.VDA_CHn_STAT_STATE n)) :
    t.chOpen n = s.chOpen n := by
  rw [State.chOpen, State.chOpen, State.chSt, State.chSt, h]

/-- From `s` to `t` nothing changes but queue `q`. -/
def QueueOnly (q : Nat) (s t : State) : Prop := (∃ x, t = { s with queues := x }) ∧ ∀ p, p ≠ q → t.queue p = s.queue p

theorem State.setQueue_queueOnly (s : State) (q : Nat) (x : QueueSt) : QueueOnly q s (s.setQueue q x) :=
  ⟨⟨_, rfl⟩, fun p hp => (s.queue_setQueue q p x).trans (if_neg hp)⟩

section
variable (u : State) (q : Nat) {w : Word}

theorem State.setEn_modeNow (b : Bool) : (u.setFlag (F.EVS_Qn_CTL_EN q) b).modeNow = u.modeNow :=
  u.fld_setFld_ne (F.EVS_Qn_CTL_EN q) F.MOD_STAT_MODE _ (by show 0x100 ≠ 0x642 + 4 * q; omega)

theorem State.setEn_chOpen (b : Bool) : (u.setFlag (F.EVS_Qn_CTL_EN q) b).chOpen q = u.chOpen q :=
  State.chOpen_of_fld (u.fld_setFld_ne (F.EVS_Qn_CTL_EN q) (F.VDA_CHn_STAT_STATE q) _
    (by show 0x885 + 8 * q ≠ 0x642 + 4 * q; omega))

/-- EN = 1 without FLUSH in BOOT, where every queue stays OFF. -/
theorem State.writeQueueCtl_boot_enable (hmode : u.modeNow = modeBoot) (hen : bitOf w.toNat 2 = true)
    (hfl : bitOf w.toNat 0 = false) : u.writeQueueCtl q w = u.setFlag (F.EVS_Qn_CTL_EN q) true := by
  simp [State.writeQueueCtl, State.setEn_modeNow, hmode, hen, hfl]

/-- A flush in BOOT, where every queue is empty, is complete at once. -/
theorem State.writeQueueCtl_boot_flush (hmode : u.modeNow = modeBoot) (h : bitOf w.toNat 0 = true ∨ bitOf w.toNat 2 = false) :
    ∃ v : State, v.queues = u.queues ∧ u.writeQueueCtl q w = v.raise (F.EVS_Qn_CTL_FLDONE q) := by
  have hfl : (bitOf w.toNat 0 || !bitOf w.toNat 2) = true := by simpa using h
  simp only [State.writeQueueCtl, State.setEn_modeNow, hmode, hfl, if_true]
  refine ⟨_, ?_, rfl⟩
  obtain ⟨⟨g, a, hsame⟩, -⟩ := State.dropPartials_dropsWords
    ((u.setFlag (F.EVS_Qn_CTL_EN q) (bitOf w.toNat 2)).setFld (F.EVS_Qn_CTL_DROPW q) 0) q
  rw [hsame]
  rfl

/-- EN = 1 without FLUSH returns a queue in OFF or SAFE to RUN, and waiting items move. -/
theorem State.writeQueueCtl_enable (hmode : u.modeNow ≠ modeBoot) (hst : (u.queue q).st = .off ∨ (u.queue q).st = .safe)
    (hen : bitOf w.toNat 2 = true) (hfl : bitOf w.toNat 0 = false) : u.writeQueueCtl q w =
      ((u.setFlag (F.EVS_Qn_CTL_EN q) true).setQueue q { u.queue q with st := .run }).flow := by
  have hidle : (decide ((u.queue q).st = .off) || decide ((u.queue q).st = .safe)) = true := by simpa using hst
  have hqueue : (u.setFlag (F.EVS_Qn_CTL_EN q) true).queue q = u.queue q := rfl
  simp [State.writeQueueCtl, State.setEn_modeNow, hmode, hen, hfl, hqueue, hidle]

/-- A flush follows what EN does to the state of the queue. -/
theorem State.writeQueueCtl_flush (hmode : u.modeNow ≠ modeBoot) (h : bitOf w.toNat 0 = true ∨ bitOf w.toNat 2 = false) :
    ∃ v, QueueOnly q (u.setFlag (F.EVS_Qn_CTL_EN q) (bitOf w.toNat 2)) v ∧
      u.writeQueueCtl q w = v.flush q (q < 48 && u.chOpen q) false := by
  have hfl : (bitOf w.toNat 0 || !bitOf w.toNat 2) = true := by simpa using h
  have hopen := u.setEn_chOpen q (bitOf w.toNat 2)
  simp only [State.writeQueueCtl, State.setEn_modeNow, hmode, hfl, if_true, if_false]
  rw [← hopen]
  generalize u.setFlag (F.EVS_Qn_CTL_EN q) (bitOf w.toNat 2) = v
  split
  · exact ⟨_, v.setQueue_queueOnly q _, rfl⟩
  · split
    · exact ⟨_, v.setQueue_queueOnly q _, rfl⟩
    · exact ⟨v, ⟨⟨_, rfl⟩, fun _ _ => rfl⟩, rfl⟩

/-- What a flush by the host leaves outside BOOT (R135). -/
theorem State.writeQueueCtl_flush_leaves (hmode : u.modeNow ≠ modeBoot)
    (h : bitOf w.toNat 0 = true ∨ bitOf w.toNat 2 = false) :
    FlushLeaves q (bitOf w.toNat 2) (u.chOpen q) u (u.writeQueueCtl q w) := by
  obtain ⟨v, ⟨⟨x, hv⟩, hothers⟩, hwrite⟩ := u.writeQueueCtl_flush q hmode h
  obtain ⟨hrecs, hst, hflush, hen, hkept, hvalve, hmem, hflash⟩ := v.flush_leaves q (q < 48 && u.chOpen q) false
  have hven : v.flag (F.EVS_Qn_CTL_EN q) = bitOf w.toNat 2 := by
    rw [hv]; exact u.flag_setFlag_same (F.EVS_Qn_CTL_EN q) _ rfl
  rw [hwrite]
  refine ⟨hrecs, hst, hflush, hen.trans hven, fun p hp hp61 => ?_, fun hq => ?_, ?_, ?_⟩
  · exact (hkept p hp hp61).trans (congrArg QueueSt.recs (hothers p hp))
  · obtain ⟨hsn, hdef, hdue⟩ := hvalve hq
    exact ⟨hsn, hdef, fun hopen => hdue (by simp [hq, hopen])⟩
  · rw [hmem, hv]; rfl
  · rw [hflash, hv]; rfl

end

/-! ### PLN_MAP (R140) -/

/-- The fence in force: the one requested, unless that lies behind the frontier. -/
def State.fenceInForce (s : State) : Nat :=
  match s.plan.frontier with
  | some x => if s.ahead (s.fld F.PLN_FENCE_FENCE) x < 0 then x else s.fld F.PLN_FENCE_FENCE
  | none => s.fld F.PLN_FENCE_FENCE

/-- The state in which a write of PLN_MAP arms: the flags written 1 have cleared. -/
def State.mapCleared (s : State) (v : Word) : State :=
  let s := if bitOf v.toNat 3 then s.setFlag F.PLN_MAP_SWAPPED false else s
  if bitOf v.toNat 2 then s.setFlag F.PLN_MAP_MAPERR false else s

theorem State.mapCleared_regOnly (s : State) (v : Word) : RegOnly 0x403 s (s.mapCleared v) := by
  have hflag : ∀ (u : State) (f : Fld) (c : Bool), f.addr = 0x403 → RegOnly 0x403 u (if c then u.setFlag f false else u) := by
    rintro u f c hf
    cases c with
    | true => exact hf ▸ u.setFld_regOnly f _
    | false => exact ⟨⟨_, rfl⟩, fun _ _ => rfl⟩
  exact (hflag s F.PLN_MAP_SWAPPED _ rfl).trans (hflag _ F.PLN_MAP_MAPERR _ rfl)

theorem RegOnly.fenceInForce {s t : State} (h : RegOnly 0x403 s t) : t.fenceInForce = s.fenceInForce := by
  have hfence := h.fld F.PLN_FENCE_FENCE (by decide)
  have hdir := State.flag_of_reg F.TRV_STAT_DIR (h.2 F.TRV_STAT_DIR.addr (by decide))
  obtain ⟨⟨g, rfl⟩, -⟩ := h
  unfold State.fenceInForce State.ahead State.reverse
  rw [hfence, hdir]

/-- ARM = 1 arms a swap at the fence in force. -/
theorem State.writeMap_arm (s : State) {v : Word} (h : bitOf v.toNat 1 = true) : s.writeMap v =
    ((s.mapCleared v).setFlag F.PLN_MAP_ARM true).setFld F.PLN_FENCEACT_FENCE (s.mapCleared v).fenceInForce := if_pos h

/-- What arming leaves, where `s` and `u` differ in PLN_MAP only. -/
theorem State.writeMap_arm_facts {s u : State} (hu : RegOnly 0x403 s u) {v : Word} (h : bitOf v.toNat 1 = true) :
    ∀ t, t = u.writeMap v → t.flag F.PLN_MAP_ARM = true ∧ t.fld F.PLN_FENCEACT_FENCE = s.fenceInForce % 2 ^ 40 ∧
      t.mem = s.mem ∧ t.flash = s.flash ∧ t.queues = s.queues ∧
      ∀ a, a ≠ F.PLN_MAP_ARM.addr → a ≠ F.PLN_FENCEACT_FENCE.addr → t.reg a = s.reg a := by
  rintro t rfl
  have hclear := hu.trans (u.mapCleared_regOnly v)
  rw [u.writeMap_arm h, hclear.fenceInForce]
  have harm := hclear.trans ((u.mapCleared v).setFld_regOnly F.PLN_MAP_ARM (b2n true))
  refine ⟨?arm, State.fld_setFld_same _ F.PLN_FENCEACT_FENCE _ (by decide), ?mem, ?flash, ?queues, fun a ha hact => ?regs⟩
  case arm =>
    exact (State.flag_setFld_ne _ F.PLN_FENCEACT_FENCE F.PLN_MAP_ARM _ (by decide)).trans
      (State.flag_setFlag_same _ F.PLN_MAP_ARM true (by decide))
  case regs => exact (State.reg_setFld_ne _ F.PLN_FENCEACT_FENCE _ hact).trans (harm.2 a ha)
  case mem => exact hclear.mem
  case flash => exact hclear.flash
  case queues => exact hclear.queues

end Sys2Proof.Machine
end

section
/-! PROOF. Queue control and the map swap (O18, O19): QUEUE_FLUSH, QUEUE_DISABLE, QUEUE_ENABLE, FLUSH_COMPLETE and MAP_SWAP_ARM
(R135, R136, R138, R140). -/

namespace Sys2Proof.Proofs

open Sys2Proof Sys2Proof.Machine

/-- The row of EVS_Qn_CTL. -/
def queueCtlRow : RegRow := ⟨.EVS_Qn_CTL, 0x642, 4, 64, 0, 0x0, 0x5, 0x2, 0x0⟩

/-- A write of EVS_Qn_CTL in a calm core clock. -/
theorem write_queueCtl (s : State) (q : Fin 64) (w : Word) (hcalm : s.calm = true) : ∃ u, RegOnly (0x642 + 4 * q) s u ∧
    s.write .service (0x642 + 4 * q) w = (u.writeQueueCtl q w).completed := by
  have hrow : regAt (0x642 + 4 * q) = some queueCtlRow := by revert q; decide
  have hin : inInputs (0x642 + 4 * q) = false := by simp [inInputs]; omega
  have hidx : queueCtlRow.idx (0x642 + 4 * q) = q := by simp [RegRow.idx, queueCtlRow]
  obtain ⟨y, hy⟩ := s.clearedBy_setReg (r := queueCtlRow) w hin (by decide)
  refine ⟨_, s.setReg_regOnly _ y, ?_⟩
  rw [← hy]
  exact s.write_calm (f := fun u => u.writeQueueCtl q w) rfl hrow hcalm hin (by decide) fun u x => by
    show (Wr.done, u.writeQueueCtl (queueCtlRow.idx (0x642 + 4 * q)) w) = _
    rw [hidx]

/-- The row of PLN_MAP. -/
def mapRow : RegRow := ⟨.PLN_MAP, 0x403, 1, 1, 0, 0x0, 0x2, 0xc, 0x0⟩

theorem write_map (s : State) (w : Word) (hcalm : s.calm = true) : ∃ u, RegOnly 0x403 s u ∧
    s.write .service 0x403 w = (u.writeMap w).completed := by
  obtain ⟨y, hy⟩ := s.clearedBy_setReg (r := mapRow) w (a := 0x403) (by decide) (by decide)
  refine ⟨_, s.setReg_regOnly _ y, ?_⟩
  rw [← hy]
  exact s.write_calm (f := fun u => u.writeMap w) rfl (by decide) hcalm (by decide) (by decide) fun _ _ => rfl

section
variable (s : State) (q : Fin 64) (v : Word) (hrun : s.boot.halted = false)
include hrun

theorem exec_queueFlush : exec (.queueFlush q v) s = .next (s.write .service (0x642 + 4 * q) (bitAs v 0 true)) :=
  s.clocked_running (fun s => ok (s.write .service (0x642 + 4 * q) (bitAs v 0 true))) hrun

theorem exec_queueDisable : exec (.queueDisable q v) s = .next (s.write .service (0x642 + 4 * q) (bitAs v 2 false)) :=
  s.clocked_running (fun s => ok (s.write .service (0x642 + 4 * q) (bitAs v 2 false))) hrun

theorem exec_queueEnable :
    exec (.queueEnable q v) s = .next (s.write .service (0x642 + 4 * q) (bitAs (bitAs v 2 true) 0 false)) :=
  s.clocked_running (fun s => ok (s.write .service (0x642 + 4 * q) (bitAs (bitAs v 2 true) 0 false))) hrun

theorem exec_flushComplete : exec (.flushComplete q) s = .next (s.endFlush q) :=
  s.clocked_running (fun s => ok (s.endFlush q)) hrun

theorem exec_mapSwapArm : exec (.mapSwapArm v) s = .next (s.write .service 0x403 (bitAs v 1 true)) :=
  s.clocked_running (fun s => ok (s.write .service 0x403 (bitAs v 1 true))) hrun

end

/-! ### Flushes -/

section
variable (s : State) (q : Fin 64) (w : Word) (hcalm : s.calm = true) (hflush : bitOf w.toNat 0 = true ∨ bitOf w.toNat 2 = false)
include hcalm hflush

/-- A word that flushes a queue, outside BOOT. -/
theorem write_flush_leaves {en : Bool} (hen : bitOf w.toNat 2 = en) (hmode : s.modeNow ≠ modeBoot) :
    FlushLeaves q en (s.chOpen q) s (s.write .service (0x642 + 4 * q) w) := by
  subst hen
  obtain ⟨u, hu, hwrite⟩ := write_queueCtl s q w hcalm
  have hmode' := hu.modeNow (by omega)
  have hopen : u.chOpen q = s.chOpen q :=
    State.chOpen_of_fld (hu.fld (F.VDA_CHn_STAT_STATE q) (by show 0x885 + 8 * q.val ≠ _; omega))
  have hleaves := u.writeQueueCtl_flush_leaves q (hmode'.symm ▸ hmode) hflush
  simp only [FlushLeaves, hopen, hu.queue, hu.mem, hu.flash] at hleaves
  rw [hwrite]
  exact hleaves

/-- A word that flushes a queue, in BOOT. -/
theorem write_flush_boot (hmode : s.modeNow = modeBoot) :
    ∀ t, t = s.write .service (0x642 + 4 * q) w → t.queues = s.queues ∧ t.flag (F.EVS_Qn_CTL_FLDONE q) = true := by
  rintro t rfl
  obtain ⟨u, hu, hwrite⟩ := write_queueCtl s q w hcalm
  have hmode' := hu.modeNow (by omega)
  obtain ⟨x, hqueues, hx⟩ := u.writeQueueCtl_boot_flush q (hmode'.trans hmode) hflush
  rw [hwrite, hx]
  exact ⟨hqueues.trans hu.queues, x.raise_flag_same (F.EVS_Qn_CTL_FLDONE q) rfl⟩

end

/-- Settles O18: both commands write a word that flushes, and FLUSH_COMPLETE is the end of a flush. -/
theorem queueControlFlushes : Obligations.QueueControlFlushes := by
  unfold Obligations.QueueControlFlushes
  intro s q v hrun
  have hfl : bitOf (bitAs v 0 true).toNat 0 = true := bitOf_bitAs v true 0 (by decide)
  have hen : bitOf (bitAs v 2 false).toNat 2 = false := bitOf_bitAs v false 2 (by decide)
  have hkept : bitOf (bitAs v 0 true).toNat 2 = bitOf v.toNat 2 := bitOf_bitAs v true 2 (by decide)
  refine ⟨fun hcalm hmode => List.forall_mem_cons.2 ⟨?flush, List.forall_mem_singleton.2 ?disable⟩,
    fun hcalm hmode => List.forall_mem_cons.2 ⟨?bootFlush, List.forall_mem_singleton.2 ?bootDisable⟩,
    fun hst => ⟨_, exec_flushComplete s q hrun, s.endFlush_facts q hst _ rfl⟩⟩
  case flush => exact ⟨_, exec_queueFlush s q v hrun, write_flush_leaves s q _ hcalm (.inl hfl) hkept hmode⟩
  case disable => exact ⟨_, exec_queueDisable s q v hrun, write_flush_leaves s q _ hcalm (.inr hen) hen hmode⟩
  case bootFlush => exact ⟨_, exec_queueFlush s q v hrun, write_flush_boot s q _ hcalm (.inl hfl) hmode _ rfl⟩
  case bootDisable => exact ⟨_, exec_queueDisable s q v hrun, write_flush_boot s q _ hcalm (.inr hen) hmode _ rfl⟩

/-! ### Enabling and arming -/

section
variable (s : State) (q : Fin 64) (w : Word) (hcalm : s.calm = true) (hen : bitOf w.toNat 2 = true)
  (hfl : bitOf w.toNat 0 = false)
include hcalm hen hfl

/-- A word that enables a queue in OFF or SAFE, outside BOOT. -/
theorem write_enable_facts (hmode : s.modeNow ≠ modeBoot) (hst : (s.queue q).st = .off ∨ (s.queue q).st = .safe) :
    ∃ u : State, s.write .service (0x642 + 4 * q) w = u.flow.completed ∧ (u.queue q).st = .run ∧
      (u.queue q).recs = (s.queue q).recs ∧ u.flag (F.EVS_Qn_CTL_EN q) = true ∧ (∀ p, p ≠ q.val → u.queue p = s.queue p) ∧
      u.mem = s.mem ∧ u.flash = s.flash ∧ ∀ a, a ≠ (F.EVS_Qn_CTL_EN q).addr → u.reg a = s.reg a := by
  obtain ⟨u, hu, hwrite⟩ := write_queueCtl s q w hcalm
  have hmode' := hu.modeNow (by omega)
  have hen' := u.flag_setFlag_same (F.EVS_Qn_CTL_EN q) true rfl
  have hset := hu.trans (u.setFld_regOnly (F.EVS_Qn_CTL_EN q) (b2n true))
  refine ⟨_, by rw [hwrite, u.writeQueueCtl_enable q (hmode'.symm ▸ hmode) (by rwa [hu.queue]) hen hfl], ?_⟩
  rw [State.queue_setQueue, if_pos rfl, hu.queue]
  exact ⟨rfl, rfl, hen', fun p hp => (State.queue_setQueue _ _ p _).trans ((if_neg hp).trans (hset.queue p)), hset.mem,
    hset.flash, hset.2⟩

/-- A word that enables a queue, in BOOT. -/
theorem write_enable_boot (hmode : s.modeNow = modeBoot) :
    ∀ t, t = s.write .service (0x642 + 4 * q) w → t.queues = s.queues ∧ t.flag (F.EVS_Qn_CTL_EN q) = true := by
  rintro t rfl
  obtain ⟨u, hu, hwrite⟩ := write_queueCtl s q w hcalm
  have hmode' := hu.modeNow (by omega)
  rw [hwrite, u.writeQueueCtl_boot_enable q (hmode'.trans hmode) hen hfl]
  exact ⟨hu.queues, u.flag_setFlag_same (F.EVS_Qn_CTL_EN q) true rfl⟩

end

/-- The fence in force shows in PLN_FENCEACT, a travel of 40 bits. -/
theorem fenceInForce_mod (s : State) : s.fenceInForce % 2 ^ 40 = (match s.plan.frontier with
    | some x => if s.ahead (s.fld F.PLN_FENCE_FENCE) x < 0 then x % 2 ^ 40 else s.fld F.PLN_FENCE_FENCE
    | none => s.fld F.PLN_FENCE_FENCE) := by
  have hfence : s.fld F.PLN_FENCE_FENCE % 2 ^ 40 = s.fld F.PLN_FENCE_FENCE := Nat.mod_eq_of_lt (s.fld_lt F.PLN_FENCE_FENCE)
  unfold State.fenceInForce
  cases s.plan.frontier with
  | none => exact hfence
  | some x =>
    dsimp only
    split
    · rfl
    · exact hfence

/-- Settles O19: QUEUE_ENABLE writes a word that enables without a flush, and MAP_SWAP_ARM one that arms. -/
theorem queueEnableAndMapSwap : Obligations.QueueEnableAndMapSwap := by
  unfold Obligations.QueueEnableAndMapSwap
  intro s q v hrun hcalm
  have hfl : bitOf (bitAs (bitAs v 2 true) 0 false).toNat 0 = false := bitOf_bitAs _ false 0 (by decide)
  have hen : bitOf (bitAs (bitAs v 2 true) 0 false).toNat 2 = true :=
    (bitOf_bitAs _ false 2 (by decide)).trans (bitOf_bitAs v true 2 (by decide))
  have harm : bitOf (bitAs v 1 true).toNat 1 = true := bitOf_bitAs v true 1 (by decide)
  rw [exec_queueEnable s q v hrun, exec_mapSwapArm s v hrun]
  refine ⟨fun hmode hst => ?enable, fun hmode => ⟨_, rfl, write_enable_boot s q _ hcalm hen hfl hmode _ rfl⟩, ?arm⟩
  case enable =>
    obtain ⟨u, hwrite, hfacts⟩ := write_enable_facts s q _ hcalm hen hfl hmode hst
    exact ⟨u, congrArg _ hwrite, hfacts⟩
  case arm =>
    obtain ⟨u, hu, hwrite⟩ := write_map s (bitAs v 1 true) hcalm
    have hfacts := State.writeMap_arm_facts hu harm _ rfl
    rw [fenceInForce_mod] at hfacts
    exact ⟨_, congrArg _ hwrite, hfacts⟩

end Sys2Proof.Proofs
end

section
/-! PROOF. The off-state open test against the error ring (O37): an open-load report that latches writes a FAULT record (R162,
R393 to R398, R404). -/

namespace Sys2Proof.Proofs

open Sys2Proof Sys2Proof.Machine

/-- After reset, with OFFDIAG set on channel 0, one open-load event in the window enough to latch, and the error ring Q59
running. -/
def openLoadLatching : State :=
  ((State.reset.setFlag (F.VDA_CHn_CFG_OFFDIAG 0) true).setFld (F.FSV_SRCs_CFG_N srcOpenLoad) 1).setQueue 59 { st := .run }

/-- Channel 0 is OFF and is tested, and Q59 is empty. -/
theorem openLoadLatching_tests : openLoadLatching.boot.halted = false ∧ openLoadLatching.gated = false ∧
    openLoadLatching.isOddOfPair (0 : Fin 48) = false ∧ openLoadLatching.chSt (0 : Fin 48) = stOff ∧
    openLoadLatching.flag (F.VDA_CHn_CFG_OFFDIAG (0 : Fin 48)) = true ∧ (openLoadLatching.queue 59).recs = [] := by
  decide +kernel

/-- The number of records of the error ring in the state that a command leaves. -/
def errorsAfter (c : Instr) (s : State) : Option Nat :=
  match exec c s with
  | .next t => some (t.queue 59).recs.length
  | _ => none

/-- A test that ends above 4.0 V latches open load, and its FAULT record of two rows goes into Q59 (R404). -/
theorem openLoadLatching_records : errorsAfter (.offStateOpenTest 0 true) openLoadLatching = some 2 := by decide +kernel

/-- Refutes O37: the clause on OFF_STATE_OPEN_TEST says that the queues stay whatever the test shows, and in `openLoadLatching`
a test above 4.0 V latches open load, whose FAULT record goes into the error ring. -/
theorem not_captureEdgesAndDetections : ¬ Obligations.CaptureEdgesAndDetections := by
  unfold Obligations.CaptureEdgesAndDetections
  intro h
  obtain ⟨hrun, hclk, hodd, hoff, hdiag, hempty⟩ := openLoadLatching_tests
  obtain ⟨-, -, htest, -⟩ := h openLoadLatching 0 [] hrun
  obtain ⟨t, hexec, -, -, -, hqueues, -⟩ := (htest true).1 hclk hodd hoff hdiag
  have hcount : errorsAfter (.offStateOpenTest 0 true) openLoadLatching = some (t.queue 59).recs.length := by
    rw [errorsAfter, hexec]
  have hsame : (t.queue 59).recs = [] := by rw [State.queue, hqueues]; exact hempty
  rw [openLoadLatching_records, hsame] at hcount
  contradiction

end Sys2Proof.Proofs
end

section
/-! PROOF. What acts on drive channels: the relation `Drives ns s t`, how it composes, and a turn-off that the scheduler is told
of (R161, R163, R164). -/

namespace Sys2Proof.Machine

open Sys2Proof

/-! ### Channels driven -/

/-- The registers that the program of a channel and its end show: VDA_CHn_SEQ, VDA_CHn_CUR and the VDA_Gg_SEQ of its group. -/
def driveRegs (n : Nat) : List Nat := [0xB00 + n, 0x884 + 8 * n, 0x818 + n / 8]

/-- A field that no program of the channels `ns` shows in and that is not their STATE. -/
def Fld.Undriven (ns : List Nat) (f : Fld) : Prop :=
  ∀ n ∈ ns, f.addr ∉ driveRegs n ∧ (f.addr = (F.VDA_CHn_STAT_STATE n).addr → 2 < f.lo)

/-- From `s` to `t` nothing changes but what shows the programs and states of the channels `ns`, their hidden parts, and what the
node remembers of its core clock. -/
structure Drives (ns : List Nat) (s t : State) : Prop where
  same : ∃ g v c, t = { s with regs := g, valves := v, core := c }
  valve : ∀ m, m ∉ ns → t.valve m = s.valve m
  fld : ∀ f : Fld, f.Undriven ns → t.fld f = s.fld f

section
variable {ns : List Nat} {s t u : State} {n : Nat}

theorem Drives.refl (ns : List Nat) (s : State) : Drives ns s s := ⟨⟨_, _, _, rfl⟩, fun _ _ => rfl, fun _ _ => rfl⟩

theorem Drives.trans (h : Drives ns s t) (g : Drives ns t u) : Drives ns s u := by
  obtain ⟨⟨_, _, _, rfl⟩, hvalve, hfld⟩ := h
  obtain ⟨⟨r, v, c, e⟩, hvalve', hfld'⟩ := g
  exact ⟨⟨r, v, c, e⟩, fun m hm => (hvalve' m hm).trans (hvalve m hm), fun f hf => (hfld' f hf).trans (hfld f hf)⟩

theorem Drives.mem (h : Drives ns s t) : t.mem = s.mem := by
  obtain ⟨⟨_, _, _, rfl⟩, -, -⟩ := h; rfl

theorem Drives.groups (h : Drives ns s t) : t.groups = s.groups := by
  obtain ⟨⟨_, _, _, rfl⟩, -, -⟩ := h; rfl

theorem Drives.modValve (s : State) (hn : n ∈ ns) (f : ValveSt → ValveSt) : Drives ns s (s.modValve n f) :=
  ⟨⟨_, _, _, rfl⟩, fun m hm => (s.valve_modValve n m f).trans (if_neg (ne_of_mem_of_not_mem hn hm).symm), fun _ _ => rfl⟩

theorem Drives.setFld (s : State) (hn : n ∈ ns) {g : Fld} (hg : g.addr ∈ driveRegs n) (x : Nat) : Drives ns s (s.setFld g x) :=
  ⟨⟨_, _, _, rfl⟩, fun _ _ => rfl, fun f hf => s.fld_setFld_ne g f x fun e => (hf n hn).1 (e ▸ hg)⟩

theorem Drives.setChSt (s : State) (hn : n ∈ ns) (k : Nat) : Drives ns s (s.setChSt n k) := by
  refine ⟨⟨_, _, _, rfl⟩, fun _ _ => rfl, fun f hf => ?_⟩
  show (s.setFld (F.VDA_CHn_STAT_STATE n) k).fld f = s.fld f
  by_cases h : f.addr = (F.VDA_CHn_STAT_STATE n).addr
  · exact s.fld_setFld_disj _ f k rfl (.inr ((hf n hn).2 h))
  · exact s.fld_setFld_ne _ f k h

/-! ### Detections, credit and programs end -/

theorem State.dropOdet_drives (s : State) (hn : n ∈ ns) : Drives ns s (s.dropOdet n) := .modValve s hn _

theorem State.creditClose_drives (s : State) (hn : n ∈ ns) (c : Nat) (est : Bool) : Drives ns s (s.creditClose n c est) :=
  .modValve s hn _

theorem State.creditTurnOff_drives (s : State) (hn : n ∈ ns) : Drives ns s (s.creditTurnOff n) := by
  unfold State.creditTurnOff
  split
  · exact .refl ns s
  · exact s.creditClose_drives hn _ _

theorem State.dropCdet_drives (s : State) (hn : n ∈ ns) : Drives ns s (s.dropCdet n) := by
  unfold State.dropCdet
  split
  · exact .refl ns s
  · exact (Drives.modValve s hn _).trans (State.creditClose_drives _ hn _ _)

theorem State.stopProgram_drives (s : State) (hn : n ∈ ns) : Drives ns s (s.stopProgram n) := by
  have hseq : 0xB00 + n ∈ driveRegs n := by simp [driveRegs]
  have hcur : 0x884 + 8 * n ∈ driveRegs n := by simp [driveRegs]
  have hrun : 0x818 + n / 8 ∈ driveRegs n := by simp [driveRegs]
  unfold State.stopProgram
  exact (((((Drives.setFld s hn (g := F.VDA_CHn_SEQ_RUNNING n) hseq _).trans
    (.setFld _ hn (g := F.VDA_CHn_SEQ_KIND n) hseq _)).trans (.setFld _ hn (g := F.VDA_CHn_SEQ_TGT n) hseq _)).trans
    (.setFld _ hn (g := F.VDA_CHn_CUR_DUTY n) hcur _)).trans
    (.setFld _ hn (g := F.VDA_Gg_SEQ_RUN (n / 8)) hrun _)).trans (.modValve _ hn _)

theorem State.intoSafe_drives (s : State) (hn : n ∈ ns) : Drives ns s (s.intoSafe n) :=
  (s.stopProgram_drives hn).trans (.setChSt _ hn _)

theorem State.enterOff_drives (s : State) (hn : n ∈ ns) : Drives ns s (s.enterOff n) :=
  (Drives.setChSt s hn _).trans (.modValve _ hn _)

theorem State.turnOff_drives (s : State) (hn : n ∈ ns) : Drives ns s (s.turnOff n) := by
  have hdet : Drives ns s (((s.dropOdet n).creditTurnOff n).dropCdet n) :=
    ((s.dropOdet_drives hn).trans (State.creditTurnOff_drives _ hn)).trans (State.dropCdet_drives _ hn)
  unfold State.turnOff
  dsimp only
  split
  · exact hdet.trans (State.intoSafe_drives _ hn)
  · exact (hdet.trans (State.stopProgram_drives _ hn)).trans (State.enterOff_drives _ hn)

end

/-! ### What a turn-off shows -/

theorem State.chSt_setChSt (s : State) (n : Nat) {k : Nat} (hk : k < 8) : (s.setChSt n k).chSt n = k :=
  (s.fld_setFld_same (F.VDA_CHn_STAT_STATE n) k rfl).trans (Nat.mod_eq_of_lt hk)

theorem State.setChSt_fld (s : State) (n k : Nat) {f : Fld} (h : f.addr ≠ 0x885 + 8 * n) : (s.setChSt n k).fld f = s.fld f :=
  s.fld_setFld_ne (F.VDA_CHn_STAT_STATE n) f k h

theorem State.stopProgram_running (s : State) (n : Nat) : (s.stopProgram n).running n = false := by
  unfold State.stopProgram State.running
  rw [State.modValve_flag, State.flag_setFld_ne _ _ _ _ (by show 0xB00 + n ≠ 0x818 + n / 8; omega),
    State.flag_setFld_ne _ _ _ _ (by show 0xB00 + n ≠ 0x884 + 8 * n; omega),
    State.flag_setFld_disj _ _ _ _ rfl (.inr (by decide : 13 < 16)),
    State.flag_setFld_disj _ _ _ _ rfl (.inr (by decide : 15 < 16)), State.flag_setFlag_same _ _ _ rfl]

theorem State.stopProgram_duty (s : State) (n : Nat) : (s.stopProgram n).fld (F.VDA_CHn_CUR_DUTY n) = 0 := by
  unfold State.stopProgram
  rw [State.modValve_fld, State.fld_setFld_ne _ _ _ _ (by show 0x884 + 8 * n ≠ 0x818 + n / 8; omega),
    State.fld_setFld_same _ _ _ rfl, Nat.zero_mod]

/-- The program of a channel has ended in state `k`: nothing runs, and no duty is in force. -/
structure StoppedIn (n k : Nat) (t : State) : Prop where
  running : t.running n = false
  duty : t.fld (F.VDA_CHn_CUR_DUTY n) = 0
  state : t.chSt n = k

theorem StoppedIn.modValve {n k : Nat} {t : State} (h : StoppedIn n k t) (f : ValveSt → ValveSt) :
    StoppedIn n k (t.modValve n f) := ⟨h.running, h.duty, h.state⟩

theorem State.stopProgram_setChSt (s : State) (n : Nat) {k : Nat} (hk : k < 8) : StoppedIn n k ((s.stopProgram n).setChSt n k) where
  running := (State.flag_of_fld _ (State.setChSt_fld _ n k (by show 0xB00 + n ≠ 0x885 + 8 * n; omega))).trans
    (s.stopProgram_running n)
  duty := (State.setChSt_fld _ n k (by show 0x884 + 8 * n ≠ 0x885 + 8 * n; omega)).trans (s.stopProgram_duty n)
  state := State.chSt_setChSt _ n hk

/-- The state that a turn-off leaves: SAFE for a channel on its way there, and otherwise OFF (R164). -/
def State.offState (s : State) (n : Nat) : Nat :=
  if (s.valve n).toSafe || (s.fld (F.VDA_CHn_SEQ_KIND n) = kSafe && !(s.valve n).recovery) then stSafe else stOff

theorem State.offState_cases (s : State) (n : Nat) : s.offState n = stOff ∨ s.offState n = stSafe := by
  unfold State.offState
  split
  · exact .inr rfl
  · exact .inl rfl

theorem State.turnOff_stopped (s : State) (n : Nat) : StoppedIn n (s.offState n) (s.turnOff n) := by
  unfold State.turnOff State.offState
  dsimp only
  split
  · exact State.stopProgram_setChSt _ n (by decide)
  · exact (State.stopProgram_setChSt _ n (by decide)).modValve _

/-- A turn-off that the scheduler is told of (R161, R163). -/
def State.shutOff (s : State) (n : Nat) : State := (s.turnOff n).tellClosed n

theorem State.shutOff_drives (s : State) {ns : List Nat} {n : Nat} (hn : n ∈ ns) : Drives ns s (s.shutOff n) := by
  unfold State.shutOff State.tellClosed
  exact (s.turnOff_drives hn).trans (.modValve _ hn _)

theorem State.shutOff_stopped (s : State) (n : Nat) : StoppedIn n (s.offState n) (s.shutOff n) := by
  unfold State.shutOff State.tellClosed
  exact (s.turnOff_stopped n).modValve _

theorem State.shutOff_closed (s : State) (n : Nat) : ((s.shutOff n).valve n).sn = false := by
  rw [State.shutOff, State.tellClosed, State.valve_modValve, if_pos rfl]

/-! ### The core clock and the report -/

theorem State.turnOffClock_same (s : State) : ∃ r k, s.turnOffClock = { s with regs := r, clk := k } := by
  unfold State.turnOffClock
  split
  · exact ⟨_, _, rfl⟩
  · exact ⟨_, _, rfl⟩

theorem State.turnOffClock_fld (s : State) {f : Fld} (h : f.addr ≠ 0x200) : s.turnOffClock.fld f = s.fld f := by
  unfold State.turnOffClock
  split
  · exact State.fld_of_reg f (s.advCc_reg 1 h)
  · rfl

/-- A report of a source leaves the fields of the valve drive. -/
theorem State.report_fld (s : State) {src : Nat} (inst : Nat) (hsrc : src < 64) {f : Fld} (hf : 0x800 ≤ f.addr) :
    (s.report src inst).fld f = s.fld f := by
  refine State.fld_of_reg f ((s.reportAt_reported src inst _).reg ?_)
  simp only [reportRegs, F.FSV_SRCs_STAT_w, F.EVS_Qn_ERR_w, List.mem_cons, List.not_mem_nil, or_false]
  omega

@[simp] theorem State.completed_valve (s : State) (n : Nat) : s.completed.valve n = s.valve n := rfl

theorem State.report_valve (s : State) (src inst n : Nat) : (s.report src inst).valve n = s.valve n := by
  rw [State.valve, State.valve]
  exact congrArg (spGet _ · n) (s.reportAt_reported src inst _).valves

end Sys2Proof.Machine
end

section
/-! PROOF. OVERCURRENT_TRIP and OFF_TIME_END (R157, R161). -/

namespace Sys2Proof.Proofs

open Sys2Proof Sys2Proof.Machine

/-! ### OVERCURRENT_TRIP -/

theorem govern_lt (s : State) (n : Fin 48) : s.govern n < 48 := by
  unfold State.govern
  split <;> omega

/-- The trip shows in OC and OCCNT (R161). -/
def showTrip (s : State) (k : Nat) : State := (s.turnOffClock.raise (F.VDA_CHn_STAT_OC k)).inc (F.VDA_CHn_STAT_OCCNT k)

theorem exec_overcurrentTrip (s : State) (n : Fin 48) (hrun : s.boot.halted = false) : exec (.overcurrentTrip n) s = .next
    (if s.running (s.govern n) then ((showTrip s (s.govern n)).shutOff (s.govern n)).report srcOverCur (s.govern n) else s) := by
  show execOvercurrentTrip n s = _
  rw [execOvercurrentTrip, s.clocked_running _ hrun]
  dsimp only
  split <;> rfl

/-- What a trip shows is not what a channel's program shows. -/
theorem undriven_statFlag {f : Fld} {k : Nat} (haddr : f.addr = 0x885 + 8 * k) (hk : k < 48) (hlo : 2 < f.lo) : f.Undriven [k] := by
  intro n hn
  obtain rfl := List.mem_singleton.1 hn
  refine ⟨?_, fun _ => hlo⟩
  simp only [driveRegs, haddr, List.mem_cons, List.not_mem_nil, or_false]
  omega

theorem showTrip_valves (s : State) (k : Nat) : (showTrip s k).valves = s.valves := by
  obtain ⟨r, c, e⟩ := s.turnOffClock_same
  rw [showTrip, e]; rfl

theorem showTrip_mem (s : State) (k : Nat) : (showTrip s k).mem = s.mem := by
  obtain ⟨r, c, e⟩ := s.turnOffClock_same
  rw [showTrip, e]; rfl

theorem showTrip_valve (s : State) (k m : Nat) : (showTrip s k).valve m = s.valve m := by
  rw [State.valve, State.valve, showTrip_valves]

theorem showTrip_oc (s : State) (k : Nat) : (showTrip s k).flag (F.VDA_CHn_STAT_OC k) = true :=
  (State.flag_setFld_disj _ (F.VDA_CHn_STAT_OCCNT k) (F.VDA_CHn_STAT_OC k) _ rfl (.inl (by decide : 4 < 24))).trans
    (State.raise_flag_same _ _ rfl)

theorem showTrip_occnt (s : State) (k : Nat) : (showTrip s k).fld (F.VDA_CHn_STAT_OCCNT k) =
    satAdd 8 (s.fld (F.VDA_CHn_STAT_OCCNT k)) 1 := by
  have hold : (s.turnOffClock.raise (F.VDA_CHn_STAT_OC k)).fld (F.VDA_CHn_STAT_OCCNT k) = s.fld (F.VDA_CHn_STAT_OCCNT k) :=
    (State.raise_fld_disj _ _ _ rfl (.inr (by decide : 4 < 24))).trans
      (s.turnOffClock_fld (by show 0x885 + 8 * k ≠ 0x200; omega))
  rw [showTrip, State.fld_inc_same _ _ rfl, hold]
  rfl

theorem showTrip_kind (s : State) (k : Nat) : (showTrip s k).fld (F.VDA_CHn_SEQ_KIND k) = s.fld (F.VDA_CHn_SEQ_KIND k) := by
  have hne : (F.VDA_CHn_SEQ_KIND k).addr ≠ 0x885 + 8 * k := by show 0xB00 + k ≠ _; omega
  exact (State.fld_of_reg _ ((State.inc_reg _ _ hne).trans (State.raise_reg_ne _ _ hne))).trans
    (s.turnOffClock_fld (by show 0xB00 + k ≠ 0x200; omega))

theorem showTrip_offState (s : State) (k : Nat) : (showTrip s k).offState k = s.offState k := by
  unfold State.offState
  rw [showTrip_valve, showTrip_kind]

/-- A trip of a driving channel (R161, R164). -/
theorem overcurrentTrip_facts (s : State) {k : Nat} (hk : k < 48) : ∀ t, t = ((showTrip s k).shutOff k).report srcOverCur k →
    t.flag (F.VDA_CHn_STAT_OC k) = true ∧ t.fld (F.VDA_CHn_STAT_OCCNT k) = satAdd 8 (s.fld (F.VDA_CHn_STAT_OCCNT k)) 1 ∧
      t.running k = false ∧ (t.valve k).sn = false ∧ t.fld (F.VDA_CHn_CUR_DUTY k) = 0 ∧ t.chSt k = s.offState k ∧
      (∀ m, m ≠ k → t.valve m = s.valve m) ∧ t.mem = s.mem := by
  rintro t rfl
  have hdrive := (showTrip s k).shutOff_drives (List.mem_singleton_self k)
  obtain ⟨hrun, hduty, hst⟩ := (showTrip s k).shutOff_stopped k
  have hsrc : srcOverCur < 64 := by decide
  have hreport {f : Fld} (hf : 0x800 ≤ f.addr) := ((showTrip s k).shutOff k).report_fld k hsrc hf
  have hstat : 0x800 ≤ 0x885 + 8 * k := by omega
  have hcur : 0x800 ≤ 0x884 + 8 * k := by omega
  have hseq : 0x800 ≤ 0xB00 + k := by omega
  refine ⟨?oc, ?occnt, ?running, ?closed, ?duty, ?state, fun m hm => ?others, ?mem⟩
  case oc =>
    exact (State.flag_of_fld _ ((hreport hstat).trans (hdrive.fld _ (undriven_statFlag rfl hk (by decide : 2 < 4))))).trans
      (showTrip_oc s k)
  case occnt =>
    exact ((hreport hstat).trans (hdrive.fld _ (undriven_statFlag rfl hk (by decide : 2 < 24)))).trans (showTrip_occnt s k)
  case running => exact (State.flag_of_fld _ (hreport hseq)).trans hrun
  case closed => rw [State.report_valve]; exact State.shutOff_closed _ k
  case duty => exact (hreport hcur).trans hduty
  case state => exact ((hreport hstat).trans hst).trans (showTrip_offState s k)
  case others =>
    rw [State.report_valve, hdrive.valve m (mt List.mem_singleton.1 hm), showTrip_valve]
  case mem => exact (State.reportAt_reported _ _ _ _).mem.trans (hdrive.mem.trans (showTrip_mem s k))

/-! ### OFF_TIME_END -/

/-- Time runs to core clock `c`, where the off-time of channel `k` ends (R157). -/
def endOffTime (s : State) (k c : Nat) : State := (s.advCcTo c).modValve k (fun v => { v with offFrom := none }) |>.completed

theorem exec_offTimeEnd (s : State) (n : Fin 48) {c : Nat} (hrun : s.boot.halted = false)
    (hfrom : (s.valve (s.govern n)).offFrom = some c) (hoff : s.chSt (s.govern n) = stOff) :
    exec (.offTimeEnd n) s = .next (endOffTime s (s.govern n) (c + s.offMinCc (s.govern n))) := by
  show execOffTimeEnd n s = _
  rw [execOffTimeEnd, s.clocked_running _ hrun]
  simp only [hfrom, hoff, if_true]
  rfl

theorem exec_offTimeEnd_idle (s : State) (n : Fin 48) (hrun : s.boot.halted = false)
    (h : (s.valve (s.govern n)).offFrom = none ∨ s.chSt (s.govern n) ≠ stOff) : exec (.offTimeEnd n) s = .next s := by
  show execOffTimeEnd n s = _
  rw [execOffTimeEnd, s.clocked_running _ hrun]
  dsimp only
  split
  · rfl
  · next hfrom =>
    rw [hfrom] at h
    rw [if_neg (h.resolve_left (by simp))]

theorem endOffTime_facts (s : State) (k c : Nat) : ∀ t, t = endOffTime s k c → (t.valve k).offFrom = none ∧ c ≤ t.clk.cc ∧
    (∀ m, m ≠ k → t.valve m = s.valve m) ∧ t.mem = s.mem ∧ t.queues = s.queues ∧
      ∀ i, i ≠ 0x200 → t.reg i = s.reg i := by
  rintro t rfl
  have hcc : c ≤ (s.advCcTo c).clk.cc := by rw [State.advCcTo_cc]; omega
  have hreg (i : Nat) (hi : i ≠ 0x200) := s.advCcTo_reg c hi
  obtain ⟨r, x, e⟩ := s.advCcTo_same c
  unfold endOffTime
  rw [e] at hcc hreg ⊢
  refine ⟨?ended, hcc, fun m hm => ?others, rfl, rfl, hreg⟩
  case ended => rw [State.completed_valve, State.valve_modValve, if_pos rfl]
  case others => rw [State.completed_valve, State.valve_modValve, if_neg hm]; rfl

end Sys2Proof.Proofs
end

section
/-! PROOF. Group conditions (R163, R165): what the readings show, what an assertion does to each channel of its group, and its
end. -/

namespace Sys2Proof.Proofs

open Sys2Proof Sys2Proof.Machine

/-! ### Readings -/

theorem groupValues_same (s : State) (g c : Nat) (x : List Nat) :
    ∃ r k, s.groupValues g c x = { s with regs := r, clk := k } := by
  unfold State.groupValues
  dsimp only
  split
  · split <;> exact ⟨_, _, rfl⟩
  · exact ⟨_, _, rfl⟩

/-- Readings show in VDRV or TEMP alone. -/
theorem groupValues_fld (s : State) (g c : Nat) (x : List Nat) {f : Fld} (htime : f.addr ≠ 0x200)
    (hf : f.addr ≠ 0x808 + g ∨ f.hi < 8) : (s.groupValues g c x).fld f = s.fld f := by
  have hshow (u : State) {y : Fld} (v : Nat) (haddr : y.addr = 0x808 + g) (hok : y.ok = true) (hlo : 8 ≤ y.lo) :
      (u.setFld y v).fld f = u.fld f :=
    hf.elim (fun h => u.fld_setFld_ne y f v (haddr ▸ h)) (fun h => u.fld_setFld_disj y f v hok (.inl (by omega)))
  have hadv (d : Nat) : (s.advCc d).fld f = s.fld f := State.fld_of_reg f (s.advCc_reg d htime)
  unfold State.groupValues
  dsimp only
  split
  · split
    · exact (hshow _ (y := F.VDA_Gg_STAT_TEMP g) _ rfl rfl (Nat.le_refl 8)).trans (hadv _)
    · exact (hshow _ (y := F.VDA_Gg_STAT_VDRV g) _ rfl rfl (by decide : 8 ≤ 16)).trans (hadv _)
  · exact hadv _

theorem groupValues_reg (s : State) (g c : Nat) (x : List Nat) {i : Nat} (htime : i ≠ 0x200) (hi : i ≠ 0x808 + g) :
    (s.groupValues g c x).reg i = s.reg i := by
  unfold State.groupValues
  dsimp only
  split
  · split
    · exact (State.reg_setFld_ne _ (F.VDA_Gg_STAT_TEMP g) _ hi).trans (s.advCc_reg _ htime)
    · exact (State.reg_setFld_ne _ (F.VDA_Gg_STAT_VDRV g) _ hi).trans (s.advCc_reg _ htime)
  · exact s.advCc_reg _ htime

theorem groupValues_uvThr (s : State) (g c : Nat) (x : List Nat) : (s.groupValues g c x).uvThr g = s.uvThr g := by
  unfold State.uvThr
  rw [groupValues_fld s g c x (f := F.VDA_Gg_CFG_UVTHR g) (by show 0x810 + g ≠ 0x200; omega)
    (.inl (by show 0x810 + g ≠ 0x808 + g; omega))]

theorem groupValues_condHigh (s : State) (g c : Nat) (x : List Nat) : (s.groupValues g c x).condHigh g c = s.condHigh g c := by
  funext y
  unfold State.condHigh
  rw [groupValues_uvThr]

theorem groupValues_condLow (s : State) (g c : Nat) (x : List Nat) : (s.groupValues g c x).condLow g c = s.condLow g c := by
  funext y
  unfold State.condLow
  rw [groupValues_uvThr]

theorem groupValues_endRun (s : State) (g c : Nat) (x : List Nat) : (s.groupValues g c x).endRun c = s.endRun c := by
  obtain ⟨r, k, e⟩ := groupValues_same s g c x
  rw [e]; rfl

theorem groupValues_group (s : State) (g c h : Nat) (x : List Nat) : (s.groupValues g c x).group h = s.group h := by
  obtain ⟨r, k, e⟩ := groupValues_same s g c x
  rw [e]; rfl

/-! ### One channel -/

/-- The fields that say how a channel stands. -/
def chanFlds (k : Nat) : List Fld := [F.VDA_CHn_STAT_STATE k, F.VDA_CHn_SEQ_RUNNING k, F.VDA_CHn_CFG_PAIR (k / 2 * 2)]

/-- Channel `k` stands in `t` as in `s`. -/
structure SameChannel (k : Nat) (s t : State) : Prop where
  valve : t.valve k = s.valve k
  fld : ∀ f ∈ chanFlds k, t.fld f = s.fld f

section
variable {k : Nat} {s t : State}

theorem SameChannel.chSt (h : SameChannel k s t) : t.chSt k = s.chSt k := h.fld _ (by simp [chanFlds])

theorem SameChannel.running (h : SameChannel k s t) : t.running k = s.running k :=
  State.flag_of_fld (F.VDA_CHn_SEQ_RUNNING k) (h.fld _ (by simp [chanFlds]))

theorem SameChannel.isOddOfPair (h : SameChannel k s t) : t.isOddOfPair k = s.isOddOfPair k := by
  unfold State.isOddOfPair State.pairKind
  rw [h.fld _ (by simp [chanFlds] : F.VDA_CHn_CFG_PAIR (k / 2 * 2) ∈ chanFlds k)]

end

theorem chanFlds_addr {k : Nat} (hk : k < 48) {f : Fld} (hf : f ∈ chanFlds k) :
    f.addr = 0x885 + 8 * k ∨ f.addr = 0xB00 + k ∨ ∃ j, j < 48 ∧ f.addr = 0x880 + 8 * j := by
  simp only [chanFlds, List.mem_cons, List.not_mem_nil, or_false] at hf
  obtain rfl | rfl | rfl := hf
  · exact .inl rfl
  · exact .inr (.inl rfl)
  · exact .inr (.inr ⟨k / 2 * 2, by omega, rfl⟩)

/-- What is done to other channels leaves a channel. -/
theorem Drives.sameChannel {ns : List Nat} {s t : State} (h : Drives ns s t) (hns : ∀ n ∈ ns, n < 48) {k : Nat} (hk : k < 48)
    (hkn : k ∉ ns) : SameChannel k s t where
  valve := h.valve k hkn
  fld f hf := h.fld f fun n hn => by
    have hn48 := hns n hn
    have hne : n ≠ k := ne_of_mem_of_not_mem hn hkn
    have hstat : (F.VDA_CHn_STAT_STATE n).addr = 0x885 + 8 * n := rfl
    simp only [driveRegs, hstat, List.mem_cons, List.not_mem_nil, or_false]
    obtain haddr | haddr | ⟨j, hj, haddr⟩ := chanFlds_addr hk hf <;> rw [haddr] <;> omega

/-! ### The channels of a group -/

/-- A group condition does this to a channel (R163): it turns off what drives, and leaves what is off. -/
structure ShutByGroup (k : Nat) (s t : State) : Prop where
  driving : s.chSt k = stPull ∨ s.chSt k = stHold ∨ s.chSt k = stClosing →
    t.running k = false ∧ (t.valve k).sn = false ∧ (t.chSt k = stOff ∨ t.chSt k = stSafe)
  idle : s.chSt k = stOff ∨ s.chSt k = stSafe ∨ s.chSt k = stLatched → t.chSt k = s.chSt k ∧ t.valve k = s.valve k

theorem ShutByGroup.congr {k : Nat} {s s' t t' : State} (h : ShutByGroup k s t) (hs : SameChannel k s' s)
    (ht : SameChannel k t t') : ShutByGroup k s' t' where
  driving hst := by
    rw [ht.running, ht.valve, ht.chSt]
    exact h.driving (hs.chSt.symm ▸ hst)
  idle hst := by
    rw [ht.valve, ht.chSt, ← hs.valve, ← hs.chSt]
    exact h.idle (hs.chSt.symm ▸ hst)

theorem groupTurnOff_drives (s : State) {ns : List Nat} {n : Nat} (hn : n ∈ ns) : Drives ns s (s.groupTurnOff n) := by
  unfold State.groupTurnOff
  split
  · exact .refl ns s
  · split
    · exact s.shutOff_drives hn
    · exact .refl ns s

theorem groupTurnOff_shut (s : State) {k : Nat} (hodd : s.isOddOfPair k = false) : ShutByGroup k s (s.groupTurnOff k) where
  driving hst := by
    obtain ⟨hrun, -, hoff⟩ := s.shutOff_stopped k
    have hshut : s.groupTurnOff k = s.shutOff k := by
      simp only [State.groupTurnOff, hodd, Bool.false_eq_true, if_false, Bool.or_eq_true, decide_eq_true_eq, or_assoc, hst, if_true]
      rfl
    rw [hshut]
    exact ⟨hrun, s.shutOff_closed k, hoff.symm ▸ s.offState_cases k⟩
  idle hst := by
    have hleft : s.groupTurnOff k = s := by
      unfold State.groupTurnOff
      rw [hodd, if_neg Bool.false_ne_true]
      obtain h | h | h := hst <;> rw [h] <;> rfl
    rw [hleft]
    exact ⟨rfl, rfl⟩

/-- The channels 8g + i for i in `l` meet a condition of group `g`. -/
def shutGroup (s : State) (g : Nat) (l : List Nat) : State := l.foldl (fun s i => s.groupTurnOff (8 * g + i)) s

theorem shutGroup_drives (s : State) (g : Nat) {l ns : List Nat} (h : ∀ i ∈ l, 8 * g + i ∈ ns) :
    Drives ns s (shutGroup s g l) := by
  induction l generalizing s with
  | nil => exact .refl ns s
  | cons i l ih =>
    exact (groupTurnOff_drives s (h i (List.mem_cons_self ..))).trans (ih _ fun j hj => h j (List.mem_cons_of_mem i hj))

/-- The channels of the list, of a group on the node, leave a channel that is not among them. -/
theorem shutGroup_sameChannel (s : State) {g i : Nat} {l : List Nat} (hg : g < 6) (hl : ∀ j ∈ l, j < 8) (hi : i < 8)
    (hil : i ∉ l) : SameChannel (8 * g + i) s (shutGroup s g l) := by
  refine Drives.sameChannel (shutGroup_drives s g fun j hj => List.mem_map_of_mem (f := (8 * g + ·)) hj) ?_ (by omega) ?_
  · intro n hn
    obtain ⟨j, hj, rfl⟩ := List.mem_map.1 hn
    have := hl j hj
    show 8 * g + j < 48
    omega
  · intro hmem
    obtain ⟨j, hj, e⟩ := List.mem_map.1 hmem
    have hji : j = i := Nat.add_left_cancel e
    exact hil (hji ▸ hj)

/-- A condition meets each channel of its group once. -/
theorem shutGroup_shut (s : State) {g i : Nat} (hg : g < 6) (hi : i < 8) (hodd : s.isOddOfPair (8 * g + i) = false) :
    ShutByGroup (8 * g + i) s (shutGroup s g (List.range 8)) := by
  obtain ⟨l₁, l₂, hsplit⟩ := List.append_of_mem (List.mem_range.2 hi)
  have hlt {j : Nat} (hj : j ∈ l₁ ++ i :: l₂) : j < 8 := List.mem_range.1 (hsplit ▸ hj)
  have hnodup : (l₁ ++ i :: l₂).Nodup := hsplit ▸ List.nodup_range
  have h₁ : i ∉ l₁ := fun hmem => (List.nodup_append.1 hnodup).2.2 i hmem i (List.mem_cons_self ..) rfl
  have h₂ : i ∉ l₂ := (List.nodup_cons.1 (List.nodup_append.1 hnodup).2.1).1
  have hbefore : SameChannel (8 * g + i) s (shutGroup s g l₁) :=
    shutGroup_sameChannel s hg (fun j hj => hlt (List.mem_append_left _ hj)) hi h₁
  have hmeets := groupTurnOff_shut (shutGroup s g l₁) (hbefore.isOddOfPair.trans hodd)
  have hafter := shutGroup_sameChannel ((shutGroup s g l₁).groupTurnOff (8 * g + i)) hg
    (fun j hj => hlt (List.mem_append_right _ (List.mem_cons_of_mem i hj))) hi h₂
  have hfold : shutGroup s g (List.range 8) = shutGroup ((shutGroup s g l₁).groupTurnOff (8 * g + i)) g l₂ := by
    rw [shutGroup, hsplit, List.foldl_append]
    rfl
  rw [hfold]
  exact hmeets.congr hbefore hafter

/-! ### GROUP_CONDITION_ASSERT -/

theorem bitOf_setBits_same (x i v : Nat) : bitOf (setBits x i i v) i = v.testBit 0 := by
  rw [bitOf_eq_testBit, testBit_setBits _ _ _ _ _ (Nat.le_refl i), if_pos ⟨Nat.le_refl i, Nat.le_refl i⟩, Nat.sub_self]

theorem groupFlag_addr (g c : Nat) : (groupFlag g c).addr = 0x808 + g := by
  unfold groupFlag
  split
  · rfl
  · split <;> rfl

theorem groupFlag_hi (g c : Nat) : (groupFlag g c).hi < 8 := by
  unfold groupFlag
  split
  · exact (by decide : 0 < 8)
  · split
    · exact (by decide : 1 < 8)
    · exact (by decide : 2 < 8)

theorem groupFlag_ok (g c : Nat) : (groupFlag g c).ok = true := by
  unfold groupFlag
  split
  · rfl
  · split <;> rfl

/-- The condition stands, with its flag (R163). -/
def standCond (v : State) (g c : Nat) : State :=
  (v.turnOffClock.setGroup g { cond := setBits (v.group g).cond c c 1 }).raise (groupFlag g c)

theorem exec_groupConditionAssert (s : State) (g : Fin 6) (c : Fin 3) (x : List Nat) (hrun : s.boot.halted = false)
    (hends : bitOf (s.group g).cond c = false) (hall : lastAll (condRun c) (s.condHigh g c) x = true) :
    exec (.groupConditionAssert g c x) s =
      .next ((shutGroup (standCond (s.groupValues g c x) g c) g (List.range 8)).report (srcGroupUv + c) g) := by
  show execGroupConditionAssert g c x s = _
  rw [execGroupConditionAssert, s.clocked_running _ hrun]
  simp only [groupValues_group, groupValues_condHigh, hends, hall, Bool.not_true, Bool.or_false, Bool.false_eq_true, if_false]
  rw [shutGroup, standCond, groupValues_group]

theorem exec_groupConditionAssert_other (s : State) (g : Fin 6) (c : Fin 3) (x : List Nat) (hrun : s.boot.halted = false)
    (h : bitOf (s.group g).cond c = true ∨ lastAll (condRun c) (s.condHigh g c) x = false) :
    exec (.groupConditionAssert g c x) s = .next (s.groupValues g c x) := by
  have hcond : (bitOf (s.group g).cond c || !lastAll (condRun c) (s.condHigh g c) x) = true := by
    obtain h | h := h <;> simp [h]
  show execGroupConditionAssert g c x s = _
  rw [execGroupConditionAssert, s.clocked_running _ hrun]
  simp only [groupValues_group, groupValues_condHigh, hcond, if_true]

theorem standCond_same (v : State) (g c : Nat) : (standCond v g c).valves = v.valves ∧ (standCond v g c).mem = v.mem ∧
    ∀ h, (standCond v g c).group h = if h = g then { cond := setBits (v.group g).cond c c 1 } else v.group h := by
  obtain ⟨r, k, e⟩ := v.turnOffClock_same
  rw [standCond, e]
  exact ⟨rfl, rfl, fun h => State.group_setGroup _ g h _⟩

/-- What asserts leaves the fields of the channels. -/
theorem standCond_sameChannel (s : State) {g k : Nat} (c : Nat) (x : List Nat) (hg : g < 6) (hk : k < 48) :
    SameChannel k s (standCond (s.groupValues g c x) g c) where
  valve := by
    obtain ⟨r, y, e⟩ := groupValues_same s g c x
    rw [State.valve, (standCond_same _ g c).1, e]
    rfl
  fld f hf := by
    have hlow : 0x880 ≤ f.addr := by
      obtain h | h | ⟨j, -, h⟩ := chanFlds_addr hk hf <;> omega
    have hne : f.addr ≠ (groupFlag g c).addr := by rw [groupFlag_addr]; omega
    calc (standCond (s.groupValues g c x) g c).fld f = (s.groupValues g c x).turnOffClock.fld f :=
          State.fld_of_reg f (State.raise_reg_ne _ _ hne)
      _ = (s.groupValues g c x).fld f := State.turnOffClock_fld _ (by omega)
      _ = s.fld f := groupValues_fld s g c x (by omega) (.inl (by omega))

/-- A condition that asserts (R163). -/
theorem groupConditionAssert_facts (s : State) (g : Fin 6) (c : Fin 3) (x : List Nat) : ∀ t,
    t = (shutGroup (standCond (s.groupValues g c x) g c) g (List.range 8)).report (srcGroupUv + c) g →
      bitOf (t.group g).cond c = true ∧ t.flag (groupFlag g c) = true ∧ t.mem = s.mem ∧
        (∀ h, h ≠ g.val → t.group h = s.group h) ∧
        ∀ i, i < 8 → s.isOddOfPair (8 * g.val + i) = false → ShutByGroup (8 * g.val + i) s t := by
  rintro t rfl
  obtain ⟨-, hmem, hgroup⟩ := standCond_same (s.groupValues g c x) g c
  have hsrc : srcGroupUv + c.val < 64 := by have : srcGroupUv = 15 := rfl; omega
  have hrep := State.reportAt_reported (shutGroup (standCond (s.groupValues g c x) g c) g (List.range 8)) (srcGroupUv + c) g
    (faultAddr (srcGroupUv + c) g)
  have hdrive := shutGroup_drives (standCond (s.groupValues g c x) g c) g (l := List.range 8)
    fun i hi => List.mem_map_of_mem (f := (8 * g.val + ·)) hi
  have hgroup' (h : Nat) :
      (State.report (shutGroup (standCond (s.groupValues g c x) g c) g (List.range 8)) (srcGroupUv + c) g).group h =
        (standCond (s.groupValues g c x) g c).group h := by
    obtain ⟨⟨_, _, _, _, _, e⟩, -⟩ := hrep
    rw [State.report, e, State.group, State.group]
    exact congrArg (spGet _ · h) hdrive.groups
  have hmem' : (s.groupValues g c x).mem = s.mem := by
    obtain ⟨r, k, e⟩ := groupValues_same s g c x
    rw [e]
  refine ⟨?cond, ?flag, (hrep.mem.trans hdrive.mem).trans (hmem.trans hmem'), fun h hh => ?others, fun i hi hodd => ?channel⟩
  case cond => rw [hgroup', hgroup, if_pos rfl]; exact bitOf_setBits_same _ c 1
  case flag =>
    refine (State.flag_of_fld _ ((State.report_fld _ _ hsrc (by rw [groupFlag_addr]; omega)).trans
      (hdrive.fld _ ?_))).trans (State.raise_flag_same _ _ (groupFlag_ok g c))
    intro n hn
    obtain ⟨i, hi, rfl⟩ := List.mem_map.1 hn
    have hi8 := List.mem_range.1 hi
    have hstat : (F.VDA_CHn_STAT_STATE (8 * g.val + i)).addr = 0x885 + 8 * (8 * g.val + i) := rfl
    simp only [driveRegs, groupFlag_addr, hstat, List.mem_cons, List.not_mem_nil, or_false]
    omega
  case others => rw [hgroup', hgroup, if_neg hh, groupValues_group]
  case channel =>
    have hk : 8 * g.val + i < 48 := by omega
    have hbase := standCond_sameChannel s c x g.isLt hk
    have hrest : SameChannel (8 * g.val + i) (shutGroup (standCond (s.groupValues g c x) g c) g (List.range 8))
        (State.report _ (srcGroupUv + c) g) :=
      ⟨State.report_valve _ _ _ _, fun f hf => State.report_fld _ _ hsrc (by
        obtain h | h | ⟨j, -, h⟩ := chanFlds_addr hk hf <;> omega)⟩
    exact (shutGroup_shut _ g.isLt hi (hbase.isOddOfPair.trans hodd)).congr hbase hrest

/-! ### GROUP_CONDITION_END -/

/-- The condition stands no more. -/
def endCond (v : State) (g c : Nat) : State := (v.setGroup g { cond := setBits (v.group g).cond c c 0 }).completed

theorem exec_groupConditionEnd (s : State) (g : Fin 6) (c : Fin 3) (x : List Nat) (hrun : s.boot.halted = false) :
    exec (.groupConditionEnd g c x) s = .next (if lastAll (s.endRun c) (s.condLow g c) x then endCond (s.groupValues g c x) g c
      else s.groupValues g c x) := by
  show execGroupConditionEnd g c x s = _
  rw [execGroupConditionEnd, s.clocked_running _ hrun]
  dsimp only
  rw [groupValues_endRun, groupValues_condLow]
  split <;> rfl

theorem groupConditionEnd_facts (s : State) (g : Fin 6) (c : Fin 3) (x : List Nat) : ∀ t,
    t = endCond (s.groupValues g c x) g c →
    bitOf (t.group g).cond c = false ∧ t.flag (groupFlag g c) = s.flag (groupFlag g c) ∧ t.valves = s.valves ∧
      t.mem = s.mem ∧ t.queues = s.queues ∧ (∀ h, h ≠ g.val → t.group h = s.group h) ∧
      ∀ i, i ≠ 0x200 → i ≠ (F.VDA_Gg_STAT_VDRV g).addr → t.reg i = s.reg i := by
  rintro t rfl
  have hgroup (h : Nat) : (endCond (s.groupValues g c x) g c).group h =
      if h = g.val then { cond := setBits (s.group g).cond c c 0 } else s.group h := by
    rw [endCond, ← groupValues_group s g c g x, ← groupValues_group s g c h x]
    exact State.group_setGroup _ g.val h _
  have hsame : (endCond (s.groupValues g c x) g c).valves = s.valves ∧ (endCond (s.groupValues g c x) g c).mem = s.mem ∧
      (endCond (s.groupValues g c x) g c).queues = s.queues := by
    obtain ⟨r, k, e⟩ := groupValues_same s g c x
    rw [e]
    exact ⟨rfl, rfl, rfl⟩
  obtain ⟨hvalves, hmem, hqueues⟩ := hsame
  refine ⟨?cond, ?flag, hvalves, hmem, hqueues, fun h hh => (hgroup h).trans (if_neg hh),
    fun i htime hi => groupValues_reg s g c x htime hi⟩
  case cond => rw [hgroup, if_pos rfl]; exact bitOf_setBits_same _ c 0
  case flag =>
    exact State.flag_of_fld _ (groupValues_fld s g c x (by rw [groupFlag_addr]; omega) (.inr (groupFlag_hi g c)))

end Sys2Proof.Proofs
end

section
/-! PROOF. SAFECLR and PAIR_WRITE (R14, R146, R164): writes of VDA_CHn_STAT and VDA_CHn_CFG. -/

namespace Sys2Proof.Proofs

open Sys2Proof Sys2Proof.Machine

/-! ### Writes of registers with flags -/

/-- A field without flags that are written 1 stays where they clear. -/
theorem bitsOf_cleared (r : RegRow) (old v : Word) {f : Fld} (hok : f.ok = true) (h : f.within (2 ^ 40 - 1 - r.w1c) = true)
    (hmask : r.w1c < 2 ^ 40) : bitsOf (BitVec.ofNat 40 (r.cleared old v)).toNat f.hi f.lo = bitsOf old.toNat f.hi f.lo := by
  have hrow : BitVec.ofNat 40 (r.cleared old v) = RegRow.stored { r with rw := 0 } old v := by
    simp [RegRow.stored, RegRow.cleared]
  rw [hrow]
  exact RegRow.bitsOf_stored_kept _ old v hok (by simpa using h) (by simpa using hmask)

theorem fld_setReg_same (s : State) {a : Nat} (x : Word) {f : Fld} (hf : f.addr = a) :
    (s.setReg a x).fld f = bitsOf x.toNat f.hi f.lo := by
  rw [State.fld, State.reg_setReg, if_pos hf]

theorem clearedBy_regOnly (s : State) {r : RegRow} {a : Nat} (v : Word) (hin : inInputs a = false) (h : r.w1c ≠ 0) :
    RegOnly a s (s.clearedBy r a v) := by
  obtain ⟨y, hy⟩ := s.clearedBy_setReg v hin h
  rw [hy]
  exact s.setReg_regOnly a y

theorem clearedBy_fld (s : State) {r : RegRow} {a : Nat} (v : Word) {f : Fld} (hf : f.addr = a) (hin : inInputs a = false)
    (h : r.w1c ≠ 0) (hmask : r.w1c < 2 ^ 40) (hok : f.ok = true) (hout : f.within (2 ^ 40 - 1 - r.w1c) = true) :
    (s.clearedBy r a v).fld f = s.fld f := by
  rw [State.clearedBy, if_neg h, s.metAt_other hin, fld_setReg_same _ _ hf, bitsOf_cleared r _ v hok hout hmask, State.fld, hf]

/-- In a calm core clock, a write that its register takes, or refuses with an error flag, has the effect of the register, on the
flags written 1 cleared. -/
theorem write_flags (s : State) {a : Nat} {r : RegRow} (v : Word) {f : State → State} (hr : regAt a = some r)
    (hcalm : s.calm = true) (hin : inInputs a = false) (hw1c : r.w1c ≠ 0)
    (heff : ∀ u, ∃ w : Wr, w.acted = true ∧ State.writeReg u (some .service) r a v (r.stored (s.reg a) v) = (w, f u)) :
    s.write .service a v = (f (s.clearedBy r a v)).completed := by
  have hhard := State.afterHardware_calm hcalm r a v
  have hcleared : s.clearedBy r a v = s.setReg a (BitVec.ofNat 40 (r.cleared (s.reg a) v)) := by
    rw [State.clearedBy, if_neg hw1c, s.metAt_other hin]
  obtain ⟨w, hacted, hwrite⟩ := heff (s.clearedBy r a v)
  rw [hcleared] at hwrite ⊢
  rw [RegRow.stored, RegRow.cleared] at hwrite
  simp only [State.write, State.hostWrite, hr, hw1c, hin, hhard, Bool.false_eq_true, if_false, decide_false, Bool.and_false,
    Bool.false_and, reduceCtorEq, Option.some.injEq]
  rw [RegRow.cleared, hwrite]
  simp [hacted]

/-! ### SAFECLR -/

/-- The row of VDA_CHn_STAT. -/
def statRow : RegRow := ⟨.VDA_CHn_STAT, 0x885, 8, 48, 0, 0x0, 0x0, 0xf0, 0x100⟩

/-- SAFECLR acts on the state in which the flags written 1 have cleared. -/
theorem exec_safeclr (s : State) (n : Fin 48) (v : Word) (hrun : s.boot.halted = false) (hcalm : s.calm = true) :
    exec (.safeclr n v) s = .next ((s.clearedBy statRow (0x885 + 8 * n) (bitAs v 8 true)).safeClr n).completed := by
  have hrow : regAt (0x885 + 8 * n) = some statRow := by revert n; decide
  have hin : inInputs (0x885 + 8 * n) = false := by simp [inInputs]; omega
  have hidx : statRow.idx (0x885 + 8 * n) = n := by simp [RegRow.idx, statRow]
  show execSafeclr n v s = _
  rw [execSafeclr, s.clocked_running _ hrun]
  refine congrArg _ (write_flags s (f := fun u => u.safeClr n) (bitAs v 8 true) hrow hcalm hin (by decide) fun u =>
    ⟨.done, rfl, ?_⟩)
  show (Wr.done, if bitOf (bitAs v 8 true).toNat 8 = true then u.safeClr (statRow.idx (0x885 + 8 * n)) else u) = _
  rw [bitOf_bitAs v true 8 (by decide), if_pos rfl, if_pos rfl, hidx]

theorem enterOff_reg (s : State) (n : Nat) {i : Nat} (h : i ≠ 0x885 + 8 * n) : (s.enterOff n).reg i = s.reg i :=
  s.reg_setFld_ne (F.VDA_CHn_STAT_STATE n) stOff h

theorem enterOff_chSt (s : State) (n : Nat) : (s.enterOff n).chSt n = stOff := s.chSt_setChSt n (by decide)

theorem enterOff_offFrom (s : State) (n : Nat) : ((s.enterOff n).valve n).offFrom = some s.clk.cc := by
  rw [State.enterOff, State.valve_modValve, if_pos rfl]

/-- The flags that a write of VDA_CHn_STAT clears do not say how a channel stands. -/
theorem clearedBy_stat (s : State) (n : Fin 48) (w : Word) : ∀ u, u = s.clearedBy statRow (0x885 + 8 * n) w →
    RegOnly (0x885 + 8 * n) s u ∧ (∀ k, u.chSt k = s.chSt k) ∧ u.govern n = s.govern n ∧
      (∀ k, u.safeNamed k = s.safeNamed k) := by
  rintro u rfl
  have hin : inInputs (0x885 + 8 * n) = false := by simp [inInputs]; omega
  have hu := clearedBy_regOnly s (r := statRow) w hin (by decide)
  refine ⟨hu, fun k => ?state, ?govern, fun k => ?named⟩
  case state =>
    by_cases h : k = n
    · subst h
      exact clearedBy_fld s (f := F.VDA_CHn_STAT_STATE n) w rfl hin (by decide) (by decide) rfl rfl
    · exact hu.fld (F.VDA_CHn_STAT_STATE k) (by show 0x885 + 8 * k ≠ 0x885 + 8 * n.val; omega)
  case govern =>
    unfold State.govern State.pairKind
    rw [hu.fld (F.VDA_CHn_CFG_PAIR (n / 2 * 2)) (by show 0x880 + 8 * (n.val / 2 * 2) ≠ 0x885 + 8 * n.val; omega)]
  case named =>
    obtain ⟨⟨g, e⟩, -⟩ := hu
    rw [e]; rfl

theorem safeClr_leaves (s : State) {n : Nat} (h : s.chSt (s.govern n) = stSafe) (hnamed : s.safeNamed (s.govern n) = false) :
    s.safeClr n = s.enterOff (s.govern n) := by
  simp [State.safeClr, h, hnamed]

theorem safeClr_ignored (s : State) {n : Nat} (h : s.chSt (s.govern n) ≠ stSafe ∨ s.safeNamed (s.govern n) = true) :
    s.safeClr n = s := by
  obtain h | h := h <;> simp [State.safeClr, h]

theorem safeclr_facts (s : State) (n : Fin 48) (w : Word) : ∀ t k, k = s.govern n →
    t = ((s.clearedBy statRow (0x885 + 8 * n) w).safeClr n).completed → t.mem = s.mem ∧
      (∀ i, i ≠ (F.VDA_CHn_STAT_STATE n).addr → i ≠ (F.VDA_CHn_STAT_STATE k).addr → t.reg i = s.reg i) ∧
      (s.chSt k = stSafe → s.safeNamed k = false → t.chSt k = stOff ∧ (t.valve k).offFrom = some s.clk.cc) ∧
      (s.chSt k ≠ stSafe ∨ s.safeNamed k = true → t.chSt k = s.chSt k ∧ t.valves = s.valves) := by
  rintro t _ rfl rfl
  obtain ⟨hu, hst, hgov, hnamed⟩ := clearedBy_stat s n w _ rfl
  generalize s.clearedBy statRow (0x885 + 8 * n) w = u at hu hst hgov hnamed
  have hvalves : u.valves = s.valves := by obtain ⟨⟨g, rfl⟩, -⟩ := hu; rfl
  have hclk : u.clk = s.clk := by obtain ⟨⟨g, rfl⟩, -⟩ := hu; rfl
  by_cases h : s.chSt (s.govern n) = stSafe ∧ s.safeNamed (s.govern n) = false
  · obtain ⟨hsafe, hfree⟩ := h
    rw [safeClr_leaves u (by rw [hgov, hst, hsafe]) (by rw [hgov, hnamed, hfree]), hgov]
    refine ⟨hu.mem, fun i hi hk => (enterOff_reg u _ hk).trans (hu.2 i hi), fun _ _ => ⟨enterOff_chSt u _, ?_⟩, fun h => ?_⟩
    · rw [State.completed_valve, enterOff_offFrom, hclk]
    · simp [hsafe, hfree] at h
  · have h' : s.chSt (s.govern n) ≠ stSafe ∨ s.safeNamed (s.govern n) = true := by
      rw [not_and_or, Bool.not_eq_false] at h
      exact h
    rw [safeClr_ignored u (by rw [hgov, hst, hnamed]; exact h')]
    exact ⟨hu.mem, fun i hi _ => hu.2 i hi, fun h₁ h₂ => absurd ⟨h₁, h₂⟩ h, fun _ => ⟨hst _, hvalves⟩⟩

/-! ### PAIR_WRITE -/

/-- The row of VDA_CHn_CFG. -/
def pairRow : RegRow := ⟨.VDA_CHn_CFG, 0x880, 8, 48, 0, 0x960000, 0x3fff003c, 0x40, 0x0⟩

/-- VDA_CHn_CFG with the word `x` but for PAIR, which stays. -/
def keepPair (u : State) (n : Nat) (x : Word) : State :=
  u.setReg (0x880 + 8 * n) (putBits x (F.VDA_CHn_CFG_PAIR n) (u.fld (F.VDA_CHn_CFG_PAIR n)))

/-- A PAIR that differs may be taken (R146). -/
def PairFree (u : State) (n : Nat) : Prop :=
  (u.modeNow = modeCommission ∨ u.modeNow = modeHold) ∧ u.chSt n = stOff ∧ u.fld (F.VDA_CHn_STAT_STATE (n + 1)) = stOff

/-- What a host write of VDA_CHn_CFG does: PAIR stays, is taken, or is refused (R146). -/
theorem writeChannelCfg_cases (u : State) (n : Nat) (x : Word) :
    (n % 2 = 1 ∧ u.writeChannelCfg (some .service) n x = (.done, keepPair u n x)) ∨
    (n % 2 = 0 ∧ (bitsOf x.toNat 5 4 = u.fld (F.VDA_CHn_CFG_PAIR n) ∨ PairFree u n) ∧
      u.writeChannelCfg (some .service) n x = (.done, u.setReg (0x880 + 8 * n) x)) ∨
    (n % 2 = 0 ∧ ¬PairFree u n ∧
      u.writeChannelCfg (some .service) n x = (.flagged, (keepPair u n x).raise (F.VDA_CHn_CFG_PAIRERR n))) := by
  by_cases hodd : n % 2 = 1
  · exact .inl ⟨hodd, if_pos hodd⟩
  have heven : n % 2 = 0 := by omega
  by_cases hsame : bitsOf x.toNat 5 4 = u.fld (F.VDA_CHn_CFG_PAIR n)
  · exact .inr (.inl ⟨heven, .inl hsame, (if_neg hodd).trans (if_pos hsame)⟩)
  have hfree : (((u.modeNow = modeCommission || u.modeNow = modeHold || (some .service : Writer) = none) && u.chSt n = stOff &&
      u.fld (F.VDA_CHn_STAT_STATE (n + 1)) = stOff) = true) ↔ PairFree u n := by
    simp only [PairFree, Bool.and_eq_true, Bool.or_eq_true, decide_eq_true_eq, reduceCtorEq, or_false, and_assoc]
  have hwrite : u.writeChannelCfg (some .service) n x = if (u.modeNow = modeCommission || u.modeNow = modeHold ||
      (some .service : Writer) = none) && u.chSt n = stOff && u.fld (F.VDA_CHn_STAT_STATE (n + 1)) = stOff then
        (.done, u.setReg (0x880 + 8 * n) x) else (.flagged, (keepPair u n x).raise (F.VDA_CHn_CFG_PAIRERR n)) :=
    (if_neg hodd).trans (if_neg hsame)
  by_cases h : PairFree u n
  · exact .inr (.inl ⟨heven, .inr h, hwrite.trans (if_pos (hfree.2 h))⟩)
  · exact .inr (.inr ⟨heven, h, hwrite.trans (if_neg (mt hfree.1 h))⟩)

/-- PAIR and the rest of the word where PAIR stays. -/
theorem keepPair_fld (u : State) (n : Nat) (x : Word) {f : Fld} (hf : f.addr = 0x880 + 8 * n) :
    (keepPair u n x).fld f = ((u.setReg (0x880 + 8 * n) x).setFld (F.VDA_CHn_CFG_PAIR n) (u.fld (F.VDA_CHn_CFG_PAIR n))).fld f := by
  have hreg : (u.setReg (0x880 + 8 * n) x).reg (0x880 + 8 * n) = x := (u.reg_setReg _ _ x).trans (if_pos rfl)
  refine State.fld_of_reg f ?_
  rw [keepPair, State.setFld, hf, State.reg_setReg, State.reg_setReg, if_pos rfl]
  refine Eq.trans ?_ (if_pos rfl).symm
  show putBits x _ _ = BitVec.ofNat 40 (setBits ((u.setReg (0x880 + 8 * n) x).reg (0x880 + 8 * n)).toNat _ _ _)
  rw [hreg]
  rfl

theorem keepPair_other (u : State) (n : Nat) (x : Word) {f : Fld} (hf : f.addr = 0x880 + 8 * n) (hd : f.hi < 4 ∨ 5 < f.lo) :
    (keepPair u n x).fld f = bitsOf x.toNat f.hi f.lo := by
  rw [keepPair_fld u n x hf, State.fld_setFld_disj _ (F.VDA_CHn_CFG_PAIR n) f _ rfl hd, fld_setReg_same u x hf]

theorem keepPair_pair (u : State) (n : Nat) (x : Word) :
    (keepPair u n x).fld (F.VDA_CHn_CFG_PAIR n) = u.fld (F.VDA_CHn_CFG_PAIR n) := by
  rw [keepPair_fld u n x rfl, State.fld_setFld_same _ _ _ rfl]
  exact Nat.mod_eq_of_lt (u.fld_lt _)

/-- What a host write of VDA_CHn_CFG leaves, with the word `x` to be stored (R146). -/
structure PairWritten (n : Nat) (x : Word) (u t : State) : Prop where
  valves : t.valves = u.valves
  mem : t.mem = u.mem
  reg : ∀ i, i ≠ 0x880 + 8 * n → t.reg i = u.reg i
  other : ∀ f : Fld, f.addr = 0x880 + 8 * n → f.hi < 4 ∨ 6 < f.lo → t.fld f = bitsOf x.toNat f.hi f.lo
  odd : n % 2 = 1 → t.fld (F.VDA_CHn_CFG_PAIR n) = u.fld (F.VDA_CHn_CFG_PAIR n)
  taken : n % 2 = 0 → PairFree u n → t.fld (F.VDA_CHn_CFG_PAIR n) = bitsOf x.toNat 5 4
  refused : n % 2 = 0 → bitsOf x.toNat 5 4 ≠ u.fld (F.VDA_CHn_CFG_PAIR n) → ¬PairFree u n →
    t.fld (F.VDA_CHn_CFG_PAIR n) = u.fld (F.VDA_CHn_CFG_PAIR n) ∧ t.flag (F.VDA_CHn_CFG_PAIRERR n) = true

theorem writeChannelCfg_written (u : State) (n : Nat) (x : Word) :
    (u.writeChannelCfg (some .service) n x).1.acted = true ∧ PairWritten n x u (u.writeChannelCfg (some .service) n x).2 := by
  have hset (y : Word) (i : Nat) (hi : i ≠ 0x880 + 8 * n) : (u.setReg (0x880 + 8 * n) y).reg i = u.reg i :=
    (u.reg_setReg _ i y).trans (if_neg hi)
  have hpair : (keepPair u n x).fld (F.VDA_CHn_CFG_PAIR n) = u.fld (F.VDA_CHn_CFG_PAIR n) := keepPair_pair u n x
  obtain ⟨hodd, e⟩ | ⟨heven, hwhy, e⟩ | ⟨heven, hbusy, e⟩ := writeChannelCfg_cases u n x <;> rw [e] <;>
    refine ⟨rfl, ?_⟩
  case inl =>
    exact { valves := rfl, mem := rfl, reg := hset _, odd := fun _ => hpair
            other := fun f hf hd => keepPair_other u n x hf (by omega)
            taken := fun h => by omega
            refused := fun h => by omega }
  case inr.inl =>
    have htaken : (u.setReg (0x880 + 8 * n) x).fld (F.VDA_CHn_CFG_PAIR n) = bitsOf x.toNat 5 4 :=
      fld_setReg_same u (f := F.VDA_CHn_CFG_PAIR n) x rfl
    exact { valves := rfl, mem := rfl, reg := hset x, taken := fun _ _ => htaken
            other := fun f hf _ => fld_setReg_same u x hf
            odd := fun h => by omega
            refused := fun _ hne hbusy => absurd hwhy (not_or.2 ⟨hne, hbusy⟩) }
  case inr.inr =>
    exact { valves := rfl, mem := rfl
            reg := fun i hi => (State.raise_reg_ne _ (F.VDA_CHn_CFG_PAIRERR n) hi).trans (hset _ i hi)
            other := fun f hf hd => (State.raise_fld_disj _ (F.VDA_CHn_CFG_PAIRERR n) f rfl
              (hd.imp (fun h => Nat.lt_trans h (by decide : 4 < 6)) id)).trans (keepPair_other u n x hf (by omega))
            odd := fun h => by omega
            taken := fun _ hfree => absurd hfree hbusy
            refused := fun _ _ _ => ⟨(State.raise_fld_disj _ (F.VDA_CHn_CFG_PAIRERR n) (F.VDA_CHn_CFG_PAIR n) rfl
              (.inl (by decide : 5 < 6))).trans hpair, State.raise_flag_same _ _ rfl⟩ }

/-- PAIR_WRITE acts on the state in which PAIRERR has cleared if it is written 1. -/
theorem exec_pairWrite (s : State) (n : Fin 48) (v : Word) (hrun : s.boot.halted = false) (hcalm : s.calm = true) :
    exec (.pairWrite n v) s = .next ((s.clearedBy pairRow (0x880 + 8 * n) v).writeChannelCfg (some .service) n
      (pairRow.stored (s.reg (0x880 + 8 * n)) v)).2.completed := by
  have hrow : regAt (0x880 + 8 * n) = some pairRow := by revert n; decide
  have hin : inInputs (0x880 + 8 * n) = false := by simp [inInputs]; omega
  have hidx : pairRow.idx (0x880 + 8 * n) = n := by simp [RegRow.idx, pairRow]
  show execPairWrite n v s = _
  rw [execPairWrite, s.clocked_running _ hrun]
  refine congrArg _ (write_flags s (f := fun u => (u.writeChannelCfg (some .service) n
    (pairRow.stored (s.reg (0x880 + 8 * n)) v)).2) v hrow hcalm hin (by decide) fun u =>
      ⟨_, (writeChannelCfg_written u n (pairRow.stored (s.reg (0x880 + 8 * n)) v)).1, ?_⟩)
  show u.writeChannelCfg (some .service) (pairRow.idx (0x880 + 8 * n)) _ = _
  rw [hidx]

/-- PAIRERR, which a write of VDA_CHn_CFG may clear, has no part in whether a PAIR is taken. -/
theorem clearedBy_pair (s : State) (n : Fin 48) (v : Word) : ∀ u, u = s.clearedBy pairRow (0x880 + 8 * n) v →
    RegOnly (0x880 + 8 * n) s u ∧ u.valves = s.valves ∧ u.fld (F.VDA_CHn_CFG_PAIR n) = s.fld (F.VDA_CHn_CFG_PAIR n) ∧
      (PairFree u n ↔ PairFree s n) := by
  rintro u rfl
  have hin : inInputs (0x880 + 8 * n) = false := by simp [inInputs]; omega
  have hu := clearedBy_regOnly s (r := pairRow) v hin (by decide)
  refine ⟨hu, ?valves, clearedBy_fld s (f := F.VDA_CHn_CFG_PAIR n) v rfl hin (by decide) (by decide) rfl rfl, ?free⟩
  case valves => obtain ⟨⟨g, e⟩, -⟩ := hu; rw [e]
  case free =>
    unfold PairFree State.chSt
    rw [hu.modeNow (by omega), hu.fld (F.VDA_CHn_STAT_STATE n) (by show 0x885 + 8 * n.val ≠ 0x880 + 8 * n.val; omega),
      hu.fld (F.VDA_CHn_STAT_STATE (n + 1)) (by show 0x885 + 8 * (n.val + 1) ≠ 0x880 + 8 * n.val; omega)]

theorem pairWrite_facts (s : State) (n : Fin 48) (v : Word) : ∀ t,
    t = ((s.clearedBy pairRow (0x880 + 8 * n) v).writeChannelCfg (some .service) n
      (pairRow.stored (s.reg (0x880 + 8 * n)) v)).2.completed →
    (∀ i, i ≠ (F.VDA_CHn_CFG_PAIR n).addr → t.reg i = s.reg i) ∧ t.valves = s.valves ∧ t.mem = s.mem ∧
      t.fld (F.VDA_CHn_CFG_OFFMIN n) = bitsOf v.toNat 29 16 ∧ t.flag (F.VDA_CHn_CFG_OFFDIAG n) = bitOf v.toNat 3 ∧
      t.flag (F.VDA_CHn_CFG_DEFDEC n) = bitOf v.toNat 2 ∧
      (n.val % 2 = 1 → t.fld (F.VDA_CHn_CFG_PAIR n) = s.fld (F.VDA_CHn_CFG_PAIR n)) ∧
      (n.val % 2 = 0 → s.modeNow = modeCommission ∨ s.modeNow = modeHold → s.chSt n = stOff → s.chSt (n.val + 1) = stOff →
        t.fld (F.VDA_CHn_CFG_PAIR n) = bitsOf v.toNat 5 4) ∧
      (n.val % 2 = 0 → bitsOf v.toNat 5 4 ≠ s.fld (F.VDA_CHn_CFG_PAIR n) →
        (s.modeNow ≠ modeCommission ∧ s.modeNow ≠ modeHold) ∨ s.chSt n ≠ stOff ∨ s.chSt (n.val + 1) ≠ stOff →
        t.fld (F.VDA_CHn_CFG_PAIR n) = s.fld (F.VDA_CHn_CFG_PAIR n) ∧ t.flag (F.VDA_CHn_CFG_PAIRERR n) = true) := by
  rintro t rfl
  obtain ⟨hu, huvalves, hpair, hfree⟩ := clearedBy_pair s n v _ rfl
  obtain ⟨-, hvalves, hmem, hreg, hother, hodd, htaken, hrefused⟩ :=
    writeChannelCfg_written (s.clearedBy pairRow (0x880 + 8 * n) v) n (pairRow.stored (s.reg (0x880 + 8 * n)) v)
  generalize s.clearedBy pairRow (0x880 + 8 * n) v = u at *
  generalize (u.writeChannelCfg (some .service) n (pairRow.stored (s.reg (0x880 + 8 * n)) v)).2 = t at *
  have hfield {f : Fld} (hok : f.ok = true) (h : f.within pairRow.rw = true) :=
    pairRow.bitsOf_stored_rw (s.reg (0x880 + 8 * n)) v hok h
  have hx := hfield (f := F.VDA_CHn_CFG_PAIR n) rfl rfl
  have hbit {f : Fld} (haddr : f.addr = 0x880 + 8 * n) (hok : f.ok = true) (hrw : f.within pairRow.rw = true)
      (hd : f.hi < 4 ∨ 6 < f.lo) (hone : f.lo = f.hi) : t.flag f = bitOf v.toNat f.lo := by
    rw [State.flag, hother f haddr hd, hfield hok hrw, bitsOf_mod_two _ _ _ (Nat.le_of_eq hone)]
  refine ⟨fun i hi => (hreg i hi).trans (hu.2 i hi), hvalves.trans huvalves, hmem.trans hu.mem, ?offmin, ?offdiag, ?defdec,
    fun h => (hodd h).trans hpair, ?taken, ?refused⟩
  case offmin =>
    exact (hother (F.VDA_CHn_CFG_OFFMIN n) rfl (.inr (by decide : 6 < 16))).trans (hfield (f := F.VDA_CHn_CFG_OFFMIN n) rfl rfl)
  case offdiag => exact hbit (f := F.VDA_CHn_CFG_OFFDIAG n) rfl rfl rfl (.inl (by decide : 3 < 4)) rfl
  case defdec => exact hbit (f := F.VDA_CHn_CFG_DEFDEC n) rfl rfl rfl (.inl (by decide : 2 < 4)) rfl
  case taken => exact fun heven hmode hoff hoff' => (htaken heven (hfree.2 ⟨hmode, hoff, hoff'⟩)).trans hx
  case refused =>
    intro heven hne hbusy
    have hnot : ¬PairFree s n := by
      rintro ⟨hmode, hoff, hoff'⟩
      obtain ⟨hcommission, hhold⟩ | h | h := hbusy
      · exact hmode.elim hcommission hhold
      · exact h hoff
      · exact h hoff'
    obtain ⟨hkept, herr⟩ := hrefused heven (by rw [hpair]; exact hx.trans_ne hne) (mt hfree.1 hnot)
    exact ⟨hkept.trans hpair, herr⟩

/-- Settles O38: a trip and an assertion are turn-offs of the channels they meet (`overcurrentTrip_facts`, `shutGroup_shut`), and
the other commands let time pass or write a register of the channel. -/
theorem outputFaultsTurnChannelsOff : Obligations.OutputFaultsTurnChannelsOff := by
  unfold Obligations.OutputFaultsTurnChannelsOff
  intro s hrun
  refine ⟨?trip, fun g c x => ⟨?asserts, exec_groupConditionAssert_other s g c x hrun, ?ends, ?goesOn⟩, ?offTime,
    ?safeclr, ?pair⟩
  case trip =>
    rintro n k rfl
    rw [exec_overcurrentTrip s n hrun]
    exact ⟨fun h => ⟨_, congrArg _ (if_pos h), overcurrentTrip_facts s (govern_lt s n) _ rfl⟩,
      fun h => congrArg _ (if_neg (Bool.eq_false_iff.1 h))⟩
  case asserts =>
    intro hends hall
    obtain ⟨hcond, hflag, hmem, hothers, hchannel⟩ := groupConditionAssert_facts s g c x _ rfl
    refine ⟨_, exec_groupConditionAssert s g c x hrun hends hall, hcond, hflag, hmem, hothers, ?_⟩
    rintro i hi k rfl hodd
    exact ⟨(hchannel i hi hodd).driving, (hchannel i hi hodd).idle⟩
  case ends =>
    intro hall
    exact ⟨_, (exec_groupConditionEnd s g c x hrun).trans (congrArg _ (if_pos hall)), groupConditionEnd_facts s g c x _ rfl⟩
  case goesOn =>
    intro hall
    exact (exec_groupConditionEnd s g c x hrun).trans (congrArg _ (if_neg (Bool.eq_false_iff.1 hall)))
  case offTime =>
    rintro n k rfl
    exact ⟨fun c hfrom hoff => ⟨_, exec_offTimeEnd s n hrun hfrom hoff, endOffTime_facts s _ _ _ rfl⟩,
      exec_offTimeEnd_idle s n hrun⟩
  case safeclr =>
    intro n v k hcalm hk
    exact ⟨_, exec_safeclr s n v hrun hcalm, safeclr_facts s n _ _ k hk rfl⟩
  case pair =>
    intro n v hcalm
    exact ⟨_, exec_pairWrite s n v hrun hcalm, pairWrite_facts s n v _ rfl⟩

end Sys2Proof.Proofs
end

section
/-! PROOF. What a program's instruction works on: the relation `OnChannel n s t`, how it composes, and the operations of the shape
sequencer that it holds of (R171 to R181). -/

namespace Sys2Proof.Machine

open Sys2Proof

/-! ### One channel -/

/-- From `s` to `t` nothing changes but registers, the clock, what the node remembers of its core clock, and the hidden part of
channel `n`. -/
structure OnChannel (n : Nat) (s t : State) : Prop where
  same : ∃ g v k c, t = { s with regs := g, valves := v, clk := k, core := c }
  valve : ∀ m, m ≠ n → t.valve m = s.valve m

section
variable {n : Nat} {s t u : State}

theorem OnChannel.refl (n : Nat) (s : State) : OnChannel n s s := ⟨⟨_, _, _, _, rfl⟩, fun _ _ => rfl⟩

theorem OnChannel.trans (h : OnChannel n s t) (g : OnChannel n t u) : OnChannel n s u := by
  obtain ⟨⟨_, _, _, _, rfl⟩, hvalve⟩ := h
  obtain ⟨⟨r, v, k, c, e⟩, hvalve'⟩ := g
  exact ⟨⟨r, v, k, c, e⟩, fun m hm => (hvalve' m hm).trans (hvalve m hm)⟩

theorem OnChannel.mem (h : OnChannel n s t) : t.mem = s.mem := by
  obtain ⟨⟨_, _, _, _, rfl⟩, -⟩ := h; rfl

theorem OnChannel.chk (h : OnChannel n s t) : t.chk = s.chk := by
  obtain ⟨⟨_, _, _, _, rfl⟩, -⟩ := h; rfl

theorem OnChannel.queues (h : OnChannel n s t) : t.queues = s.queues := by
  obtain ⟨⟨_, _, _, _, rfl⟩, -⟩ := h; rfl

theorem OnChannel.modValve (s : State) (n : Nat) (f : ValveSt → ValveSt) : OnChannel n s (s.modValve n f) :=
  ⟨⟨_, _, _, _, rfl⟩, fun m hm => (s.valve_modValve n m f).trans (if_neg hm)⟩

theorem OnChannel.setValve (s : State) (n : Nat) (x : ValveSt) : OnChannel n s (s.setValve n x) := .modValve s n fun _ => x

theorem OnChannel.setFld (n : Nat) (s : State) (f : Fld) (x : Nat) : OnChannel n s (s.setFld f x) :=
  ⟨⟨_, _, _, _, rfl⟩, fun _ _ => rfl⟩

theorem OnChannel.completed (n : Nat) (s : State) : OnChannel n s s.completed := ⟨⟨_, _, _, _, rfl⟩, fun _ _ => rfl⟩

theorem OnChannel.advCcTo (n : Nat) (s : State) (c : Nat) : OnChannel n s (s.advCcTo c) := by
  obtain ⟨r, k, e⟩ := s.advCcTo_same c
  rw [e]
  exact ⟨⟨_, _, _, _, rfl⟩, fun _ _ => rfl⟩

theorem Drives.onChannel (h : Drives [n] s t) : OnChannel n s t := by
  obtain ⟨⟨r, v, c, rfl⟩, hvalve, -⟩ := h
  exact ⟨⟨r, v, s.clk, c, rfl⟩, fun m hm => hvalve m (mt List.mem_singleton.1 hm)⟩

end

@[simp] theorem State.setFld_valve (s : State) (f : Fld) (x n : Nat) : (s.setFld f x).valve n = s.valve n := rfl
@[simp] theorem State.setFlag_valve (s : State) (f : Fld) (b : Bool) (n : Nat) : (s.setFlag f b).valve n = s.valve n := rfl

theorem State.valve_modValve_same (s : State) (n : Nat) (f : ValveSt → ValveSt) : (s.modValve n f).valve n = f (s.valve n) :=
  (s.valve_modValve n n f).trans (if_pos rfl)

theorem State.valve_setValve_same (s : State) (n : Nat) (x : ValveSt) : (s.setValve n x).valve n = x :=
  (s.valve_setValve n n x).trans (if_pos rfl)

theorem State.advCcTo_valve (s : State) (c n : Nat) : (s.advCcTo c).valve n = s.valve n := by
  obtain ⟨r, k, e⟩ := s.advCcTo_same c
  rw [e]; rfl

/-! ### Store words -/

theorem inShape_storeAddr {n w : Nat} (hn : n < 48) (hw : w < 1024) : inShape (storeAddr n w) = true := by
  rw [inShape, storeAddr, Bool.and_eq_true, decide_eq_true_eq, decide_eq_true_eq]
  omega

/-- A store word stands in memory and its check bits beside it. -/
theorem State.sramData_shape (s : State) {a : Nat} (h : inShape a = true) : s.sramData a = (s.memWord a, s.chkAt a) := by
  have hreg : sramReg a = false := sramReg_window (by simp [inWindow, h])
  have hevents : inEvents a = false := by
    simp only [inShape, inEvents, Bool.and_eq_true, decide_eq_true_eq, Bool.and_eq_false_iff, decide_eq_false_iff_not] at h ⊢
    omega
  rw [State.sramData, hevents, hreg]
  rfl

theorem State.seqPc_lt (s : State) (n : Nat) : s.fld (F.VDA_CHn_SEQ_PC n) < 1024 := s.fld_lt (F.VDA_CHn_SEQ_PC n)

/-- The word at the program counter. -/
def State.opWord (s : State) (n : Nat) : Word × Nat := s.sramData (storeAddr n (s.fld (F.VDA_CHn_SEQ_PC n)))

/-- What leaves the program counter and the stores leaves the word there. -/
theorem OnChannel.opWord {m n : Nat} {s t : State} (h : OnChannel m s t) (hn : n < 48)
    (hpc : t.fld (F.VDA_CHn_SEQ_PC n) = s.fld (F.VDA_CHn_SEQ_PC n)) : t.opWord n = s.opWord n := by
  have hshape := inShape_storeAddr hn (s.seqPc_lt n)
  rw [State.opWord, State.opWord, hpc, State.sramData_shape _ hshape, State.sramData_shape _ hshape]
  simp only [State.memWord, State.memByte, State.chkAt, h.mem, h.chk]

/-! ### Slots (R171) -/

theorem State.nextSlot_ge (s : State) (n : Nat) : s.clk.cc ≤ s.nextSlot n := by
  unfold State.nextSlot
  dsimp only
  split
  · exact (Nat.le_max_left ..).trans (Nat.le_add_right ..)
  · exact Nat.le_add_right ..

theorem slotFrom_ge (n c : Nat) : c ≤ slotFrom n c := Nat.le_add_right ..

/-- The slot is taken, and the instruction in it is counted. -/
def State.begun (s : State) (n : Nat) : State := (s.takeSlot n).modValve n (fun v => { v with icount := v.icount + 1 })

theorem State.takeSlot_onChannel (s : State) (n : Nat) : OnChannel n s (s.takeSlot n) := by
  unfold State.takeSlot
  exact (OnChannel.advCcTo n s _).trans (.modValve _ n _)

theorem State.begun_onChannel (s : State) (n : Nat) : OnChannel n s (s.begun n) :=
  (s.takeSlot_onChannel n).trans (.modValve _ n _)

theorem State.takeSlot_reg (s : State) (n : Nat) {i : Nat} (h : i ≠ 0x200) : (s.takeSlot n).reg i = s.reg i :=
  s.advCcTo_reg _ h

theorem State.begun_reg (s : State) (n : Nat) {i : Nat} (h : i ≠ 0x200) : (s.begun n).reg i = s.reg i := s.takeSlot_reg n h

theorem State.begun_fld (s : State) (n : Nat) {f : Fld} (h : 0x800 ≤ f.addr) : (s.begun n).fld f = s.fld f :=
  State.fld_of_reg f (s.begun_reg n (by omega))

theorem State.begun_flag (s : State) (n : Nat) {f : Fld} (h : 0x800 ≤ f.addr) : (s.begun n).flag f = s.flag f :=
  State.flag_of_fld f (s.begun_fld n h)

theorem State.begun_cc (s : State) (n : Nat) : (s.begun n).clk.cc = s.nextSlot n :=
  (s.advCcTo_cc _).trans (Nat.max_eq_right (s.nextSlot_ge n))

theorem State.takeSlot_valve (s : State) (n : Nat) :
    (s.takeSlot n).valve n = { s.valve n with slotAt := some (s.nextSlot n) } := by
  rw [State.takeSlot, State.valve_modValve_same, State.advCcTo_valve]

theorem State.begun_valve (s : State) (n : Nat) : (s.begun n).valve n =
    { s.valve n with slotAt := some (s.nextSlot n), icount := (s.valve n).icount + 1 } := by
  rw [State.begun, State.valve_modValve_same, State.takeSlot_valve]

theorem State.begun_pairKind (s : State) (n m : Nat) : (s.begun n).pairKind m = s.pairKind m := by
  rw [State.pairKind, State.pairKind, s.begun_fld n (by show 0x800 ≤ 0x880 + 8 * (m / 2 * 2); omega)]

theorem State.begun_isBridge (s : State) (n : Nat) : (s.begun n).isBridge n = s.isBridge n := by
  rw [State.isBridge, State.isBridge, State.begun_pairKind]

theorem State.begun_detRes (s : State) (n : Nat) : (s.begun n).detRes n = s.detRes n := by
  rw [State.detRes, State.detRes, s.begun_fld n (by show 0x800 ≤ 0xB00 + n; omega),
    s.begun_fld n (by show 0x800 ≤ 0x883 + 8 * n; omega), s.begun_fld n (by show 0x800 ≤ 0x883 + 8 * n; omega)]

/-! ### The program counter moves -/

/-- The program counter of channel `n` becomes `k`, with the opcode there shown. -/
def State.toPc (s : State) (n k : Nat) : State := (s.setFld (F.VDA_CHn_SEQ_PC n) k).showOp n

theorem State.toPc_pc (s : State) (n : Nat) {k : Nat} (hk : k < 1024) : (s.toPc n k).fld (F.VDA_CHn_SEQ_PC n) = k := by
  rw [State.toPc, State.showOp, State.fld_setFld_disj _ _ _ _ rfl (.inr (by decide : 29 < 30)), State.fld_setFld_same _ _ _ rfl]
  exact Nat.mod_eq_of_lt hk

/-- From `s` to `t` at most the program counter of channel `n` and the opcode shown with it have changed, and the event is noted. -/
structure PcMoved (n : Nat) (s t : State) : Prop where
  same : ∃ g c, t = { s with regs := g, core := c }
  reg : ∀ i, i ≠ 0xB00 + n → t.reg i = s.reg i
  fld : ∀ f : Fld, f.addr ≠ 0xB00 + n ∨ f.hi < 26 → t.fld f = s.fld f

/-- The event is noted, and nothing else changes. -/
structure EventNoted (s t : State) : Prop where
  same : ∃ c, t = { s with core := c }
  fld : ∀ f : Fld, t.fld f = s.fld f
  valve : ∀ m, t.valve m = s.valve m

theorem State.completed_eventNoted (s : State) : EventNoted s s.completed := ⟨⟨_, rfl⟩, fun _ => rfl, fun _ => rfl⟩

theorem EventNoted.flag {s t : State} (h : EventNoted s t) (f : Fld) : t.flag f = s.flag f := State.flag_of_fld f (h.fld f)

theorem EventNoted.onChannel {s t : State} (h : EventNoted s t) (n : Nat) : OnChannel n s t := by
  obtain ⟨⟨c, rfl⟩, -, -⟩ := h
  exact ⟨⟨_, _, _, _, rfl⟩, fun _ _ => rfl⟩

theorem PcMoved.refl (n : Nat) (s : State) : PcMoved n s s := ⟨⟨_, _, rfl⟩, fun _ _ => rfl, fun _ _ => rfl⟩

theorem State.toPc_moved (s : State) (n k : Nat) : PcMoved n s (s.toPc n k).completed where
  same := ⟨_, _, rfl⟩
  reg i hi := (State.reg_setFld_ne _ (F.VDA_CHn_SEQ_OP n) _ hi).trans (s.reg_setFld_ne (F.VDA_CHn_SEQ_PC n) k hi)
  fld f hf := by
    have hshow (u : State) {y : Fld} (v : Nat) (haddr : y.addr = 0xB00 + n) (hok : y.ok = true) (hlo : 26 ≤ y.lo) :
        (u.setFld y v).fld f = u.fld f :=
      hf.elim (fun h => u.fld_setFld_ne y f v (haddr ▸ h)) (fun h => u.fld_setFld_disj y f v hok (.inl (by omega)))
    exact (hshow _ (y := F.VDA_CHn_SEQ_OP n) _ rfl rfl (Nat.le_refl 26)).trans
      (hshow s (y := F.VDA_CHn_SEQ_PC n) k rfl rfl (by decide : 26 ≤ 30))

section
variable {n : Nat} {s t : State}

theorem PcMoved.flag (h : PcMoved n s t) {f : Fld} (hf : f.addr ≠ 0xB00 + n ∨ f.hi < 26) : t.flag f = s.flag f :=
  State.flag_of_fld f (h.fld f hf)

theorem PcMoved.valves (h : PcMoved n s t) : t.valves = s.valves := by
  obtain ⟨⟨_, _, rfl⟩, -, -⟩ := h; rfl

theorem PcMoved.valve (h : PcMoved n s t) (m : Nat) : t.valve m = s.valve m := by
  rw [State.valve, State.valve, h.valves]

theorem PcMoved.onChannel (h : PcMoved n s t) : OnChannel n s t := by
  obtain ⟨⟨r, c, rfl⟩, -, -⟩ := h
  exact ⟨⟨_, _, _, _, rfl⟩, fun _ _ => rfl⟩

theorem PcMoved.fastDecay (h : PcMoved n s t) : t.fastDecay n = s.fastDecay n := by
  rw [State.fastDecay, State.fastDecay, h.valve, h.flag (.inl (by show 0x880 + 8 * n ≠ 0xB00 + n; omega))]

end

end Sys2Proof.Machine
end

section
/-! PROOF. One instruction of a program (R174, R182): the slot, the checked word, and what the word's effect becomes within the 4,096
instructions of a run and past them. -/

namespace Sys2Proof.Machine

open Sys2Proof

/-- What an effect becomes as instruction `k` of its run: past 4,096 instructions one without a lower error is error 7 (R182). -/
def Effect.counted (k : Nat) : Effect → Effect
  | .err c => .err (if k > 4096 then min c 7 else c)
  | .go s => if k > 4096 then .err 7 else .go s
  | .fail c s => .fail (if k > 4096 then min c 7 else c) s

theorem Effect.counted_within {k : Nat} (h : k ≤ 4096) (e : Effect) : e.counted k = e := by
  have hk : ¬k > 4096 := by omega
  cases e <;> simp only [Effect.counted, if_neg hk]

theorem Effect.counted_err (k : Nat) {c : Nat} (h : c ≤ 7) : (Effect.err c).counted k = .err c := by
  rw [Effect.counted, Nat.min_eq_left h, ite_self]

theorem Effect.counted_fail (k : Nat) {c : Nat} (h : c ≤ 7) (s : State) : (Effect.fail c s).counted k = .fail c s := by
  rw [Effect.counted, Nat.min_eq_left h, ite_self]

theorem Effect.counted_over {k : Nat} (h : 4096 < k) (s : State) : (Effect.go s).counted k = .err 7 := if_pos h

theorem Effect.settle_err (n : Nat) (s : State) (c : Nat) : (Effect.err c).settle n s = s.progError n c := rfl
theorem Effect.settle_go (n : Nat) (s t : State) : (Effect.go t).settle n s = t := rfl
theorem Effect.settle_fail (n : Nat) (s : State) (c : Nat) (t : State) : (Effect.fail c t).settle n s = t.progError n c := rfl

/-- A program is ready at a word that passes its check and whose opcode is of the class `is`. -/
structure Executes (s : State) (n : Nat) (is : Nat → Bool) : Prop where
  chan : n < 48
  ready : s.ready n = true
  clean : s.opBad n = false
  opcode : is (s.opAt n) = true

section
variable {s : State} {n : Nat} {is : Nat → Bool} {f : State → Word → Effect}

theorem State.ready_iff (s : State) (n : Nat) : s.ready n = true ↔
    s.running n = true ∧ (s.valve n).wait = none ∧ (s.valve n).revFrom = none ∧ (s.valve n).holding = false := by
  simp only [State.ready, Bool.and_eq_true, Option.isNone_iff_eq_none, Bool.not_eq_true', and_assoc]

/-- The word at the program counter, in its slot. -/
theorem State.takeSlot_opWord (s : State) {n : Nat} (hn : n < 48) : (s.takeSlot n).opWord n = s.opWord n :=
  (s.takeSlot_onChannel n).opWord hn (State.fld_of_reg _ (s.takeSlot_reg n (by show 0xB00 + n ≠ 0x200; omega)))

/-- An instruction that executes has its effect in its slot. -/
theorem Executes.instr (h : Executes s n is) (f : State → Word → Effect) : s.instr n is f =
    (((f (s.begun n) (s.opWord n).1).counted ((s.valve n).icount + 1)).settle n (s.begun n)).completed := by
  have hword := s.takeSlot_opWord h.chan
  have hclean : ((s.takeSlot n).opWord n).2 = 0 := by
    rw [hword]
    exact bne_eq_false_iff_eq.1 h.clean
  have hread := State.sramRead_clean _ reqSeq hclean
  have hcount : ((s.takeSlot n).valve n).icount = (s.valve n).icount := by rw [State.takeSlot_valve]
  have hbegun : (s.takeSlot n).modValve n (fun v => { v with icount := (s.valve n).icount + 1 }) = s.begun n := by
    rw [State.begun, State.modValve, State.modValve, hcount]
  have hruns : (s.ready n && (is (s.opAt n) || s.opBad n)) = true := by rw [h.ready, h.opcode]; rfl
  unfold State.instr
  rw [if_pos hruns]
  dsimp only
  rw [hread]
  dsimp only
  rw [hcount, hbegun, ← State.opWord, hword, if_neg Bool.false_ne_true]
  cases f (s.begun n) (s.opWord n).1 <;> rfl

/-- An error up to 7 is the error of its instruction, whatever the count of the run (R182). -/
theorem Executes.err (h : Executes s n is) {c : Nat} (hc : c ≤ 7) (hf : f (s.begun n) (s.opWord n).1 = .err c) :
    s.instr n is f = ((s.begun n).progError n c).completed := by
  rw [h.instr, hf, Effect.counted_err _ hc, Effect.settle_err]

theorem Executes.fail (h : Executes s n is) {c : Nat} {t : State} (hc : c ≤ 7)
    (hf : f (s.begun n) (s.opWord n).1 = .fail c t) : s.instr n is f = (t.progError n c).completed := by
  rw [h.instr, hf, Effect.counted_fail _ hc, Effect.settle_fail]

/-- Past the 4,096 instructions of a run what would have its effect is error 7. -/
theorem Executes.over (h : Executes s n is) {t : State} (hcount : 4096 ≤ (s.valve n).icount)
    (hf : f (s.begun n) (s.opWord n).1 = .go t) : s.instr n is f = ((s.begun n).progError n 7).completed := by
  rw [h.instr, hf, Effect.counted_over (Nat.lt_succ_of_le hcount), Effect.settle_err]

/-- Within the 4,096 instructions of a run the effect is the word's own. -/
theorem Executes.within (h : Executes s n is) (hcount : (s.valve n).icount < 4096) (f : State → Word → Effect) :
    s.instr n is f = ((f (s.begun n) (s.opWord n).1).settle n (s.begun n)).completed := by
  rw [h.instr, Effect.counted_within (Nat.succ_le_of_lt hcount)]

theorem State.pcNext_go (s : State) (n : Nat) (h : s.fld (F.VDA_CHn_SEQ_PC n) < 1023) :
    s.pcNext n = .go (s.toPc n (s.fld (F.VDA_CHn_SEQ_PC n) + 1)) := if_neg (by omega)

theorem State.pcNext_fail (s : State) (n : Nat) (h : 1023 ≤ s.fld (F.VDA_CHn_SEQ_PC n)) : s.pcNext n = .fail 6 s := if_pos h

theorem State.goOn_next (s : State) (n : Nat) (h : s.fld (F.VDA_CHn_SEQ_PC n) < 1023) :
    s.goOn n = (s.toPc n (s.fld (F.VDA_CHn_SEQ_PC n) + 1)).completed := by
  rw [State.goOn, State.pcNext_go _ _ h, Effect.settle_go]

theorem State.goOn_last (s : State) (n : Nat) (h : 1023 ≤ s.fld (F.VDA_CHn_SEQ_PC n)) :
    s.goOn n = (s.progError n 6).completed := by
  rw [State.goOn, State.pcNext_fail _ _ h, Effect.settle_fail]

/-- After an effect the program counter advances, or the effect is followed by error 6. -/
theorem State.goOn_cases (s : State) {n pc : Nat} (hpc : s.fld (F.VDA_CHn_SEQ_PC n) = pc) :
    ∃ t, PcMoved n s t ∧ (pc < 1023 → s.goOn n = t ∧ t.fld (F.VDA_CHn_SEQ_PC n) = pc + 1) ∧
      (1023 ≤ pc → s.goOn n = (t.progError n 6).completed) := by
  subst hpc
  by_cases h : s.fld (F.VDA_CHn_SEQ_PC n) < 1023
  · exact ⟨_, s.toPc_moved n _, fun _ => ⟨s.goOn_next n h, (State.completed_fld ..).trans (s.toPc_pc n (by omega))⟩,
      fun hlast => absurd h (by omega)⟩
  · exact ⟨s, .refl n s, fun hlt => absurd hlt h, s.goOn_last n⟩

/-- An instruction whose effect leaves `t` and advances. -/
theorem Executes.advances (h : Executes s n is) {t : State} (hcount : (s.valve n).icount < 4096)
    (hf : f (s.begun n) (s.opWord n).1 = t.pcNext n) : s.instr n is f = t.goOn n := by
  rw [h.within hcount, hf]
  by_cases hpc : t.fld (F.VDA_CHn_SEQ_PC n) < 1023
  · rw [State.goOn_next _ _ hpc, State.pcNext_go _ _ hpc, Effect.settle_go]
  · rw [State.goOn_last _ _ (by omega), State.pcNext_fail _ _ (by omega), Effect.settle_fail]

theorem Executes.go (h : Executes s n is) {t : State} (hcount : (s.valve n).icount < 4096)
    (hf : f (s.begun n) (s.opWord n).1 = .go t) : s.instr n is f = t.completed := by
  rw [h.within hcount, hf, Effect.settle_go]

end

end Sys2Proof.Machine
end

section
/-! PROOF. BRANCH_INSTRUCTION (O40; R180, Table 7-4). -/

namespace Sys2Proof.Machine

open Sys2Proof

/-- The condition `c` of Table 7-4 holds. -/
def State.BranchHolds (s : State) (n c : Nat) : Prop :=
  c = 0 ∨ (c = 1 ∧ s.flag (F.VDA_CHn_SEQ_WMET n) = true) ∨ (c = 2 ∧ s.flag (F.VDA_CHn_SEQ_WMET n) = false) ∨
    (c = 3 ∧ s.detRes n = 1) ∨ (c = 4 ∧ s.detRes n = 2) ∨ (c = 5 ∧ s.detRes n = 3) ∨ (c = 6 ∧ s.detRes n = 0)

theorem State.begun_branchHolds (s : State) (n c : Nat) : (s.begun n).BranchHolds n c ↔ s.BranchHolds n c := by
  rw [State.BranchHolds, State.BranchHolds, State.begun_detRes, s.begun_flag n (by show 0x800 ≤ 0xB00 + n; omega)]

theorem State.branchEffect_reserved (s : State) (n : Nat) (w : Word) (h : 7 ≤ bitsOf w.toNat 35 32) :
    s.branchEffect n w = .err 2 := if_pos h

theorem State.branchEffect_low (s : State) (n : Nat) (w : Word) (hc : bitsOf w.toNat 35 32 < 7) (hk : bitsOf w.toNat 9 0 < 64) :
    s.branchEffect n w = .err 5 := (if_neg (Nat.not_le.2 hc)).trans (if_pos hk)

/-- A BRANCH without an error goes to TARGET when its condition holds. -/
theorem State.branchEffect_taken (s : State) (n : Nat) (w : Word) (hc : bitsOf w.toNat 35 32 < 7) (hk : 64 ≤ bitsOf w.toNat 9 0)
    (h : s.BranchHolds n (bitsOf w.toNat 35 32)) : s.branchEffect n w = .go (s.toPc n (bitsOf w.toNat 9 0)) := by
  unfold State.branchEffect
  dsimp only
  rw [if_neg (Nat.not_le.2 hc), if_neg (Nat.not_lt.2 hk), if_pos]
  · rfl
  · simpa [State.BranchHolds, or_assoc] using h

/-- A BRANCH without an error advances when its condition does not hold. -/
theorem State.branchEffect_passed (s : State) (n : Nat) (w : Word) (hc : bitsOf w.toNat 35 32 < 7) (hk : 64 ≤ bitsOf w.toNat 9 0)
    (h : ¬s.BranchHolds n (bitsOf w.toNat 35 32)) : s.branchEffect n w = s.pcNext n := by
  unfold State.branchEffect
  dsimp only
  rw [if_neg (Nat.not_le.2 hc), if_neg (Nat.not_lt.2 hk), if_neg]
  simpa [State.BranchHolds, or_assoc] using h

end Sys2Proof.Machine

namespace Sys2Proof.Proofs

open Sys2Proof Sys2Proof.Machine

theorem exec_branchInstruction (s : State) (n : Fin 48) (hrun : s.boot.halted = false) :
    exec (.branchInstruction n) s = .next (s.instr n (· == 6) (fun s w => s.branchEffect n w)) := by
  show execBranchInstruction n s = _
  exact s.clocked_running _ hrun

/-- Settles O40: the effect of a BRANCH by its condition (`branchEffect_taken`, `branchEffect_passed`) and its errors, in the slot
that the instruction takes (`Executes.instr`). -/
theorem branchLoadsTheTarget : Obligations.BranchLoadsTheTarget := by
  unfold Obligations.BranchLoadsTheTarget
  rintro s u n w c k pc hrun hready hclean hop rfl rfl rfl rfl rfl
  have hexec := exec_branchInstruction s n hrun
  have hex : Executes s n (· == 6) := ⟨n.isLt, hready, hclean, by rw [hop]; rfl⟩
  have hseq : 0x800 ≤ 0xB00 + n.val := by omega
  have hpc : (s.begun n).fld (F.VDA_CHn_SEQ_PC n) = s.fld (F.VDA_CHn_SEQ_PC n) := s.begun_fld n hseq
  refine ⟨?reserved, ?low, fun hc hk yes hyes => ?judged⟩
  case reserved =>
    intro hc
    rw [hexec, hex.err (by decide) (State.branchEffect_reserved _ n _ hc)]
    rfl
  case low =>
    intro hc hk
    rw [hexec, hex.err (by decide) (State.branchEffect_low _ n _ hc hk)]
    rfl
  have hholds : yes ↔ (s.begun n).BranchHolds n (bitsOf (s.opWord n).1.toNat 35 32) := hyes.trans (s.begun_branchHolds n _).symm
  have htaken (h : yes) := State.branchEffect_taken _ n _ hc hk (hholds.1 h)
  have hpassed (h : ¬yes) := State.branchEffect_passed _ n _ hc hk (mt hholds.2 h)
  have hnext (hgoes : yes ∨ s.fld (F.VDA_CHn_SEQ_PC n) < 1023) : ∃ x, x < 1024 ∧ (yes → x = bitsOf (s.opWord n).1.toNat 9 0) ∧
      (¬yes → x = s.fld (F.VDA_CHn_SEQ_PC n) + 1) ∧
      (s.begun n).branchEffect n (s.opWord n).1 = .go ((s.begun n).toPc n x) := by
    by_cases h : yes
    · exact ⟨_, Nat.mod_lt _ (by decide), fun _ => rfl, fun hno => absurd h hno, htaken h⟩
    · have hlt := hgoes.resolve_left h
      exact ⟨_, by omega, fun hyes => absurd hyes h, fun _ => congrArg (· + 1) hpc,
        (hpassed h).trans (State.pcNext_go _ _ (hpc ▸ hlt))⟩
  refine ⟨fun hno hlast => ?last, fun hgoes hcount => ?beyond, fun hgoes hcount => ?goes⟩
  case last =>
    rw [hexec, hex.fail (by decide) ((hpassed hno).trans (State.pcNext_fail _ _ (by omega)))]
    rfl
  case beyond =>
    obtain ⟨x, -, -, -, hgo⟩ := hnext hgoes
    rw [hexec, hex.over hcount hgo]
    rfl
  case goes =>
    obtain ⟨x, hx, htarget, hadvance, hgo⟩ := hnext hgoes
    have hmoved := (s.begun n).toPc_moved n x
    have hon := (s.begun_onChannel n).trans hmoved.onChannel
    have hshown : ((s.begun n).toPc n x).completed.fld (F.VDA_CHn_SEQ_PC n) = x :=
      (State.completed_fld ..).trans (State.toPc_pc _ n hx)
    refine ⟨_, hexec.trans (congrArg _ (hex.go hcount hgo)), fun h => hshown.trans (htarget h),
      fun h => hshown.trans (hadvance h), fun i htime hi => ?_, hmoved.valves, hon.mem, hon.queues, ?_, ?_⟩
    · exact (hmoved.reg i hi).trans (s.begun_reg n htime)
    · exact (hmoved.fld _ (.inr (by decide : 15 < 26))).trans (s.begun_fld n hseq)
    · exact (hmoved.flag (.inr (by decide : 16 < 26))).trans ((s.begun_flag n hseq).trans ((s.ready_iff n).1 hready).1)

end Sys2Proof.Proofs
end

section
/-! PROOF. DRIVE and HOLD (R155, R173, R175, R176): what they leave in the hidden part of the channel, and what they show. -/

namespace Sys2Proof.Machine

open Sys2Proof

/-! ### A masked period -/

/-- From `v` to `w` nothing changes but what the detections and the measurement hold, and none ends. -/
def Masked (v w : ValveSt) : Prop :=
  ∃ o c m, w = { v with odet := o, cdet := c, meas := m } ∧ o.isSome = v.odet.isSome ∧ m.isSome = v.meas.isSome

theorem State.maskPeriod_valve (s : State) (n c0 c1 : Nat) : Masked (s.valve n) ((s.maskPeriod n c0 c1).valve n) := by
  unfold State.maskPeriod
  dsimp only
  rw [State.valve_modValve_same]
  exact ⟨_, _, _, rfl, Option.isSome_map .., Option.isSome_map ..⟩

theorem State.setDuty_valve (s : State) (n c0 c1 : Nat) : Masked (s.valve n) ((s.setDuty n c0 c1).valve n) :=
  State.maskPeriod_valve _ n c0 c1

theorem State.maskPeriod_onChannel (s : State) (n c0 c1 : Nat) : OnChannel n s (s.maskPeriod n c0 c1) := by
  unfold State.maskPeriod
  exact .modValve s n _

theorem State.setDuty_onChannel (s : State) (n c0 c1 : Nat) : OnChannel n s (s.setDuty n c0 c1) :=
  (OnChannel.setFld n s _ _).trans (State.maskPeriod_onChannel _ n c0 c1)

theorem State.setDuty_fld (s : State) (n c0 c1 : Nat) {f : Fld} (h : f.addr ≠ 0x884 + 8 * n) :
    (s.setDuty n c0 c1).fld f = s.fld f := s.fld_setFld_ne (F.VDA_CHn_CUR_DUTY n) f _ h

theorem State.dutyFor_le (s : State) (n : Nat) : s.dutyFor n ≤ 1024 := by
  unfold State.dutyFor clampI
  dsimp only
  split
  · decide
  · split <;> omega

/-- The duty that is set is at most 1,024 (R152). -/
theorem State.setDuty_duty (s : State) (n c0 c1 : Nat) : (s.setDuty n c0 c1).fld (F.VDA_CHn_CUR_DUTY n) ≤ 1024 := by
  refine (s.fld_setFld_same (F.VDA_CHn_CUR_DUTY n) _ rfl).trans_le ((Nat.mod_le _ _).trans ?_)
  split
  · decide
  · exact s.dutyFor_le n

theorem State.showTgt_fld (s : State) (n : Nat) {f : Fld} (h : f.addr ≠ 0xB00 + n ∨ 13 < f.lo) :
    (s.showTgt n).fld f = s.fld f :=
  h.elim (s.fld_setFld_ne (F.VDA_CHn_SEQ_TGT n) f _) fun hlo => s.fld_setFld_disj (F.VDA_CHn_SEQ_TGT n) f _ rfl (.inr hlo)

theorem State.showTgt_onChannel (s : State) (n : Nat) : OnChannel n s (s.showTgt n) := .setFld n s _ _

/-! ### The first DRIVE (R173) -/

/-- From `v` to `w` nothing changes but the detections, the measurement and the credit. -/
def Detects (v w : ValveSt) : Prop :=
  ∃ o c m cr un, w = { v with odet := o, cdet := c, meas := m, credits := cr, unknown := un }

/-- The program of channel `n` first drives now. -/
def State.noteDrive (s : State) (n : Nat) : State := s.modValve n (fun v => { v with driven := some s.clk.cc })

/-- A measurement still pending from an earlier pull-in was not valid, which counts in RSKIP. -/
def State.noteSkip (s : State) (n : Nat) : State := if (s.valve n).meas.isSome then s.inc (F.VDA_CHn_RW_RSKIP n) else s

/-- The pull-in of an open program starts: its measurement, and its detection where OPDET enables it. -/
def State.startPullIn (s : State) (n : Nat) : State :=
  let t := (s.noteSkip n).modValve n (fun v => { v with meas := some { start := s.clk.cc } })
  if t.flag (F.VDA_CHn_DET_OPDET n) then t.modValve n (fun v => { v with odet := some { start := s.clk.cc, peak := true } })
  else t

/-- The close of another program starts: its detection, or its close edge at the used latency. -/
def State.startClosing (s : State) (n : Nat) : State :=
  let t := s.creditHold n s.clk.cc
  if t.flag (F.VDA_CHn_DET_CLDET n) then
    t.modValve n (fun v => { v with cdet := some { start := s.clk.cc, peak := t.isBridge n } })
  else if (t.valve n).unknown then t
  else t.creditClose n (s.clk.cc + t.closeLatCc n false) true

theorem State.firstDrive_eq (s : State) (n : Nat) : s.firstDrive n =
    if (s.valve n).driven.isSome then s
    else if s.fld (F.VDA_CHn_SEQ_KIND n) = kOpen then (s.noteDrive n).startPullIn n
    else (s.noteDrive n).startClosing n := rfl

theorem State.noteSkip_fld (s : State) (n : Nat) {f : Fld} (h : f.addr ≠ 0xC03 + 4 * n) : (s.noteSkip n).fld f = s.fld f := by
  unfold State.noteSkip
  split
  · exact State.fld_of_reg f (s.inc_reg (F.VDA_CHn_RW_RSKIP n) h)
  · rfl

theorem State.noteSkip_valve (s : State) (n : Nat) : (s.noteSkip n).valve n = s.valve n := by
  unfold State.noteSkip
  split <;> rfl

theorem State.noteSkip_onChannel (s : State) (n : Nat) : OnChannel n s (s.noteSkip n) := by
  unfold State.noteSkip
  split
  · exact .setFld n s _ _
  · exact .refl n s

theorem State.startPullIn_fld (s : State) (n : Nat) {f : Fld} (h : f.addr ≠ 0xC03 + 4 * n) :
    (s.startPullIn n).fld f = s.fld f := by
  unfold State.startPullIn
  dsimp only
  split <;> exact s.noteSkip_fld n h

theorem State.startPullIn_onChannel (s : State) (n : Nat) : OnChannel n s (s.startPullIn n) := by
  have hmeas := (s.noteSkip_onChannel n).trans (.modValve _ n fun v => { v with meas := some { start := s.clk.cc } })
  unfold State.startPullIn
  dsimp only
  split
  · exact hmeas.trans (.modValve _ n _)
  · exact hmeas

theorem State.startPullIn_valve (s : State) (n : Nat) : Detects (s.valve n) ((s.startPullIn n).valve n) ∧
    ((s.startPullIn n).valve n).meas.isSome = true ∧
    (s.flag (F.VDA_CHn_DET_OPDET n) = true → ((s.startPullIn n).valve n).odet.isSome = true) := by
  have hopdet := State.flag_of_fld (F.VDA_CHn_DET_OPDET n)
    (s.noteSkip_fld n (f := F.VDA_CHn_DET_OPDET n) (by show 0x882 + 8 * n ≠ 0xC03 + 4 * n; omega))
  unfold State.startPullIn
  dsimp only
  rw [State.modValve_flag, hopdet]
  split
  · rw [State.valve_modValve_same, State.valve_modValve_same, State.noteSkip_valve]
    exact ⟨⟨_, _, _, _, _, rfl⟩, rfl, fun _ => rfl⟩
  · next hoff =>
    rw [State.valve_modValve_same, State.noteSkip_valve]
    exact ⟨⟨_, _, _, _, _, rfl⟩, rfl, fun h => absurd h hoff⟩

theorem State.startClosing_onChannel (s : State) (n : Nat) : OnChannel n s (s.startClosing n) := by
  have hhold : OnChannel n s (s.creditHold n s.clk.cc) := .modValve s n _
  unfold State.startClosing
  dsimp only
  split
  · exact hhold.trans (.modValve _ n _)
  · split
    · exact hhold
    · exact hhold.trans (.modValve _ n _)

theorem State.startClosing_fld (s : State) (n : Nat) (f : Fld) : (s.startClosing n).fld f = s.fld f := by
  unfold State.startClosing
  dsimp only
  split
  · rfl
  · split <;> rfl

theorem State.startClosing_valve (s : State) (n : Nat) : Detects (s.valve n) ((s.startClosing n).valve n) := by
  unfold State.startClosing State.creditHold State.creditClose
  dsimp only
  split
  · rw [State.valve_modValve_same, State.valve_modValve_same]
    exact ⟨_, _, _, _, _, rfl⟩
  · split
    · rw [State.valve_modValve_same]
      exact ⟨_, _, _, _, _, rfl⟩
    · rw [State.valve_modValve_same, State.valve_modValve_same]
      exact ⟨_, _, _, _, _, rfl⟩

theorem State.firstDrive_fld (s : State) (n : Nat) {f : Fld} (h : f.addr ≠ 0xC03 + 4 * n) : (s.firstDrive n).fld f = s.fld f := by
  rw [State.firstDrive_eq]
  split
  · rfl
  · split
    · exact State.startPullIn_fld (s.noteDrive n) n h
    · exact (s.noteDrive n).startClosing_fld n f

theorem State.firstDrive_onChannel (s : State) (n : Nat) : OnChannel n s (s.firstDrive n) := by
  have hnote : OnChannel n s (s.noteDrive n) := .modValve s n _
  rw [State.firstDrive_eq]
  split
  · exact .refl n s
  · split
    · exact hnote.trans (State.startPullIn_onChannel _ n)
    · exact hnote.trans (State.startClosing_onChannel _ n)

theorem State.noteDrive_valve (s : State) (n : Nat) (h : (s.valve n).driven = none) :
    (s.noteDrive n).valve n = { s.valve n with driven := some ((s.valve n).driven.getD s.clk.cc) } := by
  rw [State.noteDrive, State.valve_modValve_same, h]
  rfl

/-- The first DRIVE notes when the program drove first; in an open program the measurement and the enabled detection begin. -/
theorem State.firstDrive_valve (s : State) (n : Nat) :
    Detects { s.valve n with driven := some ((s.valve n).driven.getD s.clk.cc) } ((s.firstDrive n).valve n) ∧
    (s.fld (F.VDA_CHn_SEQ_KIND n) = kOpen → (s.valve n).driven = none →
      ((s.firstDrive n).valve n).meas.isSome = true ∧
      (s.flag (F.VDA_CHn_DET_OPDET n) = true → ((s.firstDrive n).valve n).odet.isSome = true)) := by
  rw [State.firstDrive_eq]
  split
  · next hdriven =>
    obtain ⟨c, hc⟩ := Option.isSome_iff_exists.1 hdriven
    refine ⟨⟨(s.valve n).odet, (s.valve n).cdet, (s.valve n).meas, (s.valve n).credits, (s.valve n).unknown, ?_⟩,
      fun _ hnone => absurd hdriven (by rw [hnone]; exact Bool.false_ne_true)⟩
    rw [show some ((s.valve n).driven.getD s.clk.cc) = (s.valve n).driven by rw [hc]; rfl]
  · next hdriven =>
    have hnone := Option.not_isSome_iff_eq_none.1 hdriven
    rw [← s.noteDrive_valve n hnone]
    split
    · have hstart := (s.noteDrive n).startPullIn_valve n
      exact ⟨hstart.1, fun _ _ => hstart.2⟩
    · next hkind => exact ⟨State.startClosing_valve _ n, fun hopen => absurd hopen hkind⟩

/-! ### The peak budget (R155) -/

/-- The target of a DRIVE to `goal` mA: held at the continuous rating while a limit is in force. -/
def State.limitedTo (s : State) (n : Nat) (l : Bool) (goal : Nat) : Int :=
  if l then min ((s.contRating n : Int) * 1000) (goal * 1000) else goal * 1000

/-- The peak budget changes whether a limit is in force, the target and what it counts, and may count in PEAKCUT; a target that a
DRIVE has set is held at the rating while a limit is in force. -/
theorem State.judgePeak_cases (s : State) (n : Nat) : ∃ l i sp tr v,
    v = { s.valve n with limited := l, it := i, spent := sp, tripped := tr } ∧
    (s.judgePeak n = s.setValve n v ∨ s.judgePeak n = (s.setValve n v).inc (F.VDA_CHn_STAT_PEAKCUT n)) ∧
    ((s.valve n).it = (s.valve n).goal * 1000 → i = s.limitedTo n l (s.valve n).goal) := by
  unfold State.judgePeak
  extract_lets v r above trip rested w
  split
  · refine ⟨above, _, _, _, _, rfl, .inl rfl, fun hit => ?_⟩
    show (if above then min r (s.valve n).it else (s.valve n).it) = _
    rw [hit]; rfl
  · next hlimited =>
    have hfree : w.limited = false := Bool.not_eq_true _ ▸ hlimited
    split
    · refine ⟨above, _, _, _, _, rfl, .inr rfl, fun hit => ?_⟩
      show min r (s.valve n).it = if above then min r _ else _
      rw [hit]
      split
      · rfl
      · next hbelow => exact min_eq_right (not_lt.1 (of_decide_eq_false (Bool.not_eq_true _ ▸ hbelow)))
    · exact ⟨_, _, _, _, w, rfl, .inl rfl, fun hit => hit.trans (if_neg hlimited).symm⟩

theorem State.judgePeak_onChannel (s : State) (n : Nat) : OnChannel n s (s.judgePeak n) := by
  obtain ⟨l, i, sp, tr, v, -, h | h, -⟩ := s.judgePeak_cases n
  · rw [h]; exact .setValve s n v
  · rw [h]; exact (OnChannel.setValve s n v).trans (.setFld n _ _ _)

theorem State.judgePeak_fld (s : State) (n : Nat) {f : Fld} (h : f.addr ≠ 0x885 + 8 * n) : (s.judgePeak n).fld f = s.fld f := by
  obtain ⟨l, i, sp, tr, v, -, he | he, -⟩ := s.judgePeak_cases n
  · rw [he]; rfl
  · rw [he]; exact State.fld_of_reg f (State.inc_reg _ (F.VDA_CHn_STAT_PEAKCUT n) h)

theorem State.judgePeak_valve (s : State) (n : Nat) (hit : (s.valve n).it = (s.valve n).goal * 1000) :
    ∃ l sp tr, (s.judgePeak n).valve n = { s.valve n with
      limited := l, it := s.limitedTo n l (s.valve n).goal, spent := sp, tripped := tr } := by
  obtain ⟨l, i, sp, tr, v, rfl, he | he, hlim⟩ := s.judgePeak_cases n
  · rw [he, State.valve_setValve_same, hlim hit]
    exact ⟨_, _, _, rfl⟩
  · rw [he]
    refine ⟨l, sp, tr, (State.valve_setValve_same s n _).trans ?_⟩
    rw [hlim hit]

/-! ### DRIVE (R175) -/

/-- DRIVE to `tgt` mA at `ramp` mA/ms sets the channel's target. -/
def State.retarget (s : State) (n tgt ramp : Nat) : State :=
  s.modValve n (fun v =>
    if ramp = 0 then { v with s := 0, it := tgt * 1000, goal := tgt, ramp := 0 }
    else { v with s := 0, goal := tgt, ramp := ramp })

/-- What a DRIVE does with the rest of the period: without a ramp its duty follows the new target. -/
def State.restOfPeriod (s : State) (n ramp : Nat) : State :=
  if ramp = 0 then (s.judgePeak n).setDuty n s.clk.cc (frameCc (s.nextEdge n)) else s.maskPeriod n s.clk.cc (frameCc (s.nextEdge n))

/-- The effect of DRIVE before the program counter advances. -/
def State.afterDrive (s : State) (n : Nat) (w : Word) : State :=
  (((s.firstDrive n).retarget n (min (bitsOf w.toNat 15 0) (s.pulseRating n)) (bitsOf w.toNat 31 16)).restOfPeriod n
    (bitsOf w.toNat 31 16)).showTgt n

theorem State.driveEffect_eq (s : State) (n : Nat) (w : Word) : s.driveEffect n w = (s.afterDrive n w).pcNext n := rfl

theorem State.restOfPeriod_onChannel (s : State) (n ramp : Nat) : OnChannel n s (s.restOfPeriod n ramp) := by
  unfold State.restOfPeriod
  split
  · exact (s.judgePeak_onChannel n).trans (State.setDuty_onChannel _ n _ _)
  · exact s.maskPeriod_onChannel n _ _

theorem State.restOfPeriod_fld (s : State) (n ramp : Nat) {f : Fld} (hcur : f.addr ≠ 0x884 + 8 * n) (hstat : f.addr ≠ 0x885 + 8 * n) :
    (s.restOfPeriod n ramp).fld f = s.fld f := by
  unfold State.restOfPeriod
  split
  · exact (State.setDuty_fld _ n _ _ hcur).trans (s.judgePeak_fld n hstat)
  · rfl

theorem State.afterDrive_onChannel (s : State) (n : Nat) (w : Word) : OnChannel n s (s.afterDrive n w) :=
  ((s.firstDrive_onChannel n).trans (.modValve _ n _)).trans
    ((State.restOfPeriod_onChannel _ n _).trans (State.showTgt_onChannel _ n))

theorem State.afterDrive_pc (s : State) (n : Nat) (w : Word) :
    (s.afterDrive n w).fld (F.VDA_CHn_SEQ_PC n) = s.fld (F.VDA_CHn_SEQ_PC n) := by
  refine ((State.showTgt_fld _ n (.inr (by decide : 13 < 30))).trans (State.restOfPeriod_fld _ n _ ?_ ?_)).trans
    (s.firstDrive_fld n ?_)
  · show 0xB00 + n ≠ 0x884 + 8 * n; omega
  · show 0xB00 + n ≠ 0x885 + 8 * n; omega
  · show 0xB00 + n ≠ 0xC03 + 4 * n; omega

theorem State.contRating_congr {s t : State} {n : Nat}
    (h : t.fld (F.VDA_CHn_CFG_PAIR (n / 2 * 2)) = s.fld (F.VDA_CHn_CFG_PAIR (n / 2 * 2))) : t.contRating n = s.contRating n := by
  rw [State.contRating, State.contRating, State.pairKind, State.pairKind, h]

/-- The rest of the period changes what the detections and the measurement hold, and without a ramp the peak budget. -/
theorem State.restOfPeriod_valve (s : State) (n ramp : Nat) (hit : ramp = 0 → (s.valve n).it = (s.valve n).goal * 1000) :
    ∃ l sp tr, Masked { s.valve n with
      limited := l, it := if ramp = 0 then s.limitedTo n l (s.valve n).goal else (s.valve n).it, spent := sp, tripped := tr }
        ((s.restOfPeriod n ramp).valve n) := by
  unfold State.restOfPeriod
  split
  · next hramp =>
    obtain ⟨l, sp, tr, hv⟩ := s.judgePeak_valve n (hit hramp)
    exact ⟨l, sp, tr, hv ▸ State.setDuty_valve _ n _ _⟩
  · exact ⟨(s.valve n).limited, (s.valve n).spent, (s.valve n).tripped, s.maskPeriod_valve n _ _⟩

/-- What a DRIVE to `tgt` mA at `slope` mA/ms leaves in the hidden part `w` of a channel that had `v`, at core clock `cc` and with
the continuous rating `r`. -/
structure Drove (tgt slope cc r : Nat) (v w : ValveSt) : Prop where
  driven : w.driven = some (v.driven.getD cc)
  integrator : w.s = 0
  goal : w.goal = tgt
  ramp : w.ramp = slope
  target : w.it = if slope = 0 then (if w.limited then min ((r : Int) * 1000) (w.goal * 1000) else w.goal * 1000) else v.it

theorem State.retarget_valve (s : State) (n tgt ramp : Nat) : (s.retarget n tgt ramp).valve n =
    { s.valve n with s := 0, it := if ramp = 0 then (tgt : Int) * 1000 else (s.valve n).it, goal := tgt, ramp := ramp } := by
  rw [State.retarget, State.valve_modValve_same]
  split
  · next h => rw [h]
  · rfl

theorem State.afterDrive_valve (s : State) (n : Nat) (w : Word) :
    Drove (min (bitsOf w.toNat 15 0) (s.pulseRating n)) (bitsOf w.toNat 31 16) s.clk.cc (s.contRating n) (s.valve n)
        ((s.afterDrive n w).valve n) ∧
      (s.fld (F.VDA_CHn_SEQ_KIND n) = kOpen → (s.valve n).driven = none → ((s.afterDrive n w).valve n).meas.isSome = true ∧
        (s.flag (F.VDA_CHn_DET_OPDET n) = true → ((s.afterDrive n w).valve n).odet.isSome = true)) := by
  obtain ⟨⟨o, c, m, cr, un, hfirst⟩, hstart⟩ := s.firstDrive_valve n
  have hgoal := (s.firstDrive n).retarget_valve n (min (bitsOf w.toNat 15 0) (s.pulseRating n)) (bitsOf w.toNat 31 16)
  obtain ⟨l, sp, tr, o', c', m', hrest, ho, hm⟩ := State.restOfPeriod_valve _ n (bitsOf w.toNat 31 16)
    (fun hramp => by rw [hgoal]; exact if_pos hramp)
  have hrating : ((s.firstDrive n).retarget n (min (bitsOf w.toNat 15 0) (s.pulseRating n)) (bitsOf w.toNat 31 16)).contRating n =
      s.contRating n := State.contRating_congr (s.firstDrive_fld n (by show 0x880 + 8 * (n / 2 * 2) ≠ 0xC03 + 4 * n; omega))
  have hdriven : ((s.firstDrive n).valve n).driven = some ((s.valve n).driven.getD s.clk.cc) := by rw [hfirst]
  have hit : ((s.firstDrive n).valve n).it = (s.valve n).it := by rw [hfirst]
  have hvalve : (s.afterDrive n w).valve n = _ := hrest
  rw [hvalve]
  rw [hgoal] at ho hm ⊢
  clear hfirst
  refine ⟨⟨hdriven, rfl, rfl, rfl, ?_⟩, ?_⟩
  · by_cases hramp : bitsOf w.toNat 31 16 = 0
    · refine (if_pos hramp).trans (Eq.trans ?_ (if_pos hramp).symm)
      rw [State.limitedTo, hrating]
    · exact (if_neg hramp).trans (((if_neg hramp).trans hit).trans (if_neg hramp).symm)
  · intro hopen hnone
    obtain ⟨hmeas, hdet⟩ := hstart hopen hnone
    exact ⟨hm.trans hmeas, fun h => ho.trans (hdet h)⟩

/-- Without a ramp the duty in force after a DRIVE is one that R152 gives. -/
theorem State.afterDrive_duty (s : State) (n : Nat) (w : Word) (h : bitsOf w.toNat 31 16 = 0) :
    (s.afterDrive n w).fld (F.VDA_CHn_CUR_DUTY n) ≤ 1024 := by
  have hduty (u : State) : (u.restOfPeriod n (bitsOf w.toNat 31 16)).fld (F.VDA_CHn_CUR_DUTY n) ≤ 1024 := by
    rw [State.restOfPeriod, if_pos h]
    exact State.setDuty_duty _ n _ _
  exact (State.showTgt_fld _ n (.inl (by show 0x884 + 8 * n ≠ 0xB00 + n; omega))).trans_le (hduty _)

/-! ### HOLD (R176) -/

/-- HOLD puts the channel in HOLD, with the working setpoint as the target. -/
def State.takeHold (s : State) (n : Nat) : State :=
  let h := s.fld (F.VDA_CHn_HOLD_HOLDACT n)
  (s.setChSt n stHold).modValve n (fun v => { v with s := 0, it := h * 1000, goal := h, ramp := 0, holding := true })

/-- The effect of HOLD. -/
def State.afterHold (s : State) (n : Nat) : State :=
  ((s.takeHold n).showTgt n).setDuty n s.clk.cc (frameCc ((s.takeHold n).nextEdge n))

theorem State.holdEffect_eq (s : State) (n : Nat) : s.holdEffect n = .go (s.afterHold n) := rfl

theorem State.setChSt_onChannel (s : State) (n m k : Nat) : OnChannel n s (s.setChSt m k) := ⟨⟨_, _, _, _, rfl⟩, fun _ _ => rfl⟩

theorem State.afterHold_onChannel (s : State) (n : Nat) : OnChannel n s (s.afterHold n) :=
  (((s.setChSt_onChannel n n _).trans (.modValve _ n _)).trans (State.showTgt_onChannel _ n)).trans
    (State.setDuty_onChannel _ n _ _)

/-- HOLD shows the state, the target and the duty. -/
theorem State.afterHold_fld (s : State) (n : Nat) {f : Fld} (hcur : f.addr ≠ 0x884 + 8 * n) (hstat : f.addr ≠ 0x885 + 8 * n)
    (hseq : f.addr ≠ 0xB00 + n ∨ 13 < f.lo) : (s.afterHold n).fld f = s.fld f :=
  ((State.setDuty_fld _ n _ _ hcur).trans (State.showTgt_fld _ n hseq)).trans (s.setChSt_fld n stHold hstat)

theorem State.afterHold_chSt (s : State) (n : Nat) : (s.afterHold n).chSt n = stHold :=
  ((State.setDuty_fld _ n _ _ (by show 0x885 + 8 * n ≠ 0x884 + 8 * n; omega)).trans
    (State.showTgt_fld _ n (.inl (by show 0x885 + 8 * n ≠ 0xB00 + n; omega)))).trans (s.chSt_setChSt n (by decide))

/-- HOLD clears the integrator and holds the working setpoint. -/
theorem State.afterHold_valve (s : State) (n : Nat) : ((s.afterHold n).valve n).holding = true ∧
    ((s.afterHold n).valve n).s = 0 ∧ ((s.afterHold n).valve n).ramp = 0 ∧
    ((s.afterHold n).valve n).it = (s.fld (F.VDA_CHn_HOLD_HOLDACT n) : Int) * 1000 := by
  have htake : (s.takeHold n).valve n = { s.valve n with
      s := 0, it := s.fld (F.VDA_CHn_HOLD_HOLDACT n) * 1000, goal := s.fld (F.VDA_CHn_HOLD_HOLDACT n), ramp := 0
      holding := true } := State.valve_modValve_same _ n _
  obtain ⟨o, c, m, hvalve, -, -⟩ :=
    State.setDuty_valve ((s.takeHold n).showTgt n) n s.clk.cc (frameCc ((s.takeHold n).nextEdge n))
  rw [State.afterHold, hvalve, State.showTgt, State.setFld_valve, htake]
  exact ⟨rfl, rfl, rfl, rfl⟩

theorem State.afterHold_duty (s : State) (n : Nat) : (s.afterHold n).fld (F.VDA_CHn_CUR_DUTY n) ≤ 1024 :=
  State.setDuty_duty _ n _ _

end Sys2Proof.Machine
end

section
/-! PROOF. WAIT, DECAY and END (R177, R178, R181), and the samples that pass while an instruction holds its program. -/

namespace Sys2Proof.Machine

open Sys2Proof

/-! ### WAIT (R177) -/

theorem State.waitEffect_reserved (s : State) (n : Nat) (w : Word) (h : 6 ≤ bitsOf w.toNat 35 33) :
    s.waitEffect n w = .err 2 := if_pos h

theorem State.waitEffect_met (s : State) (n : Nat) (w : Word) (hc : bitsOf w.toNat 35 33 < 6)
    (h : s.waitMet n w { start := s.clk.cc } = true) :
    s.waitEffect n w = (s.setFlag (F.VDA_CHn_SEQ_WMET n) true).pcNext n := (if_neg (Nat.not_le.2 hc)).trans (if_pos h)

theorem State.waitEffect_holds (s : State) (n : Nat) (w : Word) (hc : bitsOf w.toNat 35 33 < 6)
    (h : s.waitMet n w { start := s.clk.cc } = false) :
    s.waitEffect n w = .go (s.modValve n (fun v => { v with wait := some { start := s.clk.cc } })) :=
  (if_neg (Nat.not_le.2 hc)).trans (if_neg (Bool.eq_false_iff.1 h))

/-- A WAIT leaves the program counter when it shows in WMET. -/
theorem State.setWmet_pc (s : State) (n : Nat) (b : Bool) :
    (s.setFlag (F.VDA_CHn_SEQ_WMET n) b).fld (F.VDA_CHn_SEQ_PC n) = s.fld (F.VDA_CHn_SEQ_PC n) :=
  s.fld_setFld_disj (F.VDA_CHn_SEQ_WMET n) _ _ rfl (.inr (by decide : 17 < 30))

/-! ### DECAY (R178) -/

/-- The decay mode that MODE names: slow, fast, or that of DEFDEC. -/
def decayOf (m : Nat) : Option Bool := if m = 1 then some false else if m = 2 then some true else none

/-- The effect of DECAY before the program counter advances. -/
def State.afterDecay (s : State) (n : Nat) (w : Word) : State :=
  let t := s.modValve n (fun v => { v with decay := decayOf (bitsOf w.toNat 1 0) })
  t.setFlag (F.VDA_CHn_SEQ_DEC n) (t.fastDecay n)

theorem State.decayEffect_eq (s : State) (n : Nat) (w : Word) : s.decayEffect n w = (s.afterDecay n w).pcNext n := rfl

theorem State.afterDecay_onChannel (s : State) (n : Nat) (w : Word) : OnChannel n s (s.afterDecay n w) :=
  (OnChannel.modValve s n _).trans (.setFld n _ _ _)

theorem State.afterDecay_reg (s : State) (n : Nat) (w : Word) {i : Nat} (h : i ≠ 0xB00 + n) : (s.afterDecay n w).reg i = s.reg i :=
  State.reg_setFld_ne _ (F.VDA_CHn_SEQ_DEC n) _ h

theorem State.afterDecay_pc (s : State) (n : Nat) (w : Word) :
    (s.afterDecay n w).fld (F.VDA_CHn_SEQ_PC n) = s.fld (F.VDA_CHn_SEQ_PC n) :=
  State.fld_setFld_disj _ (F.VDA_CHn_SEQ_DEC n) _ _ rfl (.inr (by decide : 18 < 30))

theorem decayOf_getD (m : Nat) (d : Bool) : (decayOf m).getD d = (m == 2 || (m != 1 && d)) := by
  unfold decayOf
  split
  · next h => rw [h]; rfl
  · next h1 =>
    split
    · next h2 => rw [h2]; rfl
    · next h2 => rw [beq_eq_false_iff_ne.2 h2, bne_iff_ne.2 h1]; rfl

/-- The decay mode in force after DECAY is the one it names. -/
theorem State.afterDecay_fastDecay (s : State) (n : Nat) (w : Word) : (s.afterDecay n w).fastDecay n =
    (bitsOf w.toNat 1 0 == 2 || (bitsOf w.toNat 1 0 != 1 && s.flag (F.VDA_CHn_CFG_DEFDEC n))) := by
  have hdefdec : (s.afterDecay n w).flag (F.VDA_CHn_CFG_DEFDEC n) = s.flag (F.VDA_CHn_CFG_DEFDEC n) :=
    State.flag_of_fld _ (State.fld_of_reg _ (s.afterDecay_reg n w (by show 0x880 + 8 * n ≠ 0xB00 + n; omega)))
  have hdecay : ((s.afterDecay n w).valve n).decay = decayOf (bitsOf w.toNat 1 0) := by
    unfold State.afterDecay
    rw [State.setFlag_valve, State.valve_modValve_same]
  rw [State.fastDecay, hdefdec, hdecay, decayOf_getD]

theorem State.afterDecay_shown (s : State) (n : Nat) (w : Word) :
    (s.afterDecay n w).flag (F.VDA_CHn_SEQ_DEC n) = (s.afterDecay n w).fastDecay n := by
  refine (State.flag_setFlag_same _ _ _ rfl).trans ?_
  rw [State.afterDecay_fastDecay, State.fastDecay, State.valve_modValve_same, State.modValve_flag, decayOf_getD]

/-! ### END (R181) -/

/-- The state that END leaves: LATCHED after an open program, and otherwise what a turn-off leaves. -/
def State.endState (s : State) (n : Nat) : Nat := if s.fld (F.VDA_CHn_SEQ_KIND n) = kOpen then stLatched else s.offState n

theorem State.endEffect_error (s : State) (n : Nat) (hopen : s.fld (F.VDA_CHn_SEQ_KIND n) = kOpen) (h : s.isBridge n = false) :
    s.endEffect n = .err 8 := (if_pos hopen).trans (if_neg (Bool.eq_false_iff.1 h))

/-- A close edge that no detection gives is credited at the used latency (R246). -/
def State.creditEnd (s : State) (n : Nat) : State :=
  if (s.valve n).driven.isNone || (s.valve n).unknown then
    s.creditClose n ((s.valve n).driven.getD s.clk.cc + s.closeLatCc n false) true
  else s

theorem State.creditEnd_drives (s : State) (n : Nat) : Drives [n] s (s.creditEnd n) := by
  unfold State.creditEnd
  split
  · exact s.creditClose_drives (List.mem_singleton_self n) _ _
  · exact .refl _ s

theorem State.coast_drives (s : State) (n : Nat) : Drives [n] s (s.coast n) := by
  unfold State.coast State.coastPeriod
  exact .modValve s (List.mem_singleton_self n) _

theorem StoppedIn.coast {n k : Nat} {t : State} (h : StoppedIn n k t) : StoppedIn n k (t.coast n) := by
  unfold State.coast State.coastPeriod
  exact h.modValve _

/-- Any other END ends the program. -/
theorem State.endEffect_ends (s : State) (n : Nat) (h : s.fld (F.VDA_CHn_SEQ_KIND n) ≠ kOpen ∨ s.isBridge n = true) :
    ∃ t, s.endEffect n = .go t ∧ Drives [n] s t ∧ StoppedIn n (s.endState n) t := by
  have hn := List.mem_singleton_self n
  by_cases hopen : s.fld (F.VDA_CHn_SEQ_KIND n) = kOpen
  · rw [State.endState, if_pos hopen]
    exact ⟨_, (if_pos hopen).trans (if_pos (h.resolve_left (not_not_intro hopen))),
      ((s.stopProgram_drives hn).trans (.setChSt _ hn _)).trans (State.coast_drives _ n),
      (State.stopProgram_setChSt s n (by decide)).coast⟩
  · have hcredit := s.creditEnd_drives n
    rw [State.endState, if_neg hopen, State.offState]
    unfold State.endEffect
    dsimp only
    rw [if_neg hopen]
    split
    · next hsafe =>
      exact ⟨_, rfl, (hcredit.trans (State.dropCdet_drives _ hn)).trans (State.intoSafe_drives _ hn),
        State.stopProgram_setChSt _ n (by decide)⟩
    · next hsafe =>
      exact ⟨_, rfl, ((hcredit.trans (State.stopProgram_drives _ hn)).trans (State.enterOff_drives _ hn)).trans
        (State.coast_drives _ n), ((State.stopProgram_setChSt _ n (by decide)).modValve _).coast⟩

/-! ### Samples pass (R150, R177) -/

/-- From `s` to `t` samples of channel `n` have passed: nothing else changes but system time, CUR and VDRV and what watches
samples, and no WAIT ends. -/
structure Sampled (n : Nat) (s t : State) : Prop where
  on : OnChannel n s t
  fld : ∀ f : Fld, f.addr ≠ 0x200 → f.addr ≠ 0x884 + 8 * n → f.addr ≠ 0x808 + n / 8 → t.fld f = s.fld f
  wait : (t.valve n).wait.isSome = (s.valve n).wait.isSome

theorem Sampled.trans {n : Nat} {s t u : State} (h : Sampled n s t) (g : Sampled n t u) : Sampled n s u where
  on := h.on.trans g.on
  fld f ht hc hv := (g.fld f ht hc hv).trans (h.fld f ht hc hv)
  wait := g.wait.trans h.wait

theorem State.feedOne_sampled (s : State) (n : Nat) (x : Sample) : Sampled n s (s.feedOne n x) := by
  unfold State.feedOne
  dsimp only
  refine ⟨?on, fun f ht hc hv => ?fld, ?wait⟩
  case on => exact (OnChannel.advCcTo n s _).trans (((OnChannel.setFld n _ _ _).trans (.setFld n _ _ _)).trans (.setValve _ n _))
  case fld =>
    rw [State.setValve_fld, State.fld_setFld_ne _ (F.VDA_Gg_STAT_VDRV (n / 8)) f _ hv]
    exact (State.fld_setFld_ne _ (F.VDA_CHn_CUR_CUR n) f _ hc).trans (s.advCcTo_fld _ f ht)
  case wait =>
    rw [State.valve_setValve_same]
    exact Option.isSome_map ..

theorem State.scan_sampled (s : State) (n : Nat) (stop : State → Option Nat) (xs : List Sample) :
    Sampled n s (s.scan n stop xs) := by
  induction xs generalizing s with
  | nil => exact ⟨.refl n s, fun _ _ _ _ => rfl, rfl⟩
  | cons x xs ih =>
    have hfed := (s.feedOne_sampled n x).trans (ih _)
    rw [State.scan]
    split
    · split
      · exact ⟨.refl n s, fun _ _ _ _ => rfl, rfl⟩
      · exact hfed
    · exact hfed

theorem State.scanFrom_sampled (s : State) (n : Nat) (stop : State → Option Nat) (xs : List Sample) :
    Sampled n s (s.scanFrom n stop xs) := by
  unfold State.scanFrom
  dsimp only
  refine Sampled.trans ⟨.modValve s n _, fun _ _ _ _ => rfl, ?_⟩ (State.scan_sampled _ n stop xs)
  rw [State.valve_modValve_same]

/-! ### The end of a WAIT (R177) -/

theorem State.waitSlot_ge (s : State) (n : Nat) (w : Word) (x : WaitSt) : s.clk.cc ≤ s.waitSlot n w x := by
  have hslot := s.nextSlot_ge n
  unfold State.waitSlot
  dsimp only
  split
  · exact hslot
  · exact hslot.trans (Nat.le_max_left ..)

/-- A WAIT with a timeout whose condition is not met ends once TMO has passed. -/
theorem State.waitSlot_timeout (s : State) (n : Nat) (w : Word) (x : WaitSt) (hc : 2 ≤ bitsOf w.toNat 35 33)
    (h : s.waitMet n w x = false) : x.start + waitTmo w ≤ s.waitSlot n w x := by
  unfold State.waitSlot
  dsimp only
  rw [if_neg (Bool.eq_false_iff.1 h)]
  split
  · omega
  · omega
  · exact (slotFrom_ge n _).trans (Nat.le_max_right ..)

/-- The WAIT `x` of word `w` ends in its slot, and WMET says whether its condition is met there. -/
def State.waitOver (s : State) (n : Nat) (w : Word) (x : WaitSt) : State :=
  let c := s.waitSlot n w x
  ((s.advCcTo c).modValve n (fun v => { v with wait := none, slotAt := some c })).setFlag (F.VDA_CHn_SEQ_WMET n)
    ((s.advCcTo c).waitMet n w x)

theorem State.waitOver_onChannel (s : State) (n : Nat) (w : Word) (x : WaitSt) : OnChannel n s (s.waitOver n w x) :=
  ((OnChannel.advCcTo n s _).trans (.modValve _ n _)).trans (.setFld n _ _ _)

theorem State.waitOver_pc (s : State) (n : Nat) (w : Word) (x : WaitSt) :
    (s.waitOver n w x).fld (F.VDA_CHn_SEQ_PC n) = s.fld (F.VDA_CHn_SEQ_PC n) :=
  (State.setWmet_pc _ n _).trans (s.advCcTo_fld _ _ (by show 0xB00 + n ≠ 0x200; omega))

theorem State.waitOver_cc (s : State) (n : Nat) (w : Word) (x : WaitSt) :
    (s.waitOver n w x).clk.cc = s.waitSlot n w x :=
  (s.advCcTo_cc _).trans (Nat.max_eq_right (s.waitSlot_ge n w x))

theorem State.waitOver_wait (s : State) (n : Nat) (w : Word) (x : WaitSt) : ((s.waitOver n w x).valve n).wait = none := by
  unfold State.waitOver
  rw [State.setFlag_valve, State.valve_modValve_same]

theorem State.waitOver_wmet (s : State) (n : Nat) (w : Word) (x : WaitSt) :
    (s.waitOver n w x).flag (F.VDA_CHn_SEQ_WMET n) = (s.advCcTo (s.waitSlot n w x)).waitMet n w x :=
  State.flag_setFlag_same _ _ _ rfl

end Sys2Proof.Machine
end

section
/-! PROOF. The instructions of a program (O41): DRIVE, HOLD, WAIT, DECAY and END, and WAIT_END (R173 to R178, R181). -/

namespace Sys2Proof.Proofs

open Sys2Proof Sys2Proof.Machine

/-! ### The commands -/

theorem exec_driveInstruction (s : State) (n : Fin 48) (hrun : s.boot.halted = false) :
    exec (.driveInstruction n) s = .next (s.instr n (· == 1) (fun s w => s.driveEffect n w)) := by
  show execDriveInstruction n s = _
  exact s.clocked_running _ hrun

theorem exec_holdInstruction (s : State) (n : Fin 48) (hrun : s.boot.halted = false) :
    exec (.holdInstruction n) s = .next (s.instr n (· == 2) (fun s _ => s.holdEffect n)) := by
  show execHoldInstruction n s = _
  exact s.clocked_running _ hrun

theorem exec_waitInstruction (s : State) (n : Fin 48) (hrun : s.boot.halted = false) :
    exec (.waitInstruction n) s = .next (s.instr n (· == 3) (fun s w => s.waitEffect n w)) := by
  show execWaitInstruction n s = _
  exact s.clocked_running _ hrun

theorem exec_decayInstruction (s : State) (n : Fin 48) (hrun : s.boot.halted = false) :
    exec (.decayInstruction n) s = .next (s.instr n (· == 4) (fun s w => s.decayEffect n w)) := by
  show execDecayInstruction n s = _
  exact s.clocked_running _ hrun

theorem exec_endInstruction (s : State) (n : Fin 48) (hrun : s.boot.halted = false) :
    exec (.endInstruction n) s = .next (s.instr n (· == 0) (fun s _ => s.endEffect n)) := by
  show execEndInstruction n s = _
  exact s.clocked_running _ hrun

theorem exec_waitEnd_idle (s : State) (n : Fin 48) (ss : List Sample) (hrun : s.boot.halted = false)
    (h : (s.valve n).wait = none) : exec (.waitEnd n ss) s = .next s := by
  show execWaitEnd n ss s = _
  rw [execWaitEnd, s.clocked_running _ hrun]
  dsimp only
  rw [h]
  rfl

/-- The samples pass, and the WAIT ends in its slot (R177). -/
theorem exec_waitEnd (s : State) (n : Fin 48) (ss : List Sample) {v : State} {x : WaitSt} (hrun : s.boot.halted = false)
    (hwait : (s.valve n).wait.isSome = true) (hv : v = s.scanFrom n (fun s => s.waitStop n) ss)
    (hx : (v.valve n).wait = some x) : exec (.waitEnd n ss) s = .next ((v.waitOver n (v.opWord n).1 x).goOn n) := by
  have hstop : v.waitStop n = some (v.waitSlot n (v.opWord n).1 x) := by rw [State.waitStop, hx]; rfl
  show execWaitEnd n ss s = _
  rw [execWaitEnd, s.clocked_running _ hrun]
  dsimp only
  rw [if_neg (by rw [Option.isNone_iff_eq_none]; exact Option.isSome_iff_ne_none.1 hwait), ← hv, hstop, hx]
  rfl

/-! ### What each instruction does -/

section
variable {s : State} {n : Fin 48}

/-- The instant, memory, queues and other channels that a state after the slot's effect has. -/
theorem begun_effect {t : State} (h : OnChannel n (s.begun n) t) :
    t.mem = s.mem ∧ t.queues = s.queues ∧ ∀ m, m ≠ n.val → t.valve m = s.valve m := by
  have hon := (s.begun_onChannel n).trans h
  exact ⟨hon.mem, hon.queues, hon.valve⟩

theorem driveInstruction_effect (hrun : s.boot.halted = false) (hex : Executes s n (· == 1)) (hcount : (s.valve n).icount < 4096)
    (w : Word) (hw : w = (s.opWord n).1) (pc : Nat) (hpc : pc = s.fld (F.VDA_CHn_SEQ_PC n)) : ∃ t : State,
      (pc < 1023 → exec (.driveInstruction n) s = .next t ∧ t.fld (F.VDA_CHn_SEQ_PC n) = pc + 1) ∧
      (1023 ≤ pc → exec (.driveInstruction n) s = .next (t.progError n 6).completed) ∧
      (t.valve n).driven = some ((s.valve n).driven.getD (s.nextSlot n)) ∧ (t.valve n).s = 0 ∧
      (t.valve n).goal = min (bitsOf w.toNat 15 0) (s.pulseRating n) ∧ (t.valve n).ramp = bitsOf w.toNat 31 16 ∧
      (t.valve n).it = (if bitsOf w.toNat 31 16 = 0 then
          (if (t.valve n).limited then min ((s.contRating n : Int) * 1000) ((t.valve n).goal * 1000) else (t.valve n).goal * 1000)
        else (s.valve n).it) ∧
      (bitsOf w.toNat 31 16 = 0 → t.fld (F.VDA_CHn_CUR_DUTY n) ≤ 1024) ∧
      (s.fld (F.VDA_CHn_SEQ_KIND n) = kOpen → (s.valve n).driven = none → (t.valve n).meas.isSome = true ∧
        (s.flag (F.VDA_CHn_DET_OPDET n) = true → (t.valve n).odet.isSome = true)) ∧
      t.mem = s.mem ∧ t.queues = s.queues ∧ ∀ m, m ≠ n.val → t.valve m = s.valve m := by
  subst hw hpc
  have hgoes := (exec_driveInstruction s n hrun).trans
    (congrArg _ (hex.advances hcount (State.driveEffect_eq (s.begun n) n (s.opWord n).1)))
  have hpc : ((s.begun n).afterDrive n (s.opWord n).1).fld (F.VDA_CHn_SEQ_PC n) = s.fld (F.VDA_CHn_SEQ_PC n) :=
    (State.afterDrive_pc _ n _).trans (s.begun_fld n (by show 0x800 ≤ 0xB00 + n.val; omega))
  obtain ⟨t, hmoved, hnext, hlast⟩ := State.goOn_cases _ hpc
  obtain ⟨⟨hdriven, hs, hgoal, hramp, htarget⟩, hstart⟩ := (s.begun n).afterDrive_valve n (s.opWord n).1
  have hpulse : (s.begun n).pulseRating n = s.pulseRating n := by rw [State.pulseRating, State.pulseRating, s.begun_pairKind]
  have hcont : (s.begun n).contRating n = s.contRating n := by rw [State.contRating, State.contRating, s.begun_pairKind]
  rw [s.begun_valve, s.begun_cc] at hdriven
  rw [hpulse] at hgoal
  rw [hcont, s.begun_valve] at htarget
  rw [s.begun_valve, s.begun_fld n (by show 0x800 ≤ 0xB00 + n.val; omega),
    s.begun_flag n (by show 0x800 ≤ 0x882 + 8 * n.val; omega)] at hstart
  refine ⟨t, fun h => ⟨hgoes.trans (congrArg _ (hnext h).1), (hnext h).2⟩, fun h => hgoes.trans (congrArg _ (hlast h)), ?_⟩
  rw [hmoved.valve n]
  refine ⟨hdriven, hs, hgoal, hramp, htarget, fun h => ?duty, hstart,
    begun_effect ((State.afterDrive_onChannel _ n _).trans hmoved.onChannel)⟩
  rw [hmoved.fld _ (.inl (by show 0x884 + 8 * n.val ≠ 0xB00 + n.val; omega))]
  exact State.afterDrive_duty _ n _ h

theorem holdInstruction_effect (hrun : s.boot.halted = false) (hex : Executes s n (· == 2)) (hcount : (s.valve n).icount < 4096) :
    ∃ t : State, exec (.holdInstruction n) s = .next t ∧ t.fld (F.VDA_CHn_SEQ_PC n) = s.fld (F.VDA_CHn_SEQ_PC n) ∧
      t.chSt n = stHold ∧ (t.valve n).holding = true ∧ (t.valve n).s = 0 ∧ (t.valve n).ramp = 0 ∧
      (t.valve n).it = (s.fld (F.VDA_CHn_HOLD_HOLDACT n) : Int) * 1000 ∧ t.fld (F.VDA_CHn_CUR_DUTY n) ≤ 1024 ∧
      t.running n = true ∧ t.mem = s.mem ∧ t.queues = s.queues := by
  have hgoes := (exec_holdInstruction s n hrun).trans (congrArg _ (hex.go hcount (State.holdEffect_eq (s.begun n) n)))
  obtain ⟨hrunning, -⟩ := (s.ready_iff n).1 hex.ready
  have hseq (f : Fld) (haddr : f.addr = 0xB00 + n.val) (hlo : 13 < f.lo) : ((s.begun n).afterHold n).fld f = s.fld f :=
    ((s.begun n).afterHold_fld n (by omega) (by omega) (.inr hlo)).trans (s.begun_fld n (by omega))
  have hvalve := (s.begun n).afterHold_valve n
  rw [s.begun_fld n (by show 0x800 ≤ 0x881 + 8 * n.val; omega)] at hvalve
  obtain ⟨hholding, hs, hramp, hit⟩ := hvalve
  have hst := State.afterHold_chSt (s.begun n) n
  have hduty := State.afterHold_duty (s.begun n) n
  have hon := State.afterHold_onChannel (s.begun n) n
  have hnoted := State.completed_eventNoted ((s.begun n).afterHold n)
  generalize (s.begun n).afterHold n = u at *
  obtain ⟨hmem, hqueues, -⟩ := begun_effect (hon.trans (hnoted.onChannel n))
  refine ⟨_, hgoes, (hnoted.fld _).trans (hseq _ rfl (by decide : 13 < 30)), (hnoted.fld _).trans hst, ?_, ?_, ?_, ?_,
    (hnoted.fld _).trans_le hduty,
    (hnoted.flag _).trans ((State.flag_of_fld _ (hseq (F.VDA_CHn_SEQ_RUNNING n) rfl (by decide : 13 < 16))).trans hrunning),
    hmem, hqueues⟩
  all_goals rw [hnoted.valve]
  · exact hholding
  · exact hs
  · exact hramp
  · exact hit

theorem waitInstruction_met (hrun : s.boot.halted = false) (hex : Executes s n (· == 3)) (hcount : (s.valve n).icount < 4096)
    (w : Word) (hw : w = (s.opWord n).1) (pc : Nat) (hpc : pc = s.fld (F.VDA_CHn_SEQ_PC n)) (hc : bitsOf w.toNat 35 33 < 6)
    (hmet : (s.begun n).waitMet n w { start := (s.begun n).clk.cc } = true) : ∃ t : State,
      t.flag (F.VDA_CHn_SEQ_WMET n) = true ∧ (t.valve n).wait = none ∧ t.mem = s.mem ∧ t.queues = s.queues ∧
      (pc < 1023 → exec (.waitInstruction n) s = .next t ∧ t.fld (F.VDA_CHn_SEQ_PC n) = pc + 1) ∧
      (1023 ≤ pc → exec (.waitInstruction n) s = .next (t.progError n 6).completed) := by
  subst hw hpc
  have hgoes := (exec_waitInstruction s n hrun).trans (congrArg _ (hex.advances hcount (State.waitEffect_met _ n _ hc hmet)))
  have hpc : ((s.begun n).setFlag (F.VDA_CHn_SEQ_WMET n) true).fld (F.VDA_CHn_SEQ_PC n) = s.fld (F.VDA_CHn_SEQ_PC n) :=
    (State.setWmet_pc _ n true).trans (s.begun_fld n (by show 0x800 ≤ 0xB00 + n.val; omega))
  obtain ⟨-, hwait, -⟩ := (s.ready_iff n).1 hex.ready
  obtain ⟨t, hmoved, hnext, hlast⟩ := State.goOn_cases _ hpc
  obtain ⟨hmem, hqueues, -⟩ := begun_effect ((OnChannel.setFld n.val (s.begun n) _ _).trans hmoved.onChannel)
  refine ⟨t, (hmoved.flag (.inr (by decide : 17 < 26))).trans (State.flag_setFlag_same _ _ _ rfl), ?_, hmem, hqueues,
    fun h => ⟨hgoes.trans (congrArg _ (hnext h).1), (hnext h).2⟩, fun h => hgoes.trans (congrArg _ (hlast h))⟩
  rw [hmoved.valve, State.setFlag_valve, State.begun_valve]
  exact hwait

theorem waitInstruction_holds (hrun : s.boot.halted = false) (hex : Executes s n (· == 3)) (hcount : (s.valve n).icount < 4096)
    (hc : bitsOf (s.opWord n).1.toNat 35 33 < 6)
    (hmet : (s.begun n).waitMet n (s.opWord n).1 { start := (s.begun n).clk.cc } = false) : ∃ t : State,
      exec (.waitInstruction n) s = .next t ∧ t.fld (F.VDA_CHn_SEQ_PC n) = s.fld (F.VDA_CHn_SEQ_PC n) ∧
      (t.valve n).wait = some { start := s.nextSlot n } ∧ t.mem = s.mem ∧ t.queues = s.queues := by
  have hgoes := (exec_waitInstruction s n hrun).trans (congrArg _ (hex.go hcount (State.waitEffect_holds _ n _ hc hmet)))
  have hnoted := State.completed_eventNoted
    ((s.begun n).modValve n (fun v => { v with wait := some { start := (s.begun n).clk.cc } }))
  obtain ⟨hmem, hqueues, -⟩ := begun_effect ((OnChannel.modValve (s.begun n) n _).trans (hnoted.onChannel n))
  refine ⟨_, hgoes, (hnoted.fld _).trans (s.begun_fld n (by show 0x800 ≤ 0xB00 + n.val; omega)), ?_, hmem, hqueues⟩
  rw [hnoted.valve, State.valve_modValve_same, State.begun_cc]

theorem decayInstruction_effect (hrun : s.boot.halted = false) (hex : Executes s n (· == 4)) (hcount : (s.valve n).icount < 4096)
    (w : Word) (hw : w = (s.opWord n).1) (pc : Nat) (hpc : pc = s.fld (F.VDA_CHn_SEQ_PC n)) : ∃ t : State,
      (pc < 1023 → exec (.decayInstruction n) s = .next t ∧ t.fld (F.VDA_CHn_SEQ_PC n) = pc + 1) ∧
      (1023 ≤ pc → exec (.decayInstruction n) s = .next (t.progError n 6).completed) ∧
      t.fastDecay n = (bitsOf w.toNat 1 0 == 2 || (bitsOf w.toNat 1 0 != 1 && s.flag (F.VDA_CHn_CFG_DEFDEC n))) ∧
      t.flag (F.VDA_CHn_SEQ_DEC n) = t.fastDecay n ∧ t.mem = s.mem ∧ t.queues = s.queues ∧
      ∀ i, i ≠ 0x200 → i ≠ (F.VDA_CHn_SEQ_PC n).addr → t.reg i = s.reg i := by
  subst hw hpc
  have hgoes := (exec_decayInstruction s n hrun).trans
    (congrArg _ (hex.advances hcount (State.decayEffect_eq (s.begun n) n (s.opWord n).1)))
  have hpc : ((s.begun n).afterDecay n (s.opWord n).1).fld (F.VDA_CHn_SEQ_PC n) = s.fld (F.VDA_CHn_SEQ_PC n) :=
    (State.afterDecay_pc _ n _).trans (s.begun_fld n (by show 0x800 ≤ 0xB00 + n.val; omega))
  obtain ⟨t, hmoved, hnext, hlast⟩ := State.goOn_cases _ hpc
  obtain ⟨hmem, hqueues, -⟩ := begun_effect ((State.afterDecay_onChannel _ n _).trans hmoved.onChannel)
  refine ⟨t, fun h => ⟨hgoes.trans (congrArg _ (hnext h).1), (hnext h).2⟩, fun h => hgoes.trans (congrArg _ (hlast h)), ?_, ?_,
    hmem, hqueues, fun i htime hi => ?_⟩
  · rw [hmoved.fastDecay, State.afterDecay_fastDecay, s.begun_flag n (by show 0x800 ≤ 0x880 + 8 * n.val; omega)]
  · rw [hmoved.fastDecay, hmoved.flag (.inr (by decide : 18 < 26)), State.afterDecay_shown]
  · rw [hmoved.reg i hi, State.afterDecay_reg _ n _ hi, s.begun_reg n htime]

theorem endInstruction_ends (hrun : s.boot.halted = false) (hex : Executes s n (· == 0)) (hcount : (s.valve n).icount < 4096)
    (h : s.fld (F.VDA_CHn_SEQ_KIND n) ≠ kOpen ∨ s.isBridge n = true) : ∃ t : State, exec (.endInstruction n) s = .next t ∧
      t.running n = false ∧ t.fld (F.VDA_CHn_CUR_DUTY n) = 0 ∧ t.mem = s.mem ∧ t.queues = s.queues ∧ t.chSt n = s.endState n := by
  have hkind : (s.begun n).fld (F.VDA_CHn_SEQ_KIND n) = s.fld (F.VDA_CHn_SEQ_KIND n) :=
    s.begun_fld n (by show 0x800 ≤ 0xB00 + n.val; omega)
  have hstate : (s.begun n).endState n = s.endState n := by
    rw [State.endState, State.endState, State.offState, State.offState, hkind, State.begun_valve]
  obtain ⟨t, hgo, hdrives, hstopped⟩ := (s.begun n).endEffect_ends n (by rwa [hkind, State.begun_isBridge])
  have hgoes := (exec_endInstruction s n hrun).trans (congrArg _ (hex.go hcount hgo))
  have hnoted := t.completed_eventNoted
  obtain ⟨hmem, hqueues, -⟩ := begun_effect (hdrives.onChannel.trans (hnoted.onChannel n))
  exact ⟨_, hgoes, (hnoted.flag _).trans hstopped.running, (hnoted.fld _).trans hstopped.duty, hmem, hqueues,
    (hnoted.fld _).trans (hstopped.state.trans hstate)⟩

/-- A WAIT that holds the program ends in its slot, and the program goes on. -/
theorem waitEnd_ends (hrun : s.boot.halted = false) (ss : List Sample) (v : State) (hv : v = s.scanFrom n (fun s => s.waitStop n) ss)
    (w : Word) (hw : w = (s.opWord n).1) (pc : Nat) (hpc : pc = s.fld (F.VDA_CHn_SEQ_PC n))
    (hwait : (s.valve n).wait.isSome = true) : ∃ (x : WaitSt) (t : State), (v.valve n).wait = some x ∧
      exec (.waitEnd n ss) s = .next (t.goOn n) ∧ t.clk.cc = v.waitSlot n w x ∧ (t.valve n).wait = none ∧
      t.flag (F.VDA_CHn_SEQ_WMET n) = (v.advCcTo (v.waitSlot n w x)).waitMet n w x ∧
      (2 ≤ bitsOf w.toNat 35 33 → v.waitMet n w x = false → x.start + waitTmo w ≤ t.clk.cc) ∧
      t.fld (F.VDA_CHn_SEQ_PC n) = pc ∧ t.mem = s.mem ∧ t.queues = s.queues ∧
      ((t.goOn n).fld (F.VDA_CHn_SEQ_PC n) = pc + 1 ∧ (t.goOn n).valves = t.valves ∨
        1023 ≤ pc ∧ t.goOn n = (t.progError n 6).completed) := by
  have hsampled : Sampled n s v := hv ▸ s.scanFrom_sampled n _ ss
  have hvpc : v.fld (F.VDA_CHn_SEQ_PC n) = pc := by
    rw [hpc]
    refine hsampled.fld _ ?_ ?_ ?_
    · show 0xB00 + n.val ≠ 0x200; omega
    · show 0xB00 + n.val ≠ 0x884 + 8 * n.val; omega
    · show 0xB00 + n.val ≠ 0x808 + n.val / 8; omega
  have hword : (v.opWord n).1 = w := by rw [hw, hsampled.on.opWord n.isLt (hvpc.trans hpc)]
  obtain ⟨x, hx⟩ := Option.isSome_iff_exists.1 (hsampled.wait.trans hwait)
  have hexec := exec_waitEnd s n ss hrun hwait hv hx
  rw [hword] at hexec
  have hon := hsampled.on.trans (v.waitOver_onChannel n w x)
  have hcc := v.waitOver_cc n w x
  have htpc := (v.waitOver_pc n w x).trans hvpc
  refine ⟨x, _, hx, hexec, hcc, v.waitOver_wait n w x, v.waitOver_wmet n w x,
    fun hc hmet => hcc.symm ▸ v.waitSlot_timeout n w x hc hmet, htpc, hon.mem, hon.queues, ?_⟩
  obtain ⟨u, hmoved, hnext, -⟩ := State.goOn_cases _ htpc
  by_cases h : pc < 1023
  · obtain ⟨hgo, hshown⟩ := hnext h
    rw [hgo]
    exact .inl ⟨hshown, hmoved.valves⟩
  · exact .inr ⟨Nat.not_lt.1 h, State.goOn_last _ _ (by omega)⟩

end

/-- Settles O41, instruction by instruction: each is its effect in the slot that it takes (`Executes.instr`), and the end of a WAIT is
`waitEnd_ends`. -/
theorem programInstructionsDoTheirEffect : Obligations.ProgramInstructionsDoTheirEffect := by
  unfold Obligations.ProgramInstructionsDoTheirEffect
  rintro s u n w pc hrun hpc hw hu
  have hword : w = (s.opWord n).1 := by rw [State.opWord, ← hpc]; exact hw
  have hbegun : u = s.begun n := hu
  subst hbegun
  refine ⟨fun hready hclean hcount => ?_, fun ss v hv => ⟨exec_waitEnd_idle s n ss hrun, waitEnd_ends hrun ss v hv w hword pc hpc⟩⟩
  have hex {k : Nat} (hop : s.opAt n = k) : Executes s n (· == k) := ⟨n.isLt, hready, hclean, beq_iff_eq.2 hop⟩
  refine ⟨fun hop => ?drive, fun hop => ?hold, fun hop => ⟨fun hc => ?reserved, fun hc => ⟨fun hmet => ?met, fun hmet => ?waits⟩⟩,
    fun hop => ?decay, fun hop => ⟨fun hopen hsingle => ?error, fun h => ?ends⟩⟩
  case drive => exact driveInstruction_effect hrun (hex hop) hcount w hword pc hpc
  case hold => exact hpc ▸ holdInstruction_effect hrun (hex hop) hcount
  case reserved =>
    subst hword
    rw [exec_waitInstruction s n hrun, (hex hop).err (by decide) (State.waitEffect_reserved _ n _ hc)]
  case met => exact waitInstruction_met hrun (hex hop) hcount w hword pc hpc hc hmet
  case waits =>
    subst hword
    exact hpc ▸ waitInstruction_holds hrun (hex hop) hcount hc hmet
  case decay => exact decayInstruction_effect hrun (hex hop) hcount w hword pc hpc
  case error =>
    have hkind := s.begun_fld n (f := F.VDA_CHn_SEQ_KIND n) (by show 0x800 ≤ 0xB00 + n.val; omega)
    have herr := (s.begun n).endEffect_error n (hkind.trans hopen) ((s.begun_isBridge n).trans hsingle)
    rw [exec_endInstruction s n hrun, (hex hop).within hcount, herr, Effect.settle_err]
  case ends => exact endInstruction_ends hrun (hex hop) hcount h

end Sys2Proof.Proofs
end

section
/-! PROOF. Check bits that no read reports (O42; R184, R343): the statement's test of a word, that its check bits are not 0, against
the sequencer's read, which looks at the five parity bits and the poison bit. -/

namespace Sys2Proof.Proofs

open Sys2Proof Sys2Proof.Machine

/-- After reset, with channel 0 at the END in word 64 of its store, whose check bits hold 64 instead of a value of six bits. -/
def strayCheckBit : State :=
  { ((State.reset.setMemWord (storeAddr 0 64) 0).setFld (F.VDA_CHn_SEQ_PC 0) 64).setFlag (F.VDA_CHn_SEQ_RUNNING 0) true with
    chk := [(storeAddr 0 64, 64)] }

/-- The program is ready, and the check bits of its word are not 0. -/
theorem strayCheckBit_bad : strayCheckBit.boot.halted = false ∧ strayCheckBit.ready (0 : Fin 48) = true ∧
    strayCheckBit.opBad (0 : Fin 48) = true := by decide +kernel

/-- The STATE of channel 0 in the state that a command leaves. -/
def stateAfter (c : Instr) (s : State) : Option Nat :=
  match exec c s with
  | .next t => some (t.chSt 0)
  | _ => none

/-- The read finds no parity error and no poison, so END executes and the channel enters OFF. -/
theorem strayCheckBit_ends : stateAfter (.endInstruction 0) strayCheckBit = some stOff := by decide +kernel

/-- Refutes O42: the clause on a word that fails its check asks only that its check bits are not 0, and in `strayCheckBit` they are
64, where neither a parity bit nor the poison bit is set; the word executes, and its END leaves the channel OFF and not SAFE. The
operations of the model store check bits below 64 only (`State.setChk`), and the statement does not ask for that. -/
theorem not_programErrorsAndReversal : ¬ Obligations.ProgramErrorsAndReversal := by
  unfold Obligations.ProgramErrorsAndReversal
  intro h
  obtain ⟨hrun, hready, hbad⟩ := strayCheckBit_bad
  obtain ⟨hclasses, -⟩ := h strayCheckBit _ 0 _ _ hrun rfl rfl rfl
  obtain ⟨t, hexec, -, hsafe, -, -⟩ := (hclasses (_, _) (List.mem_cons_self ..)).2 hready hbad
  have hstate : stateAfter (.endInstruction 0) strayCheckBit = some (t.chSt 0) := by rw [stateAfter, hexec]
  have hoff := strayCheckBit_ends.symm.trans hstate
  rw [show t.chSt 0 = stSafe from hsafe] at hoff
  contradiction

end Sys2Proof.Proofs
end

section
/-! PROOF. What leaves the temperatures of a coil: the relation `SameCoil n s t`, how it composes, and the operations it holds of, up
to the derating stage of a model update (R164, R169, R184, R190, R194, R195). -/

namespace Sys2Proof.Machine

open Sys2Proof

/-! ### The relation -/

/-- From `s` to `t` the temperatures of channel `n` stay, in the model and as VDA_CHn_TH shows them. -/
structure SameCoil (n : Nat) (s t : State) : Prop where
  winding : (t.valve n).tw = (s.valve n).tw
  body : (t.valve n).tb = (s.valve n).tb
  shown : ∀ f : Fld, f.addr = 0xC00 + 4 * n → 7 < f.lo → t.fld f = s.fld f

/-- A change of a channel's hidden part leaves the temperatures. -/
def KeepsTemps (g : ValveSt → ValveSt) : Prop := ∀ v, (g v).tw = v.tw ∧ (g v).tb = v.tb

section
variable {n : Nat} {s t u : State}

theorem SameCoil.refl (n : Nat) (s : State) : SameCoil n s s := ⟨rfl, rfl, fun _ _ _ => rfl⟩

theorem SameCoil.trans (h : SameCoil n s t) (g : SameCoil n t u) : SameCoil n s u :=
  ⟨g.winding.trans h.winding, g.body.trans h.body, fun f ha hl => (g.shown f ha hl).trans (h.shown f ha hl)⟩

theorem SameCoil.ite {c : Prop} [Decidable c] (h : SameCoil n s t) (g : SameCoil n s u) : SameCoil n s (if c then t else u) := by
  split
  · exact h
  · exact g

/-- What changes neither the registers nor the hidden parts of channels. -/
theorem SameCoil.same (h : SameCoil n s t) (hregs : u.regs = t.regs) (hvalves : u.valves = t.valves) : SameCoil n s u := by
  have hvalve : u.valve n = t.valve n := congrArg (spGet _ · n) hvalves
  exact h.trans ⟨by rw [hvalve], by rw [hvalve], fun f _ _ => State.fld_of_regs hregs f⟩

theorem SameCoil.modValve (h : SameCoil n s t) {g : ValveSt → ValveSt} (hg : KeepsTemps g) : SameCoil n s (t.modValve n g) := by
  obtain ⟨hw, hb⟩ := hg (t.valve n)
  exact h.trans ⟨by rw [t.valve_modValve_same, hw], by rw [t.valve_modValve_same, hb], fun _ _ _ => rfl⟩

theorem SameCoil.setReg (h : SameCoil n s t) {a : Nat} {w : Word} (ha : a ≠ 0xC00 + 4 * n) : SameCoil n s (t.setReg a w) :=
  h.trans ⟨rfl, rfl, fun f hf _ => State.fld_of_reg f ((t.reg_setReg a f.addr w).trans (if_neg fun e => ha (e.symm.trans hf)))⟩

theorem SameCoil.setFld (h : SameCoil n s t) {f : Fld} {x : Nat} (ha : f.addr ≠ 0xC00 + 4 * n) : SameCoil n s (t.setFld f x) :=
  h.setReg ha

/-- The low bits of VDA_CHn_TH show no temperature. -/
theorem SameCoil.setLow (h : SameCoil n s t) {f : Fld} {x : Nat} (hok : f.ok = true) (hhi : f.hi < 8) :
    SameCoil n s (t.setFld f x) :=
  h.trans ⟨rfl, rfl, fun g _ hlo => t.fld_setFld_disj f g x hok (.inr (by omega))⟩

theorem SameCoil.raise (h : SameCoil n s t) {f : Fld} (ha : f.addr ≠ 0xC00 + 4 * n) : SameCoil n s (t.raise f) :=
  (h.setFld ha : SameCoil n s (t.setFlag f true)).same rfl rfl

theorem SameCoil.setChSt (h : SameCoil n s t) (k : Nat) : SameCoil n s (t.setChSt n k) := by
  have hstat : 0x885 + 8 * n ≠ 0xC00 + 4 * n := by omega
  exact (h.setFld hstat : SameCoil n s (t.setFld (F.VDA_CHn_STAT_STATE n) k)).same rfl rfl

theorem SameCoil.reported (h : SameCoil n s t) {A : List Nat} (hr : Reported A t u) (hA : 0xC00 + 4 * n ∉ A) : SameCoil n s u := by
  have hvalve : u.valve n = t.valve n := congrArg (spGet _ · n) hr.valves
  exact h.trans ⟨by rw [hvalve], by rw [hvalve], fun f hf _ => State.fld_of_reg f (hr.reg (hf ▸ hA))⟩

theorem coil_not_reported (n : Nat) {src : Nat} (hsrc : src < 64) : 0xC00 + 4 * n ∉ reportRegs src := by
  simp only [reportRegs, F.FSV_SRCs_STAT_w, F.EVS_Qn_ERR_w, List.mem_cons, List.not_mem_nil, or_false]
  omega

theorem SameCoil.reportAt (h : SameCoil n s t) {src : Nat} (hsrc : src < 64) (inst addr : Nat) :
    SameCoil n s (t.reportAt src inst addr) := h.reported (t.reportAt_reported src inst addr) (coil_not_reported n hsrc)

theorem SameCoil.report (h : SameCoil n s t) {src : Nat} (hsrc : src < 64) (inst : Nat) : SameCoil n s (t.report src inst) :=
  h.reportAt hsrc inst _

theorem SameCoil.unknownRec (h : SameCoil n s t) {src : Nat} (hsrc : src < 64) (inst addr : Nat) :
    SameCoil n s (t.unknownRec src inst addr) :=
  h.reported (t.faultRec_reported src _ evUnknown addr) (coil_not_reported n hsrc)

theorem SameCoil.errRec (h : SameCoil n s t) (typ w3 w4 w5 : Nat) : SameCoil n s (t.errRec typ w3 w4 w5) :=
  h.reported (t.ringDrop_reported 59 _ _ (List.mem_cons_of_mem _ (List.mem_cons_self ..))) (coil_not_reported n (by decide : 0 < 64))

/-! ### Detections, credit and programs end -/

theorem SameCoil.dropOdet (h : SameCoil n s t) : SameCoil n s (t.dropOdet n) := h.modValve fun _ => ⟨rfl, rfl⟩

theorem SameCoil.tellClosed (h : SameCoil n s t) : SameCoil n s (t.tellClosed n) := h.modValve fun _ => ⟨rfl, rfl⟩

theorem SameCoil.creditClose (h : SameCoil n s t) (c : Nat) (est : Bool) : SameCoil n s (t.creditClose n c est) :=
  h.modValve fun _ => ⟨rfl, rfl⟩

theorem SameCoil.creditTurnOff (h : SameCoil n s t) : SameCoil n s (t.creditTurnOff n) := by
  unfold State.creditTurnOff
  split
  · exact h
  · exact h.creditClose _ _

theorem SameCoil.dropCdet (h : SameCoil n s t) : SameCoil n s (t.dropCdet n) := by
  unfold State.dropCdet
  split
  · exact h
  · have hend : SameCoil n s (t.modValve n fun v => { v with cdet := none }) := h.modValve fun _ => ⟨rfl, rfl⟩
    exact hend.creditClose _ _

section
variable (hn : n < 48)
include hn

theorem SameCoil.stopProgram (h : SameCoil n s t) : SameCoil n s (t.stopProgram n) := by
  have hseq : 0xB00 + n ≠ 0xC00 + 4 * n := by omega
  have hcur : 0x884 + 8 * n ≠ 0xC00 + 4 * n := by omega
  have hrun : 0x818 + n / 8 ≠ 0xC00 + 4 * n := by omega
  unfold State.stopProgram
  exact .modValve (.setFld (.setFld (.setFld (.setFld (.setFld h hseq) hseq) hseq) hcur) hrun) fun _ => ⟨rfl, rfl⟩

theorem SameCoil.intoSafe (h : SameCoil n s t) : SameCoil n s (t.intoSafe n) := (h.stopProgram hn).setChSt _

omit hn in
theorem SameCoil.enterOff (h : SameCoil n s t) : SameCoil n s (t.enterOff n) := .modValve (h.setChSt _) fun _ => ⟨rfl, rfl⟩

theorem SameCoil.turnOff (h : SameCoil n s t) : SameCoil n s (t.turnOff n) := by
  have hdet : SameCoil n s (((t.dropOdet n).creditTurnOff n).dropCdet n) := h.dropOdet.creditTurnOff.dropCdet
  unfold State.turnOff
  exact .ite (hdet.intoSafe hn) (hdet.stopProgram hn).enterOff

theorem SameCoil.loseState (h : SameCoil n s t) : SameCoil n s (t.loseState n) := by
  unfold State.loseState
  refine .stopProgram hn (h.modValve ?_)
  exact fun _ => ⟨rfl, rfl⟩

theorem SameCoil.turnOffUnknown (h : SameCoil n s t) : SameCoil n s (t.turnOffUnknown n) := by
  unfold State.turnOffUnknown
  refine .loseState hn (h.dropOdet.modValve ?_)
  exact fun _ => ⟨rfl, rfl⟩

/-! ### Words of the store (R184, R343) -/

theorem SameCoil.noteError (h : SameCoil n s t) (code : Nat) : SameCoil n s (t.noteError n code) := by
  have hserr : 0xB40 + n ≠ 0xC00 + 4 * n := by omega
  unfold State.noteError
  exact .setFld (.setFld (.setFld (.raise h hserr) hserr) hserr) hserr

theorem SameCoil.poisonOff (h : SameCoil n s t) : SameCoil n s (t.poisonOff n) := by
  have hsrc : srcPoisEvent < 64 := by decide
  have hoff : SameCoil n s
      (if t.isBridge n then t.turnOffUnknown n else (t.creditTurnOff n).dropOdet n |>.dropCdet n) :=
    .ite (h.turnOffUnknown hn) h.creditTurnOff.dropOdet.dropCdet
  unfold State.poisonOff
  exact .reportAt (.ite (.unknownRec (hoff.intoSafe hn).tellClosed hsrc _ _) (hoff.intoSafe hn).tellClosed) hsrc _ _

theorem SameCoil.poisonStop (h : SameCoil n s t) : SameCoil n s (t.poisonStop n) := (h.noteError hn 11).poisonOff hn

omit hn in
/-- A write of a store word leaves everything but that word. -/
theorem SameCoil.sramPut_shape (h : SameCoil n s t) {a : Nat} (ha : inShape a = true) (w : Word) (c : Nat) :
    SameCoil n s (t.sramPut a w c) := by
  obtain ⟨hw, he⟩ := inShape_only ha
  obtain ⟨m, e⟩ := t.setMemWord_same a w
  have hput : t.sramPut a w c = (t.setMemWord a w).setChk a c := by simp [State.sramPut, he, sramReg_window hw]
  rw [hput, e]
  exact h.same rfl rfl

theorem SameCoil.parityError (h : SameCoil n s t) (snap : Bool) (mask req addr : Nat) :
    SameCoil n s (t.parityError snap mask req addr) := by
  have hcount : 0x1783 ≠ 0xC00 + 4 * n := by omega
  have hlast : 0x1785 ≠ 0xC00 + 4 * n := by omega
  have hflag : 0x1786 ≠ 0xC00 + 4 * n := by omega
  unfold State.parityError
  exact .report (.errRec (.setFld (.setFld (.setFld (.setFld (.setReg (.raise
    (.ite (.setFld h hcount) (.setFld h hcount)) hflag) hlast) hlast) hlast) hlast) hlast) ..) (by decide) _

theorem SameCoil.checkRead (h : SameCoil n s t) (c req addr : Nat) : SameCoil n s (t.checkRead c req addr).2.2 := by
  have hpois : 0x1784 ≠ 0xC00 + 4 * n := by omega
  unfold State.checkRead
  split
  · exact h.setFld hpois
  · split
    · exact h.parityError hn ..
    · exact h

theorem SameCoil.sramRead_shape (h : SameCoil n s t) {a : Nat} (ha : inShape a = true) (req : Nat) :
    SameCoil n s (t.sramRead a req).2.2 := by
  unfold State.sramRead
  dsimp only
  split
  · exact h
  · exact .checkRead hn (.ite h (h.sramPut_shape ha _ _)) ..

theorem SameCoil.readSlot (h : SameCoil n s t) (slot : Nat) : SameCoil n s (t.readSlot n slot).2 := by
  unfold State.readSlot
  split
  · exact h
  · next hslot =>
    simp only [Bool.or_eq_true, decide_eq_true_eq, not_or, Nat.not_le] at hslot
    have hread := h.sramRead_shape hn (inShape_storeAddr hn (Nat.lt_trans hslot.2 (by decide))) reqSeq
    dsimp only
    split
    · exact hread
    · split <;> exact hread

/-! ### SAFEPROG, and the derating stage -/

theorem SameCoil.beginProgram (h : SameCoil n s t) (k slot pc : Nat) (recovery : Bool) :
    SameCoil n s (t.beginProgram n k slot pc recovery) := by
  have hlat : 0x883 + 8 * n ≠ 0xC00 + 4 * n := by omega
  have hseq : 0xB00 + n ≠ 0xC00 + 4 * n := by omega
  have hrun : 0x818 + n / 8 ≠ 0xC00 + 4 * n := by omega
  have hdet : SameCoil n s (if k = kOpen then t.dropCdet n else t.dropOdet n) := .ite h.dropCdet h.dropOdet
  unfold State.beginProgram
  exact .modValve (.setFld (.setFld (.setFld (.setFld (.setFld (.setFld (.setFld (.setFld (.setFld (.setFld (.setChSt
    (.ite (.setFld hdet hlat) (.setFld hdet.dropCdet hlat)) _) hseq) hseq) hseq) hseq) hseq) hseq) hseq) hseq) hseq) hrun)
    fun _ => ⟨rfl, rfl⟩

theorem SameCoil.safeInvalid (h : SameCoil n s t) {why : Nat} (hwhy : why < 64) (recovery : Bool) :
    SameCoil n s (t.safeInvalid n why recovery) := by
  have hrec := (((h.noteError hn 10).turnOffUnknown hn).unknownRec hwhy n (faultAddr why n))
  unfold State.safeInvalid
  exact .report (.ite hrec.enterOff (hrec.setChSt _)) (by decide) _

theorem SameCoil.startSafe (h : SameCoil n s t) {why : Nat} (hwhy : why < 64) (recovery : Bool) :
    SameCoil n s (t.startSafe n why recovery) := by
  have hread := h.readSlot hn (t.fld (F.VDA_CHn_PROG_SAFEPROG n))
  unfold State.startSafe
  split
  · next e => rw [e] at hread; exact .modValve (hread.beginProgram hn ..) fun _ => ⟨rfl, rfl⟩
  · next e => rw [e] at hread; exact hread.safeInvalid hn hwhy recovery
  · next e => rw [e] at hread; exact hread.poisonStop hn

/-- Entry to stage 3 turns the channel off, or starts SAFEPROG, and reports; the coil stays as hot as it is (R195). -/
theorem SameCoil.overTemp (h : SameCoil n s t) : SameCoil n s (t.overTemp n) := by
  have hsrc : srcCoilHot < 64 := by decide
  have hotf : SameCoil n s (t.raise (F.VDA_CHn_TH_OTF n)) :=
    (h.setLow rfl (by decide : 2 < 8) : SameCoil n s (t.setFlag (F.VDA_CHn_TH_OTF n) true)).same rfl rfl
  unfold State.overTemp
  exact .report (.ite (.ite (hotf.tellClosed.dropOdet.startSafe hn hsrc true) (hotf.turnOff hn).tellClosed) hotf) hsrc n

theorem State.judgeStage_sameCoil (s : State) (tw : Rat) : SameCoil n s (s.judgeStage n tw) := by
  have hstage {k : Nat} : SameCoil n s (s.setFld (F.VDA_CHn_TH_STAGE n) k) := (SameCoil.refl n s).setLow rfl (by decide : 4 < 8)
  unfold State.judgeStage
  exact .ite (hstage.overTemp hn) hstage

end
end

end Sys2Proof.Machine
end

section
/-! PROOF. One update of a channel's coil model (R188, R190): with EN = 0, with EN = 1, and the first one; and the instants of model
updates. -/

namespace Sys2Proof.Machine

open Sys2Proof

/-! ### Instants -/

/-- The next instant of a class whose period divides 2^40: a multiple of the period, not before now. -/
theorem State.nextInstant_multiple (s : State) (k : Nat) {p : Nat} (hdvd : p ∣ 2 ^ 40) (hp : p ≤ 2 ^ 38) :
    s.nextInstant k p 0 % p = 0 ∧ s.nextInstant k p 0 < 2 ^ 40 ∧ 0 ≤ dist (s.nextInstant k p 0) s.now := by
  have hpos : 0 < p := Nat.pos_of_dvd_of_pos hdvd (by decide)
  have hnow := s.now_lt
  have hwait : (0 + p - s.now % p) % p < p := Nat.mod_lt _ hpos
  have hmul : (s.now + (0 + p - s.now % p) % p) % p = 0 := by
    have hrest := Nat.mod_lt s.now hpos
    rw [Nat.add_mod_mod, Nat.add_mod, show 0 + p - s.now % p = p - s.now % p by omega]
    obtain h0 | hpos' := Nat.eq_zero_or_pos (s.now % p)
    · simp [h0]
    · rw [Nat.mod_eq_of_lt (by omega : p - s.now % p < p), Nat.add_sub_cancel' hrest.le, Nat.mod_self]
  have hfirst : (s.now + (0 + p - s.now % p) % p) % mod40 % p = 0 := by rw [mod40, Nat.mod_mod_of_dvd _ hdvd, hmul]
  have hsecond : ((s.now + (0 + p - s.now % p) % p) % mod40 + p) % mod40 % p = 0 := by
    rw [mod40, Nat.mod_mod_of_dvd _ hdvd, Nat.add_mod_right]
    exact hfirst
  have hlt (x : Nat) : x % mod40 < 2 ^ 40 := Nat.mod_lt _ (by decide)
  have hdist {c d : Nat} (hd : d < 2 ^ 39) (hc : c = (s.now + d) % mod40) : 0 ≤ dist c s.now := by
    have hcases := dist_cases c s.now (hc ▸ hlt _) hnow
    unfold mod40 at hc
    omega
  unfold State.nextInstant
  dsimp only
  split
  · exact ⟨hsecond, hlt _, hdist (d := (0 + p - s.now % p) % p + p) (by omega) (by rw [Nat.mod_add_mod, Nat.add_assoc])⟩
  · exact ⟨hfirst, hlt _, hdist (by omega) rfl⟩

theorem State.takeInstant_multiple (s : State) (k : Nat) {p : Nat} (hdvd : p ∣ 2 ^ 40) (hp : p ≤ 2 ^ 38)
    (hfrac : s.clk.frac < tbUnit) : (s.takeInstant k p 0).now % p = 0 := by
  obtain ⟨hmul, hlt, hdist⟩ := s.nextInstant_multiple k hdvd hp
  have hnow : (s.takeInstant k p 0).now = s.nextInstant k p 0 := s.advTo_now_of_le hfrac hlt hdist
  rw [hnow, hmul]

/-! ### Signed fields of 16 bits -/

theorem sx_wrapW_16 {x : Int} (hlo : -2 ^ 15 ≤ x) (hhi : x < 2 ^ 15) : sx 16 (wrapW 16 x) = x := by
  unfold sx wrapW
  split <;> omega

theorem sx_16_bounds (x : Nat) : -2 ^ 15 ≤ sx 16 x ∧ sx 16 x < 2 ^ 15 := by
  unfold sx
  split <;> omega

theorem satS_16_bounds (x : Int) : -2 ^ 15 ≤ satS 16 x ∧ satS 16 x < 2 ^ 15 := by
  unfold satS clampI
  split
  · omega
  · split <;> omega

/-! ### What an update does -/

/-- The samples of the millisecond are taken into the update, and the next millisecond starts (R188). -/
def State.endMs (s : State) (n : Nat) : State := s.setValve n { s.valve n with qsum := 0, qcnt := 0 }

/-- The time of an update in seconds (R188, R190). -/
def State.modelDt (s : State) : Rat := if s.gated then 1 else 1 / 1000

/-- The power in the winding in W (R188, R190). -/
def State.windingPower (s : State) (n : Nat) (tw : Rat) : Rat :=
  if s.gated then 0 else
    ((s.valve n).qsum : Rat) / (s.valve n).qcnt / 10 ^ 6 * (rCu (s.fld (F.VDA_CHn_TLIM_R20 n)) tw / 100)

/-- The heat that flows from the winding to the body in W (R188). -/
def State.bodyFlow (s : State) (n : Nat) (tw tb : Rat) : Rat := (tw - tb) / ((s.fld (F.VDA_CHn_TPAR_RWB n) : Rat) / 10)

/-- The first equation of R188. -/
def State.nextWinding (s : State) (n : Nat) (tw tb : Rat) : Rat :=
  tw + s.modelDt / ((s.fld (F.VDA_CHn_TPAR_CW n) : Rat) / 10) * (s.windingPower n tw - s.bodyFlow n tw tb)

/-- The second equation of R188. -/
def State.nextBody (s : State) (n : Nat) (tw tb : Rat) : Rat :=
  tb + s.modelDt / (s.fld (F.VDA_CHn_TPAR_CB n) : Rat) *
    (s.bodyFlow n tw tb - (tb - s.ambient) / ((s.fld (F.VDA_CHn_TPAR_RBA n) : Rat) / 10))

/-- The channel takes both temperatures. -/
def State.setTemps (s : State) (n : Nat) (tw tb : Rat) : State := s.modValve n (fun v => { v with tw := some tw, tb := some tb })

/-- TW and TB show these values. -/
def State.showTemps (s : State) (n : Nat) (tw tb : Int) : State :=
  (s.setFldI (F.VDA_CHn_TH_TW n) tw).setFldI (F.VDA_CHn_TH_TB n) tb

/-- The node judges the stage after the first update only with EN = 1. -/
def State.judgeFirst (s : State) (n : Nat) : State := if s.flag (F.VDA_CHn_TH_EN n) then s.judgeStage n s.ambient else s

/-- With no parameter 0 a step follows both equations of R188. -/
theorem State.thermalStep_eq (s : State) {n : Nat} (tw tb dt p : Rat) (hcw : s.fld (F.VDA_CHn_TPAR_CW n) ≠ 0)
    (hcb : s.fld (F.VDA_CHn_TPAR_CB n) ≠ 0) (hrwb : s.fld (F.VDA_CHn_TPAR_RWB n) ≠ 0) (hrba : s.fld (F.VDA_CHn_TPAR_RBA n) ≠ 0) :
    s.thermalStep n tw tb dt p =
      (tw + dt / ((s.fld (F.VDA_CHn_TPAR_CW n) : Rat) / 10) * (p - s.bodyFlow n tw tb),
        tb + dt / (s.fld (F.VDA_CHn_TPAR_CB n) : Rat) *
          (s.bodyFlow n tw tb - (tb - s.ambient) / ((s.fld (F.VDA_CHn_TPAR_RBA n) : Rat) / 10)), s) := by
  unfold State.thermalStep State.bodyFlow
  simp only [hcw, hcb, hrwb, hrba, decide_false, Bool.or_false, Bool.false_eq_true, if_false]

section
variable {s : State} {n : Nat} {tw tb : Rat} (hodd : s.isOddOfPair n = false)
include hodd

theorem State.modelOne_disabled (htw : (s.valve n).tw = some tw) (htb : (s.valve n).tb = some tb)
    (hen : s.flag (F.VDA_CHn_TH_EN n) = false) :
    s.modelOne n = (s.endMs n).modValve n (fun v => { v with rmPend := none }) := by
  unfold State.modelOne
  extract_lets +onlyGivenNames v i2 u
  have hodd' : u.isOddOfPair n = false := hodd
  have hen' : u.flag (F.VDA_CHn_TH_EN n) = false := hen
  have htw' : v.tw = some tw := htw
  have htb' : v.tb = some tb := htb
  simp only [hodd', hen', htw', htb', Bool.not_false, Bool.false_eq_true, if_false, if_true]
  rfl

/-- With samples, no measurement to take in and no parameter 0, an update follows R188. -/
theorem State.modelOne_enabled (htw : (s.valve n).tw = some tw) (htb : (s.valve n).tb = some tb)
    (hen : s.flag (F.VDA_CHn_TH_EN n) = true) (hcnt : (s.valve n).qcnt ≠ 0) (hpend : (s.valve n).rmPend = none)
    (hcw : s.fld (F.VDA_CHn_TPAR_CW n) ≠ 0) (hcb : s.fld (F.VDA_CHn_TPAR_CB n) ≠ 0)
    (hrwb : s.fld (F.VDA_CHn_TPAR_RWB n) ≠ 0) (hrba : s.fld (F.VDA_CHn_TPAR_RBA n) ≠ 0) : ∃ (u : State) (x y : Int),
    s.modelOne n = ((u.setTemps n (s.nextWinding n tw tb) (s.nextBody n tw tb)).showTemps n x y).judgeStage n
      (s.nextWinding n tw tb) := by
  unfold State.modelOne
  extract_lets +onlyGivenNames v i2 u
  have hodd' : u.isOddOfPair n = false := hodd
  have hen' : u.flag (F.VDA_CHn_TH_EN n) = true := hen
  have htw' : v.tw = some tw := htw
  have htb' : v.tb = some tb := htb
  have hpend' : v.rmPend = none := hpend
  have hmean : i2 = (v.qsum : Rat) / v.qcnt := if_neg hcnt
  simp only [hodd', hen', htw', htb', hpend', Bool.not_true, Bool.false_eq_true, if_false]
  rw [State.thermalStep_eq (u.setValve n (u.valve n)) tw tb _ _ hcw hcb hrwb hrba, hmean]
  exact ⟨_, _, _, rfl⟩

/-- The first update outside BOOT takes the temperatures from the ambient (R190). -/
theorem State.modelOne_first (htw : (s.valve n).tw = none) (hmode : s.modeNow ≠ modeBoot) :
    s.modelOne n = (((s.endMs n).setTemps n s.ambient s.ambient).showTemps n (s.fldI F.VDA_TAMB_TAMB)
      (s.fldI F.VDA_TAMB_TAMB)).judgeFirst n := by
  unfold State.modelOne
  extract_lets +onlyGivenNames v i2 u
  have hodd' : u.isOddOfPair n = false := hodd
  have hmode' : u.modeNow ≠ modeBoot := hmode
  have htw' : v.tw = none := htw
  simp only [hodd', htw', hmode', Bool.false_eq_true, if_false]
  rfl

end

/-! ### What an update leaves -/

theorem State.setTemps_valve (s : State) (n : Nat) (tw tb : Rat) :
    (s.setTemps n tw tb).valve n = { s.valve n with tw := some tw, tb := some tb } := s.valve_modValve_same n _

theorem State.showTemps_valve (s : State) (n : Nat) (tw tb : Int) : (s.showTemps n tw tb).valve n = s.valve n := rfl

theorem State.showTemps_shown (s : State) (n : Nat) {tw tb : Int} (hw : -2 ^ 15 ≤ tw ∧ tw < 2 ^ 15) (hb : -2 ^ 15 ≤ tb ∧ tb < 2 ^ 15) :
    (s.showTemps n tw tb).fldI (F.VDA_CHn_TH_TW n) = tw ∧ (s.showTemps n tw tb).fldI (F.VDA_CHn_TH_TB n) = tb := by
  obtain ⟨hwlo, hwhi⟩ := hw
  obtain ⟨hblo, hbhi⟩ := hb
  unfold State.showTemps
  constructor
  · exact (State.fldI_setFld_disj _ (F.VDA_CHn_TH_TB n) (F.VDA_CHn_TH_TW n) _ rfl (.inr (by decide : 23 < 24))).trans
      ((State.fldI_setFldI_same s (F.VDA_CHn_TH_TW n) tw rfl).trans (sx_wrapW_16 hwlo hwhi))
  · exact (State.fldI_setFldI_same _ (F.VDA_CHn_TH_TB n) tb rfl).trans (sx_wrapW_16 hblo hbhi)

theorem SameCoil.fldI {n : Nat} {s t : State} (h : SameCoil n s t) {f : Fld} (ha : f.addr = 0xC00 + 4 * n) (hlo : 7 < f.lo) :
    t.fldI f = s.fldI f := congrArg (sx f.width) (h.shown f ha hlo)

theorem State.judgeFirst_sameCoil (s : State) {n : Nat} (hn : n < 48) : SameCoil n s (s.judgeFirst n) :=
  .ite (s.judgeStage_sameCoil hn _) (.refl n s)

end Sys2Proof.Machine

namespace Sys2Proof.Proofs

open Sys2Proof Sys2Proof.Machine

section
variable {s : State} {n : Nat}

theorem modelOne_disabled_facts {tw tb : Rat} (hodd : s.isOddOfPair n = false) (htw : (s.valve n).tw = some tw)
    (htb : (s.valve n).tb = some tb) (hen : s.flag (F.VDA_CHn_TH_EN n) = false) :
    (s.modelOne n).regs = s.regs ∧ ((s.modelOne n).valve n).tw = some tw ∧ ((s.modelOne n).valve n).qcnt = 0 ∧
      ((s.modelOne n).valve n).rmPend = none := by
  rw [State.modelOne_disabled hodd htw htb hen, State.valve_modValve_same, State.endMs, State.valve_setValve_same]
  exact ⟨rfl, htw, rfl, rfl⟩

theorem modelOne_enabled_winding {tw tb : Rat} (hn : n < 48) (hodd : s.isOddOfPair n = false) (htw : (s.valve n).tw = some tw)
    (htb : (s.valve n).tb = some tb) (hen : s.flag (F.VDA_CHn_TH_EN n) = true) (hcnt : (s.valve n).qcnt ≠ 0)
    (hpend : (s.valve n).rmPend = none) (hcw : s.fld (F.VDA_CHn_TPAR_CW n) ≠ 0) (hcb : s.fld (F.VDA_CHn_TPAR_CB n) ≠ 0)
    (hrwb : s.fld (F.VDA_CHn_TPAR_RWB n) ≠ 0) (hrba : s.fld (F.VDA_CHn_TPAR_RBA n) ≠ 0) :
    ((s.modelOne n).valve n).tw = some (s.nextWinding n tw tb) := by
  obtain ⟨u, x, y, hupdate⟩ := State.modelOne_enabled hodd htw htb hen hcnt hpend hcw hcb hrwb hrba
  rw [hupdate, (State.judgeStage_sameCoil hn _ _).winding, State.showTemps_valve, State.setTemps_valve]

theorem modelOne_first_facts (hn : n < 48) (hodd : s.isOddOfPair n = false) (htw : (s.valve n).tw = none)
    (hmode : s.modeNow ≠ modeBoot) :
    ((s.modelOne n).valve n).tw = some s.ambient ∧ ((s.modelOne n).valve n).tb = some s.ambient ∧
      (s.modelOne n).fldI (F.VDA_CHn_TH_TW n) = s.fldI F.VDA_TAMB_TAMB ∧
      (s.modelOne n).fldI (F.VDA_CHn_TH_TB n) = s.fldI F.VDA_TAMB_TAMB := by
  have hta : -2 ^ 15 ≤ s.fldI F.VDA_TAMB_TAMB ∧ s.fldI F.VDA_TAMB_TAMB < 2 ^ 15 := sx_16_bounds _
  obtain ⟨hshowW, hshowB⟩ := State.showTemps_shown ((s.endMs n).setTemps n s.ambient s.ambient) n hta hta
  have hcoil := State.judgeFirst_sameCoil (((s.endMs n).setTemps n s.ambient s.ambient).showTemps n (s.fldI F.VDA_TAMB_TAMB)
    (s.fldI F.VDA_TAMB_TAMB)) hn
  have hvalve := State.setTemps_valve (s.endMs n) n s.ambient s.ambient
  rw [State.modelOne_first hodd htw hmode]
  refine ⟨?_, ?_, (hcoil.fldI rfl (by decide : 7 < 24)).trans hshowW, (hcoil.fldI rfl (by decide : 7 < 8)).trans hshowB⟩
  · rw [hcoil.winding, State.showTemps_valve, hvalve]
  · rw [hcoil.body, State.showTemps_valve, hvalve]

end

/-! ### MODEL_UPDATE and AMBIENT_SENSOR_WRITE -/

/-- The instant of a model update. -/
def toModelUpdate (s : State) : State := s.takeInstant clsModel (if s.gated then 2 ^ 20 else 1024) 0

theorem exec_modelUpdate (s : State) (hrun : s.boot.halted = false) :
    exec .modelUpdate s = .next ((List.range 48).foldl (fun s n => s.modelOne n) (toModelUpdate s)) := by
  show execModelUpdate s = _
  exact s.clocked_running _ hrun

theorem toModelUpdate_now (s : State) (hcanon : s.canonical = true) :
    (toModelUpdate s).now % (if s.gated then 2 ^ 20 else 1024) = 0 := by
  have hfrac := s.frac_lt_of_canonical hcanon
  unfold toModelUpdate
  split
  · exact s.takeInstant_multiple clsModel (by decide) (by decide) hfrac
  · exact s.takeInstant_multiple clsModel (by decide) (by decide) hfrac

/-- The instant at which the air sensor is read. -/
def toAmbient (s : State) : State := s.takeInstant clsAmbient (2 ^ 20) 0

theorem exec_ambientSensorWrite (s : State) (x : Int) (hrun : s.boot.halted = false) : exec (.ambientSensorWrite x) s =
    .next (if s.flag F.VDA_TAMB_SRC then toAmbient s else (toAmbient s).update F.VDA_TAMB_TAMB (wrapW 16 (satS 16 x))) := by
  have hsrc : (toAmbient s).flag F.VDA_TAMB_SRC = s.flag F.VDA_TAMB_SRC :=
    State.flag_of_reg _ (s.takeInstant_reg clsAmbient (2 ^ 20) 0 (by decide))
  show execAmbientSensorWrite x s = _
  rw [execAmbientSensorWrite, s.clocked_running _ hrun]
  dsimp only
  rw [← toAmbient, hsrc]
  split <;> rfl

theorem ambientSensorWrite_facts (s : State) (x : Int) : ∀ t,
    t = (if s.flag F.VDA_TAMB_SRC then toAmbient s else (toAmbient s).update F.VDA_TAMB_TAMB (wrapW 16 (satS 16 x))) →
    t.mem = s.mem ∧ t.valves = s.valves ∧ (s.flag F.VDA_TAMB_SRC = false → t.fldI F.VDA_TAMB_TAMB = satS 16 x) ∧
      (s.flag F.VDA_TAMB_SRC = true → t.fldI F.VDA_TAMB_TAMB = s.fldI F.VDA_TAMB_TAMB) ∧
      ∀ i, i ≠ 0x200 → i ≠ F.VDA_TAMB_TAMB.addr → t.reg i = s.reg i := by
  rintro t rfl
  have hreg {i : Nat} (htime : i ≠ 0x200) : (toAmbient s).reg i = s.reg i := s.takeInstant_reg clsAmbient (2 ^ 20) 0 htime
  obtain ⟨r, k, hsame⟩ := s.takeInstant_same clsAmbient (2 ^ 20) 0
  have hparts : (toAmbient s).mem = s.mem ∧ (toAmbient s).valves = s.valves := by rw [toAmbient, hsame]; exact ⟨rfl, rfl⟩
  obtain ⟨hmem, hvalves⟩ := hparts
  obtain ⟨hlo, hhi⟩ := satS_16_bounds x
  cases hsrc : s.flag F.VDA_TAMB_SRC with
  | true =>
    exact ⟨hmem, hvalves, fun h => absurd h (by decide), fun _ => State.fldI_of_reg F.VDA_TAMB_TAMB (hreg (by decide)),
      fun i htime _ => hreg htime⟩
  | false =>
    refine ⟨hmem, hvalves, fun _ => ?_, fun h => absurd h (by decide), fun i htime hi => ?_⟩
    · exact ((toAmbient s).fldI_setFldI_same F.VDA_TAMB_TAMB (satS 16 x) rfl).trans (sx_wrapW_16 hlo hhi)
    · exact ((toAmbient s).update_reg_ne F.VDA_TAMB_TAMB _ hi).trans (hreg htime)

end Sys2Proof.Proofs
end

section
/-! PROOF. Writes of the latency registers and of the shape stores (R186, R199, R201): LATENCY_ESTIMATE_WRITE, LATENCY_BAND_WRITE and
SHAPE_STORE_WRITE. -/

namespace Sys2Proof.Machine

open Sys2Proof

/-! ### The band (R199) -/

/-- The estimate of a direction, in units of 1/256 µs; `o` selects the open one. -/
def ValveSt.estimate (v : ValveSt) (o : Bool) : Nat := if o then v.lo else v.lc

/-- The last judgement of an estimate found it outside the band. -/
def ValveSt.wasOut (v : ValveSt) (o : Bool) : Bool := if o then v.outO else v.outC

/-- A judgement of an estimate is noted. -/
def ValveSt.noteOut (v : ValveSt) (o b : Bool) : ValveSt := if o then { v with outO := b } else { v with outC := b }

theorem ValveSt.noteOut_estimate (v : ValveSt) (o b d : Bool) : (v.noteOut o b).estimate d = v.estimate d := by
  cases o <;> rfl

theorem ValveSt.noteOut_same (v : ValveSt) (o b : Bool) : (v.noteOut o b).wasOut o = b := by cases o <;> rfl

theorem ValveSt.noteOut_other (v : ValveSt) (o b : Bool) : (v.noteOut o b).wasOut (!o) = v.wasOut (!o) := by cases o <;> rfl

/-- OOOB or COOB. -/
def bandFlag (n : Nat) (o : Bool) : Fld := if o then F.VDA_CHn_LSTAT_OOOB n else F.VDA_CHn_LSTAT_COOB n

theorem bandFlag_addr (n : Nat) (o : Bool) : (bandFlag n o).addr = 0xD02 + 4 * n := by cases o <;> rfl
theorem bandFlag_ok (n : Nat) (o : Bool) : (bandFlag n o).ok = true := by cases o <;> rfl
theorem bandFlag_hi (n : Nat) (o : Bool) : (bandFlag n o).hi < 3 := by
  cases o
  · exact (by decide : 2 < 3)
  · exact (by decide : 1 < 3)

theorem bandFlag_apart (n : Nat) (o : Bool) : (bandFlag n (!o)).hi < (bandFlag n o).lo ∨ (bandFlag n o).hi < (bandFlag n (!o)).lo := by
  cases o
  · exact .inl (by decide : 1 < 2)
  · exact .inr (by decide : 1 < 2)

/-- An estimate lies outside its band: the used latency is not the estimate. -/
def State.outOfBand (s : State) (n : Nat) (o : Bool) : Bool := s.usedLatency n o != (s.valve n).estimate o

/-- The judgement is noted in the channel. -/
def State.noteBand (s : State) (n : Nat) (o : Bool) : State := s.setValve n ((s.valve n).noteOut o (s.outOfBand n o))

/-- A judgement reports an estimate that leaves the band, once. -/
theorem State.judgeBand_cases (s : State) (n : Nat) (o : Bool) :
    ((s.outOfBand n o && !(s.valve n).wasOut o) = true ∧
      s.judgeBand n o = ((s.noteBand n o).raise (bandFlag n o)).report srcLatBand n) ∨
    ((s.outOfBand n o && !(s.valve n).wasOut o) = false ∧ s.judgeBand n o = s.noteBand n o) := by
  cases h : s.outOfBand n o && !(s.valve n).wasOut o with
  | true => exact .inl ⟨rfl, if_pos h⟩
  | false => exact .inr ⟨rfl, if_neg (Bool.eq_false_iff.1 h)⟩

theorem State.judgeBand_mem (s : State) (n : Nat) (o : Bool) : (s.judgeBand n o).mem = s.mem := by
  obtain ⟨-, e⟩ | ⟨-, e⟩ := s.judgeBand_cases n o <;> rw [e]
  · exact (State.reportAt_reported _ srcLatBand n _).mem
  · rfl

theorem State.judgeBand_valve (s : State) (n : Nat) (o : Bool) (m : Nat) :
    (s.judgeBand n o).valve m = if m = n then (s.valve n).noteOut o (s.outOfBand n o) else s.valve m := by
  have hnote : (s.noteBand n o).valve m = if m = n then (s.valve n).noteOut o (s.outOfBand n o) else s.valve m :=
    s.valve_setValve n m _
  obtain ⟨-, e⟩ | ⟨-, e⟩ := s.judgeBand_cases n o <;> rw [e]
  · rw [State.report_valve]
    exact hnote
  · exact hnote

theorem State.judgeBand_reg (s : State) (n : Nat) (o : Bool) {i : Nat} (hi : 0x800 ≤ i) (hne : i ≠ 0xD02 + 4 * n) :
    (s.judgeBand n o).reg i = s.reg i := by
  obtain ⟨-, e⟩ | ⟨-, e⟩ := s.judgeBand_cases n o <;> rw [e]
  · have hrep : i ∉ reportRegs srcLatBand := by
      simp only [reportRegs, F.FSV_SRCs_STAT_w, F.EVS_Qn_ERR_w, srcLatBand, List.mem_cons, List.not_mem_nil, or_false]
      omega
    exact ((State.reportAt_reported _ srcLatBand n _).reg hrep).trans (State.raise_reg_ne _ _ ((bandFlag_addr n o).symm ▸ hne))
  · rfl

theorem State.judgeBand_fld (s : State) (n : Nat) (o : Bool) {f : Fld} (hf : 0x800 ≤ f.addr)
    (hd : f.hi < (bandFlag n o).lo ∨ (bandFlag n o).hi < f.lo) : (s.judgeBand n o).fld f = s.fld f := by
  obtain ⟨-, e⟩ | ⟨-, e⟩ := s.judgeBand_cases n o <;> rw [e]
  · exact (State.report_fld _ n (by decide : srcLatBand < 64) hf).trans (State.raise_fld_disj _ _ f (bandFlag_ok n o) hd)
  · rfl

theorem State.judgeBand_flag (s : State) (n : Nat) (o : Bool) : (s.judgeBand n o).flag (bandFlag n o) =
    (s.flag (bandFlag n o) || (s.outOfBand n o && !(s.valve n).wasOut o)) := by
  obtain ⟨hleaves, e⟩ | ⟨hleaves, e⟩ := s.judgeBand_cases n o <;> rw [e, hleaves]
  · rw [Bool.or_true]
    exact (State.flag_of_fld _ (State.report_fld _ n (by decide : srcLatBand < 64) (by rw [bandFlag_addr]; omega))).trans
      (State.raise_flag_same _ _ (bandFlag_ok n o))
  · rw [Bool.or_false]
    rfl

theorem State.judgeBand_estimate (s : State) (n : Nat) (o d : Bool) :
    ((s.judgeBand n o).valve n).estimate d = (s.valve n).estimate d := by
  rw [State.judgeBand_valve, if_pos rfl, ValveSt.noteOut_estimate]

/-- The used latency depends on the band and the estimate. -/
theorem State.outOfBand_congr {s t : State} {n : Nat} (hband : t.reg (0xD01 + 4 * n) = s.reg (0xD01 + 4 * n)) (o : Bool)
    (he : (t.valve n).estimate o = (s.valve n).estimate o) : t.outOfBand n o = s.outOfBand n o := by
  have hfld {f : Fld} (hf : f.addr = 0xD01 + 4 * n) : t.fld f = s.fld f := State.fld_of_reg f (hf ▸ hband)
  have hused : t.usedLatency n o = s.usedLatency n o := by
    unfold State.usedLatency
    rw [hfld (f := F.VDA_CHn_LBAND_OMIN n) rfl, hfld (f := F.VDA_CHn_LBAND_OMAX n) rfl, hfld (f := F.VDA_CHn_LBAND_CMIN n) rfl,
      hfld (f := F.VDA_CHn_LBAND_CMAX n) rfl]
    unfold ValveSt.estimate at he
    rw [he]
  rw [State.outOfBand, State.outOfBand, hused, he]

theorem State.judgeBand_outOfBand (s : State) (n : Nat) (o d : Bool) : (s.judgeBand n o).outOfBand n d = s.outOfBand n d :=
  State.outOfBand_congr (s.judgeBand_reg n o (by omega) (by omega)) d (s.judgeBand_estimate n o d)

theorem State.judgeBand_flag_other (s : State) (n : Nat) (o : Bool) :
    (s.judgeBand n o).flag (bandFlag n (!o)) = s.flag (bandFlag n (!o)) :=
  State.flag_of_fld _ (s.judgeBand_fld n o (by rw [bandFlag_addr]; omega) (bandFlag_apart n o))

theorem State.judgeBand_wasOut_same (s : State) (n : Nat) (o : Bool) :
    ((s.judgeBand n o).valve n).wasOut o = s.outOfBand n o := by
  rw [State.judgeBand_valve, if_pos rfl, ValveSt.noteOut_same]

theorem State.judgeBand_wasOut_other (s : State) (n : Nat) (o : Bool) :
    ((s.judgeBand n o).valve n).wasOut (!o) = (s.valve n).wasOut (!o) := by
  rw [State.judgeBand_valve, if_pos rfl, ValveSt.noteOut_other]

/-- Both estimates are judged, the open one first. -/
def State.judgeBands (s : State) (n : Nat) : State := (s.judgeBand n true).judgeBand n false

section
variable (s : State) (n : Nat)

theorem State.judgeBands_mem : (s.judgeBands n).mem = s.mem := (State.judgeBand_mem _ n false).trans (s.judgeBand_mem n true)

theorem State.judgeBands_reg {i : Nat} (hi : 0x800 ≤ i) (hne : i ≠ 0xD02 + 4 * n) : (s.judgeBands n).reg i = s.reg i :=
  (State.judgeBand_reg _ n false hi hne).trans (s.judgeBand_reg n true hi hne)

theorem State.judgeBands_estimate (d : Bool) : ((s.judgeBands n).valve n).estimate d = (s.valve n).estimate d := by
  rw [State.judgeBands, State.judgeBand_estimate, State.judgeBand_estimate]

theorem State.judgeBands_outOfBand (d : Bool) : (s.judgeBands n).outOfBand n d = s.outOfBand n d := by
  rw [State.judgeBands, State.judgeBand_outOfBand, State.judgeBand_outOfBand]

theorem State.judgeBands_wasOut (d : Bool) : ((s.judgeBands n).valve n).wasOut d = s.outOfBand n d := by
  cases d with
  | false => exact (State.judgeBand_wasOut_same _ n false).trans (s.judgeBand_outOfBand n true false)
  | true => exact (State.judgeBand_wasOut_other _ n false).trans (s.judgeBand_wasOut_same n true)

/-- A flag is set where its estimate leaves the band, and stays otherwise (R199). -/
theorem State.judgeBands_flag (d : Bool) : (s.judgeBands n).flag (bandFlag n d) =
    (s.flag (bandFlag n d) || (s.outOfBand n d && !(s.valve n).wasOut d)) := by
  cases d with
  | false =>
    have hflag : (s.judgeBand n true).flag (bandFlag n false) = s.flag (bandFlag n false) := s.judgeBand_flag_other n true
    have hwas : ((s.judgeBand n true).valve n).wasOut false = (s.valve n).wasOut false := s.judgeBand_wasOut_other n true
    rw [State.judgeBands, State.judgeBand_flag, State.judgeBand_outOfBand, hflag, hwas]
  | true => exact (State.judgeBand_flag_other _ n false).trans (s.judgeBand_flag n true)

end

/-! ### The estimates (R201) -/

/-- LOPEN or LCLOSE, and the count of its direction. -/
def estimateFld (n : Nat) (o : Bool) : Fld := if o then F.VDA_CHn_LRN_LOPEN n else F.VDA_CHn_LRN_LCLOSE n
def countFld (n : Nat) (o : Bool) : Fld := if o then F.VDA_CHn_LSTAT_NO n else F.VDA_CHn_LSTAT_NC n

theorem countFld_addr (n : Nat) (o : Bool) : (countFld n o).addr = 0xD02 + 4 * n := by cases o <;> rfl
theorem countFld_ok (n : Nat) (o : Bool) : (countFld n o).ok = true := by cases o <;> rfl
theorem countFld_width (n : Nat) (o : Bool) : (countFld n o).width = 8 := by cases o <;> rfl
theorem countFld_lo (n : Nat) (o : Bool) : 24 ≤ (countFld n o).lo := by
  cases o
  · exact (by decide : 24 ≤ 24)
  · exact (by decide : 24 ≤ 32)

theorem countFld_apart (n : Nat) (o : Bool) : (countFld n (!o)).hi < (countFld n o).lo ∨ (countFld n o).hi < (countFld n (!o)).lo := by
  cases o
  · exact .inr (by decide : 31 < 32)
  · exact .inl (by decide : 31 < 32)

/-- A new estimate. -/
def ValveSt.setEstimate (v : ValveSt) (o : Bool) (e : Nat) : ValveSt := if o then { v with lo := e } else { v with lc := e }

theorem ValveSt.setEstimate_same (v : ValveSt) (o : Bool) (e : Nat) : (v.setEstimate o e).estimate o = e := by cases o <;> rfl

theorem ValveSt.setEstimate_other (v : ValveSt) (o : Bool) (e : Nat) : (v.setEstimate o e).estimate (!o) = v.estimate (!o) := by
  cases o <;> rfl

/-- The estimate of a direction and its count before its judgement. -/
def State.putEstimate (s : State) (n : Nat) (o : Bool) (g : Nat) : State :=
  (s.modValve n fun v => v.setEstimate o (s.fld (estimateFld n o) * 256)).setFld (countFld n o) g

/-- The estimate of a direction is the one that VDA_CHn_LRN shows, with the count `g`. -/
def State.takeEstimate (s : State) (n : Nat) (o : Bool) (g : Nat) : State := (s.putEstimate n o g).judgeBand n o

section
variable (s : State) (n : Nat) (o : Bool) (g : Nat)

theorem State.putEstimate_valve (m : Nat) : (s.putEstimate n o g).valve m =
    if m = n then (s.valve n).setEstimate o (s.fld (estimateFld n o) * 256) else s.valve m :=
  s.valve_modValve n m fun v => v.setEstimate o (s.fld (estimateFld n o) * 256)

theorem State.takeEstimate_mem : (s.takeEstimate n o g).mem = s.mem := State.judgeBand_mem _ n o

theorem State.takeEstimate_valve {m : Nat} (h : m ≠ n) : (s.takeEstimate n o g).valve m = s.valve m := by
  rw [State.takeEstimate, State.judgeBand_valve, if_neg h, State.putEstimate_valve, if_neg h]

theorem State.takeEstimate_same : ((s.takeEstimate n o g).valve n).estimate o = s.fld (estimateFld n o) * 256 := by
  rw [State.takeEstimate, State.judgeBand_estimate, State.putEstimate_valve, if_pos rfl, ValveSt.setEstimate_same]

theorem State.takeEstimate_other : ((s.takeEstimate n o g).valve n).estimate (!o) = (s.valve n).estimate (!o) := by
  rw [State.takeEstimate, State.judgeBand_estimate, State.putEstimate_valve, if_pos rfl, ValveSt.setEstimate_other]

theorem State.takeEstimate_reg {i : Nat} (hi : 0x800 ≤ i) (hne : i ≠ 0xD02 + 4 * n) : (s.takeEstimate n o g).reg i = s.reg i :=
  (State.judgeBand_reg _ n o hi hne).trans (State.reg_setFld_ne _ (countFld n o) g ((countFld_addr n o).symm ▸ hne))

theorem State.takeEstimate_judged (d : Bool) : (s.takeEstimate n o g).fld (countFld n d) = (s.putEstimate n o g).fld (countFld n d) := by
  have hlo := countFld_lo n d
  have hhi := bandFlag_hi n o
  exact State.judgeBand_fld _ n o (by rw [countFld_addr]; omega) (.inr (by omega))

theorem State.takeEstimate_count (hg : g < 2 ^ 8) : (s.takeEstimate n o g).fld (countFld n o) = g := by
  rw [State.takeEstimate_judged, State.putEstimate, State.fld_setFld_same _ _ _ (countFld_ok n o), countFld_width,
    Nat.mod_eq_of_lt hg]

theorem State.takeEstimate_count_other : (s.takeEstimate n o g).fld (countFld n (!o)) = s.fld (countFld n (!o)) := by
  rw [State.takeEstimate_judged, State.putEstimate, State.fld_setFld_disj _ _ _ _ (countFld_ok n o) (countFld_apart n o)]
  rfl

end

/-- What a write of VDA_CHn_LRN leaves where the learner has just updated neither estimate. -/
theorem State.writeLearn_calm (s : State) (n : Nat) (v : Word) (h : s.fresh (0xD00 + 4 * n) = 0) : s.writeLearn n v =
    ((s.setReg (0xD00 + 4 * n) v).takeEstimate n true (2 ^ max 1 (bitsOf v.toNat 2 0))).takeEstimate n false
      (2 ^ max 1 (bitsOf v.toNat 2 0)) := by
  have hgain : (s.setReg (0xD00 + 4 * n) v).fld (F.VDA_CHn_LRN_GAIN n) = bitsOf v.toNat 2 0 :=
    congrArg (fun x : Word => bitsOf x.toNat 2 0) ((s.reg_setReg (0xD00 + 4 * n) (0xD00 + 4 * n) v).trans (if_pos rfl))
  have hfree (i : Nat) : ¬bitOf (s.fresh (F.VDA_CHn_LRN_w n).addr) i = true := by
    rw [show s.fresh (F.VDA_CHn_LRN_w n).addr = 0 from h, bitOf_eq_testBit, Nat.zero_testBit]
    exact Bool.false_ne_true
  rw [← hgain]
  unfold State.writeLearn
  dsimp only
  rw [if_neg (hfree _), if_neg (hfree _)]
  rfl

/-- A register whose bits a host can all write takes the word written. -/
theorem RegRow.stored_whole (r : RegRow) (old v : Word) (h : r.rw = 2 ^ 40 - 1) : r.stored old v = v := by
  refine BitVec.eq_of_getLsbD_eq fun i hi => ?_
  rw [r.getLsbD_stored old v hi, h, Nat.testBit_two_pow_sub_one, if_pos (by simpa using hi)]

end Sys2Proof.Machine

namespace Sys2Proof.Proofs

open Sys2Proof Sys2Proof.Machine

/-! ### LATENCY_ESTIMATE_WRITE and LATENCY_BAND_WRITE -/

/-- A host write of a VDA register whose bits are all written and none is a flag, in a calm core clock. -/
theorem write_whole (s : State) {a : Nat} {r : RegRow} (v : Word) (hr : regAt a = some r) (hcalm : s.calm = true)
    (hin : inInputs a = false) (hrw : r.rw = 2 ^ 40 - 1) (hw1c : r.w1c = 0) {t : State}
    (heff : s.writeReg (some .service) r a v v = (.done, t)) : s.write .service a v = t.completed := by
  have hmet : s.metAt a = s := s.metAt_other hin
  rw [State.write, s.hostWrite_calm v rfl hr (hmet.symm ▸ hcalm) (by rw [hrw]; decide), s.clearedBy_noFlags v hw1c, hmet,
    r.stored_whole _ v hrw, heff]
  rfl

/-- The row of VDA_CHn_LRN. -/
def learnRow : RegRow := ⟨.VDA_CHn_LRN, 0xd00, 4, 48, 0, 0x3, 0xffffffffff, 0x0, 0x0⟩

/-- The row of VDA_CHn_LBAND. -/
def bandRow : RegRow := ⟨.VDA_CHn_LBAND, 0xd01, 4, 48, 0, 0x3ff003ff, 0xffffffffff, 0x0, 0x0⟩

theorem exec_latencyEstimateWrite (s : State) (n : Fin 48) (v : Word) (hrun : s.boot.halted = false) (hcalm : s.calm = true) :
    exec (.latencyEstimateWrite n v) s = .next (s.writeLearn n v).completed := by
  have hrow : regAt (0xD00 + 4 * n) = some learnRow := by revert n; decide
  have hin : inInputs (0xD00 + 4 * n) = false := by simp [inInputs]; omega
  have hidx : learnRow.idx (0xD00 + 4 * n) = n := by simp [RegRow.idx, learnRow]
  show execLatencyEstimateWrite n v s = _
  rw [execLatencyEstimateWrite, s.clocked_running _ hrun]
  refine congrArg _ (write_whole s v hrow hcalm hin rfl rfl ?_)
  show (Wr.done, s.writeLearn (learnRow.idx (0xD00 + 4 * n)) v) = _
  rw [hidx]

/-- The band is written. -/
def bandWritten (s : State) (n : Nat) (v : Word) : State := s.setReg (0xD01 + 4 * n) v

theorem exec_latencyBandWrite (s : State) (n : Fin 48) (v : Word) (hrun : s.boot.halted = false) (hcalm : s.calm = true) :
    exec (.latencyBandWrite n v) s = .next ((bandWritten s n v).judgeBands n).completed := by
  have hrow : regAt (0xD01 + 4 * n) = some bandRow := by revert n; decide
  have hin : inInputs (0xD01 + 4 * n) = false := by simp [inInputs]; omega
  have hidx : bandRow.idx (0xD01 + 4 * n) = n := by simp [RegRow.idx, bandRow]
  show execLatencyBandWrite n v s = _
  rw [execLatencyBandWrite, s.clocked_running _ hrun]
  refine congrArg _ (write_whole s v hrow hcalm hin rfl rfl ?_)
  show (Wr.done, (bandWritten s n v).judgeBands (bandRow.idx (0xD01 + 4 * n))) = _
  rw [hidx]

theorem gain_lt (x : Nat) : 2 ^ max 1 (bitsOf x 2 0) < 2 ^ 8 := by
  have hbits : bitsOf x 2 0 < 8 := Nat.mod_lt _ (by decide)
  exact Nat.pow_lt_pow_right (by decide) (by omega)

/-- Both estimates are the ones written, each judged in turn (R201). -/
theorem latencyEstimateWrite_facts (s : State) (n : Fin 48) (v : Word) (hcalm : s.calm = true) : ∀ t,
    t = (s.writeLearn n v).completed → t.reg (F.VDA_CHn_LRN_w n).addr = v ∧ t.mem = s.mem ∧
      (∀ m, m ≠ n.val → t.valve m = s.valve m) ∧ (t.valve n).lo = bitsOf v.toNat 39 22 * 256 ∧
      t.fld (F.VDA_CHn_LSTAT_NO n) = 2 ^ max 1 (bitsOf v.toNat 2 0) ∧ (t.valve n).lc = bitsOf v.toNat 21 4 * 256 ∧
      t.fld (F.VDA_CHn_LSTAT_NC n) = 2 ^ max 1 (bitsOf v.toNat 2 0) := by
  rintro t rfl
  rw [s.writeLearn_calm n v (State.fresh_calm hcalm _)]
  have hgain := gain_lt v.toNat
  generalize 2 ^ max 1 (bitsOf v.toNat 2 0) = g at hgain ⊢
  have hlow : 0x800 ≤ 0xD00 + 4 * n.val := by omega
  have hne : 0xD00 + 4 * n.val ≠ 0xD02 + 4 * n.val := by omega
  have hstored (f : Fld) (hf : f.addr = 0xD00 + 4 * n.val) :
      (s.setReg (0xD00 + 4 * n.val) v).fld f = bitsOf v.toNat f.hi f.lo := fld_setReg_same s v hf
  have hword : (s.setReg (0xD00 + 4 * n.val) v).reg (0xD00 + 4 * n.val) = v := (s.reg_setReg _ _ v).trans (if_pos rfl)
  have hvalve (m : Nat) : (s.setReg (0xD00 + 4 * n.val) v).valve m = s.valve m := rfl
  have hmem : (s.setReg (0xD00 + 4 * n.val) v).mem = s.mem := rfl
  generalize s.setReg (0xD00 + 4 * n.val) v = u at *
  have hclose : (u.takeEstimate n true g).fld (F.VDA_CHn_LRN_LCLOSE n) = bitsOf v.toNat 21 4 :=
    (State.fld_of_reg _ (u.takeEstimate_reg n true g hlow hne)).trans (hstored (F.VDA_CHn_LRN_LCLOSE n) rfl)
  refine ⟨?word, ?mem, fun m hm => ?others, ?lo, ?no, ?lc, State.takeEstimate_count _ n false g hgain⟩
  case word => exact (State.takeEstimate_reg _ n false g hlow hne).trans ((u.takeEstimate_reg n true g hlow hne).trans hword)
  case mem => exact (State.takeEstimate_mem _ n false g).trans ((u.takeEstimate_mem n true g).trans hmem)
  case others =>
    exact (State.takeEstimate_valve _ n false g hm).trans ((u.takeEstimate_valve n true g hm).trans (hvalve m))
  case lo =>
    exact (State.takeEstimate_other _ n false g).trans ((u.takeEstimate_same n true g).trans
      (congrArg (· * 256) (hstored (F.VDA_CHn_LRN_LOPEN n) rfl)))
  case no => exact (State.takeEstimate_count_other _ n false g).trans (u.takeEstimate_count n true g hgain)
  case lc => exact (State.takeEstimate_same _ n false g).trans (congrArg (· * 256) hclose)

/-- Both estimates are judged against the band written. -/
theorem latencyBandWrite_facts (s : State) (n : Fin 48) (v : Word) : ∀ t, t = ((bandWritten s n v).judgeBands n).completed →
    t.reg (F.VDA_CHn_LBAND_w n).addr = v ∧ (t.valve n).lo = (s.valve n).lo ∧ (t.valve n).lc = (s.valve n).lc ∧
      (t.valve n).outO = (t.usedLatency n true != (s.valve n).lo) ∧
      (t.valve n).outC = (t.usedLatency n false != (s.valve n).lc) ∧
      t.flag (F.VDA_CHn_LSTAT_OOOB n) = (s.flag (F.VDA_CHn_LSTAT_OOOB n) || ((t.valve n).outO && !(s.valve n).outO)) ∧
      t.flag (F.VDA_CHn_LSTAT_COOB n) = (s.flag (F.VDA_CHn_LSTAT_COOB n) || ((t.valve n).outC && !(s.valve n).outC)) ∧
      t.mem = s.mem := by
  rintro t rfl
  have hword : (bandWritten s n v).reg (0xD01 + 4 * n.val) = v := (s.reg_setReg _ _ v).trans (if_pos rfl)
  have hvalve : (bandWritten s n v).valve n = s.valve n := rfl
  have hmem : (bandWritten s n v).mem = s.mem := rfl
  have hshown (d : Bool) : (bandWritten s n v).flag (bandFlag n d) = s.flag (bandFlag n d) :=
    State.flag_of_reg _ ((s.reg_setReg _ _ v).trans (if_neg (by rw [bandFlag_addr]; omega)))
  generalize bandWritten s n v = u at *
  have hest (d : Bool) : ((u.judgeBands n).valve n).estimate d = (s.valve n).estimate d := by
    rw [State.judgeBands_estimate, hvalve]
  have hout (d : Bool) : ((u.judgeBands n).valve n).wasOut d = ((u.judgeBands n).usedLatency n d != (s.valve n).estimate d) := by
    rw [State.judgeBands_wasOut, ← State.judgeBands_outOfBand, State.outOfBand, hest]
  have hflag (d : Bool) : (u.judgeBands n).flag (bandFlag n d) =
      (s.flag (bandFlag n d) || (((u.judgeBands n).valve n).wasOut d && !(s.valve n).wasOut d)) := by
    rw [State.judgeBands_flag, State.judgeBands_wasOut, hshown, hvalve]
  have hlow : 0x800 ≤ 0xD01 + 4 * n.val := by omega
  have hne : 0xD01 + 4 * n.val ≠ 0xD02 + 4 * n.val := by omega
  exact ⟨(u.judgeBands_reg n hlow hne).trans hword, hest true, hest false, hout true, hout false, hflag true,
    hflag false, (u.judgeBands_mem n).trans hmem⟩

/-! ### SHAPE_STORE_WRITE -/

theorem exec_shapeStoreWrite (s : State) (p : Path) (g : Fin 6) (w : Fin 1024) (v : Word) (hrun : s.boot.halted = false) :
    exec (.shapeStoreWrite p g w v) s = .next (s.hostWrite (some p) (0x4000 + 0x400 * g + w) v).2 := by
  show execShapeStoreWrite p g w v s = _
  rw [execShapeStoreWrite, s.clocked_running _ hrun, State.write]

/-- The check bits of the other words stay. -/
theorem sramWrite_window_chkAt (s : State) {a b : Nat} (v : Word) (hw : inWindow a = true) (he : inEvents a = false) (hb : b ≠ a) :
    (s.sramWrite a v).chkAt b = s.chkAt b := by
  obtain ⟨m, e⟩ := s.setMemWord_same a v
  rw [s.sramWrite_window v hw he, State.chkAt_setChk, if_neg hb, e]
  rfl

theorem shapeStoreWrite_facts (s : State) (p : Path) (g : Fin 6) (w : Fin 1024) (v : Word) : ∀ t,
    t = (s.hostWrite (some p) (0x4000 + 0x400 * g.val + w.val) v).2 →
    (s.storeFree g = true → t.memWord (0x4000 + 0x400 * g.val + w.val) = v ∧ t.chkAt (0x4000 + 0x400 * g.val + w.val) = 0 ∧
        (∀ b, b ≠ 0x4000 + 0x400 * g.val + w.val → t.memWord b = s.memWord b ∧ t.chkAt b = s.chkAt b) ∧
        t.regs = s.regs ∧ t.queues = s.queues) ∧
      (s.storeFree g = false → t.flag (F.VDA_Gg_SEQ_WRERR g) = true ∧
        t.fld (F.VDA_Gg_SEQ_WRREJ g) = satAdd 16 (s.fld (F.VDA_Gg_SEQ_WRREJ g)) 1 ∧ t.mem = s.mem ∧ t.queues = s.queues ∧
        ∀ i, i ≠ (F.VDA_Gg_SEQ_WRERR g).addr → t.reg i = s.reg i) := by
  rintro t rfl
  have hgroup : g.val = (0x4000 + 0x400 * g.val + w.val - 0x4000) / 0x400 := by omega
  have hshape : inShape (0x4000 + 0x400 * g.val + w.val) = true := by
    simp only [inShape, Bool.and_eq_true, decide_eq_true_eq]
    omega
  have hopen : closedTo (some p) (0x4000 + 0x400 * g.val + w.val) = false := by
    simp only [closedTo, inSlk, inKey, Bool.and_eq_false_iff, Bool.or_eq_false_iff, decide_eq_false_iff_not]
    omega
  obtain ⟨hw, he⟩ := inShape_only hshape
  generalize 0x4000 + 0x400 * g.val + w.val = a at *
  constructor
  · intro hfree
    have hdone := s.writeWindow_shape_free v hshape (hgroup ▸ hfree)
    obtain ⟨hword, hchk, hrest, hregs, hqueues⟩ := hostWrite_window_taken s v hopen hw he hdone
    refine ⟨hword, hchk, fun b hb => ⟨hrest b hb, ?_⟩, hregs, hqueues⟩
    rw [s.hostWrite_window v hopen hw, hdone]
    exact sramWrite_window_chkAt s v hw he hb
  · intro hused
    obtain ⟨hmem, hflag, hcount, hreg⟩ := hostWrite_shape_used s v hopen hshape hgroup hused
    refine ⟨hflag, hcount, hmem, ?_, hreg⟩
    rw [s.hostWrite_window v hopen hw, s.writeWindow_shape_used v hshape (hgroup ▸ hused)]
    rfl

end Sys2Proof.Proofs
end

section
/-! PROOF. The coil model, latency writes and shape stores (O39). -/

namespace Sys2Proof.Proofs

open Sys2Proof Sys2Proof.Machine

/-- Settles O39: each clause of the coil model is one of the three ways an update goes (`State.modelOne_disabled`,
`State.modelOne_enabled`, `State.modelOne_first`), whose judgement of the stage leaves the temperatures (`SameCoil`), and the other
commands are writes of a register or of a window. -/
theorem coilModelAndLatencyWrites : Obligations.CoilModelAndLatencyWrites := by
  unfold Obligations.CoilModelAndLatencyWrites
  intro s hrun
  refine ⟨fun hcanon => ?update, fun n tw tb hn hodd htw htb => ⟨modelOne_disabled_facts hodd htw htb,
      fun hen hcnt hpend hcw hcb hrwb hrba => modelOne_enabled_winding hn hodd htw htb hen hcnt hpend hcw hcb hrwb hrba⟩,
    fun n hn hodd htw hmode => modelOne_first_facts hn hodd htw hmode,
    fun x => ⟨_, exec_ambientSensorWrite s x hrun, ambientSensorWrite_facts s x _ rfl⟩,
    fun n v hcalm => ⟨_, exec_latencyEstimateWrite s n v hrun hcalm, latencyEstimateWrite_facts s n v hcalm _ rfl⟩,
    fun n v hcalm => ⟨_, exec_latencyBandWrite s n v hrun hcalm, latencyBandWrite_facts s n v _ rfl⟩,
    fun p g w v => ⟨_, exec_shapeStoreWrite s p g w v hrun, shapeStoreWrite_facts s p g w v _ rfl⟩⟩
  case update =>
    obtain ⟨r, k, hsame⟩ := s.takeInstant_same clsModel (if s.gated then 2 ^ 20 else 1024) 0
    exact ⟨toModelUpdate s, r, k, hsame, toModelUpdate_now s hcanon, fun i hi => s.takeInstant_reg _ _ _ hi, exec_modelUpdate s hrun⟩

end Sys2Proof.Proofs
end

section
/-! PROOF. What the node sends leaves: the relation `Spares A s t`, and the operations of the span link that it holds of. -/

namespace Sys2Proof.Machine

open Sys2Proof

/-- From `s` to `t` the clock, the memory windows and what the control engine holds beside its registers stay, and of the
registers only those of `A` may change. -/
structure Spares (A : Nat → Prop) (s t : State) : Prop where
  clk : t.clk = s.clk
  mem : t.mem = s.mem
  ctl : t.ctl = s.ctl
  reg : ∀ i, ¬ A i → t.reg i = s.reg i

section
variable {A B : Nat → Prop} {s t u : State}

theorem Spares.refl (A : Nat → Prop) (s : State) : Spares A s s := ⟨rfl, rfl, rfl, fun _ _ => rfl⟩

theorem Spares.trans (h : Spares A s t) (g : Spares A t u) : Spares A s u :=
  ⟨g.clk.trans h.clk, g.mem.trans h.mem, g.ctl.trans h.ctl, fun i hi => (g.reg i hi).trans (h.reg i hi)⟩

theorem Spares.mono (h : Spares A s t) (hAB : ∀ i, A i → B i) : Spares B s t :=
  ⟨h.clk, h.mem, h.ctl, fun i hi => h.reg i fun hA => hi (hAB i hA)⟩

theorem Spares.ite {c : Prop} [Decidable c] (h : Spares A s t) (g : Spares A s u) : Spares A s (if c then t else u) := by
  split
  · exact h
  · exact g

theorem Spares.foldl {α : Type} {f : State → α → State} {l : List α} (h : ∀ v, ∀ x ∈ l, Spares A v (f v x)) (s : State) :
    Spares A s (l.foldl f s) := by
  induction l generalizing s with
  | nil => exact .refl A s
  | cons x l ih =>
    exact (h s x List.mem_cons_self).trans (ih (fun v y hy => h v y (List.mem_cons_of_mem x hy)) (f s x))

theorem Spares.setFld (s : State) {f : Fld} (v : Nat) (h : A f.addr) : Spares A s (s.setFld f v) :=
  ⟨rfl, rfl, rfl, fun _ hi => State.reg_setFld_ne s f v fun e => hi (e ▸ h)⟩

theorem Spares.setLed (s : State) (l : LedSt) : Spares A s (s.setLed l) := ⟨rfl, rfl, rfl, fun _ _ => rfl⟩

theorem Spares.reported {L : List Nat} (h : Reported L s t) (hA : ∀ i ∈ L, A i) : Spares A s t := by
  obtain ⟨⟨g, x, y, n, f, rfl⟩, hreg⟩ := h
  exact ⟨rfl, rfl, rfl, fun i hi => hreg i fun hL => hi (hA i hL)⟩

theorem Spares.fld (h : Spares A s t) (f : Fld) (hf : ¬ A f.addr) : t.fld f = s.fld f := State.fld_of_reg f (h.reg _ hf)

theorem Spares.flag (h : Spares A s t) (f : Fld) (hf : ¬ A f.addr) : t.flag f = s.flag f := State.flag_of_reg f (h.reg _ hf)

end

/-! ### Transmit rings -/

/-- The registers that show the SEQ of the next frame and of the host's. -/
def SeqReg (i : Nat) : Prop := i = F.SLK_STAT_SEQ.addr ∨ i = F.SLK_HSTAT_SEQ.addr

theorem State.offerTx_spares (s : State) (t : TxWait) : Spares SeqReg s (s.offerTx t) := by
  unfold State.offerTx
  refine .ite ?admitted ⟨rfl, rfl, rfl, fun _ _ => rfl⟩
  have hseq : Spares SeqReg s (s.setFld F.SLK_STAT_SEQ (s.fld F.SLK_STAT_SEQ + 1)) := .setFld s _ (.inl rfl)
  have hhost (u : State) (l : LnkSt) (x : Nat) : Spares SeqReg u (({ u with lnk := l } : State).setFld F.SLK_HSTAT_SEQ x) :=
    ⟨rfl, rfl, rfl, fun i hi => State.reg_setFld_ne _ _ _ fun e => hi (.inr e)⟩
  have hpush (u : State) (ws : List Word) : Spares SeqReg u (u.pushItem t.ring ws []) :=
    .reported (u.pushItem_reported [] t.ring ws []) fun i hi => absurd hi List.not_mem_nil
  exact (hseq.trans (.ite (hhost _ _ _) (.refl _ _))).trans (hpush _ _)

theorem State.pushTx_spares (s : State) (ring dst cls : Nat) (bc : Bool) (payload : List Byte) :
    Spares SeqReg s (s.pushTx ring dst cls bc payload) := s.offerTx_spares _

end Sys2Proof.Machine
end

section
/-! PROOF. A profile publication forms the sum of the profiles of the last instant (O17; R134, R210). -/

namespace Sys2Proof.Machine

open Sys2Proof

/-- The instant of a publication. -/
def State.toProfile (s : State) : State := s.takeInstant clsProfile (2 ^ 17) 0

/-- The node publishes a profile of its own. -/
def State.publishes (s : State) : Bool := s.flag F.PLN_CFG_FFEN && s.modeNow != modeBoot

/-- The bins of the profile that the node publishes, 0 where it publishes none. -/
def State.ownBins (s : State) : List Int := if s.publishes then s.profileBins else List.replicate 24 0

/-- The profile shows in PLN_FFb. -/
def State.showBins (s : State) (own : List Int) : State :=
  (own.zip (List.range 24)).foldl (fun s (p : Int × Nat) => s.setFldI (F.PLN_FFb_FLOW p.2) p.1) s

/-- The profile goes to the node that runs LA. -/
def State.sendBins (s : State) (own : List Int) : State :=
  if s.fld F.CTL_EDDY_LANODE ≠ s.addr && s.linkOn && s.role ≠ roleNone && own.any (· != 0) then
    s.pushTx 56 (s.fld F.CTL_EDDY_LANODE) clsMsg false
      (toBytes 1 2 ++ toBytes 5 s.now ++ own.flatMap (fun x => toBytes 3 (wrapW 24 x)))
  else s

/-- The received profiles that carry the instant before this one. -/
def State.usedProfiles (s : State) : List Profile := s.ctl.got.filter (fun p => p.at_ == add40 s.now (-(2 ^ 17 : Int)))

/-- Bin `b` of the sum: the node's own, and the next bin of each profile. -/
def sumBin (own : List Int) (ps : List Profile) (b : Nat) : Int :=
  own.getD b 0 + (ps.map (fun p => if b + 1 < 24 then p.bins.getD (b + 1) 0 else 0)).foldl (· + ·) 0

/-- The sum is formed, the profiles used are counted, and all are dropped (R210). -/
def State.formSum (s : State) (own : List Int) : State :=
  let t := s.incBy F.CTL_EDDY_PROF s.usedProfiles.length
  { t with ctl := { t.ctl with pk := some t.now, sum := (List.range 24).map (sumBin own s.usedProfiles), got := [] } }

/-! ### What is published -/

theorem foldl_add_zeros {α : Type} (l : List α) : (l.map fun _ => (0 : Int)).foldl (· + ·) 0 = 0 := by
  induction l with
  | nil => rfl
  | cons x l ih => exact ih

theorem getD_replicate_zero (n b : Nat) : (List.replicate n (0 : Int)).getD b 0 = 0 := by
  simp [List.getD_eq_getElem?_getD, List.getElem?_replicate]
  split <;> rfl

theorem sumBin_received (n : Nat) (ps : List Profile) {b : Nat} (h : b < 23) : sumBin (List.replicate n 0) ps b =
    (ps.map (fun p => p.bins.getD (b + 1) 0)).foldl (· + ·) 0 := by
  have hnext : b + 1 < 24 := by omega
  simp only [sumBin, getD_replicate_zero, if_pos hnext, Int.zero_add]

theorem sumBin_last (n : Nat) (ps : List Profile) : sumBin (List.replicate n 0) ps 23 = 0 := by
  simp only [sumBin, getD_replicate_zero, Int.zero_add, Nat.lt_irrefl, if_false, foldl_add_zeros]

/-- The registers that a publication may change before the sum is formed: PLN_FFb and the SEQ of a frame. -/
def PublishReg (i : Nat) : Prop := (0x410 ≤ i ∧ i < 0x428) ∨ SeqReg i

theorem State.showBins_spares (s : State) (own : List Int) : Spares PublishReg s (s.showBins own) := by
  refine Spares.foldl (fun v p hp => Spares.setFld v _ (.inl ?_)) s
  have hbin : p.2 < 24 := List.mem_range.1 (List.of_mem_zip hp).2
  simp only [F.PLN_FFb_FLOW]
  omega

theorem State.sendBins_spares (s : State) (own : List Int) : Spares PublishReg s (s.sendBins own) :=
  .ite ((s.pushTx_spares _ _ _ _ _).mono fun _ => .inr) (.refl _ s)

/-- The own profile is shown and sent, if the node publishes one. -/
def State.publishOwn (s : State) : State := if s.publishes then (s.showBins s.ownBins).sendBins s.ownBins else s

theorem State.publishOwn_spares (s : State) : Spares PublishReg s s.publishOwn :=
  .ite ((s.showBins_spares _).trans (State.sendBins_spares _ _)) (.refl _ s)

/-! ### The sum -/

theorem State.incBy_reg (s : State) (f : Fld) (k : Nat) {i : Nat} (h : i ≠ f.addr) : (s.incBy f k).reg i = s.reg i :=
  State.reg_setFld_ne s f _ h

theorem State.fld_incBy_same (s : State) (f : Fld) (k : Nat) (h : f.ok = true) :
    (s.incBy f k).fld f = satAdd f.width (s.fld f) k := by
  have hlt : satAdd f.width (s.fld f) k < 2 ^ f.width := by
    have hpos := Nat.two_pow_pos f.width
    unfold satAdd
    split <;> omega
  exact (s.fld_setFld_same f _ h).trans (Nat.mod_eq_of_lt hlt)

theorem State.formSum_now (s : State) (own : List Int) : (s.formSum own).now = s.now :=
  State.fld_of_reg F.TBS_TIME_TIME (s.incBy_reg F.CTL_EDDY_PROF _ (by decide))

theorem State.formSum_facts (s : State) (own : List Int) : ∀ t, t = s.formSum own → t.ctl.pk = some t.now ∧
    t.ctl.sum = (List.range 24).map (sumBin own s.usedProfiles) ∧ t.ctl.got = [] ∧
    t.fld F.CTL_EDDY_PROF = satAdd F.CTL_EDDY_PROF.width (s.fld F.CTL_EDDY_PROF) s.usedProfiles.length ∧
    t.mem = s.mem ∧ t.queues = s.queues := by
  rintro t rfl
  exact ⟨rfl, rfl, rfl, s.fld_incBy_same F.CTL_EDDY_PROF _ (by decide), rfl, rfl⟩

/-- The sum of a node without a profile of its own. -/
theorem sum_received (ps : List Profile) :
    ((List.range 24).map (sumBin (List.replicate 24 0) ps))[23]? = some 0 ∧ ∀ b, b < 23 →
      ((List.range 24).map (sumBin (List.replicate 24 0) ps))[b]? =
        some ((ps.map (fun p => p.bins.getD (b + 1) 0)).foldl (· + ·) 0) := by
  have hbin (b : Nat) (hb : b < 24) : ((List.range 24).map (sumBin (List.replicate 24 0) ps))[b]? =
      some (sumBin (List.replicate 24 0) ps b) := by
    rw [List.getElem?_map, List.getElem?_range hb]; rfl
  exact ⟨(hbin 23 (by decide)).trans (congrArg some (sumBin_last 24 ps)),
    fun b hb => (hbin b (by omega)).trans (congrArg some (sumBin_received 24 ps hb))⟩

end Sys2Proof.Machine

namespace Sys2Proof.Proofs

open Sys2Proof Sys2Proof.Machine

theorem exec_profilePublication (s : State) (hrun : s.boot.halted = false) (hgated : s.gated = false) :
    exec .profilePublication s = .next (s.toProfile.publishOwn.formSum s.toProfile.ownBins) := by
  show execProfilePublication s = _
  rw [execProfilePublication, s.clocked_running _ hrun]
  simp only [hgated, Bool.false_eq_true, if_false]
  rw [← State.toProfile]
  unfold State.publishOwn State.ownBins State.publishes
  cases s.toProfile.flag F.PLN_CFG_FFEN && s.toProfile.modeNow != modeBoot <;> rfl

theorem exec_profilePublication_gated (s : State) (hrun : s.boot.halted = false) (hgated : s.gated = true) :
    exec .profilePublication s = .next s := by
  show execProfilePublication s = _
  rw [execProfilePublication, s.clocked_running _ hrun]
  exact if_pos hgated

theorem toProfile_now (s : State) (hcanon : s.canonical = true) : s.toProfile.now % 2 ^ 17 = 0 :=
  s.takeInstant_multiple clsProfile (by decide) (by decide) (s.frac_lt_of_canonical hcanon)

/-- Without feed-forward the node publishes nothing of its own. -/
theorem not_publishes {s : State} (h : s.flag F.PLN_CFG_FFEN = false) : s.toProfile.publishes = false := by
  have hffen : s.toProfile.flag F.PLN_CFG_FFEN = s.flag F.PLN_CFG_FFEN :=
    State.flag_of_reg _ (s.takeInstant_reg clsProfile (2 ^ 17) 0 (by decide))
  rw [State.publishes, hffen, h, Bool.false_and]

theorem profilePublication_facts (s : State) : ∀ t, t = s.toProfile.publishOwn.formSum s.toProfile.ownBins →
    t.now = s.toProfile.now ∧ t.ctl.pk = some t.now ∧ t.ctl.sum.length = 24 ∧ t.ctl.got = [] ∧
      t.fld F.CTL_EDDY_PROF = satAdd F.CTL_EDDY_PROF.width (s.fld F.CTL_EDDY_PROF)
        (s.ctl.got.filter (fun p => p.at_ == add40 t.now (-(2 ^ 17 : Int)))).length ∧
      (s.flag F.PLN_CFG_FFEN = false → t.queues = s.queues ∧ t.mem = s.mem ∧ t.ctl.sum[23]? = some 0 ∧ ∀ b, b < 23 →
        t.ctl.sum[b]? = some (((s.ctl.got.filter (fun p => p.at_ == add40 t.now (-(2 ^ 17 : Int)))).map
          (fun p => p.bins.getD (b + 1) 0)).foldl (· + ·) 0)) := by
  rintro t rfl
  obtain ⟨r, k, hsame⟩ := s.takeInstant_same clsProfile (2 ^ 17) 0
  have hown := s.toProfile.publishOwn_spares
  have hnow : s.toProfile.publishOwn.now = s.toProfile.now := hown.fld F.TBS_TIME_TIME (by unfold PublishReg SeqReg; decide)
  have hprof : s.toProfile.publishOwn.fld F.CTL_EDDY_PROF = s.fld F.CTL_EDDY_PROF :=
    (hown.fld _ (by unfold PublishReg SeqReg; decide)).trans (State.fld_of_reg _ (s.takeInstant_reg clsProfile (2 ^ 17) 0 (by decide)))
  have hgot : s.toProfile.publishOwn.ctl.got = s.ctl.got := by rw [hown.ctl, State.toProfile, hsame]
  obtain ⟨hpk, hsum, hnone, hcount, hmem, hqueues⟩ := s.toProfile.publishOwn.formSum_facts s.toProfile.ownBins _ rfl
  have htime := s.toProfile.publishOwn.formSum_now s.toProfile.ownBins
  have hused : s.toProfile.publishOwn.usedProfiles = s.ctl.got.filter (fun p => p.at_ ==
      add40 (s.toProfile.publishOwn.formSum s.toProfile.ownBins).now (-(2 ^ 17 : Int))) := by
    rw [State.usedProfiles, hgot, htime]
  rw [hused] at hsum hcount
  refine ⟨htime.trans hnow, hpk, by rw [hsum]; rfl, hnone, hprof ▸ hcount, fun hff => ?_⟩
  have hoff := not_publishes hff
  have hbins : s.toProfile.ownBins = List.replicate 24 0 := if_neg (by rw [hoff]; decide)
  have hquiet : s.toProfile.publishOwn = s.toProfile := if_neg (by rw [hoff]; decide)
  have hparts : s.toProfile.queues = s.queues ∧ s.toProfile.mem = s.mem := by rw [State.toProfile, hsame]; exact ⟨rfl, rfl⟩
  refine ⟨hqueues.trans ((congrArg State.queues hquiet).trans hparts.1),
    hmem.trans ((congrArg State.mem hquiet).trans hparts.2), ?_⟩
  rw [hsum, hbins]
  exact sum_received _

/-- Settles O17: a publication is its instant, what the node publishes of its own, which leaves system time, the profiles received
and their count (`State.publishOwn_spares`), and the sum (`State.formSum_facts`); without a profile of its own each bin is the sum
of the next bins (`sum_received`). -/
theorem profilePublicationFormsTheSum : Obligations.ProfilePublicationFormsTheSum := by
  unfold Obligations.ProfilePublicationFormsTheSum
  intro s hrun
  refine ⟨fun hgated => ?_, exec_profilePublication_gated s hrun⟩
  obtain ⟨hnow, hpk, hlen, hgot, hcount, hoff⟩ := profilePublication_facts s _ rfl
  exact ⟨_, exec_profilePublication s hrun hgated, hpk, hlen, fun hcanon => hnow ▸ toProfile_now s hcanon, hgot, hcount, hoff⟩

end Sys2Proof.Proofs
end

section
/-! PROOF. Fields that a write takes only while a stage is OFF (R225): the word that is kept, the write, and the flag that shows
that a field would have changed. -/

namespace Sys2Proof.Machine

open Sys2Proof

/-! ### The word that is kept -/

/-- The word `v` with the fields `fs` as they are. -/
def State.keepFields (s : State) (fs : List Fld) (v : Word) : Word := fs.foldl (fun v f => putBits v f (s.fld f)) v

/-- The fields `fs` lie in the register at `a`. -/
def FieldsOf (a : Nat) (fs : List Fld) : Prop := ∀ f ∈ fs, f.addr = a ∧ f.ok = true

/-- Bit `i` lies in one of the fields `fs`. -/
def covers (fs : List Fld) (i : Nat) : Bool := fs.any fun f => f.lo ≤ i && i ≤ f.hi

theorem testBit_putBits (v : Word) (f : Fld) (x i : Nat) (h : f.ok = true) :
    (putBits v f x).toNat.testBit i = if f.lo ≤ i ∧ i ≤ f.hi then x.testBit (i - f.lo) else v.toNat.testBit i := by
  simp only [Fld.ok, Bool.and_eq_true, decide_eq_true_eq] at h
  rw [putBits, BitVec.toNat_ofNat, Nat.mod_eq_of_lt (setBits_lt _ _ _ _ v.isLt h.1 h.2), testBit_setBits _ _ _ _ _ h.1]

theorem State.testBit_fld (s : State) {f : Fld} {i : Nat} (hlo : f.lo ≤ i) (hhi : i ≤ f.hi) :
    (s.fld f).testBit (i - f.lo) = (s.reg f.addr).toNat.testBit i := by
  rw [State.fld, testBit_bitsOf, Nat.sub_add_cancel hlo, decide_eq_true (by omega), Bool.true_and]

theorem State.testBit_keepFields (s : State) {a : Nat} {fs : List Fld} (h : FieldsOf a fs) (v : Word) (i : Nat) :
    (s.keepFields fs v).toNat.testBit i = if covers fs i then (s.reg a).toNat.testBit i else v.toNat.testBit i := by
  induction fs generalizing v with
  | nil => rfl
  | cons f fs ih =>
    obtain ⟨ha, hok⟩ := h f List.mem_cons_self
    have hput := testBit_putBits v f (s.fld f) i hok
    have hrest := ih (fun g hg => h g (List.mem_cons_of_mem f hg)) (putBits v f (s.fld f))
    rw [State.keepFields, List.foldl_cons, ← State.keepFields, hrest, hput]
    by_cases hin : f.lo ≤ i ∧ i ≤ f.hi
    · rw [if_pos hin, s.testBit_fld hin.1 hin.2, ha]
      simp [covers, hin]
    · have hcons : covers (f :: fs) i = covers fs i := by
        rw [covers, List.any_cons, show (decide (f.lo ≤ i) && decide (i ≤ f.hi)) = false by simpa using hin, Bool.false_or, covers]
      rw [if_neg hin, hcons]

/-- A field that is kept. -/
theorem State.bitsOf_keepFields_mem (s : State) {a : Nat} {fs : List Fld} (h : FieldsOf a fs) (v : Word) {f : Fld} (hf : f ∈ fs) :
    bitsOf (s.keepFields fs v).toNat f.hi f.lo = s.fld f := by
  rw [State.fld, (h f hf).1]
  refine bitsOf_congr fun i hlo hhi => ?_
  have hin : covers fs i = true := List.any_eq_true.2 ⟨f, hf, by simp [hlo, hhi]⟩
  rw [s.testBit_keepFields h, if_pos hin]

/-- A field that no kept one meets. -/
theorem State.bitsOf_keepFields_apart (s : State) {a : Nat} {fs : List Fld} (h : FieldsOf a fs) (v : Word) {g : Fld}
    (hg : ∀ f ∈ fs, g.hi < f.lo ∨ f.hi < g.lo) : bitsOf (s.keepFields fs v).toNat g.hi g.lo = bitsOf v.toNat g.hi g.lo := by
  refine bitsOf_congr fun i hlo hhi => ?_
  have hout : ¬ covers fs i = true := fun hin => by
    obtain ⟨f, hf, hbit⟩ := List.any_eq_true.1 hin
    have hapart := hg f hf
    simp only [Bool.and_eq_true, decide_eq_true_eq] at hbit
    omega
  rw [s.testBit_keepFields h, if_neg hout]

/-! ### The write -/

/-- The word `x` is written to register `a`, whose fields `fs` are taken only while stage `k` is OFF. -/
def State.writeKept (s : State) (k : Nat) (fs : List Fld) (a : Nat) (x : Word) : State :=
  (s.guardFields k fs x).2.setReg a (s.guardFields k fs x).1

theorem State.writeGuarded_eq (s : State) (k : Nat) (f : Fld) (x : Word) : s.writeGuarded k f x = s.writeKept k [f] f.addr x := rfl

/-- From `s` to `t` the word `x` was written to register `a` under the guard of the fields `fs` of stage `k` (R225). -/
structure Guarded (k : Nat) (fs : List Fld) (a : Nat) (x : Word) (s t : State) : Prop where
  same : ∃ g c l, t = { s with regs := g, core := c, ctl := l }
  reg : ∀ i, i ≠ a → i ≠ (F.CTL_x_STAT_CFGERR k).addr → t.reg i = s.reg i
  state : t.cst k = s.cst k
  word : t.reg a = if s.cst k = csOff then x else s.keepFields fs x
  error : s.cst k ≠ csOff → s.keepFields fs x ≠ x → t.flag (F.CTL_x_STAT_CFGERR k) = true

theorem State.raiseError_cst (s : State) (k : Nat) : (s.raise (F.CTL_x_STAT_CFGERR k)).cst k = s.cst k :=
  s.raise_fld_disj (F.CTL_x_STAT_CFGERR k) (F.CTL_x_STAT_STATE k) rfl (.inl (show 2 < 7 by decide))

theorem State.setError_cst (s : State) (k : Nat) (b : Bool) : (s.setFlag (F.CTL_x_STAT_CFGERR k) b).cst k = s.cst k :=
  s.fld_setFld_disj (F.CTL_x_STAT_CFGERR k) (F.CTL_x_STAT_STATE k) _ rfl (.inl (show 2 < 7 by decide))

section
variable {s t : State} {k a : Nat} {fs : List Fld} {x : Word}

theorem State.writeKept_guarded (s : State) (x : Word) (fs : List Fld) (ha : a ≠ (F.CTL_x_STAT_CFGERR k).addr) :
    Guarded k fs a x s (s.writeKept k fs a x) := by
  have hstat (u : State) (y : Word) : (u.setReg a y).cst k = u.cst k :=
    State.fld_of_reg _ ((u.reg_setReg a _ y).trans (if_neg ha.symm))
  have hother (u : State) (y : Word) {i : Nat} (hi : i ≠ a) : (u.setReg a y).reg i = u.reg i :=
    (u.reg_setReg a i y).trans (if_neg hi)
  have hsame (u : State) (y : Word) : (u.setReg a y).reg a = y := (u.reg_setReg a a y).trans (if_pos rfl)
  unfold State.writeKept State.guardFields
  by_cases hoff : s.cst k = csOff
  · simp only [if_pos hoff]
    exact ⟨⟨_, _, _, rfl⟩, fun i hi _ => hother s x hi, hstat s x, by rw [hsame, if_pos hoff], fun h => absurd hoff h⟩
  · simp only [if_neg hoff]
    rw [← State.keepFields]
    by_cases heq : s.keepFields fs x = x
    · rw [if_pos heq]
      exact ⟨⟨_, _, _, rfl⟩, fun i hi _ => hother s _ hi, hstat s _, by rw [hsame, if_neg hoff], fun _ h => absurd heq h⟩
    · rw [if_neg heq]
      refine ⟨⟨_, _, _, rfl⟩, fun i hi hi' => (hother _ _ hi).trans (s.raise_reg_ne _ hi'), (hstat _ _).trans (s.raiseError_cst k),
        by rw [hsame, if_neg hoff], fun _ _ => ?_⟩
      exact (State.flag_of_reg _ (hother _ _ ha.symm)).trans (s.raise_flag_same _ rfl)

/-- What the engine holds beside its registers is no part of the guard. -/
theorem Guarded.setCtl (h : Guarded k fs a x s t) (l : CtlSt) : Guarded k fs a x s { t with ctl := l } := by
  obtain ⟨⟨g, c, l', rfl⟩, hreg, hstate, hword, herror⟩ := h
  exact ⟨⟨g, c, l, rfl⟩, hreg, hstate, hword, herror⟩

theorem Guarded.completed (h : Guarded k fs a x s t) : Guarded k fs a x s t.completed := by
  obtain ⟨⟨g, c, l, rfl⟩, hreg, hstate, hword, herror⟩ := h
  exact ⟨⟨g, _, l, rfl⟩, hreg, hstate, hword, herror⟩

theorem State.keepFields_congr (h : t.reg a = s.reg a) (hfs : FieldsOf a fs) : t.keepFields fs x = s.keepFields fs x := by
  refine BitVec.eq_of_toNat_eq (Nat.eq_of_testBit_eq fun i => ?_)
  rw [t.testBit_keepFields hfs, s.testBit_keepFields hfs, h]

/-- A write whose operation may set CFGERR acts, and leaves CFGERR as it was where the operation does not set it. -/
theorem Guarded.probe {op : State → State} (ha : a ≠ (F.CTL_x_STAT_CFGERR k).addr) (hfs : FieldsOf a fs)
    (hop : ∀ u, Guarded k fs a x u (op u)) (s : State) : Guarded k fs a x s (s.probe (F.CTL_x_STAT_CFGERR k) op).2 := by
  obtain ⟨⟨g, c, l, hsame⟩, hreg, hstate, hword, herror⟩ := hop (s.setFlag (F.CTL_x_STAT_CFGERR k) false)
  have hcst := s.setError_cst k false
  have hkept : (s.setFlag (F.CTL_x_STAT_CFGERR k) false).keepFields fs x = s.keepFields fs x :=
    State.keepFields_congr (s.reg_setFld_ne _ _ ha) hfs
  rw [hcst, hkept] at hword herror
  unfold State.probe
  dsimp only
  split
  case isTrue hset =>
    exact ⟨⟨g, c, l, hsame⟩, fun i hi hi' => (hreg i hi hi').trans (s.reg_setFld_ne _ _ hi'), hstate.trans hcst, hword, herror⟩
  case isFalse hset =>
    refine ⟨⟨_, c, l, by rw [hsame]; rfl⟩, fun i hi hi' => ?_, (State.setError_cst _ k _).trans (hstate.trans hcst), ?_,
      fun hon hne => absurd (herror hon hne) hset⟩
    · exact (State.reg_setFld_ne _ _ _ hi').trans ((hreg i hi hi').trans (s.reg_setFld_ne _ _ hi'))
    · exact (State.reg_setFld_ne _ _ _ ha).trans hword

theorem State.probe_acted (s : State) (f : Fld) (op : State → State) : (s.probe f op).1.acted = true := by
  unfold State.probe
  dsimp only
  split <;> rfl

theorem State.probe_ctl (s : State) (f : Fld) (op : State → State) : (s.probe f op).2.ctl = (op (s.setFlag f false)).ctl := by
  unfold State.probe
  dsimp only
  split <;> rfl

/-! ### The fields after it -/

theorem Guarded.mem (h : Guarded k fs a x s t) : t.mem = s.mem := by obtain ⟨⟨_, _, _, rfl⟩, _⟩ := h; rfl

theorem Guarded.queues (h : Guarded k fs a x s t) : t.queues = s.queues := by obtain ⟨⟨_, _, _, rfl⟩, _⟩ := h; rfl

/-- While the stage is OFF every field is stored. -/
theorem Guarded.fld_off (h : Guarded k fs a x s t) (hoff : s.cst k = csOff) {f : Fld} (hf : f.addr = a) :
    t.fld f = bitsOf x.toNat f.hi f.lo := by
  rw [State.fld, hf, h.word, if_pos hoff]

/-- A field outside the guard is stored. -/
theorem Guarded.fld_apart (h : Guarded k fs a x s t) (hfs : FieldsOf a fs) {g : Fld} (ha : g.addr = a)
    (hg : ∀ f ∈ fs, g.hi < f.lo ∨ f.hi < g.lo) : t.fld g = bitsOf x.toNat g.hi g.lo := by
  by_cases hoff : s.cst k = csOff
  · exact h.fld_off hoff ha
  · rw [State.fld, ha, h.word, if_neg hoff, s.bitsOf_keepFields_apart hfs x hg]

/-- A field under the guard stays while the stage is not OFF, and CFGERR shows that it would have changed. -/
theorem Guarded.fld_on (h : Guarded k fs a x s t) (hfs : FieldsOf a fs) (hon : s.cst k ≠ csOff) {f : Fld} (hf : f ∈ fs) :
    t.fld f = s.fld f ∧ (bitsOf x.toNat f.hi f.lo ≠ s.fld f → t.flag (F.CTL_x_STAT_CFGERR k) = true) := by
  have hkept := s.bitsOf_keepFields_mem hfs x hf
  refine ⟨?_, fun hne => h.error hon fun heq => hne ?_⟩
  · rw [State.fld, (hfs f hf).1, h.word, if_neg hon, hkept]
  · rw [← hkept, heq]

end

/-! ### CTL_x_CFG -/

/-- The structure fields of CTL_x_CFG. -/
def structureFields (k : Nat) : List Fld :=
  [F.CTL_x_CFG_PRIM k, F.CTL_x_CFG_N k, F.CTL_x_CFG_INTLNK k, F.CTL_x_CFG_INTMASK k, F.CTL_x_CFG_NO k, F.CTL_x_CFG_NM k,
    F.CTL_x_CFG_NS k]

theorem structureFields_of (k : Nat) : FieldsOf (0x1000 + 0x100 * k) (structureFields k) := by
  simp [FieldsOf, structureFields, F.CTL_x_CFG_PRIM, F.CTL_x_CFG_N, F.CTL_x_CFG_INTLNK, F.CTL_x_CFG_INTMASK, F.CTL_x_CFG_NO,
    F.CTL_x_CFG_NM, F.CTL_x_CFG_NS, Fld.ok]

/-- EN, FREEZE and LIMPRUN lie outside them. -/
theorem structureFields_apart (k : Nat) {g : Fld} (hbit : g.lo = g.hi) (hg : g.hi = 9 ∨ g.hi = 10 ∨ g.hi = 37) :
    ∀ f ∈ structureFields k, g.hi < f.lo ∨ f.hi < g.lo := by
  simp only [structureFields, F.CTL_x_CFG_PRIM, F.CTL_x_CFG_N, F.CTL_x_CFG_INTLNK, F.CTL_x_CFG_INTMASK, F.CTL_x_CFG_NO,
    F.CTL_x_CFG_NM, F.CTL_x_CFG_NS, List.forall_mem_cons, List.not_mem_nil, false_implies, implies_true, and_true]
  omega

/-- Each can be written. -/
theorem structureFields_within (k : Fin 3) : ∀ f ∈ structureFields k, f.within 0x3fffffffff = true := by revert k; decide

/-- EN = 0 lets a HELD stage start again (R223). -/
def State.markLow (s : State) (k : Nat) : State := s.modStg k (fun x => { x with lowSeen := true })

theorem State.writeStageCfg_eq (s : State) (k : Nat) (x : Word) : s.writeStageCfg k x =
    if !(s.writeKept k (structureFields k) (0x1000 + 0x100 * k) x).flag (F.CTL_x_CFG_EN k) &&
        (s.writeKept k (structureFields k) (0x1000 + 0x100 * k) x).cst k = csHeld
    then (s.writeKept k (structureFields k) (0x1000 + 0x100 * k) x).markLow k
    else s.writeKept k (structureFields k) (0x1000 + 0x100 * k) x := rfl

theorem State.stg_modStg (s : State) (k j : Nat) (f : StageSt → StageSt) :
    (s.modStg k f).stg j = if j = k then f (s.stg k) else s.stg j := spGet_spSet _ _ _ _ _

theorem cfg_addr_ne (k : Nat) : 0x1000 + 0x100 * k ≠ (F.CTL_x_STAT_CFGERR k).addr := by
  simp only [F.CTL_x_STAT_CFGERR]
  omega

theorem State.writeStageCfg_guarded (s : State) (k : Nat) (x : Word) :
    Guarded k (structureFields k) (0x1000 + 0x100 * k) x s (s.writeStageCfg k x) := by
  have hkept := s.writeKept_guarded x (structureFields k) (cfg_addr_ne k)
  rw [State.writeStageCfg_eq]
  split
  · exact hkept.setCtl _
  · exact hkept

theorem State.writeKept_ctl (s : State) (k : Nat) (fs : List Fld) (a : Nat) (x : Word) : (s.writeKept k fs a x).ctl = s.ctl := by
  obtain hoff | hon := eq_or_ne (s.cst k) csOff
  · simp [State.writeKept, State.guardFields, hoff]
  · unfold State.writeKept State.guardFields
    rw [if_neg hon]
    dsimp only
    split <;> rfl

/-- What the engine holds beside its registers changes by a write of CTL_x_CFG only where a HELD stage meets EN = 0. -/
theorem State.writeStageCfg_ctl (s : State) (k : Nat) (x : Word) : (s.writeStageCfg k x).ctl =
    if bitOf x.toNat 9 = false ∧ s.cst k = csHeld then (s.markLow k).ctl else s.ctl := by
  have hkept := s.writeKept_guarded x (structureFields k) (cfg_addr_ne k)
  have hen : (s.writeKept k (structureFields k) (0x1000 + 0x100 * k) x).flag (F.CTL_x_CFG_EN k) = bitOf x.toNat 9 := by
    rw [State.flag, hkept.fld_apart (structureFields_of k) (g := F.CTL_x_CFG_EN k) rfl (structureFields_apart k rfl (.inl rfl))]
    exact bitsOf_mod_two _ _ _ (Nat.le_refl 9)
  have hctl := s.writeKept_ctl k (structureFields k) (0x1000 + 0x100 * k) x
  rw [State.writeStageCfg_eq, hen, hkept.state]
  simp only [Bool.and_eq_true, Bool.not_eq_true', decide_eq_true_eq]
  split
  · rw [State.markLow, State.modStg, State.stg, hctl]
    rfl
  · exact hctl

end Sys2Proof.Machine
end

section
/-! PROOF. Structure fields, EN, FREEZE and coefficients (O44; R221, R223, R225, R226). -/

namespace Sys2Proof.Machine

open Sys2Proof

/-! ### A write to the control engine -/

/-- The control engine is open to every path. -/
theorem closedTo_control (p : Writer) {a : Nat} (hlo : 0x1000 ≤ a) (hhi : a < 0x1600) : closedTo p a = false := by
  simp only [closedTo, inSlk, inKey, Bool.and_eq_false_iff, Bool.or_eq_false_iff, decide_eq_false_iff_not]
  omega

/-- A write of a register of the control engine without W1C flags, in a calm core clock, that its register takes or refuses with a flag. -/
theorem State.write_control (s : State) (p : Path) {a : Nat} {r : RegRow} (v : Word) (hlo : 0x1000 ≤ a) (hhi : a < 0x1600)
    (hr : regAt a = some r) (hcalm : s.calm = true) (hrw : r.rw ≠ 0) (hw1c : r.w1c = 0)
    (hact : (s.writeReg (some p) r a v (r.stored (s.reg a) v)).1.acted = true) :
    s.write p a v = (s.writeReg (some p) r a v (r.stored (s.reg a) v)).2.completed := by
  have hin : inInputs a = false := by simp only [inInputs, Bool.and_eq_false_iff, decide_eq_false_iff_not]; omega
  have hmet := s.metAt_other hin
  rw [State.write, s.hostWrite_calm v (closedTo_control _ hlo hhi) hr (hmet.symm ▸ hcalm) hrw, s.clearedBy_noFlags v hw1c, hmet,
    if_pos hact]

/-- A one-bit field that holds its bit of a word. -/
theorem State.flag_of_bitsOf {t : State} {g : Fld} {w : Nat} (h : t.fld g = bitsOf w g.hi g.lo) (hg : g.lo ≤ g.hi) :
    t.flag g = bitOf w g.lo := by
  rw [State.flag, h, bitsOf_mod_two _ _ _ hg]

/-- The row of CTL_x_CFG of stage `k`. -/
def stageCfgRow (k : Nat) : RegRow :=
  ⟨.CTL_x_CFG, 0x1000 + 0x100 * k, 1, 1, k, if k = 0 then 0x8000091 else 0x91, 0x3fffffffff, 0x0, 0x0⟩

/-- The row of CTL_x_MOj of stage `k`. -/
def sourceRow (k : Nat) : RegRow := ⟨.CTL_x_MOj, 0x1008 + 0x100 * k, 2, 4, k, 0x0, 0xfffffffff, 0x0, 0x0⟩

/-- The row of CTL_x_UDk of stage `k`. -/
def destRow (k : Nat) : RegRow := ⟨.CTL_x_UDk, 0x1014 + 0x100 * k, 4, 2, k, 0x0, 0xffffffff2f, 0x0, 0x0⟩

/-- Row `r` of the matrices of stage `k`. -/
def coefRow (k r : Nat) : RegRow := ⟨.CTL_x_Mr_c, 0x1040 + 0x100 * k + 0x10 * r, 1, 14, 16 * k + r, 0x0, 0xffffffffff, 0x0, 0x0⟩

theorem regAt_stageCfg (k : Fin 3) : regAt (0x1000 + 0x100 * k) = some (stageCfgRow k) := by revert k; decide

theorem regAt_source (k : Fin 3) (j : Fin 4) : regAt (0x1008 + 0x100 * k + 2 * j) = some (sourceRow k) := by revert k j; decide

theorem regAt_dest (k : Fin 3) (j : Fin 2) : regAt (0x1014 + 0x100 * k + 4 * j) = some (destRow k) := by revert k j; decide

theorem regAt_coef (k : Fin 3) (r : Fin 10) (c : Fin 14) : regAt (0x1040 + 0x100 * k + 0x10 * r + c) = some (coefRow k r) := by
  revert k r c; decide

theorem State.writeReg_stageCfg (s : State) (p : Writer) (k a : Nat) (v x : Word) : s.writeReg p (stageCfgRow k) a v x =
    s.probe (F.CTL_x_STAT_CFGERR k) (fun u => u.writeStageCfg k x) := rfl

theorem State.writeReg_source (s : State) (p : Writer) (k j : Nat) (v x : Word) :
    s.writeReg p (sourceRow k) (0x1008 + 0x100 * k + 2 * j) v x = s.probe (F.CTL_x_STAT_CFGERR k)
      (fun u => u.writeKept k [F.CTL_x_MOj_SRC k j] (0x1008 + 0x100 * k + 2 * j) x) := by
  have hidx : (sourceRow k).idx (0x1008 + 0x100 * k + 2 * j) = j := by simp [RegRow.idx, sourceRow]
  show s.probe (F.CTL_x_STAT_CFGERR k) (fun u => u.writeGuarded k (F.CTL_x_MOj_SRC k ((sourceRow k).idx _)) x) = _
  rw [hidx]
  rfl

theorem State.writeReg_dest (s : State) (p : Writer) (k j : Nat) (v x : Word) :
    s.writeReg p (destRow k) (0x1014 + 0x100 * k + 4 * j) v x = s.probe (F.CTL_x_STAT_CFGERR k)
      (fun u => u.writeKept k [F.CTL_x_UDk_DEST k j] (0x1014 + 0x100 * k + 4 * j) x) := by
  have hidx : (destRow k).idx (0x1014 + 0x100 * k + 4 * j) = j := by simp [RegRow.idx, destRow]
  show s.probe (F.CTL_x_STAT_CFGERR k) (fun u => u.writeGuarded k (F.CTL_x_UDk_DEST k ((destRow k).idx _)) x) = _
  rw [hidx]
  rfl

theorem State.write_stageCfg (s : State) (p : Path) (k : Fin 3) (v : Word) (hcalm : s.calm = true) :
    s.write p (0x1000 + 0x100 * k) v = (s.probe (F.CTL_x_STAT_CFGERR k)
      (fun u => u.writeStageCfg k ((stageCfgRow k).stored (s.reg (0x1000 + 0x100 * k)) v))).2.completed := by
  rw [s.write_control p v (by omega) (by omega) (regAt_stageCfg k) hcalm (by simp [stageCfgRow]) rfl
    (by rw [State.writeReg_stageCfg]; exact State.probe_acted ..), State.writeReg_stageCfg]

theorem State.write_source (s : State) (p : Path) (k : Fin 3) (j : Fin 4) (v : Word) (hcalm : s.calm = true) :
    s.write p (0x1008 + 0x100 * k + 2 * j) v = (s.probe (F.CTL_x_STAT_CFGERR k)
      (fun u => u.writeKept k [F.CTL_x_MOj_SRC k j] (0x1008 + 0x100 * k + 2 * j)
        ((sourceRow k).stored (s.reg (0x1008 + 0x100 * k + 2 * j)) v))).2.completed := by
  rw [s.write_control p v (by omega) (by omega) (regAt_source k j) hcalm (by simp [sourceRow]) rfl
    (by rw [State.writeReg_source]; exact State.probe_acted ..), State.writeReg_source]

theorem State.write_dest (s : State) (p : Path) (k : Fin 3) (j : Fin 2) (v : Word) (hcalm : s.calm = true) :
    s.write p (0x1014 + 0x100 * k + 4 * j) v = (s.probe (F.CTL_x_STAT_CFGERR k)
      (fun u => u.writeKept k [F.CTL_x_UDk_DEST k j] (0x1014 + 0x100 * k + 4 * j)
        ((destRow k).stored (s.reg (0x1014 + 0x100 * k + 4 * j)) v))).2.completed := by
  rw [s.write_control p v (by omega) (by omega) (regAt_dest k j) hcalm (by simp [destRow]) rfl
    (by rw [State.writeReg_dest]; exact State.probe_acted ..), State.writeReg_dest]

/-! ### Coefficients -/

/-- The SRAM words of the matrices lie in the register file. -/
theorem coef_sram (k : Fin 3) (r : Fin 10) (c : Fin 14) : sramReg (0x1040 + 0x100 * k + 0x10 * r + c) = true := by
  rw [sramReg, regAt_coef]
  rfl

theorem State.sramWrite_coef (s : State) (k : Fin 3) (r : Fin 10) (c : Fin 14) (v : Word) :
    s.sramWrite (F.CTL_x_Mr_c_w k r c).addr v = (s.setReg (F.CTL_x_Mr_c_w k r c).addr v).setChk (F.CTL_x_Mr_c_w k r c).addr 0 := by
  have hevents : inEvents (F.CTL_x_Mr_c_w k r c).addr = false := inEvents_of_regAt (regAt_coef k r c)
  have hsram : sramReg (F.CTL_x_Mr_c_w k r c).addr = true := coef_sram k r c
  simp [State.sramWrite, State.sramPut, hevents, hsram]

theorem State.write_coef (s : State) (p : Path) (k : Fin 3) (r : Fin 10) (c : Fin 14) (v : Word) (hcalm : s.calm = true) :
    s.write p (0x1040 + 0x100 * k + 0x10 * r + c) v = (s.sramWrite (F.CTL_x_Mr_c_w k r c).addr v).completed := by
  have hplain (x : Word) : s.writeReg (some p) (coefRow k r) (0x1040 + 0x100 * k + 0x10 * r + c) v x =
      (.done, s.store (0x1040 + 0x100 * k + 0x10 * r + c) x) := s.writeReg_plain _ _ _ _ (by simp [coefRow, effectRegs])
  rw [s.write_control p v (by omega) (by omega) (regAt_coef k r c) hcalm (by simp [coefRow]) rfl (by rw [hplain]; rfl), hplain,
    (coefRow k r).stored_whole _ v rfl, State.store, if_pos (coef_sram k r c)]
  rfl

theorem State.sramData_coef (s : State) (k : Fin 3) (r : Fin 10) (c : Fin 14) :
    s.sramData (F.CTL_x_Mr_c_w k r c).addr = (s.reg (F.CTL_x_Mr_c_w k r c).addr, s.chkAt (F.CTL_x_Mr_c_w k r c).addr) := by
  have hevents : inEvents (F.CTL_x_Mr_c_w k r c).addr = false := inEvents_of_regAt (regAt_coef k r c)
  have hsram : sramReg (F.CTL_x_Mr_c_w k r c).addr = true := coef_sram k r c
  simp [State.sramData, hevents, hsram]

/-! ### A coefficient read in a sample -/

/-- Check bits with which a word is delivered poisoned. -/
def poisoned (c : Nat) : Bool := c != 0 && (bitOf c 5 || c % 32 != 0)

/-- What a read delivers depends on the word and its check bits alone (R343). -/
theorem State.sramRead_delivers (s : State) (a req : Nat) :
    (s.sramRead a req).1 = (s.sramData a).1 ∧ (s.sramRead a req).2.1 = poisoned (s.sramData a).2 := by
  unfold State.sramRead poisoned
  dsimp only
  split
  next hclean => exact ⟨rfl, by simp [hclean]⟩
  next hdirty =>
    refine ⟨rfl, ?_⟩
    unfold State.checkRead
    split
    next hpois => simp [hdirty, hpois]
    next hpois =>
      split
      next hpar => simp [hdirty, hpar]
      next hpar => simp [hpois, not_not.1 hpar]

/-- The word that a read of one word delivers. -/
theorem State.readWords_single (s : State) (a : Nat) : (State.readWords [a] s).1 =
    if poisoned ((s.beforeFetch a).sramData a).2 then none else some [sx 40 ((s.beforeFetch a).sramData a).1.toNat] := by
  obtain ⟨hword, hpois⟩ := (s.beforeFetch a).sramRead_delivers a reqCtl
  rw [← hword, ← hpois]
  unfold State.readWords
  dsimp only
  split <;> rfl

/-- A fetch of a coefficient stores first what has completed (R226). -/
theorem State.beforeFetch_coef (s : State) (k : Fin 3) (r : Fin 10) (c : Fin 14) :
    s.beforeFetch (F.CTL_x_Mr_c_w k r c).addr =
      { s.midWrites false with ctl := { (s.midWrites false).ctl with fetches := (s.midWrites false).ctl.fetches + 1 } } := by
  have hrow : regAt (F.CTL_x_Mr_c_w k r c).addr = some (coefRow k r) := regAt_coef k r c
  rw [State.beforeFetch, hrow]
  rfl

theorem State.midWrites_due (s : State) {w : CoefWrite} (hmid : s.ctl.mid = [w]) (hdue : w.begun ≤ s.ctl.fetches) :
    ∃ l, s.midWrites false = { s.sramWrite (F.CTL_x_Mr_c_w w.k w.r w.c).addr w.v with ctl := l } := by
  unfold State.midWrites
  rw [hmid]
  simp only [Bool.false_or, List.takeWhile_cons, List.takeWhile_nil, decide_eq_true hdue, if_true, List.foldl_cons, List.foldl_nil]
  exact ⟨_, rfl⟩

theorem State.midWrites_waiting (s : State) (h : ∀ w ∈ s.ctl.mid.head?, s.ctl.fetches < w.begun) : ∃ l,
    s.midWrites false = { s with ctl := l } := by
  unfold State.midWrites
  cases hmid : s.ctl.mid with
  | nil => exact ⟨_, rfl⟩
  | cons w m =>
    have hlate : decide (w.begun ≤ s.ctl.fetches) = false := by
      have := h w (by rw [hmid]; rfl)
      exact decide_eq_false (by omega)
    simp only [Bool.false_or, List.takeWhile_cons, hlate, Bool.false_eq_true, if_false, List.foldl_nil]
    exact ⟨_, rfl⟩

/-- A write that has completed is what the fetch finds. -/
theorem State.readWords_due (s : State) {w : CoefWrite} (hmid : s.ctl.mid = [w]) (hdue : w.begun ≤ s.ctl.fetches) :
    (State.readWords [(F.CTL_x_Mr_c_w w.k w.r w.c).addr] s).1 = some [sx 40 w.v.toNat] := by
  obtain ⟨l, hl⟩ := s.midWrites_due hmid hdue
  have hdata : (s.beforeFetch (F.CTL_x_Mr_c_w w.k w.r w.c).addr).sramData (F.CTL_x_Mr_c_w w.k w.r w.c).addr = (w.v, 0) := by
    rw [State.sramData_coef, State.beforeFetch_coef, hl, s.sramWrite_coef]
    refine Prod.ext ?_ ?_
    · exact (s.reg_setReg _ _ w.v).trans (if_pos rfl)
    · exact (State.chkAt_setChk _ _ _ 0).trans (if_pos rfl)
  rw [State.readWords_single, hdata]
  rfl

/-- Where no write has completed the fetch finds the word as it is stored. -/
theorem State.readWords_waiting (s : State) (k : Fin 3) (r : Fin 10) (c : Fin 14)
    (h : ∀ w ∈ s.ctl.mid.head?, s.ctl.fetches < w.begun) : (State.readWords [(F.CTL_x_Mr_c_w k r c).addr] s).1 =
    if poisoned (s.chkAt (F.CTL_x_Mr_c_w k r c).addr) then none else some [sx 40 (s.reg (F.CTL_x_Mr_c_w k r c).addr).toNat] := by
  obtain ⟨l, hl⟩ := s.midWrites_waiting h
  have hdata : (s.beforeFetch (F.CTL_x_Mr_c_w k r c).addr).sramData (F.CTL_x_Mr_c_w k r c).addr =
      (s.reg (F.CTL_x_Mr_c_w k r c).addr, s.chkAt (F.CTL_x_Mr_c_w k r c).addr) := by
    rw [State.sramData_coef, State.beforeFetch_coef, hl]
    rfl
  rw [State.readWords_single, hdata]

end Sys2Proof.Machine

namespace Sys2Proof.Proofs

open Sys2Proof Sys2Proof.Machine

/-! ### Stage configuration -/

theorem exec_freeze (s : State) (k : Fin 3) (v : Word) (hrun : s.boot.halted = false) :
    exec (.freeze k v) s = .next (s.write .service (0x1000 + 0x100 * k) v) := by
  show execFreeze k v s = _
  exact s.clocked_running _ hrun

theorem exec_stageEnable (s : State) (k : Fin 3) (v : Word) (hrun : s.boot.halted = false) :
    exec (.stageEnable k v) s = .next (s.write .service (0x1000 + 0x100 * k) v) := by
  show execStageEnable k v s = _
  exact s.clocked_running _ hrun

theorem exec_coefficientWrite (s : State) (p : Path) (k : Fin 3) (r : Fin 10) (c : Fin 14) (v : Word)
    (hrun : s.boot.halted = false) :
    exec (.coefficientWrite p k r c v) s = .next (s.write p (0x1040 + 0x100 * k + 0x10 * r + c) v) := by
  show execCoefficientWrite p k r c v s = _
  exact s.clocked_running _ hrun

/-- STRUCTURE_FIELD_WRITE is a write of a register that holds a structure field. -/
theorem exec_structureFieldWrite (s : State) (p : Path) {a : Nat} {r : RegRow} (v : Word) (hrun : s.boot.halted = false)
    (ha : a < 2 ^ 24) (hr : regAt a = some r) (hreg : r.reg = .CTL_x_CFG ∨ r.reg = .CTL_x_MOj ∨ r.reg = .CTL_x_UDk) :
    exec (.structureFieldWrite p (BitVec.ofNat 24 a) v) s = .next (s.write p a v) := by
  have hnat : (BitVec.ofNat 24 a).toNat = a := (BitVec.toNat_ofNat a 24).trans (Nat.mod_eq_of_lt ha)
  show execStructureFieldWrite p (BitVec.ofNat 24 a) v s = _
  rw [execStructureFieldWrite, s.clocked_running _ hrun, hnat, hr]
  exact if_pos (by simpa [or_assoc] using hreg)

theorem exec_structureFieldWrite_other (s : State) (p : Path) (a : BitVec 24) (v : Word) (hrun : s.boot.halted = false)
    (h : ∀ r, regAt a.toNat = some r → r.reg ≠ .CTL_x_CFG ∧ r.reg ≠ .CTL_x_MOj ∧ r.reg ≠ .CTL_x_UDk) :
    exec (.structureFieldWrite p a v) s = .next s := by
  show execStructureFieldWrite p a v s = _
  rw [execStructureFieldWrite, s.clocked_running _ hrun]
  cases hr : regAt a.toNat with
  | none => rfl
  | some r =>
    obtain ⟨hcfg, hsrc, hdest⟩ := h r hr
    simp [hcfg, hsrc, hdest]

/-- What a write of CTL_x_CFG leaves. -/
theorem stageCfg_facts (s : State) (p : Path) (k : Fin 3) (v : Word) (hcalm : s.calm = true) : ∀ t,
    t = s.write p (0x1000 + 0x100 * k) v → t.flag (F.CTL_x_CFG_EN k) = bitOf v.toNat 9 ∧
      t.flag (F.CTL_x_CFG_FREEZE k) = bitOf v.toNat 10 ∧ t.flag (F.CTL_x_CFG_LIMPRUN k) = bitOf v.toNat 37 ∧
      (∀ f ∈ [F.CTL_x_CFG_NS k, F.CTL_x_CFG_NM k, F.CTL_x_CFG_NO k, F.CTL_x_CFG_N k, F.CTL_x_CFG_INTMASK k,
          F.CTL_x_CFG_INTLNK k, F.CTL_x_CFG_PRIM k],
        (s.cst k = csOff → t.fld f = bitsOf v.toNat f.hi f.lo) ∧
        (s.cst k ≠ csOff → t.fld f = s.fld f ∧ (bitsOf v.toNat f.hi f.lo ≠ s.fld f →
          t.flag (F.CTL_x_STAT_CFGERR k) = true))) ∧
      t.cst k = s.cst k ∧ (bitOf v.toNat 9 = true ∨ s.cst k ≠ csHeld → t.ctl = s.ctl) ∧
      (bitOf v.toNat 9 = false → s.cst k = csHeld → (t.stg k).lowSeen = true) ∧
      (∀ j, j ≠ k.val → t.stg j = s.stg j) ∧ t.mem = s.mem ∧ t.queues = s.queues := by
  rintro t rfl
  rw [s.write_stageCfg p k v hcalm]
  have hstored (f : Fld) (hok : f.ok = true) (hrw : f.within 0x3fffffffff = true) :=
    (stageCfgRow k).bitsOf_stored_rw (s.reg (0x1000 + 0x100 * k)) v hok hrw
  generalize (stageCfgRow k).stored (s.reg (0x1000 + 0x100 * k)) v = x at hstored ⊢
  have hwrite := (Guarded.probe (cfg_addr_ne k) (structureFields_of k) (fun u => u.writeStageCfg_guarded k x) s).completed
  have hctl := (State.completed_ctl _).trans ((s.probe_ctl (F.CTL_x_STAT_CFGERR k) fun u => u.writeStageCfg k x).trans
    (State.writeStageCfg_ctl _ k x))
  rw [State.setError_cst] at hctl
  generalize (s.probe (F.CTL_x_STAT_CFGERR k) fun u => u.writeStageCfg k x).2.completed = t at hwrite hctl ⊢
  have hfree {g : Fld} (ha : g.addr = 0x1000 + 0x100 * k.val) (hbit : g.lo = g.hi) (hg : g.hi = 9 ∨ g.hi = 10 ∨ g.hi = 37)
      (hrw : g.within 0x3fffffffff = true) : t.flag g = bitOf v.toNat g.lo := by
    have hok : g.ok = true := by simp only [Fld.ok, Bool.and_eq_true, decide_eq_true_eq]; omega
    exact State.flag_of_bitsOf ((hwrite.fld_apart (structureFields_of k) ha (structureFields_apart k hbit hg)).trans
      (hstored g hok hrw)) hbit.le
  have hen : bitOf x.toNat 9 = bitOf v.toNat 9 := by
    rw [← bitsOf_mod_two _ _ _ (Nat.le_refl 9), ← bitsOf_mod_two _ _ _ (Nat.le_refl 9)]
    exact congrArg (· % 2 == 1) (hstored (F.CTL_x_CFG_EN k) rfl rfl)
  rw [hen] at hctl
  refine ⟨hfree rfl rfl (.inl rfl) rfl, hfree rfl rfl (.inr (.inl rfl)) rfl, hfree rfl rfl (.inr (.inr rfl)) rfl,
    fun f hf => ?field, hwrite.state, fun h => ?ctl, fun hlow hheld => ?low, fun j hj => ?others, hwrite.mem, hwrite.queues⟩
  case field =>
    have hmem : f ∈ structureFields k := by
      simp only [structureFields, List.mem_cons, List.not_mem_nil, or_false] at hf ⊢
      tauto
    have hbits := hstored f (structureFields_of k f hmem).2 (structureFields_within k f hmem)
    obtain ⟨haddr, -⟩ := structureFields_of k f hmem
    exact ⟨fun hoff => (hwrite.fld_off hoff haddr).trans hbits, fun hon => hbits ▸ hwrite.fld_on (structureFields_of k) hon hmem⟩
  case ctl =>
    have hstays : ¬(bitOf v.toNat 9 = false ∧ s.cst k = csHeld) := fun hlow => h.elim (by simp [hlow.1]) fun hne => hne hlow.2
    rw [hctl, if_neg hstays]
    rfl
  case low =>
    rw [State.stg, hctl, if_pos ⟨hlow, hheld⟩]
    exact congrArg StageSt.lowSeen ((State.stg_modStg _ k k _).trans (if_pos rfl))
  case others =>
    rw [State.stg, hctl]
    split
    · exact (State.stg_modStg _ k j _).trans (if_neg hj)
    · rfl

/-! ### CTL_x_MOj and CTL_x_UDk -/

/-- What a write leaves of a register with one field `f` under the guard and another, `g`. -/
theorem guardedField_facts {s t : State} {k : Nat} {f g : Fld} {x v : Word} (hwrite : Guarded k [f] f.addr x s t)
    (hctl : t.ctl = s.ctl) (hok : f.ok = true) (hg : g.addr = f.addr) (hapart : g.hi < f.lo ∨ f.hi < g.lo)
    (hf' : bitsOf x.toNat f.hi f.lo = bitsOf v.toNat f.hi f.lo) (hg' : bitsOf x.toNat g.hi g.lo = bitsOf v.toNat g.hi g.lo) :
    t.fld g = bitsOf v.toNat g.hi g.lo ∧ (s.cst k = csOff → t.fld f = bitsOf v.toNat f.hi f.lo) ∧
      (s.cst k ≠ csOff → t.fld f = s.fld f ∧ (bitsOf v.toNat f.hi f.lo ≠ s.fld f → t.flag (F.CTL_x_STAT_CFGERR k) = true)) ∧
      (∀ i, i ≠ f.addr → i ≠ (F.CTL_x_STAT_CFGERR k).addr → t.reg i = s.reg i) ∧ t.ctl = s.ctl ∧ t.mem = s.mem ∧
      t.queues = s.queues := by
  have hfs : FieldsOf f.addr [f] := by simp [FieldsOf, hok]
  refine ⟨(hwrite.fld_apart hfs hg (by simpa using hapart)).trans hg', fun hoff => (hwrite.fld_off hoff rfl).trans hf',
    fun hon => hf' ▸ hwrite.fld_on hfs hon (by simp), hwrite.reg, hctl, hwrite.mem, hwrite.queues⟩

/-- A write of one guarded field, as the host makes it. -/
theorem probe_writeKept (s : State) {k : Nat} {f : Fld} (x : Word) (ha : f.addr ≠ (F.CTL_x_STAT_CFGERR k).addr) (hok : f.ok = true) :
    ∀ t, t = (s.probe (F.CTL_x_STAT_CFGERR k) (fun u => u.writeKept k [f] f.addr x)).2.completed →
      Guarded k [f] f.addr x s t ∧ t.ctl = s.ctl := by
  rintro t rfl
  refine ⟨(Guarded.probe ha (by simp [FieldsOf, hok]) (fun u => u.writeKept_guarded x [f] ha) s).completed, ?_⟩
  rw [State.completed_ctl, State.probe_ctl, State.writeKept_ctl]
  rfl

theorem source_within (k : Fin 3) (j : Fin 4) : (F.CTL_x_MOj_SRC k j).within (sourceRow k).rw = true ∧
    (F.CTL_x_MOj_OFF k j).within (sourceRow k).rw = true := by revert k j; decide

theorem dest_within (k : Fin 3) (j : Fin 2) : (F.CTL_x_UDk_DEST k j).within (destRow k).rw = true ∧
    (F.CTL_x_UDk_SAFE k j).within (destRow k).rw = true := by revert k j; decide

theorem source_facts (s : State) (p : Path) (k : Fin 3) (j : Fin 4) (v : Word) (hcalm : s.calm = true) : ∀ t,
    t = s.write p (0x1008 + 0x100 * k + 2 * j) v → t.fld (F.CTL_x_MOj_OFF k j) = bitsOf v.toNat 31 0 ∧
      (s.cst k = csOff → t.fld (F.CTL_x_MOj_SRC k j) = bitsOf v.toNat 35 32) ∧
      (s.cst k ≠ csOff → t.fld (F.CTL_x_MOj_SRC k j) = s.fld (F.CTL_x_MOj_SRC k j) ∧
        (bitsOf v.toNat 35 32 ≠ s.fld (F.CTL_x_MOj_SRC k j) → t.flag (F.CTL_x_STAT_CFGERR k) = true)) ∧
      (∀ i, i ≠ (F.CTL_x_MOj_SRC k j).addr → i ≠ (F.CTL_x_STAT_CFGERR k).addr → t.reg i = s.reg i) ∧ t.ctl = s.ctl ∧
      t.mem = s.mem ∧ t.queues = s.queues := by
  rintro t rfl
  have hne : (F.CTL_x_MOj_SRC k j).addr ≠ (F.CTL_x_STAT_CFGERR k).addr := by
    simp only [F.CTL_x_MOj_SRC, F.CTL_x_STAT_CFGERR]
    omega
  obtain ⟨hsrc, hoff⟩ := source_within k j
  rw [s.write_source p k j v hcalm]
  obtain ⟨hwrite, hctl⟩ := probe_writeKept s ((sourceRow k).stored (s.reg (0x1008 + 0x100 * k + 2 * j)) v) hne rfl _ rfl
  exact guardedField_facts (g := F.CTL_x_MOj_OFF k j) hwrite hctl rfl rfl (.inl (show 31 < 32 by decide))
    ((sourceRow k).bitsOf_stored_rw _ v rfl hsrc) ((sourceRow k).bitsOf_stored_rw _ v (f := F.CTL_x_MOj_OFF k j) rfl hoff)

theorem dest_facts (s : State) (p : Path) (k : Fin 3) (j : Fin 2) (v : Word) (hcalm : s.calm = true) : ∀ t,
    t = s.write p (0x1014 + 0x100 * k + 4 * j) v → t.fld (F.CTL_x_UDk_SAFE k j) = bitsOf v.toNat 39 24 ∧
      (s.cst k = csOff → t.fld (F.CTL_x_UDk_DEST k j) = bitsOf v.toNat 3 0) ∧
      (s.cst k ≠ csOff → t.fld (F.CTL_x_UDk_DEST k j) = s.fld (F.CTL_x_UDk_DEST k j) ∧
        (bitsOf v.toNat 3 0 ≠ s.fld (F.CTL_x_UDk_DEST k j) → t.flag (F.CTL_x_STAT_CFGERR k) = true)) ∧
      (∀ i, i ≠ (F.CTL_x_UDk_DEST k j).addr → i ≠ (F.CTL_x_STAT_CFGERR k).addr → t.reg i = s.reg i) ∧ t.ctl = s.ctl ∧
      t.mem = s.mem ∧ t.queues = s.queues := by
  rintro t rfl
  have hne : (F.CTL_x_UDk_DEST k j).addr ≠ (F.CTL_x_STAT_CFGERR k).addr := by
    simp only [F.CTL_x_UDk_DEST, F.CTL_x_STAT_CFGERR]
    omega
  obtain ⟨hdest, hsafe⟩ := dest_within k j
  rw [s.write_dest p k j v hcalm]
  obtain ⟨hwrite, hctl⟩ := probe_writeKept s ((destRow k).stored (s.reg (0x1014 + 0x100 * k + 4 * j)) v) hne rfl _ rfl
  exact guardedField_facts (g := F.CTL_x_UDk_SAFE k j) hwrite hctl rfl rfl (.inr (show 3 < 24 by decide))
    ((destRow k).bitsOf_stored_rw _ v rfl hdest) ((destRow k).bitsOf_stored_rw _ v (f := F.CTL_x_UDk_SAFE k j) rfl hsafe)

/-! ### Coefficients -/

theorem coefficientWrite_facts (s : State) (p : Path) (k : Fin 3) (r : Fin 10) (c : Fin 14) (v : Word) (hcalm : s.calm = true) :
    ∀ t, t = s.write p (0x1040 + 0x100 * k + 0x10 * r + c) v → t.reg (F.CTL_x_Mr_c_w k r c).addr = v ∧
      t.chkAt (F.CTL_x_Mr_c_w k r c).addr = 0 ∧ t.ctl = s.ctl ∧ t.mem = s.mem ∧ t.queues = s.queues ∧
      ∀ i, i ≠ (F.CTL_x_Mr_c_w k r c).addr → t.reg i = s.reg i ∧ t.chkAt i = s.chkAt i := by
  rintro t rfl
  rw [s.write_coef p k r c v hcalm, s.sramWrite_coef]
  exact ⟨(s.reg_setReg _ _ v).trans (if_pos rfl), (State.chkAt_setChk _ _ _ 0).trans (if_pos rfl), rfl, rfl, rfl,
    fun i hi => ⟨(s.reg_setReg _ i v).trans (if_neg hi), (State.chkAt_setChk _ _ i 0).trans (if_neg hi)⟩⟩

/-- Settles O44: a write of CTL_x_CFG, CTL_x_MOj or CTL_x_UDk is a write under the guard of R225 (`Guarded`), a coefficient
write is a full SRAM write, and a fetch of a coefficient stores first the writes that have completed (`State.readWords_due`,
`State.readWords_waiting`). -/
theorem stageStructureIsTakenOnlyOff : Obligations.StageStructureIsTakenOnlyOff := by
  unfold Obligations.StageStructureIsTakenOnlyOff
  intro s p k v hrun hcalm
  refine ⟨fun c hc => ?config, fun j hj => ⟨_, ?source, source_facts s p k ⟨j, hj⟩ v hcalm _ rfl⟩,
    fun j hj => ⟨_, ?dest, dest_facts s p k ⟨j, hj⟩ v hcalm _ rfl⟩, fun a h => exec_structureFieldWrite_other s p a v hrun h,
    fun r c => ⟨_, exec_coefficientWrite s p k r c v hrun, coefficientWrite_facts s p k r c v hcalm _ rfl⟩,
    fun w m i hi => ⟨fun hmid hdue => hi ▸ s.readWords_due hmid hdue, fun hmid hlate => ?waits⟩⟩
  case config =>
    obtain ⟨p', hexec⟩ : ∃ p', exec c s = .next (s.write p' (0x1000 + 0x100 * k.val) v) := by
      simp only [List.mem_cons, List.not_mem_nil, or_false] at hc
      obtain rfl | rfl | rfl := hc
      · exact ⟨.service, exec_freeze s k v hrun⟩
      · exact ⟨.service, exec_stageEnable s k v hrun⟩
      · exact ⟨p, exec_structureFieldWrite s p v hrun (by omega) (regAt_stageCfg k) (.inl rfl)⟩
    exact ⟨_, hexec, stageCfg_facts s p' k v hcalm _ rfl⟩
  case source => exact exec_structureFieldWrite s p v hrun (by omega) (regAt_source k ⟨j, hj⟩) (.inr (.inl rfl))
  case dest => exact exec_structureFieldWrite s p v hrun (by omega) (regAt_dest k ⟨j, hj⟩) (.inr (.inr rfl))
  case waits =>
    have hnone : ∀ x ∈ s.ctl.mid.head?, s.ctl.fetches < x.begun := by rw [hmid]; rintro x ⟨⟩; exact hlate
    rw [hi, s.readWords_waiting w.k w.r w.c hnone]
    exact (State.readWords_waiting { s with ctl := { s.ctl with mid := [] } } w.k w.r w.c (by simp)).symm

end Sys2Proof.Proofs
end

section
/-! PROOF. What follows the outputs of a control sample leaves them and the registers of the stages (R218, R226, R235). -/

namespace Sys2Proof.Machine

open Sys2Proof

/-! ### What leaves the outputs -/

/-- A register of the stages and their outputs that SRAM does not hold. -/
def EngineReg (i : Nat) : Prop := 0x1000 ≤ i ∧ i < 0x1310 ∧ sramReg i = false

/-- From `s` to `t` the output latches, the AI codes and the registers of the stages stay. -/
structure SameEngine (s t : State) : Prop where
  out : t.ctl.out = s.ctl.out
  ai : t.ctl.ai = s.ctl.ai
  reg : ∀ i, EngineReg i → t.reg i = s.reg i

theorem not_engineReg_low {i : Nat} (h : i < 0x1000) : ¬ EngineReg i := fun hi => by have := hi.1; omega

theorem not_engineReg_high {i : Nat} (h : 0x1310 ≤ i) : ¬ EngineReg i := fun hi => by have := hi.2.1; omega

section
variable {s t u : State}

theorem SameEngine.refl (s : State) : SameEngine s s := ⟨rfl, rfl, fun _ _ => rfl⟩

theorem SameEngine.trans (h : SameEngine s t) (g : SameEngine t u) : SameEngine s u :=
  ⟨g.out.trans h.out, g.ai.trans h.ai, fun i hi => (g.reg i hi).trans (h.reg i hi)⟩

theorem SameEngine.ite {c : Prop} [Decidable c] (h : SameEngine s t) (g : SameEngine s u) : SameEngine s (if c then t else u) := by
  split
  · exact h
  · exact g

theorem SameEngine.foldl {α : Type} {f : State → α → State} (h : ∀ v x, SameEngine v (f v x)) (l : List α) (s : State) :
    SameEngine s (l.foldl f s) := by
  induction l generalizing s with
  | nil => exact .refl s
  | cons x l ih => exact (h s x).trans (ih _)

theorem SameEngine.of_regs (hregs : t.regs = s.regs) (hout : t.ctl.out = s.ctl.out := by rfl) (hai : t.ctl.ai = s.ctl.ai := by rfl) :
    SameEngine s t := ⟨hout, hai, fun i _ => by rw [State.reg, hregs, State.reg]⟩

theorem SameEngine.setReg (h : SameEngine s t) {a : Nat} (x : Word) (ha : ¬ EngineReg a) : SameEngine s (t.setReg a x) :=
  h.trans ⟨rfl, rfl, fun i hi => (t.reg_setReg a i x).trans (if_neg fun e : i = a => ha (e ▸ hi))⟩

theorem SameEngine.setFld (h : SameEngine s t) {f : Fld} (x : Nat) (ha : ¬ EngineReg f.addr) : SameEngine s (t.setFld f x) :=
  h.setReg _ ha

theorem SameEngine.setTrc (h : SameEngine s t) (b : Nat) (x : TraceSt) : SameEngine s (t.setTrc b x) := h.trans (.of_regs rfl)

theorem SameEngine.reported {A : List Nat} (h : SameEngine s t) (g : Reported A t u) (hA : ∀ i ∈ A, ¬ EngineReg i) :
    SameEngine s u := by
  obtain ⟨⟨r, q, x, n, f, rfl⟩, hreg⟩ := g
  exact h.trans ⟨rfl, rfl, fun i hi => hreg i fun hmem => hA i hmem hi⟩

theorem SameEngine.sramWrite (h : SameEngine s t) (a : Nat) (x : Word) : SameEngine s (t.sramWrite a x) := by
  refine h.trans ?_
  rw [State.sramWrite, State.sramPut]
  split
  case isTrue =>
    unfold State.putSlot
    dsimp only
    split
    · exact .of_regs rfl
    · split <;> exact .of_regs rfl
  case isFalse =>
    split
    case isTrue hsram =>
      have hreg : SameEngine t (t.setReg a x) := (SameEngine.refl t).setReg x fun hi => by simp [hi.2.2] at hsram
      exact hreg.trans (.of_regs rfl)
    case isFalse =>
      obtain ⟨m, hm⟩ := t.setMemWord_same a x
      rw [hm]
      exact .of_regs rfl

end

/-! ### Traces -/

theorem SameEngine.traceRec {s t : State} (h : SameEngine s t) (typ b row : Nat) : SameEngine s (t.traceRec typ b row) :=
  h.reported (t.ringDrop_reported 61 _ _ (A := [(F.EVS_Qn_ERR_w 61).addr]) List.mem_cons_self) fun i hi => by
    rw [List.mem_singleton.1 hi]
    exact not_engineReg_low (by decide)

theorem SameEngine.setTrace {s t : State} (h : SameEngine s t) {f : Fld} (x : Nat) (hf : 0x1310 ≤ f.addr) :
    SameEngine s (t.setFld f x) := h.setFld x (not_engineReg_high hf)

theorem SameEngine.traceFinish {s t : State} (h : SameEngine s t) (b : Nat) : SameEngine s (t.traceFinish b) := by
  have hdraw : SameEngine s (t.draw 4096).2 := h.trans (.of_regs rfl)
  exact ((hdraw.setTrace _ (by simp only [F.CTL_TRCb_STAT_STATE]; omega)).setTrc b {}).traceRec 1 b _

/-- A row: its words, where the next one goes, and how many there are. -/
theorem State.rowWords_same (s : State) (b n m : Nat) (a : State → Nat → Nat) (x : State → Nat → Word) : SameEngine s
    ((((List.range 8).foldl (fun s k => s.sramWrite (a s k) (x s k)) s).setFld (F.CTL_TRCb_STAT_WPTR b) n).setFld
      (F.CTL_TRCb_STAT_VALID b) m) := by
  have hstat : 0x1310 ≤ 0x1345 + 32 * b := by omega
  exact ((SameEngine.foldl (fun v k => (SameEngine.refl v).sramWrite (a v k) (x v k)) _ s).setTrace n hstat).setTrace m hstat

theorem State.traceRow_same (s : State) (b : Nat) : SameEngine s (s.traceRow b) := by
  have hstat : 0x1310 ≤ 0x1345 + 32 * b := by omega
  have hrow (n m : Nat) (a : State → Nat → Nat) (x : State → Nat → Word) := s.rowWords_same b n m a x
  unfold State.traceRow
  dsimp only
  refine .ite (.refl s) (.ite (.ite (.ite ?ends ?triggers) ?armed) (.ite ?done ?counts))
  case ends => exact ((((hrow _ _ _ _).setTrace _ hstat).setTrace _ hstat).traceRec 0 b _).traceFinish b
  case triggers => exact ((((hrow _ _ _ _).setTrace _ hstat).setTrace _ hstat).traceRec 0 b _).setTrc b _
  case armed => exact (hrow _ _ _ _).setTrc b _
  case done => exact (hrow _ _ _ _).traceFinish b
  case counts => exact (hrow _ _ _ _).setTrc b _

end Sys2Proof.Machine
end

section
/-! PROOF. The steps of a control sample with every stage OFF (R216, R218): no stage does anything, and each SAFE raw goes to its
destination. -/

namespace Sys2Proof.Machine

open Sys2Proof

/-! ### Folds that do nothing -/

theorem foldl_fixed_of_mem {α β : Type} {f : β → α → β} {b : β} {l : List α} (h : ∀ x ∈ l, f b x = b) : l.foldl f b = b := by
  induction l with
  | nil => rfl
  | cons x l ih =>
    rw [List.foldl_cons, h x List.mem_cons_self]
    exact ih fun y hy => h y (List.mem_cons_of_mem x hy)

/-! ### Stages that are OFF -/

/-- Every stage is OFF and not enabled. -/
def State.AllOff (s : State) : Prop := ∀ k, k < 3 → s.cst k = csOff ∧ s.flag (F.CTL_x_CFG_EN k) = false

/-- From `s` to `t` the stages' phases became 0, and nothing else changed. -/
structure Rested (s t : State) : Prop where
  same : ∃ x, t = { s with ctl := { s.ctl with stages := x } }
  phase : ∀ k, k < 3 → (t.stg k).ph = 0

/-- The phase of stage `k` becomes 0. -/
def State.rest (s : State) (k : Nat) : State := s.modStg k (fun x => { x with ph := 0 })

theorem State.rest_phase (s : State) (k j : Nat) : ((s.rest k).stg j).ph = if j = k then 0 else (s.stg j).ph := by
  rw [State.rest, State.stg_modStg]
  split <;> rfl

theorem Rested.rest {s t : State} (h : Rested s t) (k : Nat) : Rested s (t.rest k) := by
  obtain ⟨⟨x, rfl⟩, hphase⟩ := h
  refine ⟨⟨_, rfl⟩, fun j hj => ?_⟩
  rw [State.rest_phase, hphase j hj, ite_self]

theorem Rested.fld {s t : State} (h : Rested s t) (f : Fld) : t.fld f = s.fld f := by
  obtain ⟨⟨x, rfl⟩, -⟩ := h
  rfl

theorem State.restAll_rested (s : State) : Rested s ((List.range 3).foldl (fun s k => s.rest k) s) := by
  refine ⟨⟨_, rfl⟩, fun k hk => ?_⟩
  show (((((s.rest 0).rest 1).rest 2).stg k)).ph = 0
  simp only [State.rest_phase]
  split
  · rfl
  · split
    · rfl
    · rw [if_pos (by omega)]

/-- A stage that is OFF and not enabled stays so at its sample. -/
theorem State.turnStage_off (s : State) {k : Nat} (hoff : s.cst k = csOff) (hen : s.flag (F.CTL_x_CFG_EN k) = false) :
    s.turnStage k = s.rest k := by
  have hheld : csOff ≠ csHeld := by decide
  have hstay : s.stageOff k = s := if_pos hoff
  unfold State.turnStage
  dsimp only
  rw [hstay, hoff, hen, if_neg hheld, Bool.not_false, if_pos rfl]
  split <;> rfl

theorem Rested.turnStages {s t : State} (h : Rested s t) (hoff : s.AllOff) {l : List Nat} (hl : ∀ k ∈ l, k < 3) :
    Rested s (l.foldl (fun s k => s.turnStage k) t) := by
  induction l generalizing t with
  | nil => exact h
  | cons k l ih =>
    obtain ⟨hst, hen⟩ := hoff k (hl k List.mem_cons_self)
    have hturn : t.turnStage k = t.rest k := by
      obtain ⟨⟨x, rfl⟩, -⟩ := h
      exact State.turnStage_off _ hst hen
    rw [List.foldl_cons, hturn]
    exact ih (h.rest k) fun j hj => hl j (List.mem_cons_of_mem k hj)

/-! ### SAFE raw -/

/-- SAFE raw of output `j` of stage `k`, within the range of destination `d` (Table 9-3). -/
def State.safeRaw (s : State) (k j d : Nat) : Nat := min (if d ≤ 2 then 65535 else 1024) (s.fld (F.CTL_x_UDk_SAFE k j))

theorem State.setOut_raw (s : State) (d e n : Nat) :
    (s.setOut d (n : Int)).outRaw e = if e = d then min (if d ≤ 2 then 65535 else 1024) n else s.outRaw e := by
  have hclamp : (clampI 0 (if d ≤ 2 then 65535 else 1024) (n : Int)).toNat = min (if d ≤ 2 then 65535 else 1024) n := by
    unfold clampI
    split <;> split <;> omega
  rw [← hclamp]
  exact spGet_spSet _ _ _ _ _

/-- From `s` to `t` only output latches changed. -/
def OutOnly (s t : State) : Prop := ∃ x, t = { s with ctl := { s.ctl with out := x } }

theorem OutOnly.trans {s t u : State} (h : OutOnly s t) (g : OutOnly t u) : OutOnly s u := by
  obtain ⟨x, rfl⟩ := h
  obtain ⟨y, rfl⟩ := g
  exact ⟨y, rfl⟩

/-- With every stage OFF no destination is driven. -/
theorem State.driven_off (s : State) (hoff : ∀ k, k < 3 → s.cst k = csOff) (d : Nat) : s.driven d = false := by
  refine List.any_eq_false.2 fun k hk => ?_
  simp [State.drives, State.stageOn, hoff k (List.mem_range.1 hk), csOff]

/-- Output `j` of a stage that is OFF, with no stage on. -/
def State.safeOut (s : State) (k j : Nat) : State :=
  if 1 ≤ s.destOf k j ∧ s.destOf k j ≤ 4 then s.setOut (s.destOf k j) (s.fld (F.CTL_x_UDk_SAFE k j)) else s

theorem State.safeOut_outOnly (s : State) (k j : Nat) : OutOnly s (s.safeOut k j) := by
  unfold State.safeOut
  split
  · exact ⟨_, rfl⟩
  · exact ⟨_, rfl⟩

theorem State.driveSafe_off (s : State) (hoff : ∀ k, k < 3 → s.cst k = csOff) (k : Nat) :
    s.driveSafe k = (s.safeOut k 0).safeOut k 1 := by
  have hstep (u : State) (hu : OutOnly s u) (j : Nat) : (if (decide (1 ≤ u.destOf k j) && decide (u.destOf k j ≤ 4) &&
      !u.driven (u.destOf k j)) = true then u.setOut (u.destOf k j) (u.fld (F.CTL_x_UDk_SAFE k j)) else u) = u.safeOut k j := by
    have hdriven : u.driven (u.destOf k j) = false := by
      obtain ⟨x, rfl⟩ := hu
      exact State.driven_off _ hoff _
    simp [hdriven, State.safeOut]
  show List.foldl _ s [0, 1] = _
  rw [List.foldl_cons, List.foldl_cons, List.foldl_nil]
  dsimp only
  rw [hstep s ⟨_, rfl⟩ 0, hstep _ (s.safeOut_outOnly k 0) 1]

theorem State.safeOut_raw (s : State) (k j : Nat) {d : Nat} (h1 : 1 ≤ d) (h4 : d ≤ 4) :
    (s.safeOut k j).outRaw d = if s.destOf k j = d then s.safeRaw k j d else s.outRaw d := by
  unfold State.safeOut
  split
  case isTrue hin =>
    rw [State.setOut_raw, State.safeRaw]
    by_cases hd : s.destOf k j = d
    · rw [if_pos hd.symm, if_pos hd, hd]
    · rw [if_neg (Ne.symm hd), if_neg hd]
  case isFalse hout =>
    rw [if_neg (by omega)]

/-- The outputs of the three stages, in order. -/
def safeOrder : List (Nat × Nat) := [(0, 0), (0, 1), (1, 0), (1, 1), (2, 0), (2, 1)]

/-- Every stage drives SAFE raw. -/
def State.safeAll (s : State) : State := safeOrder.foldl (fun s p => s.safeOut p.1 p.2) s

theorem safeOuts_outOnly (l : List (Nat × Nat)) (s : State) : OutOnly s (l.foldl (fun s p => s.safeOut p.1 p.2) s) := by
  induction l generalizing s with
  | nil => exact ⟨_, rfl⟩
  | cons p l ih => exact (s.safeOut_outOnly p.1 p.2).trans (ih _)

/-- A destination that no output of the list names keeps its latch. -/
theorem safeOuts_raw_other {l : List (Nat × Nat)} {s : State} {d : Nat} (h1 : 1 ≤ d) (h4 : d ≤ 4)
    (h : ∀ p ∈ l, s.destOf p.1 p.2 ≠ d) : (l.foldl (fun s p => s.safeOut p.1 p.2) s).outRaw d = s.outRaw d := by
  induction l generalizing s with
  | nil => rfl
  | cons p l ih =>
    have hrest : ∀ q ∈ l, (s.safeOut p.1 p.2).destOf q.1 q.2 ≠ d := by
      obtain ⟨x, hx⟩ := s.safeOut_outOnly p.1 p.2
      rw [hx]
      exact fun q hq => h q (List.mem_cons_of_mem p hq)
    rw [List.foldl_cons, ih hrest, State.safeOut_raw _ _ _ h1 h4, if_neg (h p List.mem_cons_self)]

/-- The one output of the list that names a destination gives it SAFE raw. -/
theorem safeOuts_raw {l : List (Nat × Nat)} {s : State} {p : Nat × Nat} {d : Nat} (h1 : 1 ≤ d) (h4 : d ≤ 4) (hp : p ∈ l)
    (hd : s.destOf p.1 p.2 = d) (hone : ∀ q ∈ l, s.destOf q.1 q.2 = d → q = p) :
    (l.foldl (fun s p => s.safeOut p.1 p.2) s).outRaw d = s.safeRaw p.1 p.2 d := by
  induction l generalizing s with
  | nil => exact absurd hp List.not_mem_nil
  | cons q l ih =>
    rw [List.foldl_cons]
    have hsame : ∃ x, s.safeOut q.1 q.2 = { s with ctl := { s.ctl with out := x } } := s.safeOut_outOnly q.1 q.2
    obtain ⟨x, hx⟩ := hsame
    by_cases hmem : p ∈ l
    · rw [hx]
      exact ih (s := { s with ctl := { s.ctl with out := x } }) hmem hd fun q' hq' => hone q' (List.mem_cons_of_mem q hq')
    · have hq : q = p := ((List.mem_cons.1 hp).resolve_right hmem).symm
      subst hq
      have hothers : ∀ q' ∈ l, (s.safeOut q.1 q.2).destOf q'.1 q'.2 ≠ d := by
        rw [hx]
        exact fun q' hq' heq => hmem (hone q' (List.mem_cons_of_mem q hq') heq ▸ hq')
      rw [safeOuts_raw_other h1 h4 hothers, State.safeOut_raw _ _ _ h1 h4, if_pos hd]

/-! ### The rest of the sample -/

section
variable {u : State} (hphase : ∀ k, k < 3 → (u.stg k).ph = 0) (hoff : ∀ k, k < 3 → u.cst k = csOff)

include hphase in
theorem conditionY_rested {k : Nat} (hk : k < 3) : u.conditionY k = u := if_pos (hphase k hk)

include hphase in
theorem setpoint_rested {k : Nat} (hk : k < 3) : u.setpoint k = u := if_pos (hphase k hk)

include hphase in
theorem loadStates_rested {k : Nat} (hk : k < 3) : u.loadStates k = u := if_pos (hphase k hk)

include hphase in
theorem updateStates_rested {k : Nat} (hk : k < 3) : u.updateStates k = u := if_pos (hphase k hk)

include hphase hoff in
theorem stageOutputs_rested (p : Products) {k : Nat} (hk : k < 3) : u.stageOutputs k p = (p, (u.safeOut k 0).safeOut k 1) := by
  have hrest : (decide ((u.stg k).ph = 0) || decide ((u.stg k).ph = 4)) = true := by simp [hphase k hk]
  have hout : (if u.cst k = csOff then u.driveSafe k else u) = (u.safeOut k 0).safeOut k 1 := by
    rw [if_pos (hoff k hk), u.driveSafe_off hoff]
  unfold State.stageOutputs
  dsimp only
  rw [if_pos hrest, hout]

include hphase hoff in
/-- Steps 4 to 6 with every stage at rest: SAFE raw, and no product. -/
theorem outputs_rested : (List.range 3).foldl (fun (a : Products × State) k => a.2.stageOutputs k a.1) ({}, u) = ({}, u.safeAll) := by
  have hstep (v : State) (hv : OutOnly u v) (p : Products) {k : Nat} (hk : k < 3) :
      v.stageOutputs k p = (p, (v.safeOut k 0).safeOut k 1) := by
    obtain ⟨x, rfl⟩ := hv
    refine stageOutputs_rested ?_ ?_ p hk
    exacts [hphase, hoff]
  have hsafe (v : State) (hv : OutOnly u v) (k : Nat) : OutOnly u ((v.safeOut k 0).safeOut k 1) :=
    hv.trans ((v.safeOut_outOnly k 0).trans (State.safeOut_outOnly _ k 1))
  have h0 := hsafe u ⟨_, rfl⟩ 0
  show List.foldl _ _ [0, 1, 2] = _
  rw [List.foldl_cons, List.foldl_cons, List.foldl_cons, List.foldl_nil]
  dsimp only
  rw [hstep u ⟨_, rfl⟩ {} (by decide)]
  dsimp only
  rw [hstep _ h0 {} (by decide)]
  dsimp only
  rw [hstep _ (hsafe _ h0 1) {} (by decide)]
  rfl

end

/-- What the sample takes in beside the PW supplies: the AI codes and the coefficient writes. -/
def CtlSt.takeInputs (c : CtlSt) (x : StrobeIn) : CtlSt :=
  { c with mid := x.mid, fetches := 0, ai := x.codes.map (fun (c : BitVec 16) => c.toNat), inj := { c.inj with ended := false } }

/-- What the sample takes in, with the PW supplies in CTL_VPW. -/
def State.takeInputs (s : State) (x : StrobeIn) (a b : Nat) : State :=
  (({ s with ctl := s.ctl.takeInputs x } : State).setFld F.CTL_VPW_VPW0 (min 65535 a)).setFld F.CTL_VPW_VPW1 (min 65535 b)

theorem State.midWrites_same (s : State) (all : Bool) : SameEngine s (s.midWrites all) := by
  unfold State.midWrites
  dsimp only
  exact (SameEngine.foldl (fun v w => (SameEngine.refl v).sramWrite _ _) _ s).trans (.of_regs rfl)

theorem State.superviseLb_off (s : State) (hoff : s.cst 2 = csOff) : SameEngine s s.superviseLb := by
  have hclear : s.superviseLb = ({ s with ctl := { s.ctl with sup := { s.ctl.sup with fe := false } } } : State).setFld F.CTL_FE_STAT_CNT 0 := by
    have hst : ({ s with ctl := { s.ctl with sup := { s.ctl.sup with fe := false } } } : State).cst 2 = csOff := hoff
    unfold State.superviseLb
    dsimp only
    rw [hst, if_neg (by decide), if_pos (by simp [csOff, csRun])]
  rw [hclear]
  refine SameEngine.setFld (f := F.CTL_FE_STAT_CNT) ?_ 0 (not_engineReg_high (by decide))
  exact .of_regs rfl

theorem State.superviseLai_off (s : State) (hoff : s.cst 1 = csOff) : SameEngine s s.superviseLai := by
  have hcount : s.superviseLai = { s with ctl := { s.ctl with sup := { s.ctl.sup with k := s.ctl.sup.k + 1 } } } := by
    have hst : ({ s with ctl := { s.ctl with sup := { s.ctl.sup with k := s.ctl.sup.k + 1 } } } : State).cst 1 = csOff := hoff
    unfold State.superviseLai
    dsimp only
    rw [hst, if_neg (by decide), if_pos (by decide)]
  rw [hcount]
  exact .of_regs rfl

/-- STATE, EN, NO, DEST and SAFE of a stage lie in such registers, and so do the PW supplies. -/
theorem engineReg_stage {k : Nat} (hk : k < 3) : EngineReg (0x1000 + 0x100 * k) ∧ EngineReg (0x1001 + 0x100 * k) ∧
    ∀ j, j < 2 → EngineReg (0x1014 + 0x100 * k + 4 * j) := by
  have hsram : ∀ k : Fin 3, sramReg (0x1000 + 0x100 * k) = false ∧ sramReg (0x1001 + 0x100 * k) = false ∧
      ∀ j : Fin 2, sramReg (0x1014 + 0x100 * k + 4 * j) = false := by decide
  obtain ⟨hcfg, hstat, hud⟩ := hsram ⟨k, hk⟩
  exact ⟨⟨by omega, by omega, hcfg⟩, ⟨by omega, by omega, hstat⟩, fun j hj => ⟨by omega, by omega, hud ⟨j, hj⟩⟩⟩

theorem SameEngine.cst {s t : State} (h : SameEngine s t) {k : Nat} (hk : k < 3) : t.cst k = s.cst k :=
  State.fld_of_reg _ (h.reg _ (engineReg_stage hk).2.1)

theorem SameEngine.raw {s t : State} (h : SameEngine s t) (d : Nat) : t.outRaw d = s.outRaw d := by
  rw [State.outRaw, h.out, State.outRaw]

/-! ### The sample in its parts -/

/-- Steps 4 to 6 of a sample: the outputs, and the latency noted. -/
def State.sampleOutputs (s : State) : State :=
  let r := (List.range 3).foldl (fun (a : Products × State) k => a.2.stageOutputs k a.1) ({}, s)
  r.2.noteLatency r.1.sent

/-- What follows steps 1 to 7 of a sample of the stages `ks`. -/
def State.sampleEnd (s : State) (ks : List Nat) : State :=
  ((ks.foldl (fun s k => if s.cst k = csStart then s.setFld (F.CTL_x_STAT_STATE k) csRun else s)
    (s.midWrites true).superviseLb.superviseLai).traceRow 0).traceRow 1

/-- The stages that a sample from `s` runs. -/
def State.sampled (s : State) : List Nat := (List.range 3).filter (fun k => s.sampleOf k)

theorem State.sampled_lt (s : State) : ∀ k ∈ s.sampled, k < 3 := fun _ hk => List.mem_range.1 (List.mem_filter.1 hk).1

/-- A sample from what it took in: the stages' turns, what each reads, the outputs, the states, and the end. -/
theorem State.controlSample_eq (s : State) (x : StrobeIn) (a b : Nat) {ks : List Nat} (hks : (s.takeInputs x a b).sampled = ks) :
    s.controlSample x a b = (ks.foldl (fun s k => s.updateStates k) (ks.foldl (fun s k => s.loadStates k)
      (ks.foldl (fun s k => s.setpoint k) (ks.foldl (fun s k => s.conditionY k) (ks.foldl (fun s k => s.turnStage k)
        ((List.range 3).foldl (fun s k => s.rest k) (s.takeInputs x a b)))))).sampleOutputs).sampleEnd ks := by
  subst hks
  simp only [State.controlSample, State.sampleEnd, State.sampleOutputs, State.sampled, State.takeInputs, CtlSt.takeInputs,
    State.rest]

/-- The end of a sample with every stage OFF. -/
theorem State.sampleEnd_same (s : State) (hoff : ∀ k, k < 3 → s.cst k = csOff) {ks : List Nat} (hks : ∀ k ∈ ks, k < 3) :
    SameEngine s (s.sampleEnd ks) := by
  have hwrites := s.midWrites_same true
  have hlb := hwrites.trans (State.superviseLb_off _ ((hwrites.cst (by decide)).trans (hoff 2 (by decide))))
  have hlai := hlb.trans (State.superviseLai_off _ ((hlb.cst (by decide)).trans (hoff 1 (by decide))))
  unfold State.sampleEnd
  generalize (s.midWrites true).superviseLb.superviseLai = u at hlai
  have hstarts : ks.foldl (fun s k => if s.cst k = csStart then s.setFld (F.CTL_x_STAT_STATE k) csRun else s) u = u :=
    foldl_fixed_of_mem fun k hk => if_neg (by rw [hlai.cst (hks k hk), hoff k (hks k hk)]; decide)
  rw [hstarts]
  exact (hlai.trans (u.traceRow_same 0)).trans (State.traceRow_same _ 1)

/-- The fields outside CTL_VPW stay when a sample takes in its inputs. -/
theorem State.takeInputs_fld (s : State) (x : StrobeIn) (a b : Nat) {f : Fld} (hf : f.addr ≠ 0x1302) :
    (s.takeInputs x a b).fld f = s.fld f :=
  (State.fld_setFld_ne _ _ _ _ hf).trans (State.fld_setFld_ne _ _ _ _ hf)

theorem State.AllOff.takeInputs {s : State} (hoff : s.AllOff) (x : StrobeIn) (a b : Nat) : (s.takeInputs x a b).AllOff := fun k hk => by
  obtain ⟨hst, hen⟩ := hoff k hk
  exact ⟨(s.takeInputs_fld x a b (f := F.CTL_x_STAT_STATE k) (by simp only [F.CTL_x_STAT_STATE]; omega)).trans hst,
    (congrArg (· % 2 == 1) (s.takeInputs_fld x a b (f := F.CTL_x_CFG_EN k) (by simp only [F.CTL_x_CFG_EN]; omega))).trans hen⟩

/-- A sample with every stage OFF drives SAFE raw from a state that differs from what it took in by the stages' phases. -/
theorem State.controlSample_off (s : State) (x : StrobeIn) (a b : Nat) (hoff : s.AllOff) : ∃ u, Rested (s.takeInputs x a b) u ∧
    SameEngine u.safeAll (s.controlSample x a b) := by
  have hks := (s.takeInputs x a b).sampled_lt
  have hrested := (State.restAll_rested (s.takeInputs x a b)).turnStages (hoff.takeInputs x a b) hks
  have heq := s.controlSample_eq x a b rfl
  generalize (s.takeInputs x a b).sampled = ks at hks hrested heq
  generalize ks.foldl (fun s k => s.turnStage k) ((List.range 3).foldl (fun s k => s.rest k) (s.takeInputs x a b)) = u at hrested heq
  have hphase := hrested.phase
  have huoff : ∀ k, k < 3 → u.cst k = csOff := fun k hk => (hrested.fld _).trans (hoff.takeInputs x a b k hk).1
  have hlatency : u.sampleOutputs = u.safeAll := by
    unfold State.sampleOutputs
    rw [outputs_rested hphase huoff]
    exact if_pos rfl
  obtain ⟨y, hsafe⟩ := safeOuts_outOnly safeOrder u
  have hupdate : ks.foldl (fun s k => s.updateStates k) u.safeAll = u.safeAll := foldl_fixed_of_mem fun k hk => by
    rw [State.safeAll, hsafe]
    exact updateStates_rested (u := { u with ctl := { u.ctl with out := y } }) hphase (hks k hk)
  have hend : ∀ k, k < 3 → u.safeAll.cst k = csOff := by
    rw [State.safeAll, hsafe]
    exact huoff
  refine ⟨u, hrested, ?_⟩
  rw [heq, foldl_fixed_of_mem fun k hk => conditionY_rested hphase (hks k hk),
    foldl_fixed_of_mem fun k hk => setpoint_rested hphase (hks k hk),
    foldl_fixed_of_mem fun k hk => loadStates_rested hphase (hks k hk), hlatency, hupdate]
  exact u.safeAll.sampleEnd_same hend hks

end Sys2Proof.Machine
end

section
/-! PROOF. Control samples at strobes, following errors, PW periods and flowmeter pulses (O43; R203, R216, R218, R228, R229, R235,
R240, R440, R443). -/

namespace Sys2Proof.Machine

open Sys2Proof

/-! ### What a sample with every stage OFF leaves and drives -/

section
variable {s : State} {x : StrobeIn} {a b : Nat}

/-- The sample's registers of the stages are those it took in. -/
theorem State.AllOff.sample_fld (hoff : s.AllOff) {f : Fld} (hf : EngineReg f.addr) :
    (s.controlSample x a b).fld f = (s.takeInputs x a b).fld f := by
  obtain ⟨u, hrested, hsame⟩ := s.controlSample_off x a b hoff
  obtain ⟨y, hy⟩ := safeOuts_outOnly safeOrder u
  have hsafe : u.safeAll.fld f = u.fld f := by
    rw [State.safeAll, hy]
    rfl
  exact (State.fld_of_reg f (hsame.reg _ hf)).trans (hsafe.trans (hrested.fld f))

theorem State.AllOff.sample_supplies (hoff : s.AllOff) : (s.controlSample x a b).fld F.CTL_VPW_VPW0 = min 65535 a ∧
    (s.controlSample x a b).fld F.CTL_VPW_VPW1 = min 65535 b := by
  have hreg : EngineReg 0x1302 := ⟨by decide, by decide, by decide⟩
  have hlow (n : Nat) : min 65535 n % 2 ^ 16 = min 65535 n := by omega
  constructor
  · exact (hoff.sample_fld hreg).trans ((State.fld_setFld_disj _ _ F.CTL_VPW_VPW0 _ (by decide) (by decide)).trans
      ((State.fld_setFld_same _ F.CTL_VPW_VPW0 _ (by decide)).trans (hlow a)))
  · exact (hoff.sample_fld hreg).trans ((State.fld_setFld_same _ F.CTL_VPW_VPW1 _ (by decide)).trans (hlow b))

theorem State.AllOff.sample_cst (hoff : s.AllOff) {k : Nat} (hk : k < 3) : (s.controlSample x a b).cst k = csOff :=
  (hoff.sample_fld (engineReg_stage hk).2.1).trans (hoff.takeInputs x a b k hk).1

theorem State.AllOff.sample_ai (hoff : s.AllOff) : (s.controlSample x a b).ctl.ai = x.codes.map (fun c => c.toNat) := by
  obtain ⟨u, ⟨⟨z, rfl⟩, -⟩, hsame⟩ := s.controlSample_off x a b hoff
  obtain ⟨y, hy⟩ := safeOuts_outOnly safeOrder { s.takeInputs x a b with ctl := { (s.takeInputs x a b).ctl with stages := z } }
  rw [hsame.ai, State.safeAll, hy]
  rfl

theorem State.takeInputs_destOf (s : State) (x : StrobeIn) (a b k j : Nat) : (s.takeInputs x a b).destOf k j = s.destOf k j := by
  have hdest := s.takeInputs_fld x a b (f := F.CTL_x_UDk_DEST k j) (by simp only [F.CTL_x_UDk_DEST]; omega)
  have hno := s.takeInputs_fld x a b (f := F.CTL_x_CFG_NO k) (by simp only [F.CTL_x_CFG_NO]; omega)
  rw [State.destOf, State.destOf, State.no, State.no, hdest, hno]

theorem Rested.destOf {s t : State} (h : Rested s t) (k j : Nat) : t.destOf k j = s.destOf k j := by
  rw [State.destOf, State.destOf, State.no, State.no, h.fld, h.fld]

theorem mem_safeOrder {k j : Nat} (hk : k < 3) (hj : j < 2) : (k, j) ∈ safeOrder := by
  have hall : ∀ k : Fin 3, ∀ j : Fin 2, (k.val, j.val) ∈ safeOrder := by decide
  exact hall ⟨k, hk⟩ ⟨j, hj⟩

theorem lt_of_mem_safeOrder {p : Nat × Nat} (h : p ∈ safeOrder) : p.1 < 3 ∧ p.2 < 2 := by
  have hall : ∀ p ∈ safeOrder, p.1 < 3 ∧ p.2 < 2 := by decide
  exact hall p h

/-- A destination that one stage output names takes its SAFE raw. -/
theorem State.AllOff.sample_raw (hoff : s.AllOff) {k j d : Nat} (hk : k < 3) (hj : j < 2) (hd : d = s.destOf k j) (h1 : 1 ≤ d)
    (h4 : d ≤ 4) (hone : ∀ k' j', k' < 3 → j' < 2 → s.destOf k' j' = d → k' = k ∧ j' = j) :
    (s.controlSample x a b).outRaw d = s.safeRaw k j d := by
  obtain ⟨u, hrested, hsame⟩ := s.controlSample_off x a b hoff
  have hdest (k' j' : Nat) : u.destOf k' j' = s.destOf k' j' := (hrested.destOf k' j').trans (s.takeInputs_destOf x a b k' j')
  have hsafe : u.safeRaw k j d = s.safeRaw k j d := by
    rw [State.safeRaw, State.safeRaw, hrested.fld,
      s.takeInputs_fld x a b (f := F.CTL_x_UDk_SAFE k j) (by simp only [F.CTL_x_UDk_SAFE]; omega)]
  rw [hsame.raw, ← hsafe, State.safeAll]
  refine safeOuts_raw (p := (k, j)) h1 h4 (mem_safeOrder hk hj) ((hdest k j).trans hd.symm) fun q hq hqd => ?_
  obtain ⟨hq1, hq2⟩ := lt_of_mem_safeOrder hq
  obtain ⟨hk', hj'⟩ := hone q.1 q.2 hq1 hq2 ((hdest _ _).symm.trans hqd)
  exact Prod.ext hk' hj'

end

/-! ### A following error (R228, R229) -/

/-- Whether the sample declared a following error. -/
def State.showFe (s : State) (b : Bool) : State := { s with ctl := { s.ctl with sup := { s.ctl.sup with fe := b } } }

/-- A following error is declared: the flag, its count, the report and the trace. -/
def State.declareFe (s : State) : State :=
  (((((s.raise F.CTL_FE_STAT_FEFLT).inc F.CTL_FE_STAT_FECNT).setFld F.CTL_FE_STAT_CNT 0).report srcFollow 2).traceEvent 2).showFe true

/-- FEACT for a declared following error. -/
def State.actFe (s : State) : State :=
  match s.fld F.CTL_FE_CFG_FEACT with
  | 1 => s.holdStage 2
  | 2 => s.feSafe
  | _ => s

/-- A following error that has lasted FETIME is declared. -/
theorem State.superviseLb_declares (s : State) (hst : s.cst 2 = csRun) (htime : s.fld F.CTL_FE_CFG_FETIME ≠ 0)
    (herr : s.mag F.CTL_FE_LIM_FELIM < ((s.stg 2).w - s.yPrim 2).natAbs)
    (hlong : s.fld F.CTL_FE_CFG_FETIME * 4096 ≤ (s.fld F.CTL_FE_STAT_CNT + 1) * 1000) :
    s.superviseLb = (s.showFe false).declareFe.actFe := by
  have hlive : s.cst 2 ≠ csFrozen := by rw [hst]; decide
  have hon : ¬ (decide (s.cst 2 ≠ csRun) || decide (s.fld F.CTL_FE_CFG_FETIME = 0)) = true := by simp [hst, htime]
  refine (if_neg ?_).trans ((if_neg ?_).trans ((if_pos ?_).trans ((if_pos ?_).trans rfl)))
  · exact hlive
  · exact hon
  · exact herr
  · exact hlong

/-- From `s` to `t` the record of following errors stays: FEFLT, FECNT, and whether this sample declared one. -/
structure FeKept (s t : State) : Prop where
  flt : t.fld F.CTL_FE_STAT_FEFLT = s.fld F.CTL_FE_STAT_FEFLT
  count : t.fld F.CTL_FE_STAT_FECNT = s.fld F.CTL_FE_STAT_FECNT
  sup : t.ctl.sup = s.ctl.sup

theorem FeKept.refl (s : State) : FeKept s s := ⟨rfl, rfl, rfl⟩

theorem FeKept.trans {s t u : State} (h : FeKept s t) (g : FeKept t u) : FeKept s u :=
  ⟨g.flt.trans h.flt, g.count.trans h.count, g.sup.trans h.sup⟩

theorem FeKept.of_regs {s t : State} (hregs : t.regs = s.regs) (hsup : t.ctl.sup = s.ctl.sup) : FeKept s t :=
  ⟨State.fld_of_regs hregs _, State.fld_of_regs hregs _, hsup⟩

/-- A field of another register. -/
theorem FeKept.setFld (s : State) {f : Fld} (x : Nat) (hf : 0x1312 ≠ f.addr) : FeKept s (s.setFld f x) :=
  ⟨s.fld_setFld_ne f F.CTL_FE_STAT_FEFLT x hf, s.fld_setFld_ne f F.CTL_FE_STAT_FECNT x hf, rfl⟩

theorem FeKept.setCnt (s : State) (x : Nat) : FeKept s (s.setFld F.CTL_FE_STAT_CNT x) :=
  ⟨s.fld_setFld_disj F.CTL_FE_STAT_CNT F.CTL_FE_STAT_FEFLT x (by decide) (by decide),
    s.fld_setFld_disj F.CTL_FE_STAT_CNT F.CTL_FE_STAT_FECNT x (by decide) (by decide), rfl⟩

/-- An event for the traces changes their state alone. -/
theorem State.traceEvent_same (s : State) (m : Nat) : ∃ x, s.traceEvent m = { s with ctl := { s.ctl with trc := x } } := by
  unfold State.traceEvent
  generalize List.range 2 = l
  induction l generalizing s with
  | nil => exact ⟨_, rfl⟩
  | cons b l ih =>
    rw [List.foldl_cons]
    split
    · exact ih (s.setTrc b _)
    · exact ih s

theorem State.traceEvent_regs (s : State) (m : Nat) : (s.traceEvent m).regs = s.regs := by
  obtain ⟨x, hx⟩ := s.traceEvent_same m
  rw [hx]

theorem State.traceEvent_fe (s : State) (m : Nat) : FeKept s (s.traceEvent m) := by
  obtain ⟨x, hx⟩ := s.traceEvent_same m
  exact .of_regs (s.traceEvent_regs m) (by rw [hx])

theorem State.abortInj_fe (s : State) : FeKept s s.abortInj := by
  unfold State.abortInj
  split
  case isTrue =>
    have hrun : FeKept s (s.setFlag F.CTL_INJ_STAT_RUN false) := .setFld s _ (by decide)
    have habort : FeKept (s.setFlag F.CTL_INJ_STAT_RUN false) ((s.setFlag F.CTL_INJ_STAT_RUN false).raise F.CTL_INJ_STAT_ABORT) :=
      ⟨State.fld_of_reg _ (State.raise_reg_ne _ _ (by decide)), State.fld_of_reg _ (State.raise_reg_ne _ _ (by decide)), rfl⟩
    exact hrun.trans habort
  case isFalse => exact .refl s

/-- LB leaves RUN: an injection on it ends early, and its following-error count starts again. -/
theorem State.leaveRun_lb (s : State) : ∃ u, FeKept s u ∧ s.leaveRun 2 = u.setFld F.CTL_FE_STAT_CNT 0 := by
  unfold State.leaveRun
  split
  · exact ⟨_, s.abortInj_fe, rfl⟩
  · exact ⟨s, .refl s, rfl⟩

/-- LB enters HELD from RUN. -/
theorem State.holdLb_facts (s : State) (hst : s.cst 2 = csRun) :
    FeKept s (s.holdStage 2) ∧ (s.holdStage 2).fld F.CTL_FE_STAT_CNT = 0 ∧ (s.holdStage 2).cst 2 = csHeld := by
  have hrun : ¬ (decide (s.cst 2 = csHeld) || decide (s.cst 2 = csOff)) = true := by
    rw [hst]
    decide
  have hhold : s.holdStage 2 =
      (((s.modStg 2 (fun x => { x with ph := 0 })).leaveRun 2).setFld (F.CTL_x_STAT_STATE 2) csHeld).traceEvent 6 := if_neg hrun
  obtain ⟨u, hu, hleave⟩ := (s.modStg 2 (fun x => { x with ph := 0 })).leaveRun_lb
  rw [hhold, hleave]
  have hphase : FeKept s (s.modStg 2 (fun x => { x with ph := 0 })) := .of_regs rfl rfl
  have hfe : FeKept s ((u.setFld F.CTL_FE_STAT_CNT 0).setFld (F.CTL_x_STAT_STATE 2) csHeld) :=
    (hphase.trans hu).trans ((FeKept.setCnt u 0).trans (.setFld (f := F.CTL_x_STAT_STATE 2) _ _ (by decide)))
  refine ⟨hfe.trans (State.traceEvent_fe _ 6), ?_, ?_⟩
  · rw [State.fld_of_regs (State.traceEvent_regs _ 6), State.fld_setFld_ne _ _ _ _ (by decide)]
    exact State.fld_setFld_same _ F.CTL_FE_STAT_CNT 0 (by decide)
  · rw [State.cst, State.fld_of_regs (State.traceEvent_regs _ 6)]
    exact State.fld_setFld_same _ (F.CTL_x_STAT_STATE 2) csHeld (by decide)

/-- SAFE raw on LB's destinations, and then HELD. -/
theorem State.feSafe_eq (s : State) : ∃ u, OutOnly s u ∧ s.feSafe = u.holdStage 2 := by
  refine ⟨_, ?_, rfl⟩
  generalize List.range 2 = l
  induction l generalizing s with
  | nil => exact ⟨_, rfl⟩
  | cons j l ih =>
    rw [List.foldl_cons]
    refine OutOnly.trans ?_ (ih _)
    dsimp only
    split
    · exact ⟨_, rfl⟩
    · exact ⟨_, rfl⟩

/-- What FEACT does to LB while it runs. -/
theorem State.actFe_facts (s : State) (hst : s.cst 2 = csRun) (hcnt : s.fld F.CTL_FE_STAT_CNT = 0) :
    FeKept s s.actFe ∧ s.actFe.fld F.CTL_FE_STAT_CNT = 0 ∧ s.actFe.cst 2 =
      if s.fld F.CTL_FE_CFG_FEACT = 1 ∨ s.fld F.CTL_FE_CFG_FEACT = 2 then csHeld else csRun := by
  unfold State.actFe
  split
  case h_1 hact =>
    rw [if_pos (.inl hact)]
    exact s.holdLb_facts hst
  case h_2 hact =>
    rw [if_pos (.inr hact)]
    obtain ⟨u, ⟨y, rfl⟩, hsafe⟩ := s.feSafe_eq
    obtain ⟨hfe, hrest⟩ := State.holdLb_facts { s with ctl := { s.ctl with out := y } } hst
    rw [hsafe]
    exact ⟨⟨hfe.flt, hfe.count, hfe.sup⟩, hrest⟩
  case h_3 h1 h2 =>
    rw [if_neg (by rintro (h | h); exacts [h1 h, h2 h])]
    exact ⟨.refl s, hcnt, hst⟩

/-- What the declaration of a following error writes and leaves. -/
theorem State.declareFe_facts (s : State) : s.declareFe.flag F.CTL_FE_STAT_FEFLT = true ∧ s.declareFe.fld F.CTL_FE_STAT_CNT = 0 ∧
    s.declareFe.fld F.CTL_FE_STAT_FECNT = satAdd 8 (s.fld F.CTL_FE_STAT_FECNT) 1 ∧ s.declareFe.ctl.sup.fe = true ∧
    s.declareFe.cst 2 = s.cst 2 ∧ s.declareFe.fld F.CTL_FE_CFG_FEACT = s.fld F.CTL_FE_CFG_FEACT := by
  have hreport {f : Fld} (hf : 0x800 ≤ f.addr) : s.declareFe.fld f =
      (((s.raise F.CTL_FE_STAT_FEFLT).inc F.CTL_FE_STAT_FECNT).setFld F.CTL_FE_STAT_CNT 0).fld f :=
    (State.fld_of_regs (State.traceEvent_regs _ 2) f).trans (State.report_fld _ 2 (by decide) hf)
  have hother {f : Fld} (hf : 0x800 ≤ f.addr) (hne : f.addr ≠ 0x1312) : s.declareFe.fld f = s.fld f :=
    (hreport hf).trans (((State.fld_setFld_ne _ _ f _ hne).trans (State.fld_setFld_ne _ _ f _ hne)).trans
      (State.fld_of_reg f (s.raise_reg_ne _ hne)))
  refine ⟨?flt, ?cnt, ?count, rfl, hother (by decide) (by decide), hother (by decide) (by decide)⟩
  case flt =>
    have hsame : s.declareFe.fld F.CTL_FE_STAT_FEFLT = (s.raise F.CTL_FE_STAT_FEFLT).fld F.CTL_FE_STAT_FEFLT :=
      (hreport (by decide)).trans ((FeKept.setCnt _ 0).flt.trans (State.fld_setFld_disj _ _ _ _ (by decide) (by decide)))
    exact (State.flag_of_fld _ hsame).trans (s.raise_flag_same _ (by decide))
  case cnt => exact (hreport (by decide)).trans (State.fld_setFld_same _ _ _ (by decide))
  case count =>
    have hraise : (s.raise F.CTL_FE_STAT_FEFLT).fld F.CTL_FE_STAT_FECNT = s.fld F.CTL_FE_STAT_FECNT :=
      s.raise_fld_disj _ _ (by decide) (by decide)
    exact (hreport (by decide)).trans ((FeKept.setCnt _ 0).count.trans
      ((State.fld_inc_same _ _ (by decide)).trans (by rw [hraise]; rfl)))

/-! ### PW periods (R443) -/

/-- The next start of a PW period: 136 tb after a strobe, not before now. -/
theorem State.nextInstant_pw (s : State) (k : Nat) : s.nextInstant k 256 136 % 256 = 136 ∧ s.nextInstant k 256 136 < 2 ^ 40 ∧
    0 ≤ dist (s.nextInstant k 256 136) s.now := by
  have hn := s.now_lt
  have hlt (x : Nat) : x % mod40 < 2 ^ 40 := Nat.mod_lt _ (by decide)
  unfold State.nextInstant
  dsimp only
  generalize hc : (s.now + (136 + 256 - s.now % 256) % 256) % mod40 = c
  have hdist1 := dist_cases c s.now (hc ▸ hlt _) hn
  have hdist2 := dist_cases ((c + 256) % mod40) s.now (hlt _) hn
  unfold mod40 at *
  split
  · generalize dist ((c + 256) % 2 ^ 40) s.now = d at *
    omega
  · generalize dist c s.now = d at *
    omega

theorem State.takeInstant_pw_now (s : State) (k : Nat) (hfrac : s.clk.frac < tbUnit) : (s.takeInstant k 256 136).now % 256 = 136 := by
  obtain ⟨hmul, hlt, hdist⟩ := s.nextInstant_pw k
  have hnow : (s.takeInstant k 256 136).now = s.nextInstant k 256 136 := s.advTo_now_of_le hfrac hlt hdist
  rw [hnow, hmul]

/-- Both PW outputs take their latches. -/
theorem latchPw_get (m : List (Nat × Nat)) (s : State) (d : Nat) :
    spGet (fun _ => 0) ([3, 4].foldl (fun m d => spSet (fun _ => 0) m d (s.outRaw d)) m) d =
      if d = 3 ∨ d = 4 then s.outRaw d else spGet (fun _ => 0) m d := by
  rw [List.foldl_cons, List.foldl_cons, List.foldl_nil, spGet_spSet, spGet_spSet]
  split
  case isTrue h4 => rw [if_pos (.inr h4), h4]
  case isFalse h4 =>
    split
    case isTrue h3 => rw [if_pos (.inl h3), h3]
    case isFalse h3 => rw [if_neg (by rintro (h | h); exacts [h3 h, h4 h])]

/-! ### Flowmeter pulses (R440, R256) -/

/-- LDG_STAT, which shows the commit. -/
def CommitReg (i : Nat) : Prop := i = F.LDG_STAT_PEND.addr

theorem State.trigger_spares (s : State) (r : Nat) : Spares CommitReg s (s.trigger r) := by
  have hcommit (u : State) : Spares CommitReg u u.startCommit := by
    have hstep (v : State) (x : Nat) (l : LedSt) : Spares CommitReg v ((v.setFld F.LDG_STAT_STEP x).setLed l) :=
      (Spares.setFld (A := CommitReg) v (f := F.LDG_STAT_STEP) x rfl).trans (.setLed _ l)
    exact ((Spares.setLed u _).trans (hstep _ _ _)).trans (.setFld _ _ rfl)
  exact (Spares.setLed s _).trans (.ite (hcommit _) (.setFld _ _ rfl))

theorem State.msgAll_spares (s : State) (ring : Nat) (payload : List Byte) : Spares SeqReg s (s.msgAll ring payload) :=
  .foldl (fun v n _ => v.pushTx_spares ring n clsMsg false payload) s

/-- The registers that the exhaustion of the machine may change beside MEXH. -/
def ExhaustReg (i : Nat) : Prop := i ∈ reportRegs srcMachEx ∨ CommitReg i ∨ SeqReg i

theorem not_exhaustReg {i : Nat} (hlo : 0x1700 ≤ i) (hne : i ≠ 0x1801) : ¬ ExhaustReg i := by
  simp only [ExhaustReg, CommitReg, SeqReg, reportRegs, srcMachEx, F.FSV_SRCs_STAT_w, F.EVS_Qn_ERR_w, F.LDG_STAT_PEND,
    F.SLK_STAT_SEQ, F.SLK_HSTAT_SEQ, List.mem_cons, List.not_mem_nil, or_false]
  omega

/-- MUSE against MLIMIT sets MEXH at most, and what follows leaves the pulses. -/
theorem State.judgeMachine_spares (s : State) : ∃ u, (u = s ∨ u = s.setFlag F.LDG_MSTAT_MEXH true) ∧ Spares ExhaustReg u s.judgeMachine := by
  unfold State.judgeMachine
  split
  case isFalse => exact ⟨s, .inl rfl, .refl _ s⟩
  case isTrue =>
    refine ⟨_, .inr rfl, ?_⟩
    have hreport (v : State) : Spares ExhaustReg v (v.report srcMachEx 0) :=
      .reported (v.report_reported srcMachEx 0) fun i hi => .inl hi
    have htrigger (v : State) : Spares ExhaustReg v (v.trigger rsnExhaust) := (v.trigger_spares _).mono fun _ h => .inr (.inl h)
    have hhold (v : State) (p : List Byte) : Spares ExhaustReg v ((v.msgAll 56 p).wantHold 5) :=
      ((v.msgAll_spares 56 p).mono fun _ h => .inr (.inr h)).trans ⟨rfl, rfl, rfl, fun _ _ => rfl⟩
    exact ((hreport _).trans (htrigger _)).trans (.ite (hhold _ _) (.refl _ _))

/-- A pulse of the selected flowmeter: DPULSE counts it, and on the active head MUSE. -/
def State.countPulse (s : State) : State :=
  let u := s.inc F.LDG_MSTAT_DPULSE
  if u.isHead then (u.addMuse 1).judgeMachine else u

theorem State.judgeMachine_keeps (s : State) : s.judgeMachine.clk = s.clk ∧ s.judgeMachine.mem = s.mem ∧
    s.judgeMachine.ctl = s.ctl ∧ s.judgeMachine.fld F.LDG_MSTAT_DPULSE = s.fld F.LDG_MSTAT_DPULSE ∧
    s.judgeMachine.fld F.LDG_MUSE_MUSE = s.fld F.LDG_MUSE_MUSE := by
  obtain ⟨u, hu, hspares⟩ := s.judgeMachine_spares
  have hdpulse : s.judgeMachine.fld F.LDG_MSTAT_DPULSE = u.fld F.LDG_MSTAT_DPULSE :=
    hspares.fld _ (not_exhaustReg (by decide) (by decide))
  have hmuse : s.judgeMachine.fld F.LDG_MUSE_MUSE = u.fld F.LDG_MUSE_MUSE :=
    hspares.fld _ (not_exhaustReg (by decide) (by decide))
  rw [hspares.clk, hspares.mem, hspares.ctl, hdpulse, hmuse]
  obtain rfl | rfl := hu
  · exact ⟨rfl, rfl, rfl, rfl, rfl⟩
  · exact ⟨rfl, rfl, rfl, s.fld_setFld_disj F.LDG_MSTAT_MEXH F.LDG_MSTAT_DPULSE _ (by decide) (by decide),
      s.fld_setFld_ne F.LDG_MSTAT_MEXH F.LDG_MUSE_MUSE _ (by decide)⟩

theorem State.setLed_fld (s : State) (l : LedSt) (f : Fld) : (s.setLed l).fld f = s.fld f := rfl

theorem State.addMuse_fld_ne (s : State) (k : Nat) {f : Fld} (hf : f.addr ≠ 0x1812) : (s.addMuse k).fld f = s.fld f := by
  unfold State.addMuse
  dsimp only
  rw [State.setLed_fld, State.fld_setFld_ne _ _ _ _ hf]

/-- MUSE takes the whole counts of a pulse of MLPP and the fraction kept. -/
theorem State.addMuse_muse (s : State) : (s.addMuse 1).fld F.LDG_MUSE_MUSE =
    satAdd 40 (s.fld F.LDG_MUSE_MUSE) ((s.led.mfrac + s.fld F.LDG_MLPP_MLPP) / 2 ^ 16) := by
  have hlt (x y : Nat) : satAdd 40 x y < 2 ^ 40 := by
    unfold satAdd
    split <;> omega
  unfold State.addMuse
  dsimp only
  rw [State.setLed_fld, State.fld_setFld_whole _ _ ⟨rfl, rfl⟩ (hlt _ _), Nat.one_mul]

theorem State.countPulse_facts (s : State) : ∀ t, t = s.countPulse → t.clk = s.clk ∧ t.mem = s.mem ∧ t.ctl = s.ctl ∧
    t.fld F.LDG_MSTAT_DPULSE = satAdd F.LDG_MSTAT_DPULSE.width (s.fld F.LDG_MSTAT_DPULSE) 1 ∧
    t.fld F.LDG_MUSE_MUSE = if s.isHead = true then
      satAdd 40 (s.fld F.LDG_MUSE_MUSE) ((s.led.mfrac + s.fld F.LDG_MLPP_MLPP) / 2 ^ 16) else s.fld F.LDG_MUSE_MUSE := by
  rintro t rfl
  have hother {f : Fld} (hf : f.addr ≠ 0x1814) : (s.inc F.LDG_MSTAT_DPULSE).fld f = s.fld f := State.fld_of_reg f (s.inc_reg _ hf)
  have hhead : (s.inc F.LDG_MSTAT_DPULSE).isHead = s.isHead := congrArg (· == roleActive) (hother (f := F.SYS_ROLE_ROLE) (by decide))
  have hcount : (s.inc F.LDG_MSTAT_DPULSE).fld F.LDG_MSTAT_DPULSE = _ := s.fld_inc_same _ (by decide)
  have hmuse := hother (f := F.LDG_MUSE_MUSE) (by decide)
  have hmlpp := hother (f := F.LDG_MLPP_MLPP) (by decide)
  unfold State.countPulse
  dsimp only
  rw [hhead]
  split
  case isFalse => exact ⟨rfl, rfl, rfl, hcount, hmuse⟩
  case isTrue =>
    obtain ⟨hclk, hmem, hctl, hpulses, hjudged⟩ := ((s.inc F.LDG_MSTAT_DPULSE).addMuse 1).judgeMachine_keeps
    have hkept := (s.inc F.LDG_MSTAT_DPULSE).addMuse_fld_ne 1 (f := F.LDG_MSTAT_DPULSE) (by decide)
    refine ⟨hclk, hmem, hctl, hpulses.trans (hkept.trans hcount), ?_⟩
    have hled : (s.inc F.LDG_MSTAT_DPULSE).led = s.led := s.incBy_led _ 1
    rw [hjudged, State.addMuse_muse, hmuse, hmlpp, hled]

/-- One more pulse of a flowmeter, at core clock `c`. -/
def FpSt.pulse (x : FpSt) (c : Nat) : FpSt := { count := x.count + 1, stamps := (c :: x.stamps).take 16 }

/-- An edge of FPk `gap` core clocks after the last event: its count and its time. -/
def State.takePulse (s : State) (k gap : Nat) : State :=
  let u := s.advCc gap
  { u with ctl := { u.ctl with fp := spSet (fun _ => {}) u.ctl.fp k ((u.fpOf k).pulse u.clk.cc) } }

theorem State.takePulse_fpOf (s : State) (k gap j : Nat) : (s.takePulse k gap).fpOf j =
    if j = k then (s.fpOf k).pulse (s.clk.cc + gap) else s.fpOf j := by
  have hfp (i : Nat) : (s.advCc gap).fpOf i = s.fpOf i := by rw [State.fpOf, State.advCc_ctl, State.fpOf]
  refine (spGet_spSet _ _ _ _ _).trans ?_
  rw [hfp, State.advCc_cc]
  split
  · rfl
  · exact hfp j

theorem State.takePulse_fld (s : State) (k gap : Nat) {f : Fld} (hf : f.addr ≠ 0x200) : (s.takePulse k gap).fld f = s.fld f :=
  State.fld_of_reg f (s.advCc_reg gap hf)

end Sys2Proof.Machine

namespace Sys2Proof.Proofs

open Sys2Proof Sys2Proof.Machine

/-! ### Samples -/

theorem exec_controlSample (s : State) (x : StrobeIn) (a b : Nat) (hrun : s.boot.halted = false) :
    exec (.controlSample x a b) s = .next (if s.gated = true then s else s.nextSample x a b) := by
  show execControlSample x a b s = _
  rw [execControlSample, s.clocked_running _ hrun]
  split <;> rfl

theorem exec_followingError (s : State) (x : StrobeIn) (a b : Nat) (hrun : s.boot.halted = false) :
    exec (.followingError x a b) s =
      .next (if s.gated = true then s else if (s.nextSample x a b).ctl.sup.fe then s.nextSample x a b else s) := by
  show execFollowingError x a b s = _
  rw [execFollowingError, s.clocked_running _ hrun]
  split
  · rfl
  · dsimp only
    split <;> rfl

/-- From `s` to `t` a buffer goes to DONE. -/
theorem tracesDone_iff (s t : State) : ((List.range 2).any (fun b => decide (s.fld (F.CTL_TRCb_STAT_STATE b) ≠ trDone) &&
    decide (t.fld (F.CTL_TRCb_STAT_STATE b) = trDone))) = true ↔
    (s.fld (F.CTL_TRCb_STAT_STATE 0) ≠ trDone ∧ t.fld (F.CTL_TRCb_STAT_STATE 0) = trDone) ∨
      (s.fld (F.CTL_TRCb_STAT_STATE 1) ≠ trDone ∧ t.fld (F.CTL_TRCb_STAT_STATE 1) = trDone) := by
  show ([0, 1].any _) = true ↔ _
  simp only [List.any_cons, List.any_nil, Bool.or_false, Bool.or_eq_true, Bool.and_eq_true, decide_eq_true_eq]

theorem exec_traceDone (s : State) (x : StrobeIn) (a b : Nat) (hrun : s.boot.halted = false) : ∀ t, t = s.nextSample x a b →
    exec (.traceDone x a b) s = .next (if s.gated = true then s else
      if (s.fld (F.CTL_TRCb_STAT_STATE 0) ≠ trDone ∧ t.fld (F.CTL_TRCb_STAT_STATE 0) = trDone) ∨
        (s.fld (F.CTL_TRCb_STAT_STATE 1) ≠ trDone ∧ t.fld (F.CTL_TRCb_STAT_STATE 1) = trDone) then t else s) := by
  rintro t rfl
  show execTraceDone x a b s = _
  rw [execTraceDone, s.clocked_running _ hrun]
  split
  · rfl
  · dsimp only
    simp only [← tracesDone_iff]
    split <;> rfl

theorem exec_injectionEnd (s : State) (x : StrobeIn) (a b : Nat) (hrun : s.boot.halted = false) :
    exec (.injectionEnd x a b) s =
      .next (if s.gated = true then s else if (s.nextSample x a b).ctl.inj.ended then s.nextSample x a b else s) := by
  show execInjectionEnd x a b s = _
  rw [execInjectionEnd, s.clocked_running _ hrun]
  split
  · rfl
  · dsimp only
    split <;> rfl

/-- A sample is at the next strobe. -/
theorem nextSample_at_strobe (s : State) (x : StrobeIn) (a b : Nat) (hcanon : s.canonical = true) : ∃ u : State, ∃ r k,
    u = { s with regs := r, clk := k } ∧ u.now % 256 = 0 ∧ (∀ i, i ≠ 0x200 → u.reg i = s.reg i) ∧
      s.nextSample x a b = u.controlSample x a b := by
  obtain ⟨r, k, hsame⟩ := s.takeInstant_same clsSample 256 0
  exact ⟨_, r, k, hsame, s.takeInstant_multiple clsSample (by decide) (by decide) (s.frac_lt_of_canonical hcanon),
    fun _ hi => s.takeInstant_reg _ _ _ hi, rfl⟩

/-! ### PW outputs -/

/-- A PW period starts. -/
def pwPeriod (s : State) : State :=
  let u := s.takeInstant clsPw 256 136
  { u with ctl := { u.ctl with pw := [3, 4].foldl (fun m d => spSet (fun _ => 0) m d (u.outRaw d)) u.ctl.pw } }

theorem exec_pwPeriodEdge (s : State) (hrun : s.boot.halted = false) :
    exec .pwPeriodEdge s = .next (if s.gated = true then s else pwPeriod s) := by
  show execPwPeriodEdge s = _
  rw [execPwPeriodEdge, s.clocked_running _ hrun]
  split <;> rfl

theorem pwPeriod_facts (s : State) (hcanon : s.canonical = true) : ∀ t, t = pwPeriod s → t.now % 256 = 136 ∧
    spGet (fun _ => 0) t.ctl.pw 3 = s.outRaw 3 ∧ spGet (fun _ => 0) t.ctl.pw 4 = s.outRaw 4 ∧ t.mem = s.mem ∧
    t.queues = s.queues ∧ t.ctl.out = s.ctl.out ∧ ∀ i, i ≠ 0x200 → t.reg i = s.reg i := by
  rintro t rfl
  have hnow := s.takeInstant_pw_now clsPw (s.frac_lt_of_canonical hcanon)
  have hreg (i : Nat) (hi : i ≠ 0x200) := s.takeInstant_reg clsPw 256 136 hi
  obtain ⟨r, k, hsame⟩ := s.takeInstant_same clsPw 256 136
  unfold pwPeriod
  rw [hsame] at hnow hreg ⊢
  exact ⟨hnow, latchPw_get _ _ 3, latchPw_get _ _ 4, rfl, rfl, rfl, hreg⟩

theorem exec_pwOvercurrent (s : State) (k : Fin 2) (hrun : s.boot.halted = false) : exec (.pwOvercurrent k) s =
    .next { s with ctl := { s.ctl with pw := spSet (fun _ => 0) s.ctl.pw (3 + k) 0 } } := by
  show execPwOvercurrent k s = _
  rw [execPwOvercurrent, s.clocked_running _ hrun]

/-! ### Flowmeters -/

/-- What a pulse outside BOOT leads to. -/
def pulsed (s : State) (k gap : Nat) : State :=
  if s.fld F.LDG_REC_FPSEL = k then (s.takePulse k gap).countPulse else s.takePulse k gap

theorem exec_flowmeterPulse (s : State) (k : Fin 2) (gap : Nat) (hrun : s.boot.halted = false) : exec (.flowmeterPulse k gap) s =
    .next (if s.modeNow = modeBoot then s.advCc gap else (pulsed s k gap).completed) := by
  have hmode : (s.advCc gap).modeNow = s.modeNow := State.fld_of_reg F.MOD_STAT_MODE (s.advCc_reg gap (by decide))
  have hsel : (s.takePulse k gap).fld F.LDG_REC_FPSEL = s.fld F.LDG_REC_FPSEL := s.takePulse_fld k gap (by decide)
  show execFlowmeterPulse k gap s = _
  rw [execFlowmeterPulse, s.clocked_running _ hrun]
  dsimp only
  rw [hmode]
  split
  · rfl
  · unfold pulsed
    by_cases h : s.fld F.LDG_REC_FPSEL = k.val
    · rw [if_pos h]
      exact if_pos (hsel.trans h)
    · rw [if_neg h]
      exact if_neg fun e => h (hsel.symm.trans e)

theorem pulsed_facts (s : State) (k gap : Nat) : ∀ t, t = pulsed s k gap → t.clk = (s.takePulse k gap).clk ∧ t.mem = s.mem ∧
    t.ctl = (s.takePulse k gap).ctl ∧
    t.fld F.LDG_MSTAT_DPULSE = (if s.fld F.LDG_REC_FPSEL = k then
      satAdd F.LDG_MSTAT_DPULSE.width (s.fld F.LDG_MSTAT_DPULSE) 1 else s.fld F.LDG_MSTAT_DPULSE) ∧
    t.fld F.LDG_MUSE_MUSE = (if s.fld F.LDG_REC_FPSEL = k ∧ s.isHead = true then
      satAdd 40 (s.fld F.LDG_MUSE_MUSE) ((s.led.mfrac + s.fld F.LDG_MLPP_MLPP) / 2 ^ 16) else s.fld F.LDG_MUSE_MUSE) := by
  rintro t rfl
  have hmem : (s.takePulse k gap).mem = s.mem := s.advCc_mem gap
  have hled : (s.takePulse k gap).led = s.led := s.advCc_led gap
  have hdpulse : (s.takePulse k gap).fld F.LDG_MSTAT_DPULSE = s.fld F.LDG_MSTAT_DPULSE := s.takePulse_fld k gap (by decide)
  have hmuse : (s.takePulse k gap).fld F.LDG_MUSE_MUSE = s.fld F.LDG_MUSE_MUSE := s.takePulse_fld k gap (by decide)
  have hmlpp : (s.takePulse k gap).fld F.LDG_MLPP_MLPP = s.fld F.LDG_MLPP_MLPP := s.takePulse_fld k gap (by decide)
  have hhead : (s.takePulse k gap).isHead = s.isHead :=
    congrArg (· == roleActive) (s.takePulse_fld k gap (f := F.SYS_ROLE_ROLE) (by decide))
  by_cases hsel : s.fld F.LDG_REC_FPSEL = k
  · have hcounts : pulsed s k gap = (s.takePulse k gap).countPulse := if_pos hsel
    obtain ⟨hclk, hmem', hctl, hcount, huse⟩ := (s.takePulse k gap).countPulse_facts _ rfl
    rw [hdpulse] at hcount
    rw [hhead, hmuse, hled, hmlpp] at huse
    rw [hcounts, if_pos hsel, if_congr (and_iff_right hsel) rfl rfl]
    exact ⟨hclk, hmem'.trans hmem, hctl, hcount, huse⟩
  · have hkeeps : pulsed s k gap = s.takePulse k gap := if_neg hsel
    rw [hkeeps, if_neg hsel, if_neg fun h => hsel h.1]
    exact ⟨rfl, hmem, rfl, hdpulse, hmuse⟩

end Sys2Proof.Proofs
end

section
/-! PROOF. O43: a control sample runs at the strobe. -/

namespace Sys2Proof.Proofs

open Sys2Proof Sys2Proof.Machine

/-- With the clocks gated no command of a strobe does anything. -/
theorem exec_strobe_gated (s : State) (x : StrobeIn) (a b : Nat) (hrun : s.boot.halted = false) (hgated : s.gated = true) :
    ∀ c ∈ [Instr.followingError x a b, .traceDone x a b, .injectionEnd x a b, .pwPeriodEdge], exec c s = .next s := by
  intro c hc
  simp only [List.mem_cons, List.not_mem_nil, or_false] at hc
  obtain rfl | rfl | rfl | rfl := hc
  · rw [exec_followingError s x a b hrun, if_pos hgated]
  · rw [exec_traceDone s x a b hrun _ rfl, if_pos hgated]
  · rw [exec_injectionEnd s x a b hrun, if_pos hgated]
  · rw [exec_pwPeriodEdge s hrun, if_pos hgated]

/-- A following error that has lasted FETIME: what it sets, and FEACT. -/
theorem superviseLb_facts (s : State) (hst : s.cst 2 = csRun) (htime : s.fld F.CTL_FE_CFG_FETIME ≠ 0)
    (herr : s.mag F.CTL_FE_LIM_FELIM < ((s.stg 2).w - s.yPrim 2).natAbs)
    (hlong : s.fld F.CTL_FE_CFG_FETIME * 4096 ≤ (s.fld F.CTL_FE_STAT_CNT + 1) * 1000) : ∀ t, t = s.superviseLb →
    t.flag F.CTL_FE_STAT_FEFLT = true ∧ t.fld F.CTL_FE_STAT_CNT = 0 ∧
      t.fld F.CTL_FE_STAT_FECNT = satAdd 8 (s.fld F.CTL_FE_STAT_FECNT) 1 ∧ t.ctl.sup.fe = true ∧
      t.cst 2 = if s.fld F.CTL_FE_CFG_FEACT = 1 ∨ s.fld F.CTL_FE_CFG_FEACT = 2 then csHeld else csRun := by
  rintro t rfl
  rw [s.superviseLb_declares hst htime herr hlong]
  obtain ⟨hflt, hcnt, hcount, hfe, hstate, hact⟩ := (s.showFe false).declareFe_facts
  obtain ⟨hkept, hcnt', hstate'⟩ := State.actFe_facts _ (hstate.trans hst) hcnt
  rw [hact] at hstate'
  exact ⟨(State.flag_of_fld _ hkept.flt).trans hflt, hcnt', hkept.count.trans hcount, (congrArg SupSt.fe hkept.sup).trans hfe, hstate'⟩

/-- PW_OVERCURRENT turns its own output off. -/
theorem pwOvercurrent_facts (s : State) (k : Fin 2) (hrun : s.boot.halted = false) : ∃ t : State,
    exec (.pwOvercurrent k) s = .next t ∧ spGet (fun _ => 0) t.ctl.pw (3 + k.val) = 0 ∧
    (∀ j, j ≠ 3 + k.val → spGet (fun _ => 0) t.ctl.pw j = spGet (fun _ => 0) s.ctl.pw j) ∧ t.ctl.out = s.ctl.out ∧
    t.regs = s.regs ∧ t.mem = s.mem ∧ t.queues = s.queues :=
  ⟨_, exec_pwOvercurrent s k hrun, (spGet_spSet _ _ _ _ _).trans (if_pos rfl),
    fun _ hj => (spGet_spSet _ _ _ _ _).trans (if_neg hj), rfl, rfl, rfl, rfl⟩

/-- FLOWMETER_PULSE outside BOOT. -/
theorem flowmeterPulse_facts (s : State) (k : Fin 2) (gap : Nat) (hrun : s.boot.halted = false) (hmode : s.modeNow ≠ modeBoot) :
    ∃ t : State, exec (.flowmeterPulse k gap) s = .next t ∧ t.clk.cc = s.clk.cc + gap ∧
      (t.fpOf k).count = (s.fpOf k).count + 1 ∧ (t.fpOf k).stamps.head? = some t.clk.cc ∧
      (∀ j, j ≠ k.val → t.fpOf j = s.fpOf j) ∧ t.mem = s.mem ∧
      t.fld F.LDG_MSTAT_DPULSE = (if s.fld F.LDG_REC_FPSEL = k.val then
        satAdd F.LDG_MSTAT_DPULSE.width (s.fld F.LDG_MSTAT_DPULSE) 1 else s.fld F.LDG_MSTAT_DPULSE) ∧
      t.fld F.LDG_MUSE_MUSE = (if s.fld F.LDG_REC_FPSEL = k.val ∧ s.isHead = true then
        satAdd 40 (s.fld F.LDG_MUSE_MUSE) ((s.led.mfrac + s.fld F.LDG_MLPP_MLPP) / 2 ^ 16) else s.fld F.LDG_MUSE_MUSE) := by
  obtain ⟨hclk, hmem, hctl, hcounts⟩ := pulsed_facts s k gap _ rfl
  have hcc : (pulsed s k gap).completed.clk.cc = s.clk.cc + gap := by
    rw [State.completed_clk, hclk]
    exact s.advCc_cc gap
  have hfp (j : Nat) : (pulsed s k gap).completed.fpOf j = (s.takePulse k gap).fpOf j := by
    rw [State.fpOf, State.completed_ctl, hctl, State.fpOf]
  refine ⟨_, (exec_flowmeterPulse s k gap hrun).trans (congrArg _ (if_neg hmode)), hcc, ?_, ?_, fun j hj => ?_, hmem, hcounts⟩
  · rw [hfp, s.takePulse_fpOf, if_pos rfl]
    rfl
  · rw [hfp, s.takePulse_fpOf, if_pos rfl, hcc]
    rfl
  · rw [hfp, s.takePulse_fpOf, if_neg hj]

/-- Settles O43: a sample is `State.controlSample` at the instant of the strobe (`nextSample_at_strobe`); with every stage OFF its
steps leave the stages' registers and drive SAFE raw (`State.controlSample_off`); a declared following error is
`State.superviseLb_declares`; what a pulse leads to leaves the counts (`State.judgeMachine_spares`). -/
theorem controlSamplesRunAtStrobes : Obligations.ControlSamplesRunAtStrobes := by
  unfold Obligations.ControlSamplesRunAtStrobes
  intro s x a b hrun
  refine ⟨fun hgated => ?gated, fun hgated hcanon => ?sample, ?off, ?declared, exec_strobe_gated s x a b hrun, ?follow, ?period,
    fun k => pwOvercurrent_facts s k hrun, fun k gap => ⟨fun hboot => ?boot, flowmeterPulse_facts s k gap hrun⟩⟩
  case gated => rw [exec_controlSample s x a b hrun, if_pos hgated]
  case sample =>
    obtain ⟨u, r, k, hsame, hnow, hreg, hnext⟩ := nextSample_at_strobe s x a b hcanon
    refine ⟨u, r, k, hsame, hnow, hreg, ?_⟩
    rw [exec_controlSample s x a b hrun, if_neg (by simp [hgated]), hnext]
  case off =>
    rintro hoff t rfl
    have hall : s.AllOff := hoff
    obtain ⟨hvpw0, hvpw1⟩ := hall.sample_supplies (x := x) (a := a) (b := b)
    exact ⟨hvpw0, hvpw1, hall.sample_ai, fun k hk => hall.sample_cst hk,
      fun k j d hk hj hd h1 h4 hone => hall.sample_raw hk hj hd h1 h4 hone⟩
  case declared =>
    rintro hgated t rfl
    have hlive : ¬ s.gated = true := by simp [hgated]
    rw [exec_followingError s x a b hrun, exec_traceDone s x a b hrun _ rfl, exec_injectionEnd s x a b hrun, if_neg hlive,
      if_neg hlive, if_neg hlive]
    exact ⟨rfl, rfl, rfl⟩
  case follow => exact fun hst htime herr hlong => superviseLb_facts s hst htime herr hlong _ rfl
  case period =>
    intro hgated hcanon
    refine ⟨pwPeriod s, ?_, pwPeriod_facts s hcanon _ rfl⟩
    rw [exec_pwPeriodEdge s hrun, if_neg (by simp [hgated])]
  case boot => rw [exec_flowmeterPulse s k gap hrun, if_pos hboot]

end Sys2Proof.Proofs
end

section
/-! PROOF. ARM, FORCE and STOP of a trace buffer (R235): what each bit of CTL_TRCb_CTL does, and what a word with several of them
leaves. -/

namespace Sys2Proof.Machine

open Sys2Proof

/-! ### Trace buffers -/

theorem State.trc_setTrc (s : State) (b c : Nat) (x : TraceSt) : (s.setTrc b x).trc c = if c = b then x else s.trc c :=
  spGet_spSet _ _ _ _ _

@[simp] theorem State.setTrc_fld (s : State) (b : Nat) (x : TraceSt) (f : Fld) : (s.setTrc b x).fld f = s.fld f := rfl

/-- From `s` to `t` the SRAM windows and the trace buffers other than `b` stay. -/
structure BufferOnly (b : Nat) (s t : State) : Prop where
  mem : t.mem = s.mem
  trc : ∀ c, c ≠ b → t.trc c = s.trc c

section
variable {b : Nat} {s t u : State}

theorem BufferOnly.refl (b : Nat) (s : State) : BufferOnly b s s := ⟨rfl, fun _ _ => rfl⟩

theorem BufferOnly.trans (h : BufferOnly b s t) (g : BufferOnly b t u) : BufferOnly b s u :=
  ⟨g.mem.trans h.mem, fun c hc => (g.trc c hc).trans (h.trc c hc)⟩

theorem BufferOnly.ite {c : Prop} [Decidable c] (h : BufferOnly b s t) (g : BufferOnly b s u) :
    BufferOnly b s (if c then t else u) := by
  split
  · exact h
  · exact g

end

section
variable (s : State) (b : Nat)

/-- A trace record leaves every register but the drop count of its ring, and what the engine holds beside its registers. -/
theorem State.traceRec_leaves (typ row : Nat) : (s.traceRec typ b row).mem = s.mem ∧ (s.traceRec typ b row).ctl = s.ctl ∧
    ∀ i, i ≠ (F.EVS_Qn_ERR_w 61).addr → (s.traceRec typ b row).reg i = s.reg i := by
  have hrec : Reported [(F.EVS_Qn_ERR_w 61).addr] s (s.traceRec typ b row) :=
    s.ringDrop_reported 61 _ _ List.mem_cons_self
  refine ⟨hrec.mem, ?_, fun i hi => hrec.reg (by simpa using hi)⟩
  obtain ⟨⟨g, x, y, n, f, hsame⟩, -⟩ := hrec
  rw [hsame]

/-- The entry to DONE shows in STATE, and what the buffer holds beside its registers starts afresh. -/
theorem State.traceFinish_leaves : (s.traceFinish b).mem = s.mem ∧
    (∀ c, (s.traceFinish b).trc c = if c = b then {} else s.trc c) ∧
    ∀ f : Fld, f.addr = 0x1345 + 32 * b → (s.traceFinish b).fld f = (s.setFld (F.CTL_TRCb_STAT_STATE b) trDone).fld f := by
  obtain ⟨hmem, hctl, hreg⟩ :=
    (((s.draw 4096).2.setFld (F.CTL_TRCb_STAT_STATE b) trDone).setTrc b {}).traceRec_leaves b 1 (s.draw 4096).1
  refine ⟨hmem, fun c => ?_, fun f hf => State.fld_of_reg f (hreg f.addr ?_)⟩
  · rw [State.traceFinish, State.trc, hctl]
    exact State.trc_setTrc _ b c {}
  · rw [hf]
    show 0x1345 + 32 * b ≠ 0x737
    omega

theorem State.traceFinish_trc (c : Nat) : (s.traceFinish b).trc c = if c = b then {} else s.trc c := by
  obtain ⟨-, htrc, -⟩ := s.traceFinish_leaves b
  exact htrc c

theorem State.traceFinish_fld {f : Fld} (hf : f.addr = 0x1345 + 32 * b) :
    (s.traceFinish b).fld f = (s.setFld (F.CTL_TRCb_STAT_STATE b) trDone).fld f := by
  obtain ⟨-, -, hfld⟩ := s.traceFinish_leaves b
  exact hfld f hf

theorem State.traceFinish_bufferOnly : BufferOnly b s (s.traceFinish b) :=
  ⟨(s.traceFinish_leaves b).1, fun c hc => (s.traceFinish_trc b c).trans (if_neg hc)⟩

/-! ### One bit -/

theorem State.traceArm_bufferOnly : BufferOnly b s (s.traceArm b) := by
  refine ⟨rfl, fun c hc => ?_⟩
  rw [State.traceArm, State.trc_setTrc, if_neg hc]
  simp only [State.trc, State.setFld_ctl]

theorem State.traceForce_bufferOnly : BufferOnly b s (s.traceForce b) :=
  .ite ⟨rfl, fun c hc => (State.trc_setTrc _ b c _).trans (if_neg hc)⟩ (.refl b s)

theorem State.traceStop_bufferOnly : BufferOnly b s (s.traceStop b) := .ite (.refl b s) (s.traceFinish_bufferOnly b)

theorem State.traceArm_trc : (s.traceArm b).trc b = {} := (State.trc_setTrc _ b b {}).trans (if_pos rfl)

theorem State.traceArm_state : (s.traceArm b).fld (F.CTL_TRCb_STAT_STATE b) = trArmed := by
  rw [State.traceArm, State.setTrc_fld]
  exact State.fld_setFld_same _ (F.CTL_TRCb_STAT_STATE b) trArmed rfl

/-- ARM empties the buffer. -/
theorem State.traceArm_rows : (s.traceArm b).fld (F.CTL_TRCb_STAT_WPTR b) = 0 ∧ (s.traceArm b).fld (F.CTL_TRCb_STAT_VALID b) = 0 ∧
    (s.traceArm b).fld (F.CTL_TRCb_STAT_TRIGROW b) = 0 := by
  have hstate (u : State) (f : Fld) (hf : f.hi < 37) : (u.setFld (F.CTL_TRCb_STAT_STATE b) trArmed).fld f = u.fld f :=
    u.fld_setFld_disj (F.CTL_TRCb_STAT_STATE b) f trArmed rfl (.inl hf)
  have htrig (u : State) (f : Fld) (hf : f.hi < 25) : (u.setFld (F.CTL_TRCb_STAT_TRIGROW b) 0).fld f = u.fld f :=
    u.fld_setFld_disj (F.CTL_TRCb_STAT_TRIGROW b) f 0 rfl (.inl hf)
  have hvalid (u : State) (f : Fld) (hf : f.hi < 12) : (u.setFld (F.CTL_TRCb_STAT_VALID b) 0).fld f = u.fld f :=
    u.fld_setFld_disj (F.CTL_TRCb_STAT_VALID b) f 0 rfl (.inl hf)
  rw [State.traceArm, State.setTrc_fld, State.setTrc_fld, State.setTrc_fld]
  refine ⟨?_, ?_, ?_⟩
  · exact (hstate _ _ (show 11 < 37 by decide)).trans ((htrig _ _ (show 11 < 25 by decide)).trans
      ((hvalid _ _ (show 11 < 12 by decide)).trans (s.fld_setFld_same (F.CTL_TRCb_STAT_WPTR b) 0 rfl)))
  · exact (hstate _ _ (show 24 < 37 by decide)).trans ((htrig _ _ (show 24 < 25 by decide)).trans
      (State.fld_setFld_same _ (F.CTL_TRCb_STAT_VALID b) 0 rfl))
  · exact (hstate _ _ (show 36 < 37 by decide)).trans (State.fld_setFld_same _ (F.CTL_TRCb_STAT_TRIGROW b) 0 rfl)

theorem State.traceForce_armed (h : s.fld (F.CTL_TRCb_STAT_STATE b) = trArmed) :
    s.traceForce b = s.setTrc b { s.trc b with pend := true } := if_pos h

theorem State.traceForce_unarmed (h : s.fld (F.CTL_TRCb_STAT_STATE b) ≠ trArmed) : s.traceForce b = s := if_neg h

/-- FORCE is seen in no register and in no queue. -/
theorem State.traceForce_leaves : (s.traceForce b).regs = s.regs ∧ (s.traceForce b).queues = s.queues := by
  unfold State.traceForce
  split <;> exact ⟨rfl, rfl⟩

theorem State.traceForce_fld (f : Fld) : (s.traceForce b).fld f = s.fld f := State.fld_of_regs (s.traceForce_leaves b).1 f

theorem State.traceForce_pend (h : s.fld (F.CTL_TRCb_STAT_STATE b) = trArmed) : ((s.traceForce b).trc b).pend = true := by
  rw [s.traceForce_armed b h, State.trc_setTrc, if_pos rfl]

theorem State.traceStop_done (h : s.fld (F.CTL_TRCb_STAT_STATE b) = trDone) : s.traceStop b = s := if_pos h

theorem State.traceStop_going (h : s.fld (F.CTL_TRCb_STAT_STATE b) ≠ trDone) : s.traceStop b = s.traceFinish b := if_neg h

theorem State.traceStop_state : (s.traceStop b).fld (F.CTL_TRCb_STAT_STATE b) = trDone := by
  by_cases h : s.fld (F.CTL_TRCb_STAT_STATE b) = trDone
  · rw [s.traceStop_done b h, h]
  · rw [s.traceStop_going b h, s.traceFinish_fld b rfl]
    exact s.fld_setFld_same (F.CTL_TRCb_STAT_STATE b) trDone rfl

/-- STOP leaves the rows. -/
theorem State.traceStop_row {f : Fld} (hf : f.addr = 0x1345 + 32 * b) (hhi : f.hi < 37) : (s.traceStop b).fld f = s.fld f := by
  by_cases h : s.fld (F.CTL_TRCb_STAT_STATE b) = trDone
  · rw [s.traceStop_done b h]
  · rw [s.traceStop_going b h, s.traceFinish_fld b hf]
    exact s.fld_setFld_disj (F.CTL_TRCb_STAT_STATE b) f trDone rfl (.inl hhi)

/-! ### The word -/

section
variable (v : Word)

theorem State.writeTraceCtl_bufferOnly : BufferOnly b s (s.writeTraceCtl b v) := by
  have harm : BufferOnly b s (if bitOf v.toNat 0 then s.traceArm b else s) := .ite (s.traceArm_bufferOnly b) (.refl b s)
  have hforce := BufferOnly.ite (c := bitOf v.toNat 1 = true) (harm.trans (State.traceForce_bufferOnly _ b)) harm
  exact .ite (hforce.trans (State.traceStop_bufferOnly _ b)) hforce

/-- The state that a word leaves: STOP is the last bit to act, and FORCE shows at the next row only. -/
theorem State.writeTraceCtl_state : (s.writeTraceCtl b v).fld (F.CTL_TRCb_STAT_STATE b) =
    if bitOf v.toNat 2 then trDone else if bitOf v.toNat 0 then trArmed else s.fld (F.CTL_TRCb_STAT_STATE b) := by
  unfold State.writeTraceCtl
  cases bitOf v.toNat 2
  case true => exact State.traceStop_state _ b
  case false =>
    cases bitOf v.toNat 1 <;> cases bitOf v.toNat 0 <;>
      simp only [if_true, if_false, Bool.false_eq_true, State.traceForce_fld, State.traceArm_state]

/-- A word with ARM: the rows are empty, and FORCE waits for the next one where STOP does not end the buffer. -/
theorem State.writeTraceCtl_arm (h : bitOf v.toNat 0 = true) : ∀ t, t = s.writeTraceCtl b v →
    t.fld (F.CTL_TRCb_STAT_WPTR b) = 0 ∧ t.fld (F.CTL_TRCb_STAT_VALID b) = 0 ∧ t.fld (F.CTL_TRCb_STAT_TRIGROW b) = 0 ∧
    (t.trc b).pend = (bitOf v.toNat 1 && !bitOf v.toNat 2) := by
  rintro t rfl
  obtain ⟨u, hu, hrows, hstate, hpend⟩ : ∃ u, s.writeTraceCtl b v = (if bitOf v.toNat 2 then u.traceStop b else u) ∧
      (∀ f, u.fld f = (s.traceArm b).fld f) ∧ u.fld (F.CTL_TRCb_STAT_STATE b) = trArmed ∧ (u.trc b).pend = bitOf v.toNat 1 := by
    refine ⟨_, rfl, ?_⟩
    rw [if_pos h]
    cases bitOf v.toNat 1
    case false => exact ⟨fun _ => rfl, s.traceArm_state b, congrArg TraceSt.pend (s.traceArm_trc b)⟩
    case true => exact ⟨State.traceForce_fld _ b, (State.traceForce_fld _ b _).trans (s.traceArm_state b),
      State.traceForce_pend _ b (s.traceArm_state b)⟩
  obtain ⟨hwptr, hvalid, htrig⟩ := s.traceArm_rows b
  rw [hu]
  cases bitOf v.toNat 2
  case false => exact ⟨(hrows _).trans hwptr, (hrows _).trans hvalid, (hrows _).trans htrig, by simpa using hpend⟩
  case true =>
    have hgoing : u.fld (F.CTL_TRCb_STAT_STATE b) ≠ trDone := by rw [hstate]; decide
    refine ⟨(u.traceStop_row b rfl (show 11 < 37 by decide)).trans ((hrows _).trans hwptr),
      (u.traceStop_row b rfl (show 24 < 37 by decide)).trans ((hrows _).trans hvalid),
      (u.traceStop_row b rfl (show 36 < 37 by decide)).trans ((hrows _).trans htrig), ?_⟩
    rw [if_pos rfl, u.traceStop_going b hgoing, u.traceFinish_trc b, if_pos rfl, Bool.not_true, Bool.and_false]

/-- A word with FORCE and without STOP, for a buffer that is armed or that the word arms. -/
theorem State.writeTraceCtl_pend (hforce : bitOf v.toNat 1 = true) (hstop : bitOf v.toNat 2 = false)
    (h : bitOf v.toNat 0 = true ∨ s.fld (F.CTL_TRCb_STAT_STATE b) = trArmed) : ((s.writeTraceCtl b v).trc b).pend = true := by
  simp only [State.writeTraceCtl, hforce, hstop, if_true, if_false, Bool.false_eq_true]
  refine State.traceForce_pend _ b ?_
  split
  case isTrue => exact s.traceArm_state b
  case isFalse hno => exact h.resolve_left hno

/-- A word with FORCE alone. -/
theorem State.writeTraceCtl_force (hforce : bitOf v.toNat 1 = true) (hstop : bitOf v.toNat 2 = false)
    (harm : bitOf v.toNat 0 = false) : s.writeTraceCtl b v = s.traceForce b := by
  simp only [State.writeTraceCtl, hforce, hstop, harm, if_true, if_false, Bool.false_eq_true]

/-- A word with STOP alone. -/
theorem State.writeTraceCtl_stop (hstop : bitOf v.toNat 2 = true) (harm : bitOf v.toNat 0 = false)
    (hforce : bitOf v.toNat 1 = false) : s.writeTraceCtl b v = s.traceStop b := by
  simp only [State.writeTraceCtl, hforce, hstop, harm, if_true, if_false, Bool.false_eq_true]

end

end

end Sys2Proof.Machine
end

section
/-! PROOF. GO and STOP of an injection (R239, R242): when GO is taken, what it captures, and what a word with both bits leaves. -/

namespace Sys2Proof.Machine

open Sys2Proof

/-! ### The error flag of a write -/

/-- A field that holds what it held before leaves its register as it was. -/
theorem State.reg_setFld_back (s : State) {f : Fld} (x : Nat) (hok : f.ok = true) (i : Nat) :
    ((s.setFld f x).setFld f (s.fld f)).reg i = s.reg i := by
  by_cases hi : i = f.addr
  · subst hi
    have hset (u : State) (y : Nat) : (u.setFld f y).reg f.addr = putBits (u.reg f.addr) f y :=
      (u.reg_setReg _ _ _).trans (if_pos rfl)
    rw [hset, hset]
    refine BitVec.eq_of_toNat_eq (Nat.eq_of_testBit_eq fun j => ?_)
    rw [testBit_putBits _ _ _ _ hok, testBit_putBits _ _ _ _ hok]
    by_cases hj : f.lo ≤ j ∧ j ≤ f.hi
    · rw [if_pos hj, s.testBit_fld hj.1 hj.2]
    · rw [if_neg hj, if_neg hj]
  · rw [State.reg_setFld_ne _ f _ hi, State.reg_setFld_ne _ f _ hi]

/-- A flag of one bit is the value of its field. -/
theorem State.b2n_flag (s : State) {f : Fld} (h : f.width = 1) : b2n (s.flag f) = s.fld f := by
  have hlt := s.fld_lt f
  rw [h] at hlt
  obtain h0 | h1 : s.fld f = 0 ∨ s.fld f = 1 := by omega
  · rw [State.flag, h0]; rfl
  · rw [State.flag, h1]; rfl

section
variable (s : State) {f : Fld} (op : State → State)

/-- An operation that sets the flag of its write. -/
theorem State.probe_failed (h : (op (s.setFlag f false)).flag f = true) : (s.probe f op).2 = op (s.setFlag f false) := by
  rw [State.probe]
  simp [h]

/-- The fields beside the flag of a write are as the operation leaves them. -/
theorem State.probe_fld {g : Fld} (hok : f.ok = true) (hd : g.hi < f.lo ∨ f.hi < g.lo) :
    (s.probe f op).2.fld g = (op (s.setFlag f false)).fld g := by
  unfold State.probe
  dsimp only
  split
  · rfl
  · exact State.fld_setFld_disj _ f g _ hok hd

theorem State.probe_flag {g : Fld} (hok : f.ok = true) (hd : g.hi < f.lo ∨ f.hi < g.lo) :
    (s.probe f op).2.flag g = (op (s.setFlag f false)).flag g := by
  rw [State.flag, State.flag, s.probe_fld op hok hd]

/-- An operation that does nothing leaves every register. -/
theorem State.probe_idle_reg (hok : f.ok = true) (hwidth : f.width = 1) (h : op (s.setFlag f false) = s.setFlag f false) (i : Nat) :
    (s.probe f op).2.reg i = s.reg i := by
  have hclear : ¬ (s.setFlag f false).flag f = true := by rw [s.flag_setFlag_same f false hok]; decide
  rw [State.probe, h, if_neg hclear, State.setFlag, s.b2n_flag hwidth]
  exact s.reg_setFld_back _ hok i

end

/-! ### What the commands may change -/

/-- From `s` to `t` nothing changes but CTL_INJ_STAT, the notes of hardware updates and the running injection. -/
def InjectionOnly (s t : State) : Prop :=
  (∃ g c l, t = { s with regs := g, core := c, ctl := { s.ctl with inj := l } }) ∧ ∀ i, i ≠ 0x1326 → t.reg i = s.reg i

section
variable {s t u : State}

theorem InjectionOnly.refl (s : State) : InjectionOnly s s := ⟨⟨_, _, _, rfl⟩, fun _ _ => rfl⟩

theorem InjectionOnly.trans (h : InjectionOnly s t) (h' : InjectionOnly t u) : InjectionOnly s u := by
  obtain ⟨⟨g, c, l, rfl⟩, hreg⟩ := h
  obtain ⟨⟨g', c', l', e⟩, hreg'⟩ := h'
  exact ⟨⟨g', c', l', e⟩, fun i hi => (hreg' i hi).trans (hreg i hi)⟩

theorem InjectionOnly.setFld (h : InjectionOnly s t) {f : Fld} (x : Nat) (hf : f.addr = 0x1326) : InjectionOnly s (t.setFld f x) :=
  h.trans ⟨⟨_, _, _, rfl⟩, fun _ hi => t.reg_setFld_ne f x (hf ▸ hi)⟩

theorem InjectionOnly.raise (h : InjectionOnly s t) {f : Fld} (hf : f.addr = 0x1326) : InjectionOnly s (t.raise f) :=
  h.trans ⟨⟨_, _, _, rfl⟩, fun _ hi => t.raise_reg_ne f (hf ▸ hi)⟩

theorem InjectionOnly.ite {c : Prop} [Decidable c] (h : InjectionOnly s t) (g : InjectionOnly s u) :
    InjectionOnly s (if c then t else u) := by
  split
  · exact h
  · exact g

theorem InjectionOnly.probe {f : Fld} {op : State → State} (hf : f.addr = 0x1326) (hop : ∀ v, InjectionOnly v (op v)) (s : State) :
    InjectionOnly s (s.probe f op).2 := by
  have hset := ((InjectionOnly.refl s).setFld (b2n false) hf).trans (hop (s.setFlag f false))
  unfold State.probe
  dsimp only
  split
  · exact hset
  · exact hset.setFld _ hf

theorem InjectionOnly.mem (h : InjectionOnly s t) : t.mem = s.mem := by obtain ⟨⟨_, _, _, rfl⟩, -⟩ := h; rfl

theorem InjectionOnly.queues (h : InjectionOnly s t) : t.queues = s.queues := by obtain ⟨⟨_, _, _, rfl⟩, -⟩ := h; rfl

theorem InjectionOnly.stages (h : InjectionOnly s t) : t.ctl.stages = s.ctl.stages := by obtain ⟨⟨_, _, _, rfl⟩, -⟩ := h; rfl

end

/-! ### GO -/

/-- GO is taken (R239): in COMMISSION, on a stage in RUN or FROZEN, with legal fields, while no injection runs. -/
def State.CanInject (s : State) : Prop :=
  s.modeNow = modeCommission ∧ s.fld F.CTL_INJ_CFG_STAGE ≤ 2 ∧
    (s.cst (s.fld F.CTL_INJ_CFG_STAGE) = csRun ∨ s.cst (s.fld F.CTL_INJ_CFG_STAGE) = csFrozen) ∧
    s.flag F.CTL_INJ_STAT_RUN = false ∧ s.fld F.CTL_INJ_CFG_TYPE ≠ 3 ∧ s.fld F.CTL_INJ_CFG_POINT ≤ 8

theorem State.CanInject.idle {s : State} (h : s.CanInject) : s.flag F.CTL_INJ_STAT_RUN = false := by
  obtain ⟨-, -, -, hidle, -, -⟩ := h
  exact hidle

section
variable (s : State)

/-- The error flag has no part in whether GO is taken. -/
theorem State.canInject_clearError : (s.setFlag F.CTL_INJ_STAT_INJERR false).CanInject ↔ s.CanInject := by
  have hfld (f : Fld) (hf : f.addr ≠ 0x1326) : (s.setFlag F.CTL_INJ_STAT_INJERR false).fld f = s.fld f :=
    s.fld_setFld_ne F.CTL_INJ_STAT_INJERR f _ hf
  have hmode : (s.setFlag F.CTL_INJ_STAT_INJERR false).modeNow = s.modeNow := hfld F.MOD_STAT_MODE (by decide)
  have hcst (k : Nat) : (s.setFlag F.CTL_INJ_STAT_INJERR false).cst k = s.cst k :=
    s.fld_setFld_disj F.CTL_INJ_STAT_INJERR (F.CTL_x_STAT_STATE k) _ (by decide) (.inl (show 2 < 4 by decide))
  have hrun : (s.setFlag F.CTL_INJ_STAT_INJERR false).flag F.CTL_INJ_STAT_RUN = s.flag F.CTL_INJ_STAT_RUN :=
    s.flag_setFld_disj F.CTL_INJ_STAT_INJERR F.CTL_INJ_STAT_RUN _ (by decide) (by decide)
  rw [State.CanInject, State.CanInject, hmode, hcst, hrun, hfld F.CTL_INJ_CFG_STAGE (by decide), hfld F.CTL_INJ_CFG_TYPE (by decide),
    hfld F.CTL_INJ_CFG_POINT (by decide)]

theorem State.injGo_refused (h : ¬ s.CanInject) : s.injGo = s.raise F.CTL_INJ_STAT_INJERR := by
  unfold State.injGo
  refine if_neg fun htaken => h ?_
  simpa [State.CanInject, and_assoc] using htaken

theorem State.injGo_taken (h : s.CanInject) : ∃ l : InjSt, l.amp = min (s.mag F.CTL_INJ_AMP_AMP) (s.mag F.CTL_INJ_AMAX_AMAX) ∧
    l.cfg = s.reg F.CTL_INJ_CFG_w.addr ∧ s.injGo =
      (({ s with ctl := { s.ctl with inj := l } } : State).setFlag F.CTL_INJ_STAT_RUN true).setFld F.CTL_INJ_STAT_M 0 := by
  refine ⟨_, ?amp, ?cfg, if_pos (by simpa [State.CanInject, and_assoc] using h)⟩
  case amp => rfl
  case cfg => rfl

theorem State.injGo_only : InjectionOnly s s.injGo := by
  by_cases h : s.CanInject
  · obtain ⟨l, -, -, hgo⟩ := s.injGo_taken h
    have hcapture : InjectionOnly s { s with ctl := { s.ctl with inj := l } } := ⟨⟨_, _, _, rfl⟩, fun _ _ => rfl⟩
    rw [hgo]
    exact (hcapture.setFld _ rfl).setFld _ rfl
  · rw [s.injGo_refused h]
    exact (InjectionOnly.refl s).raise rfl

/-- A GO that is taken starts the injection with what it captures. -/
theorem State.injGo_starts (h : s.CanInject) : s.injGo.flag F.CTL_INJ_STAT_RUN = true ∧ s.injGo.fld F.CTL_INJ_STAT_M = 0 ∧
    s.injGo.ctl.inj.amp = min (s.mag F.CTL_INJ_AMP_AMP) (s.mag F.CTL_INJ_AMAX_AMAX) ∧
    s.injGo.ctl.inj.cfg = s.reg F.CTL_INJ_CFG_w.addr := by
  obtain ⟨l, hamp, hcfg, hgo⟩ := s.injGo_taken h
  rw [hgo]
  refine ⟨?_, State.fld_setFld_same _ _ 0 (by decide), hamp, hcfg⟩
  exact (State.flag_setFld_disj _ F.CTL_INJ_STAT_M F.CTL_INJ_STAT_RUN 0 (by decide) (by decide)).trans
    (State.flag_setFlag_same _ _ true (by decide))

/-- A GO that is refused starts nothing. -/
theorem State.injGo_refuses (h : ¬ s.CanInject) : s.injGo.flag F.CTL_INJ_STAT_INJERR = true ∧ s.injGo.ctl = s.ctl ∧
    s.injGo.flag F.CTL_INJ_STAT_RUN = s.flag F.CTL_INJ_STAT_RUN := by
  rw [s.injGo_refused h]
  refine ⟨s.raise_flag_same _ (by decide), rfl, ?_⟩
  rw [State.flag, State.flag, s.raise_fld_disj F.CTL_INJ_STAT_INJERR F.CTL_INJ_STAT_RUN (by decide) (by decide)]

/-! ### STOP -/

theorem State.injStop_idle (h : s.flag F.CTL_INJ_STAT_RUN = false) : s.injStop = s := by rw [State.injStop, h]; rfl

theorem State.injStop_running (h : s.flag F.CTL_INJ_STAT_RUN = true) :
    s.injStop = (s.setFlag F.CTL_INJ_STAT_RUN false).raise F.CTL_INJ_STAT_DONE := if_pos h

theorem State.injStop_only : InjectionOnly s s.injStop :=
  .ite (((InjectionOnly.refl s).setFld _ rfl).raise rfl) (.refl s)

theorem State.injStop_ctl : s.injStop.ctl = s.ctl := by
  unfold State.injStop
  split <;> rfl

theorem State.injStop_run : s.injStop.flag F.CTL_INJ_STAT_RUN = false := by
  cases h : s.flag F.CTL_INJ_STAT_RUN
  case false => rw [s.injStop_idle h, h]
  case true =>
    rw [s.injStop_running h, State.flag, State.raise_fld_disj _ F.CTL_INJ_STAT_DONE F.CTL_INJ_STAT_RUN (by decide) (by decide)]
    exact s.flag_setFlag_same _ false (by decide)

theorem State.injStop_done (h : s.flag F.CTL_INJ_STAT_RUN = true) : s.injStop.flag F.CTL_INJ_STAT_DONE = true := by
  rw [s.injStop_running h]
  exact State.raise_flag_same _ _ (by decide)

theorem State.injStop_error : s.injStop.flag F.CTL_INJ_STAT_INJERR = s.flag F.CTL_INJ_STAT_INJERR := by
  cases h : s.flag F.CTL_INJ_STAT_RUN
  case false => rw [s.injStop_idle h]
  case true =>
    rw [s.injStop_running h, State.flag, State.raise_fld_disj _ F.CTL_INJ_STAT_DONE F.CTL_INJ_STAT_INJERR (by decide) (by decide)]
    exact s.flag_setFld_disj F.CTL_INJ_STAT_RUN F.CTL_INJ_STAT_INJERR _ (by decide) (by decide)

/-! ### The word -/

variable {v : Word}

theorem State.writeInjCtl_only : InjectionOnly s (s.writeInjCtl v) := by
  have hgo : InjectionOnly s (if bitOf v.toNat 0 then s.injGo else s) := .ite s.injGo_only (.refl s)
  exact .ite (hgo.trans (State.injStop_only _)) hgo

theorem State.writeInjCtl_go (hgo : bitOf v.toNat 0 = true) :
    s.writeInjCtl v = if bitOf v.toNat 1 then s.injGo.injStop else s.injGo := by rw [State.writeInjCtl, if_pos hgo]

theorem State.writeInjCtl_stop (hstop : bitOf v.toNat 1 = true) :
    s.writeInjCtl v = (if bitOf v.toNat 0 then s.injGo else s).injStop := if_pos hstop

end

end Sys2Proof.Machine
end

section
/-! PROOF. Trace and injection controls (O45): TRACE_ARM, TRACE_FORCE, TRACE_STOP, INJECTION_GO and INJECTION_STOP (R235, R239, R242). -/

namespace Sys2Proof.Proofs

open Sys2Proof Sys2Proof.Machine

/-! ### Trace commands -/

/-- The row of CTL_TRCb_CTL. -/
def traceCtlRow : RegRow := ⟨.CTL_TRCb_CTL, 0x1344, 32, 2, 0, 0x0, 0x0, 0x0, 0x7⟩

/-- A write of CTL_TRCb_CTL, whatever hardware does in its core clock. -/
theorem write_traceCtl (s : State) (b : Fin 2) (w : Word) :
    s.write .service (0x1344 + 0x20 * b) w = (s.writeTraceCtl b w).completed := by
  have hrow : regAt (0x1344 + 0x20 * b) = some traceCtlRow := by revert b; decide
  have hin : inInputs (0x1344 + 0x20 * b) = false := by revert b; decide
  have hidx : traceCtlRow.idx (0x1344 + 0x20 * b) = b := by revert b; decide
  have heff (x : Word) : s.writeReg (some .service) traceCtlRow (0x1344 + 0x20 * b) w x = (.done, s.writeTraceCtl b w) := by
    show (Wr.done, s.writeTraceCtl (traceCtlRow.idx (0x1344 + 0x20 * b)) w) = _
    rw [hidx]
  rw [State.write, s.hostWrite_trigger w rfl hrow hin rfl rfl (by decide), heff]
  rfl

section
variable (s : State) (b : Fin 2) (v : Word) (hrun : s.boot.halted = false)
include hrun

theorem exec_traceArm : exec (.traceArm b v) s = .next (s.writeTraceCtl b (bitAs v 0 true)).completed := by
  rw [← write_traceCtl]
  exact s.clocked_running (fun s => ok (s.write .service (0x1344 + 0x20 * b) (bitAs v 0 true))) hrun

theorem exec_traceForce : exec (.traceForce b v) s = .next (s.writeTraceCtl b (bitAs v 1 true)).completed := by
  rw [← write_traceCtl]
  exact s.clocked_running (fun s => ok (s.write .service (0x1344 + 0x20 * b) (bitAs v 1 true))) hrun

theorem exec_traceStop : exec (.traceStop b v) s = .next (s.writeTraceCtl b (bitAs v 2 true)).completed := by
  rw [← write_traceCtl]
  exact s.clocked_running (fun s => ok (s.write .service (0x1344 + 0x20 * b) (bitAs v 2 true))) hrun

end

/-! ### Injection commands -/

/-- The row of CTL_INJ_CTL. -/
def injCtlRow : RegRow := ⟨.CTL_INJ_CTL, 0x1325, 1, 1, 0, 0x0, 0x0, 0x0, 0x3⟩

/-- What a write of CTL_INJ_CTL leaves: INJERR is as before where the write does not set it. -/
def injected (s : State) (w : Word) : State := (s.probe F.CTL_INJ_STAT_INJERR (fun u => u.writeInjCtl w)).2

/-- A write of CTL_INJ_CTL, whatever hardware does in its core clock. -/
theorem write_injCtl (s : State) (w : Word) : s.write .service 0x1325 w = (injected s w).completed := by
  have hrow : regAt 0x1325 = some injCtlRow := by decide
  have heff (x : Word) : s.writeReg (some .service) injCtlRow 0x1325 w x =
      s.probe F.CTL_INJ_STAT_INJERR (fun u => u.writeInjCtl w) := rfl
  rw [State.write, s.hostWrite_trigger w rfl hrow rfl rfl rfl (by decide), heff, if_pos (State.probe_acted ..)]
  rfl

section
variable (s : State) (v : Word) (hrun : s.boot.halted = false)
include hrun

theorem exec_injectionGo : exec (.injectionGo v) s = .next (injected s (bitAs v 0 true)).completed := by
  rw [← write_injCtl]
  exact s.clocked_running (fun s => ok (s.write .service 0x1325 (bitAs v 0 true))) hrun

theorem exec_injectionStop : exec (.injectionStop v) s = .next (injected s (bitAs v 1 true)).completed := by
  rw [← write_injCtl]
  exact s.clocked_running (fun s => ok (s.write .service 0x1325 (bitAs v 1 true))) hrun

end

section
variable (s : State) {w : Word}

theorem injected_only : InjectionOnly s (injected s w) := .probe rfl (fun u => u.writeInjCtl_only) s

/-- The other flags, and M, are as the bits of the word leave them. -/
theorem injected_fld {g : Fld} (hd : g.hi < 4 ∨ 4 < g.lo) :
    (injected s w).fld g = ((s.setFlag F.CTL_INJ_STAT_INJERR false).writeInjCtl w).fld g :=
  s.probe_fld (f := F.CTL_INJ_STAT_INJERR) _ (by decide) hd

theorem injected_flag {g : Fld} (hd : g.hi < 4 ∨ 4 < g.lo) :
    (injected s w).flag g = ((s.setFlag F.CTL_INJ_STAT_INJERR false).writeInjCtl w).flag g :=
  s.probe_flag (f := F.CTL_INJ_STAT_INJERR) _ (by decide) hd

theorem injected_ctl : (injected s w).ctl = ((s.setFlag F.CTL_INJ_STAT_INJERR false).writeInjCtl w).ctl := s.probe_ctl _ _

theorem clearError_run : (s.setFlag F.CTL_INJ_STAT_INJERR false).flag F.CTL_INJ_STAT_RUN = s.flag F.CTL_INJ_STAT_RUN :=
  s.flag_setFld_disj F.CTL_INJ_STAT_INJERR F.CTL_INJ_STAT_RUN _ (by decide) (by decide)

theorem clearError_mag {f : Fld} (hf : f.addr ≠ 0x1326) : (s.setFlag F.CTL_INJ_STAT_INJERR false).mag f = s.mag f := by
  rw [State.mag, State.mag, State.setFlag, s.fldI_setFld_ne F.CTL_INJ_STAT_INJERR f _ hf]

/-- A word with GO and without STOP, where GO is taken. -/
theorem injected_starts (hgo : bitOf w.toNat 0 = true) (hstop : bitOf w.toNat 1 = false) (h : s.CanInject) :
    (injected s w).flag F.CTL_INJ_STAT_RUN = true ∧ (injected s w).fld F.CTL_INJ_STAT_M = 0 ∧
    (injected s w).ctl.inj.amp = min (s.mag F.CTL_INJ_AMP_AMP) (s.mag F.CTL_INJ_AMAX_AMAX) ∧
    (injected s w).ctl.inj.cfg = s.reg F.CTL_INJ_CFG_w.addr := by
  obtain ⟨hrun, hm, hamp, hcfg⟩ := (s.setFlag F.CTL_INJ_STAT_INJERR false).injGo_starts (s.canInject_clearError.2 h)
  rw [injected_flag s (by decide), injected_fld s (by decide), injected_ctl, State.writeInjCtl_go _ hgo, if_neg (by simp [hstop])]
  rw [clearError_mag s (by decide), clearError_mag s (by decide)] at hamp
  exact ⟨hrun, hm, hamp, hcfg.trans (s.reg_setFld_ne F.CTL_INJ_STAT_INJERR _ (by decide))⟩

/-- A word with STOP ends what runs, and what its own GO starts. -/
theorem injected_stops (hstop : bitOf w.toNat 1 = true) : (injected s w).flag F.CTL_INJ_STAT_RUN = false := by
  rw [injected_flag s (by decide), State.writeInjCtl_stop _ hstop]
  exact State.injStop_run _

/-- A word with STOP where an injection runs, or where its own GO starts one. -/
theorem injected_done (hstop : bitOf w.toNat 1 = true)
    (h : s.flag F.CTL_INJ_STAT_RUN = true ∨ (bitOf w.toNat 0 = true ∧ s.CanInject)) :
    (injected s w).flag F.CTL_INJ_STAT_DONE = true := by
  have hclear := clearError_run s
  rw [injected_flag s (by decide), State.writeInjCtl_stop _ hstop]
  refine State.injStop_done _ ?_
  rcases h with hrun | ⟨hgo, hcan⟩
  case inl =>
    have hrefused : ¬ (s.setFlag F.CTL_INJ_STAT_INJERR false).CanInject := fun hcan => by
      simp [hcan.idle, hrun] at hclear
    obtain ⟨-, -, hkept⟩ := State.injGo_refuses _ hrefused
    split
    · rw [hkept, hclear, hrun]
    · rw [hclear, hrun]
  case inr =>
    obtain ⟨hruns, -⟩ := (s.setFlag F.CTL_INJ_STAT_INJERR false).injGo_starts (s.canInject_clearError.2 hcan)
    rw [if_pos hgo, hruns]

/-- A word with GO where GO is refused. -/
theorem injected_refused (hgo : bitOf w.toNat 0 = true) (h : ¬ s.CanInject) :
    (injected s w).flag F.CTL_INJ_STAT_INJERR = true ∧ (injected s w).ctl = s.ctl ∧
    (bitOf w.toNat 1 = false → (injected s w).flag F.CTL_INJ_STAT_RUN = s.flag F.CTL_INJ_STAT_RUN) := by
  obtain ⟨herr, hctl, hrun⟩ := (s.setFlag F.CTL_INJ_STAT_INJERR false).injGo_refuses fun g => h (s.canInject_clearError.1 g)
  have hwrite := (s.setFlag F.CTL_INJ_STAT_INJERR false).writeInjCtl_go hgo
  refine ⟨?_, ?_, fun hstop => ?_⟩
  · have herr' : ((s.setFlag F.CTL_INJ_STAT_INJERR false).writeInjCtl w).flag F.CTL_INJ_STAT_INJERR = true := by
      rw [hwrite]
      split
      · rw [State.injStop_error, herr]
      · exact herr
    rw [injected, s.probe_failed (fun u => u.writeInjCtl w) herr']
    exact herr'
  · rw [injected_ctl, hwrite]
    split
    · exact (State.injStop_ctl _).trans hctl
    · exact hctl
  · rw [injected_flag s (by decide), hwrite, if_neg (by simp [hstop]), hrun, clearError_run]

/-- A word with STOP and without GO keeps what the engine holds, and where nothing runs, every register. -/
theorem injected_stop_only (hgo : bitOf w.toNat 0 = false) (hstop : bitOf w.toNat 1 = true) :
    (injected s w).ctl = s.ctl ∧ (s.flag F.CTL_INJ_STAT_RUN = false → ∀ i, (injected s w).reg i = s.reg i) := by
  have hwrite : (s.setFlag F.CTL_INJ_STAT_INJERR false).writeInjCtl w = (s.setFlag F.CTL_INJ_STAT_INJERR false).injStop := by
    rw [State.writeInjCtl_stop _ hstop, if_neg (by simp [hgo])]
  refine ⟨?_, fun hidle i => ?_⟩
  · rw [injected_ctl, hwrite]
    exact State.injStop_ctl _
  · exact s.probe_idle_reg (f := F.CTL_INJ_STAT_INJERR) (fun u => u.writeInjCtl w) (by decide) (by decide)
      (hwrite.trans (State.injStop_idle _ ((clearError_run s).trans hidle))) i

end

/-! ### The obligation -/

/-- Settles O45: each command writes its control word with its own bit set (`bitOf_bitAs`); the bits act in turn
(`State.writeTraceCtl`, `State.writeInjCtl`), and only a GO that is not taken sets INJERR. -/
theorem traceAndInjectionControls : Obligations.TraceAndInjectionControls := by
  unfold Obligations.TraceAndInjectionControls
  intro s v hrun
  have hown (i : Nat) (hi : i < 40) : bitOf (bitAs v i true).toNat i = true := (bitOf_bitAs v true i hi).trans (if_pos rfl)
  have hbit (i j : Nat) (hi : i < 40) (hne : j ≠ i) : bitOf (bitAs v i true).toNat j = bitOf v.toNat j :=
    (bitOf_bitAs v true j hi).trans (if_neg hne)
  refine ⟨fun b => ⟨_, exec_traceArm s b v hrun, ?arm⟩, fun b => ⟨_, exec_traceForce s b v hrun, ?force⟩,
    fun b => ⟨_, exec_traceStop s b v hrun, ?stop⟩, fun can hcan => ⟨_, exec_injectionGo s v hrun, ?go⟩,
    ⟨_, exec_injectionStop s v hrun, ?halt⟩⟩
  case arm =>
    have hstate := s.writeTraceCtl_state b (bitAs v 0 true)
    obtain ⟨hwptr, hvalid, htrig, hpend⟩ := s.writeTraceCtl_arm b _ (hown 0 (by decide)) _ rfl
    rw [hown 0 (by decide), hbit 0 2 (by decide) (by decide), if_pos rfl] at hstate
    rw [hbit 0 1 (by decide) (by decide), hbit 0 2 (by decide) (by decide)] at hpend
    exact ⟨hwptr, hvalid, htrig, (s.writeTraceCtl_bufferOnly b _).mem, hstate, hpend⟩
  case force =>
    have hstate := s.writeTraceCtl_state b (bitAs v 1 true)
    have hpend := s.writeTraceCtl_pend b _ (hown 1 (by decide))
    have halone := s.writeTraceCtl_force b _ (hown 1 (by decide))
    rw [hbit 1 0 (by decide) (by decide), hbit 1 2 (by decide) (by decide)] at hstate hpend halone
    refine ⟨(s.writeTraceCtl_bufferOnly b _).mem, hstate, hpend, fun hstop harm => ?_⟩
    rw [halone hstop harm]
    obtain ⟨hregs, hqueues⟩ := s.traceForce_leaves b
    exact ⟨hregs, hqueues, fun hst => congrArg _ (s.traceForce_unarmed b hst)⟩
  case stop =>
    have hstate := s.writeTraceCtl_state b (bitAs v 2 true)
    have halone := s.writeTraceCtl_stop b _ (hown 2 (by decide))
    have honly := s.writeTraceCtl_bufferOnly b (bitAs v 2 true)
    rw [hown 2 (by decide), if_pos rfl] at hstate
    rw [hbit 2 0 (by decide) (by decide), hbit 2 1 (by decide) (by decide)] at halone
    refine ⟨hstate, honly.mem, fun harm hforce hdone => ?_, honly.trc⟩
    rw [halone harm hforce, s.traceStop_done b hdone]
  case go =>
    have honly := injected_only s (w := bitAs v 0 true)
    have hgo := hown 0 (by decide)
    have hstop := hbit 0 1 (by decide) (by decide)
    refine ⟨honly.mem, honly.queues, honly.2, fun h hv => ?_, fun h hv => ?_, fun h => ?_⟩
    · obtain ⟨hruns, hm, hamp, hcfg⟩ := injected_starts s hgo (hstop.trans hv) (hcan.1 h)
      exact ⟨hruns, hm, hamp, hcfg, honly.stages⟩
    · exact ⟨injected_stops s (hstop.trans hv), injected_done s (hstop.trans hv) (.inr ⟨hgo, hcan.1 h⟩)⟩
    · obtain ⟨herr, hctl, hkept⟩ := injected_refused s hgo fun g => h (hcan.2 g)
      exact ⟨herr, hctl, fun hv => hkept (hstop.trans hv)⟩
  case halt =>
    have honly := injected_only s (w := bitAs v 1 true)
    have hstop := hown 1 (by decide)
    refine ⟨injected_stops s hstop, honly.mem, honly.queues, fun hruns => injected_done s hstop (.inl hruns), honly.2, fun hv => ?_⟩
    exact injected_stop_only s ((hbit 1 0 (by decide) (by decide)).trans hv) hstop

end Sys2Proof.Proofs
end
section
/-! PROOF. What the ledger's commands leave of the flash, the rings and the words they read (R261, R267, R330, R343, R361). -/

namespace Sys2Proof.Machine

open Sys2Proof

/-! ### The flash -/

/-- Entries dropped by their key read as unlisted ones. -/
theorem spGet_filter_key {α : Type} (d : Nat → α) (m : List (Nat × α)) (p : Nat → Bool) (k : Nat) :
    spGet d (m.filter (fun x => p x.1)) k = if p k then spGet d m k else d k := by
  induction m with
  | nil => exact (ite_self _).symm
  | cons x m ih =>
    obtain ⟨j, v⟩ := x
    by_cases hjk : j = k
    · subst hjk
      cases hp : p j <;> simp [hp, spGet] at ih ⊢
      exact ih
    · cases hp : p j <;> simp [hp, spGet, hjk, ih]

theorem State.flashByte_flashErase (s : State) (a i : Nat) :
    (s.flashErase a).flashByte i = if i / 4096 = a / 4096 then 0xFF#8 else s.flashByte i := by
  refine (spGet_filter_key _ s.flash (fun k => k / 4096 != a / 4096) i).trans ?_
  by_cases h : i / 4096 = a / 4096 <;> simp [h, State.flashByte]

/-- The last byte of a program goes to the address behind the others. -/
theorem State.flashByte_flashProgram_concat (s : State) (a : Nat) (bs : List Byte) (b : Byte) (i : Nat) :
    (s.flashProgram a (bs ++ [b])).flashByte i =
      if i = a + bs.length then b &&& (s.flashProgram a bs).flashByte (a + bs.length) else (s.flashProgram a bs).flashByte i := by
  have hzip : (bs ++ [b]).zip (List.range (bs ++ [b]).length) = bs.zip (List.range bs.length) ++ [(b, bs.length)] := by
    rw [List.length_append, List.length_singleton, List.range_succ, List.zip_append List.length_range.symm]
    rfl
  unfold State.flashProgram State.flashByte
  rw [hzip, List.foldl_append]
  exact spGet_spSet _ _ _ _ _

theorem State.flashByte_flashProgram_outside (s : State) (a : Nat) (bs : List Byte) {i : Nat} (h : i < a ∨ a + bs.length ≤ i) :
    (s.flashProgram a bs).flashByte i = s.flashByte i := by
  induction bs using List.reverseRecOn with
  | nil => rfl
  | append_singleton bs b ih =>
    rw [List.length_append, List.length_singleton] at h
    rw [s.flashByte_flashProgram_concat, if_neg (by omega), ih (by omega)]

/-- A byte programmed is ANDed into the old one. -/
theorem State.flashByte_flashProgram (s : State) (a : Nat) (bs : List Byte) {i : Nat} {b : Byte} (h : bs[i]? = some b) :
    (s.flashProgram a bs).flashByte (a + i) = b &&& s.flashByte (a + i) := by
  induction bs using List.reverseRecOn with
  | nil => simp at h
  | append_singleton bs c ih =>
    rw [s.flashByte_flashProgram_concat]
    by_cases hi : i = bs.length
    · subst hi
      rw [List.getElem?_concat_length, Option.some.injEq] at h
      rw [if_pos rfl, h, s.flashByte_flashProgram_outside a bs (.inr (Nat.le_refl _))]
    · rw [if_neg (by omega)]
      obtain ⟨hlen, -⟩ := List.getElem?_eq_some_iff.1 h
      rw [List.length_append, List.length_singleton] at hlen
      exact ih (by rwa [List.getElem?_append_left (by omega)] at h)

/-- A program that is not finished stays within the bytes it names. -/
theorem State.flashByte_flashTornProgram_outside (s : State) (a : Nat) (bs : List Byte) {i : Nat}
    (h : i < a ∨ a + bs.length ≤ i) : (s.flashTornProgram a bs).flashByte i = s.flashByte i := by
  unfold State.flashTornProgram
  dsimp only
  refine State.flashByte_flashProgram_outside _ _ _ ?_
  rw [List.length_map, List.length_zip]
  omega

theorem State.flashRead_of_flash {s t : State} (h : t.flash = s.flash) (a n : Nat) : t.flashRead a n = s.flashRead a n := by
  simp only [State.flashRead, State.flashByte, h]

theorem State.slotAddr_of_reg {s t : State} (h : ∀ i, 0x1800 ≤ i → i < 0x1808 → t.reg i = s.reg i) (k : Nat) : t.slotAddr k = s.slotAddr k := by
  have hfld {f : Fld} (hlo : 0x1800 ≤ f.addr) (hhi : f.addr < 0x1808) : t.fld f = s.fld f := State.fld_of_reg f (h _ hlo hhi)
  rw [State.slotAddr, State.slotAddr, hfld (f := F.LDG_SLOTA_ADDR) (by decide) (by decide),
    hfld (f := F.LDG_SLOTB_ADDR) (by decide) (by decide)]

/-! ### Rings -/

theorem State.release_all (s : State) (q : Nat) : ((s.release q (s.qCount q)).queue q).recs = [] := by
  rw [State.queue_release, if_pos rfl]
  exact List.drop_length

theorem State.ringDrop_queue_ne (s : State) {q p : Nat} (ws : List Word) (cs : List Nat) (h : p ≠ q) :
    (s.ringDrop q ws cs).queue p = s.queue p := by
  unfold State.ringDrop
  split
  · exact s.queue_pushItem_ne ws cs h
  · rfl

/-- Of the queues a report writes only to the error ring Q59. -/
theorem State.report_queue_ne (s : State) (src inst : Nat) {p : Nat} (h : p ≠ 59) : (s.report src inst).queue p = s.queue p := by
  unfold State.report State.reportAt
  dsimp only
  split
  · rfl
  · split
    · split <;> exact State.ringDrop_queue_ne _ _ _ h
    · rfl

/-! ### Words that a read checks -/

/-- From `s` to `t` nothing changes but registers at addresses of `A`, the queues, the released records, the free values, what
fault supervision holds beside its registers, and what the node remembers of its core clock. -/
def Found (A : Nat → Prop) (s t : State) : Prop :=
  (∃ g c x y n f, t = { s with regs := g, core := c, queues := x, spent := y, free := n, flt := f }) ∧
    ∀ i, ¬ A i → t.reg i = s.reg i

section
variable {A B : Nat → Prop} {s t u : State}

theorem Found.refl (A : Nat → Prop) (s : State) : Found A s s := ⟨⟨_, _, _, _, _, _, rfl⟩, fun _ _ => rfl⟩

theorem Found.trans (h : Found A s t) (g : Found A t u) : Found A s u := by
  obtain ⟨⟨_, _, _, _, _, _, rfl⟩, hreg⟩ := h
  obtain ⟨⟨r, c, x, y, n, f, e⟩, hreg'⟩ := g
  exact ⟨⟨r, c, x, y, n, f, e⟩, fun i hi => (hreg' i hi).trans (hreg i hi)⟩

theorem Found.mono (h : Found A s t) (hAB : ∀ i, A i → B i) : Found B s t := ⟨h.1, fun i hi => h.2 i fun hA => hi (hAB i hA)⟩

theorem Found.reported {L : List Nat} (h : Reported L s t) (hL : ∀ i ∈ L, A i) : Found A s t := by
  obtain ⟨⟨g, x, y, n, f, rfl⟩, hreg⟩ := h
  exact ⟨⟨g, _, x, y, n, f, rfl⟩, fun i hi => hreg i fun hmem => hi (hL i hmem)⟩

theorem Found.setReg (s : State) {a : Nat} (v : Word) (ha : A a) : Found A s (s.setReg a v) :=
  ⟨⟨_, _, _, _, _, _, rfl⟩, fun i hi => (s.reg_setReg a i v).trans (if_neg fun e : i = a => hi (e ▸ ha))⟩

theorem Found.setFld (s : State) {f : Fld} (v : Nat) (ha : A f.addr) : Found A s (s.setFld f v) := .setReg s _ ha

theorem Found.raise (s : State) {f : Fld} (ha : A f.addr) : Found A s (s.raise f) :=
  ⟨⟨_, _, _, _, _, _, rfl⟩, fun _ hi => s.raise_reg_ne f fun e => hi (e ▸ ha)⟩

theorem Found.foldl {α β : Type} {f : β × State → α → β × State} (h : ∀ b x, Found A b.2 (f b x).2) (l : List α) (b : β × State) :
    Found A b.2 (l.foldl f b).2 := by
  induction l generalizing b with
  | nil => exact .refl A b.2
  | cons x l ih => exact (h b x).trans (ih (f b x))

end

/-- The registers in which an SRAM word that fails its check shows: the counts of chapter 16, MIN_LASTERR and MIN_FLAGS, and what a
report of it changes. -/
def ParityReg (i : Nat) : Prop := i ∈ [0x1783, 0x1784, 0x1785, 0x1786] ++ reportRegs srcParity

theorem parityReg_count {i : Nat} (h : i ∈ [0x1783, 0x1784, 0x1785, 0x1786]) : ParityReg i := List.mem_append_left _ h

theorem parityReg_low {i : Nat} (h : ParityReg i) : i < 0x1800 := by
  simp only [ParityReg, reportRegs, srcParity, F.FSV_SRCs_STAT_w, F.EVS_Qn_ERR_w, List.mem_append, List.mem_cons, List.not_mem_nil,
    or_false] at h
  omega

theorem State.parityError_found (s : State) (snap : Bool) (mask req addr : Nat) :
    Found ParityReg s (s.parityError snap mask req addr) := by
  have hcount (v : State) (f : Fld) (hf : f.addr = 0x1783) : Found ParityReg v (v.inc f) := .setFld v _ (parityReg_count (by rw [hf]; decide))
  have hlast (v : State) (f : Fld) (x : Nat) (hf : f.addr = 0x1785) : Found ParityReg v (v.setFld f x) :=
    .setFld v _ (parityReg_count (by rw [hf]; decide))
  have hcounted : Found ParityReg s (if req = reqPatrol then s.inc F.MIN_ERRCNT_PATERR else s.inc F.MIN_ERRCNT_PARERR) := by
    split
    · exact hcount s _ rfl
    · exact hcount s _ rfl
  have hrec (v : State) (w3 w4 w5 : Nat) : Found ParityReg v (v.errRec 5 w3 w4 w5) :=
    .reported (v.ringDrop_reported (A := reportRegs srcParity) 59 _ _ (List.mem_cons_of_mem _ (List.mem_cons_self ..)))
      fun i hi => List.mem_append_right _ hi
  have hreport (v : State) : Found ParityReg v (v.report srcParity 0) :=
    .reported (v.reportAt_reported srcParity 0 _) fun i hi => List.mem_append_right _ hi
  unfold State.parityError
  exact ((((((((hcounted.trans (.raise _ (parityReg_count (by decide)))).trans (.setReg _ 0 (parityReg_count (by decide)))).trans (hlast _ _ _ rfl)).trans
    (hlast _ _ _ rfl)).trans (hlast _ _ _ rfl)).trans (hlast _ _ _ rfl)).trans (hrec _ _ _ _))).trans (hreport _)

theorem State.checkRead_found (s : State) (c req addr : Nat) : Found ParityReg s (s.checkRead c req addr).2.2 := by
  unfold State.checkRead
  split
  · exact .setFld s _ (parityReg_count (by decide))
  · split
    · exact s.parityError_found false _ req addr
    · exact .refl _ s

theorem State.readRecWords_found (s : State) (q req : Nat) (r : Rec) : Found ParityReg s (s.readRecWords q req r).2 := by
  have hqueue (v : State) (x : QueueSt) : Found ParityReg v (v.setQueue q x) := ⟨⟨_, _, _, _, _, _, rfl⟩, fun _ _ => rfl⟩
  unfold State.readRecWords
  split
  · exact .refl _ s
  · exact (((s.checkRead_found _ _ _).trans (State.checkRead_found _ _ _ _)).trans (State.checkRead_found _ _ _ _)).trans
      (hqueue _ _)

theorem State.readItem_found (s : State) (q req : Nat) (rs : List Rec) : Found ParityReg s (s.readItem q req rs).2 := by
  unfold State.readItem
  refine Found.foldl ?_ rs ([], s)
  exact fun b r => b.2.readRecWords_found q req r

/-- What the port reads of the ring Q60 leaves the ledger's registers. -/
theorem State.unstage_found (s : State) : Found (· < 0x1800) s s.unstage.2 := by
  have hitem (v : State) (rs : List Rec) : Found (· < 0x1800) v (v.readItem 60 reqMover rs).2 :=
    (v.readItem_found 60 reqMover rs).mono fun _ => parityReg_low
  have hpoison (v : State) (n : Nat) (hn : n < 8) : Found (· < 0x1800) v ((v.inc (F.BMV_Dn_CNT_POISON n)).inc F.BMV_STAT_POISON) :=
    .trans (.setFld v _ (by simp only [F.BMV_Dn_CNT_POISON]; omega)) (.setFld _ _ (by decide))
  have hch (v : State) : v.fld F.LDG_CFG_DCH < 8 := v.fld_lt F.LDG_CFG_DCH
  suffices h : ∀ (l : List (List Rec)) (a : List Byte × Bool × State), Found (· < 0x1800) a.2.2 (l.foldl _ a).2.2 from
    h (s.items 60) ([], false, s)
  intro l
  induction l with
  | nil => exact fun a => .refl _ a.2.2
  | cons rs l ih =>
    intro a
    refine .trans ?_ (ih _)
    dsimp only
    split
    · exact .refl _ _
    · split
      · exact (hitem _ _).trans (hpoison _ _ (hch _))
      · exact hitem _ _

end Sys2Proof.Machine
end
section
/-! PROOF. The operations of a commit (R260, R263): its stages, triggers, the start of a commit, and its ends. -/

namespace Sys2Proof.Machine

open Sys2Proof

/-! ### Stages and starts -/

/-- A field other than STEP and PEND, which show the stage of a commit and the triggers that wait. -/
def Fld.apart (f : Fld) : Bool := f.addr != 0x1801 || (2 < f.lo && (f.hi < 5 || 5 < f.lo))

theorem State.setLed_setLed (s : State) (l m : LedSt) : (s.setLed l).setLed m = s.setLed m := rfl

/-- A stage entered with the ledger's own part as `l` leaves the rest. -/
theorem State.setLed_ledStage_keeps (s : State) (l : LedSt) (k : Nat) : ((s.setLed l).ledStage k).mem = s.mem ∧
    ((s.setLed l).ledStage k).flash = s.flash ∧ ((s.setLed l).ledStage k).queues = s.queues ∧ ((s.setLed l).ledStage k).clk = s.clk :=
  ⟨rfl, rfl, rfl, rfl⟩

theorem State.ledStage_reg_ne (s : State) (k : Nat) {i : Nat} (h : i ≠ 0x1801) : (s.ledStage k).reg i = s.reg i :=
  s.reg_setFld_ne F.LDG_STAT_STEP _ h

theorem State.ledStage_fld (s : State) (k : Nat) {f : Fld} (h : f.apart = true) : (s.ledStage k).fld f = s.fld f := by
  simp only [Fld.apart, Bool.or_eq_true, bne_iff_ne, Bool.and_eq_true, decide_eq_true_eq] at h
  obtain hne | ⟨hlo, -⟩ := h
  · exact State.fld_of_reg f (s.ledStage_reg_ne k hne)
  · exact s.fld_setFld_disj F.LDG_STAT_STEP f _ rfl (.inr hlo)

/-- STEP in the stages of the erase, of the signature and of the read-back (Table 11-6). -/
theorem State.ledStage_step (s : State) : (s.ledStage 2).fld F.LDG_STAT_STEP = 2 ∧ (s.ledStage 4).fld F.LDG_STAT_STEP = 3 ∧
    (s.ledStage 7).fld F.LDG_STAT_STEP = 5 :=
  ⟨s.fld_setFld_same F.LDG_STAT_STEP 2 rfl, s.fld_setFld_same F.LDG_STAT_STEP 3 rfl, s.fld_setFld_same F.LDG_STAT_STEP 5 rfl⟩

theorem State.setPend_fld (s : State) (b : Bool) {f : Fld} (h : f.apart = true) : (s.setFlag F.LDG_STAT_PEND b).fld f = s.fld f := by
  simp only [Fld.apart, Bool.or_eq_true, bne_iff_ne, Bool.and_eq_true, decide_eq_true_eq] at h
  obtain hne | ⟨-, hd⟩ := h
  · exact s.fld_setFld_ne F.LDG_STAT_PEND f _ hne
  · exact s.fld_setFld_disj F.LDG_STAT_PEND f _ rfl hd

theorem State.startCommit_same (s : State) : ∃ r l, s.startCommit = { s with regs := r, led := l } := ⟨_, _, rfl⟩

theorem State.startCommit_fld (s : State) {f : Fld} (h : f.apart = true) : s.startCommit.fld f = s.fld f :=
  (State.setPend_fld _ _ h).trans (State.ledStage_fld _ 1 h)

theorem State.startCommit_pend (s : State) : s.startCommit.flag F.LDG_STAT_PEND = s.led.blocked :=
  State.flag_setFlag_same _ F.LDG_STAT_PEND _ rfl

/-! ### Triggers (R260) -/

/-- A trigger is noted. -/
def State.noteTrigger (s : State) (r : Nat) : State := s.setLed { s.led with wait := s.led.wait ||| r, pend := true }

theorem State.trigger_starts (s : State) (r : Nat) (hstage : s.led.stage = 0) (hmode : s.modeNow ≠ modeBoot) (hgated : s.gated = false) :
    s.trigger r = (s.noteTrigger r).startCommit := by
  have hnow : (s.noteTrigger r).modeNow ≠ modeBoot := hmode
  have hcond : ((s.noteTrigger r).led.stage = 0 && (s.noteTrigger r).modeNow ≠ modeBoot && !(s.noteTrigger r).gated) = true := by
    rw [decide_eq_true hnow, show (s.noteTrigger r).led.stage = 0 from hstage, show (s.noteTrigger r).gated = false from hgated]
    rfl
  exact if_pos hcond

theorem State.trigger_waits (s : State) (r : Nat) (h : s.led.stage ≠ 0 ∨ s.modeNow = modeBoot ∨ s.gated = true) :
    s.trigger r = (s.noteTrigger r).setFlag F.LDG_STAT_PEND true := by
  refine if_neg ?_
  simp only [Bool.and_eq_true, decide_eq_true_eq, Bool.not_eq_true']
  rintro ⟨⟨hstage, hmode⟩, hgated⟩
  obtain h | h | h := h
  · exact h hstage
  · exact hmode h
  · exact absurd (h.symm.trans hgated) (by decide)

theorem State.trigger_same (s : State) (r : Nat) :
    ∃ g l, s.trigger r = { s with regs := g, led := l } ∧ l.seq = s.led.seq ∧ l.kept = s.led.kept ∧ l.capAt = s.led.capAt := by
  unfold State.trigger
  dsimp only
  split
  · exact ⟨_, _, rfl, rfl, rfl, rfl⟩
  · exact ⟨_, _, rfl, rfl, rfl, rfl⟩

/-! ### After a commit -/

/-- A commit has ended: the one that waits starts, or else the port takes up its next job. -/
def State.startNext (s : State) : State := if s.led.pend then s.startCommit else s.nextJob

/-- From `s` to `t` only registers, the ledger and the port change, and of the registers only STEP and PEND. -/
structure Ends (s t : State) : Prop where
  same : ∃ r l x, t = { s with regs := r, led := l, ser := x }
  fld : ∀ f : Fld, f.apart = true → t.fld f = s.fld f
  last : t.led.last = s.led.last
  prev : t.led.prev = s.led.prev
  kept : t.led.kept = s.led.kept

theorem State.startNext_ends (s : State) : Ends s s.startNext := by
  unfold State.startNext
  split
  · exact ⟨⟨_, _, _, rfl⟩, fun f hf => s.startCommit_fld hf, rfl, rfl, rfl⟩
  · obtain ⟨x, e⟩ := s.nextJob_same
    rw [e]
    exact ⟨⟨_, _, x, rfl⟩, fun _ _ => rfl, rfl, rfl, rfl⟩

theorem State.startNext_stage (s : State) (h : s.led.stage = 0) : s.startNext.led.stage = if s.led.pend then 1 else 0 := by
  unfold State.startNext
  split
  · rfl
  · obtain ⟨x, e⟩ := s.nextJob_same
    rw [e]
    exact h

theorem State.startNext_cur (s : State) (h : s.led.pend = true) : s.startNext.led.cur = s.led.wait := by rw [State.startNext, if_pos h]; rfl

/-- PEND reads 1 while triggers of failed commits are kept. -/
theorem State.startNext_pend (s : State) (hblocked : s.led.blocked = true) (hpend : s.flag F.LDG_STAT_PEND = true) :
    s.startNext.flag F.LDG_STAT_PEND = true := by
  unfold State.startNext
  split
  · exact s.startCommit_pend.trans hblocked
  · obtain ⟨x, e⟩ := s.nextJob_same
    rw [e]
    exact hpend

/-! ### A commit is published (R261) -/

/-- The record is the last one, and nothing runs. -/
def State.published (s : State) : State :=
  ((((s.setFld F.LDG_SEQ_SEQ s.led.recSeq).setFld F.LDG_STAT_LAST s.led.slot).inc F.LDG_STAT_COMMITS).setLed { s.led with
    prev := s.led.last, last := s.led.body, first := none, genesis := false, restart := false, retry := false
    hadStale := false, hadRest := false, hadZones := [] }).ledStage 0

theorem State.publish_eq (s : State) : s.publish = s.published.startNext := rfl

theorem State.published_facts (s : State) : s.published.fld F.LDG_SEQ_SEQ = s.led.recSeq % 2 ^ 32 ∧
    s.published.fld F.LDG_STAT_LAST = s.led.slot % 2 ∧
    s.published.fld F.LDG_STAT_COMMITS = satAdd 16 (s.fld F.LDG_STAT_COMMITS) 1 := by
  have hstage (u : State) (l : LedSt) {f : Fld} (hf : f.apart = true) : ((u.setLed l).ledStage 0).fld f = u.fld f :=
    State.ledStage_fld _ 0 hf
  unfold State.published
  refine ⟨?_, ?_, ?_⟩
  · rw [hstage _ _ rfl, State.inc, State.incBy, State.fld_setFld_ne _ _ _ _ (by decide), State.fld_setFld_ne _ _ _ _ (by decide),
      State.fld_setFld_same _ _ _ rfl]
    rfl
  · rw [hstage _ _ rfl, State.inc, State.incBy, State.fld_setFld_disj _ _ _ _ rfl (by decide), State.fld_setFld_same _ _ _ rfl]
    rfl
  · rw [hstage _ _ rfl, State.fld_inc_same _ _ rfl, State.fld_setFld_disj _ _ _ _ rfl (by decide),
      State.fld_setFld_ne _ _ _ _ (by decide)]
    rfl

/-! ### A commit fails (R263) -/

/-- What the record of a failed commit would have told of stays to be told (R258). -/
def State.handBack (s : State) : State :=
  s.setLed { s.led with
    stale := s.led.stale || s.led.hadStale, restored := s.led.restored || s.led.hadRest
    zrest := s.led.zrest ++ s.led.hadZones, hadStale := false, hadRest := false, hadZones := [] }

/-- The second failure: it is shown, counted and reported, and its triggers are kept. -/
def State.giveUp (s : State) : State :=
  let u := ((s.handBack.raise F.LDG_STAT_CFAIL).inc F.LDG_STAT_FAILS).report srcCommit 0
  ((u.setLed { u.led with kept := u.led.kept ||| u.led.cur, blocked := true, retry := false }).ledStage 0).setFlag F.LDG_STAT_PEND true

/-- The first failure: the commit starts again from the erase. -/
def State.tryAgain (s : State) : State := (s.handBack.setLed { s.handBack.led with retry := true }).beginErase

theorem State.commitFails_again (s : State) (h : s.led.retry = false) : s.commitFails = s.tryAgain := if_neg (ne_true_of_eq_false h)

theorem State.commitFails_givesUp (s : State) (h : s.led.retry = true) : s.commitFails = s.giveUp.startNext := if_pos h

/-- From `s` to `t` the flash, the clock, the ring Q60 and the record published last stay. -/
structure Unpublished (s t : State) : Prop where
  flash : t.flash = s.flash
  clk : t.clk = s.clk
  ring : t.queue 60 = s.queue 60
  last : t.led.last = s.led.last
  fld : ∀ f ∈ [F.LDG_SEQ_SEQ, F.LDG_STAT_LAST], t.fld f = s.fld f

theorem Unpublished.trans {s t u : State} (h : Unpublished s t) (g : Unpublished t u) : Unpublished s u :=
  ⟨g.flash.trans h.flash, g.clk.trans h.clk, g.ring.trans h.ring, g.last.trans h.last, fun f hf => (g.fld f hf).trans (h.fld f hf)⟩

theorem apart_of_published : ∀ f ∈ [F.LDG_SEQ_SEQ, F.LDG_STAT_LAST], f.apart = true := by decide

theorem Ends.unpublished {s t : State} (h : Ends s t) : Unpublished s t := by
  obtain ⟨⟨r, l, x, rfl⟩, hfld, hlast, -, -⟩ := h
  exact ⟨rfl, rfl, rfl, hlast, fun f hf => hfld f (apart_of_published f hf)⟩

theorem State.tryAgain_eq (s : State) : ∃ l, s.tryAgain = (s.setLed l).ledStage 2 ∧ l.last = s.led.last ∧ l.retry = true ∧
    l.slot = s.led.slot := by
  rw [State.tryAgain, State.handBack, State.beginErase, State.setLed_setLed, State.setLed_setLed]
  exact ⟨_, rfl, rfl, rfl, rfl⟩

theorem State.tryAgain_unpublished (s : State) : Unpublished s s.tryAgain := by
  obtain ⟨l, e, hlast, -, -⟩ := s.tryAgain_eq
  obtain ⟨-, hflash, hqueues, hclk⟩ := s.setLed_ledStage_keeps l 2
  rw [e]
  exact ⟨hflash, hclk, congrArg (spGet _ · 60) hqueues, hlast, fun f hf => (State.ledStage_fld _ 2 (apart_of_published f hf)).trans
    (s.setLed_fld l f)⟩

/-- What a report of the ledger leaves: its registers, and all that it holds beside them. -/
theorem State.report_commit (s : State) : (∃ g x y n f, s.report srcCommit 0 = { s with regs := g, queues := x, spent := y, free := n, flt := f }) ∧
    ∀ i, 0x800 ≤ i → (s.report srcCommit 0).reg i = s.reg i := by
  obtain ⟨hsame, hreg⟩ := s.reportAt_reported srcCommit 0 (faultAddr srcCommit 0)
  refine ⟨hsame, fun i hi => hreg i ?_⟩
  simp only [reportRegs, srcCommit, F.FSV_SRCs_STAT_w, F.EVS_Qn_ERR_w, List.mem_cons, List.not_mem_nil, or_false]
  omega

theorem State.giveUp_led (s : State) : s.giveUp.led = { s.handBack.led with
    kept := s.led.kept ||| s.led.cur, blocked := true, retry := false, stage := 0, at_ := s.clk.cc } := by
  obtain ⟨⟨g, x, y, n, f, e⟩, -⟩ := ((s.handBack.raise F.LDG_STAT_CFAIL).inc F.LDG_STAT_FAILS).report_commit
  unfold State.giveUp
  rw [e]
  rfl

/-- The fields of LDG_STAT and LDG_SEQ before the failure is reported. -/
theorem State.giveUp_fld (s : State) {f : Fld} (hf : f.apart = true) (ha : 0x800 ≤ f.addr) :
    s.giveUp.fld f = ((s.handBack.raise F.LDG_STAT_CFAIL).inc F.LDG_STAT_FAILS).fld f :=
  ((State.setPend_fld _ _ hf).trans (State.ledStage_fld _ 0 hf)).trans
    (State.fld_of_reg f ((((s.handBack.raise F.LDG_STAT_CFAIL).inc F.LDG_STAT_FAILS).report_commit).2 _ ha))

theorem State.giveUp_shows (s : State) : s.giveUp.flag F.LDG_STAT_CFAIL = true ∧ s.giveUp.flag F.LDG_STAT_PEND = true ∧
    s.giveUp.fld F.LDG_STAT_FAILS = satAdd 8 (s.fld F.LDG_STAT_FAILS) 1 := by
  have hraised {f : Fld} (hf : f.hi < 4 ∨ 4 < f.lo) : (s.handBack.raise F.LDG_STAT_CFAIL).fld f = s.fld f :=
    s.handBack.raise_fld_disj F.LDG_STAT_CFAIL f rfl hf
  refine ⟨?_, State.flag_setFlag_same _ F.LDG_STAT_PEND _ rfl, ?_⟩
  · refine (State.flag_of_fld _ (s.giveUp_fld rfl (by decide))).trans ?_
    exact (State.flag_setFld_disj _ F.LDG_STAT_FAILS F.LDG_STAT_CFAIL _ rfl (.inl (by decide))).trans
      (s.handBack.flag_setFlag_same F.LDG_STAT_CFAIL true rfl)
  · rw [s.giveUp_fld rfl (by decide), State.fld_inc_same _ _ rfl, hraised (.inr (by decide))]
    rfl

theorem State.giveUp_unpublished (s : State) : Unpublished s s.giveUp := by
  have hshown {f : Fld} (hf : f.apart = true) (ha : 0x800 ≤ f.addr)
      (hd : f.addr ≠ 0x1801 ∨ (4 < f.lo ∧ f.hi < 16)) : s.giveUp.fld f = s.fld f := by
    rw [s.giveUp_fld hf ha, State.inc, State.incBy]
    obtain hne | ⟨hlo, hhi⟩ := hd
    · exact (State.fld_setFld_ne _ _ _ _ hne).trans (State.fld_of_reg f (s.handBack.raise_reg_ne _ hne))
    · exact (State.fld_setFld_disj _ _ _ _ rfl (.inl hhi)).trans (s.handBack.raise_fld_disj _ _ rfl (.inr hlo))
  have hring : s.giveUp.queue 60 = s.queue 60 :=
    ((s.handBack.raise F.LDG_STAT_CFAIL).inc F.LDG_STAT_FAILS).report_queue_ne srcCommit 0 (by decide)
  obtain ⟨⟨g, x, y, n, f, e⟩, -⟩ := ((s.handBack.raise F.LDG_STAT_CFAIL).inc F.LDG_STAT_FAILS).report_commit
  refine ⟨?_, ?_, hring, by rw [s.giveUp_led]; rfl, fun f hf => hshown (apart_of_published f hf) ?_ ?_⟩
  · unfold State.giveUp; rw [e]; rfl
  · unfold State.giveUp; rw [e]; rfl
  · revert f; decide
  · revert f; decide

theorem State.commitFails_unpublished (s : State) : Unpublished s s.commitFails := by
  cases h : s.led.retry with
  | false => rw [s.commitFails_again h]; exact s.tryAgain_unpublished
  | true => rw [s.commitFails_givesUp h]; exact s.giveUp_unpublished.trans s.giveUp.startNext_ends.unpublished

/-- A first failure. -/
theorem State.commitFails_first (s : State) (h : s.led.retry = false) :
    s.commitFails.led.stage = 2 ∧ s.commitFails.led.retry = true ∧ s.commitFails.led.slot = s.led.slot := by
  obtain ⟨l, e, -, hretry, hslot⟩ := s.tryAgain_eq
  rw [s.commitFails_again h, e]
  exact ⟨rfl, hretry, hslot⟩

/-- A second failure. -/
theorem State.commitFails_second (s : State) (h : s.led.retry = true) :
    s.commitFails.led.stage = (if s.led.pend then 1 else 0) ∧ s.commitFails.flag F.LDG_STAT_CFAIL = true ∧
      s.commitFails.flag F.LDG_STAT_PEND = true ∧ s.commitFails.fld F.LDG_STAT_FAILS = satAdd 8 (s.fld F.LDG_STAT_FAILS) 1 ∧
      s.commitFails.led.kept = s.led.kept ||| s.led.cur ∧ (s.led.pend = true → s.commitFails.led.cur = s.led.wait) := by
  have hled := s.giveUp_led
  have hon := s.giveUp.startNext_ends
  obtain ⟨hcfail, hpend, hfails⟩ := s.giveUp_shows
  have hp : s.giveUp.led.pend = s.led.pend := by rw [hled]; rfl
  rw [s.commitFails_givesUp h]
  refine ⟨?_, (State.flag_of_fld _ (hon.fld _ rfl)).trans hcfail, s.giveUp.startNext_pend (by rw [hled]) hpend,
    (hon.fld _ rfl).trans hfails, hon.kept.trans (by rw [hled]), fun hwait => ?_⟩
  · rw [s.giveUp.startNext_stage (by rw [hled]), hp]
  · rw [s.giveUp.startNext_cur (hp.trans hwait), hled]; rfl

end Sys2Proof.Machine
end
section
/-! PROOF. The ledger words that a capture checks, and what each step of a commit leaves (R259, R261, R263, R264, R267). -/

namespace Sys2Proof.Machine

open Sys2Proof

/-! ### The accumulator words (R267) -/

/-- The accumulators are held in SRAM. -/
theorem sramReg_zone : ∀ z < 64, sramReg (F.LDG_VOLz_w z).addr = true ∧ sramReg (F.LDG_ESTz_w z).addr = true ∧
    sramReg (F.LDG_LIMz_w z).addr = true := by decide +kernel

theorem not_inEvents_of_sramReg {a : Nat} (h : sramReg a = true) : inEvents a = false := by
  cases he : inEvents a with
  | false => rfl
  | true =>
    have hw : inWindow a = true := by simp [inWindow, he]
    exact absurd (h.symm.trans (sramReg_window hw)) (by decide)

theorem State.sramPut_reg (s : State) {a : Nat} (h : sramReg a = true) (w : Word) (c : Nat) :
    s.sramPut a w c = (s.setReg a w).setChk a c := by
  simp [State.sramPut, not_inEvents_of_sramReg h, h]

/-- From `s` to `t` the memory windows, the flash and the last SEQ assigned stay. -/
structure SameSeq (s t : State) : Prop where
  mem : t.mem = s.mem
  flash : t.flash = s.flash
  seq : t.led.seq = s.led.seq

section
variable {s t u : State}

theorem SameSeq.refl (s : State) : SameSeq s s := ⟨rfl, rfl, rfl⟩

theorem SameSeq.trans (h : SameSeq s t) (g : SameSeq t u) : SameSeq s u :=
  ⟨g.mem.trans h.mem, g.flash.trans h.flash, g.seq.trans h.seq⟩

theorem SameSeq.foldl {α : Type} {f : State → α → State} {l : List α} (h : ∀ v, ∀ x ∈ l, SameSeq v (f v x)) (s : State) :
    SameSeq s (l.foldl f s) := by
  induction l generalizing s with
  | nil => exact .refl s
  | cons x l ih => exact (h s x List.mem_cons_self).trans (ih (fun v y hy => h v y (List.mem_cons_of_mem x hy)) (f s x))

theorem Found.sameSeq {A : Nat → Prop} (h : Found A s t) : SameSeq s t := by
  obtain ⟨⟨_, _, _, _, _, _, rfl⟩, -⟩ := h
  exact ⟨rfl, rfl, rfl⟩

theorem State.trigger_sameSeq (s : State) (r : Nat) : SameSeq s (s.trigger r) := by
  obtain ⟨g, l, e, hseq, -, -⟩ := s.trigger_same r
  rw [e]
  exact ⟨rfl, rfl, hseq⟩

theorem State.sramPut_sameSeq (s : State) {a : Nat} (h : sramReg a = true) (w : Word) (c : Nat) : SameSeq s (s.sramPut a w c) := by
  rw [s.sramPut_reg h]
  exact ⟨rfl, rfl, rfl⟩

theorem State.sramRead_sameSeq (s : State) {a : Nat} (h : sramReg a = true) (req : Nat) : SameSeq s (s.sramRead a req).2.2 := by
  unfold State.sramRead
  dsimp only
  split
  · exact .refl s
  · refine .trans ?_ (State.checkRead_found _ _ _ _).sameSeq
    split
    · exact .refl s
    · exact s.sramPut_sameSeq h _ _

theorem State.reloadZone_sameSeq (s : State) {z : Nat} (hz : z < 64) : SameSeq s (s.reloadZone z) := by
  obtain ⟨hvol, hest, hlim⟩ := sramReg_zone z hz
  have hled (v : State) (l : LedSt) (hl : l.seq = v.led.seq) : SameSeq v (v.setLed l) := ⟨rfl, rfl, hl⟩
  have hreport (v : State) : SameSeq v (v.report srcLedPois z) := by
    obtain ⟨⟨_, _, _, _, _, e⟩, -⟩ := v.report_reported srcLedPois z
    rw [e]
    exact ⟨rfl, rfl, rfl⟩
  unfold State.reloadZone
  split
  exact (((((s.sramPut_sameSeq hvol _ 0).trans (State.sramPut_sameSeq _ hest _ 0)).trans (State.sramPut_sameSeq _ hlim _ 0)).trans
    (hled _ _ (by rfl))).trans (hreport _)).trans (State.trigger_sameSeq _ 0)

theorem State.checkZone_sameSeq (s : State) {z : Nat} (hz : z < 64) : SameSeq s (s.checkZone z) := by
  obtain ⟨hvol, hest, hlim⟩ := sramReg_zone z hz
  have hread := ((s.sramRead_sameSeq hvol reqLedger).trans (State.sramRead_sameSeq _ hest reqLedger)).trans
    (State.sramRead_sameSeq _ hlim reqLedger)
  unfold State.checkZone
  dsimp only
  split
  · exact hread.trans (State.reloadZone_sameSeq _ hz)
  · exact hread

end

/-- The words of every zone are checked. -/
def State.checkZones (s : State) : State := (List.range 64).foldl State.checkZone s

theorem State.checkZones_sameSeq (s : State) : SameSeq s s.checkZones :=
  .foldl (fun v _ hz => v.checkZone_sameSeq (List.mem_range.1 hz)) s

/-! ### The period (R260, R263) -/

/-- Time runs to PERIOD after the last capture. -/
def State.toPeriod (s : State) : State := s.advCcTo (s.led.capAt + secClocks (clampN 60 600 (s.fld F.LDG_CFG_PERIOD)))

/-- PERIOD expires: the triggers of failed commits join those that wait (R263). -/
def State.expirePeriod (s : State) : State :=
  s.setLed { s.led with capAt := s.clk.cc, wait := s.led.wait ||| s.led.kept, kept := 0, blocked := false }

theorem State.toPeriod_facts (s : State) : s.toPeriod.led = s.led ∧ s.toPeriod.mode = s.mode ∧ s.toPeriod.modeNow = s.modeNow ∧
    s.led.capAt + secClocks (clampN 60 600 (s.fld F.LDG_CFG_PERIOD)) ≤ s.toPeriod.clk.cc := by
  unfold State.toPeriod
  generalize s.led.capAt + secClocks (clampN 60 600 (s.fld F.LDG_CFG_PERIOD)) = c
  have hmode : (s.advCcTo c).modeNow = s.modeNow := State.fld_of_reg F.MOD_STAT_MODE (s.advCcTo_reg c (by decide))
  have hdue : c ≤ (s.advCcTo c).clk.cc := (s.advCcTo_cc c).symm ▸ Nat.le_max_right ..
  obtain ⟨r, k, e⟩ := s.advCcTo_same c
  refine ⟨?_, ?_, hmode, hdue⟩ <;> rw [e]

/-! ### The slot (R261) -/

/-- The port is free. -/
def State.portFree (s : State) : State := s.advCcTo s.ser.free

/-- The slot of the next record, and the state after it is chosen (R261). -/
def State.chooseSlot (s : State) : Nat × State := if s.led.last = [] then s.draw 2 else (1 - s.fld F.LDG_STAT_LAST, s)

/-- The commit takes the port for its slot. -/
def State.takePort (s : State) : State :=
  (s.chooseSlot.2.setLed { s.chooseSlot.2.led with slot := s.chooseSlot.1 }).beginErase

/-- The sector of the slot is erased. -/
def State.eraseSlot (s : State) : State := ((s.flashErase (s.slotAddr s.led.slot)).countTrans 2 6000).ledStage 3

/-! ### The capture (R261, R264) -/

/-- Whether every channel is at rest does not hang on system time. -/
theorem State.allQuiet_of_reg {s t : State} (h : ∀ i, i ≠ 0x200 → t.reg i = s.reg i) : t.allQuiet = s.allQuiet := by
  have hpair (n : Nat) : t.fld (F.VDA_CHn_CFG_PAIR n) = s.fld (F.VDA_CHn_CFG_PAIR n) :=
    State.fld_of_reg _ (h _ (by show 0x880 + 8 * n ≠ 0x200; omega))
  have hstate (n : Nat) : t.fld (F.VDA_CHn_STAT_STATE n) = s.fld (F.VDA_CHn_STAT_STATE n) :=
    State.fld_of_reg _ (h _ (by show 0x885 + 8 * n ≠ 0x200; omega))
  simp only [State.allQuiet, State.isOddOfPair, State.pairKind, State.chSt, hpair, hstate]

/-- The instant of a capture. -/
def State.captureInstant (s : State) : State := s.takeInstant clsCapture 32 0

/-- The record is captured with the next SEQ. -/
def State.captureRecord (s : State) : State :=
  let seq := (s.led.seq + 1) % 2 ^ 32
  (s.setLed { s.led with
    body := s.recordBody seq, recSeq := seq, seq := seq, capAt := s.clk.cc, hadStale := s.led.stale, hadRest := s.led.restored
    hadZones := s.led.zrest, stale := false, restored := false, zrest := [] }).ledStage 4

/-- A commit for HOLD or DORMANT waits for the channels. -/
def State.captureWaits (s : State) : Bool := s.led.cur &&& (rsnHold ||| rsnDormant) ≠ 0 && !s.allQuiet

theorem State.captureWaits_iff (s : State) : s.captureWaits = true ↔ s.led.cur &&& 6 ≠ 0 ∧ s.allQuiet = false := by
  rw [State.captureWaits, Bool.and_eq_true, Bool.not_eq_true', decide_eq_true_iff]
  rfl

theorem State.captureRecord_keeps (s : State) : s.captureRecord.mem = s.mem ∧ s.captureRecord.flash = s.flash ∧
    s.captureRecord.queues = s.queues := by
  obtain ⟨hmem, hflash, hqueues, -⟩ := s.setLed_ledStage_keeps _ 4
  exact ⟨hmem, hflash, hqueues⟩

/-- What LEDGER_CAPTURE does in its step. -/
def State.capture (s : State) : State :=
  if s.captureInstant.captureWaits then s.captureInstant else s.captureInstant.checkZones.captureRecord

/-! ### Staging (R259, R139) -/

/-- Staging writes to the ring Q60 alone. -/
theorem State.stageItems_facts (s : State) (body : List Byte) :
    Reported [] s (s.stageItems body) ∧ ∀ q, q ≠ 60 → (s.stageItems body).queue q = s.queue q := by
  have hstep (u : State) (c : List Byte) (v : State) (hv : v = u.pushItem 60 (streamWords 60 0 0 false (bytesAt body 17 5) u.led.recSeq c) []) :
      Reported [] u v ∧ ∀ q, q ≠ 60 → v.queue q = u.queue q := by
    subst hv
    exact ⟨u.pushItem_reported [] 60 _ _, fun q hq => u.queue_pushItem_ne _ _ hq⟩
  unfold State.stageItems
  induction chunksOf 450 body.length body generalizing s with
  | nil => exact ⟨.refl [] s, fun _ _ => rfl⟩
  | cons c cs ih =>
    obtain ⟨hrep, hqueue⟩ := hstep s c _ rfl
    obtain ⟨hrep', hqueue'⟩ := ih (s.pushItem 60 (streamWords 60 0 0 false (bytesAt body 17 5) s.led.recSeq c) [])
    exact ⟨hrep.trans hrep', fun q hq => (hqueue' q hq).trans (hqueue q hq)⟩

/-- The record with its signature is staged. -/
def State.stageSigned (s : State) (body : List Byte) : State := ((s.setLed { s.led with body := body }).stageItems body).ledStage 5

/-- The record with its signature. -/
def State.signedBody (s : State) : List Byte := s.led.body ++ nodeSign s.led.body

/-- The store records that a record of the ledger takes in Q60. -/
def stagedRecords (body : List Byte) : Nat := ((chunksOf 450 body.length body).map (fun c => nrecFor c.length)).foldl (· + ·) 0

/-- What RECORD_SIGNED does in its step. -/
def State.signRecord (s : State) : State := if s.ringRoom 60 (stagedRecords s.signedBody) then s.stageSigned s.signedBody else s

theorem State.stageSigned_facts (s : State) (body : List Byte) : ∀ t, t = s.stageSigned body → t.led.stage = 5 ∧ t.led.body = body ∧
    t.flash = s.flash ∧ t.mem = s.mem ∧ ∀ q, q ≠ 60 → t.queue q = s.queue q := by
  rintro t rfl
  obtain ⟨⟨⟨g, x, y, n, f, e⟩, -⟩, hqueue⟩ := (s.setLed { s.led with body := body }).stageItems_facts body
  refine ⟨rfl, ?_, ?_, ?_, hqueue⟩ <;> unfold State.stageSigned <;> rw [e] <;> rfl

/-! ### Programming (R261) -/

/-- The bytes that reach the port are programmed, after a page timeout only in part. -/
def State.programRecord (s : State) (bs : List Byte) : State :=
  if s.led.torn then s.flashTornProgram (s.slotAddr s.led.slot) bs else s.flashProgram (s.slotAddr s.led.slot) bs

/-- The staged items are released. -/
def State.clearStaging (s : State) : State := s.release 60 (s.qCount 60)

/-- The pages of a record of `n` bytes. -/
def pagesOf (n : Nat) : Nat := (n + 255) / 256

/-- The pages of the staged record are programmed, each with its polls. -/
def State.sendPages (s : State) : State :=
  let p := pagesOf s.unstage.1.length
  (s.unstage.2.programRecord s.unstage.1).countTrans (3 * p - 1) (60 * p)

/-- The staged record is programmed. -/
def State.programStaged (s : State) : State := s.sendPages.clearStaging.ledStage 6

theorem State.programRecord_outside (s : State) (bs : List Byte) {i : Nat}
    (h : i < s.slotAddr s.led.slot ∨ s.slotAddr s.led.slot + bs.length ≤ i) : (s.programRecord bs).flashByte i = s.flashByte i := by
  unfold State.programRecord
  split
  · exact s.flashByte_flashTornProgram_outside _ bs h
  · exact s.flashByte_flashProgram_outside _ bs h

theorem State.programRecord_inside (s : State) {bs : List Byte} (htorn : s.led.torn = false) {i : Nat} {b : Byte} (h : bs[i]? = some b) :
    (s.programRecord bs).flashByte (s.slotAddr s.led.slot + i) = b &&& s.flashByte (s.slotAddr s.led.slot + i) := by
  rw [State.programRecord, htorn]
  exact s.flashByte_flashProgram _ bs h

theorem State.clearStaging_ring (s : State) : (s.clearStaging.queue 60).recs = [] := s.release_all 60

theorem State.sendPages_flash (s : State) : s.sendPages.flash = (s.unstage.2.programRecord s.unstage.1).flash := rfl

theorem State.programStaged_same (s : State) : s.programStaged.flash = s.sendPages.flash ∧
    s.programStaged.queues = s.sendPages.clearStaging.queues := ⟨rfl, rfl⟩

theorem State.programStaged_facts (s : State) : ∀ t, t = s.programStaged → t.led.stage = 6 ∧ (t.queue 60).recs = [] ∧
    (∀ a, a < s.slotAddr s.led.slot ∨ s.slotAddr s.led.slot + s.unstage.1.length ≤ a → t.flashByte a = s.flashByte a) ∧
    (s.led.torn = false → ∀ i b, s.unstage.1[i]? = some b →
      t.flashByte (s.slotAddr s.led.slot + i) = b &&& s.flashByte (s.slotAddr s.led.slot + i)) := by
  rintro t rfl
  have hfound := s.unstage_found
  have haddr (k : Nat) : s.unstage.2.slotAddr k = s.slotAddr k :=
    State.slotAddr_of_reg (fun i hlo _ => hfound.2 i (by omega)) k
  have hled : s.unstage.2.led = s.led := by obtain ⟨⟨_, _, _, _, _, _, e⟩, -⟩ := hfound; rw [e]
  have hbyte (i : Nat) : s.unstage.2.flashByte i = s.flashByte i := by
    obtain ⟨⟨_, _, _, _, _, _, e⟩, -⟩ := hfound; rw [e]; rfl
  have hout {i : Nat} := s.unstage.2.programRecord_outside s.unstage.1 (i := i)
  have hin (htorn) {i : Nat} {b : Byte} := s.unstage.2.programRecord_inside (bs := s.unstage.1) htorn (i := i) (b := b)
  simp only [haddr, hled, hbyte] at hout hin
  have hflash (i : Nat) : s.programStaged.flashByte i = (s.unstage.2.programRecord s.unstage.1).flashByte i :=
    congrArg (spGet _ · i) (s.programStaged_same.1.trans s.sendPages_flash)
  have hring : s.programStaged.queue 60 = s.sendPages.clearStaging.queue 60 := congrArg (spGet _ · 60) s.programStaged_same.2
  exact ⟨rfl, by rw [hring, State.clearStaging_ring], fun a ha => (hflash a).trans (hout ha),
    fun htorn i b hb => (hflash _).trans (hin htorn hb)⟩

/-- The marker is programmed. -/
def State.programMarker (s : State) : State :=
  ((s.flashProgram (s.slotAddr s.led.slot + 4092) (toBytes 4 0x5AC33CA5)).countTrans 2 60).ledStage 7

theorem marker_bytes : toBytes 4 0x5AC33CA5 = [0x5A#8, 0xC3#8, 0x3C#8, 0xA5#8] := by decide

/-! ### The read-back (R261) -/

/-- The pages are read back. -/
def State.readBack (s : State) : State := s.countTrans (pagesOf s.led.body.length - 1) 2

/-- The flash holds the record. -/
def State.recordStands (s : State) : Bool := s.flashRead (s.slotAddr s.led.slot) s.led.body.length == s.led.body

theorem State.readBack_reg (s : State) {i : Nat} (h : i ≠ 0x17D4) : s.readBack.reg i = s.reg i := State.incBy_reg _ _ _ h

theorem State.readBack_stands (s : State) : s.readBack.recordStands = s.recordStands := by
  have haddr : s.readBack.slotAddr s.led.slot = s.slotAddr s.led.slot :=
    State.slotAddr_of_reg (fun i hlo _ => s.readBack_reg (by omega)) _
  show (s.readBack.flashRead (s.readBack.slotAddr s.led.slot) s.led.body.length == s.led.body) = _
  rw [haddr]
  rfl

/-- What READBACK_COMPARE does in its step. -/
def State.judgeReadBack (s : State) (same : Bool) : State :=
  if same && s.recordStands then s.readBack.publish else s.readBack.commitFails

/-! ### A step that takes too long (R263, R361) -/

theorem State.pageTimeout_facts (s : State) : s.pageTimeout.led = s.led ∧ s.pageTimeout.clk = s.clk ∧
    ∀ i, 0x1800 ≤ i → s.pageTimeout.reg i = s.reg i := by
  obtain ⟨⟨g, x, y, n, f, e⟩, hreg⟩ :=
    ((s.raise F.SER_PP_STAT_PTMO).inc F.SER_PP_STAT_PTMOCNT).report_reported srcFlashTo 0
  refine ⟨by rw [State.pageTimeout, e]; rfl, by rw [State.pageTimeout, e]; rfl, fun i hi => (hreg i ?_).trans ?_⟩
  · simp only [reportRegs, srcFlashTo, F.FSV_SRCs_STAT_w, F.EVS_Qn_ERR_w, List.mem_cons, List.not_mem_nil, or_false]
    omega
  · have hne : i ≠ 0x17D4 := by omega
    exact (State.inc_reg _ _ hne).trans (s.raise_reg_ne _ hne)

/-- Time runs to the limit of the step. -/
def State.overdue (s : State) : State := s.advCcTo (s.led.at_ + msClocks (stageLimit s.led.stage))

/-- A page poll that is overdue has timed out. -/
def State.pollOverdue (s : State) : State := if s.led.stage = 2 || s.overdue.led.torn then s.overdue else s.overdue.pageTimeout

/-- The step is cut off, and nothing is staged. -/
def State.cutStep (s : State) : State := (s.pollOverdue.tearCommit s.led.stage).clearStaging

theorem State.overdue_facts (s : State) : s.overdue.led = s.led ∧
    s.led.at_ + msClocks (stageLimit s.led.stage) ≤ s.overdue.clk.cc ∧ ∀ i, 0x1800 ≤ i → s.overdue.reg i = s.reg i := by
  unfold State.overdue
  refine ⟨?_, by rw [State.advCcTo_cc]; exact Nat.le_max_right .., fun i hi => s.advCcTo_reg _ (by omega)⟩
  obtain ⟨r, k, e⟩ := s.advCcTo_same (s.led.at_ + msClocks (stageLimit s.led.stage))
  rw [e]

theorem State.pollOverdue_facts (s : State) : s.pollOverdue.led = s.led ∧
    s.led.at_ + msClocks (stageLimit s.led.stage) ≤ s.pollOverdue.clk.cc ∧ ∀ i, 0x1800 ≤ i → s.pollOverdue.reg i = s.reg i := by
  obtain ⟨hled, hlim, hreg⟩ := s.overdue_facts
  obtain ⟨hpled, hpclk, hpreg⟩ := s.overdue.pageTimeout_facts
  unfold State.pollOverdue
  split
  · exact ⟨hled, hlim, hreg⟩
  · exact ⟨hpled.trans hled, hpclk ▸ hlim, fun i hi => (hpreg i hi).trans (hreg i hi)⟩

theorem State.cutStep_facts (s : State) : ∀ t, t = s.cutStep → t.led = s.led ∧ (t.queue 60).recs = [] ∧
    s.led.at_ + msClocks (stageLimit s.led.stage) ≤ t.clk.cc ∧ ∀ i, 0x1800 ≤ i → t.reg i = s.reg i := by
  rintro t rfl
  obtain ⟨hled, hlim, hreg⟩ := s.pollOverdue_facts
  obtain ⟨f, n, e⟩ := s.pollOverdue.tearCommit_same s.led.stage
  rw [State.cutStep, e]
  exact ⟨hled, State.clearStaging_ring _, hlim, hreg⟩

end Sys2Proof.Machine
end
section
/-! PROOF. The commit protocol (O47): COMMIT_REQUEST, COMMIT_PERIOD_EXPIRY, COMMIT_START, SECTOR_ERASE_COMPLETE, LEDGER_CAPTURE,
RECORD_SIGNED, RECORD_PROGRAMMED, MARKER_PROGRAMMED, READBACK_COMPARE and COMMIT_STEP_TIMEOUT (R259 to R264). -/

namespace Sys2Proof.Proofs

open Sys2Proof Sys2Proof.Machine

/-! ### Triggers -/

/-- The row of LDG_CTL. -/
def commitRow : RegRow := ⟨.LDG_CTL, 0x1803, 1, 1, 0, 0x0, 0x0, 0x0, 0x1⟩

theorem exec_commitRequest (s : State) (p : Path) (v : Word) (hrun : s.boot.halted = false) :
    exec (.commitRequest p v) s = .next (s.trigger rsnHost).completed := by
  have hbit : bitOf (bitAs v 0 true).toNat 0 = true := (bitOf_bitAs v true 0 (by decide)).trans (if_pos rfl)
  have hreg : ∀ x, s.writeReg (some p) commitRow 0x1803 (bitAs v 0 true) x = (.done, s.trigger rsnHost) :=
    fun x => congrArg (Prod.mk Wr.done) (if_pos hbit)
  have hopen : closedTo (some p) 0x1803 = false := Bool.and_false _
  show execCommitRequest p v s = _
  rw [execCommitRequest, s.clocked_running _ hrun, State.write,
    s.hostWrite_trigger (r := commitRow) _ hopen (by decide) rfl rfl rfl (by decide), hreg]
  rfl

theorem commitRequest_facts (s : State) : ∀ t, t = (s.trigger rsnHost).completed → t.mem = s.mem ∧ t.flash = s.flash ∧
    (s.led.stage = 0 → s.modeNow ≠ modeBoot → s.gated = false → t.led.stage = 1 ∧ t.led.cur = s.led.wait ||| rsnHost) ∧
    (s.led.stage ≠ 0 ∨ s.modeNow = modeBoot ∨ s.gated = true → t.led.stage = s.led.stage ∧ t.led.cur = s.led.cur ∧
      t.led.wait = s.led.wait ||| rsnHost ∧ t.flag F.LDG_STAT_PEND = true) := by
  rintro t rfl
  have hkeep := s.trigger_sameSeq rsnHost
  refine ⟨hkeep.mem, hkeep.flash, fun hstage hmode hgated => ?_, fun hwait => ?_⟩
  · rw [s.trigger_starts rsnHost hstage hmode hgated]
    exact ⟨rfl, rfl⟩
  · rw [s.trigger_waits rsnHost hwait]
    exact ⟨rfl, rfl, rfl, State.flag_setFlag_same _ F.LDG_STAT_PEND true rfl⟩

theorem exec_commitPeriodExpiry (s : State) (hrun : s.boot.halted = false) (hgated : s.gated = false) (hmode : s.modeNow ≠ modeBoot) :
    exec .commitPeriodExpiry s = .next (s.toPeriod.expirePeriod.trigger rsnPeriod) := by
  show execCommitPeriodExpiry s = _
  rw [execCommitPeriodExpiry, s.clocked_running _ hrun]
  rw [if_neg (by rw [hgated, decide_eq_false hmode]; decide), State.expirePeriod, State.toPeriod]

theorem exec_commitPeriodExpiry_idle (s : State) (hrun : s.boot.halted = false) (h : s.gated = true ∨ s.modeNow = modeBoot) :
    exec .commitPeriodExpiry s = .next s := by
  show execCommitPeriodExpiry s = _
  rw [execCommitPeriodExpiry, s.clocked_running _ hrun]
  exact if_pos (by simpa using h)

/-- The trigger of a period that expires now. -/
theorem expirePeriod_trigger (s : State) (hgated : s.gated = false) (hmode : s.modeNow ≠ modeBoot) :
    ∀ t, t = s.expirePeriod.trigger rsnPeriod → t.led.capAt = t.clk.cc ∧ t.clk = s.clk ∧ t.led.kept = 0 ∧
      (s.led.stage = 0 → t.led.stage = 1 ∧ t.led.cur = s.led.wait ||| s.led.kept ||| rsnPeriod) ∧
      (s.led.stage ≠ 0 → t.led.stage = s.led.stage ∧ t.led.wait = s.led.wait ||| s.led.kept ||| rsnPeriod) := by
  rintro t rfl
  obtain ⟨g, l, e, -, hkept, hcap⟩ := s.expirePeriod.trigger_same rsnPeriod
  refine ⟨by rw [e]; exact hcap, by rw [e]; rfl, by rw [e]; exact hkept, fun h => ?_, fun h => ?_⟩
  · rw [s.expirePeriod.trigger_starts _ h hmode hgated]
    exact ⟨rfl, rfl⟩
  · rw [s.expirePeriod.trigger_waits _ (.inl h)]
    exact ⟨rfl, rfl⟩

theorem commitPeriodExpiry_facts (s : State) (hgated : s.gated = false) (hmode : s.modeNow ≠ modeBoot) :
    ∀ t, t = s.toPeriod.expirePeriod.trigger rsnPeriod → t.led.capAt = t.clk.cc ∧
      s.led.capAt + secClocks (clampN 60 600 (s.fld F.LDG_CFG_PERIOD)) ≤ t.clk.cc ∧ t.led.kept = 0 ∧
      (s.led.stage = 0 → t.led.stage = 1 ∧ t.led.cur = s.led.wait ||| s.led.kept ||| rsnPeriod) ∧
      (s.led.stage ≠ 0 → t.led.stage = s.led.stage ∧ t.led.wait = s.led.wait ||| s.led.kept ||| rsnPeriod) := by
  rintro t rfl
  obtain ⟨hled, hkeep, hnow, hdue⟩ := s.toPeriod_facts
  have hrun : s.toPeriod.gated = false := by rw [State.gated, hkeep]; exact hgated
  obtain ⟨hcap, hclk, hkept, hgo, hwait⟩ := expirePeriod_trigger s.toPeriod hrun (hnow ▸ hmode) _ rfl
  rw [hled] at hgo hwait
  exact ⟨hcap, hclk ▸ hdue, hkept, hgo, hwait⟩

/-! ### The commands, in their step and out of it -/

/-- A command that acts where `p` holds. -/
theorem next_unless {p : Prop} [Decidable p] (s t : State) : (if ¬ p then ok s else ok t) = .next (if p then t else s) := by
  by_cases h : p
  · rw [if_pos h, if_neg (not_not.2 h)]
  · rw [if_neg h, if_pos h]

theorem exec_commitStart (s : State) (hrun : s.boot.halted = false) : exec .commitStart s =
    .next (if s.led.stage ≠ 1 ∨ s.ser.job.isSome = true ∨ s.gated = true then s else s.portFree.takePort) := by
  show execCommitStart s = _
  rw [execCommitStart, s.clocked_running _ hrun]
  simp only [Bool.or_eq_true, decide_eq_true_eq, or_assoc]
  exact (apply_ite Host.Outcome.next _ _ _).symm

theorem exec_sectorEraseComplete (s : State) (hrun : s.boot.halted = false) :
    exec .sectorEraseComplete s = .next (if s.led.stage = 2 then s.eraseSlot else s) := by
  show execSectorEraseComplete s = _
  rw [execSectorEraseComplete, s.clocked_running _ hrun]
  exact (apply_ite Host.Outcome.next _ _ _).symm

theorem exec_ledgerCapture (s : State) (hrun : s.boot.halted = false) :
    exec .ledgerCapture s = .next (if s.led.stage = 3 then s.capture else s) := by
  show execLedgerCapture s = _
  rw [execLedgerCapture, s.clocked_running _ hrun, ← next_unless, State.capture, apply_ite ok, State.captureWaits, State.captureInstant,
    State.checkZones, State.captureRecord]

theorem exec_recordSigned (s : State) (hrun : s.boot.halted = false) :
    exec .recordSigned s = .next (if s.led.stage = 4 then s.signRecord else s) := by
  show execRecordSigned s = _
  rw [execRecordSigned, s.clocked_running _ hrun, ← next_unless, State.signRecord, apply_ite ok]
  rfl

theorem exec_recordProgrammed (s : State) (hrun : s.boot.halted = false) :
    exec .recordProgrammed s = .next (if s.led.stage = 5 then s.programStaged else s) := by
  show execRecordProgrammed s = _
  rw [execRecordProgrammed, s.clocked_running _ hrun]
  exact next_unless s s.programStaged

theorem exec_markerProgrammed (s : State) (hrun : s.boot.halted = false) :
    exec .markerProgrammed s = .next (if s.led.stage = 6 then s.programMarker else s) := by
  show execMarkerProgrammed s = _
  rw [execMarkerProgrammed, s.clocked_running _ hrun]
  exact next_unless s s.programMarker

theorem exec_readbackCompare (s : State) (same : Bool) (hrun : s.boot.halted = false) :
    exec (.readbackCompare same) s = .next (if s.led.stage = 7 then s.judgeReadBack same else s) := by
  show execReadbackCompare same s = _
  rw [execReadbackCompare, s.clocked_running _ hrun, ← next_unless, State.judgeReadBack, apply_ite ok, ← s.readBack_stands]
  rfl

theorem exec_commitStepTimeout (s : State) (hrun : s.boot.halted = false) : exec .commitStepTimeout s =
    .next (if s.led.stage = 2 ∨ s.led.stage = 5 ∨ s.led.stage = 6 then s.cutStep.commitFails else s) := by
  show execCommitStepTimeout s = _
  rw [execCommitStepTimeout, s.clocked_running _ hrun]
  by_cases h : s.led.stage = 2 ∨ s.led.stage = 5 ∨ s.led.stage = 6
  · rw [if_pos h]
    exact if_pos (by simpa [or_assoc] using h)
  · rw [if_neg h]
    exact if_neg (by simpa [or_assoc] using h)

/-- The commands that belong to one step of a commit, with that step. -/
def stepCommands : List (Instr × Nat) := [(.sectorEraseComplete, 2), (.ledgerCapture, 3), (.recordSigned, 4), (.recordProgrammed, 5),
  (.markerProgrammed, 6), (.readbackCompare true, 7), (.readbackCompare false, 7)]

theorem exec_out_of_step (s : State) (hrun : s.boot.halted = false) : ∀ c ∈ stepCommands, s.led.stage ≠ c.2 →
    exec c.1 s = .next s := by
  simp only [stepCommands, List.forall_mem_cons, List.not_mem_nil, false_imp_iff, implies_true, and_true,
    exec_sectorEraseComplete s hrun, exec_ledgerCapture s hrun, exec_recordSigned s hrun, exec_recordProgrammed s hrun,
    exec_markerProgrammed s hrun, exec_readbackCompare s _ hrun]
  refine ⟨?_, ?_, ?_, ?_, ?_, ?_, ?_⟩ <;> exact fun h => congrArg _ (if_neg h)

/-! ### The erase -/

theorem takePort_facts (s : State) : ∀ t, t = s.takePort → t.led.stage = 2 ∧ t.fld F.LDG_STAT_STEP = 2 ∧ t.clk = s.clk ∧
    (s.led.last ≠ [] → t.led.slot = 1 - s.fld F.LDG_STAT_LAST) ∧ (s.led.last = [] → t.led.slot < 2) ∧
    t.flash = s.flash ∧ t.mem = s.mem := by
  rintro t rfl
  have hsame : s.chooseSlot.2.clk = s.clk ∧ s.chooseSlot.2.flash = s.flash ∧ s.chooseSlot.2.mem = s.mem := by
    unfold State.chooseSlot
    split
    · exact ⟨rfl, rfl, rfl⟩
    · exact ⟨rfl, rfl, rfl⟩
  obtain ⟨hclk, hflash, hmem⟩ := hsame
  refine ⟨rfl, (State.ledStage_step _).1, hclk, fun h => ?_, fun h => ?_, hflash, hmem⟩
  · show s.chooseSlot.1 = _
    rw [State.chooseSlot, if_neg h]
  · show s.chooseSlot.1 < 2
    rw [State.chooseSlot, if_pos h]
    exact Nat.mod_lt _ (by decide)

theorem commitStart_facts (s : State) : ∀ t, t = s.portFree.takePort → t.led.stage = 2 ∧ t.fld F.LDG_STAT_STEP = 2 ∧
    s.ser.free ≤ t.clk.cc ∧ (s.led.last ≠ [] → t.led.slot = 1 - s.fld F.LDG_STAT_LAST) ∧ (s.led.last = [] → t.led.slot < 2) ∧
    t.flash = s.flash ∧ t.mem = s.mem := by
  rintro t rfl
  have hfree : s.ser.free ≤ s.portFree.clk.cc := by rw [State.portFree, State.advCcTo_cc]; exact Nat.le_max_right ..
  have hslot : s.portFree.fld F.LDG_STAT_LAST = s.fld F.LDG_STAT_LAST := State.fld_of_reg _ (s.advCcTo_reg _ (by decide))
  obtain ⟨hstage, hstep, hclk, hother, hany, hflash, hmem⟩ := takePort_facts s.portFree _ rfl
  obtain ⟨r, k, e⟩ := s.advCcTo_same s.ser.free
  have hkept : s.portFree.led = s.led ∧ s.portFree.flash = s.flash ∧ s.portFree.mem = s.mem := by
    rw [State.portFree, e]; exact ⟨rfl, rfl, rfl⟩
  obtain ⟨hled, hflash', hmem'⟩ := hkept
  rw [hled, hslot] at hother
  rw [hled] at hany
  exact ⟨hstage, hstep, hclk.symm ▸ hfree, hother, hany, hflash.trans hflash', hmem.trans hmem'⟩

theorem eraseSlot_facts (s : State) : ∀ t, t = s.eraseSlot → t.led.stage = 3 ∧ t.mem = s.mem ∧
    ∀ a, t.flashByte a = (if a / 4096 = s.slotAddr s.led.slot / 4096 then 0xFF#8 else s.flashByte a) := by
  rintro t rfl
  have hflash : s.eraseSlot.flash = (s.flashErase (s.slotAddr s.led.slot)).flash := rfl
  exact ⟨rfl, rfl, fun a => (congrArg (spGet _ · a) hflash).trans (s.flashByte_flashErase _ a)⟩

/-! ### The capture -/

theorem captureRecord_facts (s : State) : ∀ t, t = s.captureRecord → t.led.stage = 4 ∧ t.fld F.LDG_STAT_STEP = 3 ∧
    t.led.seq = (s.led.seq + 1) % 2 ^ 32 ∧ t.led.recSeq = t.led.seq ∧ t.led.body = s.recordBody t.led.seq ∧
    t.led.capAt = t.clk.cc ∧ t.mem = s.mem ∧ t.flash = s.flash ∧ t.queues = s.queues := by
  rintro t rfl
  have hstep : s.captureRecord.fld F.LDG_STAT_STEP = 3 := (State.ledStage_step _).2.1
  exact ⟨rfl, hstep, rfl, rfl, rfl, rfl, s.captureRecord_keeps⟩

theorem capture_facts (s : State) (hcanon : s.canonical = true) :
    ∃ u v t : State, ∃ r k, u = { s with regs := r, clk := k } ∧ u.now % 32 = 0 ∧
      (∀ i, i ≠ 0x200 → u.reg i = s.reg i) ∧ v = (List.range 64).foldl State.checkZone u ∧ t = s.capture ∧
      (s.led.cur &&& 6 ≠ 0 ∧ s.allQuiet = false → t = u) ∧
      (s.led.cur &&& 6 = 0 ∨ s.allQuiet = true → t.led.stage = 4 ∧ t.fld F.LDG_STAT_STEP = 3 ∧
        t.led.seq = (s.led.seq + 1) % 2 ^ 32 ∧ t.led.recSeq = t.led.seq ∧ t.led.body = v.recordBody t.led.seq ∧
        t.led.capAt = t.clk.cc ∧ t.mem = s.mem ∧ t.flash = s.flash ∧ t.queues = v.queues) := by
  obtain ⟨r, k, hsame⟩ := s.takeInstant_same clsCapture 32 0
  have hreg : ∀ i, i ≠ 0x200 → s.captureInstant.reg i = s.reg i := fun i hi => s.takeInstant_reg clsCapture 32 0 hi
  have hparts : s.captureInstant.led = s.led ∧ s.captureInstant.mem = s.mem ∧ s.captureInstant.flash = s.flash := by
    rw [State.captureInstant, hsame]; exact ⟨rfl, rfl, rfl⟩
  obtain ⟨hled, hmem, hflash⟩ := hparts
  have hwaits := s.captureInstant.captureWaits_iff
  rw [hled, State.allQuiet_of_reg hreg] at hwaits
  refine ⟨s.captureInstant, s.captureInstant.checkZones, s.capture, r, k, hsame,
    s.takeInstant_multiple clsCapture (by decide) (by decide) (s.frac_lt_of_canonical hcanon), hreg, rfl, rfl,
    fun h => if_pos (hwaits.2 h), fun h => ?_⟩
  have hgo : ¬ s.captureInstant.captureWaits = true := fun hw => by
    obtain ⟨hne, hq⟩ := hwaits.1 hw
    obtain h | h := h
    · exact hne h
    · exact absurd (h.symm.trans hq) (by decide)
  rw [State.capture, if_neg hgo]
  have hkeep := s.captureInstant.checkZones_sameSeq
  obtain ⟨hst, hstep, hseq, hrec, hbody, hcap, hmem', hflash', hqueues⟩ := captureRecord_facts s.captureInstant.checkZones _ rfl
  rw [hkeep.seq, hled] at hseq
  exact ⟨hst, hstep, hseq, hrec, hbody, hcap, hmem'.trans (hkeep.mem.trans hmem), hflash'.trans (hkeep.flash.trans hflash), hqueues⟩

/-! ### The record is signed and programmed -/

theorem programMarker_facts (s : State) : ∀ t, t = s.programMarker → t.led.stage = 7 ∧ t.fld F.LDG_STAT_STEP = 5 ∧
    ∀ i b, [0x5A#8, 0xC3#8, 0x3C#8, 0xA5#8][i]? = some b →
      t.flashByte (s.slotAddr s.led.slot + 4092 + i) = b &&& s.flashByte (s.slotAddr s.led.slot + 4092 + i) := by
  rintro t rfl
  have hflash : s.programMarker.flash = (s.flashProgram (s.slotAddr s.led.slot + 4092) (toBytes 4 0x5AC33CA5)).flash := rfl
  refine ⟨rfl, (State.ledStage_step _).2.2, fun i b hb => ?_⟩
  exact (congrArg (spGet _ · _) hflash).trans (s.flashByte_flashProgram _ _ (by rw [marker_bytes]; exact hb))

/-! ### The read-back -/

theorem publish_facts (s : State) : ∀ t, t = s.publish → t.flash = s.flash ∧ t.fld F.LDG_SEQ_SEQ = s.led.recSeq % 2 ^ 32 ∧
    t.fld F.LDG_STAT_LAST = s.led.slot % 2 ∧ t.led.last = s.led.body ∧ t.led.prev = s.led.last ∧
    t.fld F.LDG_STAT_COMMITS = satAdd 16 (s.fld F.LDG_STAT_COMMITS) 1 ∧ t.led.stage = (if s.led.pend then 1 else 0) := by
  rintro t rfl
  have hend := s.published.startNext_ends
  obtain ⟨hseq, hslot, hcount⟩ := s.published_facts
  rw [s.publish_eq]
  exact ⟨hend.unpublished.flash, (hend.fld _ rfl).trans hseq, (hend.fld _ rfl).trans hslot, hend.last, hend.prev,
    (hend.fld _ rfl).trans hcount, s.published.startNext_stage rfl⟩

theorem judgeReadBack_facts (s : State) (same : Bool) : ∀ t, t = s.judgeReadBack same → t.flash = s.flash ∧
      (same = true → s.flashRead (s.slotAddr s.led.slot) s.led.body.length = s.led.body →
        t.fld F.LDG_SEQ_SEQ = s.led.recSeq % 2 ^ 32 ∧ t.fld F.LDG_STAT_LAST = s.led.slot % 2 ∧ t.led.last = s.led.body ∧
        t.led.prev = s.led.last ∧ t.fld F.LDG_STAT_COMMITS = satAdd 16 (s.fld F.LDG_STAT_COMMITS) 1 ∧
        t.led.stage = (if s.led.pend then 1 else 0)) ∧
      (same = false ∨ s.flashRead (s.slotAddr s.led.slot) s.led.body.length ≠ s.led.body →
        t.fld F.LDG_SEQ_SEQ = s.fld F.LDG_SEQ_SEQ ∧ t.led.last = s.led.last ∧
        t.fld F.LDG_STAT_LAST = s.fld F.LDG_STAT_LAST ∧
        (s.led.retry = false → t.led.stage = 2 ∧ t.led.retry = true ∧ t.led.slot = s.led.slot) ∧
        (s.led.retry = true → t.led.stage = (if s.led.pend then 1 else 0) ∧ t.flag F.LDG_STAT_CFAIL = true ∧
          t.flag F.LDG_STAT_PEND = true ∧ t.fld F.LDG_STAT_FAILS = satAdd 8 (s.fld F.LDG_STAT_FAILS) 1 ∧
          t.led.kept = s.led.kept ||| s.led.cur ∧ (s.led.pend = true → t.led.cur = s.led.wait))) := by
  have hstands : s.recordStands = true ↔ s.flashRead (s.slotAddr s.led.slot) s.led.body.length = s.led.body := beq_iff_eq
  have hfld {f : Fld} (hf : f.addr ≠ 0x17D4) : s.readBack.fld f = s.fld f := State.fld_of_reg f (s.readBack_reg hf)
  rintro t rfl
  unfold State.judgeReadBack
  cases hgood : same && s.recordStands with
  | true =>
    obtain ⟨hsame, hstand⟩ := (Bool.and_eq_true _ _).mp hgood
    obtain ⟨hflash, hseq, hslot, hlast, hprev, hcount, hst⟩ := publish_facts s.readBack _ rfl
    rw [hfld (by decide)] at hcount
    refine ⟨hflash, fun _ _ => ⟨hseq, hslot, hlast, hprev, hcount, hst⟩, fun hbad => ?_⟩
    obtain h | h := hbad
    · exact absurd (h.symm.trans hsame) (by decide)
    · exact absurd (hstands.1 hstand) h
  | false =>
    have hun := s.readBack.commitFails_unpublished
    refine ⟨hun.flash, fun hsame hread => ?_, fun _ => ⟨(hun.fld F.LDG_SEQ_SEQ (by decide)).trans (hfld (by decide)), hun.last,
      (hun.fld F.LDG_STAT_LAST (by decide)).trans (hfld (by decide)), s.readBack.commitFails_first, fun hretry => ?_⟩⟩
    · rw [hsame, hstands.2 hread] at hgood
      exact absurd hgood (by decide)
    · have hsecond := s.readBack.commitFails_second hretry
      rw [hfld (by decide)] at hsecond
      exact hsecond

/-! ### A step that takes too long -/

theorem commitStepTimeout_facts (s : State) : ∀ t, t = s.cutStep.commitFails →
    s.led.at_ + msClocks (stageLimit s.led.stage) ≤ t.clk.cc ∧ t.led.last = s.led.last ∧
      t.fld F.LDG_SEQ_SEQ = s.fld F.LDG_SEQ_SEQ ∧ (t.queue 60).recs = [] ∧
      (s.led.retry = false → t.led.stage = 2 ∧ t.led.retry = true) ∧
      (s.led.retry = true → t.led.stage = (if s.led.pend then 1 else 0) ∧ t.flag F.LDG_STAT_CFAIL = true ∧
        t.led.kept = s.led.kept ||| s.led.cur) := by
  rintro t rfl
  obtain ⟨hled, hring, hlim, hreg⟩ := s.cutStep_facts _ rfl
  have hun := s.cutStep.commitFails_unpublished
  have hfirst := s.cutStep.commitFails_first
  have hsecond := s.cutStep.commitFails_second
  rw [hled] at hfirst hsecond
  refine ⟨hun.clk ▸ hlim, hun.last.trans (congrArg LedSt.last hled),
    (hun.fld F.LDG_SEQ_SEQ (by decide)).trans (State.fld_of_reg _ (hreg _ (by decide))), by rw [hun.ring, hring], fun h => ?_, fun h => ?_⟩
  · obtain ⟨hst, hretry, -⟩ := hfirst h
    exact ⟨hst, hretry⟩
  · obtain ⟨hst, hcfail, -, -, hkept, -⟩ := hsecond h
    exact ⟨hst, hcfail, hkept⟩

/-! ### The obligation -/

/-- Settles O47: each command acts in its own step (`exec_out_of_step`) and leaves what that step leaves; a failure publishes nothing
(`State.commitFails_unpublished`), and is the first one (`State.commitFails_first`) or the second (`State.commitFails_second`). -/
theorem commitStepsFollowTheTable : Obligations.CommitStepsFollowTheTable := by
  unfold Obligations.CommitStepsFollowTheTable
  intro s hrun
  refine ⟨fun p v => ⟨_, exec_commitRequest s p v hrun, commitRequest_facts s _ rfl⟩,
    fun hgated hmode => ⟨_, exec_commitPeriodExpiry s hrun hgated hmode, commitPeriodExpiry_facts s hgated hmode _ rfl⟩,
    exec_commitPeriodExpiry_idle s hrun, fun h => (exec_commitStart s hrun).trans (congrArg _ (if_pos h)),
    exec_out_of_step s hrun, fun h2 h5 h6 => ?idle, fun hstage hjob hgated => ?start, fun hstage => ?erase, fun hstage hcanon => ?capture,
    fun body n hstage hbody hn => ?sign, fun hstage => ?program, fun hstage => ?marker, fun same hstage => ?read, fun hstage => ?late⟩
  case idle => exact (exec_commitStepTimeout s hrun).trans (congrArg _ (if_neg (by simp [h2, h5, h6])))
  case start =>
    have hgo : ¬ (s.led.stage ≠ 1 ∨ s.ser.job.isSome = true ∨ s.gated = true) := by simp [hstage, hjob, hgated]
    exact ⟨_, (exec_commitStart s hrun).trans (congrArg _ (if_neg hgo)), commitStart_facts s _ rfl⟩
  case erase => exact ⟨_, (exec_sectorEraseComplete s hrun).trans (congrArg _ (if_pos hstage)), eraseSlot_facts s _ rfl⟩
  case capture =>
    obtain ⟨u, v, t, r, k, hu, hnow, hreg, hv, rfl, hrest⟩ := capture_facts s hcanon
    exact ⟨u, v, _, r, k, hu, hnow, hreg, hv, (exec_ledgerCapture s hrun).trans (congrArg _ (if_pos hstage)), hrest⟩
  case sign =>
    subst hn hbody
    have hexec := (exec_recordSigned s hrun).trans (congrArg _ (if_pos hstage))
    refine ⟨fun hroom => ⟨_, hexec.trans (congrArg _ (if_pos hroom)), s.stageSigned_facts _ _ rfl⟩, fun hroom => ?_⟩
    exact hexec.trans (congrArg _ (if_neg (ne_true_of_eq_false hroom)))
  case program => exact ⟨_, (exec_recordProgrammed s hrun).trans (congrArg _ (if_pos hstage)), s.programStaged_facts _ rfl⟩
  case marker => exact ⟨_, (exec_markerProgrammed s hrun).trans (congrArg _ (if_pos hstage)), programMarker_facts s _ rfl⟩
  case read => exact ⟨_, (exec_readbackCompare s same hrun).trans (congrArg _ (if_pos hstage)), judgeReadBack_facts s same _ rfl⟩
  case late => exact ⟨_, (exec_commitStepTimeout s hrun).trans (congrArg _ (if_pos hstage)), commitStepTimeout_facts s _ rfl⟩

end Sys2Proof.Proofs
end
section
/-! PROOF. The ledger scan of BOOT (R265, R266): the slot it loads, and what it leaves. -/

namespace Sys2Proof.Machine

open Sys2Proof

/-! ### The slots -/

/-- The record to load depends on the flash and on where the slots lie. -/
theorem State.bestSlot_of_flash {s t : State} (hflash : t.flash = s.flash) (haddr : ∀ k, t.slotAddr k = s.slotAddr k) :
    t.bestSlot = s.bestSlot := by
  have hread : t.flashRead = s.flashRead := funext₂ (State.flashRead_of_flash hflash)
  have hslot (k : Nat) : t.slotRecord k = s.slotRecord k := by unfold State.slotRecord State.imgN; rw [hread, haddr]
  simp only [State.bestSlot, hslot]

/-- There are two slots. -/
theorem State.bestSlot_lt {s : State} {k : Nat} {b : List Byte} (h : s.bestSlot = some (k, b)) : k < 2 := by
  unfold State.bestSlot at h
  split at h
  · split at h
    · cases h; exact Nat.one_lt_two
    · cases h; exact Nat.zero_lt_two
  · cases h; exact Nat.zero_lt_two
  · cases h; exact Nat.one_lt_two
  · cases h

/-- Both slots are erased. -/
def State.blankSlots (s : State) : Bool := [0, 1].all fun k => (s.flashRead (s.slotAddr k) 4096).all (· == 0xFF#8)

theorem State.blankSlots_of_flash {s t : State} (hflash : t.flash = s.flash) (haddr : ∀ k, t.slotAddr k = s.slotAddr k) :
    t.blankSlots = s.blankSlots := by
  simp only [State.blankSlots, State.flashRead_of_flash hflash, haddr]

/-! ### The accumulators -/

/-- From `s` to `t` only registers and check bits change, and of the registers only the accumulators' words. -/
def Zoned (s t : State) : Prop := (∃ r c, t = { s with regs := r, chk := c }) ∧ ∀ i, i < 0x1840 → t.reg i = s.reg i

theorem Zoned.refl (s : State) : Zoned s s := ⟨⟨_, _, rfl⟩, fun _ _ => rfl⟩

theorem Zoned.trans {s t u : State} (h : Zoned s t) (g : Zoned t u) : Zoned s u := by
  obtain ⟨⟨_, _, rfl⟩, hreg⟩ := h
  obtain ⟨⟨r, c, e⟩, hreg'⟩ := g
  exact ⟨⟨r, c, e⟩, fun i hi => (hreg' i hi).trans (hreg i hi)⟩

theorem Zoned.foldl {α : Type} {f : State → α → State} {l : List α} (h : ∀ v, ∀ x ∈ l, Zoned v (f v x)) (s : State) :
    Zoned s (l.foldl f s) := by
  induction l generalizing s with
  | nil => exact .refl s
  | cons x l ih => exact (h s x List.mem_cons_self).trans (ih (fun v y hy => h v y (List.mem_cons_of_mem x hy)) (f s x))

theorem State.sramWrite_zoned (s : State) {a : Nat} (w : Word) (h : sramReg a = true) (ha : 0x1840 ≤ a) : Zoned s (s.sramWrite a w) := by
  rw [State.sramWrite, s.sramPut_reg h]
  exact ⟨⟨_, _, rfl⟩, fun i hi => (s.reg_setReg a i w).trans (if_neg fun e => absurd (e ▸ hi) (Nat.not_lt.2 ha))⟩

theorem State.writeVolEst_zoned (s : State) {z : Nat} (hz : z < 64) (v e : Word) :
    Zoned s ((s.sramWrite (F.LDG_VOLz_w z).addr v).sramWrite (F.LDG_ESTz_w z).addr e) := by
  obtain ⟨hvol, hest, -⟩ := sramReg_zone z hz
  exact (s.sramWrite_zoned v hvol (by show 0x1840 ≤ 0x1840 + z; omega)).trans
    (State.sramWrite_zoned _ e hest (by show 0x1840 ≤ 0x18C0 + z; omega))

/-! ### The two outcomes -/

/-- The accumulators start at 0. -/
def State.clearZones (s : State) : State :=
  (List.range 64).foldl (fun (s : State) z => (s.sramWrite (F.LDG_VOLz_w z).addr 0).sramWrite (F.LDG_ESTz_w z).addr 0) s

theorem State.clearZones_zoned (s : State) : Zoned s s.clearZones :=
  .foldl (fun v _ hz => v.writeVolEst_zoned (List.mem_range.1 hz) 0 0) s

/-- The fields that a record loaded fills. -/
def State.loadFields (s : State) (k : Nat) (b : List Byte) : State :=
  let s := (s.setFld F.LDG_CF_CF (bytesAt b 30 4)).setFld F.LDG_CFDAY_DAY (bytesAt b 34 2)
  let s := (s.setFld F.LDG_MUSE_MUSE (bytesAt b 36 5)).setFld F.LDG_MLIMIT_MLIMIT (bytesAt b 41 5)
  (s.setFld F.LDG_SEQ_SEQ (recSeqOf b)).setFld F.LDG_STAT_LAST k

/-- From `s` to `t` the flash, the clock and RAW stay. -/
structure Scanned (s t : State) : Prop where
  flash : t.flash = s.flash
  clk : t.clk = s.clk
  raw : t.fld F.LDG_RAW_RAW = s.fld F.LDG_RAW_RAW

theorem Scanned.trans {s t u : State} (h : Scanned s t) (g : Scanned t u) : Scanned s u :=
  ⟨g.flash.trans h.flash, g.clk.trans h.clk, g.raw.trans h.raw⟩

theorem Zoned.scanned {s t : State} (h : Zoned s t) : Scanned s t := by
  obtain ⟨⟨_, _, rfl⟩, hreg⟩ := h
  exact ⟨rfl, rfl, State.fld_of_reg _ (hreg _ (by decide))⟩

theorem State.setFld_scanned (s : State) (f : Fld) (v : Nat) (h : F.LDG_RAW_RAW.addr ≠ f.addr) : Scanned s (s.setFld f v) :=
  ⟨rfl, rfl, s.fld_setFld_ne f _ v h⟩

theorem State.setLed_scanned (s : State) (l : LedSt) : Scanned s (s.setLed l) := ⟨rfl, rfl, rfl⟩

theorem State.loadFields_scanned (s : State) (k : Nat) (b : List Byte) : Scanned s (s.loadFields k b) :=
  (((((s.setFld_scanned _ _ (by decide)).trans (State.setFld_scanned _ _ _ (by decide))).trans
    (State.setFld_scanned _ _ _ (by decide))).trans (State.setFld_scanned _ _ _ (by decide))).trans
    (State.setFld_scanned _ _ _ (by decide))).trans (State.setFld_scanned _ _ _ (by decide))

theorem State.loadFields_fld (s : State) {k : Nat} (hk : k < 2) (b : List Byte) :
    (s.loadFields k b).fld F.LDG_STAT_LAST = k ∧ (s.loadFields k b).fld F.LDG_SEQ_SEQ = recSeqOf b ∧
      (s.loadFields k b).fld F.LDG_CF_CF = bytesAt b 30 4 := by
  refine ⟨(State.fld_setFld_same _ _ _ rfl).trans (Nat.mod_eq_of_lt hk), ?_, ?_⟩
  · exact ((State.fld_setFld_ne _ _ _ _ (by decide)).trans (State.fld_setFld_same _ _ _ rfl)).trans
      (Nat.mod_eq_of_lt (bytesAt_lt b 4 4))
  · exact ((((((State.fld_setFld_ne _ _ _ _ (by decide)).trans (State.fld_setFld_ne _ _ _ _ (by decide))).trans
      (State.fld_setFld_ne _ _ _ _ (by decide))).trans (State.fld_setFld_ne _ _ _ _ (by decide))).trans
      (State.fld_setFld_ne _ _ _ _ (by decide))).trans (State.fld_setFld_same _ _ _ rfl)).trans
      (Nat.mod_eq_of_lt (bytesAt_lt b 30 4))

/-- Record `b` of slot `k` is loaded (R265). -/
def State.scanLoads (s : State) (k : Nat) (b : List Byte) : State := (s.loadRecord k b).setFld F.LDG_STAT_BOOTRES 0

/-- A record loaded: its accumulators and limits, its fields, and the ledger's own part. -/
theorem State.loadRecord_eq (s : State) (k : Nat) (b : List Byte) :
    ∃ u l, Zoned s u ∧ l.last = b ∧ s.loadRecord k b = (u.loadFields k b).setLed l := by
  unfold State.loadRecord
  extract_lets u u1 u2 u3
  have hz : Zoned s u := .foldl (fun v z hz => by
    obtain ⟨-, -, hlim⟩ := sramReg_zone z (List.mem_range.1 hz)
    split
    exact (v.writeVolEst_zoned (List.mem_range.1 hz) _ _).trans
      (State.sramWrite_zoned _ _ hlim (by show 0x1840 ≤ 0x1880 + z; omega))) s
  have hfields : u3 = u.loadFields k b := rfl
  clear_value u u3
  refine ⟨u, { u3.led with seq := recSeqOf b, last := b, prev := (u3.slotRecord (1 - k)).getD [] }, hz, rfl, ?_⟩
  rw [← hfields]

/-- Entering the ledger's own part and BOOTRES leaves the other fields. -/
theorem State.setLed_bootres (s : State) (l : LedSt) {x : Nat} (hx : x < 4) : ∀ t, t = (s.setLed l).setFld F.LDG_STAT_BOOTRES x →
    Scanned s t ∧ t.led = l ∧ t.fld F.LDG_STAT_BOOTRES = x ∧
      ∀ f ∈ [F.LDG_STAT_LAST, F.LDG_SEQ_SEQ, F.LDG_CF_CF], t.fld f = s.fld f := by
  rintro t rfl
  refine ⟨(s.setLed_scanned l).trans ((s.setLed l).setFld_scanned _ _ (by decide)), rfl,
    ((s.setLed l).fld_setFld_same F.LDG_STAT_BOOTRES x rfl).trans (Nat.mod_eq_of_lt hx), fun f hf => ?_⟩
  have hd : f.addr ≠ 0x1801 ∨ f.hi < 8 := by revert f; decide
  obtain hne | hlo := hd
  · exact (s.setLed l).fld_setFld_ne F.LDG_STAT_BOOTRES f x hne
  · exact (s.setLed l).fld_setFld_disj F.LDG_STAT_BOOTRES f x rfl (.inl hlo)

theorem State.scanLoads_facts (s : State) {k : Nat} (hk : k < 2) (b : List Byte) : ∀ t, t = s.scanLoads k b → Scanned s t ∧
    t.fld F.LDG_STAT_BOOTRES = 0 ∧ t.fld F.LDG_STAT_LAST = k ∧ t.fld F.LDG_SEQ_SEQ = recSeqOf b ∧
      t.fld F.LDG_CF_CF = bytesAt b 30 4 ∧ t.led.last = b := by
  rintro t ht
  obtain ⟨z, l, hz, hl, e⟩ := s.loadRecord_eq k b
  obtain ⟨hlast, hseq, hcf⟩ := z.loadFields_fld hk b
  have hs := hz.scanned.trans (z.loadFields_scanned k b)
  obtain ⟨hset, hled, hres, hfld⟩ := (z.loadFields k b).setLed_bootres l (x := 0) (by decide) t (by rw [ht, State.scanLoads, e])
  exact ⟨hs.trans hset, hres, (hfld _ (by decide)).trans hlast, (hfld _ (by decide)).trans hseq, (hfld _ (by decide)).trans hcf,
    (congrArg LedSt.last hled).trans hl⟩

/-- CF is 1.0, SEQ and the accumulators are 0 (R266). -/
def State.freshFields (s : State) : State := ((s.setFld F.LDG_CF_CF 0x1000000).setFld F.LDG_SEQ_SEQ 0).clearZones

/-- The ledger starts afresh (R266). -/
def State.startFresh (s : State) (blank : Bool) : State :=
  (s.freshFields.setLed { s.freshFields.led with seq := 0, last := [], prev := [], genesis := blank, restart := !blank }).setFld
    F.LDG_STAT_BOOTRES (if blank then 1 else 2)

/-- No valid record stands: the ledger starts afresh, and a restart over slots that are not blank is reported (R266). -/
def State.scanFresh (s : State) (blank : Bool) : State :=
  if blank then s.startFresh blank else (s.startFresh blank).report srcLedRestart 0

theorem State.freshFields_facts (s : State) : Scanned s s.freshFields ∧ s.freshFields.fld F.LDG_SEQ_SEQ = 0 ∧
    s.freshFields.fld F.LDG_CF_CF = 0x1000000 := by
  have hz := ((s.setFld F.LDG_CF_CF 0x1000000).setFld F.LDG_SEQ_SEQ 0).clearZones_zoned
  have hs : Scanned s ((s.setFld F.LDG_CF_CF 0x1000000).setFld F.LDG_SEQ_SEQ 0) :=
    (s.setFld_scanned _ _ (by decide)).trans (State.setFld_scanned _ _ _ (by decide))
  have hcf : ((s.setFld F.LDG_CF_CF 0x1000000).setFld F.LDG_SEQ_SEQ 0).fld F.LDG_CF_CF = 0x1000000 :=
    (State.fld_setFld_ne _ F.LDG_SEQ_SEQ F.LDG_CF_CF 0 (by decide)).trans (s.fld_setFld_same F.LDG_CF_CF _ rfl)
  exact ⟨hs.trans hz.scanned, (State.fld_of_reg F.LDG_SEQ_SEQ (hz.2 _ (by decide))).trans (State.fld_setFld_same _ F.LDG_SEQ_SEQ 0 rfl),
    (State.fld_of_reg F.LDG_CF_CF (hz.2 _ (by decide))).trans hcf⟩

theorem State.startFresh_facts (s : State) (blank : Bool) : ∀ t, t = s.startFresh blank → Scanned s t ∧
    t.fld F.LDG_SEQ_SEQ = 0 ∧ t.fld F.LDG_CF_CF = 0x1000000 ∧ t.led.last = [] ∧
      t.fld F.LDG_STAT_BOOTRES = (if blank then 1 else 2) := by
  rintro t rfl
  obtain ⟨hs, hseq, hcf⟩ := s.freshFields_facts
  obtain ⟨hset, hled, hres, hfld⟩ := s.freshFields.setLed_bootres _ (x := if blank then 1 else 2) (by split <;> decide) _ rfl
  exact ⟨hs.trans hset, (hfld _ (by decide)).trans hseq, (hfld _ (by decide)).trans hcf, congrArg LedSt.last hled, hres⟩

/-- The report of a restart leaves the ledger. -/
theorem State.report_restart (s : State) : ∀ t, t = s.report srcLedRestart 0 →
    Scanned s t ∧ t.led = s.led ∧ ∀ f : Fld, 0x800 ≤ f.addr → t.fld f = s.fld f := by
  rintro t rfl
  have hfld {f : Fld} (hf : 0x800 ≤ f.addr) : (s.report srcLedRestart 0).fld f = s.fld f := s.report_fld 0 (by decide) hf
  obtain ⟨⟨_, _, _, _, _, e⟩, -⟩ := s.report_reported srcLedRestart 0
  exact ⟨⟨by rw [e], by rw [e], hfld (by decide)⟩, by rw [e], fun f => hfld⟩

theorem State.scanFresh_facts (s : State) (blank : Bool) : ∀ t, t = s.scanFresh blank → Scanned s t ∧
    t.fld F.LDG_SEQ_SEQ = 0 ∧ t.fld F.LDG_CF_CF = 0x1000000 ∧ t.led.last = [] ∧
      t.fld F.LDG_STAT_BOOTRES = (if blank then 1 else 2) := by
  intro t ht
  obtain ⟨hs, hseq, hcf, hlast, hres⟩ := s.startFresh_facts blank _ rfl
  unfold State.scanFresh at ht
  generalize s.startFresh blank = u at *
  split at ht
  · exact ht ▸ ⟨hs, hseq, hcf, hlast, hres⟩
  · obtain ⟨hrep, hled, hfld⟩ := u.report_restart t ht
    exact ⟨hs.trans hrep, (hfld _ (by decide)).trans hseq, (hfld _ (by decide)).trans hcf, (congrArg LedSt.last hled).trans hlast,
      (hfld _ (by decide)).trans hres⟩

/-! ### The scan -/

/-- The instant the scan ends, with RAW at 0. -/
def State.scanEnds (s : State) : State :=
  ((s.draw (msClocks 60)).2.advCcTo (s.boot.at_ + (s.draw (msClocks 60)).1 + 1)).setFld F.LDG_RAW_RAW 0

/-- What the scan finds. -/
def State.scanSlots (s : State) : State :=
  match s.bestSlot with
  | some (k, b) => s.scanLoads k b
  | none => s.scanFresh s.blankSlots

theorem State.scanEnds_facts (s : State) : s.scanEnds.flash = s.flash ∧
    s.scanEnds.clk.cc ≤ max s.clk.cc (s.boot.at_ + msClocks 60) ∧ s.scanEnds.fld F.LDG_RAW_RAW = 0 ∧
      ∀ k, s.scanEnds.slotAddr k = s.slotAddr k := by
  have hdraw : (s.draw (msClocks 60)).1 < msClocks 60 := Nat.mod_lt _ (by decide)
  unfold State.scanEnds
  generalize (s.draw (msClocks 60)).1 = d at hdraw ⊢
  have hreg (i : Nat) (h : 0x1800 ≤ i) (h' : i < 0x1808) :
      (((s.draw (msClocks 60)).2.advCcTo (s.boot.at_ + d + 1)).setFld F.LDG_RAW_RAW 0).reg i = s.reg i :=
    (State.reg_setFld_ne _ F.LDG_RAW_RAW 0 (by show i ≠ 0x180E; omega)).trans (State.advCcTo_reg _ _ (by omega))
  have hcc := (s.draw (msClocks 60)).2.advCcTo_cc (s.boot.at_ + d + 1)
  refine ⟨?_, ?_, State.fld_setFld_same _ _ _ rfl, State.slotAddr_of_reg hreg⟩
  · obtain ⟨r, k, e⟩ := (s.draw (msClocks 60)).2.advCcTo_same (s.boot.at_ + d + 1)
    rw [e]; rfl
  · rw [State.setFld_clk, hcc, State.draw_clk]
    exact max_le_max (Nat.le_refl _) (by omega)

/-- LEDGER_SCAN in its step. -/
theorem exec_ledgerScan (s : State) (hrun : s.boot.halted = false) (hmode : s.modeNow = modeBoot) (hstep : s.fld F.MOD_BOOT_STEP = 5) :
    exec .ledgerScan s = .next (s.scanEnds.scanSlots.bootStep 6) := by
  show execLedgerScan s = _
  have hgo : ¬ (!(s.modeNow = modeBoot && s.fld F.MOD_BOOT_STEP = 5)) = true := by simp [hmode, hstep]
  rw [execLedgerScan, s.clocked_running _ hrun]
  refine (if_neg hgo).trans ?_
  rfl

/-- The scan ends in step 6. -/
theorem State.bootStep_facts (s : State) : (s.bootStep 6).fld F.MOD_BOOT_STEP = 6 ∧ (s.bootStep 6).boot.at_ = (s.bootStep 6).clk.cc ∧
    (s.bootStep 6).clk = s.clk ∧ (s.bootStep 6).flash = s.flash ∧ (s.bootStep 6).led = s.led ∧
      ∀ f : Fld, f.addr ≠ 0x112 → (s.bootStep 6).fld f = s.fld f :=
  ⟨s.bootStep_step (by decide), rfl, rfl, rfl, rfl, fun f hf => State.fld_of_reg f (s.bootStep_reg 6 hf)⟩

/-- A scan that loads record `b` of slot `k`. -/
theorem State.scanSlots_loads {s : State} {k : Nat} {b : List Byte} (h : s.bestSlot = some (k, b)) : s.scanSlots = s.scanLoads k b := by
  rw [State.scanSlots, h]

theorem State.scanSlots_fresh {s : State} (h : s.bestSlot = none) : s.scanSlots = s.scanFresh s.blankSlots := by
  rw [State.scanSlots, h]

theorem State.scanSlots_scanned (s : State) : Scanned s s.scanSlots := by
  cases h : s.bestSlot with
  | none => rw [State.scanSlots_fresh h]; exact (s.scanFresh_facts _ _ rfl).1
  | some kb => rw [State.scanSlots_loads h]; exact (s.scanLoads_facts (State.bestSlot_lt h) _ _ rfl).1

theorem ledgerScan_facts (s : State) : ∀ t, t = s.scanEnds.scanSlots.bootStep 6 → t.fld F.MOD_BOOT_STEP = 6 ∧ t.boot.at_ = t.clk.cc ∧
    t.clk.cc ≤ max s.clk.cc (s.boot.at_ + msClocks 60) ∧ t.fld F.LDG_RAW_RAW = 0 ∧ t.flash = s.flash ∧
    (∀ k b, s.bestSlot = some (k, b) → t.fld F.LDG_STAT_BOOTRES = 0 ∧ t.fld F.LDG_STAT_LAST = k ∧
      t.fld F.LDG_SEQ_SEQ = recSeqOf b ∧ t.fld F.LDG_CF_CF = bytesAt b 30 4 ∧ t.led.last = b) ∧
    (s.bestSlot = none → t.fld F.LDG_SEQ_SEQ = 0 ∧ t.fld F.LDG_CF_CF = 0x1000000 ∧ t.led.last = [] ∧
      t.fld F.LDG_STAT_BOOTRES = (if s.blankSlots then 1 else 2)) := by
  rintro t rfl
  obtain ⟨hflash, hcc, hraw, haddr⟩ := s.scanEnds_facts
  have hbest := State.bestSlot_of_flash hflash haddr
  have hscan := s.scanEnds.scanSlots_scanned
  obtain ⟨hstep, hat, hclk, hfl, hled, hfld⟩ := s.scanEnds.scanSlots.bootStep_facts
  refine ⟨hstep, hat, ?_, ((hfld _ (by decide)).trans hscan.raw).trans hraw, (hfl.trans hscan.flash).trans hflash,
    fun k b h => ?_, fun h => ?_⟩
  · rw [hclk, hscan.clk]
    exact hcc
  · obtain ⟨-, hloads⟩ := s.scanEnds.scanLoads_facts (State.bestSlot_lt h) b _ rfl
    rw [hfld _ (by decide), hfld _ (by decide), hfld _ (by decide), hfld _ (by decide), hled, State.scanSlots_loads (hbest.trans h)]
    exact hloads
  · obtain ⟨-, hfresh⟩ := s.scanEnds.scanFresh_facts s.scanEnds.blankSlots _ rfl
    rw [hfld _ (by decide), hfld _ (by decide), hfld _ (by decide), hled, State.scanSlots_fresh (hbest.trans h),
      ← State.blankSlots_of_flash hflash haddr]
    exact hfresh

end Sys2Proof.Machine
end
section
/-! PROOF. What leaves the entry of MOD_STAT: the relation `SameEntry s t`, how it composes, and the shared operations it holds of. -/

namespace Sys2Proof.Machine

open Sys2Proof

/-! ### The relation -/

/-- The fields that show a change of mode (R371). -/
def entryFields : List Fld := [F.MOD_STAT_MODE, F.MOD_STAT_PREV, F.MOD_STAT_CAUSE]

/-- From `s` to `t` the last change of mode stays as shown, and so do the analog inputs' modes and the start of BOOT. -/
structure SameEntry (s t : State) : Prop where
  shown : ∀ f ∈ entryFields, t.fld f = s.fld f
  analog : t.ctl.aiMode = s.ctl.aiMode
  start : t.boot.start = s.boot.start

theorem entryFields_addr : ∀ f ∈ entryFields, f.addr = 0x100 := by decide

section
variable {s t u : State}

theorem SameEntry.refl (s : State) : SameEntry s s := ⟨fun _ _ => rfl, rfl, rfl⟩

theorem SameEntry.trans (h : SameEntry s t) (g : SameEntry t u) : SameEntry s u :=
  ⟨fun f hf => (g.shown f hf).trans (h.shown f hf), g.analog.trans h.analog, g.start.trans h.start⟩

theorem SameEntry.ite {c : Prop} [Decidable c] (h : SameEntry s t) (g : SameEntry s u) : SameEntry s (if c then t else u) := by
  split
  · exact h
  · exact g

theorem SameEntry.foldl {α : Type} {f : State → α → State} (h : SameEntry s t) (hf : ∀ v x, SameEntry v (f v x)) (l : List α) :
    SameEntry s (l.foldl f t) := by
  induction l generalizing t with
  | nil => exact h
  | cons x l ih => exact ih (h.trans (hf t x))

/-- What leaves MOD_STAT. -/
theorem SameEntry.of_reg (h : SameEntry s t) (hreg : u.reg 0x100 = t.reg 0x100) (hctl : u.ctl.aiMode = t.ctl.aiMode)
    (hboot : u.boot = t.boot) : SameEntry s u :=
  h.trans ⟨fun f hf => State.fld_of_reg f (by rw [entryFields_addr f hf, hreg]), hctl, by rw [hboot]⟩

/-- What leaves the registers. -/
theorem SameEntry.same (h : SameEntry s t) (hregs : u.regs = t.regs) (hctl : u.ctl.aiMode = t.ctl.aiMode) (hboot : u.boot = t.boot) :
    SameEntry s u := h.of_reg (congrArg (spGet resetWord · 0x100) hregs) hctl hboot

theorem SameEntry.setReg (h : SameEntry s t) {a : Nat} {w : Word} (ha : a ≠ 0x100) : SameEntry s (t.setReg a w) :=
  h.of_reg ((t.reg_setReg a 0x100 w).trans (if_neg ha.symm)) rfl rfl

theorem SameEntry.setFld (h : SameEntry s t) {f : Fld} {x : Nat} (ha : f.addr ≠ 0x100) : SameEntry s (t.setFld f x) := h.setReg ha

theorem SameEntry.setFlag (h : SameEntry s t) {f : Fld} {b : Bool} (ha : f.addr ≠ 0x100) : SameEntry s (t.setFlag f b) := h.setReg ha

/-- A flag of MOD_STAT itself. -/
theorem SameEntry.setStat (h : SameEntry s t) {f : Fld} {b : Bool} (hok : f.ok = true)
    (hd : ∀ g ∈ entryFields, g.hi < f.lo ∨ f.hi < g.lo) : SameEntry s (t.setFlag f b) :=
  h.trans ⟨fun g hg => t.fld_setFld_disj f g _ hok (hd g hg), rfl, rfl⟩

theorem SameEntry.raise (h : SameEntry s t) {f : Fld} (ha : f.addr ≠ 0x100) : SameEntry s (t.raise f) :=
  (h.setFlag ha : SameEntry s (t.setFlag f true)).same rfl rfl rfl

theorem SameEntry.found (h : SameEntry s t) {A : Nat → Prop} (g : Found A t u) (hA : ¬ A 0x100) : SameEntry s u := by
  obtain ⟨⟨_, _, _, _, _, _, rfl⟩, hreg⟩ := g
  exact h.of_reg (hreg _ hA) rfl rfl

theorem SameEntry.reported (h : SameEntry s t) {A : List Nat} (g : Reported A t u) (hA : 0x100 ∉ A) : SameEntry s u :=
  h.found (Found.reported (A := (· ∈ A)) g fun _ hi => hi) hA

theorem entry_not_reported (src : Nat) : 0x100 ∉ reportRegs src := by
  simp only [reportRegs, F.FSV_SRCs_STAT_w, F.EVS_Qn_ERR_w, List.mem_cons, List.not_mem_nil, or_false]
  omega

theorem SameEntry.reportAt (h : SameEntry s t) (src inst addr : Nat) : SameEntry s (t.reportAt src inst addr) :=
  h.reported (t.reportAt_reported src inst addr) (entry_not_reported src)

theorem SameEntry.report (h : SameEntry s t) (src inst : Nat) : SameEntry s (t.report src inst) := h.reportAt src inst _

theorem SameEntry.draw (h : SameEntry s t) (n : Nat) : SameEntry s (t.draw n).2 := h.same rfl rfl rfl

theorem SameEntry.setLed (h : SameEntry s t) (l : LedSt) : SameEntry s (t.setLed l) := h.same rfl rfl rfl

theorem SameEntry.advCcTo (h : SameEntry s t) (c : Nat) : SameEntry s (t.advCcTo c) := by
  have hreg := t.advCcTo_reg c (i := 0x100) (by decide)
  obtain ⟨r, k, e⟩ := t.advCcTo_same c
  exact h.of_reg hreg (by rw [e]) (by rw [e])

/-! ### Words of memory -/

theorem SameEntry.sramPut (h : SameEntry s t) (a : Nat) (w : Word) (c : Nat) : SameEntry s (t.sramPut a w c) := by
  have hslot (r i : Nat) : SameEntry s (t.putSlot r i w c) := .ite (h.same rfl rfl rfl) (.ite (h.same rfl rfl rfl) (h.same rfl rfl rfl))
  have hmem : SameEntry s (t.setMemWord a w) := by
    obtain ⟨m, e⟩ := t.setMemWord_same a w
    rw [e]
    exact h.same rfl rfl rfl
  unfold State.sramPut
  split
  · exact hslot _ _
  · split
    · next hreg => exact (h.setReg fun e => absurd (e ▸ hreg) (by decide) : SameEntry s (t.setReg a w)).same rfl rfl rfl
    · exact hmem.same rfl rfl rfl

theorem SameEntry.sramRead (h : SameEntry s t) (a req : Nat) : SameEntry s (t.sramRead a req).2.2 := by
  have hcheck (v : State) (c : Nat) (hv : SameEntry s v) : SameEntry s (v.checkRead c req a).2.2 :=
    hv.found (v.checkRead_found c req a) fun hp => by
      simp only [ParityReg, reportRegs, srcParity, F.FSV_SRCs_STAT_w, F.EVS_Qn_ERR_w, List.mem_append, List.mem_cons,
        List.not_mem_nil, or_false] at hp
      omega
  unfold State.sramRead
  dsimp only
  split
  · exact h
  · exact hcheck _ _ (.ite h (h.sramPut ..))

/-! ### Commits, the port and frames -/

theorem SameEntry.trigger (h : SameEntry s t) (r : Nat) : SameEntry s (t.trigger r) := by
  have hreg := (t.trigger_spares r).reg 0x100 fun e : 0x100 = 0x1801 => absurd e (by decide)
  obtain ⟨g, l, e, -⟩ := t.trigger_same r
  exact h.of_reg hreg (by rw [e]) (by rw [e])

theorem SameEntry.startCommit (h : SameEntry s t) : SameEntry s t.startCommit := by
  have hshown : ∀ f ∈ entryFields, t.startCommit.fld f = t.fld f := fun f hf =>
    t.startCommit_fld (by revert f; decide)
  obtain ⟨r, l, e⟩ := t.startCommit_same
  exact h.trans ⟨hshown, by rw [e], by rw [e]⟩

theorem SameEntry.nextJob (h : SameEntry s t) : SameEntry s t.nextJob := by
  obtain ⟨x, e⟩ := t.nextJob_same
  rw [e]
  exact h.same rfl rfl rfl

theorem SameEntry.pushTx (h : SameEntry s t) (ring dst cls : Nat) (bc : Bool) (payload : List Byte) :
    SameEntry s (t.pushTx ring dst cls bc payload) := by
  have hpush (v : State) (hv : SameEntry s v) (p : TxWait) (ws : List Word) : SameEntry s (v.pushItem p.ring ws []) :=
    hv.reported (v.pushItem_reported [] p.ring ws []) List.not_mem_nil
  have hhost (v : State) (hv : SameEntry s v) (l : LnkSt) (x : Nat) :
      SameEntry s (({ v with lnk := l } : State).setFld F.SLK_HSTAT_SEQ x) :=
    (hv.same rfl rfl rfl : SameEntry s ({ v with lnk := l } : State)).setFld (by decide)
  have hseq (x : Nat) : SameEntry s (t.setFld F.SLK_STAT_SEQ x) := h.setFld (by decide)
  unfold State.pushTx State.offerTx State.admitTx
  exact .ite (hpush _ (.ite (hhost _ (hseq _) _ _) (hseq _)) _ _) (h.same rfl rfl rfl)

theorem SameEntry.msgAll (h : SameEntry s t) (ring : Nat) (payload : List Byte) : SameEntry s (t.msgAll ring payload) :=
  h.foldl (fun v n => (SameEntry.refl v).pushTx ring n clsMsg false payload) _

end

end Sys2Proof.Machine
end
section
/-! PROOF. The operations on channels and stages that leave the entry of MOD_STAT, up to the first step of a DORMANT entry
(R165, R182, R184, R387). -/

namespace Sys2Proof.Machine

open Sys2Proof

section
variable {s t u : State}

/-! ### Channels -/

theorem entryFields_undriven (ns : List Nat) : ∀ f ∈ entryFields, f.Undriven ns := by
  intro f hf n _
  rw [entryFields_addr f hf]
  simp only [driveRegs, F.VDA_CHn_STAT_STATE, List.mem_cons, List.not_mem_nil, or_false]
  omega

theorem SameEntry.drives (h : SameEntry s t) {ns : List Nat} (g : Drives ns t u) : SameEntry s u := by
  obtain ⟨⟨r, v, c, rfl⟩, -, hfld⟩ := g
  exact h.trans ⟨fun f hf => hfld f (entryFields_undriven ns f hf), rfl, rfl⟩

theorem SameEntry.modValve (h : SameEntry s t) (n : Nat) (g : ValveSt → ValveSt) : SameEntry s (t.modValve n g) := h.same rfl rfl rfl

section
variable {n : Nat}

theorem SameEntry.dropOdet (h : SameEntry s t) : SameEntry s (t.dropOdet n) := h.modValve n _

theorem SameEntry.dropCdet (h : SameEntry s t) : SameEntry s (t.dropCdet n) := h.drives (t.dropCdet_drives (List.mem_singleton_self n))

theorem SameEntry.creditTurnOff (h : SameEntry s t) : SameEntry s (t.creditTurnOff n) :=
  h.drives (t.creditTurnOff_drives (List.mem_singleton_self n))

theorem SameEntry.intoSafe (h : SameEntry s t) : SameEntry s (t.intoSafe n) := h.drives (t.intoSafe_drives (List.mem_singleton_self n))

theorem SameEntry.turnOff (h : SameEntry s t) : SameEntry s (t.turnOff n) := h.drives (t.turnOff_drives (List.mem_singleton_self n))

theorem SameEntry.turnOffUnknown (h : SameEntry s t) : SameEntry s (t.turnOffUnknown n) := by
  have hlost (v : State) (hv : SameEntry s v) (g : ValveSt → ValveSt) : SameEntry s ((v.modValve n g).stopProgram n) :=
    (hv.modValve n g).drives (State.stopProgram_drives _ (List.mem_singleton_self n))
  exact hlost _ (h.dropOdet.modValve n _) _

theorem SameEntry.noteError (h : SameEntry s t) (code : Nat) : SameEntry s (t.noteError n code) := by
  have hserr : 0xB40 + n ≠ 0x100 := by omega
  unfold State.noteError
  exact .setFld (.setFld (.setFld (.raise h hserr) hserr) hserr) hserr

theorem SameEntry.poisonOff (h : SameEntry s t) : SameEntry s (t.poisonOff n) := by
  have hoff : SameEntry s (if t.isBridge n then t.turnOffUnknown n else (t.creditTurnOff n).dropOdet n |>.dropCdet n) :=
    .ite h.turnOffUnknown h.creditTurnOff.dropOdet.dropCdet
  have htold (v : State) (hv : SameEntry s v) : SameEntry s ((v.intoSafe n).tellClosed n) := hv.intoSafe.modValve n _
  have hrec (v : State) (hv : SameEntry s v) (inst addr : Nat) : SameEntry s (v.unknownRec srcPoisEvent inst addr) :=
    hv.reported (v.faultRec_reported srcPoisEvent _ evUnknown addr) (entry_not_reported _)
  unfold State.poisonOff
  exact .reportAt (.ite (hrec _ (htold _ hoff) _ _) (htold _ hoff)) ..

theorem SameEntry.poisonStop (h : SameEntry s t) : SameEntry s (t.poisonStop n) := (h.noteError 11).poisonOff

theorem SameEntry.readSlot (h : SameEntry s t) (slot : Nat) : SameEntry s (t.readSlot n slot).2 := by
  have hread := h.sramRead (storeAddr n slot) reqSeq
  unfold State.readSlot
  dsimp only
  split
  · exact h
  · split
    · exact hread
    · split <;> exact hread

theorem SameEntry.beginProgram (h : SameEntry s t) (k slot pc : Nat) (recovery : Bool) :
    SameEntry s (t.beginProgram n k slot pc recovery) := by
  have hlat : 0x883 + 8 * n ≠ 0x100 := by omega
  have hseq : 0xB00 + n ≠ 0x100 := by omega
  have hrun : 0x818 + n / 8 ≠ 0x100 := by omega
  have hdet : SameEntry s (if k = kOpen then t.dropCdet n else t.dropOdet n) := .ite h.dropCdet h.dropOdet
  have hstate (v : State) (hv : SameEntry s v) (x : Nat) : SameEntry s (v.setChSt n x) :=
    hv.drives (.setChSt v (List.mem_singleton_self n) x)
  unfold State.beginProgram
  exact .modValve (.setFld (.setFld (.setFld (.setFld (.setFld (.setFld (.setFld (.setFld (.setFld (.setFld (hstate _
    (.ite (.setFld hdet hlat) (.setFld hdet.dropCdet hlat)) _) hseq) hseq) hseq) hseq) hseq) hseq) hseq) hseq) hseq) hrun) n _

theorem SameEntry.of_readSlot (h : SameEntry s t) {slot : Nat} {x : SlotRead × State} (e : t.readSlot n slot = x) :
    SameEntry s x.2 := e ▸ h.readSlot slot

theorem SameEntry.startClose (h : SameEntry s t) (prog : Nat) : SameEntry s (t.startClose n prog) := by
  unfold State.startClose
  dsimp only
  split
  · next e => exact (h.of_readSlot e).beginProgram ..
  · next e => exact (h.of_readSlot e).poisonStop
  · next e =>
    have hnoted := ((h.of_readSlot e).noteError (n := n) 10).report srcShapeErr n
    split
    · next e => exact (hnoted.of_readSlot e).beginProgram ..
    · next e => exact (hnoted.of_readSlot e).poisonOff
    · next e => exact (hnoted.of_readSlot e).turnOff

theorem SameEntry.issueClose (h : SameEntry s t) (d : Deferred) : SameEntry s (t.issueClose n d).2 := by
  have hlead : 0x483 + 4 * n ≠ 0x100 := by omega
  have hheld (g : ValveSt → ValveSt) : SameEntry s (outDeferred, t.modValve n g).2 := h.modValve n g
  unfold State.issueClose
  dsimp only
  split
  · exact h
  · split
    · exact h
    · split
      · split
        · exact hheld _
        · exact h
      · split
        · exact .startClose (.ite (h.setFld (f := F.PLN_CHn_LEAD_LEAD n) hlead) h) _
        · exact h

end

/-! ### Stages -/

theorem SameEntry.abortInj (h : SameEntry s t) : SameEntry s t.abortInj :=
  .ite ((h.setFlag (by decide)).raise (by decide)) h

theorem SameEntry.leaveRun (h : SameEntry s t) (k : Nat) : SameEntry s (t.leaveRun k) := by
  have hend : SameEntry s (if t.injStage = k then t.abortInj else t) := .ite h.abortInj h
  exact .ite (hend.setFld (by decide)) hend

theorem SameEntry.stageOff (h : SameEntry s t) (k : Nat) : SameEntry s (t.stageOff k) := by
  have hoff : SameEntry s ((t.leaveRun k).setFld (F.CTL_x_STAT_STATE k) csOff) :=
    (h.leaveRun k).setFld (by simp only [F.CTL_x_STAT_STATE]; omega)
  exact .ite h (hoff.same rfl rfl rfl)

theorem SameEntry.stagesForMode (h : SameEntry s t) : SameEntry s t.stagesForMode := by
  have hinj : SameEntry s (if t.modeNow = modeCommission then t else t.abortInj) := .ite h h.abortInj
  exact hinj.foldl (fun v k => .ite (.refl v) ((SameEntry.refl v).stageOff k)) _

theorem SameEntry.setOut (h : SameEntry s t) (d : Nat) (raw : Int) : SameEntry s (t.setOut d raw) := h.same rfl rfl rfl

theorem SameEntry.driveSafe (h : SameEntry s t) (k : Nat) : SameEntry s (t.driveSafe k) :=
  h.foldl (fun v _ => .ite ((SameEntry.refl v).setOut _ _) (.refl v)) _

/-! ### Planning and DORMANT -/

theorem SameEntry.startPlan (h : SameEntry s t) (k : Nat) : SameEntry s (t.startPlan k) := h.same rfl rfl rfl

theorem SameEntry.setMov (h : SameEntry s t) (n : Nat) (x : MovSt) : SameEntry s (t.setMov n x) := h.same rfl rfl rfl

theorem SameEntry.setTrans (h : SameEntry s t) (m : ModeSt) :
    SameEntry s ({ t.setFlag F.MOD_STAT_TRANS true with mode := m } : State) :=
  (h.setStat (f := F.MOD_STAT_TRANS) (b := true) rfl (by decide)).same rfl rfl rfl

theorem SameEntry.beginDormant (h : SameEntry s t) : SameEntry s t.beginDormant := by
  unfold State.beginDormant
  extract_lets u v w
  have hmovers : SameEntry s u := h.foldl (fun v n => .ite ((SameEntry.refl v).setMov n _) (.refl v)) _
  have hclosed : SameEntry s v := hmovers.foldl (fun v n => .ite ((SameEntry.refl v).issueClose _) (.refl v)) _
  exact (hclosed.setTrans _).trigger rsnDormant

end

end Sys2Proof.Machine
end
section
/-! PROOF. The role after BOOT leaves the entry of MOD_STAT: the exchange of keys and the takeover (R22, R256, R301, R318). -/

namespace Sys2Proof.Machine

open Sys2Proof

section
variable {s t : State}

/-! ### The exchange of keys (R301) -/

theorem SameEntry.putKx (h : SameEntry s t) (x : Exchange) : SameEntry s (t.putKx x) := by
  have hkey (k : KeySt) : SameEntry s ({ t with key := k } : State) := h.same rfl rfl rfl
  exact (hkey _).setFlag (by decide)

theorem SameEntry.kxFail (h : SameEntry s t) (p why : Nat) : SameEntry s (t.kxFail p why) :=
  ((h.setFld (f := F.KEY_CNT_KXFAIL) (by decide)).setFld (by decide)).setFld (by decide)

theorem SameEntry.engineWorks (h : SameEntry s t) (ms : Nat) : SameEntry s (t.engineWorks ms) := h.same rfl rfl rfl

theorem SameEntry.startKx (h : SameEntry s t) (p : Nat) (fresh : Bool) : SameEntry s (t.startKx p fresh) := by
  have hdrawn : SameEntry s ((t.draw (2 ^ 256)).2.draw (2 ^ 128)).2 := (h.draw _).draw _
  unfold State.startKx
  refine .ite h (.ite (h.kxFail p 3) ?_)
  dsimp only
  exact .pushTx (.engineWorks (hdrawn.putKx _) 24) ..

/-! ### The adopted epoch (R318) -/

theorem SameEntry.storeEpoch (h : SameEntry s t) (e : Nat) : SameEntry s (t.storeEpoch e) := by
  have hkey (k : KeySt) : SameEntry s ({ t with key := k } : State) := h.same rfl rfl rfl
  exact (hkey _).setFld (by decide)

theorem SameEntry.dropAsm (h : SameEntry s t) : SameEntry s t.dropAsm := by
  have hhd (x : HeadSt) : SameEntry s ({ t with hd := x } : State) := h.same rfl rfl rfl
  exact .ite ((hhd _).setFld (by decide)) h

theorem SameEntry.applyCf (h : SameEntry s t) (cf day : Nat) : SameEntry s (t.applyCf cf day) :=
  .trigger (.setLed (.setFld (.setFld h (f := F.LDG_CF_CF) (by decide)) (f := F.LDG_CFDAY_DAY) (by decide)) _) rsnCf

theorem SameEntry.addMuse (h : SameEntry s t) (k : Nat) : SameEntry s (t.addMuse k) :=
  .setLed (.setFld h (f := F.LDG_MUSE_MUSE) (by decide)) _

theorem SameEntry.wantHold (h : SameEntry s t) (cause : Nat) : SameEntry s (t.wantHold cause) := h.same rfl rfl rfl

theorem SameEntry.judgeMachine (h : SameEntry s t) : SameEntry s t.judgeMachine := by
  have hexh : SameEntry s (((t.setFlag F.LDG_MSTAT_MEXH true).report srcMachEx 0).trigger rsnExhaust) :=
    .trigger (.report (h.setFlag (by decide)) srcMachEx 0) rsnExhaust
  unfold State.judgeMachine
  exact .ite (.ite ((hexh.msgAll 56 _).wantHold 5) hexh) h

theorem SameEntry.applyMachine (h : SameEntry s t) (x : Epoch) (b : List Byte) : SameEntry s (t.applyMachine x b) := by
  unfold State.applyMachine
  extract_lets +onlyGivenNames n since src u
  have huse : SameEntry s u := .addMuse (.setLed (.setFld h (f := F.LDG_MUSE_MUSE) (by decide)) _) since
  clear_value u
  extract_lets +onlyGivenNames v
  have hlimit : SameEntry s v := .judgeMachine (.trigger (.setFld huse (f := F.LDG_MLIMIT_MLIMIT) (by decide)) rsnLimit)
  exact .ite (hlimit.applyCf ..) hlimit

theorem SameEntry.applyTower (h : SameEntry s t) (b : List Byte) : SameEntry s (t.applyTower b) := by
  have he (k : Nat) : 0x1481 + 4 * k ≠ 0x100 := by omega
  have hn (k : Nat) : 0x1482 + 4 * k ≠ 0x100 := by omega
  have hoff (k : Nat) : 0x1483 + 4 * k ≠ 0x100 := by omega
  exact .setFld (.setFld (.setFld (.setFld (.setFld (.setFld h (hn _)) (hn _)) (he _)) (hn _)) (hoff _)) (he _)

theorem SameEntry.applyEpoch (h : SameEntry s t) (x : Epoch) : SameEntry s (t.applyEpoch x) := by
  unfold State.applyEpoch
  extract_lets +onlyGivenNames machine
  have hmachine : SameEntry s machine := by
    unfold machine
    split
    · exact h.applyMachine x _
    · exact h
  clear_value machine
  extract_lets +onlyGivenNames src reports
  have hreports : SameEntry s reports := by
    unfold reports
    split
    · exact hmachine.setLed _
    · exact hmachine
  clear_value reports
  extract_lets +onlyGivenNames towers
  have htowers : SameEntry s towers := by
    unfold towers
    split
    · exact hreports.foldl (fun v b => (SameEntry.refl v).applyTower b) _
    · exact hreports
  clear_value towers
  extract_lets +onlyGivenNames axis
  have haxis : SameEntry s axis := by
    unfold axis
    split
    · exact htowers.setFld (by decide)
    · exact htowers
  clear_value axis
  extract_lets +onlyGivenNames geo
  have hgeo : SameEntry s geo := haxis.same rfl rfl rfl
  clear_value geo
  split
  · exact (hgeo.sramPut ..).sramPut ..
  · exact hgeo

/-! ### The takeover (R318) -/

theorem SameEntry.takeover (h : SameEntry s t) : SameEntry s t.takeover := by
  unfold State.takeover
  extract_lets +onlyGivenNames ea e shown dropped late
  have hshown : SameEntry s shown :=
    .setFld (.setFld (h.storeEpoch e) (f := F.SYS_ROLE_ROLE) (by decide)) (f := F.SYS_HEAD_STAT_TAKEOVERS) (by decide)
  have hdropped : SameEntry s dropped := .dropAsm (hshown.setFlag (by decide))
  extract_lets +onlyGivenNames adopted
  have hadopted : SameEntry s adopted := by
    unfold adopted
    split
    · exact .ite hdropped (hdropped.applyEpoch _)
    · exact hdropped
  clear_value adopted
  extract_lets +onlyGivenNames told sending
  have htold : SameEntry s told :=
    .ite (.report (.raise (.setFld hadopted (f := F.LDG_MUSE_MUSE) (by decide)) (by decide)) srcHeadLost 0) hadopted
  have hsending : SameEntry s sending := .ite (htold.setFlag (by decide)) htold
  exact hsending.same rfl rfl rfl

/-! ### The role (R22, R310, R312) -/

theorem SameEntry.adoptEntry (h : SameEntry s t) : SameEntry s t.adoptEntry := by
  unfold State.adoptEntry
  split
  · exact ((h.setFld (f := F.SYS_ROLE_ADDR) (by decide)).setFlag (by decide)).setFlag (by decide)
  · exact h

theorem SameEntry.takeRole (h : SameEntry s t) : SameEntry s t.takeRole := by
  have hspan : SameEntry s ((t.adoptEntry.setFld F.SYS_ROLE_ROLE roleSpan).setFld F.SYS_HEAD_EPOCH_EPOCH t.adoptEntry.key.epoch) :=
    (h.adoptEntry.setFld (by decide)).setFld (by decide)
  have hwait (v : State) (hv : SameEntry s v) (x : HeadSt) (p : Nat) : SameEntry s (({ v with hd := x } : State).startKx p true) :=
    (hv.same rfl rfl rfl : SameEntry s ({ v with hd := x } : State)).startKx p true
  unfold State.takeRole
  refine .ite hspan ?_
  split
  · exact hspan.takeover
  · exact hwait _ hspan _ _

end

end Sys2Proof.Machine
end
section
/-! PROOF. The end of BOOT (R374, R375, R379, R428): the mode it leaves for, and what the rest of its commands leave. -/

namespace Sys2Proof.Machine

open Sys2Proof

section
variable {s t : State}

/-! ### Before BOOT is left -/

theorem SameEntry.storeBinding (h : SameEntry s t) : SameEntry s t.storeBinding := by
  have hkey (k : KeySt) : SameEntry s ({ t with key := k } : State) := h.same rfl rfl rfl
  unfold State.storeBinding
  split
  · exact h
  · exact .setFld (.setFld (.setFlag (hkey _) (by decide)) (f := F.KEY_OWNIDH_OWNID) (by decide))
      (f := F.KEY_OWNIDL_OWNID) (by decide)

theorem SameEntry.planWords (n a : Nat) (h : SameEntry s t) : SameEntry s (State.planWords n a t).2 := by
  induction n generalizing a t with
  | zero => exact h
  | succ n ih =>
    have hread := h.sramRead a reqPlanner
    have hrest := ih (a + 1) hread
    unfold State.planWords
    dsimp only
    split
    · exact hread
    · split
      · next e => rw [e] at hrest; exact hrest
      · next e => rw [e] at hrest; exact hrest

theorem SameEntry.of_planWords {n a : Nat} {x : Option (List Word) × State} (h : SameEntry s t) (e : State.planWords n a t = x) :
    SameEntry s x.2 := e ▸ h.planWords n a

theorem SameEntry.checkBank (h : SameEntry s t) (b : Nat) : SameEntry s (t.checkBank b).2 := by
  unfold State.checkBank
  split
  · next e => exact h.of_planWords e
  · next e =>
    have hhead := h.of_planWords e
    dsimp only
    split
    · split
      · next e => exact hhead.of_planWords e
      · next e => exact hhead.of_planWords e
    · exact hhead

theorem SameEntry.of_checkBank (h : SameEntry s t) {b : Nat} {x : Bool × State} (e : t.checkBank b = x) : SameEntry s x.2 :=
  e ▸ h.checkBank b

theorem SameEntry.activate (h : SameEntry s t) (b : Nat) (valid : Bool) : SameEntry s (t.activate b valid) := by
  have hplan (v : State) (hv : SameEntry s v) (p : PlanSt) : SameEntry s ({ v with plan := p } : State) := hv.same rfl rfl rfl
  exact hplan _ ((h.setFld (f := F.PLN_MAP_BANK) (by decide)).setFld (f := F.PLN_MAP_MAPID) (by decide)) _

theorem SameEntry.chooseBank (h : SameEntry s t) : SameEntry s t.chooseBank := by
  unfold State.chooseBank
  split
  · exact (h.checkBank 0).activate 0 _
  · split
    · exact h.activate 0 false
    · split
      · next e => exact (h.of_checkBank e).activate 0 true
      · next e =>
        have hfirst := h.of_checkBank e
        split
        · next e => exact (hfirst.of_checkBank e).activate 1 true
        · next e => exact (hfirst.of_checkBank e).activate 0 false

theorem SameEntry.setQueue (h : SameEntry s t) (q : Nat) (x : QueueSt) : SameEntry s (t.setQueue q x) := h.same rfl rfl rfl

theorem SameEntry.openQueues (h : SameEntry s t) : SameEntry s t.openQueues := by
  have hopen (v : State) (q : Nat) : SameEntry v (v.update (F.EVS_Qn_CTL_EN q) 1) := by
    have hen : 0x642 + 4 * q ≠ 0x100 := by omega
    exact ((SameEntry.refl v).setFld (f := F.EVS_Qn_CTL_EN q) (x := 1) hen).same rfl rfl rfl
  exact h.foldl (fun v q => (hopen v q).setQueue q _) _

theorem SameEntry.outputsUp (h : SameEntry s t) : SameEntry s t.outputsUp := h.foldl (fun v k => (SameEntry.refl v).driveSafe k) _

/-! ### BOOT is left (R379) -/

/-- MOD_STAT shows mode `m`, entered from BOOT, with cause 0. -/
def State.showFirst (s : State) (m : Nat) : State :=
  ((s.setFld F.MOD_STAT_PREV modeBoot).setFld F.MOD_STAT_MODE m).setFld F.MOD_STAT_CAUSE 0

theorem State.showFirst_facts (s : State) {m : Nat} (hm : m < 8) : (s.showFirst m).modeNow = m ∧
    (s.showFirst m).fld F.MOD_STAT_PREV = modeBoot ∧ (s.showFirst m).fld F.MOD_STAT_CAUSE = 0 ∧
      (s.showFirst m).ctl = s.ctl ∧ (s.showFirst m).boot = s.boot := by
  refine ⟨?_, ?_, State.fld_setFld_same _ F.MOD_STAT_CAUSE 0 rfl, rfl, rfl⟩
  · exact ((State.fld_setFld_disj _ F.MOD_STAT_CAUSE F.MOD_STAT_MODE 0 rfl (by decide)).trans
      (State.fld_setFld_same _ F.MOD_STAT_MODE m rfl)).trans (Nat.mod_eq_of_lt hm)
  · exact ((State.fld_setFld_disj _ F.MOD_STAT_CAUSE F.MOD_STAT_PREV 0 rfl (by decide)).trans
      (State.fld_setFld_disj _ F.MOD_STAT_MODE F.MOD_STAT_PREV m rfl (by decide))).trans
      (s.fld_setFld_same F.MOD_STAT_PREV modeBoot rfl)

/-- BOOT is left for HOLD, UNIFORM or DORMANT. -/
theorem State.firstMode_cases (s : State) :
    s.firstMode.1 = modeHold ∨ s.firstMode.1 = modeUniform ∨ s.firstMode.1 = modeDormant := by
  unfold State.firstMode
  dsimp only
  split
  · exact .inl rfl
  · split
    · exact .inl rfl
    · split
      · next h =>
        simp only [Bool.or_eq_true, decide_eq_true_eq] at h
        exact .inr h
      · exact .inl rfl

theorem State.firstMode_lt (s : State) : s.firstMode.1 < 8 := by
  obtain h | h | h := s.firstMode_cases <;> rw [h] <;> decide

theorem State.leaveBoot_sameEntry (s : State) : SameEntry (s.showFirst s.firstMode.1) s.leaveBoot := by
  unfold State.leaveBoot
  split
  next m defp limp e =>
  rw [e]
  extract_lets +onlyGivenNames shown pend
  have hpend : SameEntry (s.showFirst m) pend :=
    .setStat (.setStat (.refl (s.showFirst m)) (f := F.MOD_STAT_DEFPEND) rfl (by decide)) (f := F.MOD_STAT_LIMPPEND) rfl (by decide)
  clear_value pend
  extract_lets +onlyGivenNames src src' u w
  have hu : SameEntry (s.showFirst m) u := hpend.same rfl rfl rfl
  have hw : SameEntry (s.showFirst m) w := hu.stagesForMode.startPlan _
  exact .ite hw.beginDormant hw

/-! ### END_OF_BOOT -/

/-- The instant BOOT ends, with its duration shown. -/
def State.bootEnds (s : State) : State :=
  let u := (s.draw (msClocks 1)).2.advCcTo (s.boot.at_ + (s.draw (msClocks 1)).1 + 1)
  u.setFld F.MOD_BOOT_BOOTT (min 65535 (freeRound 70 (((u.clk.cc - u.boot.start) * 1000 : Nat) : Int) (2 ^ 27)).toNat)

/-- Bit k of `x` is 1 when AIkM senses current mode (R437). -/
def State.noteAnalog (s : State) (x : Nat) : State := { s with ctl := { s.ctl with aiMode := x } }

/-- What the node prepares before it leaves BOOT. -/
def State.prepared (s : State) : State := (s.trigger rsnBoot).storeBinding.chooseBank.openQueues.outputsUp

/-- A commit that waits starts, and the port takes up its next job. -/
def State.resumeWork (s : State) : State := (if s.led.pend && s.led.stage = 0 then s.startCommit else s).nextJob

/-- What END_OF_BOOT does in its step. -/
def State.endBoot (s : State) (x : Nat) : State := (s.bootEnds.noteAnalog x).prepared.leaveBoot.takeRole.resumeWork

theorem State.bootEnds_sameEntry (s : State) : SameEntry s s.bootEnds :=
  (((SameEntry.refl s).draw _).advCcTo _).setFld (by decide)

theorem SameEntry.prepared (h : SameEntry s t) : SameEntry s t.prepared := (h.trigger rsnBoot).storeBinding.chooseBank.openQueues.outputsUp

theorem SameEntry.resumeWork (h : SameEntry s t) : SameEntry s t.resumeWork := .nextJob (.ite h.startCommit h)

end

/-- END_OF_BOOT in its step. -/
theorem exec_endOfBoot (s : State) (m : BitVec 8) (hrun : s.boot.halted = false) (hmode : s.modeNow = modeBoot)
    (hstep : s.fld F.MOD_BOOT_STEP = 6) : exec (.endOfBoot m) s = .next (s.endBoot m.toNat) := by
  have hgo : ¬ (!(s.modeNow = modeBoot && s.fld F.MOD_BOOT_STEP = 6)) = true := by simp [hmode, hstep]
  show execEndOfBoot m s = _
  rw [execEndOfBoot, s.clocked_running _ hrun]
  refine (if_neg hgo).trans ?_
  rfl

theorem endOfBoot_facts (s : State) (x : Nat) : ∀ t, t = s.endBoot x →
    (t.modeNow = modeHold ∨ t.modeNow = modeUniform ∨ t.modeNow = modeDormant) ∧ t.fld F.MOD_STAT_PREV = modeBoot ∧
      t.fld F.MOD_STAT_CAUSE = 0 ∧ t.ctl.aiMode = x ∧ t.boot.start = s.boot.start := by
  rintro t rfl
  have hready : SameEntry (s.bootEnds.noteAnalog x) (s.bootEnds.noteAnalog x).prepared := (SameEntry.refl _).prepared
  have hstart : (s.bootEnds.noteAnalog x).boot.start = s.boot.start := s.bootEnds_sameEntry.start
  unfold State.endBoot
  generalize hu : (s.bootEnds.noteAnalog x).prepared = u at hready ⊢
  have hleft : SameEntry (u.showFirst u.firstMode.1) u.leaveBoot.takeRole.resumeWork := u.leaveBoot_sameEntry.takeRole.resumeWork
  obtain ⟨hmode, hprev, hcause, hctl, hboot⟩ := u.showFirst_facts u.firstMode_lt
  have hnow : u.leaveBoot.takeRole.resumeWork.modeNow = u.firstMode.1 := (hleft.shown F.MOD_STAT_MODE (by decide)).trans hmode
  refine ⟨by rw [hnow]; exact u.firstMode_cases, (hleft.shown F.MOD_STAT_PREV (by decide)).trans hprev,
    (hleft.shown F.MOD_STAT_CAUSE (by decide)).trans hcause, ?_, ?_⟩
  · rw [hleft.analog, hctl, hready.analog]
    rfl
  · rw [hleft.start, hboot, hready.start, hstart]

end Sys2Proof.Machine

namespace Sys2Proof.Proofs

open Sys2Proof Sys2Proof.Machine

/-- Settles O13: the scan loads the record of the best slot or starts afresh (`ledgerScan_facts`), and nothing after MOD_STAT shows
the mode entered from BOOT changes that entry (`SameEntry`). -/
theorem ledgerScanAndEndOfBoot : Obligations.LedgerScanAndEndOfBoot := by
  unfold Obligations.LedgerScanAndEndOfBoot
  intro s hrun hmode
  refine ⟨fun hstep => ?scan, fun m hstep => ⟨_, exec_endOfBoot s m hrun hmode hstep, endOfBoot_facts s m.toNat _ rfl⟩⟩
  obtain ⟨hnext, hat, hcc, hraw, hflash, hloads, hfresh⟩ := ledgerScan_facts s _ rfl
  refine ⟨_, exec_ledgerScan s hrun hmode hstep, hnext, hat, hcc, hraw, hflash, ?_⟩
  cases h : s.bestSlot with
  | none => exact hfresh h
  | some kb => exact hloads kb.1 kb.2 h

end Sys2Proof.Proofs
end
